-- ==== Sys2Proof/Word.lean ====
section
/-! DEFINITION. The plainest words and number helpers of the model: bytes, halfwords, the numbered
things of section 4.2 (seats, channels, sockets, screens, slots, inputs), clamping, and the
fixed-length tables (`Vector`) with the one way the model maps over them. -/

namespace Sys2Proof

/-- A byte of a frame, a payload or the plan image. -/
abbrev Byte := BitVec 8

/-- A two-byte field, high byte first on every line (R3, R197). -/
abbrev Half := BitVec 16

/-- Seat s of the spec (1 to 20) is index s - 1. -/
abbrev SeatId := Fin 20

/-- Sensing channel, numbered as in the spec (R15). -/
abbrev ChannelId := Fin 41

/-- Presentation socket n of the spec (1 to 8) is index n - 1. -/
abbrev SocketId := Fin 8

/-- Screen n of the spec (1 to 4) is index n - 1. -/
abbrev ScreenId := Fin 4

/-- Microphone slot, numbered as in the spec: 0 is the chair slot, 1 to 6 the delegate slots. -/
abbrev SlotId := Fin 7

/-- Video input, numbered as in the spec: 0 BLANK, 1 to 8 the sockets, 9 the room PC, 10 the codec. -/
abbrev Input := Fin 11

/-- Section 4.1, "clamps": a value outside lo to hi is moved to the nearest end. -/
def clamp (lo hi n : Nat) : Nat := if n < lo then lo else if hi < n then hi else n

/-- A quotient truncated toward zero (section 4.1). -/
def quotient (a : Int) (b : Nat) : Int := Int.tdiv a (Int.ofNat b)

/-- The table whose entry i is f i of the entry i of v. -/
def mapTable (f : Fin n → α → β) (v : Vector α n) : Vector β n := Vector.ofFn fun i => f i (v.get i)

/-- The table v with entry i replaced. -/
def setEntry (v : Vector α n) (i : Fin n) (x : α) : Vector α n := v.set i x

/-- The low eight bits of a number, as a byte. -/
def byteOf (n : Nat) : Byte := BitVec.ofNat 8 n

/-- A yes / no value as a number: 0 for no, 1 for yes (R197). -/
def yesNo (b : Bool) : Nat := if b then 1 else 0

/-- The order in which the members of a collection are taken: the members that `first` names, in that
order, then every other member of `all` in its own order. Whatever `first` holds, every member is
taken exactly once. -/
def takenOrder [DecidableEq α] (first all : List α) : List α :=
  let named := first.foldl (fun acc x => if x ∈ acc then acc else acc ++ [x]) []
  named.filter (· ∈ all) ++ all.filter (· ∉ named)

end Sys2Proof
end

