-- ==== Sys2Proof/Syntax.lean ====
section
/-! DEFINITION. The commands: one constructor of `Instr` for each row of spec/opcode_table.json, with the
operands the spec gives the row. The part has no instruction encoding (the table gives no row any bits): a
command is an event at the part's pins or in its time bases, or a request of one of its three ports. -/

namespace Sys2Proof

/-- The three ports (section 1): chair console (SPI), room controller (UART) and AV controller (I2C). -/
inductive Port where
  | chair | room | av
  deriving DecidableEq, Repr

/-- The two ports on which a response waits for a read (R183). -/
inductive SerialPort where
  | chair | av
  deriving DecidableEq, Repr

/-- An edge of a socket's sync line; also the active edge of the capture settings (R111). -/
inductive Edge where
  | rising | falling
  deriving DecidableEq, Repr

/-- The levels of the five strap pins at a release of reset (R1); bit 1 of a pair is the first pin. -/
structure StrapPins where
  seatCount : BitVec 2
  linkRate  : BitVec 2
  indStyle  : Bool
  deriving DecidableEq, Repr

/-- What the serial EEPROM gives a load (R5): no acknowledge on three attempts, a read that stops before
its end, or the 512 bytes read. -/
inductive EepromRead where
  | absent
  | stopped
  | image (bytes : List Byte)
  deriving DecidableEq, Repr

/-- The blocks that take the second event (R142). -/
inductive ClockUser where
  | flc | smn | ssu | pwu
  deriving DecidableEq, Repr

/-- The fields of BOOKING ENTRY, in payload order (R147, R197). -/
structure BookingPayload where
  id        : Half
  start     : Half
  stop      : Half
  checkIn   : Byte
  window    : Byte
  quorum    : Byte
  mode      : Byte
  limit     : Byte
  speak     : Half
  enforce   : Byte
  screen    : Byte
  privacy   : Byte
  organiser : Byte
  deriving DecidableEq, Repr

/-- The fields of a profile in PROFILE SET, in payload order (R16, R197). -/
structure ProfilePayload where
  direction  : Byte
  countBeta  : Byte
  activeBeta : Byte
  standbyBeta : Byte
  threshold  : Byte
  hysteresis : Byte
  enter      : Byte
  exit       : Byte
  haltLimit  : Byte
  tracking   : Byte
  sign       : Byte
  target     : Half
  band       : Byte
  deriving DecidableEq, Repr

/-- The commands. Where the spec leaves the order of coinciding happenings open, the command carries
the order in which they are taken (assumption 3). A request row carries the port that makes the request, its
tag and its payload fields as sent; it stands for the serving of that request (assumption 2). -/
inductive Instr where
  /-- POWER_ON_RESET_RELEASE (R11): the strap pins are latched as they stand. -/
  | powerOnResetRelease (pins : StrapPins)
  /-- RESET_PIN_ASSERT (R11). -/
  | resetPinAssert
  /-- RESET_PIN_RELEASE (R11): the strap pins are latched as they stand. -/
  | resetPinRelease (pins : StrapPins)
  /-- LOAD_END (R5): what the EEPROM gave. -/
  | loadEnd (eeprom : EepromRead)
  /-- SENSING_FRAME (R20): the front end's reading on each channel 0 to 40 at the setting it measures at;
  the channels whose updates are taken first (R20, R45); and whether the press timers count before the
  channels' updates or after them. -/
  | sensingFrame (readings : List Nat) (first : List ChannelId) (timersFirst : Bool)
  /-- HALT_LIMIT_RESEED (R28). -/
  | haltLimitReseed (channel : ChannelId)
  /-- BAND_CHECK_RETUNE_START (R35). -/
  | bandCheckRetuneStart (channel : ChannelId)
  /-- RETUNE_COMPLETION (R33). -/
  | retuneCompletion (channel : ChannelId)
  /-- ABSENCE_GRACE_EXPIRY (R48). -/
  | absenceGraceExpiry (seat : SeatId)
  /-- CHAIR_NEXT (R56). -/
  | chairNext
  /-- GAIN_FRAME (R95): the slots whose reaching FREE is taken first (R89), and whether the settle timers
  count before the slots' work or after it (R140). -/
  | gainFrame (first : List SlotId) (settlesLast : Bool)
  /-- REFUSED_TIMER_EXPIRY (R104). -/
  | refusedTimerExpiry (seat : SeatId)
  /-- EDGE_TAKEN (R114): the socket, the kind of edge of its line, the capture ticks since the socket's
  counter was last brought up to date, the time in microseconds the line has held the level the edge
  reached (R113), and whether an overflow at that same tick is taken before the edge (R115). -/
  | edgeTaken (socket : SocketId) (edge : Edge) (ticks : Nat) (levelHeld : Nat) (overflowFirst : Bool)
  /-- CAPTURE_OVERFLOW (R115): the socket's counter reaches 65535. -/
  | captureOverflow (socket : SocketId)
  /-- SETTLE_END (R133). -/
  | settleEnd (screen : ScreenId)
  /-- SECOND_EVENT (R142): the blocks that take the event first. -/
  | secondEvent (first : List ClockUser)
  /-- CHECK_COMPLETION (R155). -/
  | checkCompletion
  /-- AWAIT_WINDOW_EXPIRY (R166). -/
  | awaitWindowExpiry
  /-- VACANCY_TIMEOUT (R168). -/
  | vacancyTimeout
  /-- WALK_IN_DWELL_EXPIRY (R170). -/
  | walkInDwellExpiry
  /-- QUIET_TIMER_EXPIRY (R199). -/
  | quietTimerExpiry
  /-- SETTLE_COMPLETE (R202). -/
  | settleComplete
  /-- SAVE_READ_BACK_MATCH (R14). -/
  | saveReadBackMatch
  /-- SAVE_WRITE_FAILURE (R14). -/
  | saveWriteFailure
  /-- REQUEST_TRANSFER (R183): the bytes the master sent in the transfer. -/
  | requestTransfer (port : SerialPort) (bytes : List Byte)
  /-- RESPONSE_READ (R187): the number of response bytes shifted out. -/
  | responseRead (port : SerialPort) (count : Nat)
  /-- ROOM_LINK_FRAME (R184): the bytes that arrive on the room link, without a gap of more than 50 ms. -/
  | roomLinkFrame (bytes : List Byte)
  /-- ROOM_LINK_GAP_TIMEOUT (R184). -/
  | roomLinkGapTimeout
  /-- REQUEST_ENTERS_SERVICE (R185). -/
  | requestEntersService (port : Port)
  /-- IDENT (R195). -/
  | ident (port : Port) (tag : Byte)
  /-- FLOOR_READ (R90). -/
  | floorRead (port : Port) (tag : Byte)
  /-- SEAT_READ (R61). -/
  | seatRead (port : Port) (tag : Byte) (seat : Byte)
  /-- CHANNEL_READ (R43). -/
  | channelRead (port : Port) (tag : Byte) (channel : Byte)
  /-- SOURCE_READ (R126). -/
  | sourceRead (port : Port) (tag : Byte) (selector : Byte)
  /-- ROUTE_READ (R141). -/
  | routeRead (port : Port) (tag : Byte) (selector : Byte)
  /-- CLOCK_READ (R146). -/
  | clockRead (port : Port) (tag : Byte)
  /-- BANK_READ (R160). -/
  | bankRead (port : Port) (tag : Byte) (bank : Byte) (part : Byte)
  /-- SESSION_READ (R181). -/
  | sessionRead (port : Port) (tag : Byte)
  /-- NOTICE_READ (R191). -/
  | noticeRead (port : Port) (tag : Byte)
  /-- NOTICE_MASK (R192). -/
  | noticeMask (port : Port) (tag : Byte) (mask : Half)
  /-- PORT_RESET (R193). -/
  | portReset (port : Port) (tag : Byte)
  /-- GRANT (R77). -/
  | grant (port : Port) (tag : Byte) (seat : Byte)
  /-- GRANT_NEXT (R78). -/
  | grantNext (port : Port) (tag : Byte)
  /-- CLOSE (R79). -/
  | close (port : Port) (tag : Byte) (seat : Byte)
  /-- CANCEL (R80). -/
  | cancel (port : Port) (tag : Byte) (seat : Byte)
  /-- CANCEL_ALL (R80). -/
  | cancelAll (port : Port) (tag : Byte)
  /-- MUTE_ALL (R81). -/
  | muteAll (port : Port) (tag : Byte)
  /-- SET_MODE (R82). -/
  | setMode (port : Port) (tag : Byte) (mode : Byte)
  /-- SET_LIMIT (R83). -/
  | setLimit (port : Port) (tag : Byte) (limit : Byte)
  /-- SET_SPEAK_LIMIT (R84). -/
  | setSpeakLimit (port : Port) (tag : Byte) (limit : Half) (enforce : Byte)
  /-- PRESS (R85). -/
  | press (port : Port) (tag : Byte) (seat : Byte)
  /-- END (R169). -/
  | endSession (port : Port) (tag : Byte)
  /-- CLOCK_SET (R143). -/
  | clockSet (port : Port) (tag : Byte) (day : Half) (minute : Half) (second : Byte)
  /-- BANK_OPEN (R151). -/
  | bankOpen (port : Port) (tag : Byte) (day : Half) (count : Byte) (auto : Byte)
  /-- BOOKING_ENTRY (R152). -/
  | bookingEntry (port : Port) (tag : Byte) (entry : BookingPayload)
  /-- BANK_PUBLISH (R153). -/
  | bankPublish (port : Port) (tag : Byte)
  /-- BANK_ABANDON (R154). -/
  | bankAbandon (port : Port) (tag : Byte)
  /-- BOOKING_CANCEL (R157). -/
  | bookingCancel (port : Port) (tag : Byte) (booking : Half)
  /-- EXTEND (R158). -/
  | extend (port : Port) (tag : Byte) (minute : Half)
  /-- SUMMARY_READ (R179). -/
  | summaryRead (port : Port) (tag : Byte) (part : Byte)
  /-- SUMMARY_RELEASE (R180). -/
  | summaryRelease (port : Port) (tag : Byte) (number : Half)
  /-- PROFILE_SET (R18). -/
  | profileSet (port : Port) (tag : Byte) (profile : Byte) (fields : ProfilePayload)
  /-- PATTERN_SET (R108). -/
  | patternSet (port : Port) (tag : Byte) (state : Byte) (red : Byte) (green : Byte) (light : Byte)
  /-- POLARITY_SET (R109). -/
  | polaritySet (port : Port) (tag : Byte) (red : Byte) (green : Byte) (light : Byte)
  /-- RETUNE (R36). -/
  | retune (port : Port) (tag : Byte) (scope : Byte) (force : Byte)
  /-- PLAN_SAVE (R13). -/
  | planSave (port : Port) (tag : Byte)
  /-- TABLE_RESET (R194). -/
  | tableReset (port : Port) (tag : Byte)
  /-- STANDBY_ENTER (R200). -/
  | standbyEnter (port : Port) (tag : Byte)
  /-- ROUTE_SET (R138). -/
  | routeSet (port : Port) (tag : Byte) (screen : Byte) (mode : Byte) (fixedSource : Byte) (followed : Byte) (fallback : Byte) (privacy : Byte)
  /-- RATE_SET (R117). -/
  | rateSet (port : Port) (tag : Byte) (entry : Byte) (nominal : Half) (tolerance : Half) (classId : Byte) (minWidth : Half) (maxWidth : Half)
  /-- COUNT_SET (R118). -/
  | countSet (port : Port) (tag : Byte) (agree : Byte) (drop : Byte)
  /-- CAPTURE_SET (R112). -/
  | captureSet (port : Port) (tag : Byte) (socket : Byte) (enable : Byte) (edge : Byte) (filter : Byte)
  /-- INPUT_PRESENT (R122). -/
  | inputPresent (port : Port) (tag : Byte) (input : Byte) (present : Byte)
  /-- GAIN_SET (R92). -/
  | gainSet (port : Port) (tag : Byte) (ceiling : Half) (rise : Byte) (fall : Byte) (duck : Byte) (ducking : Byte)
  /-- POWER_ON_RESET_ASSERT (R14): a loss of supply. -/
  | powerOnResetAssert
  /-- ROOM_LINK_FRAMING_ERROR (R184). -/
  | roomLinkFramingError
  /-- ROOM_LINK_LENGTH_ABOVE_64 (R184): the length byte received. -/
  | roomLinkLengthAbove64 (length : Byte)
  deriving DecidableEq, Repr

end Sys2Proof
end

