-- ==== Sys2Proof/Decode.lean ====
section
/-! DEFINITION. Decoding of table words. The table gives no row any bits, because the part takes events and requests and
fetches no instruction, so no word spells a command. The frames of the ports are decoded by the port block
(Machine/Ports.lean). -/

namespace Sys2Proof

/-- The command that a word of the opcode table spells: none, since no row has bits. -/
def decodeTableWord (_nbits _w : Nat) : Option Instr := none

end Sys2Proof
end

