-- ==== Sys2Proof/Machine/Records.lean ====
section
/-! DEFINITION. The part's state as plain data, block by block (section 2 of the introduction). `Part` holds
everything the spec gives the part; `State` (Machine/State.lean) adds the queue of waiting commands. -/

namespace Sys2Proof.Machine

/-! ### Named values -/

/-- Role of a seat (R2). -/
inductive Role where
  | delegate | chair
  deriving DecidableEq, Repr

/-- Direction of a profile (R16). -/
inductive Direction where
  | fall | rise
  deriving DecidableEq, Repr

/-- Tracking sign of a profile (R16). -/
inductive Sign where
  | same | opposite
  deriving DecidableEq, Repr

/-- State of a sensing channel (R15). -/
inductive ChanState where
  | off | tuning | idle | entering | active | leaving | fault
  deriving DecidableEq, Repr

/-- Outcome of a channel as SMN sees it (R15). -/
inductive Sensed where
  | inactive | active | fault
  deriving DecidableEq, Repr

/-- Cause of a report of SFE (R25). -/
inductive ReportCause where
  | debounce | reseed | retune | standby
  deriving DecidableEq, Repr

/-- Result of the last completed retune (R17). -/
inductive RetuneResult where
  | none | good | outOfBand
  deriving DecidableEq, Repr

/-- Kind of a channel, and the profile it uses (R15). -/
inductive ProfileKind where
  | key | proximity | reference
  deriving DecidableEq, Repr

/-- Presence of a seat (R46). -/
inductive Presence where
  | vacant | occupied | away | unknown
  deriving DecidableEq, Repr

/-- Key state of a seat (R46). -/
inductive KeyState where
  | up | down
  deriving DecidableEq, Repr

/-- Press mark of a seat (R46). -/
inductive PressMark where
  | none | accepted | stray
  deriving DecidableEq, Repr

/-- Floor mode (R62). -/
inductive FloorMode where
  | direct | queue | override | chair
  deriving DecidableEq, Repr

/-- State of a microphone slot (R91). -/
inductive SlotState where
  | free | opening | live | closing
  deriving DecidableEq, Repr

/-- Warned mark of a slot (R87). -/
inductive Warned where
  | none | warn | over
  deriving DecidableEq, Repr

/-- Close reason of a slot (R69), in the order of the rule. -/
inductive SlotReason where
  | self | chair | mute | time | absent | override | limit | floorClosed
  deriving DecidableEq, Repr

/-- Indication state of a seat, in the order of R103. -/
inductive Indication where
  | off | refused | opening | over | warn | live | closing | next | request | closed | vacant | idle
  deriving DecidableEq, Repr

/-- Pattern of one output (R105). -/
inductive Pattern where
  | off | on | slow | fast
  deriving DecidableEq, Repr

/-- Polarity of one output (R106). -/
inductive Polarity where
  | activeHigh | activeLow
  deriving DecidableEq, Repr

/-- Phase of a socket's measurement (R111). -/
inductive CapturePhase where
  | waitFirst | waitInactive | waitActive
  deriving DecidableEq, Repr

/-- Source state of a socket (R119). -/
inductive SourceState where
  | none | seeking | live | dropping
  deriving DecidableEq, Repr

/-- Class of a socket or of a measurement (R111, R116). -/
inductive SourceClass where
  | none
  | id (n : Nat)
  | unsupported
  deriving DecidableEq, Repr

/-- Mode of a screen (R127). -/
inductive ScreenMode where
  | fixed | followSpeaker | followScreen | blank
  deriving DecidableEq, Repr

/-- Settle state of a screen (R127). -/
inductive SettleState where
  | steady | settling
  deriving DecidableEq, Repr

/-- Role of a bank (R150). -/
inductive BankRole where
  | published | staging
  deriving DecidableEq, Repr

/-- State of a bank (R150). -/
inductive BankState where
  | empty | filling | checking | ready | faulty | published
  deriving DecidableEq, Repr

/-- Fault cause of a bank (R150). -/
inductive BankFault where
  | none | range | over | overlap
  deriving DecidableEq, Repr

/-- Status of a booking entry (R148). -/
inductive EntryStatus where
  | pending | active | done | released | missed | cancelled
  deriving DecidableEq, Repr

/-- Kind of a session (R161). -/
inductive SessionKind where
  | booked | walkIn
  deriving DecidableEq, Repr

/-- State of a session (R161). -/
inductive SessionState where
  | awaiting | inSession | ending | overtime | windup
  deriving DecidableEq, Repr

/-- Close reason of a session (R161). -/
inductive CloseReason where
  | ended | vacated | released | chair | cancelled | preempted | reset
  deriving DecidableEq, Repr

/-- Power state (R198). -/
inductive PowerState where
  | active | standby | waking
  deriving DecidableEq, Repr

/-- Load outcome (R10). -/
inductive LoadOutcome where
  | none | plan | default
  deriving DecidableEq, Repr

/-- Last save result (R10). -/
inductive SaveResult where
  | none | saved | writeFailed
  deriving DecidableEq, Repr

/-- How far the part is from reset: supply lost, the RESET pin held, stages 1 and 2 of start-up (R11: the
load runs), stage 3 (the start-up retunes run), and from stage 4 on. -/
inductive Stage where
  | unpowered | held | loading | retuning | running
  deriving DecidableEq, Repr

/-- Request status codes, in the order of section 4.4 (R197). -/
inductive Status where
  | done | notPermitted | badRequest | range | state | busy | full | short | over | overlap
  deriving DecidableEq, Repr

/-- Phase of the room link's receiver (R182). -/
inductive RxPhase where
  | hunt | header | payload | sum
  deriving DecidableEq, Repr

/-! ### SFE: sensing -/

/-- A sensing profile (R16). -/
structure Profile where
  direction   : Direction
  countBeta   : Nat
  activeBeta  : Nat
  standbyBeta : Nat
  threshold   : Nat
  hysteresis  : Nat
  enter       : Nat
  exit        : Nat
  haltLimit   : Nat
  tracking    : Nat
  sign        : Sign
  target      : Nat
  band        : Nat
  deriving DecidableEq, Repr

/-- A channel's record (R17). `tune` is the setting found by the last completed retune; `kept`, `trial` and
`best` are the search of a retune in progress (R32), `trial` the setting of the last search step.
`firstWake` marks a key channel whose first WAKING frame has not run yet (R42, R202). `haltTested` is the halt limit that the
last halted frame tested the halt timer against (R28), so that a limit lowered since then is not taken as tested (R19). -/
structure Channel where
  enabled   : Bool
  state     : ChanState
  tune      : Nat
  raw       : Nat
  saturated : Bool
  filtered  : Nat
  lta       : Nat
  delta     : Nat
  level     : Nat
  release   : Nat
  haltLevel : Nat
  debounce  : Nat
  haltTimer : Nat
  bandCount : Nat
  pending   : Bool
  step      : Nat
  held      : Sensed
  result    : RetuneResult
  kept      : Nat
  trial     : Nat
  best      : Option (Nat × Nat)
  firstWake : Bool
  haltTested : Nat
  deriving DecidableEq, Repr

/-- The sense front end (R15 to R17, R20). -/
structure Sfe where
  channels  : Vector Channel 41
  key       : Profile
  proximity : Profile
  reference : Profile
  frame     : Nat
  deriving DecidableEq, Repr

/-! ### SMN: seats -/

/-- The counters of the meeting in progress (R46). -/
structure Counters where
  occupied : Nat
  speaking : Nat
  requests : Nat
  grants   : Nat
  refused  : Nat
  stray    : Nat
  deriving DecidableEq, Repr

/-- A seat record: the fixed fields of R2 and the live fields of R46. -/
structure Seat where
  installed        : Bool
  role             : Role
  socket           : Option SocketId
  presenceRequired : Bool
  priority         : Bool
  presence  : Presence
  absence   : Nat
  key       : KeyState
  press     : Nat
  mark      : PressMark
  nextTaken : Bool
  counters  : Counters
  deriving DecidableEq, Repr

/-- The seat monitor (R46, R51) and the absence grace of the plan. -/
structure Smn where
  seats    : Vector Seat 20
  occupied : Nat
  grace    : Nat
  deriving DecidableEq, Repr

/-! ### FLC: the floor -/

/-- An entry of the request queue (R65). -/
structure QueueEntry where
  seat     : SeatId
  priority : Bool
  override : Bool
  number   : BitVec 16
  second   : BitVec 16
  deriving DecidableEq, Repr

/-- A floor preset: floor mode, open-microphone limit, speaking limit and enforce (section 5). -/
structure FloorPreset where
  mode    : FloorMode
  limit   : Nat
  speak   : Nat
  enforce : Bool
  deriving DecidableEq, Repr

/-- The floor record (R62). `preset` is the default floor preset of the last load (R10, R64). -/
structure Flc where
  mode       : FloorMode
  limit      : Nat
  speak      : Nat
  enforce    : Bool
  lead       : Nat
  isOpen     : Bool
  queue      : List QueueEntry
  nextNumber : BitVec 16
  seconds    : BitVec 16
  openOrder  : List SlotId
  preset     : FloorPreset
  deriving DecidableEq, Repr

/-! ### SGU: slots, gain and indication -/

/-- A microphone slot (R91). -/
structure Slot where
  state   : SlotState
  holder  : Option SeatId
  gain    : Nat
  target  : Nat
  elapsed : Nat
  warned  : Warned
  reason  : Option SlotReason
  deriving DecidableEq, Repr

/-- The gain settings (R92). -/
structure GainSettings where
  ceiling : Nat
  rise    : Nat
  fall    : Nat
  duck    : Nat
  ducking : Bool
  deriving DecidableEq, Repr

/-- One entry of the pattern table (R105). -/
structure PatternEntry where
  red   : Pattern
  green : Pattern
  light : Pattern
  deriving DecidableEq, Repr

/-- The polarities of the three outputs (R106). -/
structure Polarities where
  red   : Polarity
  green : Polarity
  light : Polarity
  deriving DecidableEq, Repr

/-- The slot and gain unit. `bus` is the message that went out at the last gain frame (R101), none while
the gain bus is quiet (R110) or before the first gain frame. -/
structure Sgu where
  slots      : Vector Slot 7
  gain       : GainSettings
  patterns   : Vector PatternEntry 12
  polarity   : Polarities
  refused    : Vector Nat 20
  blink      : Nat
  released   : List SeatId
  indication : Vector Indication 20
  bus        : Option (List (SeatId × Nat))
  deriving DecidableEq, Repr

/-! ### SCU: sources -/

/-- A socket's capture record (R111). `lastEdge` is the edge that led to the level of the filtered line, none
while no edge has come since capture started; the alternation of R113 needs it. -/
structure Socket where
  enable   : Bool
  edge     : Edge
  filter   : Nat
  counter  : Nat
  phase    : CapturePhase
  width    : Nat
  period   : Nat
  entry    : Nat
  cls      : SourceClass
  state    : SourceState
  agree    : Nat
  drop     : Nat
  lastEdge : Option Edge
  deriving DecidableEq, Repr

/-- An entry of the rate table (R116). -/
structure Rate where
  nominal   : Nat
  tolerance : Nat
  cls       : Nat
  minWidth  : Nat
  maxWidth  : Nat
  deriving DecidableEq, Repr

/-- The source capture unit (R111, R116, R118, R122). -/
structure Scu where
  sockets : Vector Socket 8
  rates   : Vector Rate 8
  agree   : Nat
  drop    : Nat
  pc      : Bool
  codec   : Bool
  deriving DecidableEq, Repr

/-! ### RTU: routing -/

/-- The settings of a screen (R127). -/
structure ScreenSettings where
  mode     : ScreenMode
  fixed    : Input
  followed : ScreenId
  fallback : Input
  privacy  : Bool
  deriving DecidableEq, Repr

/-- A screen record (R127). -/
structure Screen where
  set    : ScreenSettings
  shown  : Input
  driven : Input
  settle : SettleState
  timer  : Nat
  deriving DecidableEq, Repr

/-- The routing unit. Entry n of `routable` is the mark of input n + 1 (R128). -/
structure Rtu where
  screens  : Vector Screen 4
  presets  : Vector (Vector ScreenSettings 4) 4
  speakers : List SeatId
  routable : Vector Bool 10
  override : Bool
  deriving DecidableEq, Repr

/-! ### SCH: clock and banks -/

/-- A booking entry as held (R147); the status belongs to the bank that holds it (R148). -/
structure Booking where
  id        : Nat
  start     : Nat
  stop      : Nat
  checkIn   : Bool
  window    : Option Nat
  quorum    : Nat
  floor     : FloorPreset
  screen    : Fin 4
  privacy   : Bool
  organiser : Option SeatId
  deriving DecidableEq, Repr

/-- A booking entry of a bank with its status (R148). -/
structure Entry where
  booking : Booking
  status  : EntryStatus
  deriving DecidableEq, Repr

/-- A bank record (R150). -/
structure Bank where
  role     : BankRole
  state    : BankState
  day      : Nat
  declared : Nat
  received : Nat
  auto     : Bool
  cause    : BankFault
  entries  : List Entry
  deriving DecidableEq, Repr

/-- The room clock (R142). -/
structure Clock where
  day    : Nat
  minute : Nat
  second : Nat
  valid  : Bool
  deriving DecidableEq, Repr

/-- The schedule unit (R142, R150). -/
structure Sch where
  clock : Clock
  bankA : Bank
  bankB : Bank
  deriving DecidableEq, Repr

/-! ### SSU: sessions and summaries -/

/-- The session record (R161). `effEnd` is the effective end as a count of minutes from day 0, minute 0. -/
structure Session where
  kind       : SessionKind
  booking    : Option Nat
  copy       : Option Booking
  state      : SessionState
  openDay    : Nat
  openMinute : Nat
  checkedIn  : Option Nat
  effEnd     : Nat
  unlisted   : Bool
  peak       : Nat
  reason     : Option CloseReason
  await      : Nat
  vacancy    : Nat
  deriving DecidableEq, Repr

/-- A seat line of a summary (R177). -/
structure SeatLine where
  seat     : SeatId
  counters : Counters
  deriving DecidableEq, Repr

/-- A summary (R177). -/
structure Summary where
  number      : Nat
  kind        : SessionKind
  booking     : Option Nat
  organiser   : Option SeatId
  openDay     : Nat
  openMinute  : Nat
  closeDay    : Nat
  closeMinute : Nat
  reason      : CloseReason
  checkedIn   : Option Nat
  peak        : Nat
  unlisted    : Bool
  lines       : List SeatLine
  deriving DecidableEq, Repr

/-- The session and walk-in parameters (R161). -/
structure SessionParams where
  warning  : Nat
  overtime : Nat
  vacancy  : Nat
  quorum   : Nat
  dwell    : Nat
  minFree  : Nat
  length   : Nat
  deriving DecidableEq, Repr

/-- The session unit (R161). -/
structure Ssu where
  session      : Option Session
  pendingStart : Option Nat
  dwell        : Nat
  store        : List Summary
  lost         : Bool
  nextSummary  : Nat
  params       : SessionParams
  deriving DecidableEq, Repr

/-! ### PRT: ports -/

/-- A request as its port took it (R183, R184): code, tag, length byte, and the payload bytes received. -/
structure Request where
  code    : Byte
  tag     : Byte
  length  : Byte
  payload : List Byte
  deriving DecidableEq, Repr

/-- A response with its unread frames: tag, status, and the payload of each frame in order (R187). -/
structure Response where
  tag    : Byte
  status : Status
  frames : List (List Byte)
  deriving DecidableEq, Repr

/-- A port record (R182). `dropAnswer` marks that the response of the request in service is to be discarded, and
`heldBack` holds the responses that wait for that request's on the room link (both R193). `sent` is what the
port's data line last gave out: the bytes of the last transfer, or the frames of the responses sent. `acks` holds the
acknowledge bits that the AV port gave in its last transfer, the address first (R183). -/
structure PortRecord where
  inService  : Option Request
  waiting    : Option Request
  pending    : Option Response
  flags      : BitVec 9
  causes     : BitVec 8
  mask       : BitVec 9
  attention  : Bool
  dropAnswer : Bool
  heldBack   : List Response
  sent       : List (List Byte)
  acks       : List Bool
  deriving DecidableEq, Repr

/-- The room link's receiver (R184): its phase, the header bytes and the payload bytes of the frame in
progress. -/
structure Receiver where
  phase   : RxPhase
  header  : List Byte
  payload : List Byte
  deriving DecidableEq, Repr

/-- The port block: the chair port, the room link and the AV port in this order (R182), the receiver, and
the room identity for IDENT (R10). -/
structure Prt where
  ports     : Vector PortRecord 3
  rx        : Receiver
  roomId    : Nat
  tableName : List Byte
  deriving DecidableEq, Repr

/-! ### PWU and PLN -/

/-- The power unit (R198). -/
structure Pwu where
  power    : PowerState
  quiet    : Nat
  settle   : Nat
  lead     : Nat
  delay    : Nat
  mask     : Vector Bool 8
  proximityWake : Bool
  deriving DecidableEq, Repr

/-- The plan loader (R10). `composed` is the image that a save in progress writes (R13). -/
structure Pln where
  straps    : StrapPins
  stage     : Stage
  outcome   : LoadOutcome
  corrected : Bool
  image     : List Byte
  saving    : Bool
  composed  : List Byte
  result    : SaveResult
  deriving DecidableEq, Repr

/-- The three indicator outputs of a seat as levels, true for high (R103, R106). -/
structure Indicator where
  red   : Bool
  green : Bool
  light : Bool
  deriving DecidableEq, Repr

/-- The direct outputs (section 2.2): indicators, microphone-enable lines, and each screen's select lines
and blank line. The attention lines stand in the port records. -/
structure Pins where
  indicators : Vector Indicator 20
  micEnable  : Vector Bool 20
  select     : Vector (BitVec 4) 4
  blank      : Vector Bool 4
  deriving DecidableEq, Repr

/-- Everything the spec gives the part, block by block. -/
structure Part where
  sfe  : Sfe
  smn  : Smn
  flc  : Flc
  sgu  : Sgu
  scu  : Scu
  rtu  : Rtu
  sch  : Sch
  ssu  : Ssu
  prt  : Prt
  pwu  : Pwu
  pln  : Pln
  pins : Pins
  deriving DecidableEq, Repr

end Sys2Proof.Machine
end

