-- ==== Sys2Proof/Machine/Operands.lean ====
section
/-! DEFINITION. How the values of requests, responses, the plan image and the gain bus are laid out as bytes (R3, R197):
numbers high byte first, named values numbered from 0 in the order of the owning rule, and the record layouts. -/

namespace Sys2Proof.Machine

/-! ### Reading payloads -/

/-- The byte at an offset, as a number; 0 past the end. -/
def byteAt (l : List Byte) (i : Nat) : Nat := (l.getD i 0).toNat

/-- The two-byte number at an offset, high byte first. -/
def halfAt (l : List Byte) (i : Nat) : Nat := byteAt l i * 256 + byteAt l (i + 1)

/-- A bit of the byte at an offset, bit 0 the least significant. -/
def bitAt (l : List Byte) (i bit : Nat) : Bool := (byteAt l i).testBit bit

/-- A yes / no byte: none for a value that is neither (R197). -/
def yesNoOf (n : Nat) : Option Bool := if n = 0 then some false else if n = 1 then some true else none

def floorModeOf : Nat → Option FloorMode
  | 0 => some .direct
  | 1 => some .queue
  | 2 => some .override
  | 3 => some .chair
  | _ => none

def directionOf : Nat → Option Direction
  | 0 => some .fall
  | 1 => some .rise
  | _ => none

def signOf : Nat → Option Sign
  | 0 => some .same
  | 1 => some .opposite
  | _ => none

def profileKindOf : Nat → Option ProfileKind
  | 0 => some .key
  | 1 => some .proximity
  | 2 => some .reference
  | _ => none

def patternOf : Nat → Option Pattern
  | 0 => some .off
  | 1 => some .on
  | 2 => some .slow
  | 3 => some .fast
  | _ => none

def polarityOf : Nat → Option Polarity
  | 0 => some .activeHigh
  | 1 => some .activeLow
  | _ => none

def edgeOf : Nat → Option Edge
  | 0 => some .rising
  | 1 => some .falling
  | _ => none

def screenModeOf : Nat → Option ScreenMode
  | 0 => some .fixed
  | 1 => some .followSpeaker
  | 2 => some .followScreen
  | 3 => some .blank
  | _ => none

/-- A noise filter in microseconds: 0, 2, 4 or 8 (R111, R197). -/
def filterOf (n : Nat) : Option Nat := if n = 0 ∨ n = 2 ∨ n = 4 ∨ n = 8 then some n else none

/-- Seat number n from 1 to 20 (section 4.2). -/
def seatOfNumber (n : Nat) : Option SeatId := if h : 1 ≤ n ∧ n ≤ 20 then some ⟨n - 1, by omega⟩ else none

/-- Socket number n from 1 to 8 (section 4.2). -/
def socketOfNumber (n : Nat) : Option SocketId := if h : 1 ≤ n ∧ n ≤ 8 then some ⟨n - 1, by omega⟩ else none

/-- Screen number n from 1 to 4 (section 4.2). -/
def screenOfNumber (n : Nat) : Option ScreenId := if h : 1 ≤ n ∧ n ≤ 4 then some ⟨n - 1, by omega⟩ else none

/-- Rate table entry n from 1 to 8 (section 4.2). -/
def rateOfNumber (n : Nat) : Option (Fin 8) := if h : 1 ≤ n ∧ n ≤ 8 then some ⟨n - 1, by omega⟩ else none

/-- Channel number n from 0 to 40 (section 4.2). -/
def channelOfNumber (n : Nat) : Option ChannelId := if h : n ≤ 40 then some ⟨n, by omega⟩ else none

/-- Video input n from 0 to 10 (section 4.2). -/
def inputOfNumber (n : Nat) : Option Input := if h : n ≤ 10 then some ⟨n, by omega⟩ else none

/-- A number below m. -/
def finOf (m n : Nat) : Option (Fin m) := if h : n < m then some ⟨n, h⟩ else none

/-! ### Writing values -/

/-- One byte. -/
def b1 (n : Nat) : List Byte := [byteOf n]

/-- Two bytes, high byte first. -/
def b2 (n : Nat) : List Byte := [byteOf (n / 256), byteOf n]

/-- Three bytes, high byte first. -/
def b3 (n : Nat) : List Byte := [byteOf (n / 65536), byteOf (n / 256), byteOf n]

/-- A yes / no value. -/
def bool (b : Bool) : List Byte := b1 (yesNo b)

/-- An optional one-byte value in whose range 0 does not lie. -/
def opt1 (x : Option Nat) : List Byte := b1 (x.getD 0)

/-- An optional two-byte value in whose range 0 does not lie. -/
def opt2 (x : Option Nat) : List Byte := b2 (x.getD 0)

/-- An optional two-byte value in whose range 0 lies: a presence byte first. -/
def mark2 (x : Option Nat) : List Byte := bool x.isSome ++ b2 (x.getD 0)

/-- A list of varying length: a count byte, then the items. -/
def listed (l : List α) (f : α → List Byte) : List Byte := b1 l.length ++ l.flatMap f

/-- The number of a seat, 0 for none. -/
def seatNumber (s : Option SeatId) : Nat :=
  match s with
  | some x => x.val + 1
  | none => 0

/-- The number of a socket, 0 for none. -/
def socketNumber (k : Option SocketId) : Nat :=
  match k with
  | some x => x.val + 1
  | none => 0

def Role.code : Role → Nat
  | .delegate => 0
  | .chair => 1

def Direction.code : Direction → Nat
  | .fall => 0
  | .rise => 1

def Sign.code : Sign → Nat
  | .same => 0
  | .opposite => 1

def ChanState.code : ChanState → Nat
  | .off => 0
  | .tuning => 1
  | .idle => 2
  | .entering => 3
  | .active => 4
  | .leaving => 5
  | .fault => 6

def Sensed.code : Sensed → Nat
  | .inactive => 0
  | .active => 1
  | .fault => 2

def RetuneResult.code : RetuneResult → Nat
  | .none => 0
  | .good => 1
  | .outOfBand => 2

def ProfileKind.code : ProfileKind → Nat
  | .key => 0
  | .proximity => 1
  | .reference => 2

def Presence.code : Presence → Nat
  | .vacant => 0
  | .occupied => 1
  | .away => 2
  | .unknown => 3

def KeyState.code : KeyState → Nat
  | .up => 0
  | .down => 1

def PressMark.code : PressMark → Nat
  | .none => 0
  | .accepted => 1
  | .stray => 2

def FloorMode.code : FloorMode → Nat
  | .direct => 0
  | .queue => 1
  | .override => 2
  | .chair => 3

def SlotState.code : SlotState → Nat
  | .free => 0
  | .opening => 1
  | .live => 2
  | .closing => 3

def Warned.code : Warned → Nat
  | .none => 0
  | .warn => 1
  | .over => 2

/-- Close reasons in the order of R91, where none stands last. -/
def slotReasonCode : Option SlotReason → Nat
  | some .self => 0
  | some .chair => 1
  | some .mute => 2
  | some .time => 3
  | some .absent => 4
  | some .override => 5
  | some .limit => 6
  | some .floorClosed => 7
  | none => 8

def Indication.code : Indication → Nat
  | .off => 0
  | .refused => 1
  | .opening => 2
  | .over => 3
  | .warn => 4
  | .live => 5
  | .closing => 6
  | .next => 7
  | .request => 8
  | .closed => 9
  | .vacant => 10
  | .idle => 11

def Pattern.code : Pattern → Nat
  | .off => 0
  | .on => 1
  | .slow => 2
  | .fast => 3

def Polarity.code : Polarity → Nat
  | .activeHigh => 0
  | .activeLow => 1

def edgeCode : Edge → Nat
  | .rising => 0
  | .falling => 1

def CapturePhase.code : CapturePhase → Nat
  | .waitFirst => 0
  | .waitInactive => 1
  | .waitActive => 2

def SourceState.code : SourceState → Nat
  | .none => 0
  | .seeking => 1
  | .live => 2
  | .dropping => 3

/-- The class of a socket (R197). -/
def SourceClass.code : SourceClass → Nat
  | .none => 0
  | .id n => n
  | .unsupported => 9

def ScreenMode.code : ScreenMode → Nat
  | .fixed => 0
  | .followSpeaker => 1
  | .followScreen => 2
  | .blank => 3

def SettleState.code : SettleState → Nat
  | .steady => 0
  | .settling => 1

def BankRole.code : BankRole → Nat
  | .published => 0
  | .staging => 1

def BankState.code : BankState → Nat
  | .empty => 0
  | .filling => 1
  | .checking => 2
  | .ready => 3
  | .faulty => 4
  | .published => 5

def BankFault.code : BankFault → Nat
  | .none => 0
  | .range => 1
  | .over => 2
  | .overlap => 3

def EntryStatus.code : EntryStatus → Nat
  | .pending => 0
  | .active => 1
  | .done => 2
  | .released => 3
  | .missed => 4
  | .cancelled => 5

def SessionKind.code : SessionKind → Nat
  | .booked => 0
  | .walkIn => 1

def SessionState.code : SessionState → Nat
  | .awaiting => 0
  | .inSession => 1
  | .ending => 2
  | .overtime => 3
  | .windup => 4

def CloseReason.code : CloseReason → Nat
  | .ended => 0
  | .vacated => 1
  | .released => 2
  | .chair => 3
  | .cancelled => 4
  | .preempted => 5
  | .reset => 6

def LoadOutcome.code : LoadOutcome → Nat
  | .none => 0
  | .plan => 1
  | .default => 2

def SaveResult.code : SaveResult → Nat
  | .none => 0
  | .saved => 1
  | .writeFailed => 2

def Status.code : Status → Nat
  | .done => 0
  | .notPermitted => 1
  | .badRequest => 2
  | .range => 3
  | .state => 4
  | .busy => 5
  | .full => 6
  | .short => 7
  | .over => 8
  | .overlap => 9

/-! ### Request layouts -/

/-- BOOKING ENTRY's payload as 17 bytes (R197). -/
def bookingPayloadBytes (e : BookingPayload) : List Byte :=
  b2 e.id.toNat ++ b2 e.start.toNat ++ b2 e.stop.toNat ++
    [e.checkIn, e.window, e.quorum, e.mode, e.limit] ++ b2 e.speak.toNat ++
    [e.enforce, e.screen, e.privacy, e.organiser]

/-- A profile's payload in PROFILE SET, 14 bytes after the profile (R16, R197). -/
def profilePayloadBytes (e : ProfilePayload) : List Byte :=
  [e.direction, e.countBeta, e.activeBeta, e.standbyBeta, e.threshold, e.hysteresis, e.enter, e.exit,
    e.haltLimit, e.tracking, e.sign] ++ b2 e.target.toNat ++ [e.band]

/-! ### Record layouts -/

/-- A booking entry in the layout of BOOKING ENTRY (R197). -/
def bookingBytes (b : Booking) : List Byte :=
  b2 b.id ++ b2 b.start ++ b2 b.stop ++ bool b.checkIn ++ opt1 b.window ++ b1 b.quorum ++
    b1 b.floor.mode.code ++ b1 b.floor.limit ++ b2 b.floor.speak ++ bool b.floor.enforce ++
    b1 b.screen.val ++ bool b.privacy ++ b1 (seatNumber b.organiser)

/-- A profile's fields in the order of R16. -/
def profileBytes (x : Profile) : List Byte :=
  b1 x.direction.code ++ b1 x.countBeta ++ b1 x.activeBeta ++ b1 x.standbyBeta ++ b1 x.threshold ++
    b1 x.hysteresis ++ b1 x.enter ++ b1 x.exit ++ b1 x.haltLimit ++ b1 x.tracking ++ b1 x.sign.code ++
    b2 x.target ++ b1 x.band

/-- The six counters of a seat in the order of R46. -/
def counterBytes (c : Counters) : List Byte :=
  b3 c.occupied ++ b3 c.speaking ++ b2 c.requests ++ b2 c.grants ++ b2 c.refused ++ b2 c.stray

/-- A rate table entry in the order of R116. -/
def rateBytes (r : Rate) : List Byte :=
  b2 r.nominal ++ b2 r.tolerance ++ b1 r.cls ++ b2 r.minWidth ++ b2 r.maxWidth

/-- The gain settings in the order GAIN SET carries them (R92). -/
def gainBytes (g : GainSettings) : List Byte := b2 g.ceiling ++ b1 g.rise ++ b1 g.fall ++ b1 g.duck ++ bool g.ducking

/-- A screen's five settings (R127). -/
def settingsBytes (x : ScreenSettings) : List Byte :=
  b1 x.mode.code ++ b1 x.fixed.val ++ b1 (x.followed.val + 1) ++ b1 x.fallback.val ++ bool x.privacy

/-- A message on the gain bus (R197): the pair count, then seat and gain of each pair. -/
def gainMessage (pairs : List (SeatId × Nat)) : List Byte := listed pairs fun x => b1 (x.1.val + 1) ++ b2 x.2

end Sys2Proof.Machine
end

