-- ==== Sys2Proof/Config.lean ====
section
/-! DEFINITION. What one part fixes for good: its identity (R195) and the constants of the spec that no
plan, strap or request changes. The model has no free value: the spec gives every result that the part
computes, and what it leaves open (orders of coinciding happenings) is an operand of a command. -/

namespace Sys2Proof.Config

/-- Vendor code of IDENT (R195). -/
def vendorCode : Nat := 0x1D6A

/-- Part code of IDENT (R195). -/
def partCode : Nat := 0x0C14

/-- Revision of IDENT (R195). -/
def revision : Nat := 1

/-- Largest filtered count and long-term average, in sixteenths (R17). -/
def maxCount : Nat := 65520

/-- Largest raw count (R21). -/
def maxRaw : Nat := 4095

/-- Frame period in STANDBY, in milliseconds (R20). -/
def standbyFrame : Nat := 200

/-- Fall step of a slot closed with MUTE or FLOOR_CLOSED (R92). -/
def muteFallStep : Nat := 1023

/-- Length of the refused indication, in gain frames (R104). -/
def refusedFrames : Nat := 1000

/-- Length of a crosspoint settle, in milliseconds (R133). -/
def settleTime : Nat := 40

/-- Sensing frames of the settle of WAKING (R202). -/
def settleFrames : Nat := 4

/-- Hold of the chair key that takes a chair next, in milliseconds (R56). -/
def chairHold : Nat := 2000

/-- Consecutive frames out of band that start a retune (R35). -/
def bandFrames : Nat := 50

/-- Counter value of an overflow (R115). -/
def overflowTicks : Nat := 65535

/-- Capacity of the request queue (R65). -/
def queueSize : Nat := 16

/-- Largest payload of a frame (R197). -/
def maxPayload : Nat := 64

/-- Contents of one segment of a segmented response (R187). -/
def segmentBytes : Nat := 63

/-- Bytes of the plan image (R3). -/
def imageBytes : Nat := 512

end Sys2Proof.Config
end

