-- ==== Sys2Proof/Machine/Defaults.lean ====
section
/-! DEFINITION. The built-in defaults of R6 and the value of every record at reset, each from the rule of
its chapter. -/

namespace Sys2Proof.Machine

/-- The KEY profile of the built-in defaults. -/
def Profile.key : Profile :=
  ⟨.fall, 2, 8, 8, 20, 64, 2, 3, 20, 0, .same, 2000, 32⟩

/-- The PROXIMITY profile of the built-in defaults. -/
def Profile.proximity : Profile :=
  ⟨.fall, 3, 10, 6, 12, 96, 4, 8, 0, 48, .same, 1800, 32⟩

/-- The REFERENCE profile of the built-in defaults. -/
def Profile.reference : Profile :=
  ⟨.fall, 3, 8, 6, 1, 0, 1, 1, 0, 0, .same, 2000, 32⟩

/-- A channel at reset (R17). R17's record lists no enable mark and no rule gives it a value before the load hands it out (R10,
R15); it is off here. DESIGN CHOICE (log entry 48). -/
def Channel.reset : Channel :=
  ⟨false, .off, 0, 0, false, 0, 0, 0, 0, 0, 0, 0, 0, 0, false, 0, .inactive, .none, 0, 0, none, false, 0⟩

/-- All counters at 0. -/
def Counters.zero : Counters := ⟨0, 0, 0, 0, 0, 0⟩

/-- A seat at reset: live fields as R46 gives them, fixed fields as the built-in defaults give them (R6;
assumption 4). -/
def Seat.reset (i : SeatId) : Seat :=
  ⟨true, if i.val = 0 then .chair else .delegate, none, true, false,
   .vacant, 0, .up, 0, .none, false, Counters.zero⟩

/-- The default floor preset of the built-in defaults. -/
def FloorPreset.builtIn : FloorPreset := ⟨.queue, 2, 0, false⟩

/-- A slot at reset (R91). -/
def Slot.reset : Slot := ⟨.free, none, 0, 0, 0, .none, none⟩

/-- The gain settings of the built-in defaults. -/
def GainSettings.builtIn : GainSettings := ⟨800, 8, 16, 64, true⟩

/-- Default pattern table 1 (R107). -/
def patternTable1 : Vector PatternEntry 12 :=
  #v[⟨.off, .off, .off⟩, ⟨.fast, .off, .fast⟩, ⟨.on, .off, .on⟩, ⟨.fast, .off, .on⟩,
     ⟨.slow, .off, .on⟩, ⟨.on, .off, .on⟩, ⟨.slow, .off, .off⟩, ⟨.off, .slow, .on⟩,
     ⟨.off, .on, .on⟩, ⟨.off, .off, .off⟩, ⟨.off, .off, .off⟩, ⟨.off, .off, .on⟩]

/-- Default pattern table 2 (R107). -/
def patternTable2 : Vector PatternEntry 12 :=
  #v[⟨.off, .off, .off⟩, ⟨.fast, .off, .off⟩, ⟨.off, .slow, .on⟩, ⟨.on, .off, .fast⟩,
     ⟨.off, .on, .slow⟩, ⟨.off, .on, .on⟩, ⟨.off, .on, .off⟩, ⟨.off, .off, .fast⟩,
     ⟨.off, .off, .slow⟩, ⟨.off, .off, .off⟩, ⟨.off, .off, .off⟩, ⟨.off, .off, .on⟩]

/-- The pattern table that IND_STYLE selects (R1, R107). -/
def strapPatterns (s : StrapPins) : Vector PatternEntry 12 :=
  if s.indStyle then patternTable2 else patternTable1

/-- A socket at reset (R111). -/
def Socket.reset : Socket :=
  ⟨true, .falling, 2, 0, .waitFirst, 0, 0, 0, .none, .none, 0, 0, none⟩

/-- The rate table of the built-in defaults (R6, R116). -/
def builtInRates : Vector Rate 8 :=
  #v[⟨16667, 150, 1, 0, 65535⟩, ⟨20000, 150, 2, 0, 65535⟩, ⟨33333, 150, 3, 0, 65535⟩,
     ⟨41667, 150, 4, 0, 65535⟩, ⟨0, 0, 5, 0, 65535⟩, ⟨0, 0, 6, 0, 65535⟩,
     ⟨0, 0, 7, 0, 65535⟩, ⟨0, 0, 8, 0, 65535⟩]

/-- Settings of a screen at reset (R127), and the fields that R6 leaves unsaid (assumption 4). -/
def ScreenSettings.reset : ScreenSettings := ⟨.blank, 0, 0, 0, false⟩

/-- Routing presets 1 to 3 of the built-in defaults (R6). -/
def builtInRouting : Vector ScreenSettings 4 :=
  #v[⟨.followSpeaker, 0, 0, 9, false⟩, ⟨.followScreen, 0, 0, 0, false⟩,
     ⟨.fixed, 10, 0, 0, false⟩, ⟨.fixed, 9, 0, 0, false⟩]

/-- The routing presets of the built-in defaults (R6). -/
def builtInPresets : Vector (Vector ScreenSettings 4) 4 :=
  #v[Vector.replicate 4 ScreenSettings.reset, builtInRouting, builtInRouting, builtInRouting]

/-- A screen at reset (R127). -/
def Screen.reset : Screen := ⟨ScreenSettings.reset, 0, 0, .steady, 0⟩

/-- An empty bank (R150). -/
def Bank.reset (r : BankRole) : Bank := ⟨r, .empty, 0, 0, 0, false, .none, []⟩

/-- The session and walk-in parameters of the built-in defaults (R6). -/
def SessionParams.builtIn : SessionParams := ⟨5, 5, 10, 2, 60, 15, 60⟩

/-- Default notice masks (R190): bit n masks category n, numbered FLOOR, SEAT, SENSE, SOURCE, ROUTE, SESSION,
SCHEDULE, SUMMARY, POWER as the bits of R197. -/
def defaultMask : Port → BitVec 9
  | .chair => 0b111011100#9
  | .room  => 0b000011011#9
  | .av    => 0b011000111#9

/-- The index of a port in the list of port records. -/
def portIdx : Port → Fin 3
  | .chair => 0
  | .room  => 1
  | .av    => 2

/-- A port record at reset (R182). -/
def PortRecord.reset (p : Port) : PortRecord :=
  ⟨none, none, none, 0, 0, defaultMask p, false, false, [], [], []⟩

/-- The name of the built-in defaults: "TABLE" and eleven spaces (R6). -/
def builtInName : List Byte :=
  [84, 65, 66, 76, 69, 32, 32, 32, 32, 32, 32, 32, 32, 32, 32, 32]

/-- Every block at its reset values, with the straps as latched and the part at the given stage (R10). R10 leaves the values held
until the handing out of settings to each block's chapter, and no chapter gives one for the room id and table name of PRT
(R182, R195), the default floor preset that FLC keeps (R62, R64), the absence grace (R46) and the sensing frame (R17, R20):
they stand at the built-in defaults of R6. DESIGN CHOICE (log entry 56). -/
def Part.atReset (straps : StrapPins) (stage : Stage) : Part :=
  { sfe := ⟨Vector.replicate 41 Channel.reset, Profile.key, Profile.proximity, Profile.reference, 10⟩
    smn := ⟨Vector.ofFn Seat.reset, 0, 8⟩
    flc := ⟨.queue, 2, 0, false, 30, false, [], 0, 0, [], FloorPreset.builtIn⟩
    sgu := ⟨Vector.replicate 7 Slot.reset, GainSettings.builtIn, strapPatterns straps,
            ⟨.activeHigh, .activeHigh, .activeHigh⟩, Vector.replicate 20 0, 0, [],
            Vector.replicate 20 .vacant, none⟩
    scu := ⟨Vector.replicate 8 Socket.reset, builtInRates, 4, 3, false, false⟩
    rtu := ⟨Vector.replicate 4 Screen.reset, builtInPresets, [], Vector.replicate 10 false, false⟩
    sch := ⟨⟨0, 0, 0, false⟩, Bank.reset .published, Bank.reset .staging⟩
    ssu := ⟨none, none, 0, [], false, 1, SessionParams.builtIn⟩
    prt := ⟨#v[PortRecord.reset .chair, PortRecord.reset .room, PortRecord.reset .av],
            ⟨.hunt, [], []⟩, 0, builtInName⟩
    pwu := ⟨.waking, 0, 0, 10, 5, Vector.replicate 8 true, true⟩
    pln := ⟨straps, stage, .none, false, List.replicate 512 0, false, [], .none⟩
    pins := ⟨Vector.replicate 20 ⟨false, false, false⟩, Vector.replicate 20 false,
             Vector.replicate 4 0, Vector.replicate 4 false⟩ }

end Sys2Proof.Machine
end

