-- ==== Sys2Proof/Machine/State.lean ====
section
/-! DEFINITION. The machine's state: the part and the queue of commands that wait; the reasons to stop; and
the state right after reset. -/

namespace Sys2Proof.Machine

/-- The machine: the part, and the commands that wait, first in, first out. -/
structure State where
  part    : Part
  pending : List Instr
  deriving DecidableEq, Repr

/-- Reasons to stop with a fault. There is none: the spec gives every command an effect in every state. -/
inductive Fault where
  deriving DecidableEq, Repr

/-- Reasons to refuse a command. -/
inductive Refusal where
  /-- Raised by an arm of `exec` whose command has no meaning yet, naming its mnemonic; safe. No arm of this
  model raises it. -/
  | notModelled (mnemonic : String)
  deriving DecidableEq, Repr

/-- The machine right after reset: power-on reset just released (stage 1 of R11), with every strap pin low
(assumption 5), and no command waiting. -/
def State.reset : State := ⟨Part.atReset ⟨0, 0, false⟩ .loading, []⟩

end Sys2Proof.Machine
end

