-- ==== Sys2Proof/Machine/Ops.lean ====
section
/-! DEFINITION. The named operations over the records: one update per block, one read and one write per
numbered record, and the questions that many rules ask of the state (who holds a slot, is a slot
available, what is now, is a request answered at this stage). -/

namespace Sys2Proof.Machine

/-! ### One update per block -/

namespace Part

def withSfe (p : Part) (x : Sfe) : Part := { p with sfe := x }
def withSmn (p : Part) (x : Smn) : Part := { p with smn := x }
def withFlc (p : Part) (x : Flc) : Part := { p with flc := x }
def withSgu (p : Part) (x : Sgu) : Part := { p with sgu := x }
def withScu (p : Part) (x : Scu) : Part := { p with scu := x }
def withRtu (p : Part) (x : Rtu) : Part := { p with rtu := x }
def withSch (p : Part) (x : Sch) : Part := { p with sch := x }
def withSsu (p : Part) (x : Ssu) : Part := { p with ssu := x }
def withPrt (p : Part) (x : Prt) : Part := { p with prt := x }
def withPwu (p : Part) (x : Pwu) : Part := { p with pwu := x }
def withPln (p : Part) (x : Pln) : Part := { p with pln := x }
def withPins (p : Part) (x : Pins) : Part := { p with pins := x }

/-! ### One read and one write per numbered record -/

def channel (p : Part) (c : ChannelId) : Channel := p.sfe.channels.get c
def setChannel (p : Part) (c : ChannelId) (x : Channel) : Part :=
  p.withSfe { p.sfe with channels := setEntry p.sfe.channels c x }

def seat (p : Part) (s : SeatId) : Seat := p.smn.seats.get s
def setSeat (p : Part) (s : SeatId) (x : Seat) : Part :=
  p.withSmn { p.smn with seats := setEntry p.smn.seats s x }

def slot (p : Part) (k : SlotId) : Slot := p.sgu.slots.get k
def setSlot (p : Part) (k : SlotId) (x : Slot) : Part :=
  p.withSgu { p.sgu with slots := setEntry p.sgu.slots k x }

def socket (p : Part) (k : SocketId) : Socket := p.scu.sockets.get k
def setSocket (p : Part) (k : SocketId) (x : Socket) : Part :=
  p.withScu { p.scu with sockets := setEntry p.scu.sockets k x }

def screen (p : Part) (k : ScreenId) : Screen := p.rtu.screens.get k
def setScreen (p : Part) (k : ScreenId) (x : Screen) : Part :=
  p.withRtu { p.rtu with screens := setEntry p.rtu.screens k x }

def port (p : Part) (q : Port) : PortRecord := p.prt.ports.get (portIdx q)
def setPort (p : Part) (q : Port) (x : PortRecord) : Part :=
  p.withPrt { p.prt with ports := setEntry p.prt.ports (portIdx q) x }

def setSession (p : Part) (x : Option Session) : Part := p.withSsu { p.ssu with session := x }
def setClock (p : Part) (x : Clock) : Part := p.withSch { p.sch with clock := x }
def setPower (p : Part) (x : PowerState) : Part := p.withPwu { p.pwu with power := x }

/-! ### Questions -/

/-- The part is without supply or held by the RESET pin: it takes no event but a release (R11, R14). -/
def isHeld (p : Part) : Bool := p.pln.stage = .unpowered || p.pln.stage = .held

/-- A session is open (R161). -/
def sessionOpen (p : Part) : Bool := p.ssu.session.isSome

/-- The clock's day and minute as minutes from day 0 (R144). -/
def now (p : Part) : Nat := p.sch.clock.day * 1440 + p.sch.clock.minute

/-- The clock has reached a time given in minutes from day 0 (R144). -/
def reached (p : Part) (t : Nat) : Bool := t ≤ p.now

/-- A session state in which the floor is open (R62, R63). -/
def runningState (st : SessionState) : Bool := st = .inSession || st = .ending || st = .overtime

/-- The chair seat: the installed seat with role CHAIR (R2, R7). -/
def chairSeat (p : Part) : SeatId :=
  ((List.finRange 20).find? fun s => (p.seat s).installed && (p.seat s).role = .chair).getD 0

/-- Seat s is an installed delegate seat. -/
def isDelegate (p : Part) (s : SeatId) : Bool := (p.seat s).installed && s ≠ p.chairSeat

/-- The number of installed seats. -/
def installedCount (p : Part) : Nat := ((List.finRange 20).filter fun s => (p.seat s).installed).length

/-- Seat s counts as present for a press (R54): OCCUPIED, AWAY or UNKNOWN, or presence is not required. -/
def presentForKey (p : Part) (s : SeatId) : Bool :=
  (p.seat s).presence ≠ .vacant || !(p.seat s).presenceRequired

/-- A presence that the occupied count counts (R51). -/
def counted (x : Presence) : Bool := x = .occupied || x = .away

/-- The number of installed seats whose presence is OCCUPIED or AWAY (R51). -/
def occupiedSeats (p : Part) : Nat :=
  ((List.finRange 20).filter fun s => (p.seat s).installed && counted (p.seat s).presence).length

/-- A slot in OPENING or LIVE. -/
def isOpenState (st : SlotState) : Bool := st = .opening || st = .live

/-- The delegate slots, in order (R91). -/
def delegateSlots : List SlotId := [1, 2, 3, 4, 5, 6]

/-- All slots, in order. -/
def allSlots : List SlotId := [0, 1, 2, 3, 4, 5, 6]

/-- The slot that is not FREE and that seat s holds, if any (R65: at most one). -/
def slotOf (p : Part) (s : SeatId) : Option SlotId :=
  allSlots.find? fun k => (p.slot k).state ≠ .free && (p.slot k).holder = some s

/-- Seat s has a queue entry (R65). -/
def isQueued (p : Part) (s : SeatId) : Bool := p.flc.queue.any fun e => e.seat = s

/-- The number of delegate slots in OPENING or LIVE (R67). -/
def openCount (p : Part) : Nat := (delegateSlots.filter fun k => isOpenState (p.slot k).state).length

/-- The lowest-numbered FREE delegate slot (R67). -/
def freeSlot (p : Part) : Option SlotId := delegateSlots.find? fun k => (p.slot k).state = .free

/-- The slot that the arbiter would hand out: a delegate slot is available (R67). -/
def available (p : Part) : Option SlotId := if p.openCount < p.flc.limit then p.freeSlot else none

/-- Every slot is FREE (R173). -/
def allFree (p : Part) : Bool := allSlots.all fun k => (p.slot k).state = .free

/-- A socket is live: LIVE or DROPPING (R120). -/
def socketLive (x : Socket) : Bool := x.state = .live || x.state = .dropping

/-- Some socket is live (R199). -/
def anySocketLive (p : Part) : Bool := (List.finRange 8).any fun k => socketLive (p.socket k)

/-- Socket k is inside the wake mask (R198). -/
def inMask (p : Part) (k : SocketId) : Bool := p.pwu.mask.get k

/-- Capture of socket k runs: enabled, settings handed out (R111), and not stopped by STANDBY (R123). -/
def capturing (p : Part) (k : SocketId) : Bool :=
  (p.socket k).enable && (p.pln.stage = .retuning || p.pln.stage = .running) &&
    (p.pwu.power ≠ .standby || p.inMask k)

/-- The input that a socket feeds (section 4.2). -/
def socketInput (k : SocketId) : Input := ⟨k.val + 1, by omega⟩

/-- The routable mark of an input; input 0 is never routable (R128). -/
def isRoutable (p : Part) (i : Input) : Bool :=
  if h : i.val = 0 then false else p.rtu.routable.get ⟨i.val - 1, by omega⟩

/-- What the screen's select lines carry by R132: the shown source, or 0 under the standby override. -/
def drivenBy (p : Part) (k : ScreenId) : Input := if p.rtu.override then 0 else (p.screen k).shown

/-- The kind of a channel, and so its profile (R15). -/
def kindOf (c : ChannelId) : ProfileKind :=
  if c.val = 40 then .reference else if c.val % 2 = 0 then .key else .proximity

/-- The seat that owns a channel 0 to 39 (R15). -/
def seatOf (c : ChannelId) : SeatId := ⟨c.val / 2 % 20, by omega⟩

/-- The key channel of a seat (R15). -/
def keyChannel (s : SeatId) : ChannelId := ⟨2 * s.val, by omega⟩

/-- The proximity channel of a seat (R15). -/
def proximityChannel (s : SeatId) : ChannelId := ⟨2 * s.val + 1, by omega⟩

/-- The profile of a kind (R15). -/
def profileOf (p : Part) : ProfileKind → Profile
  | .key => p.sfe.key
  | .proximity => p.sfe.proximity
  | .reference => p.sfe.reference

/-- The outcome of a channel's state outside TUNING (R15, R32). -/
def outcomeOfState : ChanState → Sensed
  | .active => .active
  | .leaving => .active
  | .fault => .fault
  | _ => .inactive

/-- The outcome of a channel as SMN sees it: the held outcome while TUNING (R15). -/
def outcomeOf (c : Channel) : Sensed := if c.state = .tuning then c.held else outcomeOfState c.state

end Part

end Sys2Proof.Machine
end

