-- ==== Sys2Proof/Machine/Flags.lean ====
section
/-! DEFINITION. The notice flags, cause marks and attention lines of the three ports (R189, R190). -/

namespace Sys2Proof.Machine

/-- The nine notice categories (section 4.5), in the order of the bits of R197. -/
inductive Category where
  | floor | seat | sense | source | route | session | schedule | summary | power
  deriving DecidableEq, Repr

/-- The bit of a category (R197). -/
def Category.bit : Category → BitVec 9
  | .floor => 1#9
  | .seat => 2#9
  | .sense => 4#9
  | .source => 8#9
  | .route => 16#9
  | .session => 32#9
  | .schedule => 64#9
  | .summary => 128#9
  | .power => 256#9

/-- The eight named causes (R189), in the order of the bits of R197. -/
inductive Cause where
  | planDefault | planCorrected | stuckChannel | retuneFailed | faultCleared | saved | writeFailed | overlap
  deriving DecidableEq, Repr

/-- The bit of a named cause (R197). -/
def Cause.bit : Cause → BitVec 8
  | .planDefault => 1#8
  | .planCorrected => 2#8
  | .stuckChannel => 4#8
  | .retuneFailed => 8#8
  | .faultCleared => 16#8
  | .saved => 32#8
  | .writeFailed => 64#8
  | .overlap => 128#8

namespace Part

/-- The same change made to all three port records. -/
def onPorts (p : Part) (f : PortRecord → PortRecord) : Part :=
  p.withPrt { p.prt with ports := mapTable (fun _ x => f x) p.prt.ports }

/-- A block raises a notice: the category's flag is set in all three ports (R189). -/
def notice (p : Part) (c : Category) : Part := p.onPorts fun x => { x with flags := x.flags ||| c.bit }

/-- A notice with a named cause: the flag and the cause mark are set in all three ports (R189). -/
def noticeCause (p : Part) (c : Category) (m : Cause) : Part :=
  p.onPorts fun x => { x with flags := x.flags ||| c.bit, causes := x.causes ||| m.bit }

/-- The notice is raised when a condition holds. -/
def noticeIf (p : Part) (b : Bool) (c : Category) : Part := if b then p.notice c else p

end Part

/-- The attention line's test: some flag is set and not masked (R190). -/
def attentionOf (x : PortRecord) : Bool := x.flags &&& ~~~x.mask ≠ 0

namespace Part

/-- Every attention line at the level its test gives (R190). -/
def driveAttention (p : Part) : Part := p.onPorts fun x => { x with attention := attentionOf x }

end Part

end Sys2Proof.Machine
end

