-- ==== Sys2Proof/Machine/Banks.lean ====
section
/-! DEFINITION. The two booking banks as the schedule and session units read and mark them: which is published,
current, due, missed; the next start (R144, R148, R149). -/

namespace Sys2Proof.Machine.Part

/-- Bank A has role PUBLISHED; the two banks always hold different roles (R150). -/
def publishedIsA (p : Part) : Bool := p.sch.bankA.role = .published

/-- The bank with role PUBLISHED. -/
def published (p : Part) : Bank := if p.publishedIsA then p.sch.bankA else p.sch.bankB

/-- The bank with role STAGING. -/
def staging (p : Part) : Bank := if p.publishedIsA then p.sch.bankB else p.sch.bankA

def setPublished (p : Part) (b : Bank) : Part :=
  if p.publishedIsA then p.withSch { p.sch with bankA := b } else p.withSch { p.sch with bankB := b }

def setStaging (p : Part) (b : Bank) : Part :=
  if p.publishedIsA then p.withSch { p.sch with bankB := b } else p.withSch { p.sch with bankA := b }

/-- The published bank is current: published, the clock valid, and its day today (R144). -/
def isCurrent (p : Part) : Bool :=
  p.published.state = .published && p.sch.clock.valid && p.published.day = p.sch.clock.day

/-- The clock has reached the start of an entry of bank b (R144). -/
def startReached (p : Part) (b : Bank) (e : Entry) : Bool := p.reached (b.day * 1440 + e.booking.start)

/-- The clock has reached the end of an entry of bank b; an end of 1440 is minute 0 of the next day
(R144). -/
def endReached (p : Part) (b : Bank) (e : Entry) : Bool := p.reached (b.day * 1440 + e.booking.stop)

/-- The PENDING entries of the published bank whose end the clock has not reached. -/
def comingEntries (p : Part) : List Entry :=
  p.published.entries.filter fun e => e.status = .pending && !p.endReached p.published e

/-- The next start (R149): 1440 when there is none or the bank is not current. -/
def nextStart (p : Part) : Nat :=
  if p.isCurrent then p.comingEntries.foldl (fun n e => min n e.booking.start) 1440 else 1440

/-- The entry that the opening test finds (R164). -/
def dueEntry (p : Part) : Option Entry :=
  if p.isCurrent then p.comingEntries.find? fun e => p.startReached p.published e else none

/-- The first entry of the published bank with an id. -/
def findEntry (p : Part) (id : Nat) : Option Entry := p.published.entries.find? fun e => e.booking.id = id

/-- The published bank holds an entry with this id PENDING. -/
def isPending (p : Part) (id : Nat) : Bool :=
  p.published.entries.any fun e => e.booking.id = id && e.status = .pending

/-- The entries of the published bank with this id and status `old` take status `new`; a change raises a
SCHEDULE notice (R148). -/
def markEntry (p : Part) (id : Nat) (old new : EntryStatus) : Part :=
  let b := p.published
  let es := b.entries.map fun e => if e.booking.id = id ∧ e.status = old then { e with status := new } else e
  (p.setPublished { b with entries := es }).noticeIf (es ≠ b.entries) .schedule

/-- Every PENDING entry of the published bank whose end the clock has reached becomes MISSED (R144). -/
def markMissed (p : Part) : Part :=
  let b := p.published
  if b.state = .published then
    let es := b.entries.map fun e => if e.status = .pending ∧ p.endReached b e then { e with status := .missed } else e
    (p.setPublished { b with entries := es }).noticeIf (es ≠ b.entries) .schedule
  else p

/-- An empty staging bank: entries discarded, counts 0, auto-publish no, fault cause none; the day is kept
(R154, R156). -/
def emptied (b : Bank) : Bank :=
  { b with role := .staging, state := .empty, declared := 0, received := 0, auto := false, cause := .none, entries := [] }

end Sys2Proof.Machine.Part
end

