-- ==== Sys2Proof/Machine/Routing.lean ====
section
/-! DEFINITION. RTU: the speaker order list, the shown source of every screen, presets, the close of a session
on the screens, and the driving of the crosspoint with its settles (chapter 7). -/

namespace Sys2Proof.Machine.Part

/-- The first speaker's socket that can be shown (R130): from the front of the speaker order list, the first
seat whose socket field is not 0 and whose socket is routable. -/
def speakerSource (p : Part) : Option Input :=
  p.rtu.speakers.findSome? fun s =>
    match (p.seat s).socket with
    | some k => if p.isRoutable (socketInput k) then some (socketInput k) else none
    | none => none

/-- The shown source of a screen that is not in FOLLOW_SCREEN (R130), from what it showed before. -/
def ownSource (p : Part) (x : Screen) : Input :=
  match x.set.mode with
  | .fixed => x.set.fixed
  | .blank => 0
  | .followScreen => x.shown
  | .followSpeaker =>
    match p.speakerSource with
    | some i => i
    | none => if p.isRoutable x.shown then x.shown else x.set.fallback

/-- Within one event, the screens that `sel` names and that are not in FOLLOW_SCREEN are computed first; then
every FOLLOW_SCREEN screen that `sel` names, or whose followed screen changed, copies it (R131). -/
def computeShown (p : Part) (sel : ScreenId → Bool) : Part :=
  let first := mapTable
    (fun k (x : Screen) => if sel k && x.set.mode ≠ .followScreen then { x with shown := p.ownSource x } else x)
    p.rtu.screens
  let second := mapTable
    (fun k (x : Screen) =>
      let followed := (first.get x.set.followed).shown
      if x.set.mode = .followScreen && (sel k || followed ≠ (p.screen x.set.followed).shown)
      then { x with shown := followed } else x)
    first
  p.withRtu { p.rtu with screens := second }

/-- The screens that read the speaker order list and the routable marks (R131). -/
def followsSpeaker (p : Part) (k : ScreenId) : Bool := (p.screen k).set.mode = .followSpeaker

/-- A screen whose driven source changes takes the new source, is blanked, and settles for 40 ms (R133). -/
def startSettle (x : Screen) (i : Input) : Screen :=
  { x with driven := i, settle := .settling, timer := Config.settleTime }

/-- The select lines take each screen's driven source as R132 gives it; a screen whose driven source changes
starts a settle (R133). -/
def driveScreens (p : Part) : Part :=
  p.withRtu { p.rtu with
    screens := mapTable (fun k x => if p.drivenBy k = x.driven then x else startSettle x (p.drivenBy k)) p.rtu.screens }

/-- SGU's report that seat s's slot entered LIVE: s goes to the front of the speaker order list. Each report is one event of
RTU (R129), so a driven source that it changes starts a settle here (R133), and no further report takes that settle back. A
report raises no ROUTE notice: no slot is LIVE while the standby override is on, and with the override off a shown source
that a report changes is a driven source that changes (R134). DEDUCED (log entry 25). -/
def speakerEnters (p : Part) (s : SeatId) : Part :=
  let q := p.withRtu { p.rtu with speakers := s :: p.rtu.speakers.filter (· ≠ s) }
  (q.computeShown q.followsSpeaker).driveScreens

/-- SGU's report that seat s's slot left LIVE: s leaves the speaker order list. One event of RTU, like the report of an entry
(R129, R133). -/
def speakerLeaves (p : Part) (s : SeatId) : Part :=
  let q := p.withRtu { p.rtu with speakers := p.rtu.speakers.filter (· ≠ s) }
  (q.computeShown q.followsSpeaker).driveScreens

/-- The routable mark of an input is set or cleared; a change of it recomputes the following screens
(R128, R131). `i` is the input less 1. -/
def setRoutable (p : Part) (i : Fin 10) (b : Bool) : Part :=
  if p.rtu.routable.get i = b then p
  else
    let q := p.withRtu { p.rtu with routable := setEntry p.rtu.routable i b }
    q.computeShown q.followsSpeaker

/-- The four screens take the given settings at one event and are computed (R135). -/
def takeSettings (p : Part) (v : Vector ScreenSettings 4) : Part :=
  let q := p.withRtu { p.rtu with screens := mapTable (fun k (x : Screen) => { x with set := v.get k }) p.rtu.screens }
  q.computeShown fun _ => true

/-- A routing preset is applied (R135). -/
def applyPreset (p : Part) (n : Fin 4) : Part := p.takeSettings (p.rtu.presets.get n)

/-- The settings of a screen after a session's close (R137): its entry of preset 0, made BLANK for privacy. -/
def closedSettings (p : Part) (privacy : Bool) (k : ScreenId) : ScreenSettings :=
  let entry := (p.rtu.presets.get 0).get k
  if privacy || (p.screen k).set.privacy then { entry with mode := .blank } else entry

/-- RTU takes the close of a session with its privacy mark (R137). -/
def routeClose (p : Part) (privacy : Bool) : Part :=
  p.takeSettings (Vector.ofFn fun k => p.closedSettings privacy k)

/-- What an event changes outside the reports of slots leaves some screen's driven source as the last report left it, and the
event changes that screen's settings, or its shown source with its driven source as it stood throughout: no settle starts for
that change (R134). -/
def routeChanged (before after : Part) : Bool :=
  (List.finRange 4).any fun k =>
    let x := before.screen k
    let y := after.screen k
    y.driven = after.drivenBy k && (x.set ≠ y.set || (x.shown ≠ y.shown && x.driven = y.driven))

/-- The end of an event for RTU: the ROUTE notice of R134 and the driving of R132 and R133. What the event changes outside
the reports of slots is driven here, once, against the driven sources held until then (R137). DEDUCED (log entry 25). -/
def concludeRouting (before after : Part) : Part :=
  (after.noticeIf (routeChanged before after) .route).driveScreens

/-- One gain frame of the settle timers (R133). -/
def countSettles (p : Part) : Part :=
  p.withRtu { p.rtu with
    screens := mapTable (fun _ x => if x.settle = .settling then { x with timer := x.timer - 1 } else x) p.rtu.screens }

/-- A settle that has run out ends: STEADY, and a ROUTE notice (R133). -/
def endSettle (p : Part) (k : ScreenId) : Part :=
  if (p.screen k).settle = .settling ∧ (p.screen k).timer = 0 then
    (p.setScreen k { p.screen k with settle := .steady }).notice .route
  else p

/-- The settle of one screen at a gain frame, when it has run out. With `changing` true, a screen whose driven source changes
at this same event is passed over, because its settle starts again (R140). -/
def settleStep (changing : Bool) (p : Part) (k : ScreenId) : Part :=
  if changing && p.drivenBy k ≠ (p.screen k).driven then p else p.endSettle k

/-- The settles that have run out at a gain frame end (R133). -/
def endSettles (p : Part) (changing : Bool) : Part := (List.finRange 4).foldl (settleStep changing) p

/-- PWU turns the standby override on or off (R132). RTU drives every screen by it when the event ends, so that a screen whose
driven source the event leaves as it stood starts no settle (R133). -/
def setOverride (p : Part) (b : Bool) : Part := p.withRtu { p.rtu with override := b }

/-- The record of a screen with the drive that R132 gives it at this point of an event: what ROUTE READ and ROUTE SET
answer with (R138, R141). -/
def drivenRecord (p : Part) (k : ScreenId) : Screen := p.driveScreens.screen k

end Sys2Proof.Machine.Part
end

