-- ==== Sys2Proof/Machine/Slots.lean ====
section
/-! DEFINITION. SGU: slot records, gain targets and ramps, the gain bus, the microphone-enable lines and the
indication of the seats (chapter 5). -/

namespace Sys2Proof.Machine.Part

/-! ### Targets (R94) -/

/-- The ducked level: G less floor(G × d / 256) (R94). -/
def duckedLevel (g : GainSettings) : Nat := g.ceiling - g.ceiling * g.duck / 256

/-- The target of slot k by R94. -/
def targetOf (p : Part) (k : SlotId) : Nat :=
  if isOpenState (p.slot k).state then
    if k ≠ 0 ∧ p.sgu.gain.ducking ∧ (p.slot 0).state ≠ .free then duckedLevel p.sgu.gain
    else p.sgu.gain.ceiling
  else 0

/-- SGU recomputes the targets (R94). -/
def retarget (p : Part) : Part :=
  p.withSgu { p.sgu with slots := mapTable (fun k x => { x with target := p.targetOf k }) p.sgu.slots }

/-! ### What FLC does to a slot (R98) -/

/-- Slot k goes OPENING for seat s: the grant of R68, and the chair open and reopen of R75. The gain stays as
it is, 0 for a FREE slot. -/
def openSlot (p : Part) (k : SlotId) (s : SeatId) : Part :=
  (p.setSlot k { p.slot k with
    state := .opening, holder := some s, elapsed := 0, warned := .none, reason := none }).retarget

/-- A holder's slot that was LIVE is reported to RTU as having left LIVE (R98, R99). -/
def reportLeft (p : Part) (x : Slot) : Part :=
  match x.holder with
  | some s => if x.state = .live then p.speakerLeaves s else p
  | none => p

/-- Slot k goes CLOSING with a reason; one that was LIVE is reported to RTU (R98). -/
def closeSlot (p : Part) (k : SlotId) (r : SlotReason) : Part :=
  ((p.setSlot k { p.slot k with state := .closing, reason := some r }).retarget).reportLeft (p.slot k)

/-- Slot k becomes FREE: its seat joins the released list (R97). The holder is cleared and the warned mark set
to NONE by FLC's taking of the report (R69), at the same event. The elapsed seconds stay as they were until the next grant:
no rule gives their value in a slot that an ordinary close brought to FREE. DESIGN CHOICE (log entry 43). -/
def freeSlotRecord (p : Part) (k : SlotId) : Part :=
  let x := p.slot k
  let q := p.setSlot k { x with state := .free, holder := none, warned := .none, reason := none }
  (q.withSgu { q.sgu with released := q.sgu.released ++ x.holder.toList }).retarget

/-- One slot freed by a TABLE RESET, at once and with no ramp (R99). -/
def cutSlot (p : Part) (k : SlotId) : Part :=
  let x := p.slot k
  if x.state = .free then p
  else
    let q := p.setSlot k Slot.reset
    (q.withSgu { q.sgu with released := q.sgu.released ++ x.holder.toList }).reportLeft x

/-- A TABLE RESET frees every slot at once (R99). The freed seats join the released list in slot order; R99 gives no order
(DESIGN CHOICE, log entry 44). The LIVE ones are reported as having left LIVE in slot order too (DESIGN CHOICE, log entry 58). -/
def cutAll (p : Part) : Part := (allSlots.foldl cutSlot p).retarget

/-! ### The gain frame (R95) -/

/-- The fall step of a slot: the mute fall step for a CLOSING slot with reason MUTE or FLOOR_CLOSED (R95). -/
def fallStep (g : GainSettings) (x : Slot) : Nat :=
  if x.state = .closing ∧ (x.reason = some .mute ∨ x.reason = some .floorClosed) then Config.muteFallStep
  else g.fall

/-- The gain of a slot after its move of one gain frame (R95). -/
def nextGain (g : GainSettings) (x : Slot) : Nat :=
  if x.state = .free then x.gain
  else if x.gain < x.target then min (x.gain + g.rise) x.target
  else if x.target < x.gain then max (x.gain - fallStep g x) x.target
  else x.gain

/-- The moves of the seven slots (R95). -/
def moveGains (p : Part) : Part :=
  p.withSgu { p.sgu with
    slots := mapTable (fun _ x => { x with gain := nextGain p.sgu.gain x }) p.sgu.slots }

/-- An OPENING slot whose gain equals its target after the move becomes LIVE: reported to RTU, with a FLOOR
notice (R96). -/
def enterLive (p : Part) (k : SlotId) : Part :=
  let x := p.slot k
  if x.state = .opening ∧ x.gain = x.target then
    let q := (p.setSlot k { x with state := .live }).notice .floor
    match x.holder with
    | some s => q.speakerEnters s
    | none => q
  else p

/-- SGU reports the slots that entered LIVE in slot order (R96). -/
def enterLives (p : Part) : Part := allSlots.foldl enterLive p

/-- The pairs of a gain bus message (R101). -/
def gainPairs (p : Part) : List (SeatId × Nat) :=
  p.sgu.released.map (fun s => (s, 0)) ++
    allSlots.filterMap fun k =>
      match (p.slot k).holder with
      | some s => if (p.slot k).state = .free then none else some (s, (p.slot k).gain)
      | none => none

/-- The message at the end of a gain frame; the bus is quiet in STANDBY (R101, R110). -/
def sendGains (p : Part) : Part :=
  if p.pwu.power = .standby then p.withSgu { p.sgu with bus := none }
  else p.withSgu { p.sgu with bus := some p.gainPairs, released := [] }

/-- The blink counter and the refused timers count a gain frame (R104, R105). -/
def countGainTimers (p : Part) : Part :=
  p.withSgu { p.sgu with
    blink := if p.sgu.blink ≥ 999 then 0 else p.sgu.blink + 1
    refused := mapTable (fun _ n => n - 1) p.sgu.refused }

/-- A GAIN SET's new settings act on the slots: a gain above the new ceiling becomes the ceiling, and every
target is recomputed (R93). -/
def takeGain (p : Part) (g : GainSettings) : Part :=
  (p.withSgu { p.sgu with
    gain := g
    slots := mapTable (fun _ (x : Slot) => { x with gain := min x.gain g.ceiling }) p.sgu.slots }).retarget

/-! ### Indication (R103 to R107) -/

/-- FLC refuses a press or a gesture of seat s: its refused timer starts at 1000 gain frames (R104). -/
def showRefused (p : Part) (s : SeatId) : Part :=
  p.withSgu { p.sgu with refused := setEntry p.sgu.refused s Config.refusedFrames }

/-- The indication that a slot gives its holder: OPENING, OVER, WARN, LIVE, CLOSING in the order of R103. -/
def slotIndication (x : Slot) : Indication :=
  if x.state = .opening then .opening
  else if x.warned = .over then .over
  else if x.warned = .warn then .warn
  else if x.state = .live then .live
  else .closing

/-- The indication state of seat s: the first state of R103 whose condition holds. A seat that is not
installed is given VACANT. -/
def indicationOf (p : Part) (s : SeatId) : Indication :=
  if !(p.seat s).installed then .vacant
  else if p.pwu.power = .standby then .off
  else if p.sgu.refused.get s ≠ 0 then .refused
  else match p.slotOf s with
    | some k => slotIndication (p.slot k)
    | none =>
      if p.flc.queue.head?.map (·.seat) = some s then .next
      else if p.isQueued s then .request
      else if (p.seat s).presence ≠ .vacant ∧ !p.flc.isOpen then .closed
      else if (p.seat s).presence = .vacant then .vacant
      else .idle

/-- The place of an indication state in the pattern table, in the order of R103 (R3, R105). -/
def indicationIndex : Indication → Fin 12
  | .off => 0
  | .refused => 1
  | .opening => 2
  | .over => 3
  | .warn => 4
  | .live => 5
  | .closing => 6
  | .next => 7
  | .request => 8
  | .closed => 9
  | .vacant => 10
  | .idle => 11

/-- Whether a pattern is active at a value of the blink counter (R105). -/
def patternActive (blink : Nat) : Pattern → Bool
  | .off => false
  | .on => true
  | .slow => blink < 500
  | .fast => blink % 250 < 125

/-- The level of an output, true for high (R106). -/
def outputLevel (pol : Polarity) (isActive : Bool) : Bool :=
  match pol with
  | .activeHigh => isActive
  | .activeLow => !isActive

/-- The three outputs of a seat: by its pattern, and inactive for a seat that is not installed (R103) and
in STANDBY (R110). -/
def indicatorOf (p : Part) (s : SeatId) : Indicator :=
  let lit := (p.seat s).installed && p.pwu.power ≠ .standby
  let e := p.sgu.patterns.get (indicationIndex (p.indicationOf s))
  ⟨outputLevel p.sgu.polarity.red (lit && patternActive p.sgu.blink e.red),
   outputLevel p.sgu.polarity.green (lit && patternActive p.sgu.blink e.green),
   outputLevel p.sgu.polarity.light (lit && patternActive p.sgu.blink e.light)⟩

/-- The microphone-enable line of a seat: asserted while the seat holds a slot that is not FREE (R102). -/
def micEnableOf (p : Part) (s : SeatId) : Bool := (p.slotOf s).isSome

/-- Every output at the level its rule gives: indication and indicators (R103), microphone-enable lines
(R102), select and blank lines (R132, R133), attention lines (R190). -/
def drivePins (p : Part) : Part :=
  ((p.withSgu { p.sgu with indication := Vector.ofFn fun s => p.indicationOf s }).withPins
    { indicators := Vector.ofFn fun s => p.indicatorOf s
      micEnable := Vector.ofFn fun s => p.micEnableOf s
      select := Vector.ofFn fun k => BitVec.ofNat 4 (p.screen k).driven.val
      blank := Vector.ofFn fun k => (p.screen k).settle = .settling }).driveAttention

end Sys2Proof.Machine.Part
end

