-- ==== Sys2Proof/Machine/Power.lean ====
section
/-! DEFINITION. PWU: the wake (R201) and what each block does at it. The standby entry stands in Standby.lean,
because it makes reports to SMN. -/

namespace Sys2Proof.Machine.Part

/-- The power state takes a value; a change raises a POWER notice (R198). -/
def changePower (p : Part) (x : PowerState) : Part :=
  (p.setPower x).noticeIf (p.pwu.power ≠ x) .power

/-- SFE at the wake: the first WAKING frame of every key channel that is not OFF is still to run (R42). -/
def wakeChannels (p : Part) : Part :=
  p.withSfe { p.sfe with
    channels := mapTable
      (fun c x => if kindOf c = .key ∧ x.state ≠ .off then { x with firstWake := true } else x)
      p.sfe.channels }

/-- SCU at the wake: capture starts from WAIT_FIRST on every enabled socket outside the wake mask (R125). -/
def wakeSockets (p : Part) : Part :=
  p.withScu { p.scu with
    sockets := mapTable
      (fun k x => if x.enable ∧ !p.inMask k then { x with phase := .waitFirst, counter := 0, lastEdge := none } else x)
      p.scu.sockets }

/-- The wake (R201): one event, and only in STANDBY. -/
def wake (p : Part) : Part :=
  if p.pwu.power = .standby then
    let q := (p.changePower .waking).withPwu { p.pwu with power := .waking, settle := 0, quiet := 0 }
    (q.wakeChannels.wakeSockets).setOverride false
  else p

/-- The occupied count leaves 0, or a socket goes live: the quiet timer becomes 0 (R199). -/
def clearQuiet (p : Part) : Part := p.withPwu { p.pwu with quiet := 0 }

/-- At a minute event in STANDBY, a next start at or before now + the pre-wake lead wakes the part (R201). -/
def preWake (p : Part) : Part :=
  if p.nextStart < 1440 ∧ p.nextStart ≤ p.sch.clock.minute + p.pwu.lead then p.wake else p

end Sys2Proof.Machine.Part
end

