-- ==== Sys2Proof/Machine/Floor.lean ====
section
/-! DEFINITION. FLC: the request queue, grants and closes, auto-advance, presses and chair gestures, speaking
time, and the opening and closing of the floor (chapter 4). -/

namespace Sys2Proof.Machine

/-- What a press of a key came to (R71, R75, R85). -/
inductive PressResult where
  | opened | closed | withdrawn | queued | refused | queueFull
  deriving DecidableEq, Repr

namespace Part

/-! ### Counters (R59) -/

/-- The counters of a seat change only while a session is open (R59). -/
def count (p : Part) (s : SeatId) (f : Counters → Counters) : Part :=
  if p.sessionOpen then p.setSeat s { p.seat s with counters := f (p.seat s).counters } else p

/-- A two-byte counter stops at its maximum (R46). -/
def bump16 (n : Nat) : Nat := min (n + 1) 65535

/-- A three-byte counter stops at its maximum (R46). -/
def bump24 (n : Nat) : Nat := min (n + 1) 16777215

def countRequest (p : Part) (s : SeatId) : Part := p.count s fun c => { c with requests := bump16 c.requests }
def countGrant (p : Part) (s : SeatId) : Part := p.count s fun c => { c with grants := bump16 c.grants }
def countRefused (p : Part) (s : SeatId) : Part := p.count s fun c => { c with refused := bump16 c.refused }
def countStray (p : Part) (s : SeatId) : Part := p.count s fun c => { c with stray := bump16 c.stray }
def countSpeaking (p : Part) (s : SeatId) : Part := p.count s fun c => { c with speaking := bump24 c.speaking }

/-! ### The queue (R65, R66) -/

/-- The rank of an entry's class: override first, then priority, then plain (R65). -/
def classRank (e : QueueEntry) : Nat := if e.override then 0 else if e.priority then 1 else 2

/-- A new entry stands immediately before the first entry whose class ranks below its own, or at the tail
(R65). -/
def insertEntry (e : QueueEntry) : List QueueEntry → List QueueEntry
  | [] => [e]
  | x :: xs => if classRank e < classRank x then e :: x :: xs else x :: insertEntry e xs

/-- The queue changes, with a FLOOR notice when it does (R62). -/
def setQueue (p : Part) (q : List QueueEntry) : Part :=
  (p.withFlc { p.flc with queue := q }).noticeIf (p.flc.queue ≠ q) .floor

/-- The queue holds 16 entries (R65). -/
def queueFull (p : Part) : Bool := Config.queueSize ≤ p.flc.queue.length

/-- Seat s joins the queue and takes the next sequence number (R65). -/
def join (p : Part) (s : SeatId) (override : Bool) : Part :=
  let e : QueueEntry := ⟨s, (p.seat s).priority, override, p.flc.nextNumber, p.flc.seconds⟩
  (p.setQueue (insertEntry e p.flc.queue)).withFlc
    { p.flc with queue := insertEntry e p.flc.queue, nextNumber := p.flc.nextNumber + 1 }

/-- The entry of seat s, if any, leaves the queue (R66). -/
def leaveQueue (p : Part) (s : SeatId) : Part := p.setQueue (p.flc.queue.filter fun e => e.seat ≠ s)

/-! ### Grants and closes (R67 to R70) -/

/-- The grant of delegate slot k to seat s (R68). -/
def grantSlot (p : Part) (k : SlotId) (s : SeatId) : Part :=
  let q := ((p.openSlot k s).notice .floor).leaveQueue s
  (q.withFlc { q.flc with openOrder := q.flc.openOrder ++ [k] }).countGrant s

/-- Seat s is granted the slot that the arbiter hands out; nothing when no slot is available (R67, R68). -/
def grant (p : Part) (s : SeatId) : Part :=
  match p.available with
  | some k => p.grantSlot k s
  | none => p

/-- The close of a slot in OPENING or LIVE: it leaves the open order and goes CLOSING (R69). A slot in another
state is not closed. -/
def close (p : Part) (k : SlotId) (r : SlotReason) : Part :=
  if isOpenState (p.slot k).state then
    (((p.withFlc { p.flc with openOrder := p.flc.openOrder.filter (· ≠ k) }).closeSlot k r)).notice .floor
  else p

/-- One round of auto-advance: while a slot is available, the head is granted (R70). The fuel bounds the grants
of one run. -/
def advance : Nat → Part → Part
  | 0, p => p
  | n + 1, p =>
    match p.available, p.flc.queue with
    | some k, e :: _ => advance n (p.grantSlot k e.seat)
    | _, _ => p

/-- Auto-advance (R70): only while the floor is open and the mode is DIRECT, QUEUE or OVERRIDE. A run makes at
most as many grants as the queue has entries. -/
def autoAdvance (p : Part) : Part :=
  if p.flc.isOpen ∧ p.flc.mode ≠ .chair then advance p.flc.queue.length p else p

/-- FLC takes SGU's report that slot k has reached FREE; for a delegate slot, auto-advance runs (R69). -/
def takeFree (p : Part) (k : SlotId) : Part :=
  let q := (p.freeSlotRecord k).notice .floor
  if k = 0 then q else q.autoAdvance

/-! ### Presses (R71 to R74) -/

/-- A refused press: the REFUSED indication and the seat's refused-presses counter (R74). -/
def refusePress (p : Part) (s : SeatId) : Part := (p.showRefused s).countRefused s

/-- The LIVE delegate slot that stands first in the open order (R73). -/
def firstLive (p : Part) : Option SlotId := p.flc.openOrder.find? fun k => (p.slot k).state = .live

/-- The outcome of a new request that joined the queue. R85 names OPENED and QUEUED and does not say which of them answers a
join that auto-advance grants at the same event; the model answers OPENED when the seat holds a slot at the end of the
event. DEDUCED (log entry 57). -/
def joinResult (p : Part) (s : SeatId) : PressResult := if (p.slotOf s).isSome then .opened else .queued

/-- A new request that joins the queue and lets auto-advance run (R72, R73). -/
def joinAndAdvance (p : Part) (s : SeatId) (override : Bool) : Part × PressResult :=
  let q := ((p.join s override).autoAdvance).countRequest s
  (q, q.joinResult s)

/-- A new request that opens a slot at once (R72, R73). -/
def openAtOnce (p : Part) (k : SlotId) (s : SeatId) : Part × PressResult :=
  ((p.grantSlot k s).countRequest s, .opened)

/-- A press refused because the queue holds 16 entries (R72, R73). -/
def refuseFull (p : Part) (s : SeatId) : Part × PressResult := (p.refusePress s, .queueFull)

/-- A new request of an idle seat, by the floor mode (R72, R73). -/
def newRequest (p : Part) (s : SeatId) : Part × PressResult :=
  match p.flc.mode with
  | .direct =>
    match p.available with
    | some k => p.openAtOnce k s
    | none => if p.queueFull then p.refuseFull s else ((p.join s false).countRequest s, .queued)
  | .queue => if p.queueFull then p.refuseFull s else p.joinAndAdvance s false
  | .chair => if p.queueFull then p.refuseFull s else ((p.join s false).countRequest s, .queued)
  | .override =>
    match p.available with
    | some k => p.openAtOnce k s
    | none =>
      if p.queueFull then p.refuseFull s
      else match p.firstLive with
        | some k => (p.close k .override).joinAndAdvance s true
        | none => p.joinAndAdvance s false

/-- A delegate press, by the first case of R71 that applies. -/
def delegatePress (p : Part) (s : SeatId) : Part × PressResult :=
  if !p.flc.isOpen then (p.refusePress s, .refused)
  else if p.isQueued s then (p.leaveQueue s, .withdrawn)
  else match p.slotOf s with
    | some k =>
      if isOpenState (p.slot k).state then (p.close k .self, .closed) else (p.refusePress s, .refused)
    | none => p.newRequest s

/-! ### Chair gestures (R75, R76) -/

/-- A chair toggle, by the state of the chair slot (R75). A refused one leaves the chair seat's refused-presses counter as R75
says, also when it comes from PRESS, whose R85 counts a refusal as a refused press "as for a press of the key". DEDUCED (log
entry 53). -/
def chairToggle (p : Part) : Part × PressResult :=
  let s := p.chairSeat
  if !p.flc.isOpen then (p.showRefused s, .refused)
  else if isOpenState (p.slot 0).state then (p.close 0 .self, .closed)
  else ((p.openSlot 0 s).notice .floor, .opened)

/-- GRANT naming seat s, by the first case of R77 that applies. -/
def grantRequest (p : Part) (s : SeatId) : Part × Status :=
  if !p.flc.isOpen then (p, .state)
  else if !p.isDelegate s then (p, .state)
  else if !p.presentForKey s then (p, .state)
  else if (p.slotOf s).isSome then (p, .state)
  else match p.available with
    | some k => (p.grantSlot k s, .done)
    | none =>
      if p.isQueued s then (p, .full)
      else if p.queueFull then (p, .full)
      else (p.join s false, .full)

/-- GRANT NEXT: GRANT naming the head (R78). -/
def grantNext (p : Part) : Part × Status :=
  if !p.flc.isOpen then (p, .state)
  else match p.flc.queue with
    | [] => (p, .state)
    | e :: _ => p.grantRequest e.seat

/-- A chair next: GRANT NEXT when that would be DONE, and otherwise the REFUSED indication on the chair seat
(R76). -/
def chairNext (p : Part) : Part :=
  if p.grantNext.2 = .done then p.grantNext.1 else p.showRefused p.chairSeat

/-! ### Chair requests (R79 to R85) -/

/-- The slots are closed one after another, in the order of the list. For SET LIMIT that order is R83's; for MUTE ALL R81
gives none, and the caller's list has slot order. DESIGN CHOICE (log entry 58). -/
def closeEach (p : Part) (ks : List SlotId) (r : SlotReason) : Part := ks.foldl (fun q k => q.close k r) p

/-- MUTE ALL: every delegate slot in OPENING or LIVE closes with reason MUTE (R81). -/
def muteAll (p : Part) : Part := p.closeEach delegateSlots .mute

/-- SET MODE: the mode is replaced, every override mark is cleared, and auto-advance may run (R82). -/
def setMode (p : Part) (m : FloorMode) : Part :=
  let cleared := p.flc.queue.map fun e => { e with override := false }
  let q := ((p.setQueue cleared).withFlc { p.flc with queue := cleared, mode := m }).noticeIf (p.flc.mode ≠ m) .floor
  q.autoAdvance

/-- SET LIMIT with the limit as clamped: the newest grants close with reason LIMIT, or auto-advance runs
(R83). -/
def setLimit (p : Part) (n : Nat) : Part :=
  let q := (p.withFlc { p.flc with limit := n }).noticeIf (p.flc.limit ≠ n) .floor
  if n < p.openCount then q.closeEach (p.flc.openOrder.reverse.take (p.openCount - n)) .limit
  else if p.flc.limit < n then q.autoAdvance
  else q

/-! ### Speaking time (R86, R87) -/

/-- The effective warning lead (R87). -/
def effectiveLead (f : Flc) : Nat := min f.lead (f.speak / 2)

/-- The warned mark for an elapsed time (R87). -/
def warnedMark (f : Flc) (elapsed : Nat) : Warned :=
  if f.speak = 0 then .none
  else if f.speak ≤ elapsed then .over
  else if f.speak - effectiveLead f ≤ elapsed then .warn
  else .none

/-- The evaluation of a delegate slot in OPENING or LIVE: its mark, and with enforce on the close of an OVER
slot with reason TIME (R87). -/
def evaluate (p : Part) (k : SlotId) : Part :=
  let x := p.slot k
  if isOpenState x.state then
    let m := warnedMark p.flc x.elapsed
    let q := (p.setSlot k { x with warned := m }).noticeIf (x.warned ≠ m) .floor
    if m = .over ∧ p.flc.enforce then q.close k .time else q
  else p

/-- Every delegate slot is evaluated (R84, R87), in slot order, which is the order in which several slots close with reason
TIME at one event; the rules give none. DESIGN CHOICE (log entry 58). -/
def evaluateAll (p : Part) : Part := delegateSlots.foldl evaluate p

/-- SET SPEAK LIMIT with the limit as taken (R84). -/
def setSpeakLimit (p : Part) (n : Nat) (enforce : Bool) : Part :=
  ((p.withFlc { p.flc with speak := n, enforce := enforce }).noticeIf
    (p.flc.speak ≠ n || p.flc.enforce ≠ enforce) .floor).evaluateAll

/-- A slot in OPENING or LIVE adds a second, and its holder a speaking second (R86). -/
def countSlotSecond (p : Part) (k : SlotId) : Part :=
  let x := p.slot k
  if isOpenState x.state then
    let q := p.setSlot k { x with elapsed := bump16 x.elapsed }
    match x.holder with
    | some s => q.countSpeaking s
    | none => q
  else p

/-- FLC's second event: the floor second counter, speaking time, and then the evaluation (R62, R86, R87). -/
def floorSecond (p : Part) : Part :=
  (allSlots.foldl countSlotSecond (p.withFlc { p.flc with seconds := p.flc.seconds + 1 })).evaluateAll

/-! ### Opening, closing and presets (R63, R64, R88) -/

/-- The floor opens (R63). -/
def openFloor (p : Part) : Part := (p.withFlc { p.flc with isOpen := true }).noticeIf (!p.flc.isOpen) .floor

/-- The floor close on one slot: an open slot closes, and a CLOSING one has its reason replaced (R63, R98). -/
def floorCloseSlot (p : Part) (k : SlotId) : Part :=
  if isOpenState (p.slot k).state then p.close k .floorClosed
  else if (p.slot k).state = .closing then p.setSlot k { p.slot k with reason := some .floorClosed }
  else p

/-- The floor closes at WINDUP entry: the queue and the open order are emptied and every slot that is not FREE
ends with reason FLOOR_CLOSED (R63). The open slots close in slot order, the chair slot first; R63 gives no order. DESIGN
CHOICE (log entry 58). -/
def closeFloor (p : Part) : Part :=
  let q := allSlots.foldl floorCloseSlot (p.setQueue [])
  (q.withFlc { q.flc with openOrder := [], isOpen := false }).noticeIf p.flc.isOpen .floor

/-- A floor preset replaces the mode, the limit (clamped to 1 to 6), the speaking limit and enforce (R64). -/
def applyFloorPreset (p : Part) (f : FloorPreset) : Part :=
  let x := { p.flc with mode := f.mode, limit := clamp 1 6 f.limit, speak := f.speak, enforce := f.enforce }
  (p.withFlc x).noticeIf (p.flc ≠ x) .floor

/-- FLC takes a seat's change to VACANT: its entry is removed and its open slot closes with reason ABSENT
(R88). -/
def seatVacant (p : Part) (s : SeatId) : Part :=
  let q := p.leaveQueue s
  match q.slotOf s with
  | some k => q.close k .absent
  | none => q

/-- A TABLE RESET on the floor: not open, queue and open order empty, the default floor preset in force, every
slot freed at once (R62, R63, R99). -/
def resetFloor (p : Part) : Part :=
  let slotsChange := !p.allFree
  let q := ((p.setQueue []).cutAll).noticeIf slotsChange .floor
  ((q.withFlc { q.flc with openOrder := [], isOpen := false }).noticeIf p.flc.isOpen .floor).applyFloorPreset p.flc.preset

end Part

end Sys2Proof.Machine
end

