-- ==== Sys2Proof/Machine/Session.lean ====
section
/-! DEFINITION. SSU: opening, check-in, the stage test, release, vacancy, WINDUP and close, walk-ins, pending starts
and the summary store (chapter 9). -/

namespace Sys2Proof.Machine.Part

/-- The session record changes, with a SESSION notice (R161). -/
def putSession (p : Part) (x : Option Session) : Part := (p.setSession x).notice .session

/-- The pending start is set or dropped, with a SESSION notice when it changes (R161). -/
def setPendingStart (p : Part) (x : Option Nat) : Part :=
  (p.withSsu { p.ssu with pendingStart := x }).noticeIf (p.ssu.pendingStart ≠ x) .session

/-! ### The stage test (R162) -/

/-- The grace end: E + g, or the next start of today when that is earlier (R162). -/
def graceEnd (p : Part) (e : Nat) : Nat :=
  if p.nextStart < 1440 then min (e + p.ssu.params.overtime) (p.sch.clock.day * 1440 + p.nextStart)
  else e + p.ssu.params.overtime

/-- The state that the stage test gives for an effective end (R162). -/
def stageFor (p : Part) (e : Nat) : SessionState :=
  if !p.reached e then
    if e ≤ p.now + p.ssu.params.warning then .ending else .inSession
  else if !p.reached (p.graceEnd e) then .overtime
  else .windup

/-- WINDUP entry: the state and the close reason are set and FLC closes the floor (R173). -/
def enterWindup (p : Part) (r : CloseReason) : Part :=
  match p.ssu.session with
  | some x => (p.putSession (some { x with state := .windup, reason := some r })).closeFloor
  | none => p

/-- The stage test of a session in IN_SESSION, ENDING or OVERTIME, up to and including a WINDUP entry (R162).
The completion of a WINDUP is taken by `completeWindup`. A stage test that gives IN_SESSION to a session in ENDING or OVERTIME
keeps its vacancy timer: the model takes this for a return to IN_SESSION (R63) and not for the entry that sets the timer to 0
(R168). DEDUCED (log entry 60). -/
def stageStep (p : Part) : Part :=
  match p.ssu.session with
  | some x =>
    if runningState x.state then
      let st := p.stageFor x.effEnd
      if st = .windup then p.enterWindup .ended
      else if st = x.state then p
      else p.putSession (some { x with state := st })
    else p
  | none => p

/-! ### Opening (R165, R166, R172) -/

/-- The entry to IN_SESSION: the vacancy timer starts at 0, the floor opens, and the stage test is made (R63, R162,
R168). -/
def enterSession (p : Part) (x : Session) : Part :=
  ((p.putSession (some { x with state := .inSession, vacancy := 0 })).openFloor).stageStep

/-- The check-in of an AWAITING session whose occupied count is at or above the quorum of its copy (R166). -/
def checkIn (p : Part) : Part :=
  match p.ssu.session with
  | some x =>
    match x.copy with
    | some c =>
      if x.state = .awaiting ∧ c.quorum ≤ p.smn.occupied then
        p.enterSession { x with checkedIn := some p.sch.clock.minute }
      else p
    | none => p
  | none => p

/-- The session record of a booked opening (R165, steps 1 and 2). -/
def bookedSession (p : Part) (b : Booking) : Session :=
  { kind := .booked, booking := some b.id, copy := some b, state := .awaiting
    openDay := p.sch.clock.day, openMinute := p.sch.clock.minute, checkedIn := none
    effEnd := p.sch.clock.day * 1440 + b.stop, unlisted := false, peak := p.smn.occupied
    reason := none, await := 0, vacancy := 0 }

/-- The opening of a booked entry: one event, in the steps of R165. -/
def openBooked (p : Part) (b : Booking) : Part :=
  let q := ((((p.putSession (some (p.bookedSession b))).markEntry b.id .pending .active).setPendingStart none).applyFloorPreset
    b.floor).applyPreset b.screen
  let r := q.withSsu { q.ssu with dwell := 0 }
  if b.checkIn then r.checkIn else r.enterSession (p.bookedSession b)

/-- The session record of a walk-in (R172). -/
def walkInSession (p : Part) : Session :=
  { kind := .walkIn, booking := none, copy := none, state := .inSession
    openDay := p.sch.clock.day, openMinute := p.sch.clock.minute, checkedIn := none
    effEnd := p.sch.clock.day * 1440 + min (p.sch.clock.minute + p.ssu.params.length) p.nextStart
    unlisted := false, peak := p.smn.occupied, reason := none, await := 0, vacancy := 0 }

/-- The opening of a walk-in: one event (R172). -/
def openWalkIn (p : Part) : Part :=
  let x := p.walkInSession
  let q := ((p.putSession (some x)).applyFloorPreset p.flc.preset).applyPreset 0
  (q.withSsu { q.ssu with dwell := 0 }).enterSession x

/-- The pending start opens, or is dropped when its entry no longer qualifies (R165). It waits while a session is
open or the power state is not ACTIVE. -/
def openPending (p : Part) : Part :=
  match p.ssu.pendingStart with
  | some id =>
    if p.sessionOpen || p.pwu.power ≠ .active then p
    else if !p.isCurrent then p.setPendingStart none
    else match p.comingEntries.find? fun e => e.booking.id = id with
      | some e => p.openBooked e.booking
      | none => p.setPendingStart none
  | none => p

/-! ### Close and summary (R173, R174, R177, R178) -/

/-- Some counter of a seat is above 0. -/
def anyCount (c : Counters) : Bool := c ≠ Counters.zero

/-- The seat lines of a summary: each installed seat with any counter above 0, in seat order (R177). -/
def seatLines (p : Part) : List SeatLine :=
  ((List.finRange 20).filter fun s => (p.seat s).installed && anyCount (p.seat s).counters).map
    fun s => ⟨s, (p.seat s).counters⟩

/-- The organiser seat of a summary: the copy's, or the chair seat; absent for a walk-in (R177). -/
def organiserOf (p : Part) (x : Session) : Option SeatId :=
  match x.copy with
  | some c => some (c.organiser.getD p.chairSeat)
  | none => none

/-- The summary of a session that closes now with a reason (R177). -/
def summaryOf (p : Part) (x : Session) (r : CloseReason) : Summary :=
  { number := p.ssu.nextSummary, kind := x.kind, booking := x.booking, organiser := p.organiserOf x
    openDay := x.openDay, openMinute := x.openMinute
    closeDay := p.sch.clock.day, closeMinute := p.sch.clock.minute
    reason := r, checkedIn := x.checkedIn, peak := x.peak, unlisted := x.unlisted, lines := p.seatLines }

/-- The store after a write: the newest two summaries, oldest first (R178). -/
def storeAfter (store : List Summary) (x : Summary) : List Summary :=
  if store.length < 2 then store ++ [x] else store.drop (store.length - 1) ++ [x]

/-- A summary is written: the oldest is discarded with the lost mark when two are held, and SUMMARY is raised
(R178). -/
def writeSummary (p : Part) (x : Summary) : Part :=
  (p.withSsu { p.ssu with
    store := storeAfter p.ssu.store x
    lost := p.ssu.lost || 2 ≤ p.ssu.store.length
    nextSummary := if p.ssu.nextSummary ≥ 65535 then 1 else p.ssu.nextSummary + 1 }).notice .summary

/-- SMN sets every counter of every seat to 0 (R59). -/
def clearCounters (p : Part) : Part :=
  p.withSmn { p.smn with seats := mapTable (fun _ x => { x with counters := Counters.zero }) p.smn.seats }

/-- The privacy mark of a close: the copy's privacy at close, no for a walk-in (R137, R174). -/
def privacyMark (x : Session) : Bool :=
  match x.copy with
  | some c => c.privacy
  | none => false

/-- The status that the close gives the session's ACTIVE entry (R174, step 2). -/
def closedStatus (r : CloseReason) : EntryStatus := if r = .released then .released else .done

/-- Steps 1 and 2 of the close: the summary, the counters, the entry (R174). -/
def closeRecords (p : Part) (x : Session) (r : CloseReason) : Part :=
  let q := (p.writeSummary (p.summaryOf x r)).clearCounters
  match x.booking with
  | some id => q.markEntry id .active (closedStatus r)
  | none => q

/-- The close of a session: steps 1 to 5 of R174. -/
def closeSession (p : Part) (x : Session) (r : CloseReason) : Part :=
  (((p.closeRecords x r).routeClose (privacyMark x)).applyFloorPreset p.flc.preset).putSession none

/-- A session in WINDUP closes when every slot is FREE (R173, R174). -/
def closeWindup (p : Part) : Part :=
  match p.ssu.session with
  | some x => if x.state = .windup ∧ p.allFree then p.closeSession x (x.reason.getD .ended) else p
  | none => p

/-- The completion of a WINDUP, with the opening of a pending start (R174, step 6). A session that opens there and
goes to WINDUP at once closes in turn; no pending start is then left. -/
def completeWindup (p : Part) : Part :=
  match p.ssu.session with
  | some x => if x.state = .windup ∧ p.allFree then (p.closeWindup.openPending).closeWindup else p
  | none => p

/-- WINDUP from its entry; with every slot FREE it completes at the entry (R173). -/
def windup (p : Part) (r : CloseReason) : Part := (p.enterWindup r).completeWindup

/-- The stage test with all that follows from it at the same event (R162, R173). -/
def stageTest (p : Part) : Part := p.stageStep.completeWindup

/-- The check-in test with all that follows from it at the same event (R166). -/
def checkInTest (p : Part) : Part := p.checkIn.completeWindup

/-- The release of an AWAITING session: it closes without WINDUP, and a pending start opens (R166, R174). -/
def release (p : Part) (x : Session) : Part := ((p.closeSession x .released).openPending).closeWindup

/-- The release tests of an AWAITING session: its effective end, and with `window` its check-in window (R166). -/
def releaseTest (p : Part) (window : Bool) : Part :=
  match p.ssu.session with
  | some x =>
    if x.state = .awaiting then
      let expired := match x.copy with
        | some c => match c.window with
          | some w => w ≤ x.await
          | none => false
        | none => false
      if p.reached x.effEnd || (window && expired) then p.release x else p
    else p
  | none => p

/-- The test that an event makes of the open session: the end test or release tests in AWAITING, the stage test in
IN_SESSION, ENDING and OVERTIME (R163, R167, R171). -/
def endTest (p : Part) (window : Bool) : Part := (p.releaseTest window).stageTest

/-! ### The opening test (R164) -/

/-- The opening test, by the first case of R164 that applies. In STANDBY, SSU passes the pending start to PWU,
which wakes the part (R201). -/
def openingTest (p : Part) : Part :=
  match p.dueEntry with
  | none => p
  | some e =>
    if p.ssu.pendingStart = some e.booking.id then p
    else match p.ssu.session with
      | none =>
        if p.pwu.power = .active then (p.openBooked e.booking).closeWindup
        else (p.setPendingStart (some e.booking.id)).wake
      | some x =>
        if x.state = .windup then p.setPendingStart (some e.booking.id)
        else (p.setPendingStart (some e.booking.id)).windup .preempted

/-- The pending start is dropped when the published bank does not hold it PENDING (R163, R171). -/
def dropStalePending (p : Part) : Part :=
  match p.ssu.pendingStart with
  | some id => if p.isPending id then p else p.setPendingStart none
  | none => p

/-! ### Walk-ins (R170) -/

/-- The conditions under which the dwell timer counts (R170). -/
def walkInReady (p : Part) : Bool :=
  !p.sessionOpen && p.ssu.pendingStart.isNone && p.ssu.params.quorum ≠ 0 && p.ssu.params.quorum ≤ p.smn.occupied

/-- The walk-in test passes: no booking starts within the minimum free time, and the power state is ACTIVE (R170). A
next start at or before now fails it (R175). -/
def walkInPasses (p : Part) : Bool :=
  (p.nextStart = 1440 ||
    (p.sch.clock.minute < p.nextStart && p.sch.clock.minute + p.ssu.params.minFree ≤ p.nextStart)) &&
  p.pwu.power = .active

/-- The walk-in test (R170). -/
def walkInTest (p : Part) : Part :=
  if p.walkInReady && p.walkInPasses then p.openWalkIn.completeWindup else p

/-- The walk-in test where it is repeated: while the dwell timer stands at the walk-in dwell (R163, R170, R171). -/
def repeatWalkIn (p : Part) : Part := if p.ssu.params.dwell ≤ p.ssu.dwell then p.walkInTest else p

/-- The dwell timer at a second event (R170). -/
def countDwell (p : Part) : Part :=
  if p.walkInReady ∧ p.ssu.dwell < p.ssu.params.dwell then
    let q := p.withSsu { p.ssu with dwell := p.ssu.dwell + 1 }
    if q.ssu.dwell = q.ssu.params.dwell then q.walkInTest else q
  else p

/-- The end of an event for the dwell timer: it becomes 0 when its conditions do not hold; with a dwell of 0 the
walk-in test is made at the event at which they come to hold (R170). -/
def concludeDwell (before after : Part) : Part :=
  if !after.walkInReady then after.withSsu { after.ssu with dwell := 0 }
  else if after.ssu.params.dwell = 0 && !before.walkInReady then after.walkInTest
  else after

/-! ### The session clock (R163, R168, R171) -/

/-- A session ends for vacancy when its timer has reached the timeout (R168). -/
def vacancyTest (p : Part) : Part :=
  match p.ssu.session with
  | some x =>
    if runningState x.state ∧ p.ssu.params.vacancy ≠ 0 ∧ p.ssu.params.vacancy * 60 ≤ x.vacancy then
      p.windup .vacated
    else p
  | none => p

/-- The vacancy timer at a second event (R168). -/
def countVacancy (p : Part) : Part :=
  match p.ssu.session with
  | some x =>
    if runningState x.state ∧ p.smn.occupied = 0 then
      (p.setSession (some { x with vacancy := min (x.vacancy + 1) 3600 })).vacancyTest
    else p
  | none => p

/-- SSU's second event (R163). -/
def sessionSecond (p : Part) : Part := p.countVacancy.countDwell

/-- The session now open was open when the event began: every close writes a summary, so none was opened since (R174,
R178). -/
def sameSession (before after : Part) : Bool := before.sessionOpen && before.ssu.nextSummary = after.ssu.nextSummary

/-- The await timer at a minute event (R166). A session that this same event opened does not count it: its window runs from
the minute event that opened it. One opened between minute events counts the next, and so has up to one minute less than its
window, where R166's last sentence on it says more: the count is followed. DEDUCED (log entry 55). -/
def countAwait (before p : Part) : Part :=
  match p.ssu.session with
  | some x =>
    if x.state = .awaiting ∧ sameSession before p then p.setSession (some { x with await := min (x.await + 1) 30 }) else p
  | none => p

/-- SSU's minute event, after its second-event work: steps 1 to 4 of R163. `before` is the part as the event found it. -/
def sessionMinute (before p : Part) : Part :=
  (((countAwait before p.dropStalePending).endTest true).openingTest).repeatWalkIn

/-- SSU takes a clock jump (R171). -/
def sessionJump (p : Part) : Part :=
  ((p.dropStalePending.endTest false).openingTest).repeatWalkIn

/-- SSU takes a change of the occupied count from `old`: the peak, the vacancy timer, and check-in (R166, R168,
R177). -/
def occupiedChanged (p : Part) (old : Nat) : Part :=
  match p.ssu.session with
  | some x =>
    let y := { x with
      peak := max x.peak p.smn.occupied
      vacancy := if old = 0 ∧ runningState x.state then 0 else x.vacancy }
    (p.setSession (some y)).checkInTest
  | none => p

/-- The entry of the power state to ACTIVE at the end of WAKING: a pending start opens, and the walk-in test is repeated while
the dwell timer stands at the dwell (R165, R170, R202). R170 says so of a test of which only the power part failed; the
model repeats it also where the free-time part had failed too. DEDUCED (log entry 62). -/
def enterActive (p : Part) : Part := ((p.changePower .active).openPending.closeWindup).repeatWalkIn

/-- The end of the settle of WAKING (R202). -/
def endSettling (p : Part) : Part := (p.withPwu { p.pwu with settle := 0 }).enterActive

/-- EXTEND's effect on the session: its effective end, and the tests against it (R158, R167). -/
def extendTo (p : Part) (x : Session) (e : Nat) : Part :=
  (((p.setSession (some { x with effEnd := e })).noticeIf (x.effEnd ≠ e) .session).releaseTest true).stageTest

/-- A TABLE RESET in SSU: an open session closes at once with reason RESET, with no privacy blanking and without
opening a pending start; with a session open or none, the pending start is dropped and the dwell timer becomes 0 (R176). -/
def resetSession (p : Part) : Part :=
  let q : Part := match p.ssu.session with
    | some x => (p.closeRecords x .reset).putSession none
    | none => p
  let r := q.setPendingStart none
  r.withSsu { r.ssu with dwell := 0 }

/-- The pending start whose opening follows a TABLE RESET: the one that waits for the end of WAKING, with no session open
(R202). DEDUCED (log entry 17). -/
def startAtWake (p : Part) : Option Nat :=
  if p.pwu.power = .waking ∧ p.ssu.session = none then p.ssu.pendingStart else none

end Sys2Proof.Machine.Part
end

