-- ==== Sys2Proof/Machine/Presence.lean ====
section
/-! DEFINITION. SMN: presence from the proximity channels, keys from the key channels, the absence timers, and what
each change is passed on to (chapter 3). -/

namespace Sys2Proof.Machine.Part

/-! ### Presence (R47 to R52) -/

/-- The presence and the absence timer that a proximity report gives (R47). A pair that the channel's reports cannot
produce leaves them. With an absence grace of 0 an OCCUPIED seat goes VACANT at the report, so that a key down taken after it
meets R54's test of a VACANT seat; R58's row of that pair speaks of AWAY alone. DEDUCED (log entry 51). -/
def presenceAfter (grace : Nat) (x : Seat) : Sensed → Presence × Nat
  | .active =>
    match x.presence with
    | .vacant => (.occupied, x.absence)
    | .away => (.occupied, 0)
    | y => (y, x.absence)
  | .inactive =>
    match x.presence with
    | .occupied => (if grace = 0 then .vacant else .away, 0)
    | .unknown => (if grace = 0 then .vacant else .away, 0)
    | y => (y, x.absence)
  | .fault =>
    match x.presence with
    | .unknown => (.unknown, x.absence)
    | .away => (.unknown, 0)
    | _ => (.unknown, x.absence)

/-- The occupied count is brought up to date, and a change of it is passed to SSU and PWU (R51, R52). Each change is an event of
its own for the walk-in dwell, also within a sensing frame (R47, R170). -/
def updateCount (p : Part) : Part :=
  let old := p.smn.occupied
  let q := p.withSmn { p.smn with occupied := p.occupiedSeats }
  if q.smn.occupied = old then q
  else
    let r := if old = 0 then q.clearQuiet else q
    concludeDwell p (r.occupiedChanged old)

/-- A seat's presence changes: a SEAT notice, FLC for a change to VACANT, and the occupied count (R52, R88). -/
def changePresence (p : Part) (s : SeatId) (y : Presence) (timer : Nat) : Part :=
  let x := p.seat s
  let q := p.setSeat s { x with presence := y, absence := timer }
  if y = x.presence then q
  else
    let r := q.notice .seat
    let t := if y = .vacant then r.seatVacant s else r
    t.updateCount

/-- SMN takes a report of seat s's proximity channel (R47). -/
def proximityReport (p : Part) (s : SeatId) (o : Sensed) : Part :=
  let y := presenceAfter p.smn.grace (p.seat s) o
  p.changePresence s y.1 y.2

/-- The absence timer has reached the grace: the seat becomes VACANT (R48). -/
def absenceExpiry (p : Part) (s : SeatId) : Part :=
  if (p.seat s).presence = .away ∧ p.smn.grace ≤ (p.seat s).absence then p.changePresence s .vacant 0 else p

/-- A second of one seat: the absence timer of an AWAY seat (R48). -/
def countAbsence (p : Part) (s : SeatId) : Part :=
  if (p.seat s).presence = .away then
    (p.setSeat s { p.seat s with absence := (p.seat s).absence + 1 }).absenceExpiry s
  else p

/-- A second of the open session at a counted seat (R59). -/
def countOccupied (p : Part) (s : SeatId) : Part :=
  if counted (p.seat s).presence then
    p.count s fun c => { c with occupied := bump24 c.occupied }
  else p

/-- SMN's second event: the occupied seconds, then the absence timers (R48, R59). Several seats whose grace ends at this event
go VACANT, and close their slots (R88), in the order of their numbers: the rules give no order. DESIGN CHOICE (log entry 50). -/
def seatSecond (p : Part) : Part :=
  (List.finRange 20).foldl countAbsence ((List.finRange 20).foldl countOccupied p)

/-! ### Keys (R53 to R57) -/

/-- The acceptance test (R54). -/
def accepts (p : Part) (s : SeatId) : Bool := p.pwu.power = .active && p.presentForKey s

/-- A key down (R53, R54): accepted, which for a delegate seat is a delegate press (R55), or a stray touch. -/
def keyDown (p : Part) (s : SeatId) : Part :=
  let x := p.seat s
  if p.accepts s then
    let q := p.setSeat s { x with key := .down, press := 0, nextTaken := false, mark := .accepted }
    if s = p.chairSeat then q else (q.delegatePress s).1
  else (p.setSeat s { x with key := .down, press := 0, nextTaken := false, mark := .stray }).countStray s

/-- A key goes UP: the timer, the press mark and the gesture mark are at their UP values (R53, R57). -/
def keyUp (p : Part) (s : SeatId) : Part :=
  p.setSeat s { p.seat s with key := .up, press := 0, mark := .none, nextTaken := false }

/-- A debounced release: for an accepted chair key with no chair next taken, a chair toggle (R53, R56). -/
def keyRelease (p : Part) (s : SeatId) : Part :=
  let x := p.seat s
  let q := p.keyUp s
  if s = p.chairSeat ∧ x.mark = .accepted ∧ x.nextTaken = false then q.chairToggle.1 else q

/-- SMN takes a report of seat s's key channel (R53). -/
def keyReport (p : Part) (s : SeatId) (o : Sensed) (c : ReportCause) : Part :=
  match o with
  | .active => p.keyDown s
  | .inactive => if c = .debounce then p.keyRelease s else p.keyUp s
  | .fault => p.keyUp s

/-- A chair next is taken: the chair key is DOWN, accepted, held 2000 ms, and none has been taken in this hold
(R56). -/
def takeChairNext (p : Part) : Part :=
  let s := p.chairSeat
  let x := p.seat s
  if x.key = .down ∧ x.mark = .accepted ∧ x.nextTaken = false ∧ Config.chairHold ≤ x.press then
    (p.setSeat s { x with nextTaken := true }).chairNext
  else p

/-- A sensing frame of a seat whose key is DOWN: the press timer adds the frame period, and a chair next may be
taken (R55, R56). -/
def countPress (p : Part) (period : Nat) (s : SeatId) : Part :=
  let x := p.seat s
  if x.key = .down then
    let q := p.setSeat s { x with press := min (x.press + period) 65535 }
    if s = p.chairSeat then q.takeChairNext else q
  else p

/-- A report of SFE on a channel reaches SMN (R25, R45). The reference channel reports nothing (R30). A proximity
channel's change to active in STANDBY is a wake cause when the mask enables it (R201). -/
def report (p : Part) (c : ChannelId) (o : Sensed) (cause : ReportCause) : Part :=
  match kindOf c with
  | .key => p.keyReport (seatOf c) o cause
  | .proximity =>
    let q := p.proximityReport (seatOf c) o
    if o = .active ∧ p.pwu.proximityWake then q.wake else q
  | .reference => p

end Sys2Proof.Machine.Part
end

