-- ==== Sys2Proof/Machine/Sources.lean ====
section
/-! DEFINITION. SCU: edges, measurements, overflows, the rate table, the source states and what each change is handed
on to (chapter 6). -/

namespace Sys2Proof.Machine

/-- A measurement or an overflow of a socket (R119). -/
inductive CaptureEvent where
  | measurement (c : SourceClass)
  | overflow
  deriving DecidableEq, Repr

/-- Entry to SEEKING with class c and agree counter 1; LIVE at once when 1 is at or above K (R119). -/
def seek (k : Nat) (x : Socket) (c : SourceClass) : Socket :=
  if k ≤ 1 then { x with state := .live, cls := c, agree := 0, drop := 0 }
  else { x with state := .seeking, cls := c, agree := 1, drop := 0 }

/-- Entry to NONE (R119). -/
def lose (x : Socket) : Socket := { x with state := .none, cls := .none, agree := 0, drop := 0 }

/-- The source state machine of R119, with agree count k and drop count d. -/
def sourceStep (k d : Nat) (x : Socket) : CaptureEvent → Socket
  | .measurement c =>
    match x.state with
    | .none => seek k x c
    | .seeking =>
      if c = x.cls then
        if k ≤ x.agree + 1 then { x with state := .live, agree := 0, drop := 0 }
        else { x with agree := x.agree + 1 }
      else seek k x c
    | .live => if c = x.cls then x else seek k x c
    | .dropping => if c = x.cls then { x with state := .live, drop := 0 } else seek k x c
  | .overflow =>
    match x.state with
    | .none => x
    | .seeking => lose x
    | .live => if d ≤ 1 then lose x else { x with state := .dropping, drop := 1 }
    | .dropping => if d ≤ x.drop + 1 then lose x else { x with drop := x.drop + 1 }

/-- A measurement matches a rate table entry (R116). -/
def matchesRate (r : Rate) (width period : Nat) : Bool :=
  r.nominal ≠ 0 && r.nominal ≤ period + r.tolerance && period ≤ r.nominal + r.tolerance &&
    r.minWidth ≤ width && width ≤ r.maxWidth

/-- The class of a measurement and the number of the entry it matches, 0 for none: the lowest-numbered entry that it
matches (R116). -/
def classify (t : Vector Rate 8) (width period : Nat) : SourceClass × Nat :=
  match (List.finRange 8).find? fun i => matchesRate (t.get i) width period with
  | some i => (.id (t.get i).cls, i.val + 1)
  | none => (.unsupported, 0)

namespace Part

/-- RTU's routable mark of a socket after a change of its state (R128). -/
def routableAfter (x : Socket) (mark : Bool) : Bool :=
  match x.state with
  | .live => match x.cls with
    | .id _ => true
    | _ => false
  | .none => false
  | _ => mark

/-- The index of a socket's routable mark. -/
def markIndex (k : SocketId) : Fin 10 := ⟨k.val, by omega⟩

/-- A change of a socket's state is handed on: a SOURCE notice; RTU's routable mark; and for PWU the quiet timer and
the wake cause when the socket goes live (R120, R124, R199, R201). -/
def handSource (p : Part) (k : SocketId) (old new : Socket) : Part :=
  if old.state = new.state ∧ (new.state ≠ .live ∨ old.cls = new.cls) then p
  else
    let q := (p.notice .source).setRoutable (markIndex k) (routableAfter new (p.rtu.routable.get (markIndex k)))
    if socketLive new && !socketLive old then
      let r := q.clearQuiet
      if r.inMask k then r.wake else r
    else q

/-- A socket's record is replaced, and a change of its state is handed on (R120). -/
def putSocket (p : Part) (k : SocketId) (x : Socket) : Part := (p.setSocket k x).handSource k (p.socket k) x

/-- A measurement or an overflow reaches a socket's state machine (R119). -/
def captureEvent (p : Part) (k : SocketId) (x : Socket) (e : CaptureEvent) : Part :=
  p.putSocket k (sourceStep p.scu.agree p.scu.drop x e)

/-- An overflow of a socket whose capture runs (R115). -/
def overflow (p : Part) (k : SocketId) : Part :=
  if p.capturing k then
    p.captureEvent k { p.socket k with counter := 0, phase := .waitFirst } .overflow
  else p

/-- The overflows that pass while n ticks go by. -/
def overflows (k : SocketId) : Nat → Part → Part
  | 0, p => p
  | n + 1, p => overflows k n (p.overflow k)

/-- The counter of a socket whose capture runs is brought up to date by the ticks that have passed, with every overflow
on the way (R114, R115). An overflow due at the last tick itself is taken only with `last`. -/
def passTicks (p : Part) (k : SocketId) (ticks : Nat) (last : Bool) : Part :=
  let total := (p.socket k).counter + ticks
  let full := total / Config.overflowTicks
  let rest := total % Config.overflowTicks
  let keep := rest = 0 && 0 < full && !last
  let q := overflows k (if keep then full - 1 else full) p
  q.setSocket k { q.socket k with counter := if keep then Config.overflowTicks else rest }

/-- A capture tick at one socket (R114, R115). -/
def tickSocket (p : Part) (k : SocketId) : Part := if p.capturing k then p.passTicks k 1 true else p

/-- One capture tick of 1 µs: the counter of every socket whose capture runs adds 1. Several sockets that overflow at one tick
do so in the order of their numbers; the rules give none. DESIGN CHOICE (log entry 65). -/
def captureTick (p : Part) : Part := (List.finRange 8).foldl tickSocket p

/-- A completed measurement: classified against the rate table and passed to the state machine (R114, R116). -/
def measure (p : Part) (k : SocketId) (x : Socket) : Part :=
  let c := classify p.scu.rates x.width x.period
  p.captureEvent k { x with entry := c.2 } (.measurement c.1)

/-- An edge taken from the filtered line acts by the phase (R114). -/
def edgeActs (p : Part) (k : SocketId) (isActive : Bool) : Part :=
  let x := p.socket k
  match x.phase, isActive with
  | .waitFirst, true => p.setSocket k { x with counter := 0, phase := .waitInactive }
  | .waitInactive, false => p.setSocket k { x with width := x.counter, phase := .waitActive }
  | .waitActive, true => p.measure k { x with period := x.counter, counter := 0, phase := .waitInactive }
  | _, _ => p

/-- An overflow that stands at the tick of the edge and was not taken before it (R115). -/
def lateOverflow (p : Part) (k : SocketId) : Part :=
  if Config.overflowTicks ≤ (p.socket k).counter then p.overflow k else p

/-- The edge of the other kind. -/
def otherEdge : Edge → Edge
  | .rising => .falling
  | .falling => .rising

/-- An edge of a socket's sync line (R113 to R115). The counter runs on by the ticks that have passed. The edge is
taken when the line has held the level it reached for the filter time, and the edges taken alternate: a level too
short to be seen takes away both of its edges, also the first level after capture started, when no edge has been taken (log
entry 13). After two short levels in a row the line holds the level that no edge taken has led to: of R113's two sentences
the model follows the one on the held level and takes the edge that ends the second short level. DEDUCED (log entry 61). -/
def takeEdge (p : Part) (k : SocketId) (e : Edge) (ticks levelHeld : Nat) (overflowFirst : Bool) : Part :=
  if p.capturing k then
    let q := p.passTicks k ticks overflowFirst
    let x := q.socket k
    if x.filter ≤ levelHeld ∧ x.lastEdge ≠ some e then
      ((q.setSocket k { x with lastEdge := some e }).edgeActs k (e = x.edge)).lateOverflow k
    else (q.setSocket k { x with lastEdge := some (x.lastEdge.getD (otherEdge e)) }).lateOverflow k
  else p

/-- A socket whose capture is stopped: NONE in WAIT_FIRST, last width and last period kept (R112, R123). -/
def stopped (x : Socket) : Socket :=
  { x with state := .none, phase := .waitFirst, counter := 0, cls := .none, entry := 0, agree := 0, drop := 0, lastEdge := none }

/-- CAPTURE SET's effect on the record (R112). A change of the edge or the filter of a running capture keeps the last edge: the
filtered line goes on, and an edge taken away before the change still takes its partner away (R113). -/
def captureAfter (x : Socket) (enable : Bool) (edge : Edge) (filter : Nat) : Socket :=
  let y := { x with enable := enable, edge := edge, filter := filter }
  if x.enable && !enable then stopped y
  else if !x.enable && enable then { y with phase := .waitFirst, counter := 0, state := .none, lastEdge := none }
  else if enable && (x.edge ≠ edge || x.filter ≠ filter) then { y with phase := .waitFirst, counter := 0 }
  else y

/-- SCU at standby entry: capture stops on every socket outside the wake mask (R123). -/
def standbySocket (p : Part) (k : SocketId) : Part :=
  if p.inMask k ∨ (p.socket k).enable = false then p else p.putSocket k (stopped (p.socket k))

/-- The presence flag of a fixed input changes: a SOURCE notice and RTU's routable mark (R122, R128). -/
def setFixedInput (p : Part) (codec present : Bool) : Part :=
  let old := if codec then p.scu.codec else p.scu.pc
  if old = present then p
  else
    let q := if codec then p.withScu { p.scu with codec := present } else p.withScu { p.scu with pc := present }
    (q.notice .source).setRoutable (if codec then 9 else 8) present

end Part

end Sys2Proof.Machine
end

