-- ==== Sys2Proof/Machine/Sensing.lean ====
section
/-! DEFINITION. SFE: the arithmetic of a channel's frame, its state machine, retunes, the reference channel, and the
sensing frame as a whole (chapter 2). -/

namespace Sys2Proof.Machine

/-- What a channel's update sends out of SFE, in the order it is made: a report to SMN (R25), or a SENSE notice with its
cause. -/
inductive SfeOut where
  | report (o : Sensed) (c : ReportCause)
  | notice (m : Cause)
  deriving DecidableEq, Repr

/-- A channel after an operation, and what the operation sent out. -/
abbrev ChanResult := Channel × List SfeOut

/-! ### Arithmetic (R21 to R23, R26, R27) -/

/-- Stage 1: the raw count and the saturated mark (R21). -/
def takeRaw (x : Channel) (reading : Nat) : Channel :=
  { x with raw := min reading Config.maxRaw, saturated := Config.maxRaw < reading }

/-- A value moved toward another by the truncated quotient of their distance (R22, R26). -/
def approach (old goal beta : Nat) : Nat :=
  (Int.ofNat old + quotient (Int.ofNat goal - Int.ofNat old) (2 ^ beta)).toNat

/-- Stage 2: the filtered count (R22). -/
def filterCount (x : Channel) (beta : Nat) : Channel :=
  { x with filtered := approach x.filtered (16 * x.raw) beta }

/-- The long-term average follows the filtered count, with the one-sixteenth minimum step (R26). -/
def followLta (l f beta : Nat) : Nat :=
  if approach l f beta = l then (if l < f then l + 1 else if f < l then l - 1 else l) else approach l f beta

/-- The delta, a negative one taken as 0 (R23). -/
def deltaOf (d : Direction) (l f : Nat) : Nat :=
  match d with
  | .fall => l - f
  | .rise => f - l

/-- Stages 3 and 4: the delta and the levels, from the long-term average at the start of the frame (R23). -/
def takeLevels (pr : Profile) (x : Channel) : Channel :=
  let t := x.lta * pr.threshold / 256
  { x with
    delta := deltaOf pr.direction x.lta x.filtered
    level := t
    release := t - t * pr.hysteresis / 256
    haltLevel := t / 2 }

/-- The band width of a profile (R16). -/
def bandWidth (pr : Profile) : Nat := pr.target * pr.band / 256

/-- A count lies in band (R16). -/
def inBand (pr : Profile) (count : Nat) : Bool :=
  pr.target ≤ count + bandWidth pr && count ≤ pr.target + bandWidth pr

/-- The move of a long-term average by reference tracking, within the clamp (R27). -/
def trackLta (pr : Profile) (l : Nat) (change : Int) : Nat :=
  let amount := quotient (change * Int.ofNat pr.tracking) 64
  let moved := match pr.sign with
    | .same => Int.ofNat l + amount
    | .opposite => Int.ofNat l - amount
  min moved.toNat Config.maxCount

/-! ### Retunes (R32, R33) -/

/-- The start of a retune: TUNING, the held outcome, the counters and the pending mark cleared, the search empty
(R32). The setting shown until the first search step (R43 names that of the last step) is the one that the last completed
retune left. DESIGN CHOICE (log entry 41). -/
def startRetune (x : Channel) : Channel :=
  { x with
    state := .tuning, held := Part.outcomeOf x, step := 0, debounce := 0, haltTimer := 0, bandCount := 0
    pending := false, kept := 0, trial := x.tune, best := none }

/-- A search restarted: the held outcome is kept as at the start of the first retune (R34). The setting shown until its first
search step is the abandoned search's last trial. DESIGN CHOICE (log entry 41). -/
def restartRetune (x : Channel) : Channel :=
  { x with
    step := 0, debounce := 0, haltTimer := 0, bandCount := 0, pending := false, kept := 0, best := none }

/-- The weight of search step k (R32): 128, 64, 32 and then 16, 8, 4, 2, 1. -/
def stepWeight (k : Nat) : Nat := 2 ^ (8 - k)

/-- The distance of a count from a target. -/
def distance (a b : Nat) : Nat := (a - b) + (b - a)

/-- The best trial after a further trial: the nearer to the target, and on a tie the lower setting (R32). -/
def betterTrial (target : Nat) (best : Option (Nat × Nat)) (v r : Nat) : Nat × Nat :=
  match best with
  | none => (v, r)
  | some b =>
    if distance r target < distance b.2 target then (v, r)
    else if distance r target = distance b.2 target ∧ v < b.1 then (v, r)
    else b

/-- One search step: the setting kept value + w is tried, and the search is updated by the raw count (R32). -/
def searchStep (pr : Profile) (x : Channel) (reading : Nat) : Channel :=
  let y := takeRaw x reading
  let v := x.kept + stepWeight (x.step + 1)
  { y with
    step := x.step + 1
    trial := v
    kept := if pr.target < y.raw then x.kept else v
    best := some (betterTrial pr.target x.best v y.raw) }

/-- A channel that enters IDLE starts its retune when its pending mark is set, after the report of the entry (R37). -/
def startPending (r : ChanResult) : ChanResult := if r.1.pending then (startRetune r.1, r.2) else r

/-- The completion of a retune at its eighth step (R33). -/
def completeRetune (pr : Profile) (x : Channel) : ChanResult :=
  let b := x.best.getD (x.tune, x.raw)
  let y := { x with tune := b.1, raw := b.2, step := 0, kept := 0, trial := b.1, best := none }
  if inBand pr b.2 then
    let out := match x.held with
      | .inactive => []
      | .active => [.report .inactive .retune]
      | .fault => [.report .inactive .retune, .notice .faultCleared]
    startPending
      ({ y with filtered := 16 * b.2, lta := 16 * b.2, state := .idle, debounce := 0, result := .good }, out)
  else
    let out := if x.held = .fault then [.notice .retuneFailed] else [.report .fault .retune, .notice .retuneFailed]
    ({ y with state := .fault, result := .outOfBand }, out)

/-- A frame of a channel in TUNING: one search step, and at the eighth the completion (R32, R33). -/
def tuningFrame (pr : Profile) (x : Channel) (reading : Nat) : ChanResult :=
  let y := searchStep pr x reading
  if 8 ≤ y.step then completeRetune pr y else (y, [])

/-! ### The state machine and the stages after it (R24 to R28) -/

/-- The debounce values 0 act as 1 (R24). -/
def debounceOf (n : Nat) : Nat := max n 1

/-- Stage 5 without the reports: the state and the debounce counter (R24). -/
def debounceStep (pr : Profile) (x : Channel) : ChanState × Nat :=
  match x.state with
  | .idle =>
    if x.level ≤ x.delta then (if debounceOf pr.enter ≤ 1 then (.active, 0) else (.entering, 1)) else (.idle, x.debounce)
  | .entering =>
    if x.level ≤ x.delta then
      (if debounceOf pr.enter ≤ x.debounce + 1 then (.active, 0) else (.entering, x.debounce + 1))
    else (.idle, 0)
  | .active =>
    if x.delta < x.release then (if debounceOf pr.exit ≤ 1 then (.idle, 0) else (.leaving, 1)) else (.active, x.debounce)
  | .leaving =>
    if x.delta < x.release then
      (if debounceOf pr.exit ≤ x.debounce + 1 then (.idle, 0) else (.leaving, x.debounce + 1))
    else (.active, 0)
  | s => (s, x.debounce)

/-- Stage 5: the state machine, the report of a change of outcome, and a pending retune at an entry to IDLE
(R24, R25, R37). -/
def stageFive (pr : Profile) (x : Channel) : ChanResult :=
  let s := debounceStep pr x
  let y := { x with state := s.1, debounce := s.2 }
  let old := Part.outcomeOfState x.state
  let new := Part.outcomeOfState s.1
  let out : List SfeOut := if old = new then [] else [.report new .debounce]
  if s.1 = .idle ∧ x.state ≠ .idle then startPending (y, out) else (y, out)

/-- A reseed: L becomes F, the state IDLE, the counters 0; an active outcome is released, and a pending retune starts
(R19, R28, R37). -/
def reseed (x : Channel) (notices : List SfeOut) : ChanResult :=
  let out : List SfeOut :=
    if Part.outcomeOfState x.state = .active then notices ++ [.report .inactive .reseed] else notices
  startPending ({ x with lta := x.filtered, state := .idle, debounce := 0, haltTimer := 0 }, out)

/-- The halt timer has reached a halt limit that is not 0 (R28). -/
def haltReached (pr : Profile) (x : Channel) : Bool := pr.haltLimit ≠ 0 && pr.haltLimit * 1000 ≤ x.haltTimer

/-- Stages 6 to 8: the LTA update, or in a halted frame the tracking, the halt timer and the halt limit
(R26 to R28). -/
def stagesSixToEight (pr : Profile) (beta period : Nat) (change : Int) (x : Channel) : ChanResult :=
  if x.state = .idle ∧ x.delta < x.haltLevel then
    ({ x with lta := followLta x.lta x.filtered beta, haltTimer := 0 }, [])
  else
    let l := if pr.tracking = 0 then x.lta else trackLta pr x.lta change
    let y := { x with lta := l, haltTimer := min (x.haltTimer + period) 255000, haltTested := pr.haltLimit }
    if haltReached pr y then reseed y [.notice .stuckChannel] else (y, [])

/-- The band check after stage 8: a frame is counted when L is out of band in IDLE, or when T was 0; at 50 the retune
starts (R31, R35). `zeroLevel` says whether T was 0 in this frame. -/
def bandCheck (pr : Profile) (zeroLevel : Bool) (x : Channel) : Channel :=
  if x.state = .off ∨ x.state = .tuning ∨ x.state = .fault then x
  else if zeroLevel ∨ (x.state = .idle ∧ inBand pr (x.lta / 16) = false) then
    let y := { x with bandCount := x.bandCount + 1 }
    if Config.bandFrames ≤ y.bandCount then startRetune y else y
  else { x with bandCount := 0 }

/-- The update of a channel in IDLE, ENTERING, ACTIVE or LEAVING: stages 1 to 8 and the band check (R20). A channel
that starts a pending retune in stage 5 or 8 is TUNING from there on, and the stages after it do not run. -/
def runFrame (pr : Profile) (beta period : Nat) (change : Int) (x : Channel) (reading : Nat) : ChanResult :=
  let y := takeLevels pr (filterCount (takeRaw x reading) pr.countBeta)
  let five := stageFive pr y
  if five.1.state = .tuning then five
  else
    let eight := stagesSixToEight pr beta period change five.1
    (bandCheck pr (y.level = 0) eight.1, five.2 ++ eight.2)

/-- A frame of a channel in FAULT: stages 1 and 2 (R39). -/
def faultFrame (pr : Profile) (x : Channel) (reading : Nat) : Channel :=
  filterCount (takeRaw x reading) pr.countBeta

/-- The first WAKING frame of a key channel, by its state (R42). -/
def firstWakeFrame (pr : Profile) (x : Channel) (reading : Nat) : Option ChanResult :=
  match x.state with
  | .idle =>
    if x.pending then some (tuningFrame pr (startRetune x) reading)
    else
      let y := takeRaw x reading
      some ({ y with filtered := 16 * y.raw, lta := 16 * y.raw, debounce := 0, haltTimer := 0, bandCount := 0 }, [])
  | .fault => if x.pending then some (tuningFrame pr (startRetune x) reading) else none
  | _ => none

/-- The update of a key or proximity channel in one frame, by its state (R15, R20, R42). -/
def updateChannel (pr : Profile) (beta period : Nat) (change : Int) (x : Channel) (reading : Nat) : ChanResult :=
  let z := { x with firstWake := false }
  match (if x.firstWake then firstWakeFrame pr z reading else none) with
  | some r => r
  | none =>
    match z.state with
    | .off => (x, [])
    | .tuning => tuningFrame pr z reading
    | .fault => (faultFrame pr z reading, [])
    | _ => runFrame pr beta period change z reading

/-- The update of the reference channel, and ΔR (R27, R30). It has no levels, so the band check counts its frames out of
band alone, and it reports nothing to SMN. The frame whose band check starts the reference channel's retune still passes its
change of F on to the other channels: the channel becomes TUNING only after its update. DESIGN CHOICE (log entry 40). -/
def updateReference (pr : Profile) (beta : Nat) (x : Channel) (reading : Nat) : ChanResult × Int :=
  match x.state with
  | .off => ((x, []), 0)
  | .tuning => (tuningFrame pr x reading, 0)
  | .fault => ((faultFrame pr x reading, []), 0)
  | _ =>
    let y := filterCount (takeRaw x reading) pr.countBeta
    ((bandCheck pr false { y with lta := followLta y.lta y.filtered beta }, []),
      Int.ofNat y.filtered - Int.ofNat x.filtered)

/-! ### The sensing frame (R20) -/

namespace Part

/-- One thing that a channel's update sent out reaches SMN or the ports (R25, R44). -/
def sendOne (c : ChannelId) (p : Part) (o : SfeOut) : Part :=
  match o with
  | .report s cause => p.report c s cause
  | .notice m => p.noticeCause .sense m

/-- What a channel's update sent out reaches SMN and the ports, in order (R25, R44). -/
def sendOut (p : Part) (c : ChannelId) (out : List SfeOut) : Part := out.foldl (sendOne c) p

/-- A channel's record is replaced, and what its update sent out is passed on. -/
def putChannel (p : Part) (c : ChannelId) (r : ChanResult) : Part := (p.setChannel c r.1).sendOut c r.2

/-- The LTA beta of a profile: the standby one in a STANDBY frame (R26, R41). -/
def betaOf (pr : Profile) (standby : Bool) : Nat := if standby then pr.standbyBeta else pr.activeBeta

/-- The period of a frame, in milliseconds (R20). -/
def framePeriod (p : Part) (standby : Bool) : Nat := if standby then Config.standbyFrame else p.sfe.frame

/-- A channel that is measured in a frame: key channels are not in STANDBY (R20, R41). -/
def isMeasured (p : Part) (standby : Bool) (c : ChannelId) : Bool :=
  (p.channel c).state ≠ .off && !(standby && kindOf c = .key)

/-- The update of one measured channel (R20). -/
def channelFrame (standby : Bool) (change : Int) (readings : List Nat) (p : Part) (c : ChannelId) : Part :=
  if p.isMeasured standby c then
    let pr := p.profileOf (kindOf c)
    p.putChannel c
      (updateChannel pr (betaOf pr standby) (p.framePeriod standby) change (p.channel c) (readings.getD c.val 0))
  else p

/-- The seats whose press timer counts in a frame: the key is DOWN and the key channel has a frame (R55, R56). -/
def holdingSeats (p : Part) (standby : Bool) : List SeatId :=
  (List.finRange 20).filter fun s => (p.seat s).key = .down && p.isMeasured standby (keyChannel s)

/-- The press timers of those seats count the frame (R56). -/
def countPresses (p : Part) (period : Nat) (seats : List SeatId) : Part :=
  seats.foldl (fun q s => q.countPress period s) p

/-- The channels of seats, in order. -/
def seatChannels : List ChannelId := (List.finRange 41).filter fun c => c.val ≠ 40

/-- Start-up is complete when the last stage-3 retune has completed: requests of every kind are taken and the power state
becomes ACTIVE (R11). -/
def startUpTest (p : Part) : Part :=
  if p.pln.stage = .retuning ∧ (List.finRange 41).all fun c => (p.channel c).state ≠ .tuning then
    (p.withPln { p.pln with stage := .running }).enterActive
  else p

/-- The end of a frame that began in WAKING: the settle counts it, and at four the settle ends (R202). -/
def settleFrame (p : Part) (counts : Bool) : Part :=
  if counts ∧ p.pwu.power = .waking then
    let q := p.withPwu { p.pwu with settle := p.pwu.settle + 1 }
    if Config.settleFrames ≤ q.pwu.settle then q.endSettling else q
  else p

/-- The sensing frame (R20): the reference update, then the update of every measured channel in the order given, the
press timers, and the end of start-up or of the settle. The frame's period, betas and channels are those of the power
state in which it began. R20, R45 and R56 give the press timers no place among the channels' updates: they count before all
of these or after all of them, as `timersFirst` says, so a chair next between the reports of two seats is not reached. DESIGN
CHOICE (log entry 49). -/
def sensingFrame (p : Part) (readings : List Nat) (first : List ChannelId) (timersFirst : Bool) : Part :=
  let standby : Bool := p.pwu.power = .standby
  let settling : Bool := p.pln.stage = .running && p.pwu.power = .waking
  let period := p.framePeriod standby
  let holding := p.holdingSeats standby
  let ref := updateReference p.sfe.reference (betaOf p.sfe.reference standby) (p.channel 40) (readings.getD 40 0)
  let afterRef := p.putChannel 40 ref.1
  let timed := if timersFirst then afterRef.countPresses period holding else afterRef
  let run := (takenOrder first seatChannels).foldl (channelFrame standby ref.2 readings) timed
  let counted := if timersFirst then run else run.countPresses period holding
  (counted.startUpTest).settleFrame settling

/-! ### The single events of a channel -/

/-- The halt limit's reseed, taken on its own: for a channel that runs, whose halt timer stands at the limit and whose last
halted frame tested it against this limit (R28). A limit that a PROFILE SET has lowered to or below the halt timer waits for
the channel's next halted frame (R19). -/
def haltReseed (p : Part) (c : ChannelId) : Part :=
  let x := p.channel c
  if kindOf c ≠ .reference ∧ (x.state = .idle ∨ x.state = .entering ∨ x.state = .active ∨ x.state = .leaving) ∧
      x.haltTested = (p.profileOf (kindOf c)).haltLimit ∧ haltReached (p.profileOf (kindOf c)) x then
    p.putChannel c (reseed x [.notice .stuckChannel])
  else p

/-- The automatic retune, taken on its own: for a channel whose band counter stands at 50 (R35). -/
def bandRetune (p : Part) (c : ChannelId) : Part :=
  let x := p.channel c
  if x.state ≠ .off ∧ x.state ≠ .tuning ∧ x.state ≠ .fault ∧ Config.bandFrames ≤ x.bandCount then
    p.setChannel c (startRetune x)
  else p

/-- The completion of a retune, taken on its own: for a channel in TUNING that has taken its eighth step (R33). The last
of the stage-3 retunes ends start-up (R11). -/
def retuneDone (p : Part) (c : ChannelId) : Part :=
  let x := p.channel c
  if x.state = .tuning ∧ 8 ≤ x.step then
    (p.putChannel c (completeRetune (p.profileOf (kindOf c)) x)).startUpTest
  else p

/-- Every channel that is not OFF starts its retune: stage 3 of start-up (R11, R35). The channels of installed seats
with their enable mark on, and the reference channel, leave OFF. -/
def startUpRetunes (p : Part) : Part :=
  p.withSfe { p.sfe with
    channels := mapTable
      (fun c x => if x.enabled ∧ (c.val = 40 ∨ (p.seat (seatOf c)).installed) then startRetune x else x)
      p.sfe.channels }

/-- A channel named by a RETUNE request (R37). -/
def retuneChannel (force : Bool) (p : Part) (c : ChannelId) : Part :=
  let x := p.channel c
  match x.state with
  | .off => p
  | .tuning => p.setChannel c (restartRetune x)
  | .idle => p.setChannel c (startRetune x)
  | .fault => p.setChannel c (startRetune x)
  | _ => p.setChannel c (if force then startRetune x else { x with pending := true })

/-- A change of a profile's direction reseeds its running channels (R19). -/
def directionReseed (p : Part) (c : ChannelId) : Part :=
  let x := p.channel c
  if x.state = .idle ∨ x.state = .entering ∨ x.state = .active ∨ x.state = .leaving then
    p.putChannel c (reseed { x with bandCount := 0 } [])
  else p

/-- The profile of a kind is replaced. -/
def putProfile (p : Part) (k : ProfileKind) (x : Profile) : Part :=
  match k with
  | .key => p.withSfe { p.sfe with key := x }
  | .proximity => p.withSfe { p.sfe with proximity := x }
  | .reference => p.withSfe { p.sfe with reference := x }

/-- A PROFILE SET taken with DONE: the profile is replaced, a change of target or band clears the band counters, and a
change of direction reseeds the running key or proximity channels (R18, R19). The reports that the reseeds of one request
make reach SMN in the order of the channel numbers; R45 gives none. DESIGN CHOICE (log entry 42). -/
def setProfile (p : Part) (k : ProfileKind) (x : Profile) : Part :=
  let old := p.profileOf k
  let q := p.putProfile k x
  let r :=
    if old.target ≠ x.target ∨ old.band ≠ x.band then
      q.withSfe { q.sfe with
        channels := mapTable (fun c y => if kindOf c = k then { y with bandCount := 0 } else y) q.sfe.channels }
    else q
  if old.direction ≠ x.direction ∧ k ≠ .reference then
    ((List.finRange 41).filter fun c => kindOf c = k).foldl directionReseed r
  else r

end Part

end Sys2Proof.Machine
end

