-- ==== Sys2Proof/Machine/Standby.lean ====
section
/-! DEFINITION. PWU: the quiet timer, the standby entry test and the standby entry with what each block does at it
(R40, R60, R110, R123, R132, R199). -/

namespace Sys2Proof.Machine.Part

/-- A key channel at standby entry, and whether its active outcome is released (R40). -/
def standbyChannel (x : Channel) : ChanResult :=
  match x.state with
  | .off => (x, [])
  | .fault => ({ x with firstWake := false }, [])
  | .tuning =>
    ({ x with
        state := if x.held = .fault then .fault else .idle, step := 0, kept := 0, trial := x.tune, best := none
        debounce := 0, haltTimer := 0, bandCount := 0, pending := true, firstWake := false },
      if x.held = .active then [.report .inactive .standby] else [])
  | _ =>
    ({ x with state := .idle, debounce := 0, haltTimer := 0, bandCount := 0, firstWake := false },
      if outcomeOfState x.state = .active then [.report .inactive .standby] else [])

/-- SFE at standby entry, one key channel (R40). -/
def standbyKey (p : Part) (s : SeatId) : Part :=
  p.putChannel (keyChannel s) (standbyChannel (p.channel (keyChannel s)))

/-- SGU at standby entry: every refused timer 0, and the gain bus quiet (R110). The outputs follow at the end of the
event. The released list is kept: R110 takes it to be empty here, yet a TABLE RESET and a STANDBY ENTER between two gain frames
enter standby with its seats still unsent, and R101 empties it only when a message is sent. DEDUCED (log entry 59). -/
def standbySlots (p : Part) : Part :=
  p.withSgu { p.sgu with refused := Vector.replicate 20 0, bus := none }

/-- The standby entry: one event (R199). -/
def standbyEntry (p : Part) : Part :=
  let q := p.changePower .standby
  let r := q.withPwu { q.pwu with settle := 0 }
  let s := (List.finRange 20).foldl standbyKey r
  let t := (List.finRange 8).foldl standbySocket s.standbySlots
  t.setOverride true

/-- The quiet timer stands at standby delay × 60 (R199). -/
def quietReached (p : Part) : Bool := p.pwu.delay * 60 ≤ p.pwu.quiet

/-- The standby entry test passes (R199). -/
def standbyPasses (p : Part) : Bool :=
  !p.sessionOpen && p.ssu.pendingStart.isNone &&
    (p.nextStart = 1440 || p.sch.clock.minute + p.pwu.lead < p.nextStart)

/-- The standby entry test: made in ACTIVE while the quiet timer stands at its limit (R199). -/
def standbyTest (p : Part) : Part :=
  if p.pwu.power = .active && p.quietReached && p.standbyPasses then p.standbyEntry else p

/-- The quiet timer at a second event (R199). -/
def countQuiet (p : Part) : Part :=
  if p.smn.occupied = 0 ∧ p.anySocketLive = false then
    p.withPwu { p.pwu with quiet := min (p.pwu.quiet + 1) (p.pwu.delay * 60) }
  else p

/-- PWU's second event: the quiet timer counts; at a minute event in STANDBY a near next start wakes the part, which
leaves the timer at 0; and the standby entry test is made (R199, R201). -/
def powerSecond (p : Part) (minute : Bool) : Part :=
  let q := p.countQuiet
  (if minute then q.preWake else q).standbyTest

/-- STANDBY ENTER (R200). -/
def standbyEnter (p : Part) : Part × Status :=
  if p.sessionOpen || p.ssu.pendingStart.isSome then (p, .state) else (p.standbyEntry, .done)

end Sys2Proof.Machine.Part
end

