-- ==== Sys2Proof/Machine/Schedule.lean ====
section
/-! DEFINITION. SCH: the room clock and its second, minute and midnight events, the loading and the check of the staging
bank, the swap, and the requests that change the day (chapter 8). -/

namespace Sys2Proof.Machine.Part

/-! ### The swap (R156) -/

/-- Step 1 of the swap: the banks change roles, and the old published bank is emptied. -/
def exchangeBanks (p : Part) : Part :=
  let fresh := { p.staging with role := BankRole.published, state := BankState.published }
  let old := emptied p.published
  if p.publishedIsA then p.withSch { p.sch with bankA := old, bankB := fresh }
  else p.withSch { p.sch with bankA := fresh, bankB := old }

/-- The effective end that the swap gives a session found in the new bank (R156, step 2). -/
def swapEnd (p : Part) (b : Booking) : Nat :=
  let e := p.sch.clock.day * 1440 + b.stop
  let n := p.sch.clock.day * 1440 + p.nextStart
  max (if p.nextStart < 1440 ∧ n < e then n else e) (p.now + 1)

/-- Step 2 of the swap: a BOOKED session is found in the new bank, or is marked unlisted. -/
def relink (p : Part) : Part :=
  match p.ssu.session with
  | some x =>
    match x.booking with
    | some id =>
      match (if p.isCurrent then p.findEntry id else none) with
      | some e =>
        let q := p.markEntry id .pending .active
        let y := { x with copy := some e.booking, effEnd := q.swapEnd e.booking, unlisted := false }
        (q.setSession (some y)).noticeIf (y ≠ x) .session
      | none => (p.setSession (some { x with unlisted := true })).noticeIf (!x.unlisted) .session
    | none => p
  | none => p

/-- The tests of a session that the swap found (R166, R167): to IN_SESSION with a copy without check-in, the check-in and
release tests in AWAITING, the stage test while the floor is open. The check-in test comes before the release tests, so a
session that meets both its quorum and its new window checks in; R166 gives no order between them. DESIGN CHOICE (log
entry 45). -/
def relinkTests (p : Part) : Part :=
  match p.ssu.session with
  | some x =>
    if x.kind = .booked ∧ x.unlisted = false then
      match x.state, x.copy with
      | .awaiting, some c =>
        if c.checkIn then (p.checkInTest).releaseTest true else (p.enterSession x).completeWindup
      | .windup, _ => p
      | _, _ => p.stageTest
    else p
  | none => p

/-- Step 4 of the swap: a pending start that the new bank does not hold PENDING is dropped. -/
def swapPending (p : Part) : Part := p.dropStalePending

/-- The swap: one event, in the steps of R156. -/
def swap (p : Part) : Part :=
  let q := ((p.exchangeBanks.relink).markMissed.swapPending).notice .schedule
  ((q.relinkTests).openingTest).repeatWalkIn

/-! ### The clock (R142 to R145) -/

/-- The clock one second later (R142). -/
def tick (c : Clock) : Clock :=
  if c.second < 59 then { c with second := c.second + 1 }
  else if c.minute < 1439 then { c with second := 0, minute := c.minute + 1 }
  else { c with second := 0, minute := 0, day := (c.day + 1) % 65536 }

/-- The midnight turnover, after the marking of the minute event: a READY bank for the new day is swapped in, with one
SCHEDULE notice (R145). -/
def midnight (p : Part) : Part :=
  (if p.staging.state = .ready ∧ p.sch.clock.valid ∧ p.staging.day = p.sch.clock.day then p.swap else p).notice .schedule

/-- One block takes the second event, which may be a minute event too (R142, R163). `before` is the part as the event found
it. -/
def secondFor (before : Part) (minute : Bool) (p : Part) (u : ClockUser) : Part :=
  match u with
  | .flc => p.floorSecond
  | .smn => p.seatSecond
  | .ssu => if minute then sessionMinute before p.sessionSecond else p.sessionSecond
  | .pwu => p.powerSecond minute

/-- The second event (R142): the clock, SCH's own work at a minute and at midnight (R144, R145), and then the four blocks
that count time, in the order given. A midnight swap that closes the floor therefore closes it before FLC's count of that
second, which R89 lets come on either side of the close. DESIGN CHOICE (log entry 52). -/
def secondEvent (p : Part) (first : List ClockUser) : Part :=
  let old := p.sch.clock
  let q := p.setClock (tick old)
  let minute : Bool := old.second ≥ 59
  let turnover : Bool := minute && old.minute ≥ 1439
  let r := if minute then q.markMissed else q
  let s := if turnover then r.midnight else r
  (takenOrder first [.flc, .smn, .ssu, .pwu]).foldl (secondFor p minute) s

/-- CLOCK SET (R143): the clock jump, in the steps of the rule. -/
def clockSet (p : Part) (day minute second : Nat) : Part × Status :=
  if 1439 < minute ∨ 59 < second then (p, .range)
  else
    let q := (p.setClock ⟨day, minute, second, true⟩).markMissed
    let r := if q.staging.state = .ready ∧ q.staging.day ≤ q.sch.clock.day then q.swap else q
    ((r.notice .schedule).sessionJump, .done)

/-! ### Loading a bank (R151 to R154) -/

/-- The check starts: the staging bank becomes CHECKING (R155). -/
def startCheck (p : Part) : Part := (p.setStaging { p.staging with state := .checking }).notice .schedule

/-- BANK OPEN (R151). A bank that was FILLING already keeps its state, so its clearing raises no notice (R150). -/
def bankOpen (p : Part) (day count auto : Nat) : Part × Status :=
  if p.staging.state = .checking then (p, .busy)
  else match (if count ≤ 32 then yesNoOf auto else none) with
    | none => (p, .range)
    | some a =>
      let q := (p.setStaging ⟨.staging, .filling, day, count, 0, a, .none, []⟩).noticeIf (p.staging.state ≠ .filling)
        .schedule
      (if count = 0 && a then q.startCheck else q, .done)

/-- The speaking limit as taken: 1 to 9 becomes 10; above 3600 is out of range (R84, R147). -/
def speakLimitOf (n : Nat) : Option Nat :=
  if 3600 < n then none else if n = 0 then some 0 else some (max n 10)

/-- The check-in window as held (R147): absent when check-in is not required. -/
def windowOf (required : Bool) (n : Nat) : Option (Option Nat) :=
  if !required then some none else if 30 < n then none else some (some (max n 1))

/-- The organiser seat as held (R147): 0 is absent; another value must be an installed seat. -/
def organiserField (p : Part) (n : Nat) : Option (Option SeatId) :=
  if n = 0 then some none
  else match seatOfNumber n with
    | some s => if (p.seat s).installed then some (some s) else none
    | none => none

/-- A booking entry as corrected, or none when a field is out of range (R147). The payload is laid out as R197
gives it. -/
def correctBooking (p : Part) (l : List Byte) : Option Booking := do
  let id := halfAt l 0
  let start := halfAt l 2
  let stop := halfAt l 4
  if id = 0 ∨ 1439 < start ∨ 1440 < stop ∨ stop ≤ start then none
  let checkIn ← yesNoOf (byteAt l 6)
  let window ← windowOf checkIn (byteAt l 7)
  let quorum := byteAt l 8
  if quorum = 0 ∨ 20 < quorum then none
  let mode ← floorModeOf (byteAt l 9)
  let speak ← speakLimitOf (halfAt l 11)
  let enforce ← yesNoOf (byteAt l 13)
  let screen ← finOf 4 (byteAt l 14)
  let privacy ← yesNoOf (byteAt l 15)
  let organiser ← p.organiserField (byteAt l 16)
  return { id, start, stop, checkIn, window, quorum := min quorum p.installedCount
           floor := ⟨mode, clamp 1 6 (byteAt l 10), speak, enforce⟩, screen, privacy, organiser }

/-- The staging bank becomes FAULTY with a cause (R152, R155). -/
def faultBank (p : Part) (c : BankFault) : Part :=
  (p.setStaging { p.staging with state := .faulty, cause := c }).notice .schedule

/-- BOOKING ENTRY (R152). -/
def bookingEntry (p : Part) (l : List Byte) : Part × Status :=
  let b := p.staging
  if b.state = .checking then (p, .busy)
  else if b.state ≠ .filling then (p, .state)
  else if b.declared ≤ b.received then (p.faultBank .over, .over)
  else match p.correctBooking l with
    | none => (p.faultBank .range, .range)
    | some x =>
      let q := p.setStaging { b with entries := b.entries ++ [⟨x, .pending⟩], received := b.received + 1 }
      (if b.received + 1 = b.declared && b.auto then q.startCheck else q, .done)

/-- BANK PUBLISH (R153). -/
def bankPublish (p : Part) : Part × Status :=
  let b := p.staging
  match b.state with
  | .checking => (p, .busy)
  | .filling => if b.received < b.declared then (p, .short) else (p.startCheck, .done)
  | .ready => if p.sch.clock.valid ∧ b.day ≤ p.sch.clock.day then (p.swap, .done) else (p, .state)
  | _ => (p, .state)

/-- BANK ABANDON (R154). -/
def bankAbandon (p : Part) : Part × Status :=
  let b := p.staging
  if b.state = .checking then (p, .busy)
  else ((p.setStaging (emptied b)).noticeIf (b.state ≠ .empty) .schedule, .done)

/-! ### The check (R155) -/

/-- An entry goes before the first entry with a later start; entries of equal start keep their order. -/
def insertByStart (e : Entry) : List Entry → List Entry
  | [] => [e]
  | x :: xs => if e.booking.start < x.booking.start then e :: x :: xs else x :: insertByStart e xs

/-- The entries in start order (R155). -/
def sortEntries (l : List Entry) : List Entry := l.foldl (fun acc e => insertByStart e acc) []

/-- Two neighbours of the sorted order overlap: the same start, or an end later than the next start (R155). -/
def neighboursOverlap : List Entry → Bool
  | x :: y :: rest =>
    x.booking.start = y.booking.start || y.booking.start < x.booking.stop || neighboursOverlap (y :: rest)
  | _ => false

/-- Two entries have the same booking id (R155). -/
def sameIdTwice : List Entry → Bool
  | [] => false
  | x :: rest => (rest.any fun y => y.booking.id = x.booking.id) || sameIdTwice rest

/-- The sorted bank is found to overlap (R155). -/
def bankOverlaps (l : List Entry) : Bool := neighboursOverlap l || sameIdTwice l

/-- The completion of the check of a CHECKING staging bank (R155). -/
def checkCompletion (p : Part) : Part :=
  let b := p.staging
  if b.state = .checking then
    let es := sortEntries b.entries
    let q := p.setStaging { b with entries := es }
    if bankOverlaps es then
      (q.setStaging { b with entries := es, state := .faulty, cause := .overlap }).noticeCause .schedule .overlap
    else if !p.sch.clock.valid || p.sch.clock.day < b.day then
      (q.setStaging { b with entries := es, state := .ready }).notice .schedule
    else q.swap
  else p

/-! ### Changes to the day (R157, R158) -/

/-- BOOKING CANCEL of the published entry that carries the id, by its status (R157). -/
def cancelEntry (p : Part) (id : Nat) (s : EntryStatus) : Part × Status :=
  match s with
  | .pending =>
    let q := p.markEntry id .pending .cancelled
    (if q.ssu.pendingStart = some id then q.setPendingStart none else q, .done)
  | .active =>
    let q := p.markEntry id .active .cancelled
    match q.ssu.session with
    | some x => (if x.state = .windup then q else q.windup .cancelled, .done)
    | none => (q, .done)
  | _ => (p, .state)

/-- BOOKING CANCEL (R157). -/
def bookingCancel (p : Part) (id : Nat) : Part × Status :=
  if id = 0 then (p, .range)
  else if p.staging.state = .checking then (p, .busy)
  else match p.findEntry id with
    | none => (p, .state)
    | some e => p.cancelEntry id e.status

/-- EXTEND (R158). -/
def extend (p : Part) (minute : Nat) : Part × Status :=
  if minute = 0 ∨ 1440 < minute then (p, .range)
  else if p.staging.state = .checking then (p, .busy)
  else match p.ssu.session with
    | none => (p, .state)
    | some x =>
      if x.state = .windup then (p, .state)
      else if minute ≤ p.sch.clock.minute then (p, .overlap)
      else if p.nextStart < minute then (p, .overlap)
      else (p.extendTo x (p.sch.clock.day * 1440 + minute), .done)

/-- END (R169). -/
def endSession (p : Part) : Part × Status :=
  match p.ssu.session with
  | none => (p, .state)
  | some x => if x.state = .windup then (p, .state) else (p.windup .chair, .done)

/-- SUMMARY RELEASE (R180). -/
def summaryRelease (p : Part) (number : Nat) : Part × Status :=
  match p.ssu.store with
  | [] => (p, .state)
  | x :: rest =>
    if x.number = number then (p.withSsu { p.ssu with store := rest, lost := false }, .done) else (p, .state)

end Sys2Proof.Machine.Part
end

