-- ==== Sys2Proof/Machine/Plan.lean ====
section
/-! DEFINITION. PLN: the plan image, the load with its corrections and the handing out of settings, and PLAN SAVE
(chapter 1). -/

namespace Sys2Proof.Machine

/-! ### Corrected values (R8) -/

/-- A value as corrected, and whether the correction moved it. -/
abbrev Fixed (α : Type) := α × Bool

/-- A number moved to the nearest end of its range (R8). -/
def fixNumber (lo hi n : Nat) : Fixed Nat := (clamp lo hi n, clamp lo hi n ≠ n)

/-- A named or yes / no value; one outside its set takes its built-in default (R8). -/
def fixNamed (x : Option α) (default : α) : Fixed α :=
  match x with
  | some v => (v, false)
  | none => (default, true)

/-- A table of corrected values. -/
def fixTable (f : Fin n → Fixed α) : Fixed (Vector α n) :=
  (Vector.ofFn fun i => (f i).1, (List.finRange n).any fun i => (f i).2)

/-- A stored speaking limit: 0, or 10 to 3600; 1 to 9 becomes 10 (R8). -/
def fixSpeakLimit (n : Nat) : Fixed Nat := if n = 0 then (0, false) else fixNumber 10 3600 n

/-- The sensing frame: rounded down to a multiple of 5 ms and clamped to 5 to 40 ms (R8). -/
def fixFrame (n : Nat) : Fixed Nat := (clamp 5 40 (n / 5 * 5), clamp 5 40 (n / 5 * 5) ≠ n)

/-- The settings that a load takes and hands out (R10). The seats' live fields stand at their reset values. -/
structure Settings where
  roomId    : Nat
  tableName : List Byte
  seats     : Vector Seat 20
  enables   : Vector Bool 41
  key       : Profile
  proximity : Profile
  reference : Profile
  patterns  : Vector PatternEntry 12
  polarity  : Polarities
  presets   : Vector (Vector ScreenSettings 4) 4
  rates     : Vector Rate 8
  agree     : Nat
  drop      : Nat
  capture   : Vector (Bool × Edge × Nat) 8
  gain      : GainSettings
  frame     : Nat
  grace     : Nat
  lead      : Nat
  params    : SessionParams
  preWake   : Nat
  delay     : Nat
  floor     : FloorPreset
  mask      : Vector Bool 8
  proximityWake : Bool
  deriving DecidableEq, Repr

/-! ### Installation and the chair (R7) -/

/-- The strapped seat count (R1). -/
def strapCount (s : StrapPins) : Nat := 8 + 4 * s.seatCount.toNat

/-- Seat records as stored, with the seats above the strapped count not installed (R3, R7). -/
def storedSeat (count : Nat) (img : List Byte) (i : SeatId) : Fixed Seat :=
  let off := 21 + 2 * i.val
  let k := byteAt img (off + 1)
  ({ Seat.reset i with
      installed := bitAt img off 0 && i.val < count
      role := if bitAt img off 1 then .chair else .delegate
      presenceRequired := bitAt img off 2
      priority := bitAt img off 3
      socket := socketOfNumber k },
    8 < k)

/-- The installed seats with role CHAIR, in order. -/
def chairs (v : Vector Seat 20) : List SeatId :=
  (List.finRange 20).filter fun i => (v.get i).installed && (v.get i).role = .chair

/-- The chair role among the installed seats, by the cases of R7. -/
def fixChair (v : Vector Seat 20) : Fixed (Vector Seat 20) :=
  match (List.finRange 20).find? fun i => (v.get i).installed with
  | none => (setEntry v 0 { v.get 0 with installed := true, role := .chair }, true)
  | some low =>
    match chairs v with
    | [] => (setEntry v low { v.get low with role := .chair }, true)
    | [_] => (v, false)
    | c :: _ =>
      (mapTable (fun i x => if x.installed ∧ i ≠ c then { x with role := .delegate } else x) v, true)

/-! ### The sections (R3, R8) -/

/-- The enable mark of a channel: off for a seat above the strapped count (R7), on for the reference channel
(R8). -/
def storedEnable (count : Nat) (img : List Byte) (c : ChannelId) : Fixed Bool :=
  let mark := bitAt img (61 + c.val / 8) (c.val % 8)
  if c.val = 40 then (true, !mark) else (mark && (Part.seatOf c).val < count, false)

/-- The profile stored at an offset, with the built-in profile for values outside their sets (R8, R16). -/
def storedProfile (img : List Byte) (i : Nat) (default : Profile) : Fixed Profile :=
  let dir := fixNamed (directionOf (byteAt img i % 16)) default.direction
  let sign := fixNamed (signOf (byteAt img i / 16)) default.sign
  let bc := fixNumber 0 7 (byteAt img (i + 1))
  let bl := fixNumber 0 15 (byteAt img (i + 2))
  let sb := fixNumber 0 15 (byteAt img (i + 3))
  let t := fixNumber 1 255 (byteAt img (i + 4))
  let de := fixNumber 0 15 (byteAt img (i + 6))
  let dx := fixNumber 0 15 (byteAt img (i + 7))
  let k := fixNumber 0 127 (byteAt img (i + 9))
  let target := fixNumber 200 3800 (halfAt img (i + 10))
  let band := fixNumber 1 64 (byteAt img (i + 12))
  (⟨dir.1, bc.1, bl.1, sb.1, t.1, byteAt img (i + 5), de.1, dx.1, byteAt img (i + 8), k.1, sign.1, target.1, band.1⟩,
    dir.2 || sign.2 || bc.2 || bl.2 || sb.2 || t.2 || de.2 || dx.2 || k.2 || target.2 || band.2)

/-- The pattern of two bits. -/
def patternBits (n : Nat) : Pattern := (patternOf (n % 4)).getD .off

/-- A stored pattern entry (R3). -/
def storedEntry (img : List Byte) (i : Fin 12) : PatternEntry :=
  let b := byteAt img (107 + i.val)
  ⟨patternBits b, patternBits (b / 4), patternBits (b / 16)⟩

/-- A polarity bit (R3). -/
def polarityBit (b : Bool) : Polarity := if b then .activeLow else .activeHigh

/-- A stored screen entry of a preset (R3, R8); `default` is the built-in entry. -/
def storedScreen (img : List Byte) (i : Nat) (default : ScreenSettings) : Fixed ScreenSettings :=
  let b := byteAt img i
  let mode := fixNamed (screenModeOf (b % 8)) default.mode
  let fixedSource := byteAt img (i + 1)
  let fallback := byteAt img (i + 2)
  (⟨mode.1, ⟨min fixedSource 10, by omega⟩, ⟨b / 8 % 4, by omega⟩, ⟨min fallback 10, by omega⟩, bitAt img i 5⟩,
    mode.2 || 10 < fixedSource || 10 < fallback)

/-- A screen entry that R9 finds in breach. -/
def inBreach (v : Vector ScreenSettings 4) (k : ScreenId) : Bool :=
  let x := v.get k
  x.mode = .followScreen &&
    (x.followed = k || (v.get x.followed).mode = .followScreen ||
      (List.finRange 4).any fun j => j ≠ k && (v.get j).mode = .followScreen && (v.get j).followed = k)

/-- The correction of one screen entry, with the others as they stand (R9). -/
def fixFollow (r : Fixed (Vector ScreenSettings 4)) (k : ScreenId) : Fixed (Vector ScreenSettings 4) :=
  if inBreach r.1 k then (setEntry r.1 k { r.1.get k with mode := .blank }, true) else r

/-- A routing preset, its fields corrected by R8 and its follow chains by R9. -/
def storedPreset (img : List Byte) (n : Fin 4) : Fixed (Vector ScreenSettings 4) :=
  let v := fixTable fun k : Fin 4 => storedScreen img (120 + 12 * n.val + 3 * k.val) ((builtInPresets.get n).get k)
  (List.finRange 4).foldl fixFollow v

/-- The nominal period of a stored rate entry: 0 stays 0 (R8). -/
def fixNominal (n : Nat) : Fixed Nat := if n = 0 then (0, false) else fixNumber 1000 65000 n

/-- A stored rate table entry (R3, R8, R116). -/
def storedRate (img : List Byte) (i : Fin 8) : Fixed Rate :=
  let o := 168 + 9 * i.val
  let nominal := fixNominal (halfAt img o)
  let tolerance := fixNumber 0 2000 (halfAt img (o + 2))
  let cls := fixNumber 1 8 (byteAt img (o + 4))
  let width := fixNumber 0 (halfAt img (o + 7)) (halfAt img (o + 5))
  (⟨nominal.1, tolerance.1, cls.1, width.1, halfAt img (o + 7)⟩, nominal.2 || tolerance.2 || cls.2 || width.2)

/-- The noise filter of a stored number 0 to 3 (R3). -/
def storedFilter (n : Nat) : Option Nat := if n = 0 then some 0 else if n ≤ 3 then some (2 ^ n) else none

/-- The stored capture settings of a socket (R3, R8). -/
def storedCapture (img : List Byte) (k : SocketId) : Fixed (Bool × Edge × Nat) :=
  let b := byteAt img (242 + k.val)
  let edge := fixNamed (edgeOf (b / 2 % 4)) .falling
  let filter := fixNamed (storedFilter (b / 8 % 8)) 2
  ((b.testBit 0, edge.1, filter.1), edge.2 || filter.2)

/-- The stored gain settings (R8, R92). -/
def storedGain (img : List Byte) : Fixed GainSettings :=
  let ceiling := fixNumber 1 1023 (halfAt img 250)
  let rise := fixNumber 1 255 (byteAt img 252)
  let fall := fixNumber 1 255 (byteAt img 253)
  let ducking := fixNamed (yesNoOf (byteAt img 255)) true
  (⟨ceiling.1, rise.1, fall.1, byteAt img 254, ducking.1⟩, ceiling.2 || rise.2 || fall.2 || ducking.2)

/-- The stored session and walk-in parameters; the quorum is clamped to the number of installed seats (R8, R161). -/
def storedParams (img : List Byte) (installed : Nat) : Fixed SessionParams :=
  let warning := fixNumber 0 15 (byteAt img 259)
  let overtime := fixNumber 0 30 (byteAt img 260)
  let vacancy := fixNumber 0 60 (byteAt img 261)
  let quorum := fixNumber 0 installed (byteAt img 262)
  let dwell := fixNumber 0 600 (halfAt img 263)
  let minFree := fixNumber 0 120 (byteAt img 265)
  let length := fixNumber 15 240 (byteAt img 266)
  (⟨warning.1, overtime.1, vacancy.1, quorum.1, dwell.1, minFree.1, length.1⟩,
    warning.2 || overtime.2 || vacancy.2 || quorum.2 || dwell.2 || minFree.2 || length.2)

/-- The stored default floor preset (R8, R62). -/
def storedFloor (img : List Byte) : Fixed FloorPreset :=
  let mode := fixNamed (floorModeOf (byteAt img 269)) .queue
  let limit := fixNumber 1 6 (byteAt img 270)
  let speak := fixSpeakLimit (halfAt img 271)
  let enforce := fixNamed (yesNoOf (byteAt img 273)) false
  (⟨mode.1, limit.1, speak.1, enforce.1⟩, mode.2 || limit.2 || speak.2 || enforce.2)

/-- The pattern table taken: strap-selected for selector 0, stored for 1 (R10). -/
def storedPatterns (straps : StrapPins) (img : List Byte) : Fixed (Vector PatternEntry 12) :=
  let selector := fixNamed (yesNoOf (byteAt img 106)) false
  (if selector.1 then Vector.ofFn (storedEntry img) else strapPatterns straps, selector.2)

/-- The settings of an image as corrected by R7 to R9, and whether any correction counted. -/
def readSettings (straps : StrapPins) (img : List Byte) : Fixed Settings :=
  let count := strapCount straps
  let raw := fixTable (storedSeat count img)
  let seats := fixChair raw.1
  let installed := ((List.finRange 20).filter fun i => (seats.1.get i).installed).length
  let enables := fixTable (storedEnable count img)
  let key := storedProfile img 67 Profile.key
  let proximity := storedProfile img 80 Profile.proximity
  let reference := storedProfile img 93 Profile.reference
  let patterns := storedPatterns straps img
  let presets := fixTable (storedPreset img)
  let rates := fixTable (storedRate img)
  let agree := fixNumber 1 15 (byteAt img 240)
  let drop := fixNumber 1 15 (byteAt img 241)
  let capture := fixTable (storedCapture img)
  let gain := storedGain img
  let frame := fixFrame (byteAt img 256)
  let grace := fixNumber 0 60 (byteAt img 257)
  let lead := fixNumber 5 120 (byteAt img 258)
  let params := storedParams img installed
  let preWake := fixNumber 1 60 (byteAt img 267)
  let delay := fixNumber 1 60 (byteAt img 268)
  let floor := storedFloor img
  ({ roomId := halfAt img 3
     tableName := (img.drop 5).take 16
     seats := seats.1
     enables := enables.1
     key := key.1
     proximity := proximity.1
     reference := reference.1
     patterns := patterns.1
     polarity := ⟨polarityBit (bitAt img 119 0), polarityBit (bitAt img 119 1), polarityBit (bitAt img 119 2)⟩
     presets := presets.1
     rates := rates.1
     agree := agree.1
     drop := drop.1
     capture := capture.1
     gain := gain.1
     frame := frame.1
     grace := grace.1
     lead := lead.1
     params := params.1
     preWake := preWake.1
     delay := delay.1
     floor := floor.1
     mask := Vector.ofFn fun k => bitAt img 274 k.val
     proximityWake := bitAt img 275 0 },
   raw.2 || seats.2 || enables.2 || key.2 || proximity.2 || reference.2 || patterns.2 || presets.2 || rates.2 ||
     agree.2 || drop.2 || capture.2 || gain.2 || frame.2 || grace.2 || lead.2 || params.2 || preWake.2 ||
     delay.2 || floor.2)

/-! ### Writing an image (R3, R13) -/

/-- The plan sum of 510 bytes (R3). -/
def planSum (l : List Byte) : Nat := (l.foldl (fun n b => n + b.toNat) 0) % 65536

/-- An image with its sum. -/
def withSum (l : List Byte) : List Byte := l ++ b2 (planSum l)

/-- A profile in 13 bytes (R3). -/
def profileImage (x : Profile) : List Byte :=
  b1 (x.direction.code + 16 * x.sign.code) ++ b1 x.countBeta ++ b1 x.activeBeta ++ b1 x.standbyBeta ++
    b1 x.threshold ++ b1 x.hysteresis ++ b1 x.enter ++ b1 x.exit ++ b1 x.haltLimit ++ b1 x.tracking ++
    b2 x.target ++ b1 x.band

/-- A pattern entry in one byte (R3). -/
def entryImage (x : PatternEntry) : List Byte := b1 (x.red.code + 4 * x.green.code + 16 * x.light.code)

/-- The pattern section: selector, entries, polarity (R3). -/
def patternImage (selector : Nat) (v : Vector PatternEntry 12) (x : Polarities) : List Byte :=
  b1 selector ++ v.toList.flatMap entryImage ++ b1 (x.red.code + 2 * x.green.code + 4 * x.light.code)

/-- The number of a noise filter (R3). -/
def filterCode (n : Nat) : Nat := if n = 0 then 0 else if n = 2 then 1 else if n = 4 then 2 else 3

/-- The capture byte of a socket (R3). -/
def captureImage (x : Socket) : List Byte := b1 (yesNo x.enable + 2 * edgeCode x.edge + 8 * filterCode x.filter)

/-- The sources section (R3). -/
def sourcesImage (s : Scu) : List Byte :=
  s.rates.toList.flatMap rateBytes ++ b1 s.agree ++ b1 s.drop ++ s.sockets.toList.flatMap captureImage

/-- A screen entry of a preset in three bytes (R3). -/
def screenImage (x : ScreenSettings) : List Byte :=
  b1 (x.mode.code + 8 * x.followed.val + 32 * yesNo x.privacy) ++ b1 x.fixed.val ++ b1 x.fallback.val

/-- The image that the built-in defaults make (R5, R6), with the stored entries of the pattern table as the straps
select them. -/
def defaultImage (straps : StrapPins) : List Byte :=
  let p := Part.atReset straps .loading
  withSum <|
    b2 0xA51C ++ b1 1 ++ b2 0 ++ builtInName ++
    ((List.finRange 20).flatMap fun i => b1 (if i.val = 0 then 7 else 5) ++ b1 0) ++
    [255, 255, 255, 255, 255, 1] ++
    profileImage Profile.key ++ profileImage Profile.proximity ++ profileImage Profile.reference ++
    patternImage 0 (strapPatterns straps) p.sgu.polarity ++
    (builtInPresets.toList.flatMap fun v => v.toList.flatMap screenImage) ++
    sourcesImage p.scu ++ gainBytes GainSettings.builtIn ++
    [10, 8, 30, 5, 5, 10, 2, 0, 60, 15, 60, 10, 5, 1, 2, 0, 0, 0, 255, 1] ++ List.replicate 234 0

namespace Part

/-! ### The load (R4, R5, R10) -/

/-- An image is good: read in full, with the format mark, the version and the sum that R4 asks for. -/
def goodImage (l : List Byte) : Bool :=
  l.length = 512 && halfAt l 0 = 0xA51C && byteAt l 2 = 1 && halfAt l 510 = planSum (l.take 510)

/-- The image that a load takes its settings from, if any. -/
def loadedImage : EepromRead → Option (List Byte)
  | .image l => if goodImage l then some l else none
  | _ => none

/-- A seat record takes its fixed fields from the plan (R2, R10). -/
def takeFixed (f x : Seat) : Seat :=
  { x with
    installed := f.installed, role := f.role, socket := f.socket
    presenceRequired := f.presenceRequired, priority := f.priority }

/-- The handing out of settings: one event for all blocks, with preset 0 applied (R10). -/
def handOut (p : Part) (s : Settings) : Part :=
  let q := { p with
    sfe := { p.sfe with
      channels := mapTable (fun c (x : Channel) => { x with enabled := s.enables.get c }) p.sfe.channels
      key := s.key, proximity := s.proximity, reference := s.reference, frame := s.frame }
    smn := { p.smn with seats := mapTable (fun i x => takeFixed (s.seats.get i) x) p.smn.seats, grace := s.grace }
    flc := { p.flc with lead := s.lead, preset := s.floor }
    sgu := { p.sgu with gain := s.gain, patterns := s.patterns, polarity := s.polarity }
    scu := { p.scu with
      sockets := mapTable
        (fun k (x : Socket) =>
          { x with enable := (s.capture.get k).1, edge := (s.capture.get k).2.1, filter := (s.capture.get k).2.2 })
        p.scu.sockets
      rates := s.rates, agree := s.agree, drop := s.drop }
    rtu := { p.rtu with presets := s.presets }
    ssu := { p.ssu with params := s.params }
    prt := { p.prt with roomId := s.roomId, tableName := s.tableName }
    pwu := { p.pwu with lead := s.preWake, delay := s.delay, mask := s.mask, proximityWake := s.proximityWake } }
  (q.applyFloorPreset s.floor).applyPreset 0

/-- PLN's record at the end of a load (R5), which is also the start of stage 3 (R11). -/
def loadRecord (p : Part) (outcome : LoadOutcome) (corrected : Bool) (image : List Byte) : Part :=
  p.withPln { p.pln with outcome := outcome, corrected := corrected, image := image, stage := .retuning }

/-- A load that ends with outcome PLAN (R5, R9, R10). -/
def loadPlan (p : Part) (img : List Byte) : Part :=
  let s := readSettings p.pln.straps img
  let q := p.loadRecord .plan s.2 img
  let r := if s.2 then q.noticeCause .sense .planCorrected else q
  (r.handOut s.1).startUpRetunes

/-- A load that ends with outcome DEFAULT: *plan default*; the corrections that the defaults need raise nothing
(R5, R6). -/
def loadDefault (p : Part) : Part :=
  let img := defaultImage p.pln.straps
  let q := (p.loadRecord .default false img).noticeCause .sense .planDefault
  (q.handOut (readSettings p.pln.straps img).1).startUpRetunes

/-- The end of a load in progress, the handing out of settings and the start of the stage-3 retunes (R5, R10, R11). -/
def loadEnd (p : Part) (e : EepromRead) : Part :=
  if p.pln.stage = .loading then
    match loadedImage e with
    | some img => p.loadPlan img
    | none => p.loadDefault
  else p

/-! ### PLAN SAVE (R13, R14) -/

/-- A save is in progress (R13). -/
def isSaving (p : Part) : Bool := p.pln.saving

/-- The first byte of a stored seat record with the bits that R3 does not name at 0, and its second byte. -/
def seatImage (img : List Byte) (i : SeatId) : List Byte :=
  b1 (byteAt img (21 + 2 * i.val) % 16) ++ b1 (byteAt img (22 + 2 * i.val))

/-- A stored screen entry with the bits that R3 does not name at 0. -/
def entryCopy (img : List Byte) (i : Fin 16) : List Byte :=
  b1 (byteAt img (120 + 3 * i.val) % 64) ++ b1 (byteAt img (121 + 3 * i.val)) ++ b1 (byteAt img (122 + 3 * i.val))

/-- The image that PLAN SAVE writes (R13): the sections in force, the other sections from the copy, and 0 in every bit that
R3 does not name. -/
def composeImage (p : Part) : List Byte :=
  let c := p.pln.image
  withSum <|
    c.take 2 ++ b1 1 ++ (c.drop 3).take 18 ++ (List.finRange 20).flatMap (seatImage c) ++
    (c.drop 61).take 5 ++ b1 (byteAt c 66 % 2) ++
    profileImage p.sfe.key ++ profileImage p.sfe.proximity ++ profileImage p.sfe.reference ++
    patternImage 1 p.sgu.patterns p.sgu.polarity ++
    (List.finRange 16).flatMap (entryCopy c) ++ sourcesImage p.scu ++ gainBytes p.sgu.gain ++
    (c.drop 256).take 19 ++ b1 (byteAt c 275 % 2) ++ List.replicate 234 0

/-- PLAN SAVE (R13). -/
def planSave (p : Part) : Part × Status :=
  if p.isSaving then (p, .busy)
  else (p.withPln { p.pln with saving := true, composed := p.composeImage }, .done)

/-- The read-back of a save in progress matches (R14). -/
def saveMatch (p : Part) : Part :=
  if p.isSaving then
    (p.withPln { p.pln with saving := false, result := .saved, image := p.pln.composed, composed := [] }).noticeCause
      .sense .saved
  else p

/-- A save in progress fails (R14). -/
def saveFailure (p : Part) : Part :=
  if p.isSaving then
    (p.withPln { p.pln with saving := false, result := .writeFailed, composed := [] }).noticeCause .sense .writeFailed
  else p

end Part

end Sys2Proof.Machine
end

