-- ==== Sys2Proof/Machine/Reads.lean ====
section
/-! DEFINITION. The contents of the READ requests and of IDENT, laid out by the conventions of R197. -/

namespace Sys2Proof.Machine.Part

/-- A response as its owner gives it: the status and the contents. -/
abbrev Reply := Status × List Byte

/-! ### The floor and the seats -/

/-- A queue entry as FLOOR READ gives it (R65, R90). -/
def queueBytes (e : QueueEntry) : List Byte :=
  b1 (e.seat.val + 1) ++ bool e.priority ++ bool e.override ++ b2 e.number.toNat ++ b2 e.second.toNat

/-- A slot as FLOOR READ gives it (R90); the close reason is none outside CLOSING. -/
def slotBytes (x : Slot) : List Byte :=
  b1 x.state.code ++ b1 (seatNumber x.holder) ++ b2 x.gain ++ b2 x.elapsed ++ b1 x.warned.code ++
    b1 (slotReasonCode (if x.state = .closing then x.reason else none))

/-- The contents of FLOOR READ (R90). -/
def floorContents (p : Part) : List Byte :=
  b1 p.flc.mode.code ++ b1 p.flc.limit ++ b2 p.flc.speak ++ bool p.flc.enforce ++ b1 p.flc.lead ++
    b1 (effectiveLead p.flc) ++ bool p.flc.isOpen ++ b2 p.flc.seconds.toNat ++ b2 p.flc.nextNumber.toNat ++
    listed p.flc.queue queueBytes ++ (allSlots.flatMap fun k => slotBytes (p.slot k)) ++
    listed p.flc.openOrder (fun k => b1 k.val) ++
    (List.finRange 20).flatMap fun s => b1 (p.indicationOf s).code

/-- The outcome of a channel in a READ: none, numbered last, for OFF (R43, R61; assumption 6). -/
def outcomeBytes (x : Channel) : List Byte := b1 (if x.state = .off then 3 else (outcomeOf x).code)

/-- The contents of SEAT READ (R61). -/
def seatContents (p : Part) (s : SeatId) : List Byte :=
  let x := p.seat s
  b1 (s.val + 1) ++ bool x.installed ++ b1 x.role.code ++ b1 (socketNumber x.socket) ++ bool x.presenceRequired ++
    bool x.priority ++ b1 x.presence.code ++ b1 x.absence ++ b1 p.smn.grace ++ b1 x.key.code ++ b2 x.press ++
    b1 x.mark.code ++ bool x.nextTaken ++ outcomeBytes (p.channel (keyChannel s)) ++
    outcomeBytes (p.channel (proximityChannel s)) ++ counterBytes x.counters ++ b1 p.smn.occupied

/-- SEAT READ (R61). -/
def seatRead (p : Part) (n : Nat) : Reply :=
  match seatOfNumber n with
  | some s => (.done, p.seatContents s)
  | none => (.range, [])

/-! ### Channels -/

/-- The enable mark as CHANNEL READ gives it: no for a seat that is not installed (R43). -/
def enableShown (p : Part) (c : ChannelId) : Bool :=
  (p.channel c).enabled && (c.val = 40 || (p.seat (seatOf c)).installed)

/-- The tune setting as CHANNEL READ gives it, coarse and fine; in TUNING, that of the last search step (R32, R43). -/
def settingBytes (x : Channel) : List Byte :=
  let v := if x.state = .tuning then x.trial else x.tune
  b1 (v / 32) ++ b1 (v % 32)

/-- The contents of CHANNEL READ (R43). -/
def channelContents (p : Part) (c : ChannelId) : List Byte :=
  let x := p.channel c
  b1 c.val ++ b1 (kindOf c).code ++ bool (p.enableShown c) ++ b1 x.state.code ++ outcomeBytes x ++ settingBytes x ++
    b1 x.step ++ bool x.pending ++ b1 x.result.code ++ b2 x.raw ++ bool x.saturated ++ b2 x.filtered ++ b2 x.lta ++
    b2 x.delta ++ b2 x.level ++ b2 x.release ++ b2 x.haltLevel ++ b1 x.debounce ++ b3 x.haltTimer ++
    b1 x.bandCount ++ profileBytes (p.profileOf (kindOf c))

/-- CHANNEL READ (R43). -/
def channelRead (p : Part) (n : Nat) : Reply :=
  match channelOfNumber n with
  | some c => (.done, p.channelContents c)
  | none => (.range, [])

/-! ### Sources and screens -/

/-- A socket is live and supported: LIVE or DROPPING with a class id (R120). -/
def socketSupported (x : Socket) : Bool :=
  socketLive x && match x.cls with
    | .id _ => true
    | _ => false

/-- The capture settings of a socket (R111). -/
def captureBytes (x : Socket) : List Byte := bool x.enable ++ b1 (edgeCode x.edge) ++ b1 x.filter

/-- A socket as SOURCE READ gives it (R126), as it stands when the request is served. -/
def socketBytes (p : Part) (k : SocketId) : List Byte :=
  let x := p.socket k
  captureBytes x ++ b1 x.phase.code ++ b2 x.counter ++ b2 x.width ++ b2 x.period ++ b1 x.entry ++ b1 x.cls.code ++
    b1 x.state.code ++ b1 x.agree ++ b1 x.drop ++ bool (socketLive x) ++ bool (socketSupported x) ++ bool (p.inMask k)

/-- Four rate table entries from one on, and the two counts (R126). -/
def ratesBytes (p : Part) (first : Nat) : List Byte :=
  (((List.finRange 8).filter fun i => first ≤ i.val && i.val < first + 4).flatMap fun i =>
    rateBytes (p.scu.rates.get i)) ++ b1 p.scu.agree ++ b1 p.scu.drop

/-- The state and class of every socket, and the two presence flags (R126). -/
def allSources (p : Part) : List Byte :=
  ((List.finRange 8).flatMap fun k => b1 (p.socket k).state.code ++ b1 (p.socket k).cls.code) ++
    bool p.scu.pc ++ bool p.scu.codec

/-- SOURCE READ (R126), with the selectors of R197. -/
def sourceRead (p : Part) (n : Nat) : Reply :=
  match socketOfNumber n with
  | some k => (.done, p.socketBytes k)
  | none =>
    if n = 9 then (.done, bool p.scu.pc)
    else if n = 10 then (.done, bool p.scu.codec)
    else if n = 0x20 then (.done, p.allSources)
    else if n = 0x21 then (.done, p.ratesBytes 0)
    else if n = 0x22 then (.done, p.ratesBytes 4)
    else (.range, [])

/-- A screen record (R127). -/
def screenBytes (x : Screen) : List Byte :=
  settingsBytes x.set ++ b1 x.shown.val ++ b1 x.driven.val ++ b1 x.settle.code ++ b1 x.timer

/-- The contents of ROUTE READ for SCREENS (R141). -/
def screensContents (p : Part) : List Byte :=
  ((List.finRange 4).flatMap fun k => screenBytes (p.drivenRecord k)) ++ bool p.rtu.override ++
    listed p.rtu.speakers (fun s => b1 (s.val + 1)) ++ p.rtu.routable.toList.flatMap bool

/-- The contents of ROUTE READ for PRESETS (R141). -/
def presetsContents (p : Part) : List Byte :=
  p.rtu.presets.toList.flatMap fun v => v.toList.flatMap settingsBytes

/-- ROUTE READ (R141). -/
def routeRead (p : Part) (n : Nat) : Reply :=
  if n = 0 then (.done, p.screensContents)
  else if n = 1 then (.done, p.presetsContents)
  else (.range, [])

/-! ### The clock, the banks, the session -/

/-- The contents of CLOCK READ (R146). -/
def clockContents (p : Part) : List Byte :=
  b2 p.sch.clock.day ++ b2 p.sch.clock.minute ++ b1 p.sch.clock.second ++ bool p.sch.clock.valid

/-- The bank that a selector names, and whether it is bank A: 0 A, 1 B, 2 PUBLISHED, 3 STAGING (R160, R197). -/
def bankOf (p : Part) (n : Nat) : Option (Bool × Bank) :=
  if n = 0 then some (true, p.sch.bankA)
  else if n = 1 then some (false, p.sch.bankB)
  else if n = 2 then some (p.publishedIsA, p.published)
  else if n = 3 then some (!p.publishedIsA, p.staging)
  else none

/-- Part 0 of BANK READ (R160). -/
def bankHead (p : Part) (isA : Bool) (b : Bank) : List Byte :=
  b1 (if isA then 0 else 1) ++ b1 b.role.code ++ b1 b.state.code ++ b2 b.day ++ b1 b.declared ++ b1 b.received ++
    bool b.auto ++ b1 b.cause.code ++ bool (b.role = .published && p.isCurrent) ++ b2 p.sch.clock.day ++
    b2 p.sch.clock.minute ++ bool p.sch.clock.valid ++ b2 p.nextStart

/-- A bank's entry as BANK READ gives it: the layout of BOOKING ENTRY and the status (R197). -/
def entryBytes (e : Entry) : List Byte := bookingBytes e.booking ++ b1 e.status.code

/-- Items 4p - 3 to 4p of a list, for part p from 1 on. -/
def fourOf (l : List α) (part : Nat) : List α := (l.drop (4 * part - 4)).take 4

/-- BANK READ (R160). -/
def bankRead (p : Part) (bank part : Nat) : Reply :=
  match p.bankOf bank with
  | none => (.range, [])
  | some b =>
    if 8 < part then (.range, [])
    else if part = 0 then (.done, p.bankHead b.1 b.2)
    else (.done, listed (fourOf b.2.entries part) entryBytes)

/-- A time as a day number and a minute of day. -/
def timeBytes (t : Nat) : List Byte := b2 (t / 1440) ++ b2 (t % 1440)

/-- The copy of a session: a presence byte and the layout of BOOKING ENTRY, sent as zeros when absent. -/
def copyBytes (c : Option Booking) : List Byte :=
  match c with
  | some b => bool true ++ bookingBytes b
  | none => bool false ++ List.replicate 17 0

/-- An optional close reason, with its presence byte. -/
def closeBytes (r : Option CloseReason) : List Byte :=
  match r with
  | some x => bool true ++ b1 x.code
  | none => bool false ++ b1 0

/-- The fields of an open session in the order of R161. -/
def sessionBytes (x : Session) : List Byte :=
  b1 x.kind.code ++ opt2 x.booking ++ copyBytes x.copy ++ b1 x.state.code ++ b2 x.openDay ++ b2 x.openMinute ++
    mark2 x.checkedIn ++ timeBytes x.effEnd ++ bool x.unlisted ++ b1 x.peak ++ closeBytes x.reason ++ b1 x.await ++
    b2 x.vacancy

/-- The contents of SESSION READ (R181). -/
def sessionContents (p : Part) : List Byte :=
  (match p.ssu.session with
    | some x => bool true ++ sessionBytes x
    | none => bool false) ++
    opt2 p.ssu.pendingStart ++ b2 p.ssu.dwell ++ listed p.ssu.store (fun x => b2 x.number) ++ bool p.ssu.lost ++
    b2 p.nextStart

/-- The header of a summary (R177). -/
def summaryHead (x : Summary) : List Byte :=
  b2 x.number ++ b1 x.kind.code ++ opt2 x.booking ++ b1 (seatNumber x.organiser) ++ b2 x.openDay ++ b2 x.openMinute ++
    b2 x.closeDay ++ b2 x.closeMinute ++ b1 x.reason.code ++ mark2 x.checkedIn ++ b1 x.peak ++ bool x.unlisted ++
    b1 x.lines.length

/-- A seat line of a summary (R177). -/
def lineBytes (x : SeatLine) : List Byte := b1 (x.seat.val + 1) ++ counterBytes x.counters

/-- SUMMARY READ (R179). -/
def summaryRead (p : Part) (part : Nat) : Reply :=
  if 5 < part then (.range, [])
  else match p.ssu.store with
    | [] => (.state, [])
    | x :: _ =>
      (.done, b2 x.number ++ bool p.ssu.lost ++ b1 p.ssu.store.length ++
        (if part = 0 then summaryHead x else listed (fourOf x.lines part) lineBytes))

/-! ### IDENT and the notices -/

/-- The contents of IDENT (R195, R197). -/
def identContents (p : Part) : List Byte :=
  b2 Config.vendorCode ++ b2 Config.partCode ++ b1 Config.revision ++ b2 p.prt.roomId ++ p.prt.tableName ++
    b1 (strapCount p.pln.straps) ++ b1 p.pln.straps.linkRate.toNat ++ b1 (if p.pln.straps.indStyle then 2 else 1) ++
    b1 p.pln.outcome.code ++ bool p.pln.corrected ++ bool p.pln.saving ++ b1 p.pln.result.code

/-- The contents of NOTICE READ: flags, cause marks and mask (R191, R197). -/
def noticeContents (p : Part) (q : Port) : List Byte :=
  b2 (p.port q).flags.toNat ++ b1 (p.port q).causes.toNat ++ b2 (p.port q).mask.toNat

end Sys2Proof.Machine.Part
end

