-- ==== Sys2Proof/Machine/Settings.lean ====
section
/-! DEFINITION. The requests that set something, each as its owner answers it: the part afterwards, the status, and the
contents of the response. -/

namespace Sys2Proof.Machine.Part

/-- What the owner of a request gives back. -/
abbrev Served := Part × Reply

/-- An answer without contents. -/
def plain (r : Part × Status) : Served := (r.1, r.2, [])

/-- A request that names a seat; another number is RANGE (chapter 4, chair requests). -/
def onSeat (p : Part) (n : Nat) (f : SeatId → Served) : Served :=
  match seatOfNumber n with
  | some s => f s
  | none => (p, .range, [])

/-! ### The floor (R77 to R85) -/

/-- CLOSE (R79). -/
def closeRequest (p : Part) (s : SeatId) : Part × Status :=
  match p.slotOf s with
  | some k => if isOpenState (p.slot k).state then (p.close k .chair, .done) else (p, .state)
  | none => (p, .state)

/-- CANCEL (R80). -/
def cancelRequest (p : Part) (s : SeatId) : Part × Status :=
  if p.isQueued s then (p.leaveQueue s, .done) else (p, .state)

/-- CANCEL ALL (R80). -/
def cancelAll (p : Part) : Part × Status := (p.setQueue [], .done)

/-- SET MODE (R82). -/
def setModeRequest (p : Part) (n : Nat) : Part × Status :=
  match floorModeOf n with
  | some m => (p.setMode m, .done)
  | none => (p, .range)

/-- SET SPEAK LIMIT (R84). -/
def setSpeakRequest (p : Part) (n e : Nat) : Part × Status :=
  match speakLimitOf n, yesNoOf e with
  | some s, some b => (p.setSpeakLimit s b, .done)
  | _, _ => (p, .range)

/-- The answer that a press result gives a PRESS request (R85). -/
def pressReply : PressResult → Reply
  | .opened => (.done, b1 0)
  | .closed => (.done, b1 1)
  | .withdrawn => (.done, b1 2)
  | .queued => (.done, b1 3)
  | .refused => (.state, [])
  | .queueFull => (.full, [])

/-- Seat s is idle on the floor: neither queued nor the holder of a slot that is not FREE (R72). -/
def isIdle (p : Part) (s : SeatId) : Bool := !p.isQueued s && (p.slotOf s).isNone

/-- PRESS (R85). -/
def pressRequest (p : Part) (s : SeatId) : Served :=
  if !(p.seat s).installed then (p, .state, [])
  else if s = p.chairSeat then ((p.chairToggle).1, pressReply (p.chairToggle).2)
  else if p.flc.isOpen && p.isIdle s && !p.presentForKey s then (p, .state, [])
  else ((p.delegatePress s).1, pressReply (p.delegatePress s).2)

/-! ### The table's settings (R18, R36, R108, R109) -/

/-- A profile in PROFILE SET: the fields that clamp are clamped, and another field out of range gives none
(R16, R18). The payload follows the profile's number. -/
def requestProfile (l : List Byte) : Option Profile := do
  let direction ← directionOf (byteAt l 1)
  let sign ← signOf (byteAt l 11)
  if 7 < byteAt l 2 ∨ 15 < byteAt l 3 ∨ 15 < byteAt l 4 ∨ 15 < byteAt l 7 ∨ 15 < byteAt l 8 ∨ 127 < byteAt l 10 then
    none
  return ⟨direction, byteAt l 2, byteAt l 3, byteAt l 4, clamp 1 255 (byteAt l 5), byteAt l 6, byteAt l 7, byteAt l 8,
    byteAt l 9, byteAt l 10, sign, clamp 200 3800 (halfAt l 12), clamp 1 64 (byteAt l 14)⟩

/-- PROFILE SET (R18). -/
def profileRequest (p : Part) (l : List Byte) : Part × Status :=
  if p.isSaving then (p, .busy)
  else match profileKindOf (byteAt l 0), requestProfile l with
    | some k, some x => (p.setProfile k x, .done)
    | _, _ => (p, .range)

/-- The three patterns of PATTERN SET. -/
def requestPatterns (l : List Byte) : Option PatternEntry := do
  return ⟨← patternOf (byteAt l 1), ← patternOf (byteAt l 2), ← patternOf (byteAt l 3)⟩

/-- A pattern entry in a response (R105, R197). -/
def patternBytes (x : PatternEntry) : List Byte := b1 x.red.code ++ b1 x.green.code ++ b1 x.light.code

/-- PATTERN SET's effect and status for a named state (R108). -/
def setPattern (p : Part) (i : Fin 12) (l : List Byte) : Part × Status :=
  if p.isSaving then (p, .busy)
  else match requestPatterns l with
    | some x => (p.withSgu { p.sgu with patterns := setEntry p.sgu.patterns i x }, .done)
    | none => (p, .range)

/-- PATTERN SET (R108). The request's own fields, which answer for an unknown state, are its whole payload, the number that
names the state among them; so also for an entry, a socket or a screen out of range (R112, R117, R138). DEDUCED
(log entry 22). -/
def patternRequest (p : Part) (l : List Byte) : Served :=
  match finOf 12 (byteAt l 0) with
  | some i =>
    let r := p.setPattern i l
    (r.1, r.2, patternBytes (r.1.sgu.patterns.get i))
  | none => (p, if p.isSaving then .busy else .range, l)

/-- The three polarities of POLARITY SET. -/
def requestPolarities (l : List Byte) : Option Polarities := do
  return ⟨← polarityOf (byteAt l 0), ← polarityOf (byteAt l 1), ← polarityOf (byteAt l 2)⟩

/-- POLARITY SET's effect and status (R109). -/
def setPolarity (p : Part) (l : List Byte) : Part × Status :=
  if p.isSaving then (p, .busy)
  else match requestPolarities l with
    | some x => (p.withSgu { p.sgu with polarity := x }, .done)
    | none => (p, .range)

/-- POLARITY SET (R109). -/
def polarityRequest (p : Part) (l : List Byte) : Served :=
  let r := p.setPolarity l
  (r.1, r.2, b1 r.1.sgu.polarity.red.code ++ b1 r.1.sgu.polarity.green.code ++ b1 r.1.sgu.polarity.light.code)

/-- The channels of a RETUNE scope: one channel, or a group (R36, R197). -/
def retuneScope (n : Nat) : Option (List ChannelId) :=
  if n = 0x80 then some ((List.finRange 41).filter fun c => kindOf c = .key)
  else if n = 0x81 then some ((List.finRange 41).filter fun c => kindOf c = .proximity)
  else if n = 0x82 then some (List.finRange 41)
  else (channelOfNumber n).map fun c => [c]

/-- RETUNE (R36). -/
def retuneRequest (p : Part) (scope force : Nat) : Part × Status :=
  match retuneScope scope, yesNoOf force with
  | some cs, some f =>
    if cs.length = 1 && cs.all fun c => (p.channel c).state = .off then (p, .state)
    else (cs.foldl (retuneChannel f) p, .done)
  | _, _ => (p, .range)

/-! ### The AV controller's settings (R92, R112, R117, R118, R122, R138) -/

/-- A screen's five settings as ROUTE SET sends them after the screen number (R138). -/
def requestSettings (l : List Byte) : Option ScreenSettings := do
  let mode ← screenModeOf (byteAt l 1)
  let fixedSource ← inputOfNumber (byteAt l 2)
  let followed ← screenOfNumber (byteAt l 3)
  let fallback ← inputOfNumber (byteAt l 4)
  let privacy ← yesNoOf (byteAt l 5)
  return ⟨mode, fixedSource, followed, fallback, privacy⟩

/-- The follow tests of ROUTE SET fail: the screen would name itself or a follower, or is itself followed (R138). -/
def followBreach (p : Part) (k : ScreenId) (x : ScreenSettings) : Bool :=
  x.mode = .followScreen &&
    (x.followed = k || (p.screen x.followed).set.mode = .followScreen ||
      (List.finRange 4).any fun j => j ≠ k && (p.screen j).set.mode = .followScreen && (p.screen j).set.followed = k)

/-- A screen takes settings, and it is computed with the screens that follow it (R131, R138). -/
def setScreenSettings (p : Part) (k : ScreenId) (x : ScreenSettings) : Part :=
  (p.setScreen k { p.screen k with set := x }).computeShown fun j => j = k

/-- ROUTE SET's effect and status for a named screen (R138). -/
def setRoute (p : Part) (k : ScreenId) (l : List Byte) : Part × Status :=
  match requestSettings l with
  | none => (p, .range)
  | some x => if p.followBreach k x then (p, .state) else (p.setScreenSettings k x, .done)

/-- ROUTE SET (R138). For a screen number out of range the request's own fields are echoed with that number. DEDUCED
(log entry 22). -/
def routeRequest (p : Part) (l : List Byte) : Served :=
  match screenOfNumber (byteAt l 0) with
  | some k =>
    let r := p.setRoute k l
    (r.1, r.2, screenBytes (r.1.drivenRecord k))
  | none => (p, .range, l)

/-- A rate table entry as RATE SET sends it; nothing clamps (R117). -/
def requestRate (l : List Byte) : Option Rate :=
  let n := halfAt l 1
  let w := halfAt l 6
  let x := halfAt l 8
  if (n ≠ 0 ∧ n < 1000) ∨ 65000 < n ∨ 2000 < halfAt l 3 ∨ byteAt l 5 = 0 ∨ 8 < byteAt l 5 ∨ x < w then none
  else some ⟨n, halfAt l 3, byteAt l 5, w, x⟩

/-- RATE SET's effect and status for a named entry (R117). -/
def setRate (p : Part) (i : Fin 8) (l : List Byte) : Part × Status :=
  if p.isSaving then (p, .busy)
  else match requestRate l with
    | some x => (p.withScu { p.scu with rates := setEntry p.scu.rates i x }, .done)
    | none => (p, .range)

/-- RATE SET (R117). -/
def rateRequest (p : Part) (l : List Byte) : Served :=
  match rateOfNumber (byteAt l 0) with
  | some i =>
    let r := p.setRate i l
    (r.1, r.2, rateBytes (r.1.scu.rates.get i))
  | none => (p, if p.isSaving then .busy else .range, l)

/-- COUNT SET's effect and status (R118). -/
def setCounts (p : Part) (k d : Nat) : Part × Status :=
  if p.isSaving then (p, .busy)
  else if k = 0 ∨ 15 < k ∨ d = 0 ∨ 15 < d then (p, .range)
  else (p.withScu { p.scu with agree := k, drop := d }, .done)

/-- COUNT SET (R118). -/
def countSetRequest (p : Part) (k d : Nat) : Served :=
  let r := p.setCounts k d
  (r.1, r.2, b1 r.1.scu.agree ++ b1 r.1.scu.drop)

/-- CAPTURE SET's effect and status for a named socket (R112). -/
def setCapture (p : Part) (k : SocketId) (l : List Byte) : Part × Status :=
  if p.isSaving then (p, .busy)
  else match yesNoOf (byteAt l 1), edgeOf (byteAt l 2), filterOf (byteAt l 3) with
    | some b, some e, some f => (p.putSocket k (captureAfter (p.socket k) b e f), .done)
    | _, _, _ => (p, .range)

/-- CAPTURE SET (R112). -/
def captureRequest (p : Part) (l : List Byte) : Served :=
  match socketOfNumber (byteAt l 0) with
  | some k =>
    let r := p.setCapture k l
    (r.1, r.2, captureBytes (r.1.socket k))
  | none => (p, if p.isSaving then .busy else .range, l)

/-- INPUT PRESENT's effect and status (R122). -/
def setPresent (p : Part) (input present : Nat) : Part × Status :=
  match yesNoOf present with
  | some b =>
    if input = 9 then (p.setFixedInput false b, .done)
    else if input = 10 then (p.setFixedInput true b, .done)
    else (p, .range)
  | none => (p, .range)

/-- INPUT PRESENT (R122). -/
def presentRequest (p : Part) (input present : Nat) : Served :=
  let r := p.setPresent input present
  (r.1, r.2, bool r.1.scu.pc ++ bool r.1.scu.codec)

/-- The gain settings as GAIN SET sends them; nothing clamps (R92). -/
def requestGain (l : List Byte) : Option GainSettings := do
  let ducking ← yesNoOf (byteAt l 5)
  if halfAt l 0 = 0 ∨ 1023 < halfAt l 0 ∨ byteAt l 2 = 0 ∨ byteAt l 3 = 0 then none
  return ⟨halfAt l 0, byteAt l 2, byteAt l 3, byteAt l 4, ducking⟩

/-- GAIN SET's effect and status (R92, R93). -/
def setGain (p : Part) (l : List Byte) : Part × Status :=
  if p.isSaving then (p, .busy)
  else match requestGain l with
    | some g => (p.takeGain g, .done)
    | none => (p, .range)

/-- GAIN SET (R92). -/
def gainRequest (p : Part) (l : List Byte) : Served :=
  let r := p.setGain l
  (r.1, r.2, gainBytes r.1.sgu.gain)

/-! ### The ports' own requests and TABLE RESET (R191, R192, R194) -/

/-- NOTICE READ: the flags and cause marks are returned and cleared (R191). -/
def noticeRead (p : Part) (q : Port) : Served :=
  (p.setPort q { p.port q with flags := 0, causes := 0 }, .done, p.noticeContents q)

/-- NOTICE MASK's effect and status (R192). -/
def setMask (p : Part) (q : Port) (n : Nat) : Part × Status :=
  if 511 < n then (p, .range) else (p.setPort q { p.port q with mask := BitVec.ofNat 9 n }, .done)

/-- NOTICE MASK (R192). -/
def maskRequest (p : Part) (q : Port) (n : Nat) : Served :=
  let r := p.setMask q n
  (r.1, r.2, b2 (r.1.port q).mask.toNat)

/-- Stage 1 of TABLE RESET (R194). -/
def resetPorts (p : Part) : Part :=
  let q := p.onPorts fun x => { x with flags := 0, causes := 0 }
  let r := q.setPort .chair { q.port .chair with pending := none, waiting := none }
  r.setPort .av { r.port .av with pending := none, waiting := none }

/-- PWU at a TABLE RESET: ACTIVE, and the quiet timer 0 (R198). From WAKING it is the end of the settle, at which the start
that waited for it opens, although SSU has dropped it as pending (R176, R202). -/
def resetPower (p : Part) (start : Option Nat) : Part :=
  let q := p.clearQuiet
  if q.pwu.power = .waking then (q.withSsu { q.ssu with pendingStart := start }).endSettling else q.changePower .active

/-- TABLE RESET (R194). Inside stage 2 the slots that the reset cuts are reported to RTU before RTU applies preset 0, and the
settings of a screen that the reports find are those before it; R194 states no order inside the stage, and R137 none.
DESIGN CHOICE (log entry 64). -/
def tableReset (p : Part) : Part :=
  ((((p.resetPorts).resetFloor).resetSession).applyPreset 0).resetPower p.startAtWake

end Sys2Proof.Machine.Part
end

