-- ==== Sys2Proof/Machine/Ports.lean ====
section
/-! DEFINITION. PRT: the request catalogue, the rights and checks, the owners' answers, segmentation, the taking, serving
and answering of requests, response reads, and the room link's receiver (chapter 10). -/

namespace Sys2Proof.Machine

/-! ### The catalogue (R188) -/

/-- A group of requests (R188). END belongs to FLOOR and to SESSION. -/
inductive Group where
  | read | floor | floorOrSession | clock | schedule | session | summary | table | routing | sources | gain
  deriving DecidableEq, Repr

/-- A row of the request catalogue. -/
structure CatalogueRow where
  code   : Nat
  group  : Group
  length : Nat
  deriving DecidableEq, Repr

/-- The requests that every port may make, and those of the chair port (R188). -/
def catalogueLow : List CatalogueRow :=
  [⟨0x01, .read, 0⟩, ⟨0x02, .read, 0⟩, ⟨0x03, .read, 1⟩, ⟨0x04, .read, 1⟩, ⟨0x05, .read, 1⟩, ⟨0x06, .read, 1⟩,
   ⟨0x07, .read, 0⟩, ⟨0x08, .read, 2⟩, ⟨0x09, .read, 0⟩, ⟨0x0A, .read, 0⟩, ⟨0x0B, .read, 2⟩, ⟨0x0C, .read, 0⟩,
   ⟨0x20, .floor, 1⟩, ⟨0x21, .floor, 0⟩, ⟨0x22, .floor, 1⟩, ⟨0x23, .floor, 1⟩, ⟨0x24, .floor, 0⟩, ⟨0x25, .floor, 0⟩,
   ⟨0x26, .floor, 1⟩, ⟨0x27, .floor, 1⟩, ⟨0x28, .floor, 3⟩, ⟨0x29, .floor, 1⟩, ⟨0x2A, .floorOrSession, 0⟩]

/-- The requests of the room link and of the AV port (R188). -/
def catalogueHigh : List CatalogueRow :=
  [⟨0x40, .clock, 5⟩, ⟨0x41, .schedule, 4⟩, ⟨0x42, .schedule, 17⟩, ⟨0x43, .schedule, 0⟩, ⟨0x44, .schedule, 0⟩,
   ⟨0x45, .session, 2⟩, ⟨0x46, .session, 2⟩, ⟨0x47, .summary, 1⟩, ⟨0x48, .summary, 2⟩, ⟨0x49, .table, 15⟩,
   ⟨0x4A, .table, 4⟩, ⟨0x4B, .table, 3⟩, ⟨0x4C, .table, 2⟩, ⟨0x4D, .table, 0⟩, ⟨0x4E, .table, 0⟩, ⟨0x4F, .table, 0⟩,
   ⟨0x60, .routing, 6⟩, ⟨0x61, .sources, 10⟩, ⟨0x62, .sources, 2⟩, ⟨0x63, .sources, 4⟩, ⟨0x64, .sources, 2⟩,
   ⟨0x65, .gain, 6⟩]

/-- The catalogue row of a code (R188). -/
def catalogueRow (code : Byte) : Option CatalogueRow :=
  (catalogueLow ++ catalogueHigh).find? fun r => r.code = code.toNat

/-- The rights of a port (R188). -/
def holds : Port → Group → Bool
  | _, .read => true
  | .chair, g => g = .floor || g = .floorOrSession
  | .room, g => g = .clock || g = .schedule || g = .session || g = .summary || g = .table || g = .floorOrSession
  | .av, g => g = .routing || g = .sources || g = .gain

/-- The READ requests, IDENT among them, which are answered from the end of the load on (R12). -/
def isRead (code : Byte) : Bool := 1 ≤ code.toNat && code.toNat ≤ 0x0A

/-- The requests whose responses are segmented: FLOOR READ, ROUTE READ, BANK READ, SESSION READ, SUMMARY READ (R187). -/
def isSegmented (code : Byte) : Bool :=
  code.toNat = 0x02 || code.toNat = 0x06 || code.toNat = 0x08 || code.toNat = 0x09 || code.toNat = 0x47

/-- The code of PORT RESET (R188). -/
def portResetCode : Byte := 0x0C

/-! ### Frames (R187, R197) -/

/-- Contents cut into pieces of up to 63 bytes; at least one piece (R187). -/
def pieces : Nat → List Byte → List (List Byte)
  | 0, _ => []
  | n + 1, l => if l.length ≤ Config.segmentBytes then [l] else l.take Config.segmentBytes :: pieces n (l.drop Config.segmentBytes)

/-- The payloads of a segmented response, each begun by its segment byte (R187). -/
def segments (l : List Byte) : List (List Byte) :=
  let ps := pieces (l.length + 1) l
  (List.range ps.length).map fun i => byteOf (16 * ps.length + i) :: ps.getD i []

/-- The payloads of the response of a request code with contents (R187). -/
def framesOf (code : Byte) (contents : List Byte) : List (List Byte) :=
  if isSegmented code then segments contents else [contents]

/-- A response frame: tag, status, length, payload (R197). -/
def responseFrame (tag : Byte) (st : Status) (payload : List Byte) : List Byte :=
  [tag, byteOf st.code, byteOf payload.length] ++ payload

/-- The low eight bits of the sum of bytes (R184). -/
def frameSum (l : List Byte) : Byte := byteOf (l.foldl (fun n b => n + b.toNat) 0)

/-- A frame as the room link carries it: the mark 7Eh first and the frame sum last (R184). -/
def wireFrame (l : List Byte) : List Byte := 0x7E :: (l ++ [frameSum l])

/-- The frames of a response, in order. -/
def responseFrames (r : Response) : List (List Byte) := r.frames.map (responseFrame r.tag r.status)

/-- The response that a check gives: no payload (R186). -/
def checkResponse (r : Request) (st : Status) : Response := ⟨r.tag, st, [[]]⟩

/-- A serial port as a port. -/
def portOf : SerialPort → Port
  | .chair => .chair
  | .av => .av

namespace Part

/-! ### The checks (R186) -/

/-- The status that check 4 gives at a stage of start-up, if it answers (R12). -/
def stageAnswer (p : Part) (code : Byte) : Option Status :=
  match p.pln.stage with
  | .running => none
  | .retuning => if isRead code then none else some .busy
  | _ => some .busy

/-- The status of the first check of R186 that fails; none when the request goes to its owner. -/
def checkRequest (p : Part) (q : Port) (r : Request) : Option Status :=
  match catalogueRow r.code with
  | none => some .badRequest
  | some c =>
    if !holds q c.group then some .notPermitted
    else if r.length.toNat ≠ c.length ∨ r.payload.length ≠ r.length.toNat then some .badRequest
    else p.stageAnswer r.code

/-! ### The owners (R188) -/

/-- The owner's answer to a READ request or a request of the port itself. -/
def serveRead (p : Part) (q : Port) (r : Request) : Served :=
  let l := r.payload
  match r.code.toNat with
  | 0x01 => (p, .done, p.identContents)
  | 0x02 => (p, .done, p.floorContents)
  | 0x03 => (p, p.seatRead (byteAt l 0))
  | 0x04 => (p, p.channelRead (byteAt l 0))
  | 0x05 => (p, p.sourceRead (byteAt l 0))
  | 0x06 => (p, p.routeRead (byteAt l 0))
  | 0x07 => (p, .done, p.clockContents)
  | 0x08 => (p, p.bankRead (byteAt l 0) (byteAt l 1))
  | 0x09 => (p, .done, p.sessionContents)
  | 0x0A => p.noticeRead q
  | 0x0B => p.maskRequest q (halfAt l 0)
  | _ => (p, .badRequest, [])

/-- The owner's answer to a request of the chair port, or to END. -/
def serveFloor (p : Part) (r : Request) : Served :=
  let l := r.payload
  match r.code.toNat with
  | 0x20 => p.onSeat (byteAt l 0) fun s => plain (p.grantRequest s)
  | 0x21 => plain p.grantNext
  | 0x22 => p.onSeat (byteAt l 0) fun s => plain (p.closeRequest s)
  | 0x23 => p.onSeat (byteAt l 0) fun s => plain (p.cancelRequest s)
  | 0x24 => plain p.cancelAll
  | 0x25 => plain (p.muteAll, .done)
  | 0x26 => plain (p.setModeRequest (byteAt l 0))
  | 0x27 => plain (p.setLimit (clamp 1 6 (byteAt l 0)), .done)
  | 0x28 => plain (p.setSpeakRequest (halfAt l 0) (byteAt l 2))
  | 0x29 => p.onSeat (byteAt l 0) fun s => p.pressRequest s
  | 0x2A => plain p.endSession
  | _ => (p, .badRequest, [])

/-- The owner's answer to a request of the room link. -/
def serveRoom (p : Part) (r : Request) : Served :=
  let l := r.payload
  match r.code.toNat with
  | 0x40 => plain (p.clockSet (halfAt l 0) (halfAt l 2) (byteAt l 4))
  | 0x41 => plain (p.bankOpen (halfAt l 0) (byteAt l 2) (byteAt l 3))
  | 0x42 => plain (p.bookingEntry l)
  | 0x43 => plain p.bankPublish
  | 0x44 => plain p.bankAbandon
  | 0x45 => plain (p.bookingCancel (halfAt l 0))
  | 0x46 => plain (p.extend (halfAt l 0))
  | 0x47 => (p, p.summaryRead (byteAt l 0))
  | 0x48 => plain (p.summaryRelease (halfAt l 0))
  | 0x49 => plain (p.profileRequest l)
  | 0x4A => p.patternRequest l
  | 0x4B => p.polarityRequest l
  | 0x4C => plain (p.retuneRequest (byteAt l 0) (byteAt l 1))
  | 0x4D => plain p.planSave
  | 0x4E => plain (p.tableReset, .done)
  | 0x4F => plain p.standbyEnter
  | _ => (p, .badRequest, [])

/-- The owner's answer to a request of the AV port. -/
def serveAv (p : Part) (r : Request) : Served :=
  let l := r.payload
  match r.code.toNat with
  | 0x60 => p.routeRequest l
  | 0x61 => p.rateRequest l
  | 0x62 => p.countSetRequest (byteAt l 0) (byteAt l 1)
  | 0x63 => p.captureRequest l
  | 0x64 => p.presentRequest (byteAt l 0) (byteAt l 1)
  | 0x65 => p.gainRequest l
  | _ => (p, .badRequest, [])

/-- The owner of a request answers it (R188). -/
def serveOwner (p : Part) (q : Port) (r : Request) : Served :=
  if r.code.toNat < 0x20 then p.serveRead q r
  else if r.code.toNat < 0x40 then p.serveFloor r
  else if r.code.toNat < 0x60 then p.serveRoom r
  else p.serveAv r

/-! ### Delivery (R184, R187, R193) -/

/-- The room link sends the frames of a response (R184). -/
def sendRoom (p : Part) (r : Response) : Part :=
  p.setPort .room { p.port .room with sent := (p.port .room).sent ++ (responseFrames r).map wireFrame }

/-- A response that has been formed becomes the pending response of its port, or leaves on the room link (R184, R187). -/
def deliver (p : Part) (q : Port) (r : Response) : Part :=
  match q with
  | .room => p.sendRoom r
  | _ => p.setPort q { p.port q with pending := some r }

/-- The response of the request in service, after a PORT RESET had been taken while it was in service (R193): on the chair
port and the AV port it is discarded; on the room link the responses held back follow it. -/
def deliverServed (p : Part) (q : Port) (r : Response) : Part :=
  if (p.port q).dropAnswer then p.setPort q { p.port q with dropAnswer := false }
  else
    let held := (p.port q).heldBack
    (held.foldl (fun s h => s.deliver q h) (p.deliver q r)).setPort q
      { (held.foldl (fun s h => s.deliver q h) (p.deliver q r)).port q with heldBack := [] }

/-! ### Taking and serving (R185, R186) -/

/-- A request enters service: a check that fails answers it at once (R186). -/
def enterService (p : Part) (q : Port) (r : Request) : Part :=
  match p.checkRequest q r with
  | some st => p.deliver q (checkResponse r st)
  | none => p.setPort q { p.port q with inService := some r }

/-- A waiting request enters service when none is in service (R185). -/
def enterWaiting (p : Part) (q : Port) : Part :=
  match (p.port q).inService, (p.port q).waiting with
  | none, some r => (p.setPort q { p.port q with waiting := none }).enterService q r
  | _, _ => p

/-- The request in service is answered, and the waiting one enters service (R185) at the same event, so that one which fails
a check replaces the first response before a read can take it. R185 does not say whether the entry is an event of its own.
DESIGN CHOICE (log entry 63). -/
def answer (p : Part) (q : Port) (r : Request) (x : Reply) : Part :=
  ((p.setPort q { p.port q with inService := none }).deliverServed q ⟨r.tag, x.1, framesOf r.code x.2⟩).enterWaiting q

/-- The request in service is served by its owner and answered: one event (R185). In STANDBY it is served as the wake
begins (R186, R201). One that the port took before a standby entry, and that is still in service, wakes the part when it is
served; the rules name the taking alone (R186, R201, R203). DESIGN CHOICE (log entry 47). -/
def serveCurrent (p : Part) (q : Port) : Part :=
  match (p.port q).inService with
  | some r =>
    let x := (p.wake).serveOwner q r
    x.1.answer q r x.2
  | none => p

/-- PORT RESET is served as it is taken (R193). -/
def portReset (p : Part) (q : Port) (tag : Byte) : Part :=
  let x := p.port q
  let own : Response := ⟨tag, .done, [[]]⟩
  let y := { x with flags := 0, causes := 0, mask := defaultMask q, waiting := none }
  match q with
  | .room =>
    if x.inService.isSome then p.setPort .room { y with heldBack := x.heldBack ++ [own] }
    else (p.setPort .room y).sendRoom own
  | _ => p.setPort q { y with pending := some own, dropAnswer := x.inService.isSome }

/-- A request taken discards the pending response of the chair port or of the AV port (R185). -/
def discardPending (p : Part) (q : Port) : Part := p.setPort q { p.port q with pending := none }

/-- A request that is taken enters service, or waits, replacing one that waits (R185). -/
def placeRequest (p : Part) (q : Port) (r : Request) : Part :=
  let x := p.discardPending q
  if (x.port q).inService.isSome then x.setPort q { x.port q with waiting := some r } else x.enterService q r

/-- The room link takes no further request while one is in service and one waits (R185). -/
def roomFull (p : Part) (q : Port) : Bool := q = .room && (p.port q).inService.isSome && (p.port q).waiting.isSome

/-- A PORT RESET that a check turns away is answered at the event at which the port takes it, with no further effect: it does
not wait either (R186, R193). On the room link its answer follows that of a request in service. -/
def refuseReset (p : Part) (q : Port) (x : Response) : Part :=
  match q with
  | .room =>
    if (p.port .room).inService.isSome then
      p.setPort .room { p.port .room with heldBack := (p.port .room).heldBack ++ [x] }
    else p.sendRoom x
  | _ => p.deliver q x

/-- A PORT RESET is taken: served, or turned away by a check (R186, R193). -/
def takeReset (p : Part) (q : Port) (r : Request) : Part :=
  match p.checkRequest q r with
  | none => p.portReset q r.tag
  | some st => p.refuseReset q (checkResponse r st)

/-- A port takes a request (R185, R186): a wake cause in STANDBY, where the request is served at this event (R201).
PORT RESET does not wait (R193). -/
def takeRequest (p : Part) (q : Port) (r : Request) : Part :=
  if r.code = portResetCode then p.wake.takeReset q r
  else if p.roomFull q then p
  else if p.pwu.power = .standby then ((p.wake.placeRequest q r).serveCurrent q).serveCurrent q
  else p.placeRequest q r

/-- A port's data line starts a new command with nothing given out. -/
def clearSent (p : Part) (q : Port) : Part := p.setPort q { p.port q with sent := [], acks := [] }

/-- A request row: the serving of this very request. A port whose request in service it is serves it; otherwise the port
takes it and, when it entered service, serves it at the same event (assumption 2). -/
def requestRow (p : Part) (q : Port) (r : Request) : Part :=
  let x := p.clearSent q
  if (x.port q).inService = some r then x.serveCurrent q
  else
    let y := x.takeRequest q r
    if (y.port q).inService = some r then y.serveCurrent q else y

/-! ### Transfers (R183, R187) -/

/-- The acknowledge bits of a write of n data bytes to the AV port: the address and each data byte up to the 67th (R183). -/
def writeAcks (n : Nat) : List Bool := true :: (List.range n).map fun i => decide (i < 67)

/-- What the part gives out during a request transfer of n bytes (R183): 00h throughout on the chair port, acknowledges on
the AV port. -/
def shiftOut (p : Part) (q : SerialPort) (n : Nat) : Part :=
  match q with
  | .chair => p.setPort .chair { p.port .chair with sent := [List.replicate n 0], acks := [] }
  | .av => p.setPort .av { p.port .av with sent := [], acks := writeAcks n }

/-- The acknowledge of its address that the AV port gives in a response read (R183). -/
def readAcks : SerialPort → List Bool
  | .chair => []
  | .av => [true]

/-- A request transfer of the chair port or of the AV port (R183): fewer than three bytes are ignored. -/
def transfer (p : Part) (q : SerialPort) : List Byte → Part
  | code :: tag :: len :: payload => p.takeRequest (portOf q) ⟨code, tag, len, payload⟩
  | _ => p

/-- The frame that a response read shifts out (R187). -/
def readFrame (x : PortRecord) : List Byte :=
  match x.pending with
  | some r => responseFrame r.tag r.status (r.frames.headD [])
  | none => responseFrame 0 (if x.inService.isSome || x.waiting.isSome then .busy else .state) []

/-- The pending response after its next segment has been taken (R187). -/
def afterRead (x : PortRecord) : Option Response :=
  match x.pending with
  | some r => if r.frames.length ≤ 1 then none else some { r with frames := r.frames.drop 1 }
  | none => none

/-- A response read of n response bytes (R183): the frame, then 00h; three bytes or more take the segment. -/
def readResponse (p : Part) (q : SerialPort) (n : Nat) : Part :=
  let x := p.port (portOf q)
  let out := (List.range n).map fun i => (readFrame x).getD i 0
  p.setPort (portOf q) { x with
    sent := [out], acks := readAcks q, pending := if 3 ≤ n then afterRead x else x.pending }

/-! ### The room link's receiver (R184) -/

/-- The receiver in HUNT. -/
def hunting : Receiver := ⟨.hunt, [], []⟩

/-- A header byte other than 7Eh (R184). -/
def headerByte (x : Receiver) (b : Byte) : Receiver :=
  let h := x.header ++ [b]
  if h.length < 3 then { x with header := h }
  else if Config.maxPayload < b.toNat then hunting
  else if b.toNat = 0 then ⟨.sum, h, []⟩
  else ⟨.payload, h, []⟩

/-- A payload byte (R184). -/
def payloadByte (x : Receiver) (b : Byte) : Receiver :=
  let l := x.payload ++ [b]
  if (x.header.getD 2 0).toNat ≤ l.length then ⟨.sum, x.header, l⟩ else { x with payload := l }

/-- The request of a frame whose sum matches (R184). -/
def frameRequest (x : Receiver) (b : Byte) : Option Request :=
  if b = frameSum (x.header ++ x.payload) then
    some ⟨x.header.getD 0 0, x.header.getD 1 0, x.header.getD 2 0, x.payload⟩
  else none

/-- One byte reaches the receiver: the receiver afterwards, and the request that the byte completes (R184). -/
def receive (x : Receiver) (b : Byte) : Receiver × Option Request :=
  match x.phase with
  | .hunt => (if b = 0x7E then ⟨.header, [], []⟩ else x, none)
  | .header => (if b = 0x7E then ⟨.header, [], []⟩ else headerByte x b, none)
  | .payload => (payloadByte x b, none)
  | .sum => (hunting, frameRequest x b)

/-- The receiver's record is replaced. -/
def setReceiver (p : Part) (x : Receiver) : Part := p.withPrt { p.prt with rx := x }

/-- One byte on the room link; a request that it completes is taken (R184). -/
def roomByte (p : Part) (b : Byte) : Part :=
  let r := receive p.prt.rx b
  match r.2 with
  | some x => (p.setReceiver r.1).takeRequest .room x
  | none => p.setReceiver r.1

/-- Bytes on the room link (R184). -/
def roomBytes (p : Part) (l : List Byte) : Part := l.foldl roomByte p

/-- A frame in progress is dropped (R184). -/
def dropFrame (p : Part) : Part := p.setReceiver hunting

end Part

end Sys2Proof.Machine
end

