-- ==== Sys2Proof/Machine/Events.lean ====
section
/-! DEFINITION. Events as wholes: what every event ends with (the dwell timer's conditions, the screens' drive, the output
levels), the gain frame, the resets, and the lifting of a change of the part to a command's outcome. -/

namespace Sys2Proof.Machine

namespace Part

/-- What every event ends with: the dwell timer's conditions (R170), the ROUTE notice and the drive of the screens (R132
to R134), and the level of every output (R102, R103, R190). -/
def conclude (before after : Part) : Part := (concludeRouting before (concludeDwell before after)).drivePins

/-- A change of the part as one event. A part that has no supply or is held at reset takes none (R11). -/
def event (f : Part → Part) (p : Part) : Part := if p.isHeld then p else conclude p (f p)

/-! ### The gain frame (R95 to R97, R101, R133) -/

/-- A CLOSING slot whose gain is 0 after the move becomes FREE; FLC takes the report, and a WINDUP completes at the last
such event (R69, R97, R173). -/
def freePhase (p : Part) (k : SlotId) : Part :=
  if (p.slot k).state = .closing ∧ (p.slot k).gain = 0 then (p.takeFree k).completeWindup else p

/-- One gain frame: timers, moves, the slots that enter LIVE, the slots that reach FREE in the order given, and the
message on the gain bus (R95). The settles that the frame's count runs out end at once, or with `settlesLast` after all that
the frame changes: one that a report or the frame's end starts again then ends with no notice, at a full timer (R140). The
dwell timer's conditions are settled before the settles that end last, so that these find the driven sources with which the
event ends. The entries to LIVE come before the slots that reach FREE, so a chair slot that reaches FREE in the frame in which
an OPENING slot reaches its ducked target raises the target of a slot that is LIVE already: the rules give no order of the
two. DESIGN CHOICE (log entry 54). A chair toggle follows or precedes the frame with its message: the outcome of R100 with the
toggle between the two is not reached. DESIGN CHOICE (log entry 46). -/
def gainFrame (p : Part) (first : List SlotId) (settlesLast : Bool) : Part :=
  let timed := p.countGainTimers.countSettles
  let settled := if settlesLast then timed else timed.endSettles false
  let moved := (settled.moveGains).enterLives
  let freed := (takenOrder first allSlots).foldl freePhase moved
  let ended := concludeDwell p freed
  let last := if settlesLast then ended.endSettles true else ended
  last.sendGains

/-- The refused timer of a seat that stands at 0: the indication is recomputed, which the end of every event does
(R104). -/
def refusedExpiry (p : Part) (_ : SeatId) : Part := p

/-- The settle of WAKING that has counted its frames ends (R202). -/
def settleComplete (p : Part) : Part :=
  if p.pln.stage = .running ∧ p.pwu.power = .waking ∧ Config.settleFrames ≤ p.pwu.settle then p.endSettling else p

/-- A transfer of the chair port or of the AV port ends. On the chair port a first byte 00h makes it a response read
(R183). -/
def requestTransfer (p : Part) (q : SerialPort) (bytes : List Byte) : Part :=
  if q = .chair ∧ bytes.head? = some 0 then p.readResponse q (bytes.length - 1)
  else (p.shiftOut q bytes.length).transfer q bytes

/-! ### Resets (R11) -/

/-- The part at its reset values with its outputs at the levels these give, the straps latched and the stage given. -/
def start (straps : StrapPins) (stage : Stage) : Part := (Part.atReset straps stage).drivePins

/-- The RESET pin is asserted: every block at its reset values while it is held (R11). A part without supply stays so. -/
def holdReset (p : Part) : Part := if p.pln.stage = .unpowered then p else start p.pln.straps .held

/-- The RESET pin is released: start-up begins with the straps latched (R1, R11). A part without supply stays so. -/
def leaveReset (p : Part) (pins : StrapPins) : Part :=
  if p.pln.stage = .unpowered then p else start pins .loading

end Part

/-- A command that changes the part and leaves the queue. -/
def State.onPart (s : State) (f : Part → Part) : Host.Outcome State Fault Refusal :=
  .next { s with part := f s.part }

/-- A command that is one event of the part. -/
def State.onEvent (s : State) (f : Part → Part) : Host.Outcome State Fault Refusal := s.onPart (Part.event f)

end Sys2Proof.Machine
end

