-- ==== Sys2Proof/Machine/ExecAv.lean ====
section
/-! DEFINITION. The meanings of the commands: the requests of the AV port. -/

namespace Sys2Proof.Machine

/-- ROUTE_SET (R138): the request 60h on a port. -/
def execRouteSet (port : Port) (tag : Byte) (screen : Byte) (mode : Byte) (fixedSource : Byte) (followed : Byte) (fallback : Byte) (privacy : Byte) (s : State) :
    Host.Outcome State Fault Refusal :=
  s.onEvent fun p => p.requestRow port ⟨0x60, tag, 6, [screen, mode, fixedSource, followed, fallback, privacy]⟩

/-- RATE_SET (R117): the request 61h on a port. -/
def execRateSet (port : Port) (tag : Byte) (entry : Byte) (nominal : Half) (tolerance : Half) (classId : Byte) (minWidth : Half) (maxWidth : Half) (s : State) :
    Host.Outcome State Fault Refusal :=
  s.onEvent fun p => p.requestRow port ⟨0x61, tag, 10, [entry] ++ b2 nominal.toNat ++ b2 tolerance.toNat ++ [classId] ++ b2 minWidth.toNat ++ b2 maxWidth.toNat⟩

/-- COUNT_SET (R118): the request 62h on a port. -/
def execCountSet (port : Port) (tag : Byte) (agree : Byte) (drop : Byte) (s : State) :
    Host.Outcome State Fault Refusal :=
  s.onEvent fun p => p.requestRow port ⟨0x62, tag, 2, [agree, drop]⟩

/-- CAPTURE_SET (R112): the request 63h on a port. -/
def execCaptureSet (port : Port) (tag : Byte) (socket : Byte) (enable : Byte) (edge : Byte) (filter : Byte) (s : State) :
    Host.Outcome State Fault Refusal :=
  s.onEvent fun p => p.requestRow port ⟨0x63, tag, 4, [socket, enable, edge, filter]⟩

/-- INPUT_PRESENT (R122): the request 64h on a port. -/
def execInputPresent (port : Port) (tag : Byte) (input : Byte) (present : Byte) (s : State) :
    Host.Outcome State Fault Refusal :=
  s.onEvent fun p => p.requestRow port ⟨0x64, tag, 2, [input, present]⟩

/-- GAIN_SET (R92): the request 65h on a port. -/
def execGainSet (port : Port) (tag : Byte) (ceiling : Half) (rise : Byte) (fall : Byte) (duck : Byte) (ducking : Byte) (s : State) :
    Host.Outcome State Fault Refusal :=
  s.onEvent fun p => p.requestRow port ⟨0x65, tag, 6, b2 ceiling.toNat ++ [rise, fall, duck, ducking]⟩

end Sys2Proof.Machine
end

