-- ==== Sys2Proof/Machine/ExecFloor.lean ====
section
/-! DEFINITION. The meanings of the commands: the requests of the chair port, and END. -/

namespace Sys2Proof.Machine

/-- GRANT (R77): the request 20h on a port. -/
def execGrant (port : Port) (tag : Byte) (seat : Byte) (s : State) : Host.Outcome State Fault Refusal :=
  s.onEvent fun p => p.requestRow port ⟨0x20, tag, 1, [seat]⟩

/-- GRANT_NEXT (R78): the request 21h on a port. -/
def execGrantNext (port : Port) (tag : Byte) (s : State) : Host.Outcome State Fault Refusal :=
  s.onEvent fun p => p.requestRow port ⟨0x21, tag, 0, []⟩

/-- CLOSE (R79): the request 22h on a port. -/
def execClose (port : Port) (tag : Byte) (seat : Byte) (s : State) : Host.Outcome State Fault Refusal :=
  s.onEvent fun p => p.requestRow port ⟨0x22, tag, 1, [seat]⟩

/-- CANCEL (R80): the request 23h on a port. -/
def execCancel (port : Port) (tag : Byte) (seat : Byte) (s : State) : Host.Outcome State Fault Refusal :=
  s.onEvent fun p => p.requestRow port ⟨0x23, tag, 1, [seat]⟩

/-- CANCEL_ALL (R80): the request 24h on a port. -/
def execCancelAll (port : Port) (tag : Byte) (s : State) : Host.Outcome State Fault Refusal :=
  s.onEvent fun p => p.requestRow port ⟨0x24, tag, 0, []⟩

/-- MUTE_ALL (R81): the request 25h on a port. -/
def execMuteAll (port : Port) (tag : Byte) (s : State) : Host.Outcome State Fault Refusal :=
  s.onEvent fun p => p.requestRow port ⟨0x25, tag, 0, []⟩

/-- SET_MODE (R82): the request 26h on a port. -/
def execSetMode (port : Port) (tag : Byte) (mode : Byte) (s : State) : Host.Outcome State Fault Refusal :=
  s.onEvent fun p => p.requestRow port ⟨0x26, tag, 1, [mode]⟩

/-- SET_LIMIT (R83): the request 27h on a port. -/
def execSetLimit (port : Port) (tag : Byte) (limit : Byte) (s : State) : Host.Outcome State Fault Refusal :=
  s.onEvent fun p => p.requestRow port ⟨0x27, tag, 1, [limit]⟩

/-- SET_SPEAK_LIMIT (R84): the request 28h on a port. -/
def execSetSpeakLimit (port : Port) (tag : Byte) (limit : Half) (enforce : Byte) (s : State) :
    Host.Outcome State Fault Refusal :=
  s.onEvent fun p => p.requestRow port ⟨0x28, tag, 3, b2 limit.toNat ++ [enforce]⟩

/-- PRESS (R85): the request 29h on a port. -/
def execPress (port : Port) (tag : Byte) (seat : Byte) (s : State) : Host.Outcome State Fault Refusal :=
  s.onEvent fun p => p.requestRow port ⟨0x29, tag, 1, [seat]⟩

/-- END (R169): the request 2Ah on a port. -/
def execEndSession (port : Port) (tag : Byte) (s : State) : Host.Outcome State Fault Refusal :=
  s.onEvent fun p => p.requestRow port ⟨0x2A, tag, 0, []⟩

end Sys2Proof.Machine
end

