-- ==== Sys2Proof/Machine/ExecPort.lean ====
section
/-! DEFINITION. The meanings of the commands: what happens on the lines of the three ports (chapter 10). -/

namespace Sys2Proof.Machine

/-- REQUEST_TRANSFER (R183): a transfer on the chair port or the AV port ends. -/
def execRequestTransfer (port : SerialPort) (bytes : List Byte) (s : State) : Host.Outcome State Fault Refusal :=
  s.onEvent fun p => p.requestTransfer port bytes

/-- RESPONSE_READ (R187): a response read on the chair port or the AV port. -/
def execResponseRead (port : SerialPort) (count : Nat) (s : State) : Host.Outcome State Fault Refusal :=
  s.onEvent fun p => p.readResponse port count

/-- ROOM_LINK_FRAME (R184): bytes arrive on the room link. -/
def execRoomLinkFrame (bytes : List Byte) (s : State) : Host.Outcome State Fault Refusal :=
  s.onEvent fun p => (p.clearSent .room).roomBytes bytes

/-- ROOM_LINK_GAP_TIMEOUT (R184): a gap of more than 50 ms drops the frame in progress. -/
def execRoomLinkGapTimeout (s : State) : Host.Outcome State Fault Refusal :=
  s.onEvent Part.dropFrame

/-- REQUEST_ENTERS_SERVICE (R185): a waiting request enters service when none is in service. -/
def execRequestEntersService (port : Port) (s : State) : Host.Outcome State Fault Refusal :=
  s.onEvent fun p => (p.clearSent port).enterWaiting port

/-- ROOM_LINK_FRAMING_ERROR (R184): a byte with a framing error drops the frame in progress. -/
def execRoomLinkFramingError (s : State) : Host.Outcome State Fault Refusal :=
  s.onEvent Part.dropFrame

/-- ROOM_LINK_LENGTH_ABOVE_64 (R184): a length byte above 64 reaches the receiver. -/
def execRoomLinkLengthAbove64 (length : Byte) (s : State) : Host.Outcome State Fault Refusal :=
  s.onEvent fun p => (p.clearSent .room).roomByte length

end Sys2Proof.Machine
end

