-- ==== Sys2Proof/Machine/ExecRead.lean ====
section
/-! DEFINITION. The meanings of the commands: the requests that every port may make. -/

namespace Sys2Proof.Machine

/-- IDENT (R195): the request 01h on a port. -/
def execIdent (port : Port) (tag : Byte) (s : State) : Host.Outcome State Fault Refusal :=
  s.onEvent fun p => p.requestRow port ⟨0x01, tag, 0, []⟩

/-- FLOOR_READ (R90): the request 02h on a port. -/
def execFloorRead (port : Port) (tag : Byte) (s : State) : Host.Outcome State Fault Refusal :=
  s.onEvent fun p => p.requestRow port ⟨0x02, tag, 0, []⟩

/-- SEAT_READ (R61): the request 03h on a port. -/
def execSeatRead (port : Port) (tag : Byte) (seat : Byte) (s : State) : Host.Outcome State Fault Refusal :=
  s.onEvent fun p => p.requestRow port ⟨0x03, tag, 1, [seat]⟩

/-- CHANNEL_READ (R43): the request 04h on a port. -/
def execChannelRead (port : Port) (tag : Byte) (channel : Byte) (s : State) : Host.Outcome State Fault Refusal :=
  s.onEvent fun p => p.requestRow port ⟨0x04, tag, 1, [channel]⟩

/-- SOURCE_READ (R126): the request 05h on a port. -/
def execSourceRead (port : Port) (tag : Byte) (selector : Byte) (s : State) : Host.Outcome State Fault Refusal :=
  s.onEvent fun p => p.requestRow port ⟨0x05, tag, 1, [selector]⟩

/-- ROUTE_READ (R141): the request 06h on a port. -/
def execRouteRead (port : Port) (tag : Byte) (selector : Byte) (s : State) : Host.Outcome State Fault Refusal :=
  s.onEvent fun p => p.requestRow port ⟨0x06, tag, 1, [selector]⟩

/-- CLOCK_READ (R146): the request 07h on a port. -/
def execClockRead (port : Port) (tag : Byte) (s : State) : Host.Outcome State Fault Refusal :=
  s.onEvent fun p => p.requestRow port ⟨0x07, tag, 0, []⟩

/-- BANK_READ (R160): the request 08h on a port. -/
def execBankRead (port : Port) (tag : Byte) (bank : Byte) (part : Byte) (s : State) :
    Host.Outcome State Fault Refusal :=
  s.onEvent fun p => p.requestRow port ⟨0x08, tag, 2, [bank, part]⟩

/-- SESSION_READ (R181): the request 09h on a port. -/
def execSessionRead (port : Port) (tag : Byte) (s : State) : Host.Outcome State Fault Refusal :=
  s.onEvent fun p => p.requestRow port ⟨0x09, tag, 0, []⟩

/-- NOTICE_READ (R191): the request 0Ah on a port. -/
def execNoticeRead (port : Port) (tag : Byte) (s : State) : Host.Outcome State Fault Refusal :=
  s.onEvent fun p => p.requestRow port ⟨0x0A, tag, 0, []⟩

/-- NOTICE_MASK (R192): the request 0Bh on a port. -/
def execNoticeMask (port : Port) (tag : Byte) (mask : Half) (s : State) : Host.Outcome State Fault Refusal :=
  s.onEvent fun p => p.requestRow port ⟨0x0B, tag, 2, b2 mask.toNat⟩

/-- PORT_RESET (R193): the request 0Ch on a port. -/
def execPortReset (port : Port) (tag : Byte) (s : State) : Host.Outcome State Fault Refusal :=
  s.onEvent fun p => p.requestRow port ⟨0x0C, tag, 0, []⟩

end Sys2Proof.Machine
end

