-- ==== Sys2Proof/Machine/ExecReset.lean ====
section
/-! DEFINITION. The meanings of the commands: resets, the end of a load, and the end of a save (chapter 1). -/

namespace Sys2Proof.Machine

/-- POWER_ON_RESET_RELEASE (R11): every block takes its reset values and the straps are latched as they stand. -/
def execPowerOnResetRelease (pins : StrapPins) (s : State) : Host.Outcome State Fault Refusal :=
  s.onPart fun _ => Part.start pins .loading

/-- RESET_PIN_ASSERT (R11): every block is held at its reset values. -/
def execResetPinAssert (s : State) : Host.Outcome State Fault Refusal :=
  s.onPart Part.holdReset

/-- RESET_PIN_RELEASE (R11): a new start-up begins with the straps latched. -/
def execResetPinRelease (pins : StrapPins) (s : State) : Host.Outcome State Fault Refusal :=
  s.onPart fun p => p.leaveReset pins

/-- POWER_ON_RESET_ASSERT (R14): the supply is lost; a save in progress ends with it. -/
def execPowerOnResetAssert (s : State) : Host.Outcome State Fault Refusal :=
  s.onPart fun p => Part.start p.pln.straps .unpowered

/-- LOAD_END (R5): the load ends and the settings are handed out. -/
def execLoadEnd (eeprom : EepromRead) (s : State) : Host.Outcome State Fault Refusal :=
  s.onEvent fun p => p.loadEnd eeprom

/-- SAVE_READ_BACK_MATCH (R14): a save in progress ends SAVED. -/
def execSaveReadBackMatch (s : State) : Host.Outcome State Fault Refusal :=
  s.onEvent Part.saveMatch

/-- SAVE_WRITE_FAILURE (R14): a save in progress ends WRITE_FAILED. -/
def execSaveWriteFailure (s : State) : Host.Outcome State Fault Refusal :=
  s.onEvent Part.saveFailure

end Sys2Proof.Machine
end

