-- ==== Sys2Proof/Machine/ExecRoom.lean ====
section
/-! DEFINITION. The meanings of the commands: the requests of the room link. -/

namespace Sys2Proof.Machine

/-- CLOCK_SET (R143): the request 40h on a port. -/
def execClockSet (port : Port) (tag : Byte) (day : Half) (minute : Half) (second : Byte) (s : State) :
    Host.Outcome State Fault Refusal :=
  s.onEvent fun p => p.requestRow port ⟨0x40, tag, 5, b2 day.toNat ++ b2 minute.toNat ++ [second]⟩

/-- BANK_OPEN (R151): the request 41h on a port. -/
def execBankOpen (port : Port) (tag : Byte) (day : Half) (count : Byte) (auto : Byte) (s : State) :
    Host.Outcome State Fault Refusal :=
  s.onEvent fun p => p.requestRow port ⟨0x41, tag, 4, b2 day.toNat ++ [count, auto]⟩

/-- BOOKING_ENTRY (R152): the request 42h on a port. -/
def execBookingEntry (port : Port) (tag : Byte) (entry : BookingPayload) (s : State) :
    Host.Outcome State Fault Refusal :=
  s.onEvent fun p => p.requestRow port ⟨0x42, tag, 17, bookingPayloadBytes entry⟩

/-- BANK_PUBLISH (R153): the request 43h on a port. -/
def execBankPublish (port : Port) (tag : Byte) (s : State) : Host.Outcome State Fault Refusal :=
  s.onEvent fun p => p.requestRow port ⟨0x43, tag, 0, []⟩

/-- BANK_ABANDON (R154): the request 44h on a port. -/
def execBankAbandon (port : Port) (tag : Byte) (s : State) : Host.Outcome State Fault Refusal :=
  s.onEvent fun p => p.requestRow port ⟨0x44, tag, 0, []⟩

/-- BOOKING_CANCEL (R157): the request 45h on a port. -/
def execBookingCancel (port : Port) (tag : Byte) (booking : Half) (s : State) : Host.Outcome State Fault Refusal :=
  s.onEvent fun p => p.requestRow port ⟨0x45, tag, 2, b2 booking.toNat⟩

/-- EXTEND (R158): the request 46h on a port. -/
def execExtend (port : Port) (tag : Byte) (minute : Half) (s : State) : Host.Outcome State Fault Refusal :=
  s.onEvent fun p => p.requestRow port ⟨0x46, tag, 2, b2 minute.toNat⟩

/-- SUMMARY_READ (R179): the request 47h on a port. -/
def execSummaryRead (port : Port) (tag : Byte) (part : Byte) (s : State) : Host.Outcome State Fault Refusal :=
  s.onEvent fun p => p.requestRow port ⟨0x47, tag, 1, [part]⟩

/-- SUMMARY_RELEASE (R180): the request 48h on a port. -/
def execSummaryRelease (port : Port) (tag : Byte) (number : Half) (s : State) : Host.Outcome State Fault Refusal :=
  s.onEvent fun p => p.requestRow port ⟨0x48, tag, 2, b2 number.toNat⟩

/-- PROFILE_SET (R18): the request 49h on a port. -/
def execProfileSet (port : Port) (tag : Byte) (profile : Byte) (fields : ProfilePayload) (s : State) :
    Host.Outcome State Fault Refusal :=
  s.onEvent fun p => p.requestRow port ⟨0x49, tag, 15, [profile] ++ profilePayloadBytes fields⟩

/-- PATTERN_SET (R108): the request 4Ah on a port. -/
def execPatternSet (port : Port) (tag : Byte) (state : Byte) (red : Byte) (green : Byte) (light : Byte) (s : State) :
    Host.Outcome State Fault Refusal :=
  s.onEvent fun p => p.requestRow port ⟨0x4A, tag, 4, [state, red, green, light]⟩

/-- POLARITY_SET (R109): the request 4Bh on a port. -/
def execPolaritySet (port : Port) (tag : Byte) (red : Byte) (green : Byte) (light : Byte) (s : State) :
    Host.Outcome State Fault Refusal :=
  s.onEvent fun p => p.requestRow port ⟨0x4B, tag, 3, [red, green, light]⟩

/-- RETUNE (R36): the request 4Ch on a port. -/
def execRetune (port : Port) (tag : Byte) (scope : Byte) (force : Byte) (s : State) :
    Host.Outcome State Fault Refusal :=
  s.onEvent fun p => p.requestRow port ⟨0x4C, tag, 2, [scope, force]⟩

/-- PLAN_SAVE (R13): the request 4Dh on a port. -/
def execPlanSave (port : Port) (tag : Byte) (s : State) : Host.Outcome State Fault Refusal :=
  s.onEvent fun p => p.requestRow port ⟨0x4D, tag, 0, []⟩

/-- TABLE_RESET (R194): the request 4Eh on a port. -/
def execTableReset (port : Port) (tag : Byte) (s : State) : Host.Outcome State Fault Refusal :=
  s.onEvent fun p => p.requestRow port ⟨0x4E, tag, 0, []⟩

/-- STANDBY_ENTER (R200): the request 4Fh on a port. -/
def execStandbyEnter (port : Port) (tag : Byte) (s : State) : Host.Outcome State Fault Refusal :=
  s.onEvent fun p => p.requestRow port ⟨0x4F, tag, 0, []⟩

end Sys2Proof.Machine
end

