-- ==== Sys2Proof/Machine/ExecTime.lean ====
section
/-! DEFINITION. The meanings of the commands: the time bases, the sync lines, and the events at which a count runs out. An event of the last kind acts when its count has run out and otherwise changes nothing (assumption 7). -/

namespace Sys2Proof.Machine

/-- SENSING_FRAME (R20): one frame of the front end. -/
def execSensingFrame (readings : List Nat) (first : List ChannelId) (timersFirst : Bool) (s : State) :
    Host.Outcome State Fault Refusal :=
  s.onEvent fun p => p.sensingFrame readings first timersFirst

/-- HALT_LIMIT_RESEED (R28): the reseed of a channel whose halt timer stands at its limit. -/
def execHaltLimitReseed (channel : ChannelId) (s : State) : Host.Outcome State Fault Refusal :=
  s.onEvent fun p => p.haltReseed channel

/-- BAND_CHECK_RETUNE_START (R35): the automatic retune of a channel whose band counter stands at 50. -/
def execBandCheckRetuneStart (channel : ChannelId) (s : State) : Host.Outcome State Fault Refusal :=
  s.onEvent fun p => p.bandRetune channel

/-- RETUNE_COMPLETION (R33): the completion of a retune that has taken its eighth step. -/
def execRetuneCompletion (channel : ChannelId) (s : State) : Host.Outcome State Fault Refusal :=
  s.onEvent fun p => p.retuneDone channel

/-- ABSENCE_GRACE_EXPIRY (R48): an AWAY seat whose timer stands at the grace becomes VACANT. -/
def execAbsenceGraceExpiry (seat : SeatId) (s : State) : Host.Outcome State Fault Refusal :=
  s.onEvent fun p => p.absenceExpiry seat

/-- CHAIR_NEXT (R56): the chair key, held for 2000 ms, takes a chair next. -/
def execChairNext (s : State) : Host.Outcome State Fault Refusal :=
  s.onEvent Part.takeChairNext

/-- GAIN_FRAME (R95): one gain frame. -/
def execGainFrame (first : List SlotId) (settlesLast : Bool) (s : State) : Host.Outcome State Fault Refusal :=
  s.onEvent fun p => p.gainFrame first settlesLast

/-- REFUSED_TIMER_EXPIRY (R104): the indication of a seat whose refused timer has run out. -/
def execRefusedTimerExpiry (seat : SeatId) (s : State) : Host.Outcome State Fault Refusal :=
  s.onEvent fun p => p.refusedExpiry seat

/-- EDGE_TAKEN (R114): an edge of a socket's sync line. -/
def execEdgeTaken (socket : SocketId) (edge : Edge) (ticks : Nat) (levelHeld : Nat) (overflowFirst : Bool) (s : State) :
    Host.Outcome State Fault Refusal :=
  s.onEvent fun p => p.takeEdge socket edge ticks levelHeld overflowFirst

/-- A step with no command waiting: one capture tick, which has no row of its own (R114). DESIGN CHOICE (log entry 1). -/
def idle (s : State) : Host.Outcome State Fault Refusal := s.onEvent Part.captureTick

/-- CAPTURE_OVERFLOW (R115): a socket's counter reaches 65535. -/
def execCaptureOverflow (socket : SocketId) (s : State) : Host.Outcome State Fault Refusal :=
  s.onEvent fun p => p.overflow socket

/-- SETTLE_END (R133): a settle whose timer has run out ends. -/
def execSettleEnd (screen : ScreenId) (s : State) : Host.Outcome State Fault Refusal :=
  s.onEvent fun p => p.endSettle screen

/-- SECOND_EVENT (R142): one second of the room clock. -/
def execSecondEvent (first : List ClockUser) (s : State) : Host.Outcome State Fault Refusal :=
  s.onEvent fun p => p.secondEvent first

/-- CHECK_COMPLETION (R155): the check of the staging bank completes. -/
def execCheckCompletion (s : State) : Host.Outcome State Fault Refusal :=
  s.onEvent Part.checkCompletion

/-- AWAIT_WINDOW_EXPIRY (R166): an AWAITING session whose window or end has run out is released. -/
def execAwaitWindowExpiry (s : State) : Host.Outcome State Fault Refusal :=
  s.onEvent fun p => p.releaseTest true

/-- VACANCY_TIMEOUT (R168): a session whose vacancy timer stands at the timeout ends. -/
def execVacancyTimeout (s : State) : Host.Outcome State Fault Refusal :=
  s.onEvent Part.vacancyTest

/-- WALK_IN_DWELL_EXPIRY (R170): the walk-in test at a full dwell. -/
def execWalkInDwellExpiry (s : State) : Host.Outcome State Fault Refusal :=
  s.onEvent Part.repeatWalkIn

/-- QUIET_TIMER_EXPIRY (R199): the standby entry test at a full quiet timer. -/
def execQuietTimerExpiry (s : State) : Host.Outcome State Fault Refusal :=
  s.onEvent Part.standbyTest

/-- SETTLE_COMPLETE (R202): the settle of WAKING that has counted four frames ends. -/
def execSettleComplete (s : State) : Host.Outcome State Fault Refusal :=
  s.onEvent Part.settleComplete

end Sys2Proof.Machine
end

