-- ==== Sys2Proof/Machine/Dispatch.lean ====
section
/-! DEFINITION. The dispatch: one arm per command, one direct call of its meaning. -/

namespace Sys2Proof.Machine

def exec (i : Instr) (s : State) : Host.Outcome State Fault Refusal :=
  match i with
  | .powerOnResetRelease pins => Sys2Proof.Machine.execPowerOnResetRelease pins s
  | .resetPinAssert => Sys2Proof.Machine.execResetPinAssert s
  | .resetPinRelease pins => Sys2Proof.Machine.execResetPinRelease pins s
  | .loadEnd eeprom => Sys2Proof.Machine.execLoadEnd eeprom s
  | .sensingFrame readings first timersFirst => Sys2Proof.Machine.execSensingFrame readings first timersFirst s
  | .haltLimitReseed channel => Sys2Proof.Machine.execHaltLimitReseed channel s
  | .bandCheckRetuneStart channel => Sys2Proof.Machine.execBandCheckRetuneStart channel s
  | .retuneCompletion channel => Sys2Proof.Machine.execRetuneCompletion channel s
  | .absenceGraceExpiry seat => Sys2Proof.Machine.execAbsenceGraceExpiry seat s
  | .chairNext => Sys2Proof.Machine.execChairNext s
  | .gainFrame first settlesLast => Sys2Proof.Machine.execGainFrame first settlesLast s
  | .refusedTimerExpiry seat => Sys2Proof.Machine.execRefusedTimerExpiry seat s
  | .edgeTaken socket edge ticks levelHeld overflowFirst => Sys2Proof.Machine.execEdgeTaken socket edge ticks levelHeld overflowFirst s
  | .captureOverflow socket => Sys2Proof.Machine.execCaptureOverflow socket s
  | .settleEnd screen => Sys2Proof.Machine.execSettleEnd screen s
  | .secondEvent first => Sys2Proof.Machine.execSecondEvent first s
  | .checkCompletion => Sys2Proof.Machine.execCheckCompletion s
  | .awaitWindowExpiry => Sys2Proof.Machine.execAwaitWindowExpiry s
  | .vacancyTimeout => Sys2Proof.Machine.execVacancyTimeout s
  | .walkInDwellExpiry => Sys2Proof.Machine.execWalkInDwellExpiry s
  | .quietTimerExpiry => Sys2Proof.Machine.execQuietTimerExpiry s
  | .settleComplete => Sys2Proof.Machine.execSettleComplete s
  | .saveReadBackMatch => Sys2Proof.Machine.execSaveReadBackMatch s
  | .saveWriteFailure => Sys2Proof.Machine.execSaveWriteFailure s
  | .requestTransfer port bytes => Sys2Proof.Machine.execRequestTransfer port bytes s
  | .responseRead port count => Sys2Proof.Machine.execResponseRead port count s
  | .roomLinkFrame bytes => Sys2Proof.Machine.execRoomLinkFrame bytes s
  | .roomLinkGapTimeout => Sys2Proof.Machine.execRoomLinkGapTimeout s
  | .requestEntersService port => Sys2Proof.Machine.execRequestEntersService port s
  | .ident port tag => Sys2Proof.Machine.execIdent port tag s
  | .floorRead port tag => Sys2Proof.Machine.execFloorRead port tag s
  | .seatRead port tag seat => Sys2Proof.Machine.execSeatRead port tag seat s
  | .channelRead port tag channel => Sys2Proof.Machine.execChannelRead port tag channel s
  | .sourceRead port tag selector => Sys2Proof.Machine.execSourceRead port tag selector s
  | .routeRead port tag selector => Sys2Proof.Machine.execRouteRead port tag selector s
  | .clockRead port tag => Sys2Proof.Machine.execClockRead port tag s
  | .bankRead port tag bank part => Sys2Proof.Machine.execBankRead port tag bank part s
  | .sessionRead port tag => Sys2Proof.Machine.execSessionRead port tag s
  | .noticeRead port tag => Sys2Proof.Machine.execNoticeRead port tag s
  | .noticeMask port tag mask => Sys2Proof.Machine.execNoticeMask port tag mask s
  | .portReset port tag => Sys2Proof.Machine.execPortReset port tag s
  | .grant port tag seat => Sys2Proof.Machine.execGrant port tag seat s
  | .grantNext port tag => Sys2Proof.Machine.execGrantNext port tag s
  | .close port tag seat => Sys2Proof.Machine.execClose port tag seat s
  | .cancel port tag seat => Sys2Proof.Machine.execCancel port tag seat s
  | .cancelAll port tag => Sys2Proof.Machine.execCancelAll port tag s
  | .muteAll port tag => Sys2Proof.Machine.execMuteAll port tag s
  | .setMode port tag mode => Sys2Proof.Machine.execSetMode port tag mode s
  | .setLimit port tag limit => Sys2Proof.Machine.execSetLimit port tag limit s
  | .setSpeakLimit port tag limit enforce => Sys2Proof.Machine.execSetSpeakLimit port tag limit enforce s
  | .press port tag seat => Sys2Proof.Machine.execPress port tag seat s
  | .endSession port tag => Sys2Proof.Machine.execEndSession port tag s
  | .clockSet port tag day minute second => Sys2Proof.Machine.execClockSet port tag day minute second s
  | .bankOpen port tag day count auto => Sys2Proof.Machine.execBankOpen port tag day count auto s
  | .bookingEntry port tag entry => Sys2Proof.Machine.execBookingEntry port tag entry s
  | .bankPublish port tag => Sys2Proof.Machine.execBankPublish port tag s
  | .bankAbandon port tag => Sys2Proof.Machine.execBankAbandon port tag s
  | .bookingCancel port tag booking => Sys2Proof.Machine.execBookingCancel port tag booking s
  | .extend port tag minute => Sys2Proof.Machine.execExtend port tag minute s
  | .summaryRead port tag part => Sys2Proof.Machine.execSummaryRead port tag part s
  | .summaryRelease port tag number => Sys2Proof.Machine.execSummaryRelease port tag number s
  | .profileSet port tag profile fields => Sys2Proof.Machine.execProfileSet port tag profile fields s
  | .patternSet port tag state red green light => Sys2Proof.Machine.execPatternSet port tag state red green light s
  | .polaritySet port tag red green light => Sys2Proof.Machine.execPolaritySet port tag red green light s
  | .retune port tag scope force => Sys2Proof.Machine.execRetune port tag scope force s
  | .planSave port tag => Sys2Proof.Machine.execPlanSave port tag s
  | .tableReset port tag => Sys2Proof.Machine.execTableReset port tag s
  | .standbyEnter port tag => Sys2Proof.Machine.execStandbyEnter port tag s
  | .routeSet port tag screen mode fixedSource followed fallback privacy => Sys2Proof.Machine.execRouteSet port tag screen mode fixedSource followed fallback privacy s
  | .rateSet port tag entry nominal tolerance classId minWidth maxWidth => Sys2Proof.Machine.execRateSet port tag entry nominal tolerance classId minWidth maxWidth s
  | .countSet port tag agree drop => Sys2Proof.Machine.execCountSet port tag agree drop s
  | .captureSet port tag socket enable edge filter => Sys2Proof.Machine.execCaptureSet port tag socket enable edge filter s
  | .inputPresent port tag input present => Sys2Proof.Machine.execInputPresent port tag input present s
  | .gainSet port tag ceiling rise fall duck ducking => Sys2Proof.Machine.execGainSet port tag ceiling rise fall duck ducking s
  | .powerOnResetAssert => Sys2Proof.Machine.execPowerOnResetAssert s
  | .roomLinkFramingError => Sys2Proof.Machine.execRoomLinkFramingError s
  | .roomLinkLengthAbove64 length => Sys2Proof.Machine.execRoomLinkLengthAbove64 length s

end Sys2Proof.Machine
end

