-- ==== Sys2Proof/Safety.lean ====
section
/-! DEFINITION. The terms in which claims are made: what completing means, a port that listens, a part between events, the
pieces of the state that a command may leave as they are, the conditions that hold of every sound state, and what a stored plan
says before its corrections. -/

namespace Sys2Proof.Machine

namespace Part

/-! ### Views of the ports -/

/-- What a port holds of its requests and responses: the request in service, the one that waits, the pending response, the
two marks of R193, and what its lines last gave out. -/
abbrev Line :=
  Option Request × Option Request × Option Response × Bool × List Response × List (List Byte) × List Bool

/-- The requests and responses of a port. -/
def line (p : Part) (q : Port) : Line :=
  ((p.port q).inService, (p.port q).waiting, (p.port q).pending, (p.port q).dropAnswer, (p.port q).heldBack, (p.port q).sent,
    (p.port q).acks)

/-- The notice flags and cause marks of a port (R189). -/
def notices (p : Part) (q : Port) : BitVec 9 × BitVec 8 := ((p.port q).flags, (p.port q).causes)

/-- The notice mask of a port (R190). -/
def maskOf (p : Part) (q : Port) : BitVec 9 := (p.port q).mask

end Part

/-! ### The pieces of the state -/

/-- A piece of the part's state that a command may leave unchanged. The indication, the output levels and the attention lines
are no pieces: they follow from the others. -/
inductive Piece where
  | sensing | seats | occupied | grace
  | floorMode | floorLimit | floorSpeak | floorLead | floorOpen | queue | nextNumber | floorSeconds | openOrder | floorPreset
  | slots | gain | patterns | polarity | refused | blink | released | bus
  | sockets | rates | counts | fixedInputs
  | screens | presets | speakers | routable | override
  | clock | banks
  | session | pendingStart | dwell | store | params
  | requests (q : Port) | notices | masks | receiver | identity
  | power | quiet | settle | wakeSettings
  | plan
  deriving DecidableEq, Repr

/-- A piece is the same in two parts. -/
def Piece.Same (b : Piece) (p t : Part) : Prop :=
  match b with
  | .sensing => t.sfe = p.sfe
  | .seats => t.smn.seats = p.smn.seats
  | .occupied => t.smn.occupied = p.smn.occupied
  | .grace => t.smn.grace = p.smn.grace
  | .floorMode => t.flc.mode = p.flc.mode
  | .floorLimit => t.flc.limit = p.flc.limit
  | .floorSpeak => t.flc.speak = p.flc.speak ∧ t.flc.enforce = p.flc.enforce
  | .floorLead => t.flc.lead = p.flc.lead
  | .floorOpen => t.flc.isOpen = p.flc.isOpen
  | .queue => t.flc.queue = p.flc.queue
  | .nextNumber => t.flc.nextNumber = p.flc.nextNumber
  | .floorSeconds => t.flc.seconds = p.flc.seconds
  | .openOrder => t.flc.openOrder = p.flc.openOrder
  | .floorPreset => t.flc.preset = p.flc.preset
  | .slots => t.sgu.slots = p.sgu.slots
  | .gain => t.sgu.gain = p.sgu.gain
  | .patterns => t.sgu.patterns = p.sgu.patterns
  | .polarity => t.sgu.polarity = p.sgu.polarity
  | .refused => t.sgu.refused = p.sgu.refused
  | .blink => t.sgu.blink = p.sgu.blink
  | .released => t.sgu.released = p.sgu.released
  | .bus => t.sgu.bus = p.sgu.bus
  | .sockets => t.scu.sockets = p.scu.sockets
  | .rates => t.scu.rates = p.scu.rates
  | .counts => t.scu.agree = p.scu.agree ∧ t.scu.drop = p.scu.drop
  | .fixedInputs => t.scu.pc = p.scu.pc ∧ t.scu.codec = p.scu.codec
  | .screens => t.rtu.screens = p.rtu.screens
  | .presets => t.rtu.presets = p.rtu.presets
  | .speakers => t.rtu.speakers = p.rtu.speakers
  | .routable => t.rtu.routable = p.rtu.routable
  | .override => t.rtu.override = p.rtu.override
  | .clock => t.sch.clock = p.sch.clock
  | .banks => t.sch.bankA = p.sch.bankA ∧ t.sch.bankB = p.sch.bankB
  | .session => t.ssu.session = p.ssu.session
  | .pendingStart => t.ssu.pendingStart = p.ssu.pendingStart
  | .dwell => t.ssu.dwell = p.ssu.dwell
  | .store => t.ssu.store = p.ssu.store ∧ t.ssu.lost = p.ssu.lost ∧ t.ssu.nextSummary = p.ssu.nextSummary
  | .params => t.ssu.params = p.ssu.params
  | .requests q => t.line q = p.line q
  | .notices => t.notices = p.notices
  | .masks => t.maskOf = p.maskOf
  | .receiver => t.prt.rx = p.prt.rx
  | .identity => t.prt.roomId = p.prt.roomId ∧ t.prt.tableName = p.prt.tableName
  | .power => t.pwu.power = p.pwu.power
  | .quiet => t.pwu.quiet = p.pwu.quiet
  | .settle => t.pwu.settle = p.pwu.settle
  | .wakeSettings =>
    t.pwu.lead = p.pwu.lead ∧ t.pwu.delay = p.pwu.delay ∧ t.pwu.mask = p.pwu.mask ∧
      t.pwu.proximityWake = p.pwu.proximityWake
  | .plan => t.pln = p.pln

/-- Every piece but the named ones is the same in two parts: the frame of a command. -/
def SameBut (bs : List Piece) (p t : Part) : Prop := ∀ b : Piece, b ∉ bs → b.Same p t

/-! ### Commands -/

/-- A command completes: it answers a next state, leaves the queue of waiting commands as it is, and the part that it leaves
satisfies `post`. -/
abbrev Completes (c : Instr) (s : State) (post : Part → Prop) : Prop :=
  ∃ t : State, exec c s = .next t ∧ t.pending = s.pending ∧ post t.part

/-- Start-up is complete and the part is not in STANDBY. -/
abbrev Running (p : Part) : Prop := p.pln.stage = .running ∧ p.pwu.power ≠ .standby

/-- A port has nothing in service, nothing waiting and no response held up by a PORT RESET (R185, R193). -/
abbrev FreePort (p : Part) (q : Port) : Prop :=
  (p.port q).inService = none ∧ (p.port q).waiting = none ∧ (p.port q).dropAnswer = false ∧ (p.port q).heldBack = []

/-- A port takes and serves a request of any kind at once (R12, R185, R186). -/
abbrev Listening (p : Part) (q : Port) : Prop := Running p ∧ FreePort p q

/-- A port takes and serves a READ request at once: from the handing out of settings on (R12). -/
abbrev Readable (p : Part) (q : Port) : Prop :=
  (p.pln.stage = .retuning ∨ p.pln.stage = .running) ∧ p.pwu.power ≠ .standby ∧ FreePort p q

/-- A port has given the response of a request: on the chair port and the AV port it is the pending response, on the room
link its frames have been sent (R184, R187). Nothing is left in service. -/
abbrev Answered (p : Part) (q : Port) (tag : Byte) (status : Status) (frames : List (List Byte)) : Prop :=
  (p.port q).inService = none ∧
    match q with
    | .room => (p.port .room).sent = (responseFrames ⟨tag, status, frames⟩).map wireFrame
    | .chair => (p.port .chair).pending = some ⟨tag, status, frames⟩
    | .av => (p.port .av).pending = some ⟨tag, status, frames⟩

/-! ### Sound states -/

/-- The part stands between events: every screen is driven as R132 says, and a walk-in dwell that stands above 0 has its
conditions (R170). -/
abbrev Settled (p : Part) : Prop :=
  (∀ k, (p.screen k).driven = p.drivenBy k) ∧ (p.walkInReady = true ∨ p.ssu.dwell = 0)

/-- The indication and every output stand at the level their rules give (R102, R103, R132, R133, R190). -/
abbrev OutputsTrue (p : Part) : Prop := p.drivePins = p

/-- A channel's counts are in range (R17, R29). -/
abbrev CountsInRange (x : Channel) : Prop :=
  x.raw ≤ Config.maxRaw ∧ x.filtered ≤ Config.maxCount ∧ x.lta ≤ Config.maxCount ∧ ∀ b ∈ x.best, b.2 ≤ Config.maxRaw

/-- A bank has a state that its role allows, and an EMPTY bank holds nothing (R150). -/
abbrev BankSound (b : Bank) : Prop :=
  (b.role = .published ∨ b.state ≠ .published) ∧ (b.role = .staging ∨ b.state = .empty ∨ b.state = .published) ∧
    (b.state = .empty → Part.emptied b = { b with role := .staging })

/-- The banks have different roles, and each is sound (R150). -/
abbrev BanksSound (p : Part) : Prop :=
  p.sch.bankA.role ≠ p.sch.bankB.role ∧ BankSound p.sch.bankA ∧ BankSound p.sch.bankB

/-- A FREE slot has no holder, no close reason, warned mark NONE and gain 0 (R69, R91, R97). -/
abbrev SlotSound (x : Slot) : Prop :=
  x.state = .free → x.holder = none ∧ x.reason = none ∧ x.warned = .none ∧ x.gain = 0

/-- The request queue holds at most 16 entries and no seat twice (R65). -/
abbrev QueueSound (f : Flc) : Prop := f.queue.length ≤ Config.queueSize ∧ (f.queue.map (·.seat)).Nodup

/-! ### Settings in range -/

/-- A profile's fields are in the ranges of R16. -/
abbrev ProfileInRange (x : Profile) : Prop :=
  (x.countBeta ≤ 7 ∧ x.activeBeta ≤ 15 ∧ x.standbyBeta ≤ 15 ∧ 1 ≤ x.threshold ∧ x.threshold ≤ 255 ∧ x.hysteresis ≤ 255) ∧
    (x.enter ≤ 15 ∧ x.exit ≤ 15 ∧ x.haltLimit ≤ 255 ∧ x.tracking ≤ 127) ∧
    (200 ≤ x.target ∧ x.target ≤ 3800 ∧ 1 ≤ x.band ∧ x.band ≤ 64)

/-- A rate table entry's fields are in the ranges of R116. -/
abbrev RateInRange (x : Rate) : Prop :=
  (x.nominal = 0 ∨ 1000 ≤ x.nominal) ∧ x.nominal ≤ 65000 ∧ x.tolerance ≤ 2000 ∧ 1 ≤ x.cls ∧ x.cls ≤ 8 ∧
    x.minWidth ≤ x.maxWidth ∧ x.maxWidth ≤ 65535

/-- The gain settings are in the ranges of R92. -/
abbrev GainInRange (x : GainSettings) : Prop :=
  1 ≤ x.ceiling ∧ x.ceiling ≤ 1023 ∧ 1 ≤ x.rise ∧ x.rise ≤ 255 ∧ 1 ≤ x.fall ∧ x.fall ≤ 255 ∧ x.duck ≤ 255

/-- The settings that PLAN SAVE writes from the values in force are in their ranges (R13). -/
abbrev SavedInRange (p : Part) : Prop :=
  (∀ k, ProfileInRange (p.profileOf k)) ∧ (∀ i, RateInRange (p.scu.rates.get i)) ∧ GainInRange p.sgu.gain ∧
    (1 ≤ p.scu.agree ∧ p.scu.agree ≤ 15 ∧ 1 ≤ p.scu.drop ∧ p.scu.drop ≤ 15) ∧
    ∀ k, (p.socket k).filter = 0 ∨ (p.socket k).filter = 2 ∨ (p.socket k).filter = 4 ∨ (p.socket k).filter = 8

/-! ### A stored plan -/

/-- A stored plan installs seat i, and the strapped seat count does not take it away (R1, R3, R7). -/
abbrev PlanInstalls (straps : StrapPins) (img : List Byte) (i : SeatId) : Prop :=
  bitAt img (21 + 2 * i.val) 0 = true ∧ i.val < 8 + 4 * straps.seatCount.toNat

/-- A stored plan gives seat i the role CHAIR (R3). -/
abbrev PlanChair (img : List Byte) (i : SeatId) : Prop := bitAt img (21 + 2 * i.val) 1 = true

/-- The mode of a stored screen entry of preset n; one outside the set is the built-in default's (R3, R6, R8). -/
abbrev planMode (img : List Byte) (n : Fin 4) (k : ScreenId) : ScreenMode :=
  match byteAt img (120 + 12 * n.val + 3 * k.val) % 8 with
  | 0 => .fixed
  | 1 => .followSpeaker
  | 2 => .followScreen
  | 3 => .blank
  | _ => if n = 0 then .blank else if k = 0 then .followSpeaker else if k = 1 then .followScreen else .fixed

/-- The followed screen of a stored screen entry of preset n (R3). -/
abbrev planFollowed (img : List Byte) (n : Fin 4) (k : ScreenId) : ScreenId :=
  ⟨byteAt img (120 + 12 * n.val + 3 * k.val) / 8 % 4, by omega⟩

/-- The profile stored at an offset is in the ranges of R16. -/
abbrev PlanProfileInRange (img : List Byte) (o : Nat) : Prop :=
  (byteAt img o % 16 ≤ 1 ∧ byteAt img o / 16 ≤ 1 ∧ byteAt img (o + 1) ≤ 7 ∧ byteAt img (o + 2) ≤ 15 ∧
      byteAt img (o + 3) ≤ 15 ∧ 1 ≤ byteAt img (o + 4)) ∧
    (byteAt img (o + 6) ≤ 15 ∧ byteAt img (o + 7) ≤ 15 ∧ byteAt img (o + 9) ≤ 127) ∧
    (200 ≤ halfAt img (o + 10) ∧ halfAt img (o + 10) ≤ 3800 ∧ 1 ≤ byteAt img (o + 12) ∧ byteAt img (o + 12) ≤ 64)

/-- The screen entry k of preset n needs no correction: its fields are in their sets and ranges, and it does not follow itself,
a follower, or while it is followed (R8, R9). -/
abbrev PlanScreenSound (img : List Byte) (n : Fin 4) (k : ScreenId) : Prop :=
  (byteAt img (120 + 12 * n.val + 3 * k.val) % 8 ≤ 3 ∧ byteAt img (121 + 12 * n.val + 3 * k.val) ≤ 10 ∧
      byteAt img (122 + 12 * n.val + 3 * k.val) ≤ 10) ∧
    (planMode img n k = .followScreen → planFollowed img n k ≠ k ∧
      planMode img n (planFollowed img n k) ≠ .followScreen ∧
      ∀ j, j ≠ k → planMode img n j = .followScreen → planFollowed img n j ≠ k)

/-- The rate table entry stored at an offset is in the ranges of R116. -/
abbrev PlanRateInRange (img : List Byte) (o : Nat) : Prop :=
  (halfAt img o = 0 ∨ 1000 ≤ halfAt img o) ∧ halfAt img o ≤ 65000 ∧ halfAt img (o + 2) ≤ 2000 ∧
    1 ≤ byteAt img (o + 4) ∧ byteAt img (o + 4) ≤ 8 ∧ halfAt img (o + 5) ≤ halfAt img (o + 7)

/-- The timings, counts and session settings of a stored plan are in their ranges, the walk-in quorum within the number of
installed seats (R8). -/
abbrev PlanTimingInRange (straps : StrapPins) (img : List Byte) : Prop :=
  (1 ≤ byteAt img 240 ∧ byteAt img 240 ≤ 15 ∧ 1 ≤ byteAt img 241 ∧ byteAt img 241 ≤ 15) ∧
    (1 ≤ halfAt img 250 ∧ halfAt img 250 ≤ 1023 ∧ 1 ≤ byteAt img 252 ∧ 1 ≤ byteAt img 253 ∧ byteAt img 255 ≤ 1) ∧
    (byteAt img 256 % 5 = 0 ∧ 5 ≤ byteAt img 256 ∧ byteAt img 256 ≤ 40 ∧ byteAt img 257 ≤ 60 ∧
      5 ≤ byteAt img 258 ∧ byteAt img 258 ≤ 120) ∧
    (byteAt img 259 ≤ 15 ∧ byteAt img 260 ≤ 30 ∧ byteAt img 261 ≤ 60 ∧
      byteAt img 262 ≤ ((List.finRange 20).filter fun i => PlanInstalls straps img i).length ∧
      halfAt img 263 ≤ 600 ∧ byteAt img 265 ≤ 120 ∧ 15 ≤ byteAt img 266 ∧ byteAt img 266 ≤ 240) ∧
    (1 ≤ byteAt img 267 ∧ byteAt img 267 ≤ 60 ∧ 1 ≤ byteAt img 268 ∧ byteAt img 268 ≤ 60) ∧
    (byteAt img 269 ≤ 3 ∧ 1 ≤ byteAt img 270 ∧ byteAt img 270 ≤ 6 ∧
      (halfAt img 271 = 0 ∨ (10 ≤ halfAt img 271 ∧ halfAt img 271 ≤ 3600)) ∧ byteAt img 273 ≤ 1)

/-- A stored plan needs no correction that counts: exactly one installed seat is the CHAIR (R7), every field is in its range or
set, the reference channel is enabled (R8), and no follow chain is broken (R9). -/
abbrev PlanSound (straps : StrapPins) (img : List Byte) : Prop :=
  (∃ c, PlanInstalls straps img c ∧ PlanChair img c ∧ ∀ j, PlanInstalls straps img j → PlanChair img j → j = c) ∧
    (∀ i : SeatId, byteAt img (22 + 2 * i.val) ≤ 8) ∧ bitAt img 66 0 = true ∧
    (PlanProfileInRange img 67 ∧ PlanProfileInRange img 80 ∧ PlanProfileInRange img 93) ∧ byteAt img 106 ≤ 1 ∧
    (∀ n k, PlanScreenSound img n k) ∧ (∀ i : Fin 8, PlanRateInRange img (168 + 9 * i.val)) ∧
    (∀ k : SocketId, byteAt img (242 + k.val) / 2 % 4 ≤ 1 ∧ byteAt img (242 + k.val) / 8 % 8 ≤ 3) ∧
    PlanTimingInRange straps img

/-! ### A channel in the coming frame -/

/-- The raw count of a channel in a frame with these readings (R21). -/
abbrev frameCount (readings : List Nat) (c : ChannelId) : Nat := min (readings.getD c.val 0) 4095

/-- The profile of a channel (R15). -/
abbrev profileFor (p : Part) (c : ChannelId) : Profile := p.profileOf (Part.kindOf c)

/-- The filtered count of a channel after a frame with these readings (R22). -/
abbrev nextFiltered (p : Part) (readings : List Nat) (c : ChannelId) : Nat :=
  approach (p.channel c).filtered (16 * frameCount readings c) (profileFor p c).countBeta

/-- The delta of a channel in a frame with these readings (R23). -/
abbrev nextDelta (p : Part) (readings : List Nat) (c : ChannelId) : Nat :=
  deltaOf (profileFor p c).direction (p.channel c).lta (nextFiltered p readings c)

/-- The threshold of a channel in the coming frame (R23). -/
abbrev thresholdOf (p : Part) (c : ChannelId) : Nat := (p.channel c).lta * (profileFor p c).threshold / 256

/-- The release level of a channel in the coming frame (R23). -/
abbrev releaseOf (p : Part) (c : ChannelId) : Nat :=
  thresholdOf p c - thresholdOf p c * (profileFor p c).hysteresis / 256

/-- A halted frame of this period takes the halt timer of a channel to a halt limit that is not 0 (R28). -/
abbrev ReachesHaltLimit (p : Part) (c : ChannelId) (period : Nat) : Prop :=
  (profileFor p c).haltLimit ≠ 0 ∧ (profileFor p c).haltLimit * 1000 ≤ (p.channel c).haltTimer + period

/-- A channel runs: it is in IDLE, ENTERING, ACTIVE or LEAVING (R20). -/
abbrev RunningChannel (x : Channel) : Prop :=
  x.state = .idle ∨ x.state = .entering ∨ x.state = .active ∨ x.state = .leaving

/-- A raw count is in the retune band of a profile (R16). -/
abbrev InBand (x : Profile) (count : Nat) : Prop := distance count x.target ≤ x.target * x.band / 256

/-- The best trial of a search after a step that tries setting v: the trial that is nearer to the target, and on a tie the one of
the lower setting (R32). -/
abbrev bestTrialAfter (p : Part) (readings : List Nat) (c : ChannelId) (v : Nat) : Nat × Nat :=
  match (p.channel c).best with
  | none => (v, frameCount readings c)
  | some a =>
    if distance (frameCount readings c) (profileFor p c).target < distance a.2 (profileFor p c).target ∨
        (distance (frameCount readings c) (profileFor p c).target = distance a.2 (profileFor p c).target ∧ v < a.1) then
      (v, frameCount readings c)
    else a

/-- A seat's channel makes no report in a frame of ACTIVE with these readings (R25): it is OFF or in FAULT, or its search
does not end in the frame, or its outcome stands by R24 and no halt limit is reached. Enough for that, not needed. -/
abbrev QuietChannel (p : Part) (readings : List Nat) (c : ChannelId) : Prop :=
  ((p.channel c).state = .off ∨ (p.channel c).state = .fault ∨ ((p.channel c).state = .tuning ∧ (p.channel c).step < 7)) ∨
    (((p.channel c).state = .idle ∨ (p.channel c).state = .entering) ∧ nextDelta p readings c < thresholdOf p c) ∨
    (((p.channel c).state = .active ∨ (p.channel c).state = .leaving) ∧ releaseOf p c ≤ nextDelta p readings c ∧
      ¬ ReachesHaltLimit p c p.sfe.frame)

/-- The frame takes an ENTERING channel to ACTIVE and no further (R24). -/
abbrev EntersActive (p : Part) (readings : List Nat) (c : ChannelId) (period : Nat) : Prop :=
  ((p.channel c).state = .entering ∧ (profileFor p c).enter ≤ (p.channel c).debounce + 1 ∧
      thresholdOf p c ≤ nextDelta p readings c) ∧
    ¬ ReachesHaltLimit p c period

/-- The frame takes a LEAVING channel to IDLE by its exit debounce (R24). -/
abbrev LeavesActive (p : Part) (readings : List Nat) (c : ChannelId) (period : Nat) : Prop :=
  ((p.channel c).state = .leaving ∧ (profileFor p c).exit ≤ (p.channel c).debounce + 1 ∧
      nextDelta p readings c < releaseOf p c) ∧
    ¬ ReachesHaltLimit p c period

/-! ### The requests of the catalogue -/

/-- The rights of a port over a request code (R188). -/
abbrev Permitted (q : Port) (code : Nat) : Prop :=
  code < 0x20 ∨ (code < 0x2A ∧ q = .chair) ∨ (code = 0x2A ∧ q ≠ .av) ∨ (0x40 ≤ code ∧ code < 0x50 ∧ q = .room) ∨
    (0x60 ≤ code ∧ q = .av)

/-- The port and the request of a request row, with the code and the length that R188 gives it. -/
def requestOf : Instr → Option (Port × Request)
  | .ident q t => some (q, ⟨0x01, t, 0, []⟩)
  | .floorRead q t => some (q, ⟨0x02, t, 0, []⟩)
  | .seatRead q t a => some (q, ⟨0x03, t, 1, [a]⟩)
  | .channelRead q t a => some (q, ⟨0x04, t, 1, [a]⟩)
  | .sourceRead q t a => some (q, ⟨0x05, t, 1, [a]⟩)
  | .routeRead q t a => some (q, ⟨0x06, t, 1, [a]⟩)
  | .clockRead q t => some (q, ⟨0x07, t, 0, []⟩)
  | .bankRead q t a b => some (q, ⟨0x08, t, 2, [a, b]⟩)
  | .sessionRead q t => some (q, ⟨0x09, t, 0, []⟩)
  | .noticeRead q t => some (q, ⟨0x0A, t, 0, []⟩)
  | .noticeMask q t m => some (q, ⟨0x0B, t, 2, b2 m.toNat⟩)
  | .portReset q t => some (q, ⟨0x0C, t, 0, []⟩)
  | .grant q t a => some (q, ⟨0x20, t, 1, [a]⟩)
  | .grantNext q t => some (q, ⟨0x21, t, 0, []⟩)
  | .close q t a => some (q, ⟨0x22, t, 1, [a]⟩)
  | .cancel q t a => some (q, ⟨0x23, t, 1, [a]⟩)
  | .cancelAll q t => some (q, ⟨0x24, t, 0, []⟩)
  | .muteAll q t => some (q, ⟨0x25, t, 0, []⟩)
  | .setMode q t a => some (q, ⟨0x26, t, 1, [a]⟩)
  | .setLimit q t a => some (q, ⟨0x27, t, 1, [a]⟩)
  | .setSpeakLimit q t n e => some (q, ⟨0x28, t, 3, b2 n.toNat ++ [e]⟩)
  | .press q t a => some (q, ⟨0x29, t, 1, [a]⟩)
  | .endSession q t => some (q, ⟨0x2A, t, 0, []⟩)
  | .clockSet q t d m x => some (q, ⟨0x40, t, 5, b2 d.toNat ++ b2 m.toNat ++ [x]⟩)
  | .bankOpen q t d n a => some (q, ⟨0x41, t, 4, b2 d.toNat ++ [n, a]⟩)
  | .bookingEntry q t e => some (q, ⟨0x42, t, 17, bookingPayloadBytes e⟩)
  | .bankPublish q t => some (q, ⟨0x43, t, 0, []⟩)
  | .bankAbandon q t => some (q, ⟨0x44, t, 0, []⟩)
  | .bookingCancel q t n => some (q, ⟨0x45, t, 2, b2 n.toNat⟩)
  | .extend q t m => some (q, ⟨0x46, t, 2, b2 m.toNat⟩)
  | .summaryRead q t a => some (q, ⟨0x47, t, 1, [a]⟩)
  | .summaryRelease q t n => some (q, ⟨0x48, t, 2, b2 n.toNat⟩)
  | .profileSet q t a f => some (q, ⟨0x49, t, 15, [a] ++ profilePayloadBytes f⟩)
  | .patternSet q t a r g l => some (q, ⟨0x4A, t, 4, [a, r, g, l]⟩)
  | .polaritySet q t r g l => some (q, ⟨0x4B, t, 3, [r, g, l]⟩)
  | .retune q t a f => some (q, ⟨0x4C, t, 2, [a, f]⟩)
  | .planSave q t => some (q, ⟨0x4D, t, 0, []⟩)
  | .tableReset q t => some (q, ⟨0x4E, t, 0, []⟩)
  | .standbyEnter q t => some (q, ⟨0x4F, t, 0, []⟩)
  | .routeSet q t a b c d e f => some (q, ⟨0x60, t, 6, [a, b, c, d, e, f]⟩)
  | .rateSet q t a n o c w x =>
    some (q, ⟨0x61, t, 10, [a] ++ b2 n.toNat ++ b2 o.toNat ++ [c] ++ b2 w.toNat ++ b2 x.toNat⟩)
  | .countSet q t k d => some (q, ⟨0x62, t, 2, [k, d]⟩)
  | .captureSet q t a b c d => some (q, ⟨0x63, t, 4, [a, b, c, d]⟩)
  | .inputPresent q t a b => some (q, ⟨0x64, t, 2, [a, b]⟩)
  | .gainSet q t g r f d k => some (q, ⟨0x65, t, 6, b2 g.toNat ++ [r, f, d, k]⟩)
  | _ => none

end Sys2Proof.Machine
end

