-- ==== Sys2Proof/Certificates/Slice0/Obligations.lean ====
section
/-! DEFINITION. The statements for the provers. `Completes c s post` says that the command c answers a next state whose part
satisfies `post`; `SameBut bs` is the frame: every piece of the state outside bs is unchanged. -/

open Sys2Proof Sys2Proof.Machine

/-! ### The queue of commands -/

/-- The machine's step carries out the command at the front of its queue, with the queue's rest left to wait. -/
def Obligations.StepRunsFrontCommand : Prop :=
  ∀ (c : Instr) (s : State),
    step { s with pending := c :: s.pending } = exec c s

/-- With no command waiting a step lets one capture tick of 1 µs pass, which is the model's choice (assumption 1):
the counter of every socket whose capture runs adds 1 and becomes 0 at its overflow, which returns the phase to
WAIT_FIRST and keeps the last width, period and entry; without an overflow nothing else changes (R114, R115). Every
command answers a next state, and only the step takes commands from the queue: the spec gives every event and every
request an effect or an answer in every state. -/
def Obligations.EmptyQueueTicksAndEveryCommandAnswers : Prop :=
  (∀ (s : State),
      s.pending = [] →
      Settled s.part →
      ∃ t : State, step s = .next t ∧ t.pending = [] ∧
        (∀ k, s.part.capturing k = false → t.part.socket k = s.part.socket k) ∧
        (∀ k, s.part.capturing k = true →
          (t.part.socket k).counter = ((s.part.socket k).counter + 1) % 65535 ∧
          ((s.part.socket k).counter + 1 < 65535 →
            t.part.socket k = { s.part.socket k with counter := (s.part.socket k).counter + 1 }) ∧
          ((s.part.socket k).counter + 1 = 65535 → (t.part.socket k).phase = .waitFirst ∧
            (t.part.socket k).width = (s.part.socket k).width ∧ (t.part.socket k).period = (s.part.socket k).period ∧
            (t.part.socket k).entry = (s.part.socket k).entry)) ∧
        ((∀ k, s.part.capturing k = true → (s.part.socket k).counter + 1 < 65535) → SameBut [.sockets] s.part t.part)) ∧
  (∀ (c : Instr) (s : State),
      Completes c s fun _ => True)

/-! ### Resets, the load and the save (chapter 1) -/

/-- The four reset commands (R1, R11, R14): every block takes its reset values and the outputs the levels these give;
a release latches the straps as they stand and starts the load. The RESET pin acts on a part that has supply
(assumption 8). A part without supply or held by the RESET pin takes no event but a reset (R11, R14): the model's
choice (assumptions 8 and 9), since R11 speaks of the held RESET pin alone. -/
def Obligations.ResetsRestoreEveryBlock : Prop :=
  (∀ (pins : StrapPins) (s : State),
      Completes (.powerOnResetRelease pins) s (fun t => SameBut [] (Part.atReset pins .loading) t ∧ OutputsTrue t) ∧
      Completes .powerOnResetAssert s
        (fun t => SameBut [] (Part.atReset s.part.pln.straps .unpowered) t ∧ OutputsTrue t) ∧
      (s.part.pln.stage ≠ .unpowered →
        Completes (.resetPinRelease pins) s (fun t => SameBut [] (Part.atReset pins .loading) t ∧ OutputsTrue t) ∧
        Completes .resetPinAssert s
          (fun t => SameBut [] (Part.atReset s.part.pln.straps .held) t ∧ OutputsTrue t)) ∧
      (s.part.pln.stage = .unpowered →
        Completes (.resetPinRelease pins) s (fun t => t = s.part) ∧ Completes .resetPinAssert s (fun t => t = s.part))) ∧
  (∀ (c : Instr) (s : State),
      s.part.isHeld = true →
      (c ≠ .resetPinAssert ∧ c ≠ .powerOnResetAssert) →
      (∀ pins, c ≠ .powerOnResetRelease pins ∧ c ≠ .resetPinRelease pins) →
      exec c s = .next s)

/-- What a reset leaves, in the values the chapters give: channels OFF, seats VACANT with keys UP, the floor closed
with an empty queue, slots FREE, sockets NONE, screens BLANK and STEADY, the clock not valid, both banks EMPTY, no
session, an empty store, the power state WAKING. The state right after reset satisfies every condition that a step
keeps. -/
def Obligations.ResetLeavesSoundValues : Prop :=
  (∀ c, (State.reset.part.channel c).state = .off ∧ (State.reset.part.channel c).lta = 0) ∧
  (∀ i, (State.reset.part.seat i).presence = .vacant ∧ (State.reset.part.seat i).key = .up ∧
    (State.reset.part.seat i).counters = ⟨0, 0, 0, 0, 0, 0⟩) ∧
  State.reset.part.smn.occupied = 0 ∧ State.reset.part.flc.isOpen = false ∧ State.reset.part.flc.queue = [] ∧
  State.reset.part.flc.nextNumber = 0 ∧ State.reset.part.flc.seconds = 0 ∧
  (∀ k, (State.reset.part.slot k).state = .free ∧ (State.reset.part.slot k).gain = 0) ∧
  (∀ k, (State.reset.part.socket k).state = .none ∧ (State.reset.part.socket k).counter = 0) ∧
  (∀ k, (State.reset.part.screen k).set.mode = .blank ∧ (State.reset.part.screen k).settle = .steady) ∧
  State.reset.part.sch.clock = ⟨0, 0, 0, false⟩ ∧ State.reset.part.published.state = .empty ∧
  State.reset.part.staging.state = .empty ∧ State.reset.part.publishedIsA = true ∧
  State.reset.part.ssu.session = none ∧ State.reset.part.ssu.store = [] ∧ State.reset.part.ssu.nextSummary = 1 ∧
  State.reset.part.pwu.power = .waking ∧ State.reset.part.pln.outcome = .none ∧ State.reset.pending = [] ∧
  OutputsTrue State.reset.part ∧ Settled State.reset.part ∧ (∀ c, CountsInRange (State.reset.part.channel c)) ∧
  (∀ k, (State.reset.part.profileOf k).threshold ≤ 255) ∧
  BanksSound State.reset.part ∧ QueueSound State.reset.part.flc ∧ (∀ k, SlotSound (State.reset.part.slot k)) ∧
  State.reset.part.ssu.store.length ≤ 2

/-- A load that finds no good image ends with outcome DEFAULT and *plan default*, hands out the built-in defaults
with the strap-selected pattern table, installs the strapped seats and starts stage 3 (R1, R5, R6, R7, R10, R11). The
fields of the presets that R6 leaves unsaid (a fixed source, a followed screen, a fallback source) are the model's
choice (assumption 4). -/
def Obligations.LoadWithoutGoodImage : Prop :=
  ∀ (e : EepromRead) (s : State),
    s.part.pln.stage = .loading →
    Part.loadedImage e = none →
    Completes (.loadEnd e) s fun t =>
      t.pln.stage = .retuning ∧ t.pln.outcome = .default ∧ t.pln.corrected = false ∧
      t.sfe.key = Profile.key ∧ t.sfe.proximity = Profile.proximity ∧ t.sfe.reference = Profile.reference ∧
      t.sfe.frame = 10 ∧ t.smn.grace = 8 ∧ t.flc.lead = 30 ∧ t.flc.preset = ⟨.queue, 2, 0, false⟩ ∧
      t.sgu.gain = ⟨800, 8, 16, 64, true⟩ ∧ t.sgu.patterns = strapPatterns s.part.pln.straps ∧
      t.scu.rates = builtInRates ∧ t.scu.agree = 4 ∧ t.scu.drop = 3 ∧ t.rtu.presets = builtInPresets ∧
      t.ssu.params = ⟨5, 5, 10, 2, 60, 15, 60⟩ ∧ t.pwu.lead = 10 ∧ t.pwu.delay = 5 ∧
      (∀ i : SeatId, (t.seat i).installed = decide (i.val < 8 + 4 * s.part.pln.straps.seatCount.toNat)) ∧
      (∀ q, (t.port q).flags &&& 4 ≠ 0 ∧ (t.port q).causes &&& 1 ≠ 0)

/-- A load of a good image ends with outcome PLAN and hands out its settings as corrected; *plan corrected* is raised
when a correction counted; each enabled channel of an installed seat, and the reference channel, starts its retune
(R4, R5, R8, R9, R10, R11). What a load of a good image makes of the seats: the strapped seat count takes seats away,
and the chair role is corrected by the cases of R7; the other fields are as stored, a socket above 8 as 0 (R2, R3,
R8). The enable marks of the channels follow, and the reference channel's is on (R7, R8). What a load of a good image
makes of the fields of R8: each number is moved to the nearest end of its range, the sensing frame first rounded down
to a multiple of 5 ms, and a value outside its set becomes the built-in default of R6; the routing presets are
corrected by R9, screen by screen (R3, R8, R9, R10, R16, R92, R116). The plan counts as corrected exactly when some
stored value is moved, the installation by the strapped seat count left out (R7, R9). -/
def Obligations.LoadOfGoodImage : Prop :=
  (∀ (img : List Byte) (s : State),
      s.part.pln.stage = .loading →
      Part.goodImage img = true →
      Completes (.loadEnd (.image img)) s fun t =>
        t.pln.stage = .retuning ∧ t.pln.outcome = .plan ∧ t.pln.image = img ∧
        t.pln.corrected = (readSettings s.part.pln.straps img).2 ∧
        t.sfe.key = (readSettings s.part.pln.straps img).1.key ∧
        t.sfe.proximity = (readSettings s.part.pln.straps img).1.proximity ∧
        t.sfe.reference = (readSettings s.part.pln.straps img).1.reference ∧
        t.sfe.frame = (readSettings s.part.pln.straps img).1.frame ∧
        t.smn.grace = (readSettings s.part.pln.straps img).1.grace ∧
        t.flc.lead = (readSettings s.part.pln.straps img).1.lead ∧
        t.sgu.polarity = (readSettings s.part.pln.straps img).1.polarity ∧
        (t.scu.agree, t.scu.drop) =
          ((readSettings s.part.pln.straps img).1.agree, (readSettings s.part.pln.straps img).1.drop) ∧
        (∀ k, ((t.socket k).enable, (t.socket k).edge, (t.socket k).filter) =
          (readSettings s.part.pln.straps img).1.capture.get k) ∧
        (t.pwu.lead, t.pwu.delay, t.pwu.mask, t.pwu.proximityWake) =
          ((readSettings s.part.pln.straps img).1.preWake, (readSettings s.part.pln.straps img).1.delay,
            (readSettings s.part.pln.straps img).1.mask, (readSettings s.part.pln.straps img).1.proximityWake) ∧
        (∀ k, (t.screen k).set = ((readSettings s.part.pln.straps img).1.presets.get 0).get k) ∧
        (∀ i, (t.seat i).installed = ((readSettings s.part.pln.straps img).1.seats.get i).installed ∧
          (t.seat i).role = ((readSettings s.part.pln.straps img).1.seats.get i).role) ∧
        t.sgu.gain = (readSettings s.part.pln.straps img).1.gain ∧
        t.sgu.patterns = (readSettings s.part.pln.straps img).1.patterns ∧
        t.scu.rates = (readSettings s.part.pln.straps img).1.rates ∧
        t.rtu.presets = (readSettings s.part.pln.straps img).1.presets ∧
        t.ssu.params = (readSettings s.part.pln.straps img).1.params ∧
        t.flc.preset = (readSettings s.part.pln.straps img).1.floor ∧
        t.prt.roomId = halfAt img 3 ∧ t.prt.tableName = (img.drop 5).take 16 ∧
        (∀ q, t.pln.corrected = true → (t.port q).flags &&& 4 ≠ 0 ∧ (t.port q).causes &&& 2 ≠ 0) ∧
        (∀ c : ChannelId, (t.channel c).state =
          if (t.channel c).enabled ∧ (c.val = 40 ∨ (t.seat (Part.seatOf c)).installed) then .tuning
          else (s.part.channel c).state)) ∧
  (∀ (img : List Byte) (s : State),
      s.part.pln.stage = .loading →
      Part.goodImage img = true →
      Completes (.loadEnd (.image img)) s fun t =>
        ((∀ i, ¬ PlanInstalls s.part.pln.straps img i) →
          (∀ i : SeatId, (t.seat i).installed = decide (i = 0)) ∧ (t.seat 0).role = .chair) ∧
        (∀ c, PlanInstalls s.part.pln.straps img c → (∀ j, j < c → ¬ PlanInstalls s.part.pln.straps img j) →
          (∀ j, PlanInstalls s.part.pln.straps img j → ¬ PlanChair img j) →
          ∀ i, (t.seat i).installed = decide (PlanInstalls s.part.pln.straps img i) ∧
            (PlanInstalls s.part.pln.straps img i → (t.seat i).role = if i = c then .chair else .delegate)) ∧
        (∀ c, PlanInstalls s.part.pln.straps img c → PlanChair img c →
          (∀ j, j < c → PlanInstalls s.part.pln.straps img j → ¬ PlanChair img j) →
          ∀ i, (t.seat i).installed = decide (PlanInstalls s.part.pln.straps img i) ∧
            (PlanInstalls s.part.pln.straps img i → (t.seat i).role = if i = c then .chair else .delegate)) ∧
        (∀ i, (t.seat i).installed = false → (t.seat i).role = if PlanChair img i then .chair else .delegate) ∧
        (∀ i : SeatId, (t.seat i).presenceRequired = bitAt img (21 + 2 * i.val) 2 ∧
          (t.seat i).priority = bitAt img (21 + 2 * i.val) 3 ∧
          (t.seat i).socket.map (fun k => k.val + 1) =
            (if byteAt img (22 + 2 * i.val) = 0 ∨ 8 < byteAt img (22 + 2 * i.val) then none
              else some (byteAt img (22 + 2 * i.val)))) ∧
        (∀ c : ChannelId, (t.channel c).enabled =
          if c.val = 40 then true
          else bitAt img (61 + c.val / 8) (c.val % 8) && decide (c.val / 2 < 8 + 4 * s.part.pln.straps.seatCount.toNat))) ∧
  (∀ (img : List Byte) (s : State),
      s.part.pln.stage = .loading →
      Part.goodImage img = true →
      Completes (.loadEnd (.image img)) s fun t =>
        (t.pln.corrected = true ↔ ¬ PlanSound s.part.pln.straps img) ∧
        (∀ y ∈ ([(.key, 67), (.proximity, 80), (.reference, 93)] : List (ProfileKind × Nat)),
          t.profileOf y.1 = ⟨if byteAt img y.2 % 16 = 1 then .rise else .fall, min 7 (byteAt img (y.2 + 1)),
            min 15 (byteAt img (y.2 + 2)), min 15 (byteAt img (y.2 + 3)), max 1 (byteAt img (y.2 + 4)),
            byteAt img (y.2 + 5), min 15 (byteAt img (y.2 + 6)), min 15 (byteAt img (y.2 + 7)), byteAt img (y.2 + 8),
            min 127 (byteAt img (y.2 + 9)), if byteAt img y.2 / 16 = 1 then .opposite else .same,
            max 200 (min 3800 (halfAt img (y.2 + 10))), max 1 (min 64 (byteAt img (y.2 + 12)))⟩) ∧
        (∀ i : Fin 12, t.sgu.patterns.get i =
          if byteAt img 106 = 1 then
            ⟨[Pattern.off, .on, .slow, .fast].getD (byteAt img (107 + i.val) % 4) .off,
              [Pattern.off, .on, .slow, .fast].getD (byteAt img (107 + i.val) / 4 % 4) .off,
              [Pattern.off, .on, .slow, .fast].getD (byteAt img (107 + i.val) / 16 % 4) .off⟩
          else (strapPatterns s.part.pln.straps).get i) ∧
        t.sgu.polarity = ⟨if bitAt img 119 0 then .activeLow else .activeHigh,
          if bitAt img 119 1 then .activeLow else .activeHigh, if bitAt img 119 2 then .activeLow else .activeHigh⟩ ∧
        (∀ (n : Fin 4) (k : ScreenId),
          (((t.rtu.presets.get n).get k).fixed.val = min 10 (byteAt img (121 + 12 * n.val + 3 * k.val)) ∧
            ((t.rtu.presets.get n).get k).fallback.val = min 10 (byteAt img (122 + 12 * n.val + 3 * k.val)) ∧
            ((t.rtu.presets.get n).get k).followed = planFollowed img n k ∧
            ((t.rtu.presets.get n).get k).privacy = bitAt img (120 + 12 * n.val + 3 * k.val) 5) ∧
          ((t.rtu.presets.get n).get k).mode =
            if planMode img n k = .followScreen ∧
                ∃ j, (if j < k then ((t.rtu.presets.get n).get j).mode else planMode img n j) = .followScreen ∧
                  (planFollowed img n k = j ∨ (j ≠ k ∧ planFollowed img n j = k)) then .blank
            else planMode img n k) ∧
        (∀ i : Fin 8, t.scu.rates.get i =
          ⟨if halfAt img (168 + 9 * i.val) = 0 then 0 else max 1000 (min 65000 (halfAt img (168 + 9 * i.val))),
            min 2000 (halfAt img (170 + 9 * i.val)), max 1 (min 8 (byteAt img (172 + 9 * i.val))),
            min (halfAt img (173 + 9 * i.val)) (halfAt img (175 + 9 * i.val)), halfAt img (175 + 9 * i.val)⟩) ∧
        (t.scu.agree, t.scu.drop) = (max 1 (min 15 (byteAt img 240)), max 1 (min 15 (byteAt img 241))) ∧
        (∀ k : SocketId, ((t.socket k).enable, (t.socket k).edge, (t.socket k).filter) =
          (bitAt img (242 + k.val) 0, if byteAt img (242 + k.val) / 2 % 4 = 0 then .rising else .falling,
            [0, 2, 4, 8].getD (byteAt img (242 + k.val) / 8 % 8) 2)) ∧
        t.sgu.gain = ⟨max 1 (min 1023 (halfAt img 250)), max 1 (byteAt img 252), max 1 (byteAt img 253), byteAt img 254,
          decide (byteAt img 255 ≠ 0)⟩ ∧
        (t.sfe.frame, t.smn.grace, t.flc.lead) =
          (max 5 (min 40 (byteAt img 256 / 5 * 5)), min 60 (byteAt img 257), max 5 (min 120 (byteAt img 258))) ∧
        t.ssu.params = ⟨min 15 (byteAt img 259), min 30 (byteAt img 260), min 60 (byteAt img 261),
          min t.installedCount (byteAt img 262), min 600 (halfAt img 263), min 120 (byteAt img 265),
          max 15 (min 240 (byteAt img 266))⟩ ∧
        (t.pwu.lead, t.pwu.delay) = (max 1 (min 60 (byteAt img 267)), max 1 (min 60 (byteAt img 268))) ∧
        t.flc.preset = ⟨[FloorMode.direct, .queue, .override, .chair].getD (byteAt img 269) .queue,
          max 1 (min 6 (byteAt img 270)), if halfAt img 271 = 0 then 0 else max 10 (min 3600 (halfAt img 271)),
          decide (byteAt img 273 = 1)⟩ ∧
        ((∀ k : SocketId, t.pwu.mask.get k = bitAt img 274 k.val) ∧ t.pwu.proximityWake = bitAt img 275 0))

/-- What PLAN SAVE writes loads back: with the settings in force in their ranges and a copy of 512 bytes with the
format mark, the image composed is good, a load reads from it the settings in force, and it reads every other setting
as it would from the copy (R3, R4, R8, R10, R13). -/
def Obligations.SavedPlanLoadsBack : Prop :=
  ∀ (straps : StrapPins) (p : Part),
    (p.pln.image.length = 512 ∧ halfAt p.pln.image 0 = 0xA51C) →
    SavedInRange p →
    Part.goodImage p.composeImage = true ∧
      (readSettings straps p.composeImage).1 =
        { (readSettings straps p.pln.image).1 with
          key := p.sfe.key, proximity := p.sfe.proximity, reference := p.sfe.reference
          patterns := p.sgu.patterns, polarity := p.sgu.polarity, gain := p.sgu.gain
          rates := p.scu.rates, agree := p.scu.agree, drop := p.scu.drop
          capture := Vector.ofFn fun k => ((p.socket k).enable, (p.socket k).edge, (p.socket k).filter) }

/-- PLAN SAVE is answered BUSY while a save is in progress; otherwise DONE, and the image composed has the sections
in force (the profiles, the pattern table with selector 1, the rate table, capture and gain settings), the other
sections from the copy, 0 in every bit that R3 does not name, and its sum (R3, R13). That such a bit is 0 also inside
a section that R13 calls unchanged is the model's reading (assumption 11). The end of a PLAN SAVE in progress: a
matching read-back gives SAVED and the copy becomes the image composed; a failure gives WRITE_FAILED and leaves the
copy. Each raises its SENSE cause in all three ports (R13, R14). With no save in progress neither command changes
anything: the model's choice (assumption 32). -/
def Obligations.PlanSaveComposesAndEnds : Prop :=
  (∀ (tag : Byte) (s : State),
      Listening s.part .room →
      Settled s.part →
      s.part.pln.image.length = 512 →
      (s.part.pln.saving = true →
        Completes (.planSave .room tag) s fun t =>
          Answered t .room tag .busy [[]] ∧ SameBut [.requests .room] s.part t) ∧
      (s.part.pln.saving = false →
        Completes (.planSave .room tag) s fun t =>
          Answered t .room tag .done [[]] ∧ t.pln = { s.part.pln with saving := true, composed := t.pln.composed } ∧
          t.pln.composed.length = 512 ∧ t.pln.composed.take 2 = s.part.pln.image.take 2 ∧ byteAt t.pln.composed 2 = 1 ∧
          (t.pln.composed.drop 3).take 18 = (s.part.pln.image.drop 3).take 18 ∧
          (∀ i : SeatId, byteAt t.pln.composed (21 + 2 * i.val) = byteAt s.part.pln.image (21 + 2 * i.val) % 16 ∧
            byteAt t.pln.composed (22 + 2 * i.val) = byteAt s.part.pln.image (22 + 2 * i.val)) ∧
          (t.pln.composed.drop 61).take 5 = (s.part.pln.image.drop 61).take 5 ∧
          byteAt t.pln.composed 66 = byteAt s.part.pln.image 66 % 2 ∧
          (t.pln.composed.drop 67).take 39 =
            profileImage s.part.sfe.key ++ profileImage s.part.sfe.proximity ++ profileImage s.part.sfe.reference ∧
          (t.pln.composed.drop 106).take 14 = patternImage 1 s.part.sgu.patterns s.part.sgu.polarity ∧
          (∀ n : Fin 16, byteAt t.pln.composed (120 + 3 * n.val) = byteAt s.part.pln.image (120 + 3 * n.val) % 64 ∧
            byteAt t.pln.composed (121 + 3 * n.val) = byteAt s.part.pln.image (121 + 3 * n.val) ∧
            byteAt t.pln.composed (122 + 3 * n.val) = byteAt s.part.pln.image (122 + 3 * n.val)) ∧
          (t.pln.composed.drop 168).take 82 = sourcesImage s.part.scu ∧
          (t.pln.composed.drop 250).take 6 = gainBytes s.part.sgu.gain ∧
          (t.pln.composed.drop 256).take 19 = (s.part.pln.image.drop 256).take 19 ∧
          byteAt t.pln.composed 275 = byteAt s.part.pln.image 275 % 2 ∧
          (t.pln.composed.drop 276).take 234 = List.replicate 234 0 ∧
          halfAt t.pln.composed 510 = planSum (t.pln.composed.take 510) ∧
          SameBut [.requests .room, .plan] s.part t)) ∧
  (∀ (s : State),
      s.part.isHeld = false →
      Settled s.part →
      (s.part.pln.saving = true →
        Completes .saveReadBackMatch s (fun t =>
          t.pln = { s.part.pln with saving := false, result := .saved, image := s.part.pln.composed, composed := [] } ∧
          (∀ q, t.notices q = ((s.part.port q).flags ||| 4, (s.part.port q).causes ||| 32)) ∧
          SameBut [.plan, .notices] s.part t) ∧
        Completes .saveWriteFailure s (fun t =>
          t.pln = { s.part.pln with saving := false, result := .writeFailed, composed := [] } ∧
          (∀ q, t.notices q = ((s.part.port q).flags ||| 4, (s.part.port q).causes ||| 64)) ∧
          SameBut [.plan, .notices] s.part t)) ∧
      (s.part.pln.saving = false →
        Completes .saveReadBackMatch s (fun t => SameBut [] s.part t) ∧
        Completes .saveWriteFailure s (fun t => SameBut [] s.part t)))

/-! ### Sensing (chapter 2) -/

/-- A sensing frame in ACTIVE takes a seat's channel that is IDLE and whose new delta lies below the halt level
through stages 1 to 6: the raw and filtered counts, the levels from the long-term average at the start of the frame,
and the long-term average that follows (R21, R22, R23, R26). The state stays IDLE (R24). Stage 2 moves the filtered
count toward its goal by no more than the distance, and stops exactly when it is within 2^bc - 1 sixteenths of it
(R22). -/
def Obligations.SensingFrameOfIdleChannel : Prop :=
  (∀ (readings : List Nat) (first : List ChannelId) (timersFirst : Bool) (c : ChannelId) (s : State),
      (s.part.pln.stage = .running ∧ s.part.pwu.power = .active) →
      c.val ≠ 40 →
      ((s.part.channel c).state = .idle ∧ (s.part.channel c).firstWake = false ∧ (s.part.channel c).bandCount < 49) →
      deltaOf (s.part.profileOf (Part.kindOf c)).direction (s.part.channel c).lta
          (approach (s.part.channel c).filtered (16 * min (readings.getD c.val 0) 4095)
            (s.part.profileOf (Part.kindOf c)).countBeta) <
        (s.part.channel c).lta * (s.part.profileOf (Part.kindOf c)).threshold / 256 / 2 →
      Completes (.sensingFrame readings first timersFirst) s fun t =>
        (t.channel c).state = .idle ∧
        (t.channel c).raw = min (readings.getD c.val 0) 4095 ∧
        (t.channel c).saturated = decide (4095 < readings.getD c.val 0) ∧
        (t.channel c).filtered =
          approach (s.part.channel c).filtered (16 * min (readings.getD c.val 0) 4095)
            (s.part.profileOf (Part.kindOf c)).countBeta ∧
        (t.channel c).level = (s.part.channel c).lta * (s.part.profileOf (Part.kindOf c)).threshold / 256 ∧
        (t.channel c).haltLevel = (t.channel c).level / 2 ∧
        (t.channel c).release =
          (t.channel c).level - (t.channel c).level * (s.part.profileOf (Part.kindOf c)).hysteresis / 256 ∧
        (t.channel c).lta =
          followLta (s.part.channel c).lta (t.channel c).filtered (s.part.profileOf (Part.kindOf c)).activeBeta ∧
        (t.channel c).haltTimer = 0) ∧
  (∀ (f r bc : Nat),
      (min f (16 * r) ≤ approach f (16 * r) bc ∧ approach f (16 * r) bc ≤ max f (16 * r)) ∧
      (approach f (16 * r) bc = f ↔ distance f (16 * r) < 2 ^ bc))

/-- A sensing frame in ACTIVE takes a seat's running channel through stages 1 to 8: the counts, the delta and the
levels from the long-term average at the start of the frame, and the move between IDLE, ENTERING, ACTIVE and LEAVING
by the table of R24. In a frame that is not halted the long-term average follows and the halt timer is 0; in a halted
one the halt timer adds the frame period, and the long-term average moves by reference tracking alone (R20, R21, R22,
R23, R24, R26, R27, R28). A halted frame that takes the halt timer to the halt limit reseeds the channel: the
long-term average becomes the filtered count, the state IDLE and the counters 0, with *stuck channel* (R26, R28). The
band check counts a frame with threshold 0 in every state, and another frame when the channel is IDLE with its
long-term average out of band after stage 8; any other frame sets the band counter to 0. At 50 the retune starts
(R31, R35). -/
def Obligations.SensingFrameMovesChannel : Prop :=
  (∀ (readings : List Nat) (first : List ChannelId) (timersFirst : Bool) (c : ChannelId) (s : State),
      (s.part.pln.stage = .running ∧ s.part.pwu.power = .active) →
      c.val ≠ 40 →
      RunningChannel (s.part.channel c) →
      ((s.part.channel c).firstWake = false ∧ (s.part.channel c).pending = false ∧ (s.part.channel c).bandCount < 49) →
      ¬ ReachesHaltLimit s.part c s.part.sfe.frame →
      Completes (.sensingFrame readings first timersFirst) s fun t =>
        ((t.channel c).raw = frameCount readings c ∧ (t.channel c).saturated = decide (4095 < readings.getD c.val 0) ∧
          (t.channel c).filtered = nextFiltered s.part readings c ∧ (t.channel c).delta = nextDelta s.part readings c ∧
          (t.channel c).level = thresholdOf s.part c ∧ (t.channel c).release = releaseOf s.part c ∧
          (t.channel c).haltLevel = thresholdOf s.part c / 2) ∧
        ((s.part.channel c).state = .idle → ((t.channel c).state, (t.channel c).debounce) =
          if thresholdOf s.part c ≤ nextDelta s.part readings c then
            (if (profileFor s.part c).enter ≤ 1 then (.active, 0) else (.entering, 1))
          else (.idle, (s.part.channel c).debounce)) ∧
        ((s.part.channel c).state = .entering → ((t.channel c).state, (t.channel c).debounce) =
          if thresholdOf s.part c ≤ nextDelta s.part readings c then
            (if (profileFor s.part c).enter ≤ (s.part.channel c).debounce + 1 then (.active, 0)
            else (.entering, (s.part.channel c).debounce + 1))
          else (.idle, 0)) ∧
        ((s.part.channel c).state = .active → ((t.channel c).state, (t.channel c).debounce) =
          if nextDelta s.part readings c < releaseOf s.part c then
            (if (profileFor s.part c).exit ≤ 1 then (.idle, 0) else (.leaving, 1))
          else (.active, (s.part.channel c).debounce)) ∧
        ((s.part.channel c).state = .leaving → ((t.channel c).state, (t.channel c).debounce) =
          if nextDelta s.part readings c < releaseOf s.part c then
            (if (profileFor s.part c).exit ≤ (s.part.channel c).debounce + 1 then (.idle, 0)
            else (.leaving, (s.part.channel c).debounce + 1))
          else (.active, 0)) ∧
        ((t.channel c).state = .idle → nextDelta s.part readings c < thresholdOf s.part c / 2 →
          (t.channel c).haltTimer = 0 ∧
          (t.channel c).lta = followLta (s.part.channel c).lta (t.channel c).filtered (profileFor s.part c).activeBeta) ∧
        ((t.channel c).state ≠ .idle ∨ thresholdOf s.part c / 2 ≤ nextDelta s.part readings c →
          (t.channel c).haltTimer = min ((s.part.channel c).haltTimer + s.part.sfe.frame) 255000 ∧
          ((profileFor s.part c).tracking = 0 → (t.channel c).lta = (s.part.channel c).lta) ∧
          ((profileFor s.part c).tracking ≠ 0 →
            ((s.part.channel 40).state = .off ∨ (s.part.channel 40).state = .tuning ∨ (s.part.channel 40).state = .fault) →
            (t.channel c).lta = min (s.part.channel c).lta 65520) ∧
          ((profileFor s.part c).tracking ≠ 0 → (s.part.channel 40).state = .idle → (s.part.channel 40).bandCount < 49 →
            (t.channel c).lta = min
              (match (profileFor s.part c).sign with
                | .same => ((s.part.channel c).lta : Int) + Int.tdiv
                    (((t.channel 40).filtered - (s.part.channel 40).filtered : Int) * (profileFor s.part c).tracking) 64
                | .opposite => ((s.part.channel c).lta : Int) - Int.tdiv
                    (((t.channel 40).filtered - (s.part.channel 40).filtered : Int) * (profileFor s.part c).tracking) 64).toNat
              65520))) ∧
  (∀ (readings : List Nat) (first : List ChannelId) (timersFirst : Bool) (c : ChannelId) (s : State),
      (s.part.pln.stage = .running ∧ s.part.pwu.power = .active) →
      c.val ≠ 40 →
      RunningChannel (s.part.channel c) →
      ((s.part.channel c).firstWake = false ∧ (s.part.channel c).pending = false ∧ (s.part.channel c).bandCount < 49) →
      (ReachesHaltLimit s.part c s.part.sfe.frame ∧ (profileFor s.part c).haltLimit ≤ 255) →
      thresholdOf s.part c / 2 ≤ nextDelta s.part readings c →
      Completes (.sensingFrame readings first timersFirst) s fun t =>
        (t.channel c).state = .idle ∧ (t.channel c).filtered = nextFiltered s.part readings c ∧
        (t.channel c).lta = (t.channel c).filtered ∧ (t.channel c).debounce = 0 ∧ (t.channel c).haltTimer = 0 ∧
        (∀ q, (t.port q).flags &&& 4 ≠ 0 ∧ (t.port q).causes &&& 4 ≠ 0)) ∧
  (∀ (readings : List Nat) (first : List ChannelId) (timersFirst : Bool) (c : ChannelId) (s : State),
      (s.part.pln.stage = .running ∧ s.part.pwu.power = .active) →
      c.val ≠ 40 →
      RunningChannel (s.part.channel c) →
      ((s.part.channel c).firstWake = false ∧ (s.part.channel c).pending = false) →
      Completes (.sensingFrame readings first timersFirst) s fun t =>
        (thresholdOf s.part c = 0 →
          ((s.part.channel c).bandCount < 49 → (t.channel c).bandCount = (s.part.channel c).bandCount + 1) ∧
          (49 ≤ (s.part.channel c).bandCount →
            (t.channel c).state = .tuning ∧ (t.channel c).step = 0 ∧ (t.channel c).bandCount = 0)) ∧
        (thresholdOf s.part c ≠ 0 → (t.channel c).state = .idle →
          (t.channel c).bandCount =
            if InBand (profileFor s.part c) ((t.channel c).lta / 16) then 0 else (s.part.channel c).bandCount + 1) ∧
        (thresholdOf s.part c ≠ 0 →
          ((t.channel c).state = .entering ∨ (t.channel c).state = .active ∨ (t.channel c).state = .leaving) →
          (t.channel c).bandCount = 0) ∧
        (thresholdOf s.part c ≠ 0 → (s.part.channel c).state = .idle →
          nextDelta s.part readings c < thresholdOf s.part c / 2 →
          ¬ InBand (profileFor s.part c)
            (followLta (s.part.channel c).lta (nextFiltered s.part readings c) (profileFor s.part c).activeBeta / 16) →
          49 ≤ (s.part.channel c).bandCount →
          (t.channel c).state = .tuning ∧ (t.channel c).held = .inactive ∧ (t.channel c).step = 0 ∧
            (t.channel c).bandCount = 0))

/-- The reference channel's update: stages 1 and 2, the long-term average follows with the active beta or in STANDBY
the standby one, and the band check counts the frame or not. It has no levels and no state machine (R30, R35, R41).
That its band check has no condition on a threshold is the model's reading (assumption 20). Search step k of a
measured channel in TUNING tries the kept value plus 2 ^ (8 - k) and keeps it unless the raw count exceeds the
target; the best trial is the nearer to the target and on a tie the lower setting. The eighth step completes the
retune with the best trial: GOOD and IDLE with both counts at 16 times its raw count when that lies in band,
OUT_OF_BAND and FAULT when not (R32, R33). A measured channel in FAULT runs stages 1 and 2, and nothing else of it
changes (R39). In STANDBY no key channel is measured, and a proximity channel runs with the standby beta and a halt
timer that adds 200 ms (R20, R41), in the model's reading also in the frame inside which a report wakes the part
(assumption 34). The first WAKING frame of a key channel: in IDLE both counts take 16 times its raw count and the
counters are 0; with the pending mark, in IDLE or in FAULT, it starts its retune and takes the first search step
(R42). -/
def Obligations.SensingFrameOfOtherChannels : Prop :=
  (∀ (readings : List Nat) (first : List ChannelId) (timersFirst : Bool) (s : State),
      s.part.isHeld = false →
      ((s.part.channel 40).state = .idle ∧ (s.part.channel 40).bandCount < 49) →
      Completes (.sensingFrame readings first timersFirst) s fun t =>
        t.channel 40 = { s.part.channel 40 with
          raw := frameCount readings 40, saturated := decide (4095 < readings.getD 40 0)
          filtered := nextFiltered s.part readings 40
          lta := followLta (s.part.channel 40).lta (nextFiltered s.part readings 40)
            (if s.part.pwu.power = .standby then s.part.sfe.reference.standbyBeta else s.part.sfe.reference.activeBeta)
          bandCount := if InBand s.part.sfe.reference
              (followLta (s.part.channel 40).lta (nextFiltered s.part readings 40)
                (if s.part.pwu.power = .standby then s.part.sfe.reference.standbyBeta
                else s.part.sfe.reference.activeBeta) / 16) then 0 else (s.part.channel 40).bandCount + 1 }) ∧
  (∀ (readings : List Nat) (first : List ChannelId) (timersFirst : Bool) (c : ChannelId) (v : Nat) (b : Nat × Nat) (s : State),
      s.part.isHeld = false →
      ((s.part.channel c).state = .tuning ∧ (s.part.channel c).pending = false) →
      (s.part.pwu.power ≠ .standby ∨ Part.kindOf c ≠ .key) →
      v = (s.part.channel c).kept + 2 ^ (7 - (s.part.channel c).step) →
      b = bestTrialAfter s.part readings c v →
      Completes (.sensingFrame readings first timersFirst) s fun t =>
        ((s.part.channel c).step < 7 →
          (t.channel c).state = .tuning ∧ (t.channel c).step = (s.part.channel c).step + 1 ∧ (t.channel c).trial = v ∧
          (t.channel c).raw = frameCount readings c ∧ (t.channel c).best = some b ∧
          (t.channel c).kept =
            (if (profileFor s.part c).target < frameCount readings c then (s.part.channel c).kept else v) ∧
          (t.channel c).filtered = (s.part.channel c).filtered ∧ (t.channel c).lta = (s.part.channel c).lta ∧
          (t.channel c).held = (s.part.channel c).held) ∧
        ((s.part.channel c).step = 7 →
          (t.channel c).tune = b.1 ∧ (t.channel c).raw = b.2 ∧ (t.channel c).step = 0 ∧
          (InBand (profileFor s.part c) b.2 → (t.channel c).state = .idle ∧ (t.channel c).result = .good ∧
            (t.channel c).filtered = 16 * b.2 ∧ (t.channel c).lta = 16 * b.2) ∧
          (¬ InBand (profileFor s.part c) b.2 → (t.channel c).state = .fault ∧ (t.channel c).result = .outOfBand ∧
            (t.channel c).filtered = (s.part.channel c).filtered ∧ (t.channel c).lta = (s.part.channel c).lta ∧
            (∀ q, (t.port q).flags &&& 4 ≠ 0 ∧ (t.port q).causes &&& 8 ≠ 0)))) ∧
  (∀ (readings : List Nat) (first : List ChannelId) (timersFirst : Bool) (c : ChannelId) (s : State),
      s.part.isHeld = false →
      ((s.part.channel c).state = .fault ∧ (s.part.channel c).firstWake = false) →
      (s.part.pwu.power ≠ .standby ∨ Part.kindOf c ≠ .key) →
      Completes (.sensingFrame readings first timersFirst) s fun t =>
        t.channel c = { s.part.channel c with
          raw := frameCount readings c, saturated := decide (4095 < readings.getD c.val 0)
          filtered := nextFiltered s.part readings c }) ∧
  (∀ (readings : List Nat) (first : List ChannelId) (timersFirst : Bool) (i : SeatId) (s : State),
      (s.part.pln.stage = .running ∧ s.part.pwu.power = .standby) →
      Completes (.sensingFrame readings first timersFirst) s fun t =>
        ({ t.channel (Part.keyChannel i) with firstWake := false } =
          { s.part.channel (Part.keyChannel i) with firstWake := false }) ∧
        (∀ c, c = Part.proximityChannel i → (s.part.channel c).state = .idle →
          (s.part.channel c).firstWake = false → (s.part.channel c).pending = false →
          (s.part.channel c).bandCount < 49 → ¬ ReachesHaltLimit s.part c 200 →
          (nextDelta s.part readings c < thresholdOf s.part c / 2 →
            (t.channel c).state = .idle ∧ (t.channel c).haltTimer = 0 ∧
            (t.channel c).filtered = nextFiltered s.part readings c ∧
            (t.channel c).lta =
              followLta (s.part.channel c).lta (nextFiltered s.part readings c) (profileFor s.part c).standbyBeta) ∧
          (thresholdOf s.part c / 2 ≤ nextDelta s.part readings c →
            (t.channel c).haltTimer = min ((s.part.channel c).haltTimer + 200) 255000))) ∧
  (∀ (readings : List Nat) (first : List ChannelId) (timersFirst : Bool) (i : SeatId) (c : ChannelId) (s : State),
      (s.part.pln.stage = .running ∧ s.part.pwu.power = .waking) →
      c = Part.keyChannel i →
      (s.part.channel c).firstWake = true →
      Completes (.sensingFrame readings first timersFirst) s fun t =>
        ((s.part.channel c).state = .idle → (s.part.channel c).pending = false →
          t.channel c = { s.part.channel c with
            raw := frameCount readings c, saturated := decide (4095 < readings.getD c.val 0)
            filtered := 16 * frameCount readings c, lta := 16 * frameCount readings c
            debounce := 0, haltTimer := 0, bandCount := 0, firstWake := false }) ∧
        ((s.part.channel c).state = .idle ∨ (s.part.channel c).state = .fault → (s.part.channel c).pending = true →
          (t.channel c).state = .tuning ∧ (t.channel c).step = 1 ∧ (t.channel c).trial = 128 ∧
          (t.channel c).raw = frameCount readings c ∧ (t.channel c).best = some (128, frameCount readings c) ∧
          (t.channel c).kept = (if (profileFor s.part c).target < frameCount readings c then 0 else 128) ∧
          (t.channel c).pending = false ∧ (t.channel c).firstWake = false ∧
          (t.channel c).held = (if (s.part.channel c).state = .fault then .fault else .inactive)))

/-- The halt limit's reseed: the long-term average becomes the filtered count, the state IDLE and the counters 0,
with *stuck channel*; a channel with its pending mark set goes on into its retune (R28, R37). A limit that was
lowered to or below the halt timer, so that no halted frame has tested it yet, reseeds nothing before the next halted
frame (R19). That this command acts on the test of the last halted frame is the model's choice (assumption 7). At 50
frames out of band the automatic retune starts: the state TUNING with the outcome held, the counters and the pending
mark cleared. Nothing else changes (R32, R35). That the setting shown until the first search step is the one in force
is the model's choice (assumption 41). -/
def Obligations.ReseedAndBandCheck : Prop :=
  (∀ (c : ChannelId) (s : State),
      s.part.isHeld = false →
      Part.kindOf c ≠ .reference →
      ((s.part.channel c).state = .idle ∨ (s.part.channel c).state = .entering ∨ (s.part.channel c).state = .active ∨
        (s.part.channel c).state = .leaving) →
      ((s.part.profileOf (Part.kindOf c)).haltLimit ≠ 0 ∧
        (s.part.profileOf (Part.kindOf c)).haltLimit * 1000 ≤ (s.part.channel c).haltTimer) →
      ((s.part.channel c).haltTested ≠ (s.part.profileOf (Part.kindOf c)).haltLimit → Settled s.part →
        Completes (.haltLimitReseed c) s fun t => SameBut [] s.part t) ∧
      ((s.part.channel c).haltTested = (s.part.profileOf (Part.kindOf c)).haltLimit →
        Completes (.haltLimitReseed c) s fun t =>
          (t.channel c).lta = (s.part.channel c).filtered ∧ (t.channel c).debounce = 0 ∧ (t.channel c).haltTimer = 0 ∧
          (t.channel c).state = (if (s.part.channel c).pending then .tuning else .idle) ∧
          (t.channel c).pending = false ∧
          (∀ d, d ≠ c → t.channel d = s.part.channel d) ∧
          (∀ q, (t.port q).flags &&& 4 ≠ 0 ∧ (t.port q).causes &&& 4 ≠ 0))) ∧
  (∀ (c : ChannelId) (s : State),
      s.part.isHeld = false →
      Settled s.part →
      ((s.part.channel c).state ≠ .off ∧ (s.part.channel c).state ≠ .tuning ∧ (s.part.channel c).state ≠ .fault) →
      50 ≤ (s.part.channel c).bandCount →
      Completes (.bandCheckRetuneStart c) s fun t =>
        t.channel c = { s.part.channel c with
          state := .tuning
          held := if (s.part.channel c).state = .active ∨ (s.part.channel c).state = .leaving then .active else .inactive
          step := 0, debounce := 0, haltTimer := 0, bandCount := 0, pending := false
          kept := 0, trial := (s.part.channel c).tune, best := none } ∧
        (∀ d, d ≠ c → t.channel d = s.part.channel d) ∧
        SameBut [.sensing] s.part t)

/-- The completion of a retune at its eighth step with best trial (v, r): with r in band the channel goes IDLE and
GOOD with both counts at 16r, and otherwise FAULT and OUT_OF_BAND with *retune failed*. The setting is v (R33, R38).
The last stage-3 retune ends start-up: requests of every kind are taken and the power state is ACTIVE, with a POWER
notice when it was not (R11). -/
def Obligations.RetuneCompletes : Prop :=
  (∀ (c : ChannelId) (v r : Nat) (s : State),
      s.part.pln.stage = .running →
      ((s.part.channel c).state = .tuning ∧ 8 ≤ (s.part.channel c).step ∧ (s.part.channel c).pending = false) →
      (s.part.channel c).best = some (v, r) →
      Completes (.retuneCompletion c) s fun t =>
        (t.channel c).tune = v ∧ (t.channel c).raw = r ∧ (t.channel c).step = 0 ∧
        (distance r (s.part.profileOf (Part.kindOf c)).target ≤
            (s.part.profileOf (Part.kindOf c)).target * (s.part.profileOf (Part.kindOf c)).band / 256 →
          (t.channel c).state = .idle ∧ (t.channel c).result = .good ∧ (t.channel c).filtered = 16 * r ∧
          (t.channel c).lta = 16 * r) ∧
        ((s.part.profileOf (Part.kindOf c)).target * (s.part.profileOf (Part.kindOf c)).band / 256 <
            distance r (s.part.profileOf (Part.kindOf c)).target →
          (t.channel c).state = .fault ∧ (t.channel c).result = .outOfBand ∧
          (t.channel c).filtered = (s.part.channel c).filtered ∧
          (∀ q, (t.port q).flags &&& 4 ≠ 0 ∧ (t.port q).causes &&& 8 ≠ 0))) ∧
  (∀ (c : ChannelId) (s : State),
      s.part.pln.stage = .retuning →
      ((s.part.channel c).state = .tuning ∧ 8 ≤ (s.part.channel c).step ∧ (s.part.channel c).pending = false) →
      (∀ d, d ≠ c → (s.part.channel d).state ≠ .tuning) →
      Completes (.retuneCompletion c) s fun t =>
        t.pln.stage = .running ∧ t.pwu.power = .active ∧
        (s.part.pwu.power ≠ .active → ∀ q, (t.port q).flags &&& 256 ≠ 0))

/-! ### Presence and keys (chapter 3) -/

/-- What a proximity channel's report makes of its seat, in a frame in which no other channel reports: no change of
outcome leaves the presence; active makes a VACANT or AWAY seat OCCUPIED; inactive makes an OCCUPIED or UNKNOWN seat
AWAY, or VACANT with no grace; fault makes it UNKNOWN. A change brings the occupied count up to date and raises a
SEAT notice, and a seat that becomes VACANT leaves the queue (R25, R47, R51, R52, R88). A seat that becomes OCCUPIED
raises the occupied count, and the AWAITING session checks in when the count comes to its quorum: the check-in minute
is now, the state IN_SESSION with its end not near, and the floor opens. Below the quorum it stays AWAITING (R47,
R51, R52, R63, R166, R177). -/
def Obligations.ReportsReachSeats : Prop :=
  (∀ (readings : List Nat) (first : List ChannelId) (timersFirst : Bool) (i : SeatId) (c : ChannelId) (s : State),
      (s.part.pln.stage = .running ∧ s.part.pwu.power = .active) →
      (c = Part.proximityChannel i ∧ ∀ d : ChannelId, d ≠ c → d.val ≠ 40 → QuietChannel s.part readings d) →
      ¬ ReachesHaltLimit s.part c s.part.sfe.frame →
      (s.part.seat s.part.chairSeat).key = .up →
      Completes (.sensingFrame readings first timersFirst) s fun t =>
        (∀ j, j ≠ i → (t.seat j).presence = (s.part.seat j).presence ∧ (t.seat j).absence = (s.part.seat j).absence) ∧
        (Part.outcomeOf (t.channel c) = Part.outcomeOf (s.part.channel c) →
          (t.seat i).presence = (s.part.seat i).presence ∧ (t.seat i).absence = (s.part.seat i).absence) ∧
        (Part.outcomeOf (t.channel c) ≠ Part.outcomeOf (s.part.channel c) →
          (Part.outcomeOf (t.channel c) = .active →
            (s.part.seat i).presence = .vacant ∨ (s.part.seat i).presence = .away → (t.seat i).presence = .occupied) ∧
          (Part.outcomeOf (t.channel c) = .inactive →
            (s.part.seat i).presence = .occupied ∨ (s.part.seat i).presence = .unknown →
            (t.seat i).presence = (if s.part.smn.grace = 0 then .vacant else .away) ∧ (t.seat i).absence = 0) ∧
          (Part.outcomeOf (t.channel c) = .fault → (t.seat i).presence = .unknown) ∧
          ((s.part.seat i).presence = .away → (t.seat i).presence ≠ .away → (t.seat i).absence = 0)) ∧
        ((t.seat i).presence ≠ (s.part.seat i).presence →
          t.smn.occupied = t.occupiedSeats ∧ (∀ q, (t.port q).flags &&& 2 ≠ 0) ∧
          ((t.seat i).presence = .vacant → t.isQueued i = false))) ∧
  (∀ (readings : List Nat) (first : List ChannelId) (timersFirst : Bool) (i : SeatId) (c : ChannelId) (x : Session) (b : Booking)
      (s : State),
      (s.part.pln.stage = .running ∧ s.part.pwu.power = .active) →
      (c = Part.proximityChannel i ∧ ∀ d : ChannelId, d ≠ c → d.val ≠ 40 → QuietChannel s.part readings d) →
      EntersActive s.part readings c s.part.sfe.frame →
      (s.part.seat s.part.chairSeat).key = .up →
      ((s.part.seat i).presence = .vacant ∧ (s.part.seat i).installed = true ∧ s.part.smn.occupied = s.part.occupiedSeats) →
      (s.part.ssu.session = some x ∧ x.state = .awaiting ∧ x.copy = some b) →
      s.part.now + s.part.ssu.params.warning < x.effEnd →
      Completes (.sensingFrame readings first timersFirst) s fun t =>
        (t.seat i).presence = .occupied ∧ t.smn.occupied = s.part.smn.occupied + 1 ∧
        (b.quorum ≤ s.part.smn.occupied + 1 →
          t.ssu.session = some { x with
            state := .inSession, checkedIn := some s.part.sch.clock.minute, vacancy := 0
            peak := max x.peak (s.part.smn.occupied + 1) } ∧
          t.flc.isOpen = true ∧ (∀ q, (t.port q).flags &&& 32 ≠ 0)) ∧
        (s.part.smn.occupied + 1 < b.quorum →
          t.ssu.session = some { x with peak := max x.peak (s.part.smn.occupied + 1) } ∧
          t.flc.isOpen = s.part.flc.isOpen))

/-- A key channel that comes to ACTIVE in ACTIVE power, in a frame in which no other channel reports, takes the key
DOWN. With presence counted the press is accepted: at a delegate seat it is a delegate press, at the chair seat no
gesture yet. Otherwise it is a stray touch, which the floor is not told of (R46, R53, R54, R55, R56, R59, R71, R72).
A debounced release, in a frame in which no other channel reports, takes the key UP and clears its marks. A delegate
key's release does nothing more; an accepted chair key held less than 2000 ms gives a chair toggle, and one whose
chair next is taken, or that is not accepted, gives nothing (R53, R55, R56, R75). A key that is DOWN through a frame
adds the frame period to its press timer, up to 65535; the chair key's chair next is taken at the frame at which an
accepted hold first reaches 2000 ms, and no earlier (R55, R56). -/
def Obligations.KeysMakeGestures : Prop :=
  (∀ (readings : List Nat) (first : List ChannelId) (timersFirst : Bool) (i : SeatId) (c : ChannelId) (s : State),
      (s.part.pln.stage = .running ∧ s.part.pwu.power = .active) →
      (c = Part.keyChannel i ∧ ∀ d : ChannelId, d ≠ c → d.val ≠ 40 → QuietChannel s.part readings d) →
      EntersActive s.part readings c s.part.sfe.frame →
      ((s.part.seat i).key = .up ∧ (s.part.seat s.part.chairSeat).key = .up) →
      Settled s.part →
      Completes (.sensingFrame readings first timersFirst) s fun t =>
        (t.seat i).key = .down ∧ (t.seat i).press = 0 ∧ (t.seat i).nextTaken = false ∧
        (t.seat i).presence = (s.part.seat i).presence ∧
        (s.part.presentForKey i = false →
          (t.seat i).mark = .stray ∧
          (t.seat i).counters.stray =
            (if s.part.ssu.session = none then (s.part.seat i).counters.stray
            else min ((s.part.seat i).counters.stray + 1) 65535) ∧
          SameBut [.sensing, .seats, .notices] s.part t) ∧
        (s.part.presentForKey i = true → (t.seat i).mark = .accepted) ∧
        (s.part.presentForKey i = true → i = s.part.chairSeat → SameBut [.sensing, .seats, .notices] s.part t) ∧
        (s.part.presentForKey i = true → i ≠ s.part.chairSeat → s.part.flc.isOpen = false →
          t.sgu.refused.get i = 1000 ∧ SameBut [.sensing, .seats, .refused, .notices] s.part t) ∧
        (s.part.presentForKey i = true → i ≠ s.part.chairSeat → s.part.flc.isOpen = true → s.part.isQueued i = true →
          t.flc.queue = s.part.flc.queue.filter (fun e => e.seat ≠ i) ∧
          SameBut [.sensing, .seats, .queue, .notices] s.part t) ∧
        (∀ k, s.part.presentForKey i = true → i ≠ s.part.chairSeat → s.part.flc.isOpen = true → s.part.isQueued i = false →
          s.part.slotOf i = some k → Part.isOpenState (s.part.slot k).state = true →
          (t.slot k).state = .closing ∧ (t.slot k).reason = some .self ∧
          SameBut [.sensing, .seats, .slots, .openOrder, .screens, .speakers, .notices] s.part t) ∧
        (∀ k, s.part.presentForKey i = true → i ≠ s.part.chairSeat → s.part.flc.isOpen = true → s.part.flc.queue = [] →
          s.part.slotOf i = none → s.part.flc.mode ≠ .chair → s.part.available = some k →
          (t.slot k).state = .opening ∧ (t.slot k).holder = some i ∧ t.flc.openOrder = s.part.flc.openOrder ++ [k] ∧
          t.flc.queue = [] ∧
          SameBut [.sensing, .seats, .slots, .queue, .nextNumber, .openOrder, .notices] s.part t) ∧
        (s.part.presentForKey i = true → i ≠ s.part.chairSeat → s.part.flc.isOpen = true → s.part.isQueued i = false →
          s.part.slotOf i = none → s.part.flc.mode = .chair → s.part.flc.queue.length < 16 →
          t.flc.queue = Part.insertEntry
            ⟨i, (s.part.seat i).priority, false, s.part.flc.nextNumber, s.part.flc.seconds⟩ s.part.flc.queue ∧
          SameBut [.sensing, .seats, .queue, .nextNumber, .notices] s.part t)) ∧
  (∀ (readings : List Nat) (first : List ChannelId) (timersFirst : Bool) (i : SeatId) (c : ChannelId) (s : State),
      (s.part.pln.stage = .running ∧ s.part.pwu.power = .active) →
      (c = Part.keyChannel i ∧ ∀ d : ChannelId, d ≠ c → d.val ≠ 40 → QuietChannel s.part readings d) →
      LeavesActive s.part readings c s.part.sfe.frame →
      ((s.part.seat i).key = .down ∧ (i ≠ s.part.chairSeat → (s.part.seat s.part.chairSeat).key = .up)) →
      Settled s.part →
      Completes (.sensingFrame readings first timersFirst) s fun t =>
        (t.seat i).key = .up ∧ (t.seat i).press = 0 ∧ (t.seat i).mark = .none ∧ (t.seat i).nextTaken = false ∧
        (i ≠ s.part.chairSeat ∨ (s.part.seat i).nextTaken = true ∨ (s.part.seat i).mark ≠ .accepted →
          SameBut [.sensing, .seats, .notices] s.part t) ∧
        (i = s.part.chairSeat → (s.part.seat i).mark = .accepted → (s.part.seat i).nextTaken = false →
          (s.part.seat i).press + s.part.sfe.frame < 2000 →
          (s.part.flc.isOpen = false →
            t.sgu.refused.get i = 1000 ∧ SameBut [.sensing, .seats, .refused, .notices] s.part t) ∧
          (s.part.flc.isOpen = true → Part.isOpenState (s.part.slot 0).state = false →
            (t.slot 0).state = .opening ∧ (t.slot 0).holder = some i ∧
            SameBut [.sensing, .seats, .slots, .notices] s.part t) ∧
          (s.part.flc.isOpen = true → Part.isOpenState (s.part.slot 0).state = true →
            (t.slot 0).state = .closing ∧ (t.slot 0).reason = some .self ∧
            SameBut [.sensing, .seats, .slots, .openOrder, .screens, .speakers, .notices] s.part t))) ∧
  (∀ (readings : List Nat) (first : List ChannelId) (timersFirst : Bool) (i : SeatId) (s : State),
      (s.part.pln.stage = .running ∧ s.part.pwu.power = .active) →
      (∀ d : ChannelId, d.val ≠ 40 → QuietChannel s.part readings d) →
      ((s.part.seat i).key = .down ∧ (s.part.channel (Part.keyChannel i)).state ≠ .off) →
      Completes (.sensingFrame readings first timersFirst) s fun t =>
        (t.seat i).key = .down ∧ (t.seat i).mark = (s.part.seat i).mark ∧
        (t.seat i).press = min ((s.part.seat i).press + s.part.sfe.frame) 65535 ∧
        (t.seat i).nextTaken = ((s.part.seat i).nextTaken || (decide (i = s.part.chairSeat) &&
          decide ((s.part.seat i).mark = .accepted) && decide (2000 ≤ (s.part.seat i).press + s.part.sfe.frame))))

/-- An AWAY seat whose absence timer stands at the grace becomes VACANT and leaves the queue, and its open slot
closes, in a running session with reason ABSENT and nothing else to take it on; a SEAT notice is raised (R48, R52,
R88). A chair next is GRANT NEXT when that is answered DONE: the head of the queue is granted the lowest FREE slot.
Otherwise (where GRANT NEXT would be STATE or FULL) the chair seat shows REFUSED and the floor is left. Either way it
is taken once in a hold (R56, R76). -/
def Obligations.AbsenceGraceAndChairNext : Prop :=
  (∀ (i : SeatId) (s : State),
      s.part.isHeld = false →
      ((s.part.seat i).presence = .away ∧ s.part.smn.grace ≤ (s.part.seat i).absence) →
      Completes (.absenceGraceExpiry i) s fun t =>
        (t.seat i).presence = .vacant ∧ (t.seat i).absence = 0 ∧ t.isQueued i = false ∧
        t.smn.occupied = t.occupiedSeats ∧
        (∀ k, s.part.slotOf i = some k → Part.isOpenState (t.slot k).state = false) ∧
        (∀ k, s.part.slotOf i = some k → Part.isOpenState (s.part.slot k).state = true →
          (∃ x ∈ s.part.ssu.session, Part.runningState x.state = true) →
          (t.slot k).state = .closing ∧ (t.slot k).reason = some .absent ∧ (t.slot k).holder = (s.part.slot k).holder ∧
          k ∉ t.flc.openOrder) ∧
        (∀ j, j ≠ i → (t.seat j).presence = (s.part.seat j).presence ∧ (t.seat j).key = (s.part.seat j).key) ∧
        (∀ q, (t.port q).flags &&& 2 ≠ 0)) ∧
  (∀ (s : State),
      s.part.isHeld = false →
      Settled s.part →
      ((s.part.seat s.part.chairSeat).key = .down ∧ (s.part.seat s.part.chairSeat).mark = .accepted ∧
        (s.part.seat s.part.chairSeat).nextTaken = false ∧ 2000 ≤ (s.part.seat s.part.chairSeat).press) →
      ((s.part.flc.isOpen = false ∨ s.part.flc.queue = [] ∨
          (∃ e ∈ s.part.flc.queue.head?, s.part.isDelegate e.seat = false ∨ s.part.presentForKey e.seat = false ∨
            s.part.slotOf e.seat ≠ none) ∨ s.part.available = none) →
        Completes .chairNext s fun t =>
          t.sgu.refused.get t.chairSeat = 1000 ∧ t.chairSeat = s.part.chairSeat ∧
          t.seat t.chairSeat = { s.part.seat t.chairSeat with nextTaken := true } ∧
          (∀ i, i ≠ t.chairSeat → t.seat i = s.part.seat i ∧ t.sgu.refused.get i = s.part.sgu.refused.get i) ∧
          SameBut [.seats, .refused] s.part t) ∧
      (∀ k, ∀ e ∈ s.part.flc.queue.head?, s.part.flc.isOpen = true → s.part.available = some k →
        s.part.isDelegate e.seat = true → s.part.presentForKey e.seat = true → s.part.slotOf e.seat = none →
        Completes .chairNext s fun t =>
          (t.slot k).state = .opening ∧ (t.slot k).holder = some e.seat ∧ (t.slot k).elapsed = 0 ∧
          t.flc.queue = s.part.flc.queue.filter (fun x => x.seat ≠ e.seat) ∧
          t.flc.openOrder = s.part.flc.openOrder ++ [k] ∧ (t.seat t.chairSeat).nextTaken = true ∧
          SameBut [.seats, .slots, .queue, .openOrder, .notices] s.part t))

/-! ### Slots, gain and indication (chapter 5) -/

/-- One gain frame moves the gain of every slot by its step toward its target, counts the blink counter and the
refused timers, and leaves the floor's settings alone (R95, R104, R105). A slot's step up is the rise step and its
step down the fall step, or 1023 for a slot closed by MUTE ALL or by the floor close. At the end of a seat's refused
time the seat shows the state that R103 gives it, which is no longer REFUSED; nothing else changes. A settle that has
run out ends: the screen is STEADY, its blank line is released, and a ROUTE notice is raised (R133). -/
def Obligations.GainFrameMovesGains : Prop :=
  (∀ (first : List SlotId) (settlesLast : Bool) (s : State),
      s.part.isHeld = false →
      Completes (.gainFrame first settlesLast) s fun t =>
        (∀ k : SlotId, (t.slot k).gain =
          if (s.part.slot k).state = .free ∨ (s.part.slot k).gain = (s.part.slot k).target then (s.part.slot k).gain
          else if (s.part.slot k).gain < (s.part.slot k).target then
            min ((s.part.slot k).gain + s.part.sgu.gain.rise) (s.part.slot k).target
          else if (s.part.slot k).state = .closing ∧
              ((s.part.slot k).reason = some .mute ∨ (s.part.slot k).reason = some .floorClosed) then
            max ((s.part.slot k).gain - 1023) (s.part.slot k).target
          else max ((s.part.slot k).gain - s.part.sgu.gain.fall) (s.part.slot k).target) ∧
        t.sgu.blink = (if 999 ≤ s.part.sgu.blink then 0 else s.part.sgu.blink + 1) ∧
        (∀ i : SeatId, t.sgu.refused.get i = s.part.sgu.refused.get i - 1) ∧
        (t.sgu.gain = s.part.sgu.gain ∧ t.flc.preset = s.part.flc.preset ∧ t.flc.nextNumber = s.part.flc.nextNumber ∧
          t.sfe = s.part.sfe ∧ t.scu = s.part.scu ∧ t.pwu = s.part.pwu ∧ t.pln = s.part.pln ∧ t.line = s.part.line)) ∧
  (∀ (i : SeatId) (s : State),
      s.part.isHeld = false →
      Settled s.part →
      s.part.sgu.refused.get i = 0 →
      Completes (.refusedTimerExpiry i) s fun t =>
        t.sgu.indication.get i = s.part.indicationOf i ∧ t.sgu.indication.get i ≠ .refused ∧
        t.pins.indicators.get i = s.part.indicatorOf i ∧ SameBut [] s.part t) ∧
  (∀ (k : ScreenId) (s : State),
      s.part.isHeld = false →
      Settled s.part →
      ((s.part.screen k).settle = .settling ∧ (s.part.screen k).timer = 0) →
      Completes (.settleEnd k) s fun t =>
        t.screen k = { s.part.screen k with settle := .steady } ∧ t.pins.blank.get k = false ∧
        (∀ j, j ≠ k → t.screen j = s.part.screen j) ∧
        (∀ q, t.notices q = ((s.part.port q).flags ||| 16, (s.part.port q).causes)) ∧
        SameBut [.screens, .notices] s.part t)

/-- In a gain frame in which every CLOSING slot falls by the fall step and stays above its target, an OPENING slot
whose gain reaches its target becomes LIVE and its seat stands in the speaker order list; every other slot keeps its
state, and the gain bus carries every slot that is not FREE (R96, R101, R129). A CLOSING slot whose gain reaches 0
becomes FREE at that frame: its holder, reason and warned mark are cleared, and its seat stands among the released
pairs of that frame's message with gain 0. Stated for an empty queue, with no session or one that is not in WINDUP,
where nothing else follows and the session is left (R69, R97, R101). The WINDUP of a session completes at the gain
frame at which its last slot reaches FREE: the summary with the session's close reason is the newest of the store and
no session is open. Stated for an empty queue and with no start pending (R69, R97, R173, R174, R178). -/
def Obligations.SlotsOpenAndComeFree : Prop :=
  (∀ (first : List SlotId) (settlesLast : Bool) (s : State),
      s.part.isHeld = false →
      Settled s.part →
      (∀ k, (s.part.slot k).state = .closing →
        (s.part.slot k).reason ≠ some .mute ∧ (s.part.slot k).reason ≠ some .floorClosed ∧
          (s.part.slot k).target + s.part.sgu.gain.fall < (s.part.slot k).gain) →
      Completes (.gainFrame first settlesLast) s fun t =>
        (∀ k : SlotId, (t.slot k).state =
          if (s.part.slot k).state = .opening ∧ (t.slot k).gain = (s.part.slot k).target then .live
          else (s.part.slot k).state) ∧
        (∀ k : SlotId, ∀ i ∈ (s.part.slot k).holder, (s.part.slot k).state = .opening →
          (t.slot k).state = .live → i ∈ t.rtu.speakers) ∧
        (s.part.pwu.power ≠ .standby → t.sgu.released = [] ∧
          t.sgu.bus = some (s.part.sgu.released.map (fun i => (i, 0)) ++ Part.allSlots.filterMap fun k =>
            match (s.part.slot k).holder with
            | some i => if (s.part.slot k).state = .free then none else some (i, (t.slot k).gain)
            | none => none)) ∧
        SameBut [.slots, .blink, .refused, .released, .bus, .speakers, .screens, .notices] s.part t) ∧
  (∀ (first : List SlotId) (settlesLast : Bool) (k : SlotId) (i : SeatId) (s : State),
      s.part.isHeld = false →
      (s.part.flc.queue = [] ∧ (∀ x ∈ s.part.ssu.session, x.state ≠ .windup) ∧ s.part.ssu.params.dwell ≠ 0) →
      ((s.part.slot k).state = .closing ∧ (s.part.slot k).holder = some i) →
      ((s.part.slot k).target = 0 ∧ (s.part.slot k).gain ≤ s.part.sgu.gain.fall ∧ s.part.sgu.gain.fall ≤ 255) →
      Completes (.gainFrame first settlesLast) s fun t =>
        (t.slot k).state = .free ∧ (t.slot k).holder = none ∧ (t.slot k).gain = 0 ∧ (t.slot k).reason = none ∧
        (t.slot k).warned = .none ∧ t.ssu.session = s.part.ssu.session ∧
        (s.part.pwu.power ≠ .standby → ∃ l ∈ t.sgu.bus, (i, 0) ∈ l) ∧
        (s.part.pwu.power = .standby → i ∈ t.sgu.released)) ∧
  (∀ (first : List SlotId) (settlesLast : Bool) (k : SlotId) (x : Session) (r : CloseReason) (s : State),
      s.part.isHeld = false →
      (s.part.ssu.session = some x ∧ x.state = .windup ∧ x.reason = some r) →
      (s.part.flc.queue = [] ∧ s.part.ssu.pendingStart = none ∧ s.part.ssu.params.dwell ≠ 0) →
      ((s.part.slot k).state = .closing ∧ (s.part.slot k).target = 0 ∧ (s.part.slot k).gain ≤ s.part.sgu.gain.fall ∧
        s.part.sgu.gain.fall ≤ 255) →
      (∀ j, j ≠ k → (s.part.slot j).state = .free) →
      Completes (.gainFrame first settlesLast) s fun t =>
        t.allFree = true ∧ t.ssu.session = none ∧
        (∃ y ∈ t.ssu.store.getLast?, y.reason = r ∧ y.number = s.part.ssu.nextSummary ∧ y.booking = x.booking ∧
          y.closeDay = s.part.sch.clock.day ∧ y.closeMinute = s.part.sch.clock.minute ∧ y.peak = x.peak) ∧
        (∀ i, (t.seat i).counters = ⟨0, 0, 0, 0, 0, 0⟩) ∧ t.flc.mode = s.part.flc.preset.mode ∧
        (∀ q, (t.port q).flags &&& 0xA0 = 0xA0))

/-! ### Sources (chapter 6) -/

/-- An edge taken before the counter is full acts by the phase (R113, R114): the first active edge clears the
counter; an inactive edge takes the width. An edge that the filter or the alternation takes away only lets the ticks
pass; the first of a capture takes its partner with it, and the next edge taken is of its own kind: the model's
reading (assumption 13), as is that an edge which ends the second of two short levels in a row is taken (assumption
61). -/
def Obligations.EdgeMovesPhase : Prop :=
  ∀ (k : SocketId) (e : Edge) (ticks levelHeld : Nat) (overflowFirst : Bool) (s : State),
    s.part.isHeld = false →
    Settled s.part →
    s.part.capturing k = true →
    (s.part.socket k).counter + ticks < 65535 →
    ((levelHeld < (s.part.socket k).filter ∨ (s.part.socket k).lastEdge = some e) →
      Completes (.edgeTaken k e ticks levelHeld overflowFirst) s fun t =>
        t.socket k = { s.part.socket k with
          counter := (s.part.socket k).counter + ticks
          lastEdge := some ((s.part.socket k).lastEdge.getD (if e = .rising then .falling else .rising)) } ∧
        SameBut [.sockets] s.part t) ∧
    ((s.part.socket k).filter ≤ levelHeld → (s.part.socket k).lastEdge ≠ some e →
      ((s.part.socket k).phase = .waitFirst → e = (s.part.socket k).edge →
        Completes (.edgeTaken k e ticks levelHeld overflowFirst) s fun t =>
          t.socket k = { s.part.socket k with counter := 0, phase := .waitInactive, lastEdge := some e } ∧
          SameBut [.sockets] s.part t) ∧
      ((s.part.socket k).phase = .waitInactive → e ≠ (s.part.socket k).edge →
        Completes (.edgeTaken k e ticks levelHeld overflowFirst) s fun t =>
          t.socket k = { s.part.socket k with
            counter := (s.part.socket k).counter + ticks, width := (s.part.socket k).counter + ticks
            phase := .waitActive, lastEdge := some e } ∧
          SameBut [.sockets] s.part t))

/-- The active edge that ends a period completes a measurement: the period is the counter, and the socket's class
counts by the lowest-numbered rate table entry that matches, or is UNSUPPORTED. A socket in NONE goes to SEEKING with
agree counter 1; one in SEEKING that meets its class again for the K-th time goes LIVE (R114, R116, R119). Which
edges are taken after short levels is the model's reading (assumptions 13 and 61). An overflow starts the capture
again from WAIT_FIRST; a SEEKING socket goes NONE, a LIVE one to DROPPING until the drop count is reached. A socket
that went NONE is not routable (R115, R119, R128). -/
def Obligations.EdgesMeasureAndOverflowsDrop : Prop :=
  (∀ (k : SocketId) (ticks levelHeld : Nat) (overflowFirst : Bool) (s : State),
      s.part.isHeld = false →
      s.part.capturing k = true →
      ((s.part.socket k).counter + ticks < 65535 ∧ (s.part.socket k).filter ≤ levelHeld ∧
        (s.part.socket k).lastEdge ≠ some (s.part.socket k).edge) →
      (s.part.socket k).phase = .waitActive →
      Completes (.edgeTaken k (s.part.socket k).edge ticks levelHeld overflowFirst) s fun t =>
        (t.socket k).period = (s.part.socket k).counter + ticks ∧ (t.socket k).counter = 0 ∧
        (t.socket k).phase = .waitInactive ∧ (t.socket k).width = (s.part.socket k).width ∧
        ((t.socket k).entry = 0 ↔ ∀ i : Fin 8,
          matchesRate (s.part.scu.rates.get i) (s.part.socket k).width (t.socket k).period = false) ∧
        (∀ i : Fin 8, (t.socket k).entry = i.val + 1 →
          matchesRate (s.part.scu.rates.get i) (s.part.socket k).width (t.socket k).period = true ∧
          (t.socket k).cls = .id (s.part.scu.rates.get i).cls ∧
          ∀ j : Fin 8, j < i → matchesRate (s.part.scu.rates.get j) (s.part.socket k).width (t.socket k).period = false) ∧
        ((t.socket k).entry = 0 → (t.socket k).cls = .unsupported) ∧
        ((s.part.socket k).state = .none → 1 < s.part.scu.agree →
          (t.socket k).state = .seeking ∧ (t.socket k).agree = 1) ∧
        ((s.part.socket k).state = .seeking → (t.socket k).cls = (s.part.socket k).cls →
          s.part.scu.agree ≤ (s.part.socket k).agree + 1 → (t.socket k).state = .live) ∧
        ((s.part.socket k).state = .live → (t.socket k).cls = (s.part.socket k).cls → (t.socket k).state = .live)) ∧
  (∀ (k : SocketId) (s : State),
      s.part.isHeld = false →
      s.part.capturing k = true →
      Completes (.captureOverflow k) s fun t =>
        (t.socket k).counter = 0 ∧ (t.socket k).phase = .waitFirst ∧
        (t.socket k).state =
          (match (s.part.socket k).state with
            | .none => .none
            | .seeking => .none
            | .live => if s.part.scu.drop ≤ 1 then .none else .dropping
            | .dropping => if s.part.scu.drop ≤ (s.part.socket k).drop + 1 then .none else .dropping) ∧
        ((s.part.socket k).state ≠ .none → (t.socket k).state = .none →
          t.isRoutable (Part.socketInput k) = false ∧ (∀ q, (t.port q).flags &&& 8 ≠ 0)) ∧
        (∀ j, j ≠ k → t.socket j = s.part.socket j))

/-! ### Clock, banks and sessions (chapters 8 and 9) -/

/-- The second event moves the clock one second on, through minute, day and the wrap of the day number, and the floor
second counter with it (R62, R142). An OPENING or LIVE slot that the second does not close adds a second of speaking
time, up to 65535 (R86). At a second event each AWAY seat adds 1 to its absence timer, and at the absence grace it
becomes VACANT with the timer 0; no other seat's presence or timer moves (R48). The next clauses are of a second that
is not a minute event and at which no absence grace ends. In a session that does not end by its vacancy there, each
OCCUPIED or AWAY seat adds an occupied second and the holder of an open slot a speaking second, and nothing else of a
seat's counters moves; each open delegate slot takes the warned mark of its elapsed seconds, OVER closes it with
reason TIME when enforce is on, and the chair slot's mark stays (R59, R69, R86, R87). The vacancy timer adds 1, up to
3600, while the session runs and the occupied count is 0, and stands still otherwise; at the vacancy timeout the
session goes to WINDUP with reason VACATED, and with every slot FREE it closes (R163, R168, R173). The walk-in dwell
timer adds 1 while its conditions hold, up to the walk-in dwell, where the walk-in test opens a session or leaves the
timer there, and is 0 while they do not hold (R163, R170). The quiet timer adds 1, up to the standby delay × 60,
while the occupied count is 0 and no socket is live; below it the power state stands, and at it, in ACTIVE, with no
session, no pending start and no near booking the part enters STANDBY (R199). -/
def Obligations.SecondEventCounts : Prop :=
  (∀ (first : List ClockUser) (s : State),
      s.part.isHeld = false →
      Completes (.secondEvent first) s fun t =>
        t.sch.clock.valid = s.part.sch.clock.valid ∧
        t.sch.clock.second = (if 59 ≤ s.part.sch.clock.second then 0 else s.part.sch.clock.second + 1) ∧
        t.sch.clock.minute =
          (if s.part.sch.clock.second < 59 then s.part.sch.clock.minute
          else if 1439 ≤ s.part.sch.clock.minute then 0 else s.part.sch.clock.minute + 1) ∧
        t.sch.clock.day =
          (if 59 ≤ s.part.sch.clock.second ∧ 1439 ≤ s.part.sch.clock.minute then (s.part.sch.clock.day + 1) % 65536
          else s.part.sch.clock.day) ∧
        t.flc.seconds = s.part.flc.seconds + 1 ∧
        (∀ k : SlotId, (t.slot k).state = (s.part.slot k).state → (t.slot k).elapsed =
          if Part.isOpenState (s.part.slot k).state then min ((s.part.slot k).elapsed + 1) 65535
          else (s.part.slot k).elapsed)) ∧
  (∀ (first : List ClockUser) (s : State),
      s.part.isHeld = false →
      Completes (.secondEvent first) s fun t =>
        (∀ i, (s.part.seat i).presence = .away →
          if (s.part.seat i).absence + 1 < s.part.smn.grace then
            (t.seat i).presence = .away ∧ (t.seat i).absence = (s.part.seat i).absence + 1
          else (t.seat i).presence = .vacant ∧ (t.seat i).absence = 0) ∧
        (∀ i, (s.part.seat i).presence ≠ .away →
          (t.seat i).presence = (s.part.seat i).presence ∧ (t.seat i).absence = (s.part.seat i).absence)) ∧
  (∀ (first : List ClockUser) (x : Session) (lead : Nat) (s : State),
      (s.part.isHeld = false ∧ s.part.sch.clock.second < 59) →
      (s.part.ssu.session = some x ∧ (Part.runningState x.state = false ∨ s.part.smn.occupied ≠ 0 ∨
        s.part.ssu.params.vacancy = 0 ∨ x.vacancy + 1 < s.part.ssu.params.vacancy * 60)) →
      (∀ i, (s.part.seat i).presence = .away → (s.part.seat i).absence + 1 < s.part.smn.grace) →
      lead = min s.part.flc.lead (s.part.flc.speak / 2) →
      Completes (.secondEvent first) s fun t =>
        (∀ i, (t.seat i).counters = { (s.part.seat i).counters with
          occupied := (if (s.part.seat i).presence = .occupied ∨ (s.part.seat i).presence = .away then
            min ((s.part.seat i).counters.occupied + 1) 16777215 else (s.part.seat i).counters.occupied)
          speaking := (t.seat i).counters.speaking }) ∧
        (∀ i, (∀ k, Part.isOpenState (s.part.slot k).state = true → (s.part.slot k).holder ≠ some i) →
          (t.seat i).counters.speaking = (s.part.seat i).counters.speaking) ∧
        (∀ i k, Part.isOpenState (s.part.slot k).state = true → (s.part.slot k).holder = some i →
          (∀ j, j ≠ k → Part.isOpenState (s.part.slot j).state = true → (s.part.slot j).holder ≠ some i) →
          (t.seat i).counters.speaking = min ((s.part.seat i).counters.speaking + 1) 16777215) ∧
        (∀ k, k ≠ 0 → Part.isOpenState (s.part.slot k).state = true →
          (t.slot k).elapsed = min ((s.part.slot k).elapsed + 1) 65535 ∧
          (t.slot k).warned = (if s.part.flc.speak = 0 then .none
            else if s.part.flc.speak ≤ (t.slot k).elapsed then .over
            else if s.part.flc.speak ≤ (t.slot k).elapsed + lead then .warn else .none) ∧
          if s.part.flc.speak ≠ 0 ∧ s.part.flc.speak ≤ (t.slot k).elapsed ∧ s.part.flc.enforce = true then
            (t.slot k).state = .closing ∧ (t.slot k).reason = some .time ∧ k ∉ t.flc.openOrder
          else (t.slot k).state = (s.part.slot k).state) ∧
        (t.slot 0).warned = (s.part.slot 0).warned ∧ (t.slot 0).state = (s.part.slot 0).state) ∧
  (∀ (first : List ClockUser) (x : Session) (v : Nat) (s : State),
      (s.part.isHeld = false ∧ s.part.sch.clock.second < 59) →
      s.part.ssu.session = some x →
      (∀ i, (s.part.seat i).presence = .away → (s.part.seat i).absence + 1 < s.part.smn.grace) →
      (s.part.ssu.pendingStart = none ∧ s.part.ssu.params.dwell ≠ 0) →
      v = min (x.vacancy + 1) 3600 →
      Completes (.secondEvent first) s fun t =>
        (Part.runningState x.state = false ∨ s.part.smn.occupied ≠ 0 → t.ssu.session = some x) ∧
        (Part.runningState x.state = true → s.part.smn.occupied = 0 →
          (s.part.ssu.params.vacancy = 0 ∨ v < s.part.ssu.params.vacancy * 60) →
          t.ssu.session = some { x with vacancy := v }) ∧
        (Part.runningState x.state = true → s.part.smn.occupied = 0 →
          s.part.ssu.params.vacancy ≠ 0 → s.part.ssu.params.vacancy * 60 ≤ v →
          t.flc.isOpen = false ∧ t.flc.queue = [] ∧
          (s.part.allFree = false →
            t.ssu.session = some { x with vacancy := v, state := .windup, reason := some .vacated }) ∧
          (s.part.allFree = true → t.ssu.session = none ∧
            ∃ y ∈ t.ssu.store.getLast?, y.reason = .vacated ∧ y.number = s.part.ssu.nextSummary))) ∧
  (∀ (first : List ClockUser) (s : State),
      (s.part.isHeld = false ∧ s.part.sch.clock.second < 59) →
      s.part.ssu.session = none →
      (∀ i, (s.part.seat i).presence = .away → (s.part.seat i).absence + 1 < s.part.smn.grace) →
      s.part.pwu.quiet < s.part.pwu.delay * 60 →
      Completes (.secondEvent first) s fun t =>
        ((s.part.ssu.pendingStart ≠ none ∨ s.part.ssu.params.quorum = 0 ∨ s.part.smn.occupied < s.part.ssu.params.quorum) →
          t.ssu.dwell = 0 ∧ t.ssu.session = none) ∧
        (s.part.ssu.pendingStart = none → s.part.ssu.params.quorum ≠ 0 → s.part.ssu.params.quorum ≤ s.part.smn.occupied →
          (s.part.ssu.params.dwell ≤ s.part.ssu.dwell → t.ssu.dwell = s.part.ssu.dwell ∧ t.ssu.session = none) ∧
          (s.part.ssu.dwell + 1 < s.part.ssu.params.dwell →
            t.ssu.dwell = s.part.ssu.dwell + 1 ∧ t.ssu.session = none) ∧
          (s.part.ssu.dwell + 1 = s.part.ssu.params.dwell →
            ((s.part.nextStart = 1440 ∨ (s.part.sch.clock.minute < s.part.nextStart ∧
                s.part.sch.clock.minute + s.part.ssu.params.minFree ≤ s.part.nextStart)) ∧ s.part.pwu.power = .active →
              s.part.ssu.params.warning < s.part.ssu.params.length →
              s.part.sch.clock.minute + s.part.ssu.params.length ≤ s.part.nextStart →
              t.ssu.dwell = 0 ∧ ∃ y ∈ t.ssu.session, y.kind = .walkIn ∧ y.state = .inSession) ∧
            ((s.part.nextStart ≠ 1440 ∧ (s.part.nextStart ≤ s.part.sch.clock.minute ∨
                s.part.nextStart < s.part.sch.clock.minute + s.part.ssu.params.minFree)) ∨ s.part.pwu.power ≠ .active →
              t.ssu.dwell = s.part.ssu.dwell + 1 ∧ t.ssu.session = none)))) ∧
  (∀ (first : List ClockUser) (s : State),
      (s.part.isHeld = false ∧ s.part.sch.clock.second < 59) →
      (∀ i, (s.part.seat i).presence = .away → (s.part.seat i).absence + 1 < s.part.smn.grace) →
      Completes (.secondEvent first) s fun t =>
        t.pwu.quiet = (if s.part.smn.occupied = 0 ∧ s.part.anySocketLive = false then
          min (s.part.pwu.quiet + 1) (s.part.pwu.delay * 60) else s.part.pwu.quiet) ∧
        (s.part.pwu.quiet + 1 < s.part.pwu.delay * 60 → t.pwu.power = s.part.pwu.power) ∧
        (s.part.smn.occupied = 0 → s.part.anySocketLive = false → s.part.pwu.power = .active →
          s.part.pwu.delay * 60 ≤ s.part.pwu.quiet + 1 → s.part.ssu.session = none →
          (s.part.ssu.pendingStart = none ∧
              (s.part.nextStart = 1440 ∨ s.part.sch.clock.minute + s.part.pwu.lead < s.part.nextStart) →
            t.pwu.power = .standby ∧ t.rtu.override = true) ∧
          (s.part.ssu.pendingStart ≠ none ∨
              (s.part.nextStart ≠ 1440 ∧ s.part.nextStart ≤ s.part.sch.clock.minute + s.part.pwu.lead) →
            t.pwu.power = .active)))

/-- At a minute event with no session open, the entry of the current bank whose start is reached and whose end is not
opens: booked, with the entry's copy, its effective end, its floor preset and its screen preset, and the entry
ACTIVE. Without check-in the session is IN_SESSION with its end not near; with it AWAITING, or checked in at once at
its quorum (R63, R64, R136, R148, R163, R164, R165, R166). Stated with no seat AWAY, no walk-in ready and no swap at
this event. At a minute event a running session takes the stage test: ENDING within the warning minutes of its
effective end, OVERTIME from the end to the grace end, which is the next start when that is earlier, and IN_SESSION
before; at the grace end it goes to WINDUP with reason END, or with every slot FREE it closes at once (R149, R162,
R163, R173, R174). Stated with no entry due, no vacancy and no swap at this event. A minute event adds a minute to
the await timer of an AWAITING session, and releases the session when its window or its effective end is reached: no
session is open, and the newest summary has reason RELEASED (R163, R166, R174). Stated with no entry due, no seat
AWAY and no swap at this event. That this count alone says at which minute event the session is released, also for a
session opened between two minute events, of which R166 says besides that it has up to one minute more, is the
model's reading (assumption 55). -/
def Obligations.MinuteEventsDriveSessions : Prop :=
  (∀ (first : List ClockUser) (e : Entry) (m : Nat) (s : State),
      (s.part.pln.stage = .running ∧ s.part.pwu.power = .active) →
      (s.part.sch.clock.second = 59 ∧ s.part.sch.clock.minute < 1439 ∧ s.part.sch.clock.valid = true ∧
        m = s.part.sch.clock.minute + 1) →
      (s.part.published.state = .published ∧ s.part.published.day = s.part.sch.clock.day) →
      s.part.published.entries.find? (fun x => x.status = .pending ∧ x.booking.start ≤ m ∧ m < x.booking.stop) = some e →
      (s.part.ssu.session = none ∧ s.part.ssu.pendingStart = none ∧ s.part.walkInReady = false ∧
        ∀ i, (s.part.seat i).presence ≠ .away) →
      m + s.part.ssu.params.warning < e.booking.stop →
      Completes (.secondEvent first) s fun t =>
        t.ssu.pendingStart = none ∧ t.ssu.dwell = 0 ∧
        (∃ x ∈ t.ssu.session, x.kind = .booked ∧ x.booking = some e.booking.id ∧ x.copy = some e.booking ∧
          x.openDay = s.part.sch.clock.day ∧ x.openMinute = m ∧
          x.effEnd = s.part.sch.clock.day * 1440 + e.booking.stop ∧ x.unlisted = false ∧ x.peak = s.part.smn.occupied ∧
          x.await = 0 ∧ x.reason = none ∧
          (e.booking.checkIn = false → x.state = .inSession ∧ x.checkedIn = none) ∧
          (e.booking.checkIn = true → e.booking.quorum ≤ s.part.smn.occupied →
            x.state = .inSession ∧ x.checkedIn = some m) ∧
          (e.booking.checkIn = true → s.part.smn.occupied < e.booking.quorum → x.state = .awaiting ∧ x.checkedIn = none) ∧
          (x.state = .inSession → t.flc.isOpen = true)) ∧
        (∃ y ∈ t.published.entries, y.booking = e.booking ∧ y.status = .active) ∧
        t.flc.mode = e.booking.floor.mode ∧ t.flc.limit = max 1 (min 6 e.booking.floor.limit) ∧
        t.flc.speak = e.booking.floor.speak ∧ t.flc.enforce = e.booking.floor.enforce ∧
        (∀ k, (t.screen k).set = (s.part.rtu.presets.get e.booking.screen).get k) ∧
        (∀ q, (t.port q).flags &&& 0x60 = 0x60)) ∧
  (∀ (first : List ClockUser) (x : Session) (p : Part) (graceEnd : Nat) (s : State),
      s.part.isHeld = false →
      (s.part.sch.clock.second = 59 ∧ s.part.staging.state ≠ .ready ∧ p = s.part.setClock (Part.tick s.part.sch.clock)) →
      (s.part.ssu.session = some x ∧ Part.runningState x.state = true) →
      Settled s.part →
      (p.dueEntry = none ∧ s.part.ssu.pendingStart = none ∧ s.part.ssu.params.dwell ≠ 0) →
      ((s.part.ssu.params.vacancy = 0 ∨ s.part.smn.occupied ≠ 0) ∧ ∀ i, (s.part.seat i).presence ≠ .away) →
      graceEnd = (if p.nextStart < 1440 then
        min (x.effEnd + s.part.ssu.params.overtime) (p.sch.clock.day * 1440 + p.nextStart)
        else x.effEnd + s.part.ssu.params.overtime) →
      Completes (.secondEvent first) s fun t =>
        (p.now + s.part.ssu.params.warning < x.effEnd → ∃ y ∈ t.ssu.session, y.state = .inSession) ∧
        (p.now < x.effEnd → x.effEnd ≤ p.now + s.part.ssu.params.warning →
          ∃ y ∈ t.ssu.session, y.state = .ending) ∧
        (x.effEnd ≤ p.now → p.now < graceEnd → ∃ y ∈ t.ssu.session, y.state = .overtime) ∧
        ((p.now < x.effEnd ∨ p.now < graceEnd) → t.flc.isOpen = s.part.flc.isOpen) ∧
        (x.effEnd ≤ p.now → graceEnd ≤ p.now →
          t.flc.isOpen = false ∧ t.flc.queue = [] ∧
          (s.part.allFree = false → ∃ y ∈ t.ssu.session, y.state = .windup ∧ y.reason = some .ended ∧
            (∀ k, (s.part.slot k).state ≠ .free → (t.slot k).state = .closing ∧ (t.slot k).reason = some .floorClosed)) ∧
          (s.part.allFree = true → t.ssu.session = none ∧
            ∃ y ∈ t.ssu.store.getLast?, y.reason = .ended ∧ y.number = s.part.ssu.nextSummary))) ∧
  (∀ (first : List ClockUser) (x : Session) (b : Booking) (w : Nat) (p : Part) (s : State),
      s.part.isHeld = false →
      (s.part.sch.clock.second = 59 ∧ s.part.staging.state ≠ .ready ∧ p = s.part.setClock (Part.tick s.part.sch.clock)) →
      (s.part.ssu.session = some x ∧ x.state = .awaiting ∧ x.copy = some b ∧ b.window = some w) →
      Settled s.part →
      (p.dueEntry = none ∧ s.part.ssu.pendingStart = none ∧ s.part.ssu.params.dwell ≠ 0) →
      (∀ i, (s.part.seat i).presence ≠ .away) →
      Completes (.secondEvent first) s fun t =>
        (p.now < x.effEnd → min (x.await + 1) 30 < w →
          t.ssu.session = some { x with await := min (x.await + 1) 30 }) ∧
        (x.effEnd ≤ p.now ∨ w ≤ min (x.await + 1) 30 →
          t.ssu.session = none ∧
          ∃ y ∈ t.ssu.store.getLast?, y.reason = .released ∧ y.number = s.part.ssu.nextSummary ∧
            y.booking = x.booking))

/-- At a minute event with no swap, the entries of the published bank keep their bookings, and those that were
PENDING and whose end the clock has reached become MISSED, these alone (R144, R145, R148). The midnight turnover
swaps in a READY staging bank for the new day, with the clock valid; otherwise the banks keep their roles. One
SCHEDULE notice covers it (R145, R150, R156). -/
def Obligations.MinuteEventsTurnTheBanks : Prop :=
  (∀ (first : List ClockUser) (p : Part) (s : State),
      s.part.isHeld = false →
      (s.part.sch.clock.second = 59 ∧ s.part.staging.state ≠ .ready ∧ p = s.part.setClock (Part.tick s.part.sch.clock)) →
      s.part.published.state = .published →
      Completes (.secondEvent first) s fun t =>
        t.publishedIsA = s.part.publishedIsA ∧ t.published.entries.length = s.part.published.entries.length ∧
        ∀ n : Fin s.part.published.entries.length, ∃ y ∈ t.published.entries[n.val]?,
          y.booking = s.part.published.entries[n].booking ∧
          (y.status = .missed ↔ s.part.published.entries[n].status = .missed ∨
            (s.part.published.entries[n].status = .pending ∧
              s.part.published.day * 1440 + s.part.published.entries[n].booking.stop ≤ p.now))) ∧
  (∀ (first : List ClockUser) (s : State),
      s.part.isHeld = false →
      s.part.sch.bankA.role ≠ s.part.sch.bankB.role →
      (59 ≤ s.part.sch.clock.second ∧ 1439 ≤ s.part.sch.clock.minute) →
      Completes (.secondEvent first) s fun t =>
        (∀ q, (t.port q).flags &&& 64 ≠ 0) ∧
        (s.part.staging.state = .ready → s.part.sch.clock.valid = true →
          s.part.staging.day = (s.part.sch.clock.day + 1) % 65536 →
          t.publishedIsA = (!s.part.publishedIsA) ∧ t.published.state = .published ∧
          t.published.day = s.part.staging.day ∧
          t.published.entries.map (fun e => e.booking) = s.part.staging.entries.map (fun e => e.booking) ∧
          t.staging.state = .empty ∧ t.staging.entries = []) ∧
        (s.part.staging.state ≠ .ready ∨ s.part.sch.clock.valid = false ∨
            s.part.staging.day ≠ (s.part.sch.clock.day + 1) % 65536 →
          t.publishedIsA = s.part.publishedIsA ∧ t.staging = s.part.staging ∧ t.published.day = s.part.published.day))

/-- The check of a CHECKING staging bank sorts it by start and ends it FAULTY with OVERLAP, or READY for a day to
come; the published bank and the session are left (R155). The order that the check gives the entries: by start, with
entries of equal start in order of arrival, and the same entries (R155). When the check finds a bank to overlap: two
entries have the same start or the same booking id, or in the sorted order an entry's end is later than the next
entry's start (R155). The check of a CHECKING staging bank that does not overlap, with the clock valid and the bank's
day come, swaps it in at the completion: sorted, with the old bank emptied for staging, one SCHEDULE notice, and with
no session every entry whose end has been reached MISSED (R150, R155, R156). -/
def Obligations.CheckCompletes : Prop :=
  (∀ (s : State),
      s.part.isHeld = false →
      Settled s.part →
      s.part.sch.bankA.role ≠ s.part.sch.bankB.role →
      s.part.staging.state = .checking →
      (Part.bankOverlaps (Part.sortEntries s.part.staging.entries) = true →
        Completes .checkCompletion s fun t =>
          t.staging = { s.part.staging with
            entries := Part.sortEntries s.part.staging.entries, state := .faulty, cause := .overlap } ∧
          t.published = s.part.published ∧ (∀ q, (t.port q).flags &&& 64 ≠ 0 ∧ (t.port q).causes &&& 128 ≠ 0) ∧
          SameBut [.banks, .notices] s.part t) ∧
      (Part.bankOverlaps (Part.sortEntries s.part.staging.entries) = false →
        (s.part.sch.clock.valid = false ∨ s.part.sch.clock.day < s.part.staging.day) →
        Completes .checkCompletion s fun t =>
          t.staging = { s.part.staging with entries := Part.sortEntries s.part.staging.entries, state := .ready } ∧
          t.published = s.part.published ∧ (∀ q, (t.port q).flags &&& 64 ≠ 0) ∧ SameBut [.banks, .notices] s.part t)) ∧
  (∀ (l : List Entry),
      (Part.sortEntries l).Perm l ∧ (Part.sortEntries l).Pairwise (fun a b => a.booking.start ≤ b.booking.start) ∧
      (∀ n : Nat, (Part.sortEntries l).filter (fun e => e.booking.start = n) = l.filter (fun e => e.booking.start = n))) ∧
  (∀ (l : List Entry),
      Part.bankOverlaps (Part.sortEntries l) = false ↔
        l.Pairwise (fun a b => a.booking.start ≠ b.booking.start ∧ a.booking.id ≠ b.booking.id) ∧
          ∀ y ∈ (Part.sortEntries l).zip ((Part.sortEntries l).drop 1), y.1.booking.stop ≤ y.2.booking.start) ∧
  (∀ (s : State),
      s.part.isHeld = false →
      s.part.sch.bankA.role ≠ s.part.sch.bankB.role →
      s.part.staging.state = .checking →
      Part.bankOverlaps (Part.sortEntries s.part.staging.entries) = false →
      (s.part.sch.clock.valid = true ∧ s.part.staging.day ≤ s.part.sch.clock.day) →
      Completes .checkCompletion s fun t =>
        t.publishedIsA = (!s.part.publishedIsA) ∧ t.published.state = .published ∧
        t.published.day = s.part.staging.day ∧
        t.published.entries.map (fun e => e.booking) =
          (Part.sortEntries s.part.staging.entries).map (fun e => e.booking) ∧
        t.staging.state = .empty ∧ t.staging.entries = [] ∧ t.staging.day = s.part.published.day ∧
        (∀ q, (t.port q).flags &&& 64 ≠ 0) ∧ t.sch.clock = s.part.sch.clock ∧
        ((∀ e ∈ s.part.staging.entries, e.status = .pending) → s.part.ssu.session = none →
          ∀ e ∈ t.published.entries, t.endReached t.published e = true → e.status = .missed))

/-- An AWAITING session whose window has run out is released without WINDUP: its summary with reason RELEASED is the
newest of the store, and no session is open, when none is pending and no walk-in may follow at once (R166, R174,
R178). A running session whose table has stood empty for the vacancy timeout goes to WINDUP with reason VACATED: the
floor closes, the queue is emptied and every open slot closes with FLOOR_CLOSED (R63, R168, R173). A session whose
vacancy timeout comes with every slot FREE completes its WINDUP at the entry: no session is open, and the newest
summary has reason VACATED (R168, R173, R174, R178). The walk-in test at a full dwell opens a WALK_IN session with
the default floor preset and preset 0, when no booking starts today and its end is not near (R170, R172). -/
def Obligations.SessionsOpenAndEndByTimers : Prop :=
  (∀ (x : Session) (b : Booking) (w : Nat) (s : State),
      s.part.isHeld = false →
      (s.part.ssu.session = some x ∧ x.state = .awaiting ∧ x.copy = some b ∧ b.window = some w ∧ w ≤ x.await) →
      (s.part.ssu.pendingStart = none ∧ s.part.ssu.params.dwell ≠ 0) →
      Completes .awaitWindowExpiry s fun t =>
        t.ssu.session = none ∧
        (∀ y ∈ t.ssu.store.getLast?, y.reason = .released ∧ y.number = s.part.ssu.nextSummary ∧ y.booking = x.booking ∧
          y.closeDay = s.part.sch.clock.day ∧ y.closeMinute = s.part.sch.clock.minute) ∧
        t.ssu.store.length = min (s.part.ssu.store.length + 1) 2 ∧
        (∀ i, (t.seat i).counters = ⟨0, 0, 0, 0, 0, 0⟩) ∧ (∀ q, (t.port q).flags &&& 0xA0 = 0xA0)) ∧
  (∀ (x : Session) (s : State),
      s.part.isHeld = false →
      (s.part.ssu.session = some x ∧ Part.runningState x.state = true) →
      (s.part.ssu.params.vacancy ≠ 0 ∧ s.part.ssu.params.vacancy * 60 ≤ x.vacancy) →
      s.part.allFree = false →
      Completes .vacancyTimeout s fun t =>
        t.ssu.session = some { x with state := .windup, reason := some .vacated } ∧ t.flc.isOpen = false ∧
        t.flc.queue = [] ∧ t.flc.openOrder = [] ∧
        (∀ k, (s.part.slot k).state ≠ .free → (t.slot k).state = .closing ∧ (t.slot k).reason = some .floorClosed)) ∧
  (∀ (x : Session) (s : State),
      s.part.isHeld = false →
      (s.part.ssu.session = some x ∧ Part.runningState x.state = true) →
      (s.part.ssu.params.vacancy ≠ 0 ∧ s.part.ssu.params.vacancy * 60 ≤ x.vacancy) →
      (s.part.allFree = true ∧ s.part.ssu.pendingStart = none ∧ s.part.ssu.params.dwell ≠ 0) →
      Completes .vacancyTimeout s fun t =>
        t.ssu.session = none ∧ t.flc.isOpen = false ∧ t.flc.queue = [] ∧
        (∃ y ∈ t.ssu.store.getLast?, y.reason = .vacated ∧ y.number = s.part.ssu.nextSummary ∧
          y.booking = x.booking ∧ y.closeDay = s.part.sch.clock.day ∧ y.closeMinute = s.part.sch.clock.minute) ∧
        (∀ i, (t.seat i).counters = ⟨0, 0, 0, 0, 0, 0⟩) ∧ (∀ q, (t.port q).flags &&& 0xA0 = 0xA0)) ∧
  (∀ (s : State),
      s.part.isHeld = false →
      (s.part.walkInReady = true ∧ s.part.ssu.params.dwell ≤ s.part.ssu.dwell ∧ s.part.pwu.power = .active) →
      (s.part.nextStart = 1440 ∧ s.part.ssu.params.warning < s.part.ssu.params.length ∧
        s.part.sch.clock.minute + s.part.ssu.params.length ≤ 1440) →
      Completes .walkInDwellExpiry s fun t =>
        t.ssu.session = some ⟨.walkIn, none, none, .inSession, s.part.sch.clock.day, s.part.sch.clock.minute, none,
          s.part.sch.clock.day * 1440 + s.part.sch.clock.minute + s.part.ssu.params.length, false, s.part.smn.occupied, none,
          0, 0⟩ ∧
        t.ssu.dwell = 0 ∧ t.flc.isOpen = true ∧ t.flc.mode = s.part.flc.preset.mode ∧
        (∀ k, (t.screen k).set = (s.part.rtu.presets.get 0).get k) ∧ (∀ q, (t.port q).flags &&& 32 ≠ 0))

/-! ### Standby and wake (chapter 11) -/

/-- The standby entry test passes at a full quiet timer with no session, no pending start and no near booking: the
power state is STANDBY, every screen is driven blank, every indicator output of a seat is inactive at its polarity,
the gain bus is quiet, and the key channels that ran or searched are IDLE, or FAULT again where a search had begun in
FAULT (R40, R110, R132, R199). STANDBY ENTER is answered STATE with a session open or a start pending, and otherwise
DONE with the standby entry, whatever the quiet timer (R40, R110, R132, R199, R200). -/
def Obligations.StandbyIsEntered : Prop :=
  (∀ (s : State),
      s.part.isHeld = false →
      (s.part.pwu.power = .active ∧ s.part.pwu.delay * 60 ≤ s.part.pwu.quiet) →
      (s.part.ssu.session = none ∧ s.part.ssu.pendingStart = none ∧ s.part.ssu.params.dwell ≠ 0 ∧
        (s.part.nextStart = 1440 ∨ s.part.sch.clock.minute + s.part.pwu.lead < s.part.nextStart)) →
      Completes .quietTimerExpiry s fun t =>
        t.pwu.power = .standby ∧ t.pwu.settle = 0 ∧ t.rtu.override = true ∧
        (∀ k, (t.screen k).driven = 0 ∧ t.pins.select.get k = 0) ∧
        t.sgu.bus = none ∧ (∀ i, t.sgu.refused.get i = 0) ∧
        (∀ i, t.pins.indicators.get i = ⟨decide (s.part.sgu.polarity.red = .activeLow),
          decide (s.part.sgu.polarity.green = .activeLow), decide (s.part.sgu.polarity.light = .activeLow)⟩) ∧
        (∀ i, (t.seat i).installed = true → t.sgu.indication.get i = .off) ∧
        (∀ i, Part.outcomeOf (s.part.channel (Part.keyChannel i)) = .active → (t.seat i).key = .up) ∧
        (∀ i, (t.channel (Part.keyChannel i)).state =
          (if (s.part.channel (Part.keyChannel i)).state = .off then .off
          else if (s.part.channel (Part.keyChannel i)).state = .fault then .fault
          else if (s.part.channel (Part.keyChannel i)).state = .tuning ∧ (s.part.channel (Part.keyChannel i)).held = .fault then
            .fault
          else .idle)) ∧
        (∀ q, (t.port q).flags &&& 256 ≠ 0)) ∧
  (∀ (tag : Byte) (s : State),
      Listening s.part .room →
      Settled s.part →
      ((s.part.ssu.session ≠ none ∨ s.part.ssu.pendingStart ≠ none) →
        Completes (.standbyEnter .room tag) s fun t =>
          Answered t .room tag .state [[]] ∧ SameBut [.requests .room] s.part t) ∧
      (s.part.ssu.session = none → s.part.ssu.pendingStart = none → s.part.ssu.params.dwell ≠ 0 →
        Completes (.standbyEnter .room tag) s fun t =>
          Answered t .room tag .done [[]] ∧
          t.pwu.power = .standby ∧ t.pwu.settle = 0 ∧ t.rtu.override = true ∧
          (∀ k, (t.screen k).driven = 0 ∧ t.pins.select.get k = 0) ∧
          t.sgu.bus = none ∧ (∀ i, t.sgu.refused.get i = 0) ∧
          (∀ i, t.pins.indicators.get i = ⟨decide (s.part.sgu.polarity.red = .activeLow),
            decide (s.part.sgu.polarity.green = .activeLow), decide (s.part.sgu.polarity.light = .activeLow)⟩) ∧
          (∀ i, (t.seat i).installed = true → t.sgu.indication.get i = .off) ∧
          (∀ i, Part.outcomeOf (s.part.channel (Part.keyChannel i)) = .active → (t.seat i).key = .up) ∧
          (∀ i, (t.channel (Part.keyChannel i)).state =
            (if (s.part.channel (Part.keyChannel i)).state = .off then .off
            else if (s.part.channel (Part.keyChannel i)).state = .fault then .fault
            else if (s.part.channel (Part.keyChannel i)).state = .tuning ∧ (s.part.channel (Part.keyChannel i)).held = .fault then
              .fault
            else .idle))))

/-- A request in STANDBY is a wake cause and is served as the wake begins: shown on CLOCK READ, which a port is
answered while the power state becomes WAKING and the screens leave the standby override (R186, R201). That the wake
comes before the service is the model's reading (assumption 28). The settle of WAKING ends at four frames: the power
state is ACTIVE with a POWER notice (R202). A proximity channel's change to active in STANDBY wakes the part when
proximity wake is enabled, and leaves it in STANDBY when not (R41, R201). The rest of that frame runs as in STANDBY:
the model's reading (assumption 34). A socket inside the wake mask that goes live in STANDBY wakes the part; the line
of a socket outside it is not captured (R123, R124, R201). Which edges are taken after short levels is the model's
reading (assumptions 13 and 61). A minute event in STANDBY wakes the part when the next start lies within the
pre-wake lead, or when an entry is due, which becomes the pending start; otherwise the part stays in STANDBY (R163,
R164, R201). Stated with no swap at this event. A next start of 1440 means none, so it wakes nothing also where now
and the pre-wake lead come to 1440 or more: the model's reading (assumption 16). -/
def Obligations.PartWakes : Prop :=
  (∀ (q : Port) (tag : Byte) (s : State),
      (s.part.pln.stage = .running ∧ s.part.pwu.power = .standby) →
      FreePort s.part q →
      Completes (.clockRead q tag) s fun t =>
        t.pwu.power = .waking ∧ t.pwu.settle = 0 ∧ t.pwu.quiet = 0 ∧ t.rtu.override = false ∧
        (∀ k, (t.screen k).driven = (t.screen k).shown) ∧
        (∀ i, (s.part.channel (Part.keyChannel i)).state ≠ .off → (t.channel (Part.keyChannel i)).firstWake = true) ∧
        Answered t q tag .done [s.part.clockContents]) ∧
  (∀ (s : State),
      s.part.pln.stage = .running →
      (s.part.pwu.power = .waking ∧ 4 ≤ s.part.pwu.settle) →
      Completes .settleComplete s fun t =>
        t.pwu.power = .active ∧ t.pwu.settle = 0 ∧ (∀ q, (t.port q).flags &&& 256 ≠ 0)) ∧
  (∀ (readings : List Nat) (first : List ChannelId) (timersFirst : Bool) (i : SeatId) (c : ChannelId) (s : State),
      (s.part.pln.stage = .running ∧ s.part.pwu.power = .standby) →
      (c = Part.proximityChannel i ∧ (s.part.channel c).firstWake = false) →
      EntersActive s.part readings c 200 →
      Completes (.sensingFrame readings first timersFirst) s fun t =>
        (s.part.pwu.proximityWake = true →
          t.pwu.power = .waking ∧ t.pwu.settle = 0 ∧ t.pwu.quiet = 0 ∧ t.rtu.override = false ∧
          (∀ j, (s.part.channel (Part.keyChannel j)).state ≠ .off →
            (t.channel (Part.keyChannel j)).firstWake = true) ∧
          (∀ q, (t.port q).flags &&& 256 ≠ 0)) ∧
        (s.part.pwu.proximityWake = false → t.pwu.power = .standby)) ∧
  (∀ (k : SocketId) (ticks levelHeld : Nat) (overflowFirst : Bool) (s : State),
      (s.part.pln.stage = .running ∧ s.part.pwu.power = .standby) →
      Settled s.part →
      (s.part.inMask k = false →
        Completes (.edgeTaken k (s.part.socket k).edge ticks levelHeld overflowFirst) s (fun t => SameBut [] s.part t)) ∧
      (s.part.inMask k = true → (s.part.socket k).enable = true → (s.part.socket k).phase = .waitActive →
        (s.part.socket k).counter + ticks < 65535 → (s.part.socket k).filter ≤ levelHeld →
        (s.part.socket k).lastEdge ≠ some (s.part.socket k).edge →
        ((s.part.socket k).state = .none ∧ s.part.scu.agree ≤ 1) ∨
          ((s.part.socket k).state = .seeking ∧ s.part.scu.agree ≤ (s.part.socket k).agree + 1 ∧
            (s.part.socket k).cls =
              (classify s.part.scu.rates (s.part.socket k).width ((s.part.socket k).counter + ticks)).1) →
        Completes (.edgeTaken k (s.part.socket k).edge ticks levelHeld overflowFirst) s fun t =>
          (t.socket k).state = .live ∧ t.pwu.power = .waking ∧ t.pwu.settle = 0 ∧ t.pwu.quiet = 0 ∧
          t.rtu.override = false ∧ (∀ q, (t.port q).flags &&& 256 ≠ 0))) ∧
  (∀ (first : List ClockUser) (p : Part) (s : State),
      (s.part.pln.stage = .running ∧ s.part.pwu.power = .standby) →
      (s.part.sch.clock.second = 59 ∧ s.part.staging.state ≠ .ready ∧ p = s.part.setClock (Part.tick s.part.sch.clock)) →
      Completes (.secondEvent first) s fun t =>
        (p.nextStart < 1440 → p.nextStart ≤ p.sch.clock.minute + s.part.pwu.lead →
          t.pwu.power = .waking ∧ t.pwu.settle = 0 ∧ t.rtu.override = false) ∧
        (∀ e ∈ p.dueEntry, s.part.ssu.session = none → s.part.ssu.pendingStart = none →
          t.ssu.pendingStart = some e.booking.id ∧ t.ssu.session = none ∧ t.pwu.power = .waking) ∧
        (p.nextStart = 1440 ∨ p.sch.clock.minute + s.part.pwu.lead < p.nextStart → t.pwu.power = .standby))

/-! ### The lines of the ports (chapter 10) -/

/-- A request transfer of fewer than three bytes (none, one or two) leaves the port's requests and its pending
response as they are, and wakes nothing. The chair port shifts out 00h throughout, and the AV port acknowledges its
address and each byte (R183). A request transfer of three bytes or more on a free port of a running part: a request
that passes the checks enters service in place of the pending response, and one that fails a check is answered with
its status. The chair port shifts out 00h throughout; the AV port acknowledges its address and each byte up to the
67th (R183, R185, R186). A request taken while one is in service waits: on the chair port and the AV port it replaces
the one that waits and discards the pending response; on the room link it is dropped when one waits already. No check
is made of it before it enters service (R185). -/
def Obligations.TransferTakesRequest : Prop :=
  (∀ (q : SerialPort) (bytes : List Byte) (s : State),
      s.part.isHeld = false →
      Settled s.part →
      (bytes.length < 3 ∧ (q = .chair → bytes.head? ≠ some 0)) →
      Completes (.requestTransfer q bytes) s fun t =>
        t.line (portOf q) = ((s.part.port (portOf q)).inService, (s.part.port (portOf q)).waiting,
          (s.part.port (portOf q)).pending, (s.part.port (portOf q)).dropAnswer, (s.part.port (portOf q)).heldBack,
          (if q = .chair then [List.replicate bytes.length 0] else []),
          (if q = .chair then [] else List.replicate (bytes.length + 1) true)) ∧
        SameBut [.requests (portOf q)] s.part t) ∧
  (∀ (q : SerialPort) (code tag len : Byte) (payload : List Byte) (s : State),
      Listening s.part (portOf q) →
      Settled s.part →
      (q = .chair → code ≠ 0) →
      (s.part.checkRequest (portOf q) ⟨code, tag, len, payload⟩ = none → code ≠ 0x0C →
        Completes (.requestTransfer q (code :: tag :: len :: payload)) s fun t =>
          (t.port (portOf q)).inService = some ⟨code, tag, len, payload⟩ ∧ (t.port (portOf q)).pending = none ∧
          (t.port (portOf q)).waiting = none ∧
          (t.port (portOf q)).sent = (if q = .chair then [List.replicate (payload.length + 3) 0] else []) ∧
          (t.port (portOf q)).acks =
            (if q = .chair then [] else true :: (List.range (payload.length + 3)).map fun i => decide (i < 67)) ∧
          SameBut [.requests (portOf q)] s.part t) ∧
      (∀ st ∈ s.part.checkRequest (portOf q) ⟨code, tag, len, payload⟩,
        Completes (.requestTransfer q (code :: tag :: len :: payload)) s fun t =>
          (t.port (portOf q)).inService = none ∧ (t.port (portOf q)).pending = some ⟨tag, st, [[]]⟩ ∧
          (t.port (portOf q)).waiting = none ∧
          (t.port (portOf q)).sent = (if q = .chair then [List.replicate (payload.length + 3) 0] else []) ∧
          (t.port (portOf q)).acks =
            (if q = .chair then [] else true :: (List.range (payload.length + 3)).map fun i => decide (i < 67)) ∧
          SameBut [.requests (portOf q)] s.part t)) ∧
  (∀ (q : SerialPort) (code tag len : Byte) (payload : List Byte) (r : Request) (s : State),
      Running s.part →
      Settled s.part →
      (code ≠ 0x0C ∧ (q = .chair → code ≠ 0)) →
      ((s.part.port (portOf q)).inService = some r →
        Completes (.requestTransfer q (code :: tag :: len :: payload)) s fun t =>
          (t.port (portOf q)).inService = some r ∧ (t.port (portOf q)).waiting = some ⟨code, tag, len, payload⟩ ∧
          (t.port (portOf q)).pending = none ∧ SameBut [.requests (portOf q)] s.part t) ∧
      ((s.part.port .room).inService = some r → s.part.prt.rx.phase = .hunt → code ≠ 0x7E → tag ≠ 0x7E →
        len.toNat ≤ 64 → payload.length = len.toNat →
        Completes (.roomLinkFrame (wireFrame (code :: tag :: len :: payload))) s fun t =>
          (t.port .room).inService = some r ∧
          (t.port .room).waiting =
            (if (s.part.port .room).waiting = none then some ⟨code, tag, len, payload⟩
            else (s.part.port .room).waiting) ∧
          (t.port .room).sent = [] ∧
          t.prt.rx = ⟨.hunt, [], []⟩ ∧ SameBut [.requests .room, .receiver] s.part t))

/-- A response read gives the frame of the pending response's next segment and then 00h bytes, and three bytes or
more take the segment; with nothing pending it gives STATE, or BUSY while a request is held (R183, R187). -/
def Obligations.ResponseReadGivesSegment : Prop :=
  ∀ (q : SerialPort) (n : Nat) (s : State),
    s.part.isHeld = false →
    Settled s.part →
    (∀ r ∈ (s.part.port (portOf q)).pending,
      Completes (.responseRead q n) s fun t =>
        (t.port (portOf q)).sent =
          [((responseFrame r.tag r.status (r.frames.headD [])) ++ List.replicate n 0).take n] ∧
        (t.port (portOf q)).pending =
          (if n < 3 then some r else if r.frames.length ≤ 1 then none else some { r with frames := r.frames.drop 1 }) ∧
        SameBut [.requests (portOf q)] s.part t) ∧
    ((s.part.port (portOf q)).pending = none →
      Completes (.responseRead q n) s fun t =>
        (t.port (portOf q)).sent =
          [(responseFrame 0 (if (s.part.port (portOf q)).inService = none ∧ (s.part.port (portOf q)).waiting = none then .state
            else .busy) [] ++ List.replicate n 0).take n] ∧
        (t.port (portOf q)).pending = none ∧ SameBut [.requests (portOf q)] s.part t)

/-- A request's frame on the room link, with its mark and its sum, reaches a receiver in HUNT as exactly that
request, for every code, tag and payload of a request that passes the checks, PORT RESET left out (R184, R186): no
bit of the frame is lost, and the receiver is back in HUNT. A frame whose sum does not match is dropped without an
answer (R184). A gap above 50 ms, a framing error, and a length byte above 64 each drop the frame in progress and
leave the receiver in HUNT (R184). -/
def Obligations.RoomLinkFraming : Prop :=
  (∀ (code tag len : Byte) (payload : List Byte) (s : State),
      Listening s.part .room →
      Settled s.part →
      s.part.prt.rx.phase = .hunt →
      (code ≠ 0x7E ∧ tag ≠ 0x7E ∧ code ≠ 0x0C) →
      (len.toNat ≤ 64 ∧ payload.length = len.toNat) →
      s.part.checkRequest .room ⟨code, tag, len, payload⟩ = none →
      Completes (.roomLinkFrame (wireFrame (code :: tag :: len :: payload))) s fun t =>
        (t.port .room).inService = some ⟨code, tag, len, payload⟩ ∧ t.prt.rx = ⟨.hunt, [], []⟩ ∧
        SameBut [.requests .room, .receiver] s.part t) ∧
  (∀ (code tag len sum : Byte) (payload : List Byte) (s : State),
      s.part.isHeld = false →
      Settled s.part →
      s.part.prt.rx.phase = .hunt →
      (code ≠ 0x7E ∧ tag ≠ 0x7E) →
      (len.toNat ≤ 64 ∧ payload.length = len.toNat) →
      sum ≠ frameSum (code :: tag :: len :: payload) →
      Completes (.roomLinkFrame (0x7E :: code :: tag :: len :: payload ++ [sum])) s fun t =>
        t.prt.rx = ⟨.hunt, [], []⟩ ∧ (t.port .room).inService = (s.part.port .room).inService ∧ (t.port .room).sent = [] ∧
        SameBut [.requests .room, .receiver] s.part t) ∧
  (∀ (a b len : Byte) (s : State),
      s.part.isHeld = false →
      Settled s.part →
      Completes .roomLinkGapTimeout s
        (fun t => t.prt.rx = ⟨.hunt, [], []⟩ ∧ SameBut [.receiver] s.part t) ∧
      Completes .roomLinkFramingError s
        (fun t => t.prt.rx = ⟨.hunt, [], []⟩ ∧ SameBut [.receiver] s.part t) ∧
      (s.part.prt.rx = ⟨.header, [a, b], []⟩ → 64 < len.toNat → len ≠ 0x7E →
        Completes (.roomLinkLengthAbove64 len) s fun t =>
          t.prt.rx = ⟨.hunt, [], []⟩ ∧ SameBut [.receiver, .requests .room] s.part t))

/-- A waiting request enters service when none is in service, or is answered by the first check that fails (R185,
R186). That the answer of the request before it does the same at once, so that this command finds nothing left to do
after it, is the model's choice (assumption 63). -/
def Obligations.WaitingRequestEntersService : Prop :=
  ∀ (q : Port) (r : Request) (s : State),
    s.part.isHeld = false →
    Settled s.part →
    ((s.part.port q).inService = none ∧ (s.part.port q).waiting = some r) →
    (s.part.checkRequest q r = none →
      Completes (.requestEntersService q) s fun t =>
        (t.port q).inService = some r ∧ (t.port q).waiting = none ∧ SameBut [.requests q] s.part t) ∧
    (∀ st ∈ s.part.checkRequest q r,
      Completes (.requestEntersService q) s fun t =>
        Answered t q r.tag st [[]] ∧ (t.port q).waiting = none ∧ SameBut [.requests q] s.part t)

/-- A request of a group that the port does not hold is answered NOT_PERMITTED and has no other effect (R186, R188).
In stages 1 and 2 of start-up every request, and in stage 3 every request but the READ requests and IDENT, is
answered BUSY with no effect (R12). That NOTICE MASK (0Bh), PORT RESET (0Ch) and SUMMARY READ (47h) are BUSY in stage
3 is the model's choice (assumption 26). -/
def Obligations.RightsAndStartUpAreChecked : Prop :=
  (∀ (c : Instr) (q : Port) (r : Request) (s : State),
      requestOf c = some (q, r) →
      Listening s.part q →
      Settled s.part →
      ¬ Permitted q r.code.toNat →
      Completes c s fun t => Answered t q r.tag .notPermitted [[]] ∧ SameBut [.requests q] s.part t) ∧
  (∀ (c : Instr) (q : Port) (r : Request) (s : State),
      requestOf c = some (q, r) →
      (s.part.pln.stage = .loading ∨ (s.part.pln.stage = .retuning ∧ 0x0A < r.code.toNat)) →
      (s.part.pwu.power ≠ .standby ∧ FreePort s.part q) →
      Settled s.part →
      Permitted q r.code.toNat →
      Completes c s fun t => Answered t q r.tag .busy [[]] ∧ SameBut [.requests q] s.part t)

/-! ### READ requests, IDENT and the notices -/

/-- IDENT gives the vendor, part and revision codes, the room identity, the straps, and the loads and saves (R195).
CLOCK READ, which every port may make, is answered DONE with the day number, the minute, the second and the valid
mark as they stand, from stage 3 of start-up on (R146). FLOOR READ, ROUTE READ and SESSION READ are answered DONE
with the contents as they stand, in segments, and change nothing (R90, R141, R181, R187); an unknown route selector
is RANGE. That the RANGE answer carries the one segment byte 10h is the model's reading (assumption 22). -/
def Obligations.IdentAndSegmentedReadsAnswer : Prop :=
  (∀ (q : Port) (tag : Byte) (s : State),
      Readable s.part q →
      Settled s.part →
      Completes (.ident q tag) s fun t =>
        Answered t q tag .done
          [([0x1D, 0x6A, 0x0C, 0x14, 1] : List Byte) ++ b2 s.part.prt.roomId ++ s.part.prt.tableName ++
            [byteOf (8 + 4 * s.part.pln.straps.seatCount.toNat), byteOf s.part.pln.straps.linkRate.toNat,
              if s.part.pln.straps.indStyle then 2 else 1,
              match s.part.pln.outcome with
              | .none => 0
              | .plan => 1
              | .default => 2,
              if s.part.pln.corrected then 1 else 0, if s.part.pln.saving then 1 else 0,
              match s.part.pln.result with
              | .none => 0
              | .saved => 1
              | .writeFailed => 2]] ∧
        SameBut [.requests q] s.part t) ∧
  (∀ (q : Port) (tag : Byte) (s : State),
      Readable s.part q →
      Settled s.part →
      Completes (.clockRead q tag) s fun t =>
        Answered t q tag .done
          [[byteOf (s.part.sch.clock.day / 256), byteOf s.part.sch.clock.day, byteOf (s.part.sch.clock.minute / 256),
            byteOf s.part.sch.clock.minute, byteOf s.part.sch.clock.second, if s.part.sch.clock.valid then 1 else 0]] ∧
        SameBut [.requests q] s.part t) ∧
  (∀ (q : Port) (tag sel : Byte) (s : State),
      Readable s.part q →
      Settled s.part →
      Completes (.floorRead q tag) s (fun t =>
        Answered t q tag .done (segments s.part.floorContents) ∧ SameBut [.requests q] s.part t) ∧
      Completes (.sessionRead q tag) s (fun t =>
        Answered t q tag .done (segments s.part.sessionContents) ∧ SameBut [.requests q] s.part t) ∧
      Completes (.routeRead q tag sel) s (fun t =>
        (sel = 0 → Answered t q tag .done (segments s.part.screensContents)) ∧
        (sel = 1 → Answered t q tag .done (segments s.part.presetsContents)) ∧
        (1 < sel.toNat → Answered t q tag .range [[0x10]]) ∧ SameBut [.requests q] s.part t))

/-- SEAT READ, CHANNEL READ and SOURCE READ are answered DONE with the record named, the selectors 20h to 22h of
SOURCE READ with the states of all sources and with the rate table by halves, or RANGE for a number outside the
range, and change nothing (R43, R61, R126, R197). BANK READ names a bank by letter or role and a part: part 0 the
bank's record, parts 1 to 8 four entries each; another selector or part is RANGE (R160, R187, R197). The count byte
before the entries and the segment byte of an answer without contents are the model's choice (assumption 22). SUMMARY
READ gives the oldest summary's number, the lost mark, the count held and the part asked for; with the store empty it
is STATE, and a part above 5 is RANGE. It changes nothing (R179, R187, R197). The segment byte of an answer without
contents and the count byte before the seat lines are the model's choice (assumption 22). -/
def Obligations.RecordReadsAnswer : Prop :=
  (∀ (q : Port) (tag n : Byte) (s : State),
      Readable s.part q →
      Settled s.part →
      Completes (.seatRead q tag n) s (fun t =>
        (∀ i : SeatId, n.toNat = i.val + 1 → Answered t q tag .done [s.part.seatContents i]) ∧
        ((n = 0 ∨ 20 < n.toNat) → Answered t q tag .range [[]]) ∧ SameBut [.requests q] s.part t) ∧
      Completes (.channelRead q tag n) s (fun t =>
        (∀ c : ChannelId, n.toNat = c.val → Answered t q tag .done [s.part.channelContents c]) ∧
        (40 < n.toNat → Answered t q tag .range [[]]) ∧ SameBut [.requests q] s.part t) ∧
      Completes (.sourceRead q tag n) s (fun t =>
        (∀ k : SocketId, n.toNat = k.val + 1 → Answered t q tag .done [s.part.socketBytes k]) ∧
        (n = 9 → Answered t q tag .done [[if s.part.scu.pc then 1 else 0]]) ∧
        (n = 10 → Answered t q tag .done [[if s.part.scu.codec then 1 else 0]]) ∧
        (n = 0x20 → Answered t q tag .done [s.part.allSources]) ∧
        (n = 0x21 → Answered t q tag .done
          [([0, 1, 2, 3] : List (Fin 8)).flatMap (fun i => rateBytes (s.part.scu.rates.get i)) ++
            [byteOf s.part.scu.agree, byteOf s.part.scu.drop]]) ∧
        (n = 0x22 → Answered t q tag .done
          [([4, 5, 6, 7] : List (Fin 8)).flatMap (fun i => rateBytes (s.part.scu.rates.get i)) ++
            [byteOf s.part.scu.agree, byteOf s.part.scu.drop]]) ∧
        ((n = 0 ∨ (10 < n.toNat ∧ n.toNat < 0x20) ∨ 0x22 < n.toNat) → Answered t q tag .range [[]]) ∧
        SameBut [.requests q] s.part t)) ∧
  (∀ (q : Port) (tag sel part : Byte) (s : State),
      Readable s.part q →
      Settled s.part →
      Completes (.bankRead q tag sel part) s fun t =>
        (∀ x ∈ [((0 : Byte), s.part.sch.bankA), (1, s.part.sch.bankB), (2, s.part.published), (3, s.part.staging)],
          sel = x.1 → 1 ≤ part.toNat → part.toNat ≤ 8 →
          Answered t q tag .done
            (segments (byteOf ((x.2.entries.drop (4 * part.toNat - 4)).take 4).length ::
              ((x.2.entries.drop (4 * part.toNat - 4)).take 4).flatMap Part.entryBytes))) ∧
        (sel = 0 → part = 0 → Answered t q tag .done (segments (s.part.bankHead true s.part.sch.bankA))) ∧
        (sel = 1 → part = 0 → Answered t q tag .done (segments (s.part.bankHead false s.part.sch.bankB))) ∧
        (sel = 2 → part = 0 →
          Answered t q tag .done (segments (s.part.bankHead s.part.publishedIsA s.part.published))) ∧
        (sel = 3 → part = 0 →
          Answered t q tag .done (segments (s.part.bankHead (!s.part.publishedIsA) s.part.staging))) ∧
        ((3 < sel.toNat ∨ 8 < part.toNat) → Answered t q tag .range [[0x10]]) ∧
        SameBut [.requests q] s.part t) ∧
  (∀ (tag n : Byte) (s : State),
      Listening s.part .room →
      Settled s.part →
      Completes (.summaryRead .room tag n) s fun t =>
        SameBut [.requests .room] s.part t ∧
        (5 < n.toNat → Answered t .room tag .range [[0x10]]) ∧
        (n.toNat ≤ 5 → s.part.ssu.store = [] → Answered t .room tag .state [[0x10]]) ∧
        (∀ x ∈ s.part.ssu.store.head?, n = 0 →
          Answered t .room tag .done (segments
            (b2 x.number ++ [if s.part.ssu.lost then 1 else 0,
            byteOf s.part.ssu.store.length] ++ Part.summaryHead x))) ∧
        (∀ x ∈ s.part.ssu.store.head?, 1 ≤ n.toNat → n.toNat ≤ 5 →
          Answered t .room tag .done (segments
            (b2 x.number ++ [if s.part.ssu.lost then 1 else 0, byteOf s.part.ssu.store.length] ++
              byteOf ((x.lines.drop (4 * n.toNat - 4)).take 4).length ::
                ((x.lines.drop (4 * n.toNat - 4)).take 4).flatMap Part.lineBytes))))

/-- The records of the READ requests as bytes: each field of R43, R61, R90, R126, R127, R141, R148, R160, R161, R177,
R179 and R181 in the order of its rule, numbers high byte first, a yes / no value as 0 or 1, a list after its count
(R197). That the outcome of an OFF channel is 3 is the model's choice (assumption 6). The segmented records as bytes,
field by field in the order of R65, R90, R127 and R141 (R197). A close reason of none is sent as 8: the model's
reading (assumption 21). The records of banks, entries, the session and summaries as bytes, field by field in the
order of R147, R148, R160, R161, R177, R179 and R181 (R197). That SESSION READ leaves the session's fields out when
none is open, and sends an absent copy as a presence byte and zeros, is the model's reading (assumption 22). The
numbers of the named values in the records, each from 0 in the order of the rule that names them (R2, R15, R16, R17,
R33, R46, R62, R87, R91, R103, R111, R119, R127, R148, R150, R161, R197). -/
def Obligations.RecordLayouts : Prop :=
  (∀ (i : SeatId) (c : ChannelId) (k : SocketId) (p : Part),
      p.seatContents i =
        [byteOf (i.val + 1), if (p.seat i).installed then 1 else 0, byteOf (p.seat i).role.code,
         byteOf (socketNumber (p.seat i).socket), if (p.seat i).presenceRequired then 1 else 0,
         if (p.seat i).priority then 1 else 0, byteOf (p.seat i).presence.code, byteOf (p.seat i).absence,
         byteOf p.smn.grace, byteOf (p.seat i).key.code, byteOf ((p.seat i).press / 256), byteOf (p.seat i).press,
         byteOf (p.seat i).mark.code, if (p.seat i).nextTaken then 1 else 0,
         byteOf (if (p.channel (Part.keyChannel i)).state = .off then 3 else (Part.outcomeOf (p.channel (Part.keyChannel i))).code),
         byteOf (if (p.channel (Part.proximityChannel i)).state = .off then 3 else (Part.outcomeOf (p.channel (Part.proximityChannel i))).code),
         byteOf ((p.seat i).counters.occupied / 65536), byteOf ((p.seat i).counters.occupied / 256),
         byteOf (p.seat i).counters.occupied,
         byteOf ((p.seat i).counters.speaking / 65536), byteOf ((p.seat i).counters.speaking / 256),
         byteOf (p.seat i).counters.speaking,
         byteOf ((p.seat i).counters.requests / 256), byteOf (p.seat i).counters.requests,
         byteOf ((p.seat i).counters.grants / 256), byteOf (p.seat i).counters.grants,
         byteOf ((p.seat i).counters.refused / 256), byteOf (p.seat i).counters.refused,
         byteOf ((p.seat i).counters.stray / 256), byteOf (p.seat i).counters.stray, byteOf p.smn.occupied] ∧
      p.channelContents c =
        [byteOf c.val, byteOf (Part.kindOf c).code,
         if (p.channel c).enabled ∧ (c.val = 40 ∨ (p.seat (Part.seatOf c)).installed) then 1 else 0,
         byteOf (p.channel c).state.code,
         byteOf (if (p.channel c).state = .off then 3 else (Part.outcomeOf (p.channel c)).code),
         byteOf ((if (p.channel c).state = .tuning then (p.channel c).trial else (p.channel c).tune) / 32),
         byteOf ((if (p.channel c).state = .tuning then (p.channel c).trial else (p.channel c).tune) % 32),
         byteOf (p.channel c).step, if (p.channel c).pending then 1 else 0, byteOf (p.channel c).result.code,
         byteOf ((p.channel c).raw / 256), byteOf (p.channel c).raw, if (p.channel c).saturated then 1 else 0,
         byteOf ((p.channel c).filtered / 256), byteOf (p.channel c).filtered,
         byteOf ((p.channel c).lta / 256), byteOf (p.channel c).lta,
         byteOf ((p.channel c).delta / 256), byteOf (p.channel c).delta,
         byteOf ((p.channel c).level / 256), byteOf (p.channel c).level,
         byteOf ((p.channel c).release / 256), byteOf (p.channel c).release,
         byteOf ((p.channel c).haltLevel / 256), byteOf (p.channel c).haltLevel, byteOf (p.channel c).debounce,
         byteOf ((p.channel c).haltTimer / 65536), byteOf ((p.channel c).haltTimer / 256),
         byteOf (p.channel c).haltTimer,
         byteOf (p.channel c).bandCount, byteOf (profileFor p c).direction.code, byteOf (profileFor p c).countBeta,
         byteOf (profileFor p c).activeBeta, byteOf (profileFor p c).standbyBeta, byteOf (profileFor p c).threshold,
         byteOf (profileFor p c).hysteresis, byteOf (profileFor p c).enter, byteOf (profileFor p c).exit,
         byteOf (profileFor p c).haltLimit, byteOf (profileFor p c).tracking, byteOf (profileFor p c).sign.code,
         byteOf ((profileFor p c).target / 256), byteOf (profileFor p c).target, byteOf (profileFor p c).band] ∧
      p.socketBytes k =
        [if (p.socket k).enable then 1 else 0, byteOf (if (p.socket k).edge = .rising then 0 else 1),
         byteOf (p.socket k).filter, byteOf (p.socket k).phase.code,
         byteOf ((p.socket k).counter / 256), byteOf (p.socket k).counter,
         byteOf ((p.socket k).width / 256), byteOf (p.socket k).width,
         byteOf ((p.socket k).period / 256), byteOf (p.socket k).period, byteOf (p.socket k).entry,
         byteOf (p.socket k).cls.code, byteOf (p.socket k).state.code, byteOf (p.socket k).agree,
         byteOf (p.socket k).drop, if (p.socket k).state = .live ∨ (p.socket k).state = .dropping then 1 else 0,
         if ((p.socket k).state = .live ∨ (p.socket k).state = .dropping) ∧ (p.socket k).cls ≠ .none ∧ (p.socket k).cls ≠ .unsupported then 1 else 0,
         if p.pwu.mask.get k then 1 else 0] ∧
      p.allSources =
        ((List.finRange 8).flatMap fun j => [byteOf (p.socket j).state.code, byteOf (p.socket j).cls.code]) ++
          [if p.scu.pc then 1 else 0, if p.scu.codec then 1 else 0]) ∧
  (∀ (p : Part),
      p.floorContents =
        [byteOf p.flc.mode.code, byteOf p.flc.limit, byteOf (p.flc.speak / 256), byteOf p.flc.speak,
         if p.flc.enforce then 1 else 0, byteOf p.flc.lead, byteOf (min p.flc.lead (p.flc.speak / 2)),
         if p.flc.isOpen then 1 else 0, byteOf (p.flc.seconds.toNat / 256), byteOf p.flc.seconds.toNat,
         byteOf (p.flc.nextNumber.toNat / 256), byteOf p.flc.nextNumber.toNat, byteOf p.flc.queue.length] ++
          (p.flc.queue.flatMap fun e =>
            [byteOf (e.seat.val + 1), if e.priority then 1 else 0, if e.override then 1 else 0,
             byteOf (e.number.toNat / 256), byteOf e.number.toNat,
             byteOf (e.second.toNat / 256), byteOf e.second.toNat]) ++
          (([0, 1, 2, 3, 4, 5, 6] : List SlotId).flatMap fun k =>
            [byteOf (p.slot k).state.code, byteOf (seatNumber (p.slot k).holder),
             byteOf ((p.slot k).gain / 256), byteOf (p.slot k).gain,
             byteOf ((p.slot k).elapsed / 256), byteOf (p.slot k).elapsed, byteOf (p.slot k).warned.code,
             byteOf (if (p.slot k).state = .closing then slotReasonCode (p.slot k).reason else 8)]) ++
          byteOf p.flc.openOrder.length :: (p.flc.openOrder.map (fun k => byteOf k.val) ++
            (List.finRange 20).map fun s => byteOf (p.indicationOf s).code) ∧
      ((∀ k, (p.screen k).driven = p.drivenBy k) → p.screensContents =
        (([0, 1, 2, 3] : List ScreenId).flatMap fun k =>
            [byteOf (p.screen k).set.mode.code, byteOf (p.screen k).set.fixed.val,
             byteOf ((p.screen k).set.followed.val + 1), byteOf (p.screen k).set.fallback.val,
             if (p.screen k).set.privacy then 1 else 0, byteOf (p.screen k).shown.val,
             byteOf (p.screen k).driven.val, byteOf (p.screen k).settle.code, byteOf (p.screen k).timer]) ++
          (if p.rtu.override then 1 else 0) :: byteOf p.rtu.speakers.length ::
            (p.rtu.speakers.map (fun s => byteOf (s.val + 1)) ++
              p.rtu.routable.toList.map fun b => if b then 1 else 0)) ∧
      p.presetsContents =
        p.rtu.presets.toList.flatMap fun v => v.toList.flatMap fun x =>
          [byteOf x.mode.code, byteOf x.fixed.val, byteOf (x.followed.val + 1), byteOf x.fallback.val,
           if x.privacy then 1 else 0]) ∧
  (∀ (isA : Bool) (b : Bank) (e : Entry) (y : Summary) (l : SeatLine) (p : Part),
      p.bankHead isA b =
        [if isA then 0 else 1, byteOf b.role.code, byteOf b.state.code, byteOf (b.day / 256), byteOf b.day,
         byteOf b.declared, byteOf b.received, if b.auto then 1 else 0, byteOf b.cause.code,
         if b.role = .published ∧ p.isCurrent = true then 1 else 0,
         byteOf (p.sch.clock.day / 256), byteOf p.sch.clock.day,
         byteOf (p.sch.clock.minute / 256), byteOf p.sch.clock.minute, if p.sch.clock.valid then 1 else 0,
         byteOf (p.nextStart / 256), byteOf p.nextStart] ∧
      Part.entryBytes e =
        [byteOf (e.booking.id / 256), byteOf e.booking.id, byteOf (e.booking.start / 256), byteOf e.booking.start,
         byteOf (e.booking.stop / 256), byteOf e.booking.stop, if e.booking.checkIn then 1 else 0,
         byteOf (e.booking.window.getD 0), byteOf e.booking.quorum, byteOf e.booking.floor.mode.code,
         byteOf e.booking.floor.limit, byteOf (e.booking.floor.speak / 256), byteOf e.booking.floor.speak,
         if e.booking.floor.enforce then 1 else 0,
         byteOf e.booking.screen.val, if e.booking.privacy then 1 else 0,
         byteOf (seatNumber e.booking.organiser)] ++ [byteOf e.status.code] ∧
      Part.summaryHead y =
        [byteOf (y.number / 256), byteOf y.number, byteOf y.kind.code,
         byteOf ((y.booking.getD 0) / 256), byteOf (y.booking.getD 0),
         byteOf (seatNumber y.organiser), byteOf (y.openDay / 256), byteOf y.openDay,
         byteOf (y.openMinute / 256), byteOf y.openMinute, byteOf (y.closeDay / 256), byteOf y.closeDay,
         byteOf (y.closeMinute / 256), byteOf y.closeMinute, byteOf y.reason.code,
         if y.checkedIn.isSome then 1 else 0,
         byteOf ((y.checkedIn.getD 0) / 256), byteOf (y.checkedIn.getD 0),
         byteOf y.peak, if y.unlisted then 1 else 0, byteOf y.lines.length] ∧
      Part.lineBytes l =
        [byteOf (l.seat.val + 1),
         byteOf (l.counters.occupied / 65536), byteOf (l.counters.occupied / 256), byteOf l.counters.occupied,
         byteOf (l.counters.speaking / 65536), byteOf (l.counters.speaking / 256), byteOf l.counters.speaking,
         byteOf (l.counters.requests / 256), byteOf l.counters.requests,
         byteOf (l.counters.grants / 256), byteOf l.counters.grants,
         byteOf (l.counters.refused / 256), byteOf l.counters.refused,
         byteOf (l.counters.stray / 256), byteOf l.counters.stray] ∧
      p.sessionContents =
        (match p.ssu.session with
          | none => [0]
          | some x =>
              [1, byteOf x.kind.code,
               byteOf ((x.booking.getD 0) / 256), byteOf (x.booking.getD 0)] ++
                (match x.copy with
                  | some g => 1 ::
                    [byteOf (g.id / 256), byteOf g.id, byteOf (g.start / 256), byteOf g.start,
                     byteOf (g.stop / 256), byteOf g.stop, if g.checkIn then 1 else 0,
                     byteOf (g.window.getD 0), byteOf g.quorum, byteOf g.floor.mode.code,
                     byteOf g.floor.limit, byteOf (g.floor.speak / 256), byteOf g.floor.speak,
                     if g.floor.enforce then 1 else 0, byteOf g.screen.val, if g.privacy then 1 else 0,
                     byteOf (seatNumber g.organiser)]
                  | none => List.replicate 18 0) ++
                [byteOf x.state.code, byteOf (x.openDay / 256), byteOf x.openDay,
                 byteOf (x.openMinute / 256), byteOf x.openMinute, if x.checkedIn.isSome then 1 else 0,
                 byteOf ((x.checkedIn.getD 0) / 256), byteOf (x.checkedIn.getD 0),
                 byteOf ((x.effEnd / 1440) / 256), byteOf (x.effEnd / 1440),
                 byteOf ((x.effEnd % 1440) / 256), byteOf (x.effEnd % 1440), if x.unlisted then 1 else 0, byteOf x.peak,
                 if x.reason.isSome then 1 else 0, byteOf (match x.reason with | some r => r.code | none => 0),
                 byteOf x.await, byteOf (x.vacancy / 256), byteOf x.vacancy]) ++
          [byteOf ((p.ssu.pendingStart.getD 0) / 256), byteOf (p.ssu.pendingStart.getD 0),
           byteOf (p.ssu.dwell / 256), byteOf p.ssu.dwell, byteOf p.ssu.store.length] ++
          p.ssu.store.flatMap (fun z => [byteOf (z.number / 256), byteOf z.number]) ++
          [if p.ssu.lost then 1 else 0, byteOf (p.nextStart / 256), byteOf p.nextStart]) ∧
  ([Role.delegate, .chair].map Role.code = [0, 1] ∧ [Direction.fall, .rise].map Direction.code = [0, 1] ∧
    [Sign.same, .opposite].map Sign.code = [0, 1] ∧
    [ChanState.off, .tuning, .idle, .entering, .active, .leaving, .fault].map ChanState.code = [0, 1, 2, 3, 4, 5, 6] ∧
    [Sensed.inactive, .active, .fault].map Sensed.code = [0, 1, 2] ∧
    [RetuneResult.none, .good, .outOfBand].map RetuneResult.code = [0, 1, 2] ∧
    [ProfileKind.key, .proximity, .reference].map ProfileKind.code = [0, 1, 2] ∧
    [Presence.vacant, .occupied, .away, .unknown].map Presence.code = [0, 1, 2, 3] ∧
    [KeyState.up, .down].map KeyState.code = [0, 1] ∧
    [PressMark.none, .accepted, .stray].map PressMark.code = [0, 1, 2] ∧
    [FloorMode.direct, .queue, .override, .chair].map FloorMode.code = [0, 1, 2, 3] ∧
    [SlotState.free, .opening, .live, .closing].map SlotState.code = [0, 1, 2, 3] ∧
    [Warned.none, .warn, .over].map Warned.code = [0, 1, 2] ∧
    [some SlotReason.self, some .chair, some .mute, some .time, some .absent, some .override, some .limit,
      some .floorClosed].map slotReasonCode = [0, 1, 2, 3, 4, 5, 6, 7] ∧
    [Indication.off, .refused, .opening, .over, .warn, .live, .closing, .next, .request, .closed, .vacant, .idle].map
      Indication.code = [0, 1, 2, 3, 4, 5, 6, 7, 8, 9, 10, 11] ∧
    [CapturePhase.waitFirst, .waitInactive, .waitActive].map CapturePhase.code = [0, 1, 2] ∧
    [SourceState.none, .seeking, .live, .dropping].map SourceState.code = [0, 1, 2, 3] ∧
    [SourceClass.none, .id 1, .id 8, .unsupported].map SourceClass.code = [0, 1, 8, 9] ∧
    [ScreenMode.fixed, .followSpeaker, .followScreen, .blank].map ScreenMode.code = [0, 1, 2, 3] ∧
    [SettleState.steady, .settling].map SettleState.code = [0, 1] ∧
    [BankRole.published, .staging].map BankRole.code = [0, 1] ∧
    [BankState.empty, .filling, .checking, .ready, .faulty, .published].map BankState.code = [0, 1, 2, 3, 4, 5] ∧
    [BankFault.none, .range, .over, .overlap].map BankFault.code = [0, 1, 2, 3] ∧
    [EntryStatus.pending, .active, .done, .released, .missed, .cancelled].map EntryStatus.code = [0, 1, 2, 3, 4, 5] ∧
    [SessionKind.booked, .walkIn].map SessionKind.code = [0, 1] ∧
    [SessionState.awaiting, .inSession, .ending, .overtime, .windup].map SessionState.code = [0, 1, 2, 3, 4] ∧
    [CloseReason.ended, .vacated, .released, .chair, .cancelled, .preempted, .reset].map CloseReason.code =
      [0, 1, 2, 3, 4, 5, 6] ∧
    [Status.done, .notPermitted, .badRequest, .range, .state, .busy, .full, .short, .over, .overlap].map Status.code =
      [0, 1, 2, 3, 4, 5, 6, 7, 8, 9])

/-- NOTICE READ gives the port's flags, cause marks and mask and clears the flags and cause marks of that port alone;
its attention line is released (R190, R191). PORT RESET on a listening port is answered DONE: the port's flags and
cause marks are cleared and its mask takes its default (R190, R193). -/
def Obligations.NoticeReadAndPortResetClear : Prop :=
  (∀ (q : Port) (tag : Byte) (s : State),
      Readable s.part q →
      Settled s.part →
      Completes (.noticeRead q tag) s fun t =>
        Answered t q tag .done
          [b2 (s.part.port q).flags.toNat ++ [(s.part.port q).causes] ++ b2 (s.part.port q).mask.toNat] ∧
        t.notices q = (0, 0) ∧ (t.port q).attention = false ∧ (∀ a, a ≠ q → t.notices a = s.part.notices a) ∧
        SameBut [.requests q, .notices] s.part t) ∧
  (∀ (q : Port) (tag : Byte) (s : State),
      Listening s.part q →
      Settled s.part →
      Completes (.portReset q tag) s fun t =>
        Answered t q tag .done [[]] ∧ t.notices q = (0, 0) ∧
        (t.port q).mask =
          (match q with
            | .chair => 0b111011100
            | .room => 0b000011011
            | .av => 0b011000111) ∧
        (∀ a, a ≠ q → t.notices a = s.part.notices a ∧ t.maskOf a = s.part.maskOf a) ∧
        SameBut [.requests q, .notices, .masks] s.part t)

/-- NOTICE MASK: a payload with a mark set outside the nine is answered RANGE, and nothing changes. Otherwise the
port's mask is replaced, the attention line is tested afresh and the answer is DONE; the flags are not changed. The
response carries the mask in force after the request, whatever the status (R192). -/
def Obligations.NoticeMaskSets : Prop :=
  ∀ (q : Port) (tag : Byte) (mask : Half) (s : State),
    Listening s.part q →
    Settled s.part →
    (511 < mask.toNat →
      Completes (.noticeMask q tag mask) s fun t =>
        Answered t q tag .range [b2 (s.part.port q).mask.toNat] ∧ SameBut [.requests q] s.part t) ∧
    (mask.toNat ≤ 511 →
      Completes (.noticeMask q tag mask) s fun t =>
        Answered t q tag .done [b2 mask.toNat] ∧ (t.port q).mask.toNat = mask.toNat ∧
        (t.port q).attention = decide ((s.part.port q).flags &&& ~~~(t.port q).mask ≠ 0) ∧
        (∀ a, a ≠ q → t.maskOf a = s.part.maskOf a) ∧ SameBut [.requests q, .masks] s.part t)

/-! ### Requests of the chair port (chapter 4) -/

/-- GRANT naming seat s on an open floor (R68, R77): an eligible seat is granted the lowest FREE slot and leaves the
queue, or, with no slot available, is answered FULL and joins the queue if it can; another seat is answered STATE.
GRANT NEXT is GRANT naming the head: DONE with a slot available and an eligible head, FULL with none available and
the head staying, and STATE on a closed floor or an empty queue (R78). A new queue entry stands before the first
entry of a lower class, and the others keep their order (R65). -/
def Obligations.GrantRequests : Prop :=
  (∀ (tag n : Byte) (i : SeatId) (s : State),
      Listening s.part .chair →
      Settled s.part →
      n.toNat = i.val + 1 →
      ((s.part.flc.isOpen = false ∨ s.part.isDelegate i = false ∨ s.part.presentForKey i = false ∨
          (s.part.slotOf i).isSome = true) →
        Completes (.grant .chair tag n) s fun t =>
          Answered t .chair tag .state [[]] ∧ SameBut [.requests .chair] s.part t) ∧
      ((s.part.flc.isOpen = true ∧ s.part.isDelegate i = true ∧ s.part.presentForKey i = true ∧ s.part.slotOf i = none) →
        (∀ k, s.part.available = some k →
          Completes (.grant .chair tag n) s fun t =>
            Answered t .chair tag .done [[]] ∧ (t.slot k).state = .opening ∧ (t.slot k).holder = some i ∧
            (t.slot k).elapsed = 0 ∧ (t.slot k).warned = .none ∧ (t.slot k).reason = none ∧
            (t.slot k).gain = (s.part.slot k).gain ∧
            t.flc.queue = s.part.flc.queue.filter (fun e => e.seat ≠ i) ∧
            t.flc.openOrder = s.part.flc.openOrder ++ [k] ∧
            (t.seat i).counters.grants =
              (if s.part.ssu.session = none then (s.part.seat i).counters.grants
              else min ((s.part.seat i).counters.grants + 1) 65535) ∧
            (t.seat i).counters.requests = (s.part.seat i).counters.requests ∧
            (∀ j, j ≠ k → (t.slot j).state = (s.part.slot j).state ∧ (t.slot j).holder = (s.part.slot j).holder) ∧
            SameBut [.requests .chair, .seats, .slots, .queue, .openOrder, .notices] s.part t) ∧
        (s.part.available = none → (s.part.isQueued i = true ∨ 16 ≤ s.part.flc.queue.length) →
          Completes (.grant .chair tag n) s fun t =>
            Answered t .chair tag .full [[]] ∧ SameBut [.requests .chair] s.part t) ∧
        (s.part.available = none → s.part.isQueued i = false → s.part.flc.queue.length < 16 →
          Completes (.grant .chair tag n) s fun t =>
            Answered t .chair tag .full [[]] ∧
            t.flc.queue = Part.insertEntry
              ⟨i, (s.part.seat i).priority, false, s.part.flc.nextNumber, s.part.flc.seconds⟩ s.part.flc.queue ∧
            t.flc.nextNumber = s.part.flc.nextNumber + 1 ∧
            SameBut [.requests .chair, .queue, .nextNumber, .notices] s.part t))) ∧
  (∀ (tag : Byte) (s : State),
      Listening s.part .chair →
      Settled s.part →
      ((s.part.flc.isOpen = false ∨ s.part.flc.queue = []) →
        Completes (.grantNext .chair tag) s fun t =>
          Answered t .chair tag .state [[]] ∧ SameBut [.requests .chair] s.part t) ∧
      (∀ e ∈ s.part.flc.queue.head?, s.part.flc.isOpen = true → s.part.isDelegate e.seat = true →
        s.part.presentForKey e.seat = true → s.part.slotOf e.seat = none →
        (s.part.available = none →
          Completes (.grantNext .chair tag) s fun t =>
            Answered t .chair tag .full [[]] ∧ SameBut [.requests .chair] s.part t) ∧
        (∀ k, s.part.available = some k →
          Completes (.grantNext .chair tag) s fun t =>
            Answered t .chair tag .done [[]] ∧ (t.slot k).state = .opening ∧ (t.slot k).holder = some e.seat ∧
            t.flc.queue = s.part.flc.queue.filter (fun x => x.seat ≠ e.seat) ∧
            SameBut [.requests .chair, .seats, .slots, .queue, .openOrder, .notices] s.part t))) ∧
  (∀ (e : QueueEntry) (l : List QueueEntry),
      ∃ a b : List QueueEntry, l = a ++ b ∧ Part.insertEntry e l = a ++ e :: b ∧
        (∀ x ∈ a, Part.classRank x ≤ Part.classRank e) ∧ (∀ x ∈ b.head?, Part.classRank e < Part.classRank x))

/-- CLOSE naming seat s: a slot in OPENING or LIVE that s holds closes with reason CHAIR and the answer is DONE, for
the chair seat and the chair slot as for a delegate; with a CLOSING slot or no slot the answer is STATE and nothing
changes. CLOSE does not remove a queue entry (R79). -/
def Obligations.CloseRequests : Prop :=
  ∀ (tag n : Byte) (i : SeatId) (s : State),
    Listening s.part .chair →
    Settled s.part →
    n.toNat = i.val + 1 →
    (∀ k, s.part.slotOf i = some k → Part.isOpenState (s.part.slot k).state = true →
      Completes (.close .chair tag n) s fun t =>
        Answered t .chair tag .done [[]] ∧ (t.slot k).state = .closing ∧ (t.slot k).reason = some .chair ∧
        (t.slot k).holder = some i ∧ (t.slot k).elapsed = (s.part.slot k).elapsed ∧
        (t.slot k).warned = (s.part.slot k).warned ∧
        t.flc.openOrder = s.part.flc.openOrder.filter (fun j => j ≠ k) ∧
        SameBut [.requests .chair, .slots, .openOrder, .screens, .speakers, .notices] s.part t) ∧
    ((∀ k ∈ s.part.slotOf i, Part.isOpenState (s.part.slot k).state = false) →
      Completes (.close .chair tag n) s fun t =>
        Answered t .chair tag .state [[]] ∧ SameBut [.requests .chair] s.part t)

/-- CANCEL names a seat s. When s has a queue entry, the entry is removed and the answer is DONE. When it has none,
the answer is STATE. CANCEL ALL removes every entry and is answered DONE, also on an empty queue, where it changes
nothing and raises no notice. Neither request changes a slot or a counter, and neither runs auto-advance (R80). -/
def Obligations.CancelRequests : Prop :=
  ∀ (tag n : Byte) (i : SeatId) (s : State),
    Listening s.part .chair →
    Settled s.part →
    n.toNat = i.val + 1 →
    ((∃ e ∈ s.part.flc.queue, e.seat = i) →
      Completes (.cancel .chair tag n) s fun t =>
        Answered t .chair tag .done [[]] ∧ t.flc.queue = s.part.flc.queue.filter (fun e => e.seat ≠ i) ∧
        SameBut [.requests .chair, .queue, .notices] s.part t) ∧
    ((∀ e ∈ s.part.flc.queue, e.seat ≠ i) →
      Completes (.cancel .chair tag n) s fun t =>
        Answered t .chair tag .state [[]] ∧ SameBut [.requests .chair] s.part t) ∧
    Completes (.cancelAll .chair tag) s (fun t =>
      Answered t .chair tag .done [[]] ∧ t.flc.queue = [] ∧ SameBut [.requests .chair, .queue, .notices] s.part t ∧
      (s.part.flc.queue = [] → SameBut [.requests .chair] s.part t))

/-- MUTE ALL is answered DONE: every delegate slot in OPENING or LIVE closes with reason MUTE, the chair slot,
CLOSING and FREE slots and the queue are left; with nothing open it changes nothing (R81). SET MODE replaces the mode
and clears every override mark, entries keeping their places; an unknown mode is RANGE. Where auto-advance runs and a
slot is available, the head is granted the lowest FREE slot (R70, R82). -/
def Obligations.MuteAllAndSetMode : Prop :=
  (∀ (tag : Byte) (s : State),
      Listening s.part .chair →
      Settled s.part →
      Completes (.muteAll .chair tag) s fun t =>
        Answered t .chair tag .done [[]] ∧
        (∀ k : SlotId, (t.slot k).holder = (s.part.slot k).holder ∧
          (k ≠ 0 ∧ Part.isOpenState (s.part.slot k).state = true →
            (t.slot k).state = .closing ∧ (t.slot k).reason = some .mute ∧ k ∉ t.flc.openOrder) ∧
          (k = 0 ∨ Part.isOpenState (s.part.slot k).state = false →
            (t.slot k).state = (s.part.slot k).state ∧ (t.slot k).reason = (s.part.slot k).reason)) ∧
        SameBut [.requests .chair, .slots, .openOrder, .screens, .speakers, .notices] s.part t ∧
        (s.part.openCount = 0 → SameBut [.requests .chair] s.part t)) ∧
  (∀ (tag n : Byte) (s : State),
      Listening s.part .chair →
      Settled s.part →
      (3 < n.toNat →
        Completes (.setMode .chair tag n) s fun t =>
          Answered t .chair tag .range [[]] ∧ SameBut [.requests .chair] s.part t) ∧
      (∀ m ∈ floorModeOf n.toNat,
        ((s.part.flc.isOpen = false ∨ m = .chair ∨ s.part.available = none) →
          Completes (.setMode .chair tag n) s fun t =>
            Answered t .chair tag .done [[]] ∧ t.flc.mode = m ∧
            t.flc.queue = s.part.flc.queue.map (fun e => { e with override := false }) ∧
            SameBut [.requests .chair, .floorMode, .queue, .notices] s.part t) ∧
        (∀ k, ∀ e ∈ s.part.flc.queue.head?, s.part.flc.isOpen = true → m ≠ .chair → s.part.available = some k →
          Completes (.setMode .chair tag n) s fun t =>
            Answered t .chair tag .done [[]] ∧ t.flc.mode = m ∧ (t.slot k).state = .opening ∧
            (t.slot k).holder = some e.seat ∧ (∀ x ∈ t.flc.queue, x.seat ≠ e.seat ∧ x.override = false) ∧
            SameBut [.requests .chair, .floorMode, .queue, .seats, .slots, .openOrder, .notices] s.part t)))

/-- SET LIMIT takes a limit clamped to 1 to 6. With more slots open than the new limit, the newest grants close with
reason LIMIT, the tail of the open order first, and the queue is left; a raised limit lets auto-advance grant the
head of the queue the lowest FREE slot (R70, R83). SET SPEAK LIMIT: a limit above 3600 is RANGE; 1 to 9 is taken as
10. Every open delegate slot is evaluated against it at once: OVER at the limit, WARN within the effective lead, and
with enforce an OVER slot closes with reason TIME (R84, R87). That an enforce byte that is neither value is RANGE too
is the model's choice (assumption 24, from section 4.1 of the introduction). -/
def Obligations.SetLimitAndSpeakLimit : Prop :=
  (∀ (tag n : Byte) (s : State),
      Listening s.part .chair →
      Settled s.part →
      Completes (.setLimit .chair tag n) s fun t =>
        Answered t .chair tag .done [[]] ∧ t.flc.limit = max 1 (min 6 n.toNat) ∧
        SameBut [.requests .chair, .floorLimit, .queue, .seats, .slots, .openOrder, .screens, .speakers, .notices]
          s.part t ∧
        (t.flc.limit < s.part.openCount →
          t.flc.queue = s.part.flc.queue ∧
          (∀ k ∈ s.part.flc.openOrder.reverse.take (s.part.openCount - t.flc.limit),
            Part.isOpenState (s.part.slot k).state = true →
            (t.slot k).state = .closing ∧ (t.slot k).reason = some .limit) ∧
          (∀ k, k ∉ s.part.flc.openOrder.reverse.take (s.part.openCount - t.flc.limit) →
            (t.slot k).state = (s.part.slot k).state)) ∧
        (∀ k, ∀ e ∈ s.part.flc.queue.head?, s.part.flc.limit < t.flc.limit → s.part.flc.isOpen = true →
          s.part.flc.mode ≠ .chair → s.part.openCount < t.flc.limit → s.part.freeSlot = some k →
          (t.slot k).state = .opening ∧ (t.slot k).holder = some e.seat ∧ t.isQueued e.seat = false) ∧
        (s.part.flc.limit < t.flc.limit → s.part.openCount ≤ t.flc.limit →
          (s.part.flc.isOpen = false ∨ s.part.flc.mode = .chair ∨ s.part.flc.queue = []) →
          SameBut [.requests .chair, .floorLimit, .notices] s.part t) ∧
        (t.flc.limit = s.part.flc.limit → s.part.openCount ≤ t.flc.limit → SameBut [.requests .chair] s.part t)) ∧
  (∀ (tag e : Byte) (n : Half) (s : State),
      Listening s.part .chair →
      Settled s.part →
      ((3600 < n.toNat ∨ 1 < e.toNat) →
        Completes (.setSpeakLimit .chair tag n e) s fun t =>
          Answered t .chair tag .range [[]] ∧ SameBut [.requests .chair] s.part t) ∧
      (n.toNat ≤ 3600 → e.toNat ≤ 1 →
        Completes (.setSpeakLimit .chair tag n e) s fun t =>
          Answered t .chair tag .done [[]] ∧
          t.flc.speak = (if n.toNat = 0 then 0 else max 10 n.toNat) ∧ t.flc.enforce = decide (e.toNat = 1) ∧
          (∀ k : SlotId, k ≠ 0 → Part.isOpenState (s.part.slot k).state = true →
            ((t.slot k).warned = .over ↔ t.flc.speak ≠ 0 ∧ t.flc.speak ≤ (s.part.slot k).elapsed) ∧
            ((t.slot k).warned = .warn ↔ t.flc.speak ≠ 0 ∧ (s.part.slot k).elapsed < t.flc.speak ∧
              t.flc.speak ≤ (s.part.slot k).elapsed + min s.part.flc.lead (t.flc.speak / 2)) ∧
            ((t.slot k).state = .closing ↔ (t.slot k).warned = .over ∧ t.flc.enforce = true)) ∧
          (∀ k : SlotId, k = 0 ∨ Part.isOpenState (s.part.slot k).state = false →
            (t.slot k).state = (s.part.slot k).state ∧ (t.slot k).warned = (s.part.slot k).warned) ∧
          SameBut [.requests .chair, .floorSpeak, .slots, .openOrder, .screens, .speakers, .notices] s.part t))

/-- PRESS naming a delegate seat (R71, R72, R74, R85): STATE for a seat that is not installed, and for an idle seat
that is VACANT and requires presence; STATE with the REFUSED indication on a closed floor and for a seat whose slot
is CLOSING; FULL with it for an idle seat and a full queue in QUEUE and CHAIR mode, and in DIRECT and OVERRIDE with
no slot available; a queued seat's request is withdrawn; an open slot closes with reason SELF; an idle seat in CHAIR
mode joins the queue and its request is counted. The outcome byte is the model's choice (assumption 21). A new
request by PRESS in the modes that open slots (R67, R68, R70, R72, R73): in DIRECT and OVERRIDE with a slot
available, and in QUEUE with one available and nobody waiting, the seat is granted it; with none available it joins
the queue in DIRECT and QUEUE, and in OVERRIDE when no slot is LIVE. In OVERRIDE with the limit reached and a LIVE
slot, the first of the open order closes with reason OVERRIDE, and the seat, whose entry carries the override mark,
is granted the lowest FREE slot, or stands in the queue when none is FREE or an entry with the mark stands at its
head, which is then granted the slot. In QUEUE with others waiting and a slot available that takes the open slots to
the limit, the seat joins and the head of the queue is granted the slot. The request is counted. That a seat which
joins and is granted at the same event is answered OPENED is the model's reading (assumption 57). PRESS naming the
chair seat is a chair toggle: on an open floor a FREE or CLOSING chair slot goes OPENING for the chair seat, and an
open one closes with reason SELF; on a closed floor it is STATE with the REFUSED indication, and no counter changes
(R75, R85). That R75 and not R85 says whether this refusal is counted is the model's reading (assumption 53). A seat
number of 0 or above 20 in GRANT, CLOSE, CANCEL or PRESS is answered RANGE, and nothing changes (chapter 4, chair
requests: R77, R79, R80, R85). -/
def Obligations.PressActsAsKey : Prop :=
  (∀ (tag n : Byte) (i : SeatId) (s : State),
      Listening s.part .chair →
      Settled s.part →
      n.toNat = i.val + 1 →
      i ≠ s.part.chairSeat →
      ((s.part.seat i).installed = false →
        Completes (.press .chair tag n) s fun t =>
          Answered t .chair tag .state [[]] ∧ SameBut [.requests .chair] s.part t) ∧
      ((s.part.seat i).installed = true → s.part.flc.isOpen = false →
        Completes (.press .chair tag n) s fun t =>
          Answered t .chair tag .state [[]] ∧ t.sgu.refused.get i = 1000 ∧
          (t.seat i).counters.refused =
            (if s.part.ssu.session = none then (s.part.seat i).counters.refused
            else min ((s.part.seat i).counters.refused + 1) 65535) ∧
          SameBut [.requests .chair, .refused, .seats] s.part t) ∧
      (∀ k, (s.part.seat i).installed = true → s.part.flc.isOpen = true → s.part.isQueued i = false →
        s.part.slotOf i = some k → (s.part.slot k).state = .closing →
        Completes (.press .chair tag n) s fun t =>
          Answered t .chair tag .state [[]] ∧ t.sgu.refused.get i = 1000 ∧
          (t.seat i).counters.refused =
            (if s.part.ssu.session = none then (s.part.seat i).counters.refused
            else min ((s.part.seat i).counters.refused + 1) 65535) ∧
          SameBut [.requests .chair, .refused, .seats] s.part t) ∧
      ((s.part.seat i).installed = true → s.part.flc.isOpen = true → s.part.isQueued i = false → s.part.slotOf i = none →
        (s.part.seat i).presence = .vacant → (s.part.seat i).presenceRequired = true →
        Completes (.press .chair tag n) s fun t =>
          Answered t .chair tag .state [[]] ∧ SameBut [.requests .chair] s.part t) ∧
      ((s.part.seat i).installed = true → s.part.flc.isOpen = true → s.part.isQueued i = false → s.part.slotOf i = none →
        s.part.presentForKey i = true → (s.part.flc.mode = .queue ∨ s.part.flc.mode = .chair ∨ s.part.available = none) →
        16 ≤ s.part.flc.queue.length →
        Completes (.press .chair tag n) s fun t =>
          Answered t .chair tag .full [[]] ∧ t.sgu.refused.get i = 1000 ∧
          (t.seat i).counters.refused =
            (if s.part.ssu.session = none then (s.part.seat i).counters.refused
            else min ((s.part.seat i).counters.refused + 1) 65535) ∧
          SameBut [.requests .chair, .refused, .seats] s.part t) ∧
      ((s.part.seat i).installed = true → s.part.flc.isOpen = true → s.part.isQueued i = true →
        Completes (.press .chair tag n) s fun t =>
          Answered t .chair tag .done [[2]] ∧ t.flc.queue = s.part.flc.queue.filter (fun e => e.seat ≠ i) ∧
          SameBut [.requests .chair, .queue, .notices] s.part t) ∧
      (∀ k, (s.part.seat i).installed = true → s.part.flc.isOpen = true → s.part.isQueued i = false →
        s.part.slotOf i = some k → Part.isOpenState (s.part.slot k).state = true →
        Completes (.press .chair tag n) s fun t =>
          Answered t .chair tag .done [[1]] ∧ (t.slot k).state = .closing ∧ (t.slot k).reason = some .self ∧
          SameBut [.requests .chair, .slots, .openOrder, .screens, .speakers, .notices] s.part t) ∧
      ((s.part.seat i).installed = true → s.part.flc.isOpen = true → s.part.isQueued i = false → s.part.slotOf i = none →
        s.part.presentForKey i = true → s.part.flc.mode = .chair → s.part.flc.queue.length < 16 →
        Completes (.press .chair tag n) s fun t =>
          Answered t .chair tag .done [[3]] ∧
          t.flc.queue = Part.insertEntry
            ⟨i, (s.part.seat i).priority, false, s.part.flc.nextNumber, s.part.flc.seconds⟩ s.part.flc.queue ∧
          (t.seat i).counters.requests =
            (if s.part.ssu.session = none then (s.part.seat i).counters.requests
            else min ((s.part.seat i).counters.requests + 1) 65535) ∧
          SameBut [.requests .chair, .queue, .nextNumber, .seats, .notices] s.part t)) ∧
  (∀ (tag n : Byte) (i : SeatId) (s : State),
      Listening s.part .chair →
      Settled s.part →
      (n.toNat = i.val + 1 ∧ i ≠ s.part.chairSeat) →
      ((s.part.seat i).installed = true ∧ s.part.flc.isOpen = true ∧ s.part.isQueued i = false ∧ s.part.slotOf i = none ∧
        s.part.presentForKey i = true) →
      (∀ k, s.part.available = some k → s.part.flc.mode ≠ .chair → (s.part.flc.mode = .queue → s.part.flc.queue = []) →
        Completes (.press .chair tag n) s fun t =>
          Answered t .chair tag .done [[0]] ∧ (t.slot k).state = .opening ∧ (t.slot k).holder = some i ∧
          (t.slot k).elapsed = 0 ∧ t.flc.openOrder = s.part.flc.openOrder ++ [k] ∧ t.isQueued i = false ∧
          t.flc.queue = s.part.flc.queue ∧
          (t.seat i).counters.requests =
            (if s.part.ssu.session = none then (s.part.seat i).counters.requests
            else min ((s.part.seat i).counters.requests + 1) 65535) ∧
          SameBut [.requests .chair, .queue, .nextNumber, .seats, .slots, .openOrder, .notices] s.part t) ∧
      (s.part.available = none → s.part.flc.queue.length < 16 →
        (s.part.flc.mode = .direct ∨ s.part.flc.mode = .queue ∨
          (s.part.flc.mode = .override ∧ ∀ k ∈ s.part.flc.openOrder, (s.part.slot k).state ≠ .live)) →
        Completes (.press .chair tag n) s fun t =>
          Answered t .chair tag .done [[3]] ∧
          t.flc.queue = Part.insertEntry
            ⟨i, (s.part.seat i).priority, false, s.part.flc.nextNumber, s.part.flc.seconds⟩ s.part.flc.queue ∧
          (t.seat i).counters.requests =
            (if s.part.ssu.session = none then (s.part.seat i).counters.requests
            else min ((s.part.seat i).counters.requests + 1) 65535) ∧
          SameBut [.requests .chair, .queue, .nextNumber, .seats, .notices] s.part t) ∧
      (∀ k, s.part.flc.mode = .override → s.part.available = none → s.part.flc.queue.length < 16 →
        s.part.flc.openOrder.find? (fun j => (s.part.slot j).state = .live) = some k → k ≠ 0 →
        s.part.openCount ≤ s.part.flc.limit →
        Completes (.press .chair tag n) s fun t =>
          (t.slot k).state = .closing ∧ (t.slot k).reason = some .override ∧ k ∉ t.flc.openOrder ∧
          (∀ j, s.part.freeSlot = some j → (∀ e ∈ s.part.flc.queue, e.override = false) →
            Answered t .chair tag .done [[0]] ∧ (t.slot j).state = .opening ∧ (t.slot j).holder = some i ∧
            t.flc.queue = s.part.flc.queue) ∧
          (∀ j, ∀ e ∈ s.part.flc.queue.head?, s.part.freeSlot = some j → e.override = true →
            Answered t .chair tag .done [[3]] ∧ (t.slot j).state = .opening ∧ (t.slot j).holder = some e.seat ∧
            t.isQueued i = true) ∧
          (s.part.freeSlot = none → Answered t .chair tag .done [[3]] ∧
            t.flc.queue = Part.insertEntry
              ⟨i, (s.part.seat i).priority, true, s.part.flc.nextNumber, s.part.flc.seconds⟩ s.part.flc.queue) ∧
          SameBut [.requests .chair, .queue, .nextNumber, .seats, .slots, .openOrder, .screens, .speakers, .notices]
            s.part t) ∧
      (∀ k, ∀ e ∈ (Part.insertEntry ⟨i, (s.part.seat i).priority, false, s.part.flc.nextNumber, s.part.flc.seconds⟩
          s.part.flc.queue).head?, s.part.flc.mode = .queue → s.part.available = some k → s.part.flc.queue ≠ [] →
        s.part.flc.queue.length < 16 → s.part.openCount + 1 = s.part.flc.limit →
        Completes (.press .chair tag n) s fun t =>
          Answered t .chair tag .done [[if e.seat = i then 0 else 3]] ∧ (t.slot k).state = .opening ∧
          (t.slot k).holder = some e.seat ∧ (t.slot k).elapsed = 0 ∧ t.flc.openOrder = s.part.flc.openOrder ++ [k] ∧
          t.flc.queue = (Part.insertEntry
            ⟨i, (s.part.seat i).priority, false, s.part.flc.nextNumber, s.part.flc.seconds⟩
            s.part.flc.queue).filter (fun x => x.seat ≠ e.seat) ∧
          (t.seat i).counters.requests =
            (if s.part.ssu.session = none then (s.part.seat i).counters.requests
            else min ((s.part.seat i).counters.requests + 1) 65535) ∧
          SameBut [.requests .chair, .queue, .nextNumber, .seats, .slots, .openOrder, .notices] s.part t)) ∧
  (∀ (tag n : Byte) (s : State),
      Listening s.part .chair →
      Settled s.part →
      (n.toNat = s.part.chairSeat.val + 1 ∧ (s.part.seat s.part.chairSeat).installed = true) →
      (s.part.flc.isOpen = false →
        Completes (.press .chair tag n) s fun t =>
          Answered t .chair tag .state [[]] ∧ t.sgu.refused.get s.part.chairSeat = 1000 ∧
          SameBut [.requests .chair, .refused] s.part t) ∧
      (s.part.flc.isOpen = true →
        Completes (.press .chair tag n) s fun t =>
          (Part.isOpenState (s.part.slot 0).state = true →
            Answered t .chair tag .done [[1]] ∧ (t.slot 0).state = .closing ∧ (t.slot 0).reason = some .self) ∧
          (Part.isOpenState (s.part.slot 0).state = false →
            Answered t .chair tag .done [[0]] ∧ (t.slot 0).state = .opening ∧
            (t.slot 0).holder = some s.part.chairSeat ∧ (t.slot 0).elapsed = 0 ∧ (t.slot 0).reason = none ∧
            (t.slot 0).gain = (s.part.slot 0).gain) ∧
          SameBut [.requests .chair, .slots, .openOrder, .screens, .speakers, .notices] s.part t)) ∧
  (∀ (tag n : Byte) (c : Instr) (s : State),
      Listening s.part .chair →
      Settled s.part →
      (n = 0 ∨ 20 < n.toNat) →
      c ∈ [Instr.grant .chair tag n, .close .chair tag n, .cancel .chair tag n, .press .chair tag n] →
      Completes c s fun t => Answered t .chair tag .range [[]] ∧ SameBut [.requests .chair] s.part t)

/-- END, which the chair port and the room link may make: STATE with no session or in WINDUP; otherwise, also in
AWAITING, the session goes to WINDUP with reason CHAIR and the floor closes, and with every slot FREE it closes at
once (R63, R169, R173, R174, R178). -/
def Obligations.EndStartsWindup : Prop :=
  ∀ (q : Port) (tag : Byte) (s : State),
    Listening s.part q →
    Settled s.part →
    q ≠ .av →
    ((∀ x ∈ s.part.ssu.session, x.state = .windup) →
      Completes (.endSession q tag) s fun t => Answered t q tag .state [[]] ∧ SameBut [.requests q] s.part t) ∧
    (∀ x ∈ s.part.ssu.session, x.state ≠ .windup → s.part.allFree = false →
      Completes (.endSession q tag) s fun t =>
        Answered t q tag .done [[]] ∧ t.ssu.session = some { x with state := .windup, reason := some .chair } ∧
        t.flc.isOpen = false ∧ t.flc.queue = [] ∧ t.flc.openOrder = [] ∧
        (∀ k, (s.part.slot k).state ≠ .free → (t.slot k).state = .closing ∧ (t.slot k).reason = some .floorClosed)) ∧
    (∀ x ∈ s.part.ssu.session, x.state ≠ .windup → s.part.allFree = true → s.part.ssu.pendingStart = none →
      s.part.ssu.params.dwell ≠ 0 →
      Completes (.endSession q tag) s fun t =>
        Answered t q tag .done [[]] ∧ t.ssu.session = none ∧ t.flc.isOpen = false ∧ t.flc.queue = [] ∧
        (∃ y ∈ t.ssu.store.getLast?, y.reason = .chair ∧ y.number = s.part.ssu.nextSummary ∧
          y.booking = x.booking) ∧
        (∀ a, (t.port a).flags &&& 0xA0 = 0xA0))

/-! ### Requests of the room link -/

/-- CLOCK SET: a minute above 1439 or a second above 59 is RANGE; otherwise the clock stands at the values given and
is valid (R143). At the clock jump the entries of the published bank keep their bookings when no READY bank's day has
come, and those PENDING whose end the new time has reached become MISSED, these alone; no entry returns from a final
status (R143, R144). A READY staging bank whose day is at or before the new today is swapped in at the jump, with no
session every entry whose end is reached MISSED; otherwise the banks keep their roles and the staging bank stands
(R143, R156). At the jump a pending start is dropped when its entry is not PENDING any more, and kept while it is,
until another entry is found due (R143, R164, R171). With no session and no pending start the entry into whose
interval the clock jumps opens, with what of it remains, and in WAKING becomes the pending start (R143, R164, R165,
R171). A running session takes its stage test at the new time, back to IN_SESSION or ENDING too, its timers kept, and
ends at the grace end through WINDUP with reason END; one in AWAITING closes with reason RELEASED when its end is
reached and stands otherwise; and an entry due before the end of a running session preempts it (R143, R162, R164,
R166, R171, R173, R174). -/
def Obligations.ClockSetSets : Prop :=
  (∀ (tag sec : Byte) (day minute : Half) (s : State),
      Listening s.part .room →
      Settled s.part →
      ((1439 < minute.toNat ∨ 59 < sec.toNat) →
        Completes (.clockSet .room tag day minute sec) s fun t =>
          Answered t .room tag .range [[]] ∧ SameBut [.requests .room] s.part t) ∧
      (minute.toNat ≤ 1439 → sec.toNat ≤ 59 →
        Completes (.clockSet .room tag day minute sec) s fun t =>
          Answered t .room tag .done [[]] ∧ t.sch.clock = ⟨day.toNat, minute.toNat, sec.toNat, true⟩ ∧
          (∀ q, (t.port q).flags &&& 64 ≠ 0))) ∧
  (∀ (tag sec : Byte) (day minute : Half) (p : Part) (s : State),
      Listening s.part .room →
      Settled s.part →
      (minute.toNat ≤ 1439 ∧ sec.toNat ≤ 59 ∧ p = s.part.setClock ⟨day.toNat, minute.toNat, sec.toNat, true⟩) →
      (s.part.staging.state ≠ .ready ∨ day.toNat < s.part.staging.day) →
      s.part.published.state = .published →
      Completes (.clockSet .room tag day minute sec) s fun t =>
        t.publishedIsA = s.part.publishedIsA ∧ t.published.entries.length = s.part.published.entries.length ∧
        ∀ n : Fin s.part.published.entries.length, ∃ y ∈ t.published.entries[n.val]?,
          y.booking = s.part.published.entries[n].booking ∧
          (y.status = .missed ↔ s.part.published.entries[n].status = .missed ∨
            (s.part.published.entries[n].status = .pending ∧
              s.part.published.day * 1440 + s.part.published.entries[n].booking.stop ≤ p.now))) ∧
  (∀ (tag sec : Byte) (day minute : Half) (p : Part) (s : State),
      Listening s.part .room →
      Settled s.part →
      (minute.toNat ≤ 1439 ∧ sec.toNat ≤ 59 ∧ p = s.part.setClock ⟨day.toNat, minute.toNat, sec.toNat, true⟩) →
      s.part.sch.bankA.role ≠ s.part.sch.bankB.role →
      Completes (.clockSet .room tag day minute sec) s fun t =>
        (s.part.staging.state = .ready → s.part.staging.day ≤ day.toNat →
          t.publishedIsA = (!s.part.publishedIsA) ∧ t.published.state = .published ∧
          t.published.day = s.part.staging.day ∧
          t.published.entries.map (fun e => e.booking) = s.part.staging.entries.map (fun e => e.booking) ∧
          t.staging.state = .empty ∧ t.staging.entries = [] ∧
          ((∀ e ∈ s.part.staging.entries, e.status = .pending) → s.part.ssu.session = none →
            ∀ e ∈ t.published.entries, s.part.staging.day * 1440 + e.booking.stop ≤ p.now → e.status = .missed)) ∧
        (s.part.staging.state ≠ .ready ∨ day.toNat < s.part.staging.day →
          t.publishedIsA = s.part.publishedIsA ∧ t.staging = s.part.staging ∧ t.published.day = s.part.published.day)) ∧
  (∀ (tag sec : Byte) (day minute : Half) (id : Nat) (p : Part) (s : State),
      Listening s.part .room →
      Settled s.part →
      (minute.toNat ≤ 1439 ∧ sec.toNat ≤ 59 ∧ p = s.part.setClock ⟨day.toNat, minute.toNat, sec.toNat, true⟩) →
      (s.part.staging.state ≠ .ready ∨ day.toNat < s.part.staging.day) →
      s.part.published.state = .published →
      (s.part.ssu.pendingStart = some id ∧ s.part.ssu.session = none ∧ s.part.ssu.params.dwell ≠ 0) →
      Completes (.clockSet .room tag day minute sec) s fun t =>
        ((∀ e ∈ s.part.published.entries, e.booking.id = id → e.status = .pending →
            s.part.published.day * 1440 + e.booking.stop ≤ p.now) → p.dueEntry = none →
          t.ssu.pendingStart = none ∧ t.ssu.session = none) ∧
        ((∃ e ∈ s.part.published.entries, e.booking.id = id ∧ e.status = .pending ∧
            p.now < s.part.published.day * 1440 + e.booking.stop) → (∀ e ∈ p.dueEntry, e.booking.id = id) →
          t.ssu.pendingStart = some id ∧ t.ssu.session = none)) ∧
  (∀ (tag sec : Byte) (day minute : Half) (e : Entry) (p : Part) (s : State),
      Listening s.part .room →
      Settled s.part →
      (minute.toNat ≤ 1439 ∧ sec.toNat ≤ 59 ∧ p = s.part.setClock ⟨day.toNat, minute.toNat, sec.toNat, true⟩) →
      (s.part.staging.state ≠ .ready ∨ day.toNat < s.part.staging.day) →
      (s.part.published.state = .published ∧ s.part.published.day = day.toNat) →
      s.part.published.entries.find? (fun x => x.status = .pending ∧ x.booking.start ≤ minute.toNat ∧
        minute.toNat < x.booking.stop) = some e →
      (s.part.ssu.session = none ∧ s.part.ssu.pendingStart = none ∧ minute.toNat + s.part.ssu.params.warning < e.booking.stop) →
      Completes (.clockSet .room tag day minute sec) s fun t =>
        (s.part.pwu.power = .waking → t.ssu.session = none ∧ t.ssu.pendingStart = some e.booking.id) ∧
        (s.part.pwu.power = .active → t.ssu.pendingStart = none ∧ t.ssu.dwell = 0 ∧
          (∃ x ∈ t.ssu.session, x.kind = .booked ∧ x.booking = some e.booking.id ∧ x.copy = some e.booking ∧
            x.openDay = day.toNat ∧ x.openMinute = minute.toNat ∧ x.effEnd = day.toNat * 1440 + e.booking.stop ∧
            (e.booking.checkIn = false ∨ e.booking.quorum ≤ s.part.smn.occupied → x.state = .inSession ∧ t.flc.isOpen = true) ∧
            (e.booking.checkIn = true → s.part.smn.occupied < e.booking.quorum → x.state = .awaiting)) ∧
          (∃ y ∈ t.published.entries, y.booking = e.booking ∧ y.status = .active) ∧
          t.flc.mode = e.booking.floor.mode ∧
          (∀ k, (t.screen k).set = (s.part.rtu.presets.get e.booking.screen).get k))) ∧
  (∀ (tag sec : Byte) (day minute : Half) (x : Session) (graceEnd : Nat) (p : Part) (s : State),
      Listening s.part .room →
      Settled s.part →
      (minute.toNat ≤ 1439 ∧ sec.toNat ≤ 59 ∧ p = s.part.setClock ⟨day.toNat, minute.toNat, sec.toNat, true⟩) →
      (s.part.staging.state ≠ .ready ∨ day.toNat < s.part.staging.day) →
      (s.part.ssu.session = some x ∧ s.part.ssu.pendingStart = none ∧ s.part.ssu.params.dwell ≠ 0) →
      graceEnd = (if p.nextStart < 1440 then
        min (x.effEnd + s.part.ssu.params.overtime) (p.sch.clock.day * 1440 + p.nextStart)
        else x.effEnd + s.part.ssu.params.overtime) →
      Completes (.clockSet .room tag day minute sec) s fun t =>
        (Part.runningState x.state = true → p.dueEntry = none → (p.now < x.effEnd ∨ p.now < graceEnd) →
          t.ssu.session = some { x with state := if x.effEnd ≤ p.now then .overtime
            else if x.effEnd ≤ p.now + s.part.ssu.params.warning then .ending else .inSession }) ∧
        (Part.runningState x.state = true → p.dueEntry = none → x.effEnd ≤ p.now → graceEnd ≤ p.now →
          t.flc.isOpen = false ∧ t.flc.queue = [] ∧
          (s.part.allFree = false → t.ssu.session = some { x with state := .windup, reason := some .ended }) ∧
          (s.part.allFree = true → t.ssu.session = none ∧
            ∃ y ∈ t.ssu.store.getLast?, y.reason = .ended ∧ y.number = s.part.ssu.nextSummary)) ∧
        (x.state = .awaiting → p.dueEntry = none →
          if p.now < x.effEnd then t.ssu.session = some x
          else t.ssu.session = none ∧ ∃ y ∈ t.ssu.store.getLast?, y.reason = .released ∧
            y.number = s.part.ssu.nextSummary ∧ y.booking = x.booking) ∧
        (Part.runningState x.state = true → ∀ e ∈ p.dueEntry, p.now < x.effEnd → s.part.allFree = false →
          t.ssu.pendingStart = some e.booking.id ∧ t.flc.isOpen = false ∧
          ∃ y ∈ t.ssu.session, y.state = .windup ∧ y.reason = some .preempted ∧ y.booking = x.booking))

/-- BANK OPEN: BUSY while the staging bank is CHECKING, RANGE for a count above 32 or a mark that is neither;
otherwise the staging bank is cleared and takes the day and the count, FILLING, or CHECKING at once for an empty bank
that publishes itself (R151). BOOKING ENTRY on a FILLING bank appends a good entry as PENDING and counts it; a field
out of range, or an entry beyond the declared count, makes the bank FAULTY; in another state it is refused (R147,
R152). The fields of a booking entry as taken (R147, R197): the payload's numbers, the limit clamped to 1 to 6, a
speaking limit of 1 to 9 taken as 10, a window of 0 as 1, the quorum clamped to the installed seats; and which
payloads are in range. -/
def Obligations.BankOpenAndEntriesFill : Prop :=
  (∀ (tag count auto : Byte) (day : Half) (s : State),
      Listening s.part .room →
      Settled s.part →
      s.part.sch.bankA.role ≠ s.part.sch.bankB.role →
      (s.part.staging.state = .checking →
        Completes (.bankOpen .room tag day count auto) s fun t =>
          Answered t .room tag .busy [[]] ∧ SameBut [.requests .room] s.part t) ∧
      (s.part.staging.state ≠ .checking → (32 < count.toNat ∨ 1 < auto.toNat) →
        Completes (.bankOpen .room tag day count auto) s fun t =>
          Answered t .room tag .range [[]] ∧ SameBut [.requests .room] s.part t) ∧
      (s.part.staging.state ≠ .checking → count.toNat ≤ 32 → auto.toNat ≤ 1 →
        Completes (.bankOpen .room tag day count auto) s fun t =>
          Answered t .room tag .done [[]] ∧ t.published = s.part.published ∧
          t.staging = ⟨.staging, if count = 0 ∧ auto = 1 then .checking else .filling, day.toNat, count.toNat, 0,
            decide (auto.toNat = 1), .none, []⟩ ∧
          SameBut [.requests .room, .banks, .notices] s.part t)) ∧
  (∀ (tag : Byte) (e : BookingPayload) (s : State),
      Listening s.part .room →
      Settled s.part →
      s.part.sch.bankA.role ≠ s.part.sch.bankB.role →
      ((s.part.staging.state = .checking →
        Completes (.bookingEntry .room tag e) s fun t =>
          Answered t .room tag .busy [[]] ∧ SameBut [.requests .room] s.part t) ∧
      (s.part.staging.state ≠ .checking → s.part.staging.state ≠ .filling →
        Completes (.bookingEntry .room tag e) s fun t =>
          Answered t .room tag .state [[]] ∧ SameBut [.requests .room] s.part t)) ∧
      (s.part.staging.state = .filling →
        (s.part.staging.declared ≤ s.part.staging.received →
          Completes (.bookingEntry .room tag e) s fun t =>
            Answered t .room tag .over [[]] ∧ t.staging = { s.part.staging with state := .faulty, cause := .over } ∧
            SameBut [.requests .room, .banks, .notices] s.part t) ∧
        (s.part.staging.received < s.part.staging.declared →
          (s.part.correctBooking (bookingPayloadBytes e) = none →
            Completes (.bookingEntry .room tag e) s fun t =>
              Answered t .room tag .range [[]] ∧ t.staging = { s.part.staging with state := .faulty, cause := .range } ∧
              SameBut [.requests .room, .banks, .notices] s.part t) ∧
          (∀ b ∈ s.part.correctBooking (bookingPayloadBytes e),
            Completes (.bookingEntry .room tag e) s fun t =>
              Answered t .room tag .done [[]] ∧ t.published = s.part.published ∧
              t.staging.entries = s.part.staging.entries ++ [⟨b, .pending⟩] ∧
              t.staging.received = s.part.staging.received + 1 ∧
              t.staging.state = (if s.part.staging.received + 1 = s.part.staging.declared ∧ s.part.staging.auto = true then
                .checking else .filling) ∧
              SameBut [.requests .room, .banks, .notices] s.part t)))) ∧
  (∀ (e : BookingPayload) (p : Part),
      ((p.correctBooking (bookingPayloadBytes e)).isSome = true ↔
        e.id ≠ 0 ∧ e.start.toNat ≤ 1439 ∧ e.stop.toNat ≤ 1440 ∧ e.start.toNat < e.stop.toNat ∧ e.checkIn.toNat ≤ 1 ∧
        (e.checkIn = 1 → e.window.toNat ≤ 30) ∧ 1 ≤ e.quorum.toNat ∧ e.quorum.toNat ≤ 20 ∧ e.mode.toNat ≤ 3 ∧
        e.speak.toNat ≤ 3600 ∧ e.enforce.toNat ≤ 1 ∧ e.screen.toNat ≤ 3 ∧ e.privacy.toNat ≤ 1 ∧
        e.organiser.toNat ≤ 20 ∧
        (∀ i : SeatId, e.organiser.toNat = i.val + 1 → (p.seat i).installed = true)) ∧
      (∀ b ∈ p.correctBooking (bookingPayloadBytes e),
        b.id = e.id.toNat ∧ b.start = e.start.toNat ∧ b.stop = e.stop.toNat ∧ b.checkIn = decide (e.checkIn = 1) ∧
        b.window = (if e.checkIn = 1 then some (max 1 e.window.toNat) else none) ∧
        b.quorum = min e.quorum.toNat p.installedCount ∧ floorModeOf e.mode.toNat = some b.floor.mode ∧
        b.floor.limit = max 1 (min 6 e.limit.toNat) ∧
        b.floor.speak = (if e.speak.toNat = 0 then 0 else max 10 e.speak.toNat) ∧
        b.floor.enforce = decide (e.enforce = 1) ∧ b.screen.val = e.screen.toNat ∧ b.privacy = decide (e.privacy = 1) ∧
        seatNumber b.organiser = e.organiser.toNat))

/-- BANK PUBLISH: SHORT while entries are missing, CHECKING once all have come; a READY bank whose day has come is
swapped in, and before that the answer is STATE (R153, R156). -/
def Obligations.BankPublishChecksOrSwaps : Prop :=
  ∀ (tag : Byte) (s : State),
    Listening s.part .room →
    Settled s.part →
    s.part.sch.bankA.role ≠ s.part.sch.bankB.role →
    (s.part.staging.state = .checking →
      Completes (.bankPublish .room tag) s fun t =>
        Answered t .room tag .busy [[]] ∧ SameBut [.requests .room] s.part t) ∧
    (s.part.staging.state = .filling →
      (s.part.staging.received < s.part.staging.declared →
        Completes (.bankPublish .room tag) s fun t =>
          Answered t .room tag .short [[]] ∧ SameBut [.requests .room] s.part t) ∧
      (s.part.staging.declared ≤ s.part.staging.received →
        Completes (.bankPublish .room tag) s fun t =>
          Answered t .room tag .done [[]] ∧ t.staging = { s.part.staging with state := .checking } ∧
          t.published = s.part.published ∧ SameBut [.requests .room, .banks, .notices] s.part t)) ∧
    (s.part.staging.state = .ready →
      ((s.part.sch.clock.valid = false ∨ s.part.sch.clock.day < s.part.staging.day) →
        Completes (.bankPublish .room tag) s fun t =>
          Answered t .room tag .state [[]] ∧ SameBut [.requests .room] s.part t) ∧
      (s.part.sch.clock.valid = true → s.part.staging.day ≤ s.part.sch.clock.day →
        Completes (.bankPublish .room tag) s fun t =>
          Answered t .room tag .done [[]] ∧ t.published.state = .published ∧ t.published.day = s.part.staging.day ∧
          t.published.entries.map (fun e => e.booking) = s.part.staging.entries.map (fun e => e.booking) ∧
          t.staging.state = .empty ∧ t.staging.entries = [] ∧ t.publishedIsA = !s.part.publishedIsA))

/-- With the staging bank CHECKING, BANK ABANDON is answered BUSY and nothing changes. Otherwise it is answered DONE,
and the staging bank becomes EMPTY with its entries discarded, its counts 0, auto-publish no and fault cause none,
the day number kept. On an EMPTY bank it changes nothing. It never touches the published bank (R154). -/
def Obligations.BankAbandonEmpties : Prop :=
  ∀ (tag : Byte) (s : State),
    Listening s.part .room →
    Settled s.part →
    BanksSound s.part →
    (s.part.staging.state = .checking →
      Completes (.bankAbandon .room tag) s fun t =>
        Answered t .room tag .busy [[]] ∧ SameBut [.requests .room] s.part t) ∧
    (s.part.staging.state ≠ .checking →
      Completes (.bankAbandon .room tag) s fun t =>
        Answered t .room tag .done [[]] ∧ t.published = s.part.published ∧
        t.staging = ⟨.staging, .empty, s.part.staging.day, 0, 0, false, .none, []⟩ ∧
        SameBut [.requests .room, .banks, .notices] s.part t) ∧
    (s.part.staging.state = .empty →
      Completes (.bankAbandon .room tag) s fun t => SameBut [.requests .room] s.part t)

/-- BOOKING CANCEL (R157): an id of 0 is RANGE, a CHECKING staging bank BUSY, an id that the published bank does not
hold, or holds with a final status, STATE. A PENDING entry becomes CANCELLED, a pending start for it is dropped, and
the session is left. Not stated where the part is ACTIVE with no session open, holds that pending start and has a
walk-in dwell of 0, which no run reaches. An ACTIVE entry becomes CANCELLED and its session goes to WINDUP with
reason CANCELLED, which with every slot FREE closes it at once (R173, R174); a session in WINDUP keeps its reason.
EXTEND (R158, R162, R167): a minute of 0 or above 1440 is RANGE, a CHECKING staging bank BUSY; without a session, or
in WINDUP, it is STATE; a minute that has come, or that the next start precedes, is OVERLAP. Otherwise the effective
end becomes the minute given, today: the stage of a session whose floor is open follows it, and one in AWAITING whose
check-in window runs goes on waiting. A session that so returns from ENDING or OVERTIME to IN_SESSION keeps its
vacancy timer: that this return is not the entry to IN_SESSION at which R168 sets the timer to 0 is the model's
reading (assumption 60). -/
def Obligations.BookingCancelAndExtend : Prop :=
  (∀ (tag : Byte) (id : Half) (s : State),
      Listening s.part .room →
      Settled s.part →
      (id = 0 → Completes (.bookingCancel .room tag id) s fun t =>
        Answered t .room tag .range [[]] ∧ SameBut [.requests .room] s.part t) ∧
      (id ≠ 0 → s.part.staging.state = .checking → Completes (.bookingCancel .room tag id) s fun t =>
        Answered t .room tag .busy [[]] ∧ SameBut [.requests .room] s.part t) ∧
      (id ≠ 0 → s.part.staging.state ≠ .checking →
        (s.part.findEntry id.toNat = none →
          Completes (.bookingCancel .room tag id) s fun t =>
            Answered t .room tag .state [[]] ∧ SameBut [.requests .room] s.part t) ∧
        (∀ e ∈ s.part.findEntry id.toNat, e.status ≠ .pending → e.status ≠ .active →
          Completes (.bookingCancel .room tag id) s fun t =>
            Answered t .room tag .state [[]] ∧ SameBut [.requests .room] s.part t) ∧
        (∀ e ∈ s.part.findEntry id.toNat, e.status = .pending →
          (s.part.ssu.params.dwell ≠ 0 ∨ s.part.ssu.session ≠ none ∨ s.part.pwu.power ≠ .active ∨
            s.part.ssu.pendingStart ≠ some id.toNat) →
          Completes (.bookingCancel .room tag id) s fun t =>
            Answered t .room tag .done [[]] ∧
            t.published.entries =
              s.part.published.entries.map (fun e =>
                if e.booking.id = id.toNat ∧ e.status = .pending then { e with status := .cancelled } else e) ∧
            t.ssu.session = s.part.ssu.session ∧ (∀ q, (t.port q).flags &&& 64 ≠ 0) ∧
            t.ssu.pendingStart = (if s.part.ssu.pendingStart = some id.toNat then none else s.part.ssu.pendingStart) ∧
            SameBut [.requests .room, .banks, .pendingStart, .notices] s.part t) ∧
        (∀ e ∈ s.part.findEntry id.toNat, ∀ x ∈ s.part.ssu.session, e.status = .active →
          (x.state = .windup → Completes (.bookingCancel .room tag id) s fun t =>
            Answered t .room tag .done [[]] ∧
            t.published.entries =
              s.part.published.entries.map (fun e =>
                if e.booking.id = id.toNat ∧ e.status = .active then { e with status := .cancelled } else e) ∧
            t.ssu.session = some x ∧ (∀ q, (t.port q).flags &&& 64 ≠ 0) ∧
            SameBut [.requests .room, .banks, .notices] s.part t) ∧
          (x.state ≠ .windup → s.part.allFree = false → Completes (.bookingCancel .room tag id) s fun t =>
            Answered t .room tag .done [[]] ∧
            t.published.entries =
              s.part.published.entries.map (fun e =>
                if e.booking.id = id.toNat ∧ e.status = .active then { e with status := .cancelled } else e) ∧
            t.ssu.session = some { x with state := .windup, reason := some .cancelled } ∧
            t.flc.isOpen = false ∧ t.flc.queue = [] ∧ t.flc.openOrder = [] ∧
            (∀ k, (s.part.slot k).state ≠ .free → (t.slot k).state = .closing ∧ (t.slot k).reason = some .floorClosed) ∧
            (∀ q, (t.port q).flags &&& 96 = 96)) ∧
          (x.state ≠ .windup → s.part.allFree = true → x.booking = some id.toNat → s.part.ssu.pendingStart = none →
            s.part.ssu.params.dwell ≠ 0 → Completes (.bookingCancel .room tag id) s fun t =>
            Answered t .room tag .done [[]] ∧
            t.published.entries =
              s.part.published.entries.map (fun e =>
                if e.booking.id = id.toNat ∧ e.status = .active then { e with status := .cancelled } else e) ∧
            t.ssu.session = none ∧ t.flc.isOpen = false ∧ t.flc.queue = [] ∧
            (∃ y ∈ t.ssu.store.getLast?, y.reason = .cancelled ∧ y.number = s.part.ssu.nextSummary ∧
              y.booking = some id.toNat) ∧
            (∀ q, (t.port q).flags &&& 0xE0 = 0xE0))))) ∧
  (∀ (tag : Byte) (m : Half) (s : State),
      Listening s.part .room →
      Settled s.part →
      ((m.toNat = 0 ∨ 1440 < m.toNat) →
        Completes (.extend .room tag m) s fun t =>
          Answered t .room tag .range [[]] ∧ SameBut [.requests .room] s.part t) ∧
      (1 ≤ m.toNat → m.toNat ≤ 1440 → s.part.staging.state = .checking →
        Completes (.extend .room tag m) s fun t =>
          Answered t .room tag .busy [[]] ∧ SameBut [.requests .room] s.part t) ∧
      (1 ≤ m.toNat → m.toNat ≤ 1440 → s.part.staging.state ≠ .checking →
        ((∀ x ∈ s.part.ssu.session, x.state = .windup) →
          Completes (.extend .room tag m) s fun t =>
            Answered t .room tag .state [[]] ∧ SameBut [.requests .room] s.part t) ∧
        (∀ x ∈ s.part.ssu.session, x.state ≠ .windup → (m.toNat ≤ s.part.sch.clock.minute ∨ s.part.nextStart < m.toNat) →
          Completes (.extend .room tag m) s fun t =>
            Answered t .room tag .overlap [[]] ∧ SameBut [.requests .room] s.part t) ∧
        (∀ x ∈ s.part.ssu.session, Part.runningState x.state = true → s.part.sch.clock.minute < m.toNat →
          m.toNat ≤ s.part.nextStart →
          Completes (.extend .room tag m) s fun t =>
            Answered t .room tag .done [[]] ∧
            t.ssu.session = some { x with
              effEnd := s.part.sch.clock.day * 1440 + m.toNat
              state := if m.toNat ≤ s.part.sch.clock.minute + s.part.ssu.params.warning then .ending else .inSession } ∧
            SameBut [.requests .room, .session, .notices] s.part t) ∧
        (∀ x ∈ s.part.ssu.session, x.state = .awaiting → (∀ c ∈ x.copy, ∀ w ∈ c.window, x.await < w) →
          s.part.sch.clock.minute < m.toNat → m.toNat ≤ s.part.nextStart →
          Completes (.extend .room tag m) s fun t =>
            Answered t .room tag .done [[]] ∧
            t.ssu.session = some { x with effEnd := s.part.sch.clock.day * 1440 + m.toNat } ∧
            SameBut [.requests .room, .session, .notices] s.part t)))

/-- With the store empty, or a number other than that of the oldest summary, SUMMARY RELEASE is answered STATE and
nothing changes. Otherwise the oldest summary is freed, the other, if any, becomes the oldest, the lost mark is
cleared, and the answer is DONE; a port without the SUMMARY right is answered NOT_PERMITTED (R180). -/
def Obligations.SummaryReleaseFrees : Prop :=
  ∀ (tag : Byte) (n : Half) (s : State),
    Settled s.part →
    (Listening s.part .room → (∀ x ∈ s.part.ssu.store.head?, x.number ≠ n.toNat) →
      Completes (.summaryRelease .room tag n) s fun t =>
        Answered t .room tag .state [[]] ∧ SameBut [.requests .room] s.part t) ∧
    (∀ x ∈ s.part.ssu.store.head?, Listening s.part .room → x.number = n.toNat →
      Completes (.summaryRelease .room tag n) s fun t =>
        Answered t .room tag .done [[]] ∧ t.ssu.store = s.part.ssu.store.tail ∧ t.ssu.lost = false ∧
        t.ssu.nextSummary = s.part.ssu.nextSummary ∧ SameBut [.requests .room, .store] s.part t) ∧
    (∀ q, q ≠ .room → Listening s.part q →
      Completes (.summaryRelease q tag n) s fun t => Answered t q tag .notPermitted [[]] ∧ SameBut [.requests q] s.part t)

/-- PROFILE SET with the direction in force: BUSY during a save; RANGE for a field out of its range; otherwise the
profile takes the fields, threshold, target and band clamped, and nothing outside sensing changes (R16, R18). PROFILE
SET that changes the direction of the KEY or the PROXIMITY profile reseeds its running channels at once: L becomes F
and the counters 0, the state IDLE, or the start of a pending retune; an outcome that was active is released at SMN,
for a key with no gesture, and no *stuck channel* notice is raised (R18, R19, R25, R47, R53). Channels that do not
run, and those of other kinds, keep their records but for a band counter. The REFERENCE profile's direction reseeds
nothing (the model's reading, assumption 20). -/
def Obligations.ProfileSetReplaces : Prop :=
  (∀ (tag n : Byte) (f : ProfilePayload) (k : ProfileKind) (s : State),
      Listening s.part .room →
      Settled s.part →
      (s.part.pln.saving = true →
        Completes (.profileSet .room tag n f) s fun t =>
          Answered t .room tag .busy [[]] ∧ SameBut [.requests .room] s.part t) ∧
      (s.part.pln.saving = false →
        ((2 < n.toNat ∨ 1 < f.direction.toNat ∨ 1 < f.sign.toNat ∨ 7 < f.countBeta.toNat ∨ 15 < f.activeBeta.toNat ∨
            15 < f.standbyBeta.toNat ∨ 15 < f.enter.toNat ∨ 15 < f.exit.toNat ∨ 127 < f.tracking.toNat) →
          Completes (.profileSet .room tag n f) s fun t =>
            Answered t .room tag .range [[]] ∧ SameBut [.requests .room] s.part t) ∧
        (profileKindOf n.toNat = some k → directionOf f.direction.toNat = some (s.part.profileOf k).direction →
          f.sign.toNat ≤ 1 → f.countBeta.toNat ≤ 7 → f.activeBeta.toNat ≤ 15 → f.standbyBeta.toNat ≤ 15 →
          f.enter.toNat ≤ 15 → f.exit.toNat ≤ 15 → f.tracking.toNat ≤ 127 →
          Completes (.profileSet .room tag n f) s fun t =>
            Answered t .room tag .done [[]] ∧
            t.profileOf k = ⟨(s.part.profileOf k).direction, f.countBeta.toNat, f.activeBeta.toNat, f.standbyBeta.toNat,
              max 1 f.threshold.toNat, f.hysteresis.toNat, f.enter.toNat, f.exit.toNat, f.haltLimit.toNat,
              f.tracking.toNat, if f.sign = 0 then .same else .opposite, max 200 (min 3800 f.target.toNat),
              max 1 (min 64 f.band.toNat)⟩ ∧
            (∀ j, j ≠ k → t.profileOf j = s.part.profileOf j) ∧
            (∀ c, (t.channel c).state = (s.part.channel c).state ∧ (t.channel c).lta = (s.part.channel c).lta) ∧
            SameBut [.requests .room, .sensing] s.part t))) ∧
  (∀ (tag n : Byte) (f : ProfilePayload) (k : ProfileKind) (d : Direction) (s : State),
      Listening s.part .room →
      Settled s.part →
      s.part.pln.saving = false →
      (profileKindOf n.toNat = some k ∧ directionOf f.direction.toNat = some d ∧ d ≠ (s.part.profileOf k).direction) →
      ((f.sign.toNat ≤ 1 ∧ f.countBeta.toNat ≤ 7 ∧ f.activeBeta.toNat ≤ 15 ∧ f.standbyBeta.toNat ≤ 15) ∧
        (f.enter.toNat ≤ 15 ∧ f.exit.toNat ≤ 15 ∧ f.tracking.toNat ≤ 127)) →
      Completes (.profileSet .room tag n f) s fun t =>
        Answered t .room tag .done [[]] ∧
        t.profileOf k = ⟨d, f.countBeta.toNat, f.activeBeta.toNat, f.standbyBeta.toNat,
          max 1 f.threshold.toNat, f.hysteresis.toNat, f.enter.toNat, f.exit.toNat, f.haltLimit.toNat,
          f.tracking.toNat, if f.sign = 0 then .same else .opposite, max 200 (min 3800 f.target.toNat),
          max 1 (min 64 f.band.toNat)⟩ ∧
        (∀ c, Part.kindOf c = k → k ≠ .reference → RunningChannel (s.part.channel c) →
          (t.channel c).lta = (s.part.channel c).filtered ∧ (t.channel c).filtered = (s.part.channel c).filtered ∧
          (t.channel c).debounce = 0 ∧ (t.channel c).haltTimer = 0 ∧ (t.channel c).bandCount = 0 ∧
          (t.channel c).pending = false ∧
          if (s.part.channel c).pending then
            (t.channel c).state = .tuning ∧ (t.channel c).step = 0 ∧ (t.channel c).held = .inactive
          else (t.channel c).state = .idle ∧ (t.channel c).tune = (s.part.channel c).tune) ∧
        (∀ c, (Part.kindOf c ≠ k ∨ k = .reference ∨ ¬ RunningChannel (s.part.channel c)) →
          { t.channel c with bandCount := 0 } = { s.part.channel c with bandCount := 0 }) ∧
        (k = .key → (∀ i, ((s.part.channel (Part.keyChannel i)).state = .active ∨
            (s.part.channel (Part.keyChannel i)).state = .leaving) → (t.seat i).key = .up) ∧
          SameBut [.requests .room, .sensing, .seats] s.part t) ∧
        (k = .proximity → ∀ i c, Part.kindOf c = .proximity → Part.seatOf c = i →
          ((s.part.channel c).state = .active ∨ (s.part.channel c).state = .leaving) →
          (t.seat i).presence =
            if (s.part.seat i).presence = .occupied ∨ (s.part.seat i).presence = .unknown then
              (if s.part.smn.grace = 0 then .vacant else .away)
            else (s.part.seat i).presence) ∧
        (k = .reference → SameBut [.requests .room, .sensing] s.part t) ∧
        (∀ q, (t.port q).causes = (s.part.port q).causes))

/-- PATTERN SET and POLARITY SET: BUSY during a save, RANGE for a value that is no pattern or polarity, otherwise the
entry or the polarities are replaced and the answer is DONE. Each response carries the values in force, whatever the
status, and every output stands at its new level (R108, R109). -/
def Obligations.PatternAndPolaritySet : Prop :=
  ∀ (tag n r g l : Byte) (i : Fin 12) (s : State),
    Listening s.part .room →
    Settled s.part →
    n.toNat = i.val →
    Completes (.patternSet .room tag n r g l) s (fun t =>
      ((t.sgu.patterns.get i).red.code, (t.sgu.patterns.get i).green.code, (t.sgu.patterns.get i).light.code) =
        (if s.part.pln.saving = false ∧ r.toNat ≤ 3 ∧ g.toNat ≤ 3 ∧ l.toNat ≤ 3 then (r.toNat, g.toNat, l.toNat)
        else ((s.part.sgu.patterns.get i).red.code, (s.part.sgu.patterns.get i).green.code,
          (s.part.sgu.patterns.get i).light.code)) ∧
      Answered t .room tag
        (if s.part.pln.saving then .busy else if r.toNat ≤ 3 ∧ g.toNat ≤ 3 ∧ l.toNat ≤ 3 then .done else .range)
        [[byteOf (t.sgu.patterns.get i).red.code, byteOf (t.sgu.patterns.get i).green.code,
          byteOf (t.sgu.patterns.get i).light.code]] ∧
      (∀ j, j ≠ i → t.sgu.patterns.get j = s.part.sgu.patterns.get j) ∧ OutputsTrue t ∧
      SameBut [.requests .room, .patterns] s.part t) ∧
    Completes (.polaritySet .room tag r g l) s (fun t =>
      (t.sgu.polarity.red.code, t.sgu.polarity.green.code, t.sgu.polarity.light.code) =
        (if s.part.pln.saving = false ∧ r.toNat ≤ 1 ∧ g.toNat ≤ 1 ∧ l.toNat ≤ 1 then (r.toNat, g.toNat, l.toNat)
        else (s.part.sgu.polarity.red.code, s.part.sgu.polarity.green.code, s.part.sgu.polarity.light.code)) ∧
      Answered t .room tag
        (if s.part.pln.saving then .busy else if r.toNat ≤ 1 ∧ g.toNat ≤ 1 ∧ l.toNat ≤ 1 then .done else .range)
        [[byteOf t.sgu.polarity.red.code, byteOf t.sgu.polarity.green.code, byteOf t.sgu.polarity.light.code]] ∧
      OutputsTrue t ∧ SameBut [.requests .room, .polarity] s.part t)

/-- RETUNE of one channel: STATE for an OFF channel; an IDLE or FAULT channel starts its retune; a channel in use is
marked pending, or with force starts at once; one that is TUNING starts its search again (R36, R37). -/
def Obligations.RetuneStartsSearch : Prop :=
  ∀ (tag n f : Byte) (c : ChannelId) (s : State),
    Listening s.part .room →
    Settled s.part →
    (n.toNat = c.val ∧ f.toNat ≤ 1) →
    Completes (.retune .room tag n f) s fun t =>
      SameBut [.requests .room, .sensing] s.part t ∧ (∀ d, d ≠ c → t.channel d = s.part.channel d) ∧
      ((s.part.channel c).state = .off → Answered t .room tag .state [[]] ∧ t.channel c = s.part.channel c) ∧
      ((s.part.channel c).state ≠ .off → Answered t .room tag .done [[]]) ∧
      ((s.part.channel c).state = .idle ∨ (s.part.channel c).state = .fault →
        (t.channel c).state = .tuning ∧ (t.channel c).step = 0 ∧ (t.channel c).pending = false ∧
        (t.channel c).held = (if (s.part.channel c).state = .fault then .fault else .inactive)) ∧
      ((s.part.channel c).state = .entering ∨ (s.part.channel c).state = .active ∨ (s.part.channel c).state = .leaving →
        (f = 0 → t.channel c = { s.part.channel c with pending := true }) ∧
        (f = 1 → (t.channel c).state = .tuning ∧ (t.channel c).step = 0)) ∧
      ((s.part.channel c).state = .tuning →
        (t.channel c).state = .tuning ∧ (t.channel c).step = 0 ∧ (t.channel c).held = (s.part.channel c).held)

/-- TABLE RESET is answered DONE. The chair port and the AV port lose what they hold; of the flags and cause marks of
every port only those of this event remain: none of SEAT, SENSE and SOURCE, SESSION and SUMMARY with a session
closed, none of SESSION, SCHEDULE and SUMMARY with no session and no pending start, and POWER when the part was not
ACTIVE. Every slot is FREE at gain 0, the queue is empty, the pending start gone and the dwell 0; an open session has
its summary with reason RESET. The part is ACTIVE, and sensing, sources, the clock, the plan and the banks' roles,
states and days go on. The floor is closed with the default preset, preset 0 is applied and no session is open, but
for a pending start in WAKING that still qualifies: its opening follows as R202 says (how this goes with R176, which
drops the pending start, is the model's reading, assumption 17) (R59, R62, R64, R99, R137, R150, R165, R174, R176,
R178, R194, R198, R202). -/
def Obligations.TableResetClears : Prop :=
  ∀ (tag : Byte) (s : State),
    Listening s.part .room →
    Settled s.part →
    s.part.ssu.params.dwell ≠ 0 →
    Completes (.tableReset .room tag) s fun t =>
      Answered t .room tag .done [[]] ∧ t.ssu.pendingStart = none ∧ t.ssu.dwell = 0 ∧
      t.flc.queue = [] ∧ t.flc.openOrder = [] ∧
      (∀ k, (t.slot k).state = .free ∧ ((s.part.slot k).state ≠ .free → (t.slot k).gain = 0 ∧ (t.slot k).holder = none)) ∧
      (∀ q, q ≠ .room → (t.port q).pending = none ∧ (t.port q).waiting = none) ∧
      (∀ q, (t.port q).causes = 0 ∧ (t.port q).flags &&& 0x0E = 0 ∧
        ((s.part.ssu.session ≠ none) → (t.port q).flags &&& 0xA0 = 0xA0) ∧
        (s.part.ssu.session = none → s.part.ssu.pendingStart = none → (t.port q).flags &&& 0xE0 = 0) ∧
        ((t.port q).flags &&& 256 ≠ 0 ↔ s.part.pwu.power ≠ .active)) ∧
      (∀ x ∈ s.part.ssu.session, ∃ y ∈ t.ssu.store.getLast?, y.reason = .reset ∧
        y.number = s.part.ssu.nextSummary ∧ y.booking = x.booking ∧ ∀ i, (t.seat i).counters = ⟨0, 0, 0, 0, 0, 0⟩) ∧
      (s.part.ssu.session = none → t.ssu.store = s.part.ssu.store) ∧
      t.pwu.power = .active ∧ t.pwu.quiet = 0 ∧
      ((t.sch.bankA.role, t.sch.bankA.state, t.sch.bankA.day) =
          (s.part.sch.bankA.role, s.part.sch.bankA.state, s.part.sch.bankA.day) ∧
        (t.sch.bankB.role, t.sch.bankB.state, t.sch.bankB.day) =
          (s.part.sch.bankB.role, s.part.sch.bankB.state, s.part.sch.bankB.day) ∧
        t.staging = s.part.staging) ∧
      (t.sfe = s.part.sfe ∧ t.scu = s.part.scu ∧ t.sch.clock = s.part.sch.clock ∧ t.pln = s.part.pln) ∧
      (s.part.pwu.power ≠ .waking ∨ s.part.ssu.session ≠ none ∨ s.part.isCurrent = false ∨
          (∀ id ∈ s.part.ssu.pendingStart, ∀ e ∈ s.part.comingEntries, e.booking.id ≠ id) →
        t.ssu.session = none ∧ t.flc.isOpen = false ∧ t.flc.mode = s.part.flc.preset.mode ∧
        (∀ k, (t.screen k).set = (s.part.rtu.presets.get 0).get k)) ∧
      (∀ id ∈ s.part.ssu.pendingStart, ∀ e ∈ s.part.comingEntries.find? (fun x => x.booking.id = id),
        s.part.pwu.power = .waking → s.part.ssu.session = none → s.part.isCurrent = true →
        e.booking.checkIn = true → s.part.smn.occupied < e.booking.quorum →
        t.flc.isOpen = false ∧
        t.flc.mode = e.booking.floor.mode ∧
        (∀ k, (t.screen k).set = (s.part.rtu.presets.get e.booking.screen).get k) ∧
        ∃ x ∈ t.ssu.session, x.state = .awaiting ∧ x.booking = some e.booking.id ∧ x.copy = some e.booking ∧
          x.effEnd = s.part.sch.clock.day * 1440 + e.booking.stop)

/-! ### Requests of the AV port -/

/-- ROUTE SET of a screen to FIXED or BLANK (R130, R131, R138): the five settings are replaced at once, the screen
shows the fixed source or nothing, and the settle starts when the driven source changes; the other screens' settings
are left. ROUTE SET to FOLLOW_SPEAKER shows the socket of the first speaker of the list whose socket is routable,
without one the source shown before while that is routable, and else the fallback; ROUTE SET to FOLLOW_SCREEN shows
what the followed screen shows (R130, R131, R138, R139). The screen's driven source follows and settles; the screens
that follow it copy what it comes to show, and the other screens are left. ROUTE SET to FIXED or BLANK sent in
STANDBY wakes the part and is served as the wake begins, in WAKING (the order of the two is the model's reading,
assumption 28): its settings stand, and every screen is driven by what it shows, a change of the driven source
settling (R132, R133, R139, R201). The response gives the drive of the event's end (assumption 25). ROUTE SET is
STATE for a screen that would follow itself, follow a follower, or follow while it is followed, and RANGE for a value
out of its set; the settings are left (R138). -/
def Obligations.RouteSetActs : Prop :=
  (∀ (tag n m a b c d : Byte) (k : ScreenId) (i j : Input) (f : ScreenId) (s : State),
      Listening s.part .av →
      Settled s.part →
      (n.toNat = k.val + 1 ∧ a.toNat = i.val ∧ b.toNat = f.val + 1 ∧ c.toNat = j.val ∧ d.toNat ≤ 1) →
      (m = 0 ∨ m = 3) →
      s.part.rtu.override = false →
      Completes (.routeSet .av tag n m a b c d) s fun t =>
        (t.screen k).set = ⟨if m = 0 then .fixed else .blank, i, f, j, decide (d.toNat = 1)⟩ ∧
        (t.screen k).shown = (if m = 0 then i else 0) ∧ (t.screen k).driven = (t.screen k).shown ∧
        ((t.screen k).driven ≠ (s.part.screen k).driven → (t.screen k).settle = .settling ∧ (t.screen k).timer = 40) ∧
        (∀ l, l ≠ k → (t.screen l).set = (s.part.screen l).set) ∧
        Answered t .av tag .done [Part.screenBytes (t.screen k)] ∧
        SameBut [.requests .av, .screens, .notices] s.part t) ∧
  (∀ (tag n m a b c d : Byte) (k : ScreenId) (i j : Input) (f : ScreenId) (s : State),
      Listening s.part .av →
      Settled s.part →
      (n.toNat = k.val + 1 ∧ a.toNat = i.val ∧ b.toNat = f.val + 1 ∧ c.toNat = j.val ∧ d.toNat ≤ 1) →
      s.part.rtu.override = false →
      (m = 1 →
        Completes (.routeSet .av tag n m a b c d) s fun t =>
          (t.screen k).set = ⟨.followSpeaker, i, f, j, decide (d.toNat = 1)⟩ ∧
          (∀ x, s.part.rtu.speakers.find? (fun y =>
              (s.part.seat y).socket.any fun l => s.part.isRoutable (Part.socketInput l)) = some x →
            ∀ l ∈ (s.part.seat x).socket, (t.screen k).shown = Part.socketInput l) ∧
          (s.part.rtu.speakers.find? (fun y =>
              (s.part.seat y).socket.any fun l => s.part.isRoutable (Part.socketInput l)) = none →
            (t.screen k).shown = if s.part.isRoutable (s.part.screen k).shown then (s.part.screen k).shown else j) ∧
          (t.screen k).driven = (t.screen k).shown ∧
          ((t.screen k).driven ≠ (s.part.screen k).driven → (t.screen k).settle = .settling ∧ (t.screen k).timer = 40) ∧
          (∀ l, l ≠ k →
            if (s.part.screen l).set.mode = .followScreen ∧ (s.part.screen l).set.followed = k ∧
                (t.screen k).shown ≠ (s.part.screen k).shown then
              (t.screen l).set = (s.part.screen l).set ∧ (t.screen l).shown = (t.screen k).shown ∧
                (t.screen l).driven = (t.screen k).shown
            else t.screen l = s.part.screen l) ∧
          Answered t .av tag .done [Part.screenBytes (t.screen k)] ∧
          SameBut [.requests .av, .screens, .notices] s.part t) ∧
      (m = 2 → f ≠ k → (s.part.screen f).set.mode ≠ .followScreen →
        (∀ l, l ≠ k → (s.part.screen l).set.mode = .followScreen → (s.part.screen l).set.followed ≠ k) →
        Completes (.routeSet .av tag n m a b c d) s fun t =>
          (t.screen k).set = ⟨.followScreen, i, f, j, decide (d.toNat = 1)⟩ ∧
          (t.screen k).shown = (s.part.screen f).shown ∧ (t.screen k).driven = (t.screen k).shown ∧
          ((t.screen k).driven ≠ (s.part.screen k).driven → (t.screen k).settle = .settling ∧ (t.screen k).timer = 40) ∧
          (∀ l, l ≠ k → t.screen l = s.part.screen l) ∧
          Answered t .av tag .done [Part.screenBytes (t.screen k)] ∧
          SameBut [.requests .av, .screens, .notices] s.part t)) ∧
  (∀ (tag n m a b c d : Byte) (k : ScreenId) (i j : Input) (f : ScreenId) (s : State),
      (s.part.pln.stage = .running ∧ s.part.pwu.power = .standby) →
      FreePort s.part .av →
      (n.toNat = k.val + 1 ∧ a.toNat = i.val ∧ b.toNat = f.val + 1 ∧ c.toNat = j.val ∧ d.toNat ≤ 1) →
      (m = 0 ∨ m = 3) →
      Completes (.routeSet .av tag n m a b c d) s fun t =>
        t.pwu.power = .waking ∧ t.pwu.settle = 0 ∧ t.pwu.quiet = 0 ∧ t.rtu.override = false ∧
        (t.screen k).set = ⟨if m = 0 then .fixed else .blank, i, f, j, decide (d.toNat = 1)⟩ ∧
        (t.screen k).shown = (if m = 0 then i else 0) ∧
        (∀ l, (t.screen l).driven = (t.screen l).shown ∧
          ((t.screen l).driven ≠ (s.part.screen l).driven → (t.screen l).settle = .settling ∧ (t.screen l).timer = 40)) ∧
        (∀ l, l ≠ k → (t.screen l).set = (s.part.screen l).set) ∧
        Answered t .av tag .done [Part.screenBytes (t.screen k)]) ∧
  (∀ (tag n m a b c d : Byte) (k : ScreenId) (s : State),
      Listening s.part .av →
      Settled s.part →
      n.toNat = k.val + 1 →
      ((3 < m.toNat ∨ 10 < a.toNat ∨ b = 0 ∨ 4 < b.toNat ∨ 10 < c.toNat ∨ 1 < d.toNat) →
        Completes (.routeSet .av tag n m a b c d) s fun t =>
          Answered t .av tag .range [Part.screenBytes (s.part.screen k)] ∧ SameBut [.requests .av] s.part t) ∧
      (∀ f : ScreenId, m = 2 → b.toNat = f.val + 1 → a.toNat ≤ 10 → c.toNat ≤ 10 → d.toNat ≤ 1 →
        (f = k ∨ (s.part.screen f).set.mode = .followScreen ∨
          ∃ j, j ≠ k ∧ (s.part.screen j).set.mode = .followScreen ∧ (s.part.screen j).set.followed = k) →
        Completes (.routeSet .av tag n m a b c d) s fun t =>
          Answered t .av tag .state [Part.screenBytes (s.part.screen k)] ∧ SameBut [.requests .av] s.part t))

/-- RATE SET and COUNT SET: BUSY during a save, RANGE for a value outside its range, otherwise the entry or the
counts are replaced and the answer is DONE. No field is clamped, and each response carries the values in force (R117,
R118). GAIN SET: BUSY during a save, RANGE for a ceiling outside 1 to 1023, a step of 0 or a mark that is neither;
otherwise the settings are replaced, a gain above the new ceiling becomes the ceiling, and every target follows (R92,
R93, R94). -/
def Obligations.RateCountAndGainSet : Prop :=
  (∀ (tag n cls kk dd : Byte) (nom tol w x : Half) (i : Fin 8) (s : State),
      Listening s.part .av →
      Settled s.part →
      n.toNat = i.val + 1 →
      Completes (.rateSet .av tag n nom tol cls w x) s (fun t =>
        t.scu.rates.get i =
          (if s.part.pln.saving = false ∧ (nom = 0 ∨ 1000 ≤ nom.toNat) ∧ nom.toNat ≤ 65000 ∧ tol.toNat ≤ 2000 ∧
              1 ≤ cls.toNat ∧ cls.toNat ≤ 8 ∧ w.toNat ≤ x.toNat then
            ⟨nom.toNat, tol.toNat, cls.toNat, w.toNat, x.toNat⟩ else s.part.scu.rates.get i) ∧
        Answered t .av tag
          (if s.part.pln.saving then .busy
          else if (nom = 0 ∨ 1000 ≤ nom.toNat) ∧ nom.toNat ≤ 65000 ∧ tol.toNat ≤ 2000 ∧ 1 ≤ cls.toNat ∧ cls.toNat ≤ 8 ∧
            w.toNat ≤ x.toNat then .done else .range) [rateBytes (t.scu.rates.get i)] ∧
        (∀ j, j ≠ i → t.scu.rates.get j = s.part.scu.rates.get j) ∧ SameBut [.requests .av, .rates] s.part t) ∧
      Completes (.countSet .av tag kk dd) s (fun t =>
        (t.scu.agree, t.scu.drop) =
          (if s.part.pln.saving = false ∧ 1 ≤ kk.toNat ∧ kk.toNat ≤ 15 ∧ 1 ≤ dd.toNat ∧ dd.toNat ≤ 15 then
            (kk.toNat, dd.toNat) else (s.part.scu.agree, s.part.scu.drop)) ∧
        Answered t .av tag
          (if s.part.pln.saving then .busy
          else if 1 ≤ kk.toNat ∧ kk.toNat ≤ 15 ∧ 1 ≤ dd.toNat ∧ dd.toNat ≤ 15 then .done else .range)
          [[byteOf t.scu.agree, byteOf t.scu.drop]] ∧
        SameBut [.requests .av, .counts] s.part t)) ∧
  (∀ (tag rise fall duck on : Byte) (g : Half) (s : State),
      Listening s.part .av →
      Settled s.part →
      (s.part.pln.saving = true ∨ g = 0 ∨ 1023 < g.toNat ∨ rise = 0 ∨ fall = 0 ∨ 1 < on.toNat →
        Completes (.gainSet .av tag g rise fall duck on) s fun t =>
          Answered t .av tag (if s.part.pln.saving then .busy else .range) [gainBytes s.part.sgu.gain] ∧
          SameBut [.requests .av] s.part t) ∧
      (s.part.pln.saving = false → 1 ≤ g.toNat → g.toNat ≤ 1023 → rise ≠ 0 → fall ≠ 0 → on.toNat ≤ 1 →
        Completes (.gainSet .av tag g rise fall duck on) s fun t =>
          Answered t .av tag .done [b2 g.toNat ++ [rise, fall, duck, on]] ∧
          t.sgu.gain = ⟨g.toNat, rise.toNat, fall.toNat, duck.toNat, decide (on = 1)⟩ ∧
          (∀ k : SlotId, (t.slot k).gain = min (s.part.slot k).gain g.toNat ∧ (t.slot k).state = (s.part.slot k).state ∧
            (t.slot k).target =
              (if Part.isOpenState (s.part.slot k).state = false then 0
              else if k ≠ 0 ∧ on = 1 ∧ (s.part.slot 0).state ≠ .free then g.toNat - g.toNat * duck.toNat / 256
              else g.toNat)) ∧
          SameBut [.requests .av, .gain, .slots] s.part t))

/-- CAPTURE SET that disables a socket makes it NONE in WAIT_FIRST with its last width and period kept, and not
routable; one that enables it starts the capture from WAIT_FIRST; during a save it is BUSY (R112). INPUT PRESENT sets
the presence flag of the room PC (9) or the codec (10), and with a change its routable mark and a SOURCE notice;
another input or value is RANGE. The response carries both flags (R122, R128). -/
def Obligations.CaptureSetAndInputPresent : Prop :=
  (∀ (tag n a b f : Byte) (k : SocketId) (s : State),
      Listening s.part .av →
      Settled s.part →
      (n.toNat = k.val + 1 ∧ b.toNat ≤ 1 ∧ (f = 0 ∨ f = 2 ∨ f = 4 ∨ f = 8)) →
      (s.part.pln.saving = true →
        Completes (.captureSet .av tag n a b f) s fun t =>
          Answered t .av tag .busy [Part.captureBytes (s.part.socket k)] ∧ SameBut [.requests .av] s.part t) ∧
      (s.part.pln.saving = false → a.toNat ≤ 1 →
        Completes (.captureSet .av tag n a b f) s fun t =>
          Answered t .av tag .done [[a, b, f]] ∧ (t.socket k).enable = decide (a.toNat = 1) ∧
          (t.socket k).edge = (if b = 0 then .rising else .falling) ∧ (t.socket k).filter = f.toNat ∧
          (t.socket k).width = (s.part.socket k).width ∧ (t.socket k).period = (s.part.socket k).period ∧
          ((s.part.socket k).enable = true → a = 0 →
            (t.socket k).state = .none ∧ (t.socket k).phase = .waitFirst ∧ (t.socket k).cls = .none ∧
            (t.socket k).counter = 0) ∧
          ((s.part.socket k).enable = true → a = 0 → (s.part.socket k).state ≠ .none →
            t.isRoutable (Part.socketInput k) = false) ∧
          ((s.part.socket k).enable = false → a = 1 → (t.socket k).phase = .waitFirst ∧ (t.socket k).counter = 0) ∧
          (∀ j, j ≠ k → t.socket j = s.part.socket j))) ∧
  (∀ (tag n v : Byte) (s : State),
      Listening s.part .av →
      Settled s.part →
      (((n ≠ 9 ∧ n ≠ 10) ∨ 1 < v.toNat) →
        Completes (.inputPresent .av tag n v) s fun t =>
          Answered t .av tag .range [Part.allSources s.part |>.drop 16] ∧ SameBut [.requests .av] s.part t) ∧
      (n = 9 → v.toNat ≤ 1 →
        Completes (.inputPresent .av tag n v) s fun t =>
          Answered t .av tag .done [[v, if s.part.scu.codec then 1 else 0]] ∧ t.scu.pc = decide (v = 1) ∧
          t.scu.codec = s.part.scu.codec ∧
          (t.scu.pc ≠ s.part.scu.pc → t.isRoutable 9 = t.scu.pc ∧ (∀ q, (t.port q).flags &&& 8 ≠ 0)) ∧
          SameBut [.requests .av, .fixedInputs, .routable, .screens, .notices] s.part t) ∧
      (n = 10 → v.toNat ≤ 1 →
        Completes (.inputPresent .av tag n v) s fun t =>
          Answered t .av tag .done [[if s.part.scu.pc then 1 else 0, v]] ∧ t.scu.codec = decide (v = 1) ∧
          t.scu.pc = s.part.scu.pc ∧
          (t.scu.codec ≠ s.part.scu.codec → t.isRoutable 10 = t.scu.codec ∧ (∀ q, (t.port q).flags &&& 8 ≠ 0)) ∧
          SameBut [.requests .av, .fixedInputs, .routable, .screens, .notices] s.part t))

/-! ### What every step keeps -/

/-- After every step the indication and every output stand at the level their rules give (R102, R103, R132, R133,
R190). Every step leaves the part settled: each screen driven as R132 says, and no walk-in dwell without its
conditions (R170). -/
def Obligations.StepKeepsOutputsTrue : Prop :=
  (∀ (s t : State),
      OutputsTrue s.part →
      step s = .next t →
      OutputsTrue t.part) ∧
  (∀ (s t : State),
      Settled s.part →
      step s = .next t →
      Settled t.part)

/-- For every channel, the filtered count and the long-term average stay within 0 to 65520 over every step, and the
threshold never exceeds the long-term average that stage 4 takes it from, since t is at most 255 (R29). -/
def Obligations.CountsStayInRange : Prop :=
  (∀ (s t : State),
    (∀ c, CountsInRange (s.part.channel c)) ∧ (∀ k, (s.part.profileOf k).threshold ≤ 255) →
    step s = .next t →
    (∀ c, CountsInRange (t.part.channel c)) ∧ (∀ k, (t.part.profileOf k).threshold ≤ 255)) ∧
  (∀ (c : ChannelId) (s : State),
    (∀ k, (s.part.profileOf k).threshold ≤ 255) →
    (takeLevels (s.part.profileOf (Part.kindOf c)) (s.part.channel c)).level ≤ (s.part.channel c).lta)

/-- The two banks always hold different roles, and each a state that its role allows (R150). The request queue never
holds more than 16 entries, and no seat twice (R65). A FREE slot has no holder, no reason, warned mark NONE and gain
0, after every step (R69, R91, R97). The summary store holds at most two summaries (R178). -/
def Obligations.StepKeepsRecordsSound : Prop :=
  (∀ (s t : State),
      BanksSound s.part →
      step s = .next t →
      BanksSound t.part) ∧
  (∀ (s t : State),
      QueueSound s.part.flc →
      step s = .next t →
      QueueSound t.part.flc) ∧
  (∀ (s t : State),
      (∀ k, SlotSound (s.part.slot k)) →
      step s = .next t →
      ∀ k, SlotSound (t.part.slot k)) ∧
  (∀ (s t : State),
      s.part.ssu.store.length ≤ 2 →
      step s = .next t →
      t.part.ssu.store.length ≤ 2)
end

