-- ==== Sys2Proof/Laws/State.lean ====
section
/-! SUPPORT. One lemma for each field of the part under each update of a block, and what the reads and writes of the numbered
records give. -/

namespace Sys2Proof

/-! ### Tables -/

@[simp] theorem get_mapTable (f : Fin n → α → β) (v : Vector α n) (i : Fin n) :
    (mapTable f v).get i = f i (v.get i) := by
  simp [mapTable, Vector.get_eq_getElem]

theorem get_setEntry (v : Vector α n) (i j : Fin n) (x : α) :
    (setEntry v i x).get j = if j = i then x else v.get j := by
  simp only [setEntry, Vector.get_eq_getElem, Vector.getElem_set, Fin.ext_iff, eq_comm]

@[simp] theorem get_setEntry_self (v : Vector α n) (i : Fin n) (x : α) : (setEntry v i x).get i = x := by
  simp [get_setEntry]

@[simp] theorem get_setEntry_ne (v : Vector α n) {i j : Fin n} (h : j ≠ i) (x : α) :
    (setEntry v i x).get j = v.get j := by
  simp [get_setEntry, h]

@[simp] theorem get_ofFn (f : Fin n → α) (i : Fin n) : (Vector.ofFn f).get i = f i := by
  simp [Vector.get_eq_getElem]

/-- A fold keeps what each of its steps keeps. -/
theorem foldl_keeps {f : σ → α → σ} (g : σ → β) (h : ∀ s a, g (f s a) = g s) (l : List α) (s : σ) :
    g (l.foldl f s) = g s := by
  induction l generalizing s with
  | nil => rfl
  | cons a l ih => simp [ih, h]

/-- A fold keeps a property that each of its steps keeps. -/
theorem foldl_invariant {f : σ → α → σ} {P : σ → Prop} (h : ∀ s a, P s → P (f s a)) (l : List α) (s : σ) (hs : P s) :
    P (l.foldl f s) := by
  induction l generalizing s with
  | nil => exact hs
  | cons a l ih => exact ih _ (h _ _ hs)

namespace Machine.Part

/-! ### Blocks -/

@[simp] theorem withSfe_sfe (p : Part) (x : Sfe) : (p.withSfe x).sfe = x := rfl
@[simp] theorem withSfe_smn (p : Part) (x : Sfe) : (p.withSfe x).smn = p.smn := rfl
@[simp] theorem withSfe_flc (p : Part) (x : Sfe) : (p.withSfe x).flc = p.flc := rfl
@[simp] theorem withSfe_sgu (p : Part) (x : Sfe) : (p.withSfe x).sgu = p.sgu := rfl
@[simp] theorem withSfe_scu (p : Part) (x : Sfe) : (p.withSfe x).scu = p.scu := rfl
@[simp] theorem withSfe_rtu (p : Part) (x : Sfe) : (p.withSfe x).rtu = p.rtu := rfl
@[simp] theorem withSfe_sch (p : Part) (x : Sfe) : (p.withSfe x).sch = p.sch := rfl
@[simp] theorem withSfe_ssu (p : Part) (x : Sfe) : (p.withSfe x).ssu = p.ssu := rfl
@[simp] theorem withSfe_prt (p : Part) (x : Sfe) : (p.withSfe x).prt = p.prt := rfl
@[simp] theorem withSfe_pwu (p : Part) (x : Sfe) : (p.withSfe x).pwu = p.pwu := rfl
@[simp] theorem withSfe_pln (p : Part) (x : Sfe) : (p.withSfe x).pln = p.pln := rfl
@[simp] theorem withSfe_pins (p : Part) (x : Sfe) : (p.withSfe x).pins = p.pins := rfl

@[simp] theorem withSmn_sfe (p : Part) (x : Smn) : (p.withSmn x).sfe = p.sfe := rfl
@[simp] theorem withSmn_smn (p : Part) (x : Smn) : (p.withSmn x).smn = x := rfl
@[simp] theorem withSmn_flc (p : Part) (x : Smn) : (p.withSmn x).flc = p.flc := rfl
@[simp] theorem withSmn_sgu (p : Part) (x : Smn) : (p.withSmn x).sgu = p.sgu := rfl
@[simp] theorem withSmn_scu (p : Part) (x : Smn) : (p.withSmn x).scu = p.scu := rfl
@[simp] theorem withSmn_rtu (p : Part) (x : Smn) : (p.withSmn x).rtu = p.rtu := rfl
@[simp] theorem withSmn_sch (p : Part) (x : Smn) : (p.withSmn x).sch = p.sch := rfl
@[simp] theorem withSmn_ssu (p : Part) (x : Smn) : (p.withSmn x).ssu = p.ssu := rfl
@[simp] theorem withSmn_prt (p : Part) (x : Smn) : (p.withSmn x).prt = p.prt := rfl
@[simp] theorem withSmn_pwu (p : Part) (x : Smn) : (p.withSmn x).pwu = p.pwu := rfl
@[simp] theorem withSmn_pln (p : Part) (x : Smn) : (p.withSmn x).pln = p.pln := rfl
@[simp] theorem withSmn_pins (p : Part) (x : Smn) : (p.withSmn x).pins = p.pins := rfl

@[simp] theorem withFlc_sfe (p : Part) (x : Flc) : (p.withFlc x).sfe = p.sfe := rfl
@[simp] theorem withFlc_smn (p : Part) (x : Flc) : (p.withFlc x).smn = p.smn := rfl
@[simp] theorem withFlc_flc (p : Part) (x : Flc) : (p.withFlc x).flc = x := rfl
@[simp] theorem withFlc_sgu (p : Part) (x : Flc) : (p.withFlc x).sgu = p.sgu := rfl
@[simp] theorem withFlc_scu (p : Part) (x : Flc) : (p.withFlc x).scu = p.scu := rfl
@[simp] theorem withFlc_rtu (p : Part) (x : Flc) : (p.withFlc x).rtu = p.rtu := rfl
@[simp] theorem withFlc_sch (p : Part) (x : Flc) : (p.withFlc x).sch = p.sch := rfl
@[simp] theorem withFlc_ssu (p : Part) (x : Flc) : (p.withFlc x).ssu = p.ssu := rfl
@[simp] theorem withFlc_prt (p : Part) (x : Flc) : (p.withFlc x).prt = p.prt := rfl
@[simp] theorem withFlc_pwu (p : Part) (x : Flc) : (p.withFlc x).pwu = p.pwu := rfl
@[simp] theorem withFlc_pln (p : Part) (x : Flc) : (p.withFlc x).pln = p.pln := rfl
@[simp] theorem withFlc_pins (p : Part) (x : Flc) : (p.withFlc x).pins = p.pins := rfl

@[simp] theorem withSgu_sfe (p : Part) (x : Sgu) : (p.withSgu x).sfe = p.sfe := rfl
@[simp] theorem withSgu_smn (p : Part) (x : Sgu) : (p.withSgu x).smn = p.smn := rfl
@[simp] theorem withSgu_flc (p : Part) (x : Sgu) : (p.withSgu x).flc = p.flc := rfl
@[simp] theorem withSgu_sgu (p : Part) (x : Sgu) : (p.withSgu x).sgu = x := rfl
@[simp] theorem withSgu_scu (p : Part) (x : Sgu) : (p.withSgu x).scu = p.scu := rfl
@[simp] theorem withSgu_rtu (p : Part) (x : Sgu) : (p.withSgu x).rtu = p.rtu := rfl
@[simp] theorem withSgu_sch (p : Part) (x : Sgu) : (p.withSgu x).sch = p.sch := rfl
@[simp] theorem withSgu_ssu (p : Part) (x : Sgu) : (p.withSgu x).ssu = p.ssu := rfl
@[simp] theorem withSgu_prt (p : Part) (x : Sgu) : (p.withSgu x).prt = p.prt := rfl
@[simp] theorem withSgu_pwu (p : Part) (x : Sgu) : (p.withSgu x).pwu = p.pwu := rfl
@[simp] theorem withSgu_pln (p : Part) (x : Sgu) : (p.withSgu x).pln = p.pln := rfl
@[simp] theorem withSgu_pins (p : Part) (x : Sgu) : (p.withSgu x).pins = p.pins := rfl

@[simp] theorem withScu_sfe (p : Part) (x : Scu) : (p.withScu x).sfe = p.sfe := rfl
@[simp] theorem withScu_smn (p : Part) (x : Scu) : (p.withScu x).smn = p.smn := rfl
@[simp] theorem withScu_flc (p : Part) (x : Scu) : (p.withScu x).flc = p.flc := rfl
@[simp] theorem withScu_sgu (p : Part) (x : Scu) : (p.withScu x).sgu = p.sgu := rfl
@[simp] theorem withScu_scu (p : Part) (x : Scu) : (p.withScu x).scu = x := rfl
@[simp] theorem withScu_rtu (p : Part) (x : Scu) : (p.withScu x).rtu = p.rtu := rfl
@[simp] theorem withScu_sch (p : Part) (x : Scu) : (p.withScu x).sch = p.sch := rfl
@[simp] theorem withScu_ssu (p : Part) (x : Scu) : (p.withScu x).ssu = p.ssu := rfl
@[simp] theorem withScu_prt (p : Part) (x : Scu) : (p.withScu x).prt = p.prt := rfl
@[simp] theorem withScu_pwu (p : Part) (x : Scu) : (p.withScu x).pwu = p.pwu := rfl
@[simp] theorem withScu_pln (p : Part) (x : Scu) : (p.withScu x).pln = p.pln := rfl
@[simp] theorem withScu_pins (p : Part) (x : Scu) : (p.withScu x).pins = p.pins := rfl

@[simp] theorem withRtu_sfe (p : Part) (x : Rtu) : (p.withRtu x).sfe = p.sfe := rfl
@[simp] theorem withRtu_smn (p : Part) (x : Rtu) : (p.withRtu x).smn = p.smn := rfl
@[simp] theorem withRtu_flc (p : Part) (x : Rtu) : (p.withRtu x).flc = p.flc := rfl
@[simp] theorem withRtu_sgu (p : Part) (x : Rtu) : (p.withRtu x).sgu = p.sgu := rfl
@[simp] theorem withRtu_scu (p : Part) (x : Rtu) : (p.withRtu x).scu = p.scu := rfl
@[simp] theorem withRtu_rtu (p : Part) (x : Rtu) : (p.withRtu x).rtu = x := rfl
@[simp] theorem withRtu_sch (p : Part) (x : Rtu) : (p.withRtu x).sch = p.sch := rfl
@[simp] theorem withRtu_ssu (p : Part) (x : Rtu) : (p.withRtu x).ssu = p.ssu := rfl
@[simp] theorem withRtu_prt (p : Part) (x : Rtu) : (p.withRtu x).prt = p.prt := rfl
@[simp] theorem withRtu_pwu (p : Part) (x : Rtu) : (p.withRtu x).pwu = p.pwu := rfl
@[simp] theorem withRtu_pln (p : Part) (x : Rtu) : (p.withRtu x).pln = p.pln := rfl
@[simp] theorem withRtu_pins (p : Part) (x : Rtu) : (p.withRtu x).pins = p.pins := rfl

@[simp] theorem withSch_sfe (p : Part) (x : Sch) : (p.withSch x).sfe = p.sfe := rfl
@[simp] theorem withSch_smn (p : Part) (x : Sch) : (p.withSch x).smn = p.smn := rfl
@[simp] theorem withSch_flc (p : Part) (x : Sch) : (p.withSch x).flc = p.flc := rfl
@[simp] theorem withSch_sgu (p : Part) (x : Sch) : (p.withSch x).sgu = p.sgu := rfl
@[simp] theorem withSch_scu (p : Part) (x : Sch) : (p.withSch x).scu = p.scu := rfl
@[simp] theorem withSch_rtu (p : Part) (x : Sch) : (p.withSch x).rtu = p.rtu := rfl
@[simp] theorem withSch_sch (p : Part) (x : Sch) : (p.withSch x).sch = x := rfl
@[simp] theorem withSch_ssu (p : Part) (x : Sch) : (p.withSch x).ssu = p.ssu := rfl
@[simp] theorem withSch_prt (p : Part) (x : Sch) : (p.withSch x).prt = p.prt := rfl
@[simp] theorem withSch_pwu (p : Part) (x : Sch) : (p.withSch x).pwu = p.pwu := rfl
@[simp] theorem withSch_pln (p : Part) (x : Sch) : (p.withSch x).pln = p.pln := rfl
@[simp] theorem withSch_pins (p : Part) (x : Sch) : (p.withSch x).pins = p.pins := rfl

@[simp] theorem withSsu_sfe (p : Part) (x : Ssu) : (p.withSsu x).sfe = p.sfe := rfl
@[simp] theorem withSsu_smn (p : Part) (x : Ssu) : (p.withSsu x).smn = p.smn := rfl
@[simp] theorem withSsu_flc (p : Part) (x : Ssu) : (p.withSsu x).flc = p.flc := rfl
@[simp] theorem withSsu_sgu (p : Part) (x : Ssu) : (p.withSsu x).sgu = p.sgu := rfl
@[simp] theorem withSsu_scu (p : Part) (x : Ssu) : (p.withSsu x).scu = p.scu := rfl
@[simp] theorem withSsu_rtu (p : Part) (x : Ssu) : (p.withSsu x).rtu = p.rtu := rfl
@[simp] theorem withSsu_sch (p : Part) (x : Ssu) : (p.withSsu x).sch = p.sch := rfl
@[simp] theorem withSsu_ssu (p : Part) (x : Ssu) : (p.withSsu x).ssu = x := rfl
@[simp] theorem withSsu_prt (p : Part) (x : Ssu) : (p.withSsu x).prt = p.prt := rfl
@[simp] theorem withSsu_pwu (p : Part) (x : Ssu) : (p.withSsu x).pwu = p.pwu := rfl
@[simp] theorem withSsu_pln (p : Part) (x : Ssu) : (p.withSsu x).pln = p.pln := rfl
@[simp] theorem withSsu_pins (p : Part) (x : Ssu) : (p.withSsu x).pins = p.pins := rfl

@[simp] theorem withPrt_sfe (p : Part) (x : Prt) : (p.withPrt x).sfe = p.sfe := rfl
@[simp] theorem withPrt_smn (p : Part) (x : Prt) : (p.withPrt x).smn = p.smn := rfl
@[simp] theorem withPrt_flc (p : Part) (x : Prt) : (p.withPrt x).flc = p.flc := rfl
@[simp] theorem withPrt_sgu (p : Part) (x : Prt) : (p.withPrt x).sgu = p.sgu := rfl
@[simp] theorem withPrt_scu (p : Part) (x : Prt) : (p.withPrt x).scu = p.scu := rfl
@[simp] theorem withPrt_rtu (p : Part) (x : Prt) : (p.withPrt x).rtu = p.rtu := rfl
@[simp] theorem withPrt_sch (p : Part) (x : Prt) : (p.withPrt x).sch = p.sch := rfl
@[simp] theorem withPrt_ssu (p : Part) (x : Prt) : (p.withPrt x).ssu = p.ssu := rfl
@[simp] theorem withPrt_prt (p : Part) (x : Prt) : (p.withPrt x).prt = x := rfl
@[simp] theorem withPrt_pwu (p : Part) (x : Prt) : (p.withPrt x).pwu = p.pwu := rfl
@[simp] theorem withPrt_pln (p : Part) (x : Prt) : (p.withPrt x).pln = p.pln := rfl
@[simp] theorem withPrt_pins (p : Part) (x : Prt) : (p.withPrt x).pins = p.pins := rfl

@[simp] theorem withPwu_sfe (p : Part) (x : Pwu) : (p.withPwu x).sfe = p.sfe := rfl
@[simp] theorem withPwu_smn (p : Part) (x : Pwu) : (p.withPwu x).smn = p.smn := rfl
@[simp] theorem withPwu_flc (p : Part) (x : Pwu) : (p.withPwu x).flc = p.flc := rfl
@[simp] theorem withPwu_sgu (p : Part) (x : Pwu) : (p.withPwu x).sgu = p.sgu := rfl
@[simp] theorem withPwu_scu (p : Part) (x : Pwu) : (p.withPwu x).scu = p.scu := rfl
@[simp] theorem withPwu_rtu (p : Part) (x : Pwu) : (p.withPwu x).rtu = p.rtu := rfl
@[simp] theorem withPwu_sch (p : Part) (x : Pwu) : (p.withPwu x).sch = p.sch := rfl
@[simp] theorem withPwu_ssu (p : Part) (x : Pwu) : (p.withPwu x).ssu = p.ssu := rfl
@[simp] theorem withPwu_prt (p : Part) (x : Pwu) : (p.withPwu x).prt = p.prt := rfl
@[simp] theorem withPwu_pwu (p : Part) (x : Pwu) : (p.withPwu x).pwu = x := rfl
@[simp] theorem withPwu_pln (p : Part) (x : Pwu) : (p.withPwu x).pln = p.pln := rfl
@[simp] theorem withPwu_pins (p : Part) (x : Pwu) : (p.withPwu x).pins = p.pins := rfl

@[simp] theorem withPln_sfe (p : Part) (x : Pln) : (p.withPln x).sfe = p.sfe := rfl
@[simp] theorem withPln_smn (p : Part) (x : Pln) : (p.withPln x).smn = p.smn := rfl
@[simp] theorem withPln_flc (p : Part) (x : Pln) : (p.withPln x).flc = p.flc := rfl
@[simp] theorem withPln_sgu (p : Part) (x : Pln) : (p.withPln x).sgu = p.sgu := rfl
@[simp] theorem withPln_scu (p : Part) (x : Pln) : (p.withPln x).scu = p.scu := rfl
@[simp] theorem withPln_rtu (p : Part) (x : Pln) : (p.withPln x).rtu = p.rtu := rfl
@[simp] theorem withPln_sch (p : Part) (x : Pln) : (p.withPln x).sch = p.sch := rfl
@[simp] theorem withPln_ssu (p : Part) (x : Pln) : (p.withPln x).ssu = p.ssu := rfl
@[simp] theorem withPln_prt (p : Part) (x : Pln) : (p.withPln x).prt = p.prt := rfl
@[simp] theorem withPln_pwu (p : Part) (x : Pln) : (p.withPln x).pwu = p.pwu := rfl
@[simp] theorem withPln_pln (p : Part) (x : Pln) : (p.withPln x).pln = x := rfl
@[simp] theorem withPln_pins (p : Part) (x : Pln) : (p.withPln x).pins = p.pins := rfl

@[simp] theorem withPins_sfe (p : Part) (x : Pins) : (p.withPins x).sfe = p.sfe := rfl
@[simp] theorem withPins_smn (p : Part) (x : Pins) : (p.withPins x).smn = p.smn := rfl
@[simp] theorem withPins_flc (p : Part) (x : Pins) : (p.withPins x).flc = p.flc := rfl
@[simp] theorem withPins_sgu (p : Part) (x : Pins) : (p.withPins x).sgu = p.sgu := rfl
@[simp] theorem withPins_scu (p : Part) (x : Pins) : (p.withPins x).scu = p.scu := rfl
@[simp] theorem withPins_rtu (p : Part) (x : Pins) : (p.withPins x).rtu = p.rtu := rfl
@[simp] theorem withPins_sch (p : Part) (x : Pins) : (p.withPins x).sch = p.sch := rfl
@[simp] theorem withPins_ssu (p : Part) (x : Pins) : (p.withPins x).ssu = p.ssu := rfl
@[simp] theorem withPins_prt (p : Part) (x : Pins) : (p.withPins x).prt = p.prt := rfl
@[simp] theorem withPins_pwu (p : Part) (x : Pins) : (p.withPins x).pwu = p.pwu := rfl
@[simp] theorem withPins_pln (p : Part) (x : Pins) : (p.withPins x).pln = p.pln := rfl
@[simp] theorem withPins_pins (p : Part) (x : Pins) : (p.withPins x).pins = x := rfl

/-! ### Numbered records -/

@[simp] theorem setChannel_smn (p : Part) (i : ChannelId) (x : Channel) : (p.setChannel i x).smn = p.smn := rfl
@[simp] theorem setChannel_flc (p : Part) (i : ChannelId) (x : Channel) : (p.setChannel i x).flc = p.flc := rfl
@[simp] theorem setChannel_sgu (p : Part) (i : ChannelId) (x : Channel) : (p.setChannel i x).sgu = p.sgu := rfl
@[simp] theorem setChannel_scu (p : Part) (i : ChannelId) (x : Channel) : (p.setChannel i x).scu = p.scu := rfl
@[simp] theorem setChannel_rtu (p : Part) (i : ChannelId) (x : Channel) : (p.setChannel i x).rtu = p.rtu := rfl
@[simp] theorem setChannel_sch (p : Part) (i : ChannelId) (x : Channel) : (p.setChannel i x).sch = p.sch := rfl
@[simp] theorem setChannel_ssu (p : Part) (i : ChannelId) (x : Channel) : (p.setChannel i x).ssu = p.ssu := rfl
@[simp] theorem setChannel_prt (p : Part) (i : ChannelId) (x : Channel) : (p.setChannel i x).prt = p.prt := rfl
@[simp] theorem setChannel_pwu (p : Part) (i : ChannelId) (x : Channel) : (p.setChannel i x).pwu = p.pwu := rfl
@[simp] theorem setChannel_pln (p : Part) (i : ChannelId) (x : Channel) : (p.setChannel i x).pln = p.pln := rfl
@[simp] theorem setChannel_pins (p : Part) (i : ChannelId) (x : Channel) : (p.setChannel i x).pins = p.pins := rfl
@[simp] theorem withSmn_channel (p : Part) (x : Smn) (i : ChannelId) : (p.withSmn x).channel i = p.channel i := rfl
@[simp] theorem withFlc_channel (p : Part) (x : Flc) (i : ChannelId) : (p.withFlc x).channel i = p.channel i := rfl
@[simp] theorem withSgu_channel (p : Part) (x : Sgu) (i : ChannelId) : (p.withSgu x).channel i = p.channel i := rfl
@[simp] theorem withScu_channel (p : Part) (x : Scu) (i : ChannelId) : (p.withScu x).channel i = p.channel i := rfl
@[simp] theorem withRtu_channel (p : Part) (x : Rtu) (i : ChannelId) : (p.withRtu x).channel i = p.channel i := rfl
@[simp] theorem withSch_channel (p : Part) (x : Sch) (i : ChannelId) : (p.withSch x).channel i = p.channel i := rfl
@[simp] theorem withSsu_channel (p : Part) (x : Ssu) (i : ChannelId) : (p.withSsu x).channel i = p.channel i := rfl
@[simp] theorem withPrt_channel (p : Part) (x : Prt) (i : ChannelId) : (p.withPrt x).channel i = p.channel i := rfl
@[simp] theorem withPwu_channel (p : Part) (x : Pwu) (i : ChannelId) : (p.withPwu x).channel i = p.channel i := rfl
@[simp] theorem withPln_channel (p : Part) (x : Pln) (i : ChannelId) : (p.withPln x).channel i = p.channel i := rfl
@[simp] theorem withPins_channel (p : Part) (x : Pins) (i : ChannelId) : (p.withPins x).channel i = p.channel i := rfl
theorem setChannel_channel (p : Part) (i j : ChannelId) (x : Channel) : (p.setChannel i x).channel j = if j = i then x else p.channel j :=
  get_setEntry _ _ _ _
@[simp] theorem setChannel_channel_self (p : Part) (i : ChannelId) (x : Channel) : (p.setChannel i x).channel i = x := by simp [setChannel_channel]
@[simp] theorem setChannel_channel_ne (p : Part) {i j : ChannelId} (h : j ≠ i) (x : Channel) : (p.setChannel i x).channel j = p.channel j := by
  simp [setChannel_channel, h]
@[simp] theorem setChannel_seat (p : Part) (i : ChannelId) (x : Channel) (j : SeatId) : (p.setChannel i x).seat j = p.seat j := rfl
@[simp] theorem setChannel_slot (p : Part) (i : ChannelId) (x : Channel) (j : SlotId) : (p.setChannel i x).slot j = p.slot j := rfl
@[simp] theorem setChannel_socket (p : Part) (i : ChannelId) (x : Channel) (j : SocketId) : (p.setChannel i x).socket j = p.socket j := rfl
@[simp] theorem setChannel_screen (p : Part) (i : ChannelId) (x : Channel) (j : ScreenId) : (p.setChannel i x).screen j = p.screen j := rfl
@[simp] theorem setChannel_port (p : Part) (i : ChannelId) (x : Channel) (q : Port) : (p.setChannel i x).port q = p.port q := rfl

@[simp] theorem setSeat_sfe (p : Part) (i : SeatId) (x : Seat) : (p.setSeat i x).sfe = p.sfe := rfl
@[simp] theorem setSeat_flc (p : Part) (i : SeatId) (x : Seat) : (p.setSeat i x).flc = p.flc := rfl
@[simp] theorem setSeat_sgu (p : Part) (i : SeatId) (x : Seat) : (p.setSeat i x).sgu = p.sgu := rfl
@[simp] theorem setSeat_scu (p : Part) (i : SeatId) (x : Seat) : (p.setSeat i x).scu = p.scu := rfl
@[simp] theorem setSeat_rtu (p : Part) (i : SeatId) (x : Seat) : (p.setSeat i x).rtu = p.rtu := rfl
@[simp] theorem setSeat_sch (p : Part) (i : SeatId) (x : Seat) : (p.setSeat i x).sch = p.sch := rfl
@[simp] theorem setSeat_ssu (p : Part) (i : SeatId) (x : Seat) : (p.setSeat i x).ssu = p.ssu := rfl
@[simp] theorem setSeat_prt (p : Part) (i : SeatId) (x : Seat) : (p.setSeat i x).prt = p.prt := rfl
@[simp] theorem setSeat_pwu (p : Part) (i : SeatId) (x : Seat) : (p.setSeat i x).pwu = p.pwu := rfl
@[simp] theorem setSeat_pln (p : Part) (i : SeatId) (x : Seat) : (p.setSeat i x).pln = p.pln := rfl
@[simp] theorem setSeat_pins (p : Part) (i : SeatId) (x : Seat) : (p.setSeat i x).pins = p.pins := rfl
@[simp] theorem withSfe_seat (p : Part) (x : Sfe) (i : SeatId) : (p.withSfe x).seat i = p.seat i := rfl
@[simp] theorem withFlc_seat (p : Part) (x : Flc) (i : SeatId) : (p.withFlc x).seat i = p.seat i := rfl
@[simp] theorem withSgu_seat (p : Part) (x : Sgu) (i : SeatId) : (p.withSgu x).seat i = p.seat i := rfl
@[simp] theorem withScu_seat (p : Part) (x : Scu) (i : SeatId) : (p.withScu x).seat i = p.seat i := rfl
@[simp] theorem withRtu_seat (p : Part) (x : Rtu) (i : SeatId) : (p.withRtu x).seat i = p.seat i := rfl
@[simp] theorem withSch_seat (p : Part) (x : Sch) (i : SeatId) : (p.withSch x).seat i = p.seat i := rfl
@[simp] theorem withSsu_seat (p : Part) (x : Ssu) (i : SeatId) : (p.withSsu x).seat i = p.seat i := rfl
@[simp] theorem withPrt_seat (p : Part) (x : Prt) (i : SeatId) : (p.withPrt x).seat i = p.seat i := rfl
@[simp] theorem withPwu_seat (p : Part) (x : Pwu) (i : SeatId) : (p.withPwu x).seat i = p.seat i := rfl
@[simp] theorem withPln_seat (p : Part) (x : Pln) (i : SeatId) : (p.withPln x).seat i = p.seat i := rfl
@[simp] theorem withPins_seat (p : Part) (x : Pins) (i : SeatId) : (p.withPins x).seat i = p.seat i := rfl
theorem setSeat_seat (p : Part) (i j : SeatId) (x : Seat) : (p.setSeat i x).seat j = if j = i then x else p.seat j :=
  get_setEntry _ _ _ _
@[simp] theorem setSeat_seat_self (p : Part) (i : SeatId) (x : Seat) : (p.setSeat i x).seat i = x := by simp [setSeat_seat]
@[simp] theorem setSeat_seat_ne (p : Part) {i j : SeatId} (h : j ≠ i) (x : Seat) : (p.setSeat i x).seat j = p.seat j := by
  simp [setSeat_seat, h]
@[simp] theorem setSeat_channel (p : Part) (i : SeatId) (x : Seat) (j : ChannelId) : (p.setSeat i x).channel j = p.channel j := rfl
@[simp] theorem setSeat_slot (p : Part) (i : SeatId) (x : Seat) (j : SlotId) : (p.setSeat i x).slot j = p.slot j := rfl
@[simp] theorem setSeat_socket (p : Part) (i : SeatId) (x : Seat) (j : SocketId) : (p.setSeat i x).socket j = p.socket j := rfl
@[simp] theorem setSeat_screen (p : Part) (i : SeatId) (x : Seat) (j : ScreenId) : (p.setSeat i x).screen j = p.screen j := rfl
@[simp] theorem setSeat_port (p : Part) (i : SeatId) (x : Seat) (q : Port) : (p.setSeat i x).port q = p.port q := rfl

@[simp] theorem setSlot_sfe (p : Part) (i : SlotId) (x : Slot) : (p.setSlot i x).sfe = p.sfe := rfl
@[simp] theorem setSlot_smn (p : Part) (i : SlotId) (x : Slot) : (p.setSlot i x).smn = p.smn := rfl
@[simp] theorem setSlot_flc (p : Part) (i : SlotId) (x : Slot) : (p.setSlot i x).flc = p.flc := rfl
@[simp] theorem setSlot_scu (p : Part) (i : SlotId) (x : Slot) : (p.setSlot i x).scu = p.scu := rfl
@[simp] theorem setSlot_rtu (p : Part) (i : SlotId) (x : Slot) : (p.setSlot i x).rtu = p.rtu := rfl
@[simp] theorem setSlot_sch (p : Part) (i : SlotId) (x : Slot) : (p.setSlot i x).sch = p.sch := rfl
@[simp] theorem setSlot_ssu (p : Part) (i : SlotId) (x : Slot) : (p.setSlot i x).ssu = p.ssu := rfl
@[simp] theorem setSlot_prt (p : Part) (i : SlotId) (x : Slot) : (p.setSlot i x).prt = p.prt := rfl
@[simp] theorem setSlot_pwu (p : Part) (i : SlotId) (x : Slot) : (p.setSlot i x).pwu = p.pwu := rfl
@[simp] theorem setSlot_pln (p : Part) (i : SlotId) (x : Slot) : (p.setSlot i x).pln = p.pln := rfl
@[simp] theorem setSlot_pins (p : Part) (i : SlotId) (x : Slot) : (p.setSlot i x).pins = p.pins := rfl
@[simp] theorem withSfe_slot (p : Part) (x : Sfe) (i : SlotId) : (p.withSfe x).slot i = p.slot i := rfl
@[simp] theorem withSmn_slot (p : Part) (x : Smn) (i : SlotId) : (p.withSmn x).slot i = p.slot i := rfl
@[simp] theorem withFlc_slot (p : Part) (x : Flc) (i : SlotId) : (p.withFlc x).slot i = p.slot i := rfl
@[simp] theorem withScu_slot (p : Part) (x : Scu) (i : SlotId) : (p.withScu x).slot i = p.slot i := rfl
@[simp] theorem withRtu_slot (p : Part) (x : Rtu) (i : SlotId) : (p.withRtu x).slot i = p.slot i := rfl
@[simp] theorem withSch_slot (p : Part) (x : Sch) (i : SlotId) : (p.withSch x).slot i = p.slot i := rfl
@[simp] theorem withSsu_slot (p : Part) (x : Ssu) (i : SlotId) : (p.withSsu x).slot i = p.slot i := rfl
@[simp] theorem withPrt_slot (p : Part) (x : Prt) (i : SlotId) : (p.withPrt x).slot i = p.slot i := rfl
@[simp] theorem withPwu_slot (p : Part) (x : Pwu) (i : SlotId) : (p.withPwu x).slot i = p.slot i := rfl
@[simp] theorem withPln_slot (p : Part) (x : Pln) (i : SlotId) : (p.withPln x).slot i = p.slot i := rfl
@[simp] theorem withPins_slot (p : Part) (x : Pins) (i : SlotId) : (p.withPins x).slot i = p.slot i := rfl
theorem setSlot_slot (p : Part) (i j : SlotId) (x : Slot) : (p.setSlot i x).slot j = if j = i then x else p.slot j :=
  get_setEntry _ _ _ _
@[simp] theorem setSlot_slot_self (p : Part) (i : SlotId) (x : Slot) : (p.setSlot i x).slot i = x := by simp [setSlot_slot]
@[simp] theorem setSlot_slot_ne (p : Part) {i j : SlotId} (h : j ≠ i) (x : Slot) : (p.setSlot i x).slot j = p.slot j := by
  simp [setSlot_slot, h]
@[simp] theorem setSlot_channel (p : Part) (i : SlotId) (x : Slot) (j : ChannelId) : (p.setSlot i x).channel j = p.channel j := rfl
@[simp] theorem setSlot_seat (p : Part) (i : SlotId) (x : Slot) (j : SeatId) : (p.setSlot i x).seat j = p.seat j := rfl
@[simp] theorem setSlot_socket (p : Part) (i : SlotId) (x : Slot) (j : SocketId) : (p.setSlot i x).socket j = p.socket j := rfl
@[simp] theorem setSlot_screen (p : Part) (i : SlotId) (x : Slot) (j : ScreenId) : (p.setSlot i x).screen j = p.screen j := rfl
@[simp] theorem setSlot_port (p : Part) (i : SlotId) (x : Slot) (q : Port) : (p.setSlot i x).port q = p.port q := rfl

@[simp] theorem setSocket_sfe (p : Part) (i : SocketId) (x : Socket) : (p.setSocket i x).sfe = p.sfe := rfl
@[simp] theorem setSocket_smn (p : Part) (i : SocketId) (x : Socket) : (p.setSocket i x).smn = p.smn := rfl
@[simp] theorem setSocket_flc (p : Part) (i : SocketId) (x : Socket) : (p.setSocket i x).flc = p.flc := rfl
@[simp] theorem setSocket_sgu (p : Part) (i : SocketId) (x : Socket) : (p.setSocket i x).sgu = p.sgu := rfl
@[simp] theorem setSocket_rtu (p : Part) (i : SocketId) (x : Socket) : (p.setSocket i x).rtu = p.rtu := rfl
@[simp] theorem setSocket_sch (p : Part) (i : SocketId) (x : Socket) : (p.setSocket i x).sch = p.sch := rfl
@[simp] theorem setSocket_ssu (p : Part) (i : SocketId) (x : Socket) : (p.setSocket i x).ssu = p.ssu := rfl
@[simp] theorem setSocket_prt (p : Part) (i : SocketId) (x : Socket) : (p.setSocket i x).prt = p.prt := rfl
@[simp] theorem setSocket_pwu (p : Part) (i : SocketId) (x : Socket) : (p.setSocket i x).pwu = p.pwu := rfl
@[simp] theorem setSocket_pln (p : Part) (i : SocketId) (x : Socket) : (p.setSocket i x).pln = p.pln := rfl
@[simp] theorem setSocket_pins (p : Part) (i : SocketId) (x : Socket) : (p.setSocket i x).pins = p.pins := rfl
@[simp] theorem withSfe_socket (p : Part) (x : Sfe) (i : SocketId) : (p.withSfe x).socket i = p.socket i := rfl
@[simp] theorem withSmn_socket (p : Part) (x : Smn) (i : SocketId) : (p.withSmn x).socket i = p.socket i := rfl
@[simp] theorem withFlc_socket (p : Part) (x : Flc) (i : SocketId) : (p.withFlc x).socket i = p.socket i := rfl
@[simp] theorem withSgu_socket (p : Part) (x : Sgu) (i : SocketId) : (p.withSgu x).socket i = p.socket i := rfl
@[simp] theorem withRtu_socket (p : Part) (x : Rtu) (i : SocketId) : (p.withRtu x).socket i = p.socket i := rfl
@[simp] theorem withSch_socket (p : Part) (x : Sch) (i : SocketId) : (p.withSch x).socket i = p.socket i := rfl
@[simp] theorem withSsu_socket (p : Part) (x : Ssu) (i : SocketId) : (p.withSsu x).socket i = p.socket i := rfl
@[simp] theorem withPrt_socket (p : Part) (x : Prt) (i : SocketId) : (p.withPrt x).socket i = p.socket i := rfl
@[simp] theorem withPwu_socket (p : Part) (x : Pwu) (i : SocketId) : (p.withPwu x).socket i = p.socket i := rfl
@[simp] theorem withPln_socket (p : Part) (x : Pln) (i : SocketId) : (p.withPln x).socket i = p.socket i := rfl
@[simp] theorem withPins_socket (p : Part) (x : Pins) (i : SocketId) : (p.withPins x).socket i = p.socket i := rfl
theorem setSocket_socket (p : Part) (i j : SocketId) (x : Socket) : (p.setSocket i x).socket j = if j = i then x else p.socket j :=
  get_setEntry _ _ _ _
@[simp] theorem setSocket_socket_self (p : Part) (i : SocketId) (x : Socket) : (p.setSocket i x).socket i = x := by simp [setSocket_socket]
@[simp] theorem setSocket_socket_ne (p : Part) {i j : SocketId} (h : j ≠ i) (x : Socket) : (p.setSocket i x).socket j = p.socket j := by
  simp [setSocket_socket, h]
@[simp] theorem setSocket_channel (p : Part) (i : SocketId) (x : Socket) (j : ChannelId) : (p.setSocket i x).channel j = p.channel j := rfl
@[simp] theorem setSocket_seat (p : Part) (i : SocketId) (x : Socket) (j : SeatId) : (p.setSocket i x).seat j = p.seat j := rfl
@[simp] theorem setSocket_slot (p : Part) (i : SocketId) (x : Socket) (j : SlotId) : (p.setSocket i x).slot j = p.slot j := rfl
@[simp] theorem setSocket_screen (p : Part) (i : SocketId) (x : Socket) (j : ScreenId) : (p.setSocket i x).screen j = p.screen j := rfl
@[simp] theorem setSocket_port (p : Part) (i : SocketId) (x : Socket) (q : Port) : (p.setSocket i x).port q = p.port q := rfl

@[simp] theorem setScreen_sfe (p : Part) (i : ScreenId) (x : Screen) : (p.setScreen i x).sfe = p.sfe := rfl
@[simp] theorem setScreen_smn (p : Part) (i : ScreenId) (x : Screen) : (p.setScreen i x).smn = p.smn := rfl
@[simp] theorem setScreen_flc (p : Part) (i : ScreenId) (x : Screen) : (p.setScreen i x).flc = p.flc := rfl
@[simp] theorem setScreen_sgu (p : Part) (i : ScreenId) (x : Screen) : (p.setScreen i x).sgu = p.sgu := rfl
@[simp] theorem setScreen_scu (p : Part) (i : ScreenId) (x : Screen) : (p.setScreen i x).scu = p.scu := rfl
@[simp] theorem setScreen_sch (p : Part) (i : ScreenId) (x : Screen) : (p.setScreen i x).sch = p.sch := rfl
@[simp] theorem setScreen_ssu (p : Part) (i : ScreenId) (x : Screen) : (p.setScreen i x).ssu = p.ssu := rfl
@[simp] theorem setScreen_prt (p : Part) (i : ScreenId) (x : Screen) : (p.setScreen i x).prt = p.prt := rfl
@[simp] theorem setScreen_pwu (p : Part) (i : ScreenId) (x : Screen) : (p.setScreen i x).pwu = p.pwu := rfl
@[simp] theorem setScreen_pln (p : Part) (i : ScreenId) (x : Screen) : (p.setScreen i x).pln = p.pln := rfl
@[simp] theorem setScreen_pins (p : Part) (i : ScreenId) (x : Screen) : (p.setScreen i x).pins = p.pins := rfl
@[simp] theorem withSfe_screen (p : Part) (x : Sfe) (i : ScreenId) : (p.withSfe x).screen i = p.screen i := rfl
@[simp] theorem withSmn_screen (p : Part) (x : Smn) (i : ScreenId) : (p.withSmn x).screen i = p.screen i := rfl
@[simp] theorem withFlc_screen (p : Part) (x : Flc) (i : ScreenId) : (p.withFlc x).screen i = p.screen i := rfl
@[simp] theorem withSgu_screen (p : Part) (x : Sgu) (i : ScreenId) : (p.withSgu x).screen i = p.screen i := rfl
@[simp] theorem withScu_screen (p : Part) (x : Scu) (i : ScreenId) : (p.withScu x).screen i = p.screen i := rfl
@[simp] theorem withSch_screen (p : Part) (x : Sch) (i : ScreenId) : (p.withSch x).screen i = p.screen i := rfl
@[simp] theorem withSsu_screen (p : Part) (x : Ssu) (i : ScreenId) : (p.withSsu x).screen i = p.screen i := rfl
@[simp] theorem withPrt_screen (p : Part) (x : Prt) (i : ScreenId) : (p.withPrt x).screen i = p.screen i := rfl
@[simp] theorem withPwu_screen (p : Part) (x : Pwu) (i : ScreenId) : (p.withPwu x).screen i = p.screen i := rfl
@[simp] theorem withPln_screen (p : Part) (x : Pln) (i : ScreenId) : (p.withPln x).screen i = p.screen i := rfl
@[simp] theorem withPins_screen (p : Part) (x : Pins) (i : ScreenId) : (p.withPins x).screen i = p.screen i := rfl
theorem setScreen_screen (p : Part) (i j : ScreenId) (x : Screen) : (p.setScreen i x).screen j = if j = i then x else p.screen j :=
  get_setEntry _ _ _ _
@[simp] theorem setScreen_screen_self (p : Part) (i : ScreenId) (x : Screen) : (p.setScreen i x).screen i = x := by simp [setScreen_screen]
@[simp] theorem setScreen_screen_ne (p : Part) {i j : ScreenId} (h : j ≠ i) (x : Screen) : (p.setScreen i x).screen j = p.screen j := by
  simp [setScreen_screen, h]
@[simp] theorem setScreen_channel (p : Part) (i : ScreenId) (x : Screen) (j : ChannelId) : (p.setScreen i x).channel j = p.channel j := rfl
@[simp] theorem setScreen_seat (p : Part) (i : ScreenId) (x : Screen) (j : SeatId) : (p.setScreen i x).seat j = p.seat j := rfl
@[simp] theorem setScreen_slot (p : Part) (i : ScreenId) (x : Screen) (j : SlotId) : (p.setScreen i x).slot j = p.slot j := rfl
@[simp] theorem setScreen_socket (p : Part) (i : ScreenId) (x : Screen) (j : SocketId) : (p.setScreen i x).socket j = p.socket j := rfl
@[simp] theorem setScreen_port (p : Part) (i : ScreenId) (x : Screen) (q : Port) : (p.setScreen i x).port q = p.port q := rfl

@[simp] theorem withSfe_port (p : Part) (x : Sfe) (q : Port) : (p.withSfe x).port q = p.port q := rfl
@[simp] theorem setPort_sfe (p : Part) (q : Port) (x : PortRecord) : (p.setPort q x).sfe = p.sfe := rfl
@[simp] theorem withSmn_port (p : Part) (x : Smn) (q : Port) : (p.withSmn x).port q = p.port q := rfl
@[simp] theorem setPort_smn (p : Part) (q : Port) (x : PortRecord) : (p.setPort q x).smn = p.smn := rfl
@[simp] theorem withFlc_port (p : Part) (x : Flc) (q : Port) : (p.withFlc x).port q = p.port q := rfl
@[simp] theorem setPort_flc (p : Part) (q : Port) (x : PortRecord) : (p.setPort q x).flc = p.flc := rfl
@[simp] theorem withSgu_port (p : Part) (x : Sgu) (q : Port) : (p.withSgu x).port q = p.port q := rfl
@[simp] theorem setPort_sgu (p : Part) (q : Port) (x : PortRecord) : (p.setPort q x).sgu = p.sgu := rfl
@[simp] theorem withScu_port (p : Part) (x : Scu) (q : Port) : (p.withScu x).port q = p.port q := rfl
@[simp] theorem setPort_scu (p : Part) (q : Port) (x : PortRecord) : (p.setPort q x).scu = p.scu := rfl
@[simp] theorem withRtu_port (p : Part) (x : Rtu) (q : Port) : (p.withRtu x).port q = p.port q := rfl
@[simp] theorem setPort_rtu (p : Part) (q : Port) (x : PortRecord) : (p.setPort q x).rtu = p.rtu := rfl
@[simp] theorem withSch_port (p : Part) (x : Sch) (q : Port) : (p.withSch x).port q = p.port q := rfl
@[simp] theorem setPort_sch (p : Part) (q : Port) (x : PortRecord) : (p.setPort q x).sch = p.sch := rfl
@[simp] theorem withSsu_port (p : Part) (x : Ssu) (q : Port) : (p.withSsu x).port q = p.port q := rfl
@[simp] theorem setPort_ssu (p : Part) (q : Port) (x : PortRecord) : (p.setPort q x).ssu = p.ssu := rfl
@[simp] theorem withPwu_port (p : Part) (x : Pwu) (q : Port) : (p.withPwu x).port q = p.port q := rfl
@[simp] theorem setPort_pwu (p : Part) (q : Port) (x : PortRecord) : (p.setPort q x).pwu = p.pwu := rfl
@[simp] theorem withPln_port (p : Part) (x : Pln) (q : Port) : (p.withPln x).port q = p.port q := rfl
@[simp] theorem setPort_pln (p : Part) (q : Port) (x : PortRecord) : (p.setPort q x).pln = p.pln := rfl
@[simp] theorem withPins_port (p : Part) (x : Pins) (q : Port) : (p.withPins x).port q = p.port q := rfl
@[simp] theorem setPort_pins (p : Part) (q : Port) (x : PortRecord) : (p.setPort q x).pins = p.pins := rfl
@[simp] theorem setPort_channel (p : Part) (q : Port) (x : PortRecord) (i : ChannelId) : (p.setPort q x).channel i = p.channel i := rfl
@[simp] theorem setPort_seat (p : Part) (q : Port) (x : PortRecord) (i : SeatId) : (p.setPort q x).seat i = p.seat i := rfl
@[simp] theorem setPort_slot (p : Part) (q : Port) (x : PortRecord) (i : SlotId) : (p.setPort q x).slot i = p.slot i := rfl
@[simp] theorem setPort_socket (p : Part) (q : Port) (x : PortRecord) (i : SocketId) : (p.setPort q x).socket i = p.socket i := rfl
@[simp] theorem setPort_screen (p : Part) (q : Port) (x : PortRecord) (i : ScreenId) : (p.setPort q x).screen i = p.screen i := rfl

theorem portIdx_inj {a b : Port} : portIdx a = portIdx b ↔ a = b := by cases a <;> cases b <;> simp [portIdx]

theorem setPort_port (p : Part) (q r : Port) (x : PortRecord) : (p.setPort q x).port r = if r = q then x else p.port r := by
  simp only [port, setPort, withPrt_prt, get_setEntry, portIdx_inj]

@[simp] theorem setPort_port_self (p : Part) (q : Port) (x : PortRecord) : (p.setPort q x).port q = x := by simp [setPort_port]
@[simp] theorem setPort_port_ne (p : Part) {q r : Port} (h : r ≠ q) (x : PortRecord) : (p.setPort q x).port r = p.port r := by
  simp [setPort_port, h]
@[simp] theorem setPort_rx (p : Part) (q : Port) (x : PortRecord) : (p.setPort q x).prt.rx = p.prt.rx := rfl
@[simp] theorem setPort_roomId (p : Part) (q : Port) (x : PortRecord) : (p.setPort q x).prt.roomId = p.prt.roomId := rfl
@[simp] theorem setPort_tableName (p : Part) (q : Port) (x : PortRecord) : (p.setPort q x).prt.tableName = p.prt.tableName := rfl

@[simp] theorem setSession_sfe (p : Part) (x : Option Session) : (p.setSession x).sfe = p.sfe := rfl
@[simp] theorem setSession_smn (p : Part) (x : Option Session) : (p.setSession x).smn = p.smn := rfl
@[simp] theorem setSession_flc (p : Part) (x : Option Session) : (p.setSession x).flc = p.flc := rfl
@[simp] theorem setSession_sgu (p : Part) (x : Option Session) : (p.setSession x).sgu = p.sgu := rfl
@[simp] theorem setSession_scu (p : Part) (x : Option Session) : (p.setSession x).scu = p.scu := rfl
@[simp] theorem setSession_rtu (p : Part) (x : Option Session) : (p.setSession x).rtu = p.rtu := rfl
@[simp] theorem setSession_sch (p : Part) (x : Option Session) : (p.setSession x).sch = p.sch := rfl
@[simp] theorem setSession_prt (p : Part) (x : Option Session) : (p.setSession x).prt = p.prt := rfl
@[simp] theorem setSession_pwu (p : Part) (x : Option Session) : (p.setSession x).pwu = p.pwu := rfl
@[simp] theorem setSession_pln (p : Part) (x : Option Session) : (p.setSession x).pln = p.pln := rfl
@[simp] theorem setSession_pins (p : Part) (x : Option Session) : (p.setSession x).pins = p.pins := rfl
@[simp] theorem setSession_session (p : Part) (x : Option Session) : (p.setSession x).ssu.session = x := rfl
@[simp] theorem setClock_sfe (p : Part) (x : Clock) : (p.setClock x).sfe = p.sfe := rfl
@[simp] theorem setClock_smn (p : Part) (x : Clock) : (p.setClock x).smn = p.smn := rfl
@[simp] theorem setClock_flc (p : Part) (x : Clock) : (p.setClock x).flc = p.flc := rfl
@[simp] theorem setClock_sgu (p : Part) (x : Clock) : (p.setClock x).sgu = p.sgu := rfl
@[simp] theorem setClock_scu (p : Part) (x : Clock) : (p.setClock x).scu = p.scu := rfl
@[simp] theorem setClock_rtu (p : Part) (x : Clock) : (p.setClock x).rtu = p.rtu := rfl
@[simp] theorem setClock_ssu (p : Part) (x : Clock) : (p.setClock x).ssu = p.ssu := rfl
@[simp] theorem setClock_prt (p : Part) (x : Clock) : (p.setClock x).prt = p.prt := rfl
@[simp] theorem setClock_pwu (p : Part) (x : Clock) : (p.setClock x).pwu = p.pwu := rfl
@[simp] theorem setClock_pln (p : Part) (x : Clock) : (p.setClock x).pln = p.pln := rfl
@[simp] theorem setClock_pins (p : Part) (x : Clock) : (p.setClock x).pins = p.pins := rfl
@[simp] theorem setClock_clock (p : Part) (x : Clock) : (p.setClock x).sch.clock = x := rfl
@[simp] theorem setPower_sfe (p : Part) (x : PowerState) : (p.setPower x).sfe = p.sfe := rfl
@[simp] theorem setPower_smn (p : Part) (x : PowerState) : (p.setPower x).smn = p.smn := rfl
@[simp] theorem setPower_flc (p : Part) (x : PowerState) : (p.setPower x).flc = p.flc := rfl
@[simp] theorem setPower_sgu (p : Part) (x : PowerState) : (p.setPower x).sgu = p.sgu := rfl
@[simp] theorem setPower_scu (p : Part) (x : PowerState) : (p.setPower x).scu = p.scu := rfl
@[simp] theorem setPower_rtu (p : Part) (x : PowerState) : (p.setPower x).rtu = p.rtu := rfl
@[simp] theorem setPower_sch (p : Part) (x : PowerState) : (p.setPower x).sch = p.sch := rfl
@[simp] theorem setPower_ssu (p : Part) (x : PowerState) : (p.setPower x).ssu = p.ssu := rfl
@[simp] theorem setPower_prt (p : Part) (x : PowerState) : (p.setPower x).prt = p.prt := rfl
@[simp] theorem setPower_pln (p : Part) (x : PowerState) : (p.setPower x).pln = p.pln := rfl
@[simp] theorem setPower_pins (p : Part) (x : PowerState) : (p.setPower x).pins = p.pins := rfl
@[simp] theorem setPower_power (p : Part) (x : PowerState) : (p.setPower x).pwu.power = x := rfl

/-! ### Folds over parts -/

@[simp] theorem foldl_sfe {f : Part → α → Part} (h : ∀ q a, (f q a).sfe = q.sfe) (l : List α) (p : Part) :
    (l.foldl f p).sfe = p.sfe := foldl_keeps (·.sfe) h l p
@[simp] theorem foldl_smn {f : Part → α → Part} (h : ∀ q a, (f q a).smn = q.smn) (l : List α) (p : Part) :
    (l.foldl f p).smn = p.smn := foldl_keeps (·.smn) h l p
@[simp] theorem foldl_flc {f : Part → α → Part} (h : ∀ q a, (f q a).flc = q.flc) (l : List α) (p : Part) :
    (l.foldl f p).flc = p.flc := foldl_keeps (·.flc) h l p
@[simp] theorem foldl_sgu {f : Part → α → Part} (h : ∀ q a, (f q a).sgu = q.sgu) (l : List α) (p : Part) :
    (l.foldl f p).sgu = p.sgu := foldl_keeps (·.sgu) h l p
@[simp] theorem foldl_scu {f : Part → α → Part} (h : ∀ q a, (f q a).scu = q.scu) (l : List α) (p : Part) :
    (l.foldl f p).scu = p.scu := foldl_keeps (·.scu) h l p
@[simp] theorem foldl_rtu {f : Part → α → Part} (h : ∀ q a, (f q a).rtu = q.rtu) (l : List α) (p : Part) :
    (l.foldl f p).rtu = p.rtu := foldl_keeps (·.rtu) h l p
@[simp] theorem foldl_sch {f : Part → α → Part} (h : ∀ q a, (f q a).sch = q.sch) (l : List α) (p : Part) :
    (l.foldl f p).sch = p.sch := foldl_keeps (·.sch) h l p
@[simp] theorem foldl_ssu {f : Part → α → Part} (h : ∀ q a, (f q a).ssu = q.ssu) (l : List α) (p : Part) :
    (l.foldl f p).ssu = p.ssu := foldl_keeps (·.ssu) h l p
@[simp] theorem foldl_prt {f : Part → α → Part} (h : ∀ q a, (f q a).prt = q.prt) (l : List α) (p : Part) :
    (l.foldl f p).prt = p.prt := foldl_keeps (·.prt) h l p
@[simp] theorem foldl_pwu {f : Part → α → Part} (h : ∀ q a, (f q a).pwu = q.pwu) (l : List α) (p : Part) :
    (l.foldl f p).pwu = p.pwu := foldl_keeps (·.pwu) h l p
@[simp] theorem foldl_pln {f : Part → α → Part} (h : ∀ q a, (f q a).pln = q.pln) (l : List α) (p : Part) :
    (l.foldl f p).pln = p.pln := foldl_keeps (·.pln) h l p
@[simp] theorem foldl_pins {f : Part → α → Part} (h : ∀ q a, (f q a).pins = q.pins) (l : List α) (p : Part) :
    (l.foldl f p).pins = p.pins := foldl_keeps (·.pins) h l p

/-- Two parts with equal blocks are equal. -/
theorem ext_blocks {p q : Part} (h1 : p.sfe = q.sfe) (h2 : p.smn = q.smn) (h3 : p.flc = q.flc) (h4 : p.sgu = q.sgu)
    (h5 : p.scu = q.scu) (h6 : p.rtu = q.rtu) (h7 : p.sch = q.sch) (h8 : p.ssu = q.ssu) (h9 : p.prt = q.prt)
    (h10 : p.pwu = q.pwu) (h11 : p.pln = q.pln) (h12 : p.pins = q.pins) : p = q := by
  cases p; cases q; simp_all

end Machine.Part

end Sys2Proof
end

