-- ==== Sys2Proof/Laws/FramesFloor.lean ====
section
/-! SUPPORT. The frames of the operations over the screens, the slots, the banks and the floor: the blocks that each one leaves as they are. -/

namespace Sys2Proof.Machine.Part

@[simp] theorem onPorts_frame (p : Part) (f : PortRecord → PortRecord) :
    (onPorts p f).sfe = p.sfe ∧ (onPorts p f).smn = p.smn ∧ (onPorts p f).flc = p.flc ∧ (onPorts p f).sgu = p.sgu ∧
    (onPorts p f).scu = p.scu ∧ (onPorts p f).rtu = p.rtu ∧ (onPorts p f).sch = p.sch ∧ (onPorts p f).ssu = p.ssu ∧
    (onPorts p f).pwu = p.pwu ∧ (onPorts p f).pln = p.pln ∧ (onPorts p f).pins = p.pins := by
  simp [onPorts]

@[simp] theorem notice_frame (p : Part) (c : Category) :
    (notice p c).sfe = p.sfe ∧ (notice p c).smn = p.smn ∧ (notice p c).flc = p.flc ∧ (notice p c).sgu = p.sgu ∧
    (notice p c).scu = p.scu ∧ (notice p c).rtu = p.rtu ∧ (notice p c).sch = p.sch ∧ (notice p c).ssu = p.ssu ∧
    (notice p c).pwu = p.pwu ∧ (notice p c).pln = p.pln ∧ (notice p c).pins = p.pins := by
  simp [notice]

@[simp] theorem noticeCause_frame (p : Part) (c : Category) (m : Cause) :
    (noticeCause p c m).sfe = p.sfe ∧ (noticeCause p c m).smn = p.smn ∧ (noticeCause p c m).flc = p.flc ∧
    (noticeCause p c m).sgu = p.sgu ∧ (noticeCause p c m).scu = p.scu ∧ (noticeCause p c m).rtu = p.rtu ∧
    (noticeCause p c m).sch = p.sch ∧ (noticeCause p c m).ssu = p.ssu ∧ (noticeCause p c m).pwu = p.pwu ∧
    (noticeCause p c m).pln = p.pln ∧ (noticeCause p c m).pins = p.pins := by
  simp [noticeCause]

@[simp] theorem noticeIf_frame (p : Part) (b : Bool) (c : Category) :
    (noticeIf p b c).sfe = p.sfe ∧ (noticeIf p b c).smn = p.smn ∧ (noticeIf p b c).flc = p.flc ∧
    (noticeIf p b c).sgu = p.sgu ∧ (noticeIf p b c).scu = p.scu ∧ (noticeIf p b c).rtu = p.rtu ∧
    (noticeIf p b c).sch = p.sch ∧ (noticeIf p b c).ssu = p.ssu ∧ (noticeIf p b c).pwu = p.pwu ∧
    (noticeIf p b c).pln = p.pln ∧ (noticeIf p b c).pins = p.pins := by
  simp only [noticeIf]
  (repeat' split) <;> simp

@[simp] theorem driveAttention_frame (p : Part) :
    (driveAttention p).sfe = p.sfe ∧ (driveAttention p).smn = p.smn ∧ (driveAttention p).flc = p.flc ∧
    (driveAttention p).sgu = p.sgu ∧ (driveAttention p).scu = p.scu ∧ (driveAttention p).rtu = p.rtu ∧
    (driveAttention p).sch = p.sch ∧ (driveAttention p).ssu = p.ssu ∧ (driveAttention p).pwu = p.pwu ∧
    (driveAttention p).pln = p.pln ∧ (driveAttention p).pins = p.pins := by
  simp [driveAttention]

@[simp] theorem computeShown_frame (p : Part) (sel : ScreenId → Bool) :
    (computeShown p sel).sfe = p.sfe ∧ (computeShown p sel).smn = p.smn ∧ (computeShown p sel).flc = p.flc ∧
    (computeShown p sel).sgu = p.sgu ∧ (computeShown p sel).scu = p.scu ∧ (computeShown p sel).sch = p.sch ∧
    (computeShown p sel).ssu = p.ssu ∧ (computeShown p sel).prt = p.prt ∧ (computeShown p sel).pwu = p.pwu ∧
    (computeShown p sel).pln = p.pln ∧ (computeShown p sel).pins = p.pins := by
  simp [computeShown]

@[simp] theorem driveScreens_frame (p : Part) :
    (driveScreens p).sfe = p.sfe ∧ (driveScreens p).smn = p.smn ∧ (driveScreens p).flc = p.flc ∧
    (driveScreens p).sgu = p.sgu ∧ (driveScreens p).scu = p.scu ∧ (driveScreens p).sch = p.sch ∧
    (driveScreens p).ssu = p.ssu ∧ (driveScreens p).prt = p.prt ∧ (driveScreens p).pwu = p.pwu ∧
    (driveScreens p).pln = p.pln ∧ (driveScreens p).pins = p.pins := by
  simp [driveScreens]

@[simp] theorem speakerEnters_frame (p : Part) (s : SeatId) :
    (speakerEnters p s).sfe = p.sfe ∧ (speakerEnters p s).smn = p.smn ∧ (speakerEnters p s).flc = p.flc ∧
    (speakerEnters p s).sgu = p.sgu ∧ (speakerEnters p s).scu = p.scu ∧ (speakerEnters p s).sch = p.sch ∧
    (speakerEnters p s).ssu = p.ssu ∧ (speakerEnters p s).prt = p.prt ∧ (speakerEnters p s).pwu = p.pwu ∧
    (speakerEnters p s).pln = p.pln ∧ (speakerEnters p s).pins = p.pins := by
  simp [speakerEnters]

@[simp] theorem speakerLeaves_frame (p : Part) (s : SeatId) :
    (speakerLeaves p s).sfe = p.sfe ∧ (speakerLeaves p s).smn = p.smn ∧ (speakerLeaves p s).flc = p.flc ∧
    (speakerLeaves p s).sgu = p.sgu ∧ (speakerLeaves p s).scu = p.scu ∧ (speakerLeaves p s).sch = p.sch ∧
    (speakerLeaves p s).ssu = p.ssu ∧ (speakerLeaves p s).prt = p.prt ∧ (speakerLeaves p s).pwu = p.pwu ∧
    (speakerLeaves p s).pln = p.pln ∧ (speakerLeaves p s).pins = p.pins := by
  simp [speakerLeaves]

@[simp] theorem setRoutable_frame (p : Part) (i : Fin 10) (b : Bool) :
    (setRoutable p i b).sfe = p.sfe ∧ (setRoutable p i b).smn = p.smn ∧ (setRoutable p i b).flc = p.flc ∧
    (setRoutable p i b).sgu = p.sgu ∧ (setRoutable p i b).scu = p.scu ∧ (setRoutable p i b).sch = p.sch ∧
    (setRoutable p i b).ssu = p.ssu ∧ (setRoutable p i b).prt = p.prt ∧ (setRoutable p i b).pwu = p.pwu ∧
    (setRoutable p i b).pln = p.pln ∧ (setRoutable p i b).pins = p.pins := by
  simp only [setRoutable]
  (repeat' split) <;> simp

@[simp] theorem takeSettings_frame (p : Part) (v : Vector ScreenSettings 4) :
    (takeSettings p v).sfe = p.sfe ∧ (takeSettings p v).smn = p.smn ∧ (takeSettings p v).flc = p.flc ∧
    (takeSettings p v).sgu = p.sgu ∧ (takeSettings p v).scu = p.scu ∧ (takeSettings p v).sch = p.sch ∧
    (takeSettings p v).ssu = p.ssu ∧ (takeSettings p v).prt = p.prt ∧ (takeSettings p v).pwu = p.pwu ∧
    (takeSettings p v).pln = p.pln ∧ (takeSettings p v).pins = p.pins := by
  simp [takeSettings]

@[simp] theorem applyPreset_frame (p : Part) (n : Fin 4) :
    (applyPreset p n).sfe = p.sfe ∧ (applyPreset p n).smn = p.smn ∧ (applyPreset p n).flc = p.flc ∧
    (applyPreset p n).sgu = p.sgu ∧ (applyPreset p n).scu = p.scu ∧ (applyPreset p n).sch = p.sch ∧
    (applyPreset p n).ssu = p.ssu ∧ (applyPreset p n).prt = p.prt ∧ (applyPreset p n).pwu = p.pwu ∧
    (applyPreset p n).pln = p.pln ∧ (applyPreset p n).pins = p.pins := by
  simp [applyPreset]

@[simp] theorem routeClose_frame (p : Part) (privacy : Bool) :
    (routeClose p privacy).sfe = p.sfe ∧ (routeClose p privacy).smn = p.smn ∧ (routeClose p privacy).flc = p.flc ∧
    (routeClose p privacy).sgu = p.sgu ∧ (routeClose p privacy).scu = p.scu ∧ (routeClose p privacy).sch = p.sch ∧
    (routeClose p privacy).ssu = p.ssu ∧ (routeClose p privacy).prt = p.prt ∧ (routeClose p privacy).pwu = p.pwu ∧
    (routeClose p privacy).pln = p.pln ∧ (routeClose p privacy).pins = p.pins := by
  simp [routeClose]

@[simp] theorem concludeRouting_frame (before after : Part) :
    (concludeRouting before after).sfe = after.sfe ∧ (concludeRouting before after).smn = after.smn ∧
    (concludeRouting before after).flc = after.flc ∧ (concludeRouting before after).sgu = after.sgu ∧
    (concludeRouting before after).scu = after.scu ∧ (concludeRouting before after).sch = after.sch ∧
    (concludeRouting before after).ssu = after.ssu ∧ (concludeRouting before after).pwu = after.pwu ∧
    (concludeRouting before after).pln = after.pln ∧ (concludeRouting before after).pins = after.pins := by
  simp [concludeRouting]

@[simp] theorem countSettles_frame (p : Part) :
    (countSettles p).sfe = p.sfe ∧ (countSettles p).smn = p.smn ∧
    (countSettles p).flc = p.flc ∧ (countSettles p).sgu = p.sgu ∧
    (countSettles p).scu = p.scu ∧ (countSettles p).sch = p.sch ∧
    (countSettles p).ssu = p.ssu ∧ (countSettles p).pwu = p.pwu ∧
    (countSettles p).pln = p.pln ∧ (countSettles p).pins = p.pins := by
  simp [countSettles]

@[simp] theorem endSettle_frame (p : Part) (k : ScreenId) :
    (endSettle p k).sfe = p.sfe ∧ (endSettle p k).smn = p.smn ∧ (endSettle p k).flc = p.flc ∧
    (endSettle p k).sgu = p.sgu ∧ (endSettle p k).scu = p.scu ∧ (endSettle p k).sch = p.sch ∧
    (endSettle p k).ssu = p.ssu ∧ (endSettle p k).pwu = p.pwu ∧ (endSettle p k).pln = p.pln ∧
    (endSettle p k).pins = p.pins := by
  simp only [endSettle]
  (repeat' split) <;> simp

@[simp] theorem settleStep_frame (changing : Bool) (p : Part) (k : ScreenId) :
    (settleStep changing p k).sfe = p.sfe ∧ (settleStep changing p k).smn = p.smn ∧
    (settleStep changing p k).flc = p.flc ∧ (settleStep changing p k).sgu = p.sgu ∧
    (settleStep changing p k).scu = p.scu ∧ (settleStep changing p k).sch = p.sch ∧
    (settleStep changing p k).ssu = p.ssu ∧ (settleStep changing p k).pwu = p.pwu ∧
    (settleStep changing p k).pln = p.pln ∧ (settleStep changing p k).pins = p.pins := by
  simp only [settleStep]
  (repeat' split) <;> simp

@[simp] theorem endSettles_frame (p : Part) (changing : Bool) :
    (endSettles p changing).sfe = p.sfe ∧ (endSettles p changing).smn = p.smn ∧
    (endSettles p changing).flc = p.flc ∧ (endSettles p changing).sgu = p.sgu ∧
    (endSettles p changing).scu = p.scu ∧ (endSettles p changing).sch = p.sch ∧
    (endSettles p changing).ssu = p.ssu ∧ (endSettles p changing).pwu = p.pwu ∧
    (endSettles p changing).pln = p.pln ∧ (endSettles p changing).pins = p.pins := by
  simp [endSettles]

@[simp] theorem setOverride_frame (p : Part) (b : Bool) :
    (setOverride p b).sfe = p.sfe ∧ (setOverride p b).smn = p.smn ∧ (setOverride p b).flc = p.flc ∧
    (setOverride p b).sgu = p.sgu ∧ (setOverride p b).scu = p.scu ∧ (setOverride p b).sch = p.sch ∧
    (setOverride p b).ssu = p.ssu ∧ (setOverride p b).prt = p.prt ∧ (setOverride p b).pwu = p.pwu ∧
    (setOverride p b).pln = p.pln ∧ (setOverride p b).pins = p.pins := by
  simp [setOverride]

@[simp] theorem retarget_frame (p : Part) :
    (retarget p).sfe = p.sfe ∧ (retarget p).smn = p.smn ∧ (retarget p).flc = p.flc ∧ (retarget p).scu = p.scu ∧
    (retarget p).rtu = p.rtu ∧ (retarget p).sch = p.sch ∧ (retarget p).ssu = p.ssu ∧ (retarget p).prt = p.prt ∧
    (retarget p).pwu = p.pwu ∧ (retarget p).pln = p.pln ∧ (retarget p).pins = p.pins := by
  simp [retarget]

@[simp] theorem openSlot_frame (p : Part) (k : SlotId) (s : SeatId) :
    (openSlot p k s).sfe = p.sfe ∧ (openSlot p k s).smn = p.smn ∧ (openSlot p k s).flc = p.flc ∧
    (openSlot p k s).scu = p.scu ∧ (openSlot p k s).rtu = p.rtu ∧ (openSlot p k s).sch = p.sch ∧
    (openSlot p k s).ssu = p.ssu ∧ (openSlot p k s).prt = p.prt ∧ (openSlot p k s).pwu = p.pwu ∧
    (openSlot p k s).pln = p.pln ∧ (openSlot p k s).pins = p.pins := by
  simp [openSlot]

@[simp] theorem reportLeft_frame (p : Part) (x : Slot) :
    (reportLeft p x).sfe = p.sfe ∧ (reportLeft p x).smn = p.smn ∧ (reportLeft p x).flc = p.flc ∧
    (reportLeft p x).sgu = p.sgu ∧ (reportLeft p x).scu = p.scu ∧ (reportLeft p x).sch = p.sch ∧
    (reportLeft p x).ssu = p.ssu ∧ (reportLeft p x).prt = p.prt ∧ (reportLeft p x).pwu = p.pwu ∧
    (reportLeft p x).pln = p.pln ∧ (reportLeft p x).pins = p.pins := by
  simp only [reportLeft]
  (repeat' split) <;> simp

@[simp] theorem closeSlot_frame (p : Part) (k : SlotId) (r : SlotReason) :
    (closeSlot p k r).sfe = p.sfe ∧ (closeSlot p k r).smn = p.smn ∧ (closeSlot p k r).flc = p.flc ∧
    (closeSlot p k r).scu = p.scu ∧ (closeSlot p k r).sch = p.sch ∧ (closeSlot p k r).ssu = p.ssu ∧
    (closeSlot p k r).prt = p.prt ∧ (closeSlot p k r).pwu = p.pwu ∧ (closeSlot p k r).pln = p.pln ∧
    (closeSlot p k r).pins = p.pins := by
  simp [closeSlot]

@[simp] theorem freeSlotRecord_frame (p : Part) (k : SlotId) :
    (freeSlotRecord p k).sfe = p.sfe ∧ (freeSlotRecord p k).smn = p.smn ∧ (freeSlotRecord p k).flc = p.flc ∧
    (freeSlotRecord p k).scu = p.scu ∧ (freeSlotRecord p k).rtu = p.rtu ∧ (freeSlotRecord p k).sch = p.sch ∧
    (freeSlotRecord p k).ssu = p.ssu ∧ (freeSlotRecord p k).prt = p.prt ∧ (freeSlotRecord p k).pwu = p.pwu ∧
    (freeSlotRecord p k).pln = p.pln ∧ (freeSlotRecord p k).pins = p.pins := by
  simp [freeSlotRecord]

@[simp] theorem cutSlot_frame (p : Part) (k : SlotId) :
    (cutSlot p k).sfe = p.sfe ∧ (cutSlot p k).smn = p.smn ∧ (cutSlot p k).flc = p.flc ∧ (cutSlot p k).scu = p.scu ∧
    (cutSlot p k).sch = p.sch ∧ (cutSlot p k).ssu = p.ssu ∧ (cutSlot p k).prt = p.prt ∧ (cutSlot p k).pwu = p.pwu ∧
    (cutSlot p k).pln = p.pln ∧ (cutSlot p k).pins = p.pins := by
  simp only [cutSlot]
  (repeat' split) <;> simp

@[simp] theorem cutAll_frame (p : Part) :
    (cutAll p).sfe = p.sfe ∧ (cutAll p).smn = p.smn ∧ (cutAll p).flc = p.flc ∧ (cutAll p).scu = p.scu ∧
    (cutAll p).sch = p.sch ∧ (cutAll p).ssu = p.ssu ∧ (cutAll p).prt = p.prt ∧ (cutAll p).pwu = p.pwu ∧
    (cutAll p).pln = p.pln ∧ (cutAll p).pins = p.pins := by
  simp [cutAll]

@[simp] theorem moveGains_frame (p : Part) :
    (moveGains p).sfe = p.sfe ∧ (moveGains p).smn = p.smn ∧ (moveGains p).flc = p.flc ∧ (moveGains p).scu = p.scu ∧
    (moveGains p).rtu = p.rtu ∧ (moveGains p).sch = p.sch ∧ (moveGains p).ssu = p.ssu ∧ (moveGains p).prt = p.prt ∧
    (moveGains p).pwu = p.pwu ∧ (moveGains p).pln = p.pln ∧ (moveGains p).pins = p.pins := by
  simp [moveGains]

@[simp] theorem enterLive_frame (p : Part) (k : SlotId) :
    (enterLive p k).sfe = p.sfe ∧ (enterLive p k).smn = p.smn ∧ (enterLive p k).flc = p.flc ∧
    (enterLive p k).scu = p.scu ∧ (enterLive p k).sch = p.sch ∧ (enterLive p k).ssu = p.ssu ∧
    (enterLive p k).pwu = p.pwu ∧ (enterLive p k).pln = p.pln ∧ (enterLive p k).pins = p.pins := by
  simp only [enterLive]
  (repeat' split) <;> simp

@[simp] theorem enterLives_frame (p : Part) :
    (enterLives p).sfe = p.sfe ∧ (enterLives p).smn = p.smn ∧ (enterLives p).flc = p.flc ∧
    (enterLives p).scu = p.scu ∧ (enterLives p).sch = p.sch ∧ (enterLives p).ssu = p.ssu ∧
    (enterLives p).pwu = p.pwu ∧ (enterLives p).pln = p.pln ∧ (enterLives p).pins = p.pins := by
  simp [enterLives]

@[simp] theorem sendGains_frame (p : Part) :
    (sendGains p).sfe = p.sfe ∧ (sendGains p).smn = p.smn ∧ (sendGains p).flc = p.flc ∧ (sendGains p).scu = p.scu ∧
    (sendGains p).rtu = p.rtu ∧ (sendGains p).sch = p.sch ∧ (sendGains p).ssu = p.ssu ∧ (sendGains p).prt = p.prt ∧
    (sendGains p).pwu = p.pwu ∧ (sendGains p).pln = p.pln ∧ (sendGains p).pins = p.pins := by
  simp only [sendGains]
  (repeat' split) <;> simp

@[simp] theorem countGainTimers_frame (p : Part) :
    (countGainTimers p).sfe = p.sfe ∧ (countGainTimers p).smn = p.smn ∧ (countGainTimers p).flc = p.flc ∧
    (countGainTimers p).scu = p.scu ∧ (countGainTimers p).rtu = p.rtu ∧ (countGainTimers p).sch = p.sch ∧
    (countGainTimers p).ssu = p.ssu ∧ (countGainTimers p).prt = p.prt ∧ (countGainTimers p).pwu = p.pwu ∧
    (countGainTimers p).pln = p.pln ∧ (countGainTimers p).pins = p.pins := by
  simp only [countGainTimers]
  (repeat' split) <;> simp

@[simp] theorem takeGain_frame (p : Part) (g : GainSettings) :
    (takeGain p g).sfe = p.sfe ∧ (takeGain p g).smn = p.smn ∧ (takeGain p g).flc = p.flc ∧
    (takeGain p g).scu = p.scu ∧ (takeGain p g).rtu = p.rtu ∧ (takeGain p g).sch = p.sch ∧
    (takeGain p g).ssu = p.ssu ∧ (takeGain p g).prt = p.prt ∧ (takeGain p g).pwu = p.pwu ∧
    (takeGain p g).pln = p.pln ∧ (takeGain p g).pins = p.pins := by
  simp [takeGain]

@[simp] theorem showRefused_frame (p : Part) (s : SeatId) :
    (showRefused p s).sfe = p.sfe ∧ (showRefused p s).smn = p.smn ∧ (showRefused p s).flc = p.flc ∧
    (showRefused p s).scu = p.scu ∧ (showRefused p s).rtu = p.rtu ∧ (showRefused p s).sch = p.sch ∧
    (showRefused p s).ssu = p.ssu ∧ (showRefused p s).prt = p.prt ∧ (showRefused p s).pwu = p.pwu ∧
    (showRefused p s).pln = p.pln ∧ (showRefused p s).pins = p.pins := by
  simp [showRefused]

@[simp] theorem drivePins_frame (p : Part) :
    (drivePins p).sfe = p.sfe ∧ (drivePins p).smn = p.smn ∧ (drivePins p).flc = p.flc ∧ (drivePins p).scu = p.scu ∧
    (drivePins p).rtu = p.rtu ∧ (drivePins p).sch = p.sch ∧ (drivePins p).ssu = p.ssu ∧ (drivePins p).pwu = p.pwu ∧
    (drivePins p).pln = p.pln := by
  simp [drivePins]

@[simp] theorem setPublished_frame (p : Part) (b : Bank) :
    (setPublished p b).sfe = p.sfe ∧ (setPublished p b).smn = p.smn ∧ (setPublished p b).flc = p.flc ∧
    (setPublished p b).sgu = p.sgu ∧ (setPublished p b).scu = p.scu ∧ (setPublished p b).rtu = p.rtu ∧
    (setPublished p b).ssu = p.ssu ∧ (setPublished p b).prt = p.prt ∧ (setPublished p b).pwu = p.pwu ∧
    (setPublished p b).pln = p.pln ∧ (setPublished p b).pins = p.pins := by
  simp only [setPublished]
  (repeat' split) <;> simp

@[simp] theorem setStaging_frame (p : Part) (b : Bank) :
    (setStaging p b).sfe = p.sfe ∧ (setStaging p b).smn = p.smn ∧ (setStaging p b).flc = p.flc ∧
    (setStaging p b).sgu = p.sgu ∧ (setStaging p b).scu = p.scu ∧ (setStaging p b).rtu = p.rtu ∧
    (setStaging p b).ssu = p.ssu ∧ (setStaging p b).prt = p.prt ∧ (setStaging p b).pwu = p.pwu ∧
    (setStaging p b).pln = p.pln ∧ (setStaging p b).pins = p.pins := by
  simp only [setStaging]
  (repeat' split) <;> simp

@[simp] theorem markEntry_frame (p : Part) (id : Nat) (old new : EntryStatus) :
    (markEntry p id old new).sfe = p.sfe ∧ (markEntry p id old new).smn = p.smn ∧
    (markEntry p id old new).flc = p.flc ∧ (markEntry p id old new).sgu = p.sgu ∧
    (markEntry p id old new).scu = p.scu ∧ (markEntry p id old new).rtu = p.rtu ∧
    (markEntry p id old new).ssu = p.ssu ∧ (markEntry p id old new).pwu = p.pwu ∧
    (markEntry p id old new).pln = p.pln ∧ (markEntry p id old new).pins = p.pins := by
  simp [markEntry]

@[simp] theorem markMissed_frame (p : Part) :
    (markMissed p).sfe = p.sfe ∧ (markMissed p).smn = p.smn ∧ (markMissed p).flc = p.flc ∧
    (markMissed p).sgu = p.sgu ∧ (markMissed p).scu = p.scu ∧ (markMissed p).rtu = p.rtu ∧
    (markMissed p).ssu = p.ssu ∧ (markMissed p).pwu = p.pwu ∧ (markMissed p).pln = p.pln ∧
    (markMissed p).pins = p.pins := by
  simp only [markMissed]
  (repeat' split) <;> simp

@[simp] theorem changePower_frame (p : Part) (x : PowerState) :
    (changePower p x).sfe = p.sfe ∧ (changePower p x).smn = p.smn ∧ (changePower p x).flc = p.flc ∧
    (changePower p x).sgu = p.sgu ∧ (changePower p x).scu = p.scu ∧ (changePower p x).rtu = p.rtu ∧
    (changePower p x).sch = p.sch ∧ (changePower p x).ssu = p.ssu ∧ (changePower p x).pln = p.pln ∧
    (changePower p x).pins = p.pins := by
  simp [changePower]

@[simp] theorem wakeChannels_frame (p : Part) :
    (wakeChannels p).smn = p.smn ∧ (wakeChannels p).flc = p.flc ∧ (wakeChannels p).sgu = p.sgu ∧
    (wakeChannels p).scu = p.scu ∧ (wakeChannels p).rtu = p.rtu ∧ (wakeChannels p).sch = p.sch ∧
    (wakeChannels p).ssu = p.ssu ∧ (wakeChannels p).prt = p.prt ∧ (wakeChannels p).pwu = p.pwu ∧
    (wakeChannels p).pln = p.pln ∧ (wakeChannels p).pins = p.pins := by
  simp [wakeChannels]

@[simp] theorem wakeSockets_frame (p : Part) :
    (wakeSockets p).sfe = p.sfe ∧ (wakeSockets p).smn = p.smn ∧ (wakeSockets p).flc = p.flc ∧
    (wakeSockets p).sgu = p.sgu ∧ (wakeSockets p).rtu = p.rtu ∧ (wakeSockets p).sch = p.sch ∧
    (wakeSockets p).ssu = p.ssu ∧ (wakeSockets p).prt = p.prt ∧ (wakeSockets p).pwu = p.pwu ∧
    (wakeSockets p).pln = p.pln ∧ (wakeSockets p).pins = p.pins := by
  simp [wakeSockets]

@[simp] theorem wake_frame (p : Part) :
    (wake p).smn = p.smn ∧ (wake p).flc = p.flc ∧ (wake p).sgu = p.sgu ∧ (wake p).sch = p.sch ∧
    (wake p).ssu = p.ssu ∧ (wake p).pln = p.pln ∧ (wake p).pins = p.pins := by
  simp only [wake]
  (repeat' split) <;> simp

@[simp] theorem clearQuiet_frame (p : Part) :
    (clearQuiet p).sfe = p.sfe ∧ (clearQuiet p).smn = p.smn ∧ (clearQuiet p).flc = p.flc ∧
    (clearQuiet p).sgu = p.sgu ∧ (clearQuiet p).scu = p.scu ∧ (clearQuiet p).rtu = p.rtu ∧
    (clearQuiet p).sch = p.sch ∧ (clearQuiet p).ssu = p.ssu ∧ (clearQuiet p).prt = p.prt ∧
    (clearQuiet p).pln = p.pln ∧ (clearQuiet p).pins = p.pins := by
  simp [clearQuiet]

@[simp] theorem preWake_frame (p : Part) :
    (preWake p).smn = p.smn ∧ (preWake p).flc = p.flc ∧ (preWake p).sgu = p.sgu ∧ (preWake p).sch = p.sch ∧
    (preWake p).ssu = p.ssu ∧ (preWake p).pln = p.pln ∧ (preWake p).pins = p.pins := by
  simp only [preWake]
  (repeat' split) <;> simp

@[simp] theorem count_frame (p : Part) (s : SeatId) (f : Counters → Counters) :
    (count p s f).sfe = p.sfe ∧ (count p s f).flc = p.flc ∧ (count p s f).sgu = p.sgu ∧ (count p s f).scu = p.scu ∧
    (count p s f).rtu = p.rtu ∧ (count p s f).sch = p.sch ∧ (count p s f).ssu = p.ssu ∧ (count p s f).prt = p.prt ∧
    (count p s f).pwu = p.pwu ∧ (count p s f).pln = p.pln ∧ (count p s f).pins = p.pins := by
  simp only [count]
  (repeat' split) <;> simp

@[simp] theorem countRequest_frame (p : Part) (s : SeatId) :
    (countRequest p s).sfe = p.sfe ∧ (countRequest p s).flc = p.flc ∧ (countRequest p s).sgu = p.sgu ∧
    (countRequest p s).scu = p.scu ∧ (countRequest p s).rtu = p.rtu ∧ (countRequest p s).sch = p.sch ∧
    (countRequest p s).ssu = p.ssu ∧ (countRequest p s).prt = p.prt ∧ (countRequest p s).pwu = p.pwu ∧
    (countRequest p s).pln = p.pln ∧ (countRequest p s).pins = p.pins := by
  simp [countRequest]

@[simp] theorem countGrant_frame (p : Part) (s : SeatId) :
    (countGrant p s).sfe = p.sfe ∧ (countGrant p s).flc = p.flc ∧ (countGrant p s).sgu = p.sgu ∧
    (countGrant p s).scu = p.scu ∧ (countGrant p s).rtu = p.rtu ∧ (countGrant p s).sch = p.sch ∧
    (countGrant p s).ssu = p.ssu ∧ (countGrant p s).prt = p.prt ∧ (countGrant p s).pwu = p.pwu ∧
    (countGrant p s).pln = p.pln ∧ (countGrant p s).pins = p.pins := by
  simp [countGrant]

@[simp] theorem countRefused_frame (p : Part) (s : SeatId) :
    (countRefused p s).sfe = p.sfe ∧ (countRefused p s).flc = p.flc ∧ (countRefused p s).sgu = p.sgu ∧
    (countRefused p s).scu = p.scu ∧ (countRefused p s).rtu = p.rtu ∧ (countRefused p s).sch = p.sch ∧
    (countRefused p s).ssu = p.ssu ∧ (countRefused p s).prt = p.prt ∧ (countRefused p s).pwu = p.pwu ∧
    (countRefused p s).pln = p.pln ∧ (countRefused p s).pins = p.pins := by
  simp [countRefused]

@[simp] theorem countStray_frame (p : Part) (s : SeatId) :
    (countStray p s).sfe = p.sfe ∧ (countStray p s).flc = p.flc ∧ (countStray p s).sgu = p.sgu ∧
    (countStray p s).scu = p.scu ∧ (countStray p s).rtu = p.rtu ∧ (countStray p s).sch = p.sch ∧
    (countStray p s).ssu = p.ssu ∧ (countStray p s).prt = p.prt ∧ (countStray p s).pwu = p.pwu ∧
    (countStray p s).pln = p.pln ∧ (countStray p s).pins = p.pins := by
  simp [countStray]

@[simp] theorem countSpeaking_frame (p : Part) (s : SeatId) :
    (countSpeaking p s).sfe = p.sfe ∧ (countSpeaking p s).flc = p.flc ∧ (countSpeaking p s).sgu = p.sgu ∧
    (countSpeaking p s).scu = p.scu ∧ (countSpeaking p s).rtu = p.rtu ∧ (countSpeaking p s).sch = p.sch ∧
    (countSpeaking p s).ssu = p.ssu ∧ (countSpeaking p s).prt = p.prt ∧ (countSpeaking p s).pwu = p.pwu ∧
    (countSpeaking p s).pln = p.pln ∧ (countSpeaking p s).pins = p.pins := by
  simp [countSpeaking]

@[simp] theorem setQueue_frame (p : Part) (q : List QueueEntry) :
    (setQueue p q).sfe = p.sfe ∧ (setQueue p q).smn = p.smn ∧ (setQueue p q).sgu = p.sgu ∧
    (setQueue p q).scu = p.scu ∧ (setQueue p q).rtu = p.rtu ∧ (setQueue p q).sch = p.sch ∧
    (setQueue p q).ssu = p.ssu ∧ (setQueue p q).pwu = p.pwu ∧ (setQueue p q).pln = p.pln ∧
    (setQueue p q).pins = p.pins := by
  simp [setQueue]

@[simp] theorem join_frame (p : Part) (s : SeatId) (override : Bool) :
    (join p s override).sfe = p.sfe ∧ (join p s override).smn = p.smn ∧ (join p s override).sgu = p.sgu ∧
    (join p s override).scu = p.scu ∧ (join p s override).rtu = p.rtu ∧ (join p s override).sch = p.sch ∧
    (join p s override).ssu = p.ssu ∧ (join p s override).pwu = p.pwu ∧ (join p s override).pln = p.pln ∧
    (join p s override).pins = p.pins := by
  simp [join]

@[simp] theorem leaveQueue_frame (p : Part) (s : SeatId) :
    (leaveQueue p s).sfe = p.sfe ∧ (leaveQueue p s).smn = p.smn ∧ (leaveQueue p s).sgu = p.sgu ∧
    (leaveQueue p s).scu = p.scu ∧ (leaveQueue p s).rtu = p.rtu ∧ (leaveQueue p s).sch = p.sch ∧
    (leaveQueue p s).ssu = p.ssu ∧ (leaveQueue p s).pwu = p.pwu ∧ (leaveQueue p s).pln = p.pln ∧
    (leaveQueue p s).pins = p.pins := by
  simp [leaveQueue]

@[simp] theorem grantSlot_frame (p : Part) (k : SlotId) (s : SeatId) :
    (grantSlot p k s).sfe = p.sfe ∧ (grantSlot p k s).scu = p.scu ∧ (grantSlot p k s).rtu = p.rtu ∧
    (grantSlot p k s).sch = p.sch ∧ (grantSlot p k s).ssu = p.ssu ∧ (grantSlot p k s).pwu = p.pwu ∧
    (grantSlot p k s).pln = p.pln ∧ (grantSlot p k s).pins = p.pins := by
  simp [grantSlot]

@[simp] theorem grant_frame (p : Part) (s : SeatId) :
    (grant p s).sfe = p.sfe ∧ (grant p s).scu = p.scu ∧ (grant p s).rtu = p.rtu ∧ (grant p s).sch = p.sch ∧
    (grant p s).ssu = p.ssu ∧ (grant p s).pwu = p.pwu ∧ (grant p s).pln = p.pln ∧ (grant p s).pins = p.pins := by
  simp only [grant]
  (repeat' split) <;> simp

@[simp] theorem close_frame (p : Part) (k : SlotId) (r : SlotReason) :
    (close p k r).sfe = p.sfe ∧ (close p k r).smn = p.smn ∧ (close p k r).scu = p.scu ∧ (close p k r).sch = p.sch ∧
    (close p k r).ssu = p.ssu ∧ (close p k r).pwu = p.pwu ∧ (close p k r).pln = p.pln ∧
    (close p k r).pins = p.pins := by
  simp only [close]
  (repeat' split) <;> simp

@[simp] theorem advance_frame (n : Nat) (p : Part) :
    (advance n p).sfe = p.sfe ∧ (advance n p).scu = p.scu ∧ (advance n p).rtu = p.rtu ∧ (advance n p).sch = p.sch ∧
    (advance n p).ssu = p.ssu ∧ (advance n p).pwu = p.pwu ∧ (advance n p).pln = p.pln ∧
    (advance n p).pins = p.pins := by
  induction n generalizing p with
  | zero => simp [advance]
  | succ n ih =>
    simp only [advance]
    split <;> simp [ih]

@[simp] theorem autoAdvance_frame (p : Part) :
    (autoAdvance p).sfe = p.sfe ∧ (autoAdvance p).scu = p.scu ∧ (autoAdvance p).rtu = p.rtu ∧
    (autoAdvance p).sch = p.sch ∧ (autoAdvance p).ssu = p.ssu ∧ (autoAdvance p).pwu = p.pwu ∧
    (autoAdvance p).pln = p.pln ∧ (autoAdvance p).pins = p.pins := by
  simp only [autoAdvance]
  (repeat' split) <;> simp

@[simp] theorem takeFree_frame (p : Part) (k : SlotId) :
    (takeFree p k).sfe = p.sfe ∧ (takeFree p k).scu = p.scu ∧ (takeFree p k).rtu = p.rtu ∧
    (takeFree p k).sch = p.sch ∧ (takeFree p k).ssu = p.ssu ∧ (takeFree p k).pwu = p.pwu ∧
    (takeFree p k).pln = p.pln ∧ (takeFree p k).pins = p.pins := by
  simp only [takeFree]
  (repeat' split) <;> simp

@[simp] theorem refusePress_frame (p : Part) (s : SeatId) :
    (refusePress p s).sfe = p.sfe ∧ (refusePress p s).flc = p.flc ∧ (refusePress p s).scu = p.scu ∧
    (refusePress p s).rtu = p.rtu ∧ (refusePress p s).sch = p.sch ∧ (refusePress p s).ssu = p.ssu ∧
    (refusePress p s).prt = p.prt ∧ (refusePress p s).pwu = p.pwu ∧ (refusePress p s).pln = p.pln ∧
    (refusePress p s).pins = p.pins := by
  simp [refusePress]

@[simp] theorem joinAndAdvance_frame (p : Part) (s : SeatId) (override : Bool) :
    (joinAndAdvance p s override).1.sfe = p.sfe ∧ (joinAndAdvance p s override).1.scu = p.scu ∧
    (joinAndAdvance p s override).1.rtu = p.rtu ∧ (joinAndAdvance p s override).1.sch = p.sch ∧
    (joinAndAdvance p s override).1.ssu = p.ssu ∧ (joinAndAdvance p s override).1.pwu = p.pwu ∧
    (joinAndAdvance p s override).1.pln = p.pln ∧ (joinAndAdvance p s override).1.pins = p.pins := by
  simp [joinAndAdvance]

@[simp] theorem openAtOnce_frame (p : Part) (k : SlotId) (s : SeatId) :
    (openAtOnce p k s).1.sfe = p.sfe ∧ (openAtOnce p k s).1.scu = p.scu ∧ (openAtOnce p k s).1.rtu = p.rtu ∧
    (openAtOnce p k s).1.sch = p.sch ∧ (openAtOnce p k s).1.ssu = p.ssu ∧ (openAtOnce p k s).1.pwu = p.pwu ∧
    (openAtOnce p k s).1.pln = p.pln ∧ (openAtOnce p k s).1.pins = p.pins := by
  simp [openAtOnce]

@[simp] theorem refuseFull_frame (p : Part) (s : SeatId) :
    (refuseFull p s).1.sfe = p.sfe ∧ (refuseFull p s).1.flc = p.flc ∧ (refuseFull p s).1.scu = p.scu ∧
    (refuseFull p s).1.rtu = p.rtu ∧ (refuseFull p s).1.sch = p.sch ∧ (refuseFull p s).1.ssu = p.ssu ∧
    (refuseFull p s).1.prt = p.prt ∧ (refuseFull p s).1.pwu = p.pwu ∧ (refuseFull p s).1.pln = p.pln ∧
    (refuseFull p s).1.pins = p.pins := by
  simp [refuseFull]

@[simp] theorem newRequest_frame (p : Part) (s : SeatId) :
    (newRequest p s).1.sfe = p.sfe ∧ (newRequest p s).1.scu = p.scu ∧ (newRequest p s).1.sch = p.sch ∧
    (newRequest p s).1.ssu = p.ssu ∧ (newRequest p s).1.pwu = p.pwu ∧ (newRequest p s).1.pln = p.pln ∧
    (newRequest p s).1.pins = p.pins := by
  simp only [newRequest]
  (repeat' split) <;> simp

@[simp] theorem delegatePress_frame (p : Part) (s : SeatId) :
    (delegatePress p s).1.sfe = p.sfe ∧ (delegatePress p s).1.scu = p.scu ∧ (delegatePress p s).1.sch = p.sch ∧
    (delegatePress p s).1.ssu = p.ssu ∧ (delegatePress p s).1.pwu = p.pwu ∧ (delegatePress p s).1.pln = p.pln ∧
    (delegatePress p s).1.pins = p.pins := by
  simp only [delegatePress]
  (repeat' split) <;> simp

@[simp] theorem chairToggle_frame (p : Part) :
    (chairToggle p).1.sfe = p.sfe ∧ (chairToggle p).1.smn = p.smn ∧ (chairToggle p).1.scu = p.scu ∧
    (chairToggle p).1.sch = p.sch ∧ (chairToggle p).1.ssu = p.ssu ∧ (chairToggle p).1.pwu = p.pwu ∧
    (chairToggle p).1.pln = p.pln ∧ (chairToggle p).1.pins = p.pins := by
  simp only [chairToggle]
  (repeat' split) <;> simp

@[simp] theorem grantRequest_frame (p : Part) (s : SeatId) :
    (grantRequest p s).1.sfe = p.sfe ∧ (grantRequest p s).1.scu = p.scu ∧ (grantRequest p s).1.rtu = p.rtu ∧
    (grantRequest p s).1.sch = p.sch ∧ (grantRequest p s).1.ssu = p.ssu ∧ (grantRequest p s).1.pwu = p.pwu ∧
    (grantRequest p s).1.pln = p.pln ∧ (grantRequest p s).1.pins = p.pins := by
  simp only [grantRequest]
  (repeat' split) <;> simp

@[simp] theorem grantNext_frame (p : Part) :
    (grantNext p).1.sfe = p.sfe ∧ (grantNext p).1.scu = p.scu ∧ (grantNext p).1.rtu = p.rtu ∧
    (grantNext p).1.sch = p.sch ∧ (grantNext p).1.ssu = p.ssu ∧ (grantNext p).1.pwu = p.pwu ∧
    (grantNext p).1.pln = p.pln ∧ (grantNext p).1.pins = p.pins := by
  simp only [grantNext]
  (repeat' split) <;> simp

@[simp] theorem chairNext_frame (p : Part) :
    (chairNext p).sfe = p.sfe ∧ (chairNext p).scu = p.scu ∧ (chairNext p).rtu = p.rtu ∧ (chairNext p).sch = p.sch ∧
    (chairNext p).ssu = p.ssu ∧ (chairNext p).pwu = p.pwu ∧ (chairNext p).pln = p.pln ∧
    (chairNext p).pins = p.pins := by
  simp only [chairNext]
  (repeat' split) <;> simp

@[simp] theorem closeEach_frame (p : Part) (ks : List SlotId) (r : SlotReason) :
    (closeEach p ks r).sfe = p.sfe ∧ (closeEach p ks r).smn = p.smn ∧ (closeEach p ks r).scu = p.scu ∧
    (closeEach p ks r).sch = p.sch ∧ (closeEach p ks r).ssu = p.ssu ∧ (closeEach p ks r).pwu = p.pwu ∧
    (closeEach p ks r).pln = p.pln ∧ (closeEach p ks r).pins = p.pins := by
  simp [closeEach]

@[simp] theorem muteAll_frame (p : Part) :
    (muteAll p).sfe = p.sfe ∧ (muteAll p).smn = p.smn ∧ (muteAll p).scu = p.scu ∧ (muteAll p).sch = p.sch ∧
    (muteAll p).ssu = p.ssu ∧ (muteAll p).pwu = p.pwu ∧ (muteAll p).pln = p.pln ∧ (muteAll p).pins = p.pins := by
  simp [muteAll]

@[simp] theorem setMode_frame (p : Part) (m : FloorMode) :
    (setMode p m).sfe = p.sfe ∧ (setMode p m).scu = p.scu ∧ (setMode p m).rtu = p.rtu ∧ (setMode p m).sch = p.sch ∧
    (setMode p m).ssu = p.ssu ∧ (setMode p m).pwu = p.pwu ∧ (setMode p m).pln = p.pln ∧
    (setMode p m).pins = p.pins := by
  simp [setMode]

@[simp] theorem setLimit_frame (p : Part) (n : Nat) :
    (setLimit p n).sfe = p.sfe ∧ (setLimit p n).scu = p.scu ∧ (setLimit p n).sch = p.sch ∧
    (setLimit p n).ssu = p.ssu ∧ (setLimit p n).pwu = p.pwu ∧ (setLimit p n).pln = p.pln ∧
    (setLimit p n).pins = p.pins := by
  simp only [setLimit]
  (repeat' split) <;> simp

@[simp] theorem evaluate_frame (p : Part) (k : SlotId) :
    (evaluate p k).sfe = p.sfe ∧ (evaluate p k).smn = p.smn ∧ (evaluate p k).scu = p.scu ∧
    (evaluate p k).sch = p.sch ∧ (evaluate p k).ssu = p.ssu ∧ (evaluate p k).pwu = p.pwu ∧
    (evaluate p k).pln = p.pln ∧ (evaluate p k).pins = p.pins := by
  simp only [evaluate]
  (repeat' split) <;> simp

@[simp] theorem evaluateAll_frame (p : Part) :
    (evaluateAll p).sfe = p.sfe ∧ (evaluateAll p).smn = p.smn ∧ (evaluateAll p).scu = p.scu ∧
    (evaluateAll p).sch = p.sch ∧ (evaluateAll p).ssu = p.ssu ∧ (evaluateAll p).pwu = p.pwu ∧
    (evaluateAll p).pln = p.pln ∧ (evaluateAll p).pins = p.pins := by
  simp [evaluateAll]

@[simp] theorem setSpeakLimit_frame (p : Part) (n : Nat) (enforce : Bool) :
    (setSpeakLimit p n enforce).sfe = p.sfe ∧ (setSpeakLimit p n enforce).smn = p.smn ∧
    (setSpeakLimit p n enforce).scu = p.scu ∧ (setSpeakLimit p n enforce).sch = p.sch ∧
    (setSpeakLimit p n enforce).ssu = p.ssu ∧ (setSpeakLimit p n enforce).pwu = p.pwu ∧
    (setSpeakLimit p n enforce).pln = p.pln ∧ (setSpeakLimit p n enforce).pins = p.pins := by
  simp [setSpeakLimit]

@[simp] theorem countSlotSecond_frame (p : Part) (k : SlotId) :
    (countSlotSecond p k).sfe = p.sfe ∧ (countSlotSecond p k).flc = p.flc ∧ (countSlotSecond p k).scu = p.scu ∧
    (countSlotSecond p k).rtu = p.rtu ∧ (countSlotSecond p k).sch = p.sch ∧ (countSlotSecond p k).ssu = p.ssu ∧
    (countSlotSecond p k).prt = p.prt ∧ (countSlotSecond p k).pwu = p.pwu ∧ (countSlotSecond p k).pln = p.pln ∧
    (countSlotSecond p k).pins = p.pins := by
  simp only [countSlotSecond]
  (repeat' split) <;> simp

@[simp] theorem floorSecond_frame (p : Part) :
    (floorSecond p).sfe = p.sfe ∧ (floorSecond p).scu = p.scu ∧ (floorSecond p).sch = p.sch ∧
    (floorSecond p).ssu = p.ssu ∧ (floorSecond p).pwu = p.pwu ∧ (floorSecond p).pln = p.pln ∧
    (floorSecond p).pins = p.pins := by
  simp [floorSecond]

@[simp] theorem openFloor_frame (p : Part) :
    (openFloor p).sfe = p.sfe ∧ (openFloor p).smn = p.smn ∧ (openFloor p).sgu = p.sgu ∧ (openFloor p).scu = p.scu ∧
    (openFloor p).rtu = p.rtu ∧ (openFloor p).sch = p.sch ∧ (openFloor p).ssu = p.ssu ∧ (openFloor p).pwu = p.pwu ∧
    (openFloor p).pln = p.pln ∧ (openFloor p).pins = p.pins := by
  simp [openFloor]

@[simp] theorem floorCloseSlot_frame (p : Part) (k : SlotId) :
    (floorCloseSlot p k).sfe = p.sfe ∧ (floorCloseSlot p k).smn = p.smn ∧ (floorCloseSlot p k).scu = p.scu ∧
    (floorCloseSlot p k).sch = p.sch ∧ (floorCloseSlot p k).ssu = p.ssu ∧ (floorCloseSlot p k).pwu = p.pwu ∧
    (floorCloseSlot p k).pln = p.pln ∧ (floorCloseSlot p k).pins = p.pins := by
  simp only [floorCloseSlot]
  (repeat' split) <;> simp

@[simp] theorem closeFloor_frame (p : Part) :
    (closeFloor p).sfe = p.sfe ∧ (closeFloor p).smn = p.smn ∧ (closeFloor p).scu = p.scu ∧
    (closeFloor p).sch = p.sch ∧ (closeFloor p).ssu = p.ssu ∧ (closeFloor p).pwu = p.pwu ∧
    (closeFloor p).pln = p.pln ∧ (closeFloor p).pins = p.pins := by
  simp [closeFloor]

@[simp] theorem applyFloorPreset_frame (p : Part) (f : FloorPreset) :
    (applyFloorPreset p f).sfe = p.sfe ∧ (applyFloorPreset p f).smn = p.smn ∧ (applyFloorPreset p f).sgu = p.sgu ∧
    (applyFloorPreset p f).scu = p.scu ∧ (applyFloorPreset p f).rtu = p.rtu ∧ (applyFloorPreset p f).sch = p.sch ∧
    (applyFloorPreset p f).ssu = p.ssu ∧ (applyFloorPreset p f).pwu = p.pwu ∧ (applyFloorPreset p f).pln = p.pln ∧
    (applyFloorPreset p f).pins = p.pins := by
  simp [applyFloorPreset]

@[simp] theorem seatVacant_frame (p : Part) (s : SeatId) :
    (seatVacant p s).sfe = p.sfe ∧ (seatVacant p s).smn = p.smn ∧ (seatVacant p s).scu = p.scu ∧
    (seatVacant p s).sch = p.sch ∧ (seatVacant p s).ssu = p.ssu ∧ (seatVacant p s).pwu = p.pwu ∧
    (seatVacant p s).pln = p.pln ∧ (seatVacant p s).pins = p.pins := by
  simp only [seatVacant]
  (repeat' split) <;> simp

@[simp] theorem resetFloor_frame (p : Part) :
    (resetFloor p).sfe = p.sfe ∧ (resetFloor p).smn = p.smn ∧ (resetFloor p).scu = p.scu ∧
    (resetFloor p).sch = p.sch ∧ (resetFloor p).ssu = p.ssu ∧ (resetFloor p).pwu = p.pwu ∧
    (resetFloor p).pln = p.pln ∧ (resetFloor p).pins = p.pins := by
  simp [resetFloor]

end Sys2Proof.Machine.Part
end

