-- ==== Sys2Proof/Laws/FramesMeeting.lean ====
section
/-! SUPPORT. The frames of the operations over the sessions, the seats, the sources and the sensing: the blocks that each one leaves as they are. -/

namespace Sys2Proof.Machine.Part

@[simp] theorem putSession_frame (p : Part) (x : Option Session) :
    (putSession p x).sfe = p.sfe ∧ (putSession p x).smn = p.smn ∧ (putSession p x).flc = p.flc ∧
    (putSession p x).sgu = p.sgu ∧ (putSession p x).scu = p.scu ∧ (putSession p x).rtu = p.rtu ∧
    (putSession p x).sch = p.sch ∧ (putSession p x).pwu = p.pwu ∧ (putSession p x).pln = p.pln ∧
    (putSession p x).pins = p.pins := by
  simp [putSession]

@[simp] theorem setPendingStart_frame (p : Part) (x : Option Nat) :
    (setPendingStart p x).sfe = p.sfe ∧ (setPendingStart p x).smn = p.smn ∧ (setPendingStart p x).flc = p.flc ∧
    (setPendingStart p x).sgu = p.sgu ∧ (setPendingStart p x).scu = p.scu ∧ (setPendingStart p x).rtu = p.rtu ∧
    (setPendingStart p x).sch = p.sch ∧ (setPendingStart p x).pwu = p.pwu ∧ (setPendingStart p x).pln = p.pln ∧
    (setPendingStart p x).pins = p.pins := by
  simp [setPendingStart]

@[simp] theorem enterWindup_frame (p : Part) (r : CloseReason) :
    (enterWindup p r).sfe = p.sfe ∧ (enterWindup p r).smn = p.smn ∧ (enterWindup p r).scu = p.scu ∧
    (enterWindup p r).sch = p.sch ∧ (enterWindup p r).pwu = p.pwu ∧ (enterWindup p r).pln = p.pln ∧
    (enterWindup p r).pins = p.pins := by
  simp only [enterWindup]
  (repeat' split) <;> simp

@[simp] theorem stageStep_frame (p : Part) :
    (stageStep p).sfe = p.sfe ∧ (stageStep p).smn = p.smn ∧ (stageStep p).scu = p.scu ∧ (stageStep p).sch = p.sch ∧
    (stageStep p).pwu = p.pwu ∧ (stageStep p).pln = p.pln ∧ (stageStep p).pins = p.pins := by
  simp only [stageStep]
  (repeat' split) <;> simp

@[simp] theorem enterSession_frame (p : Part) (x : Session) :
    (enterSession p x).sfe = p.sfe ∧ (enterSession p x).smn = p.smn ∧ (enterSession p x).scu = p.scu ∧
    (enterSession p x).sch = p.sch ∧ (enterSession p x).pwu = p.pwu ∧ (enterSession p x).pln = p.pln ∧
    (enterSession p x).pins = p.pins := by
  simp [enterSession]

@[simp] theorem checkIn_frame (p : Part) :
    (checkIn p).sfe = p.sfe ∧ (checkIn p).smn = p.smn ∧ (checkIn p).scu = p.scu ∧ (checkIn p).sch = p.sch ∧
    (checkIn p).pwu = p.pwu ∧ (checkIn p).pln = p.pln ∧ (checkIn p).pins = p.pins := by
  simp only [checkIn]
  (repeat' split) <;> simp

@[simp] theorem openBooked_frame (p : Part) (b : Booking) :
    (openBooked p b).sfe = p.sfe ∧ (openBooked p b).smn = p.smn ∧ (openBooked p b).scu = p.scu ∧
    (openBooked p b).pwu = p.pwu ∧ (openBooked p b).pln = p.pln ∧ (openBooked p b).pins = p.pins := by
  simp only [openBooked]
  (repeat' split) <;> simp

@[simp] theorem openWalkIn_frame (p : Part) :
    (openWalkIn p).sfe = p.sfe ∧ (openWalkIn p).smn = p.smn ∧ (openWalkIn p).scu = p.scu ∧
    (openWalkIn p).sch = p.sch ∧ (openWalkIn p).pwu = p.pwu ∧ (openWalkIn p).pln = p.pln ∧
    (openWalkIn p).pins = p.pins := by
  simp [openWalkIn]

@[simp] theorem openPending_frame (p : Part) :
    (openPending p).sfe = p.sfe ∧ (openPending p).smn = p.smn ∧ (openPending p).scu = p.scu ∧
    (openPending p).pwu = p.pwu ∧ (openPending p).pln = p.pln ∧ (openPending p).pins = p.pins := by
  simp only [openPending]
  (repeat' split) <;> simp

@[simp] theorem writeSummary_frame (p : Part) (x : Summary) :
    (writeSummary p x).sfe = p.sfe ∧ (writeSummary p x).smn = p.smn ∧ (writeSummary p x).flc = p.flc ∧
    (writeSummary p x).sgu = p.sgu ∧ (writeSummary p x).scu = p.scu ∧ (writeSummary p x).rtu = p.rtu ∧
    (writeSummary p x).sch = p.sch ∧ (writeSummary p x).pwu = p.pwu ∧ (writeSummary p x).pln = p.pln ∧
    (writeSummary p x).pins = p.pins := by
  simp only [writeSummary]
  (repeat' split) <;> simp

@[simp] theorem clearCounters_frame (p : Part) :
    (clearCounters p).sfe = p.sfe ∧ (clearCounters p).flc = p.flc ∧ (clearCounters p).sgu = p.sgu ∧
    (clearCounters p).scu = p.scu ∧ (clearCounters p).rtu = p.rtu ∧ (clearCounters p).sch = p.sch ∧
    (clearCounters p).ssu = p.ssu ∧ (clearCounters p).prt = p.prt ∧ (clearCounters p).pwu = p.pwu ∧
    (clearCounters p).pln = p.pln ∧ (clearCounters p).pins = p.pins := by
  simp [clearCounters]

@[simp] theorem closeRecords_frame (p : Part) (x : Session) (r : CloseReason) :
    (closeRecords p x r).sfe = p.sfe ∧ (closeRecords p x r).flc = p.flc ∧ (closeRecords p x r).sgu = p.sgu ∧
    (closeRecords p x r).scu = p.scu ∧ (closeRecords p x r).rtu = p.rtu ∧ (closeRecords p x r).pwu = p.pwu ∧
    (closeRecords p x r).pln = p.pln ∧ (closeRecords p x r).pins = p.pins := by
  simp only [closeRecords]
  (repeat' split) <;> simp

@[simp] theorem closeSession_frame (p : Part) (x : Session) (r : CloseReason) :
    (closeSession p x r).sfe = p.sfe ∧ (closeSession p x r).sgu = p.sgu ∧ (closeSession p x r).scu = p.scu ∧
    (closeSession p x r).pwu = p.pwu ∧ (closeSession p x r).pln = p.pln ∧ (closeSession p x r).pins = p.pins := by
  simp [closeSession]

@[simp] theorem closeWindup_frame (p : Part) :
    (closeWindup p).sfe = p.sfe ∧ (closeWindup p).sgu = p.sgu ∧ (closeWindup p).scu = p.scu ∧
    (closeWindup p).pwu = p.pwu ∧ (closeWindup p).pln = p.pln ∧ (closeWindup p).pins = p.pins := by
  simp only [closeWindup]
  (repeat' split) <;> simp

@[simp] theorem completeWindup_frame (p : Part) :
    (completeWindup p).sfe = p.sfe ∧ (completeWindup p).scu = p.scu ∧ (completeWindup p).pwu = p.pwu ∧
    (completeWindup p).pln = p.pln ∧ (completeWindup p).pins = p.pins := by
  simp only [completeWindup]
  (repeat' split) <;> simp

@[simp] theorem windup_frame (p : Part) (r : CloseReason) :
    (windup p r).sfe = p.sfe ∧ (windup p r).scu = p.scu ∧ (windup p r).pwu = p.pwu ∧ (windup p r).pln = p.pln ∧
    (windup p r).pins = p.pins := by
  simp [windup]

@[simp] theorem stageTest_frame (p : Part) :
    (stageTest p).sfe = p.sfe ∧ (stageTest p).scu = p.scu ∧ (stageTest p).pwu = p.pwu ∧ (stageTest p).pln = p.pln ∧
    (stageTest p).pins = p.pins := by
  simp [stageTest]

@[simp] theorem checkInTest_frame (p : Part) :
    (checkInTest p).sfe = p.sfe ∧ (checkInTest p).scu = p.scu ∧ (checkInTest p).pwu = p.pwu ∧
    (checkInTest p).pln = p.pln ∧ (checkInTest p).pins = p.pins := by
  simp [checkInTest]

@[simp] theorem release_frame (p : Part) (x : Session) :
    (release p x).sfe = p.sfe ∧ (release p x).scu = p.scu ∧ (release p x).pwu = p.pwu ∧ (release p x).pln = p.pln ∧
    (release p x).pins = p.pins := by
  simp [release]

@[simp] theorem releaseTest_frame (p : Part) (window : Bool) :
    (releaseTest p window).sfe = p.sfe ∧ (releaseTest p window).scu = p.scu ∧ (releaseTest p window).pwu = p.pwu ∧
    (releaseTest p window).pln = p.pln ∧ (releaseTest p window).pins = p.pins := by
  simp only [releaseTest]
  (repeat' split) <;> simp

@[simp] theorem endTest_frame (p : Part) (window : Bool) :
    (endTest p window).sfe = p.sfe ∧ (endTest p window).scu = p.scu ∧ (endTest p window).pwu = p.pwu ∧
    (endTest p window).pln = p.pln ∧ (endTest p window).pins = p.pins := by
  simp [endTest]

@[simp] theorem openingTest_frame (p : Part) :
    (openingTest p).pln = p.pln ∧ (openingTest p).pins = p.pins := by
  simp only [openingTest]
  (repeat' split) <;> simp

@[simp] theorem dropStalePending_frame (p : Part) :
    (dropStalePending p).sfe = p.sfe ∧ (dropStalePending p).smn = p.smn ∧ (dropStalePending p).flc = p.flc ∧
    (dropStalePending p).sgu = p.sgu ∧ (dropStalePending p).scu = p.scu ∧ (dropStalePending p).rtu = p.rtu ∧
    (dropStalePending p).sch = p.sch ∧ (dropStalePending p).pwu = p.pwu ∧ (dropStalePending p).pln = p.pln ∧
    (dropStalePending p).pins = p.pins := by
  simp only [dropStalePending]
  (repeat' split) <;> simp

@[simp] theorem walkInTest_frame (p : Part) :
    (walkInTest p).sfe = p.sfe ∧ (walkInTest p).scu = p.scu ∧ (walkInTest p).pwu = p.pwu ∧
    (walkInTest p).pln = p.pln ∧ (walkInTest p).pins = p.pins := by
  simp only [walkInTest]
  (repeat' split) <;> simp

@[simp] theorem repeatWalkIn_frame (p : Part) :
    (repeatWalkIn p).sfe = p.sfe ∧ (repeatWalkIn p).scu = p.scu ∧ (repeatWalkIn p).pwu = p.pwu ∧
    (repeatWalkIn p).pln = p.pln ∧ (repeatWalkIn p).pins = p.pins := by
  simp only [repeatWalkIn]
  (repeat' split) <;> simp

@[simp] theorem countDwell_frame (p : Part) :
    (countDwell p).sfe = p.sfe ∧ (countDwell p).scu = p.scu ∧ (countDwell p).pwu = p.pwu ∧
    (countDwell p).pln = p.pln ∧ (countDwell p).pins = p.pins := by
  simp only [countDwell]
  (repeat' split) <;> simp

@[simp] theorem concludeDwell_frame (before after : Part) :
    (concludeDwell before after).sfe = after.sfe ∧ (concludeDwell before after).scu = after.scu ∧
    (concludeDwell before after).pwu = after.pwu ∧ (concludeDwell before after).pln = after.pln ∧
    (concludeDwell before after).pins = after.pins := by
  simp only [concludeDwell]
  (repeat' split) <;> simp

@[simp] theorem vacancyTest_frame (p : Part) :
    (vacancyTest p).sfe = p.sfe ∧ (vacancyTest p).scu = p.scu ∧ (vacancyTest p).pwu = p.pwu ∧
    (vacancyTest p).pln = p.pln ∧ (vacancyTest p).pins = p.pins := by
  simp only [vacancyTest]
  (repeat' split) <;> simp

@[simp] theorem countVacancy_frame (p : Part) :
    (countVacancy p).sfe = p.sfe ∧ (countVacancy p).scu = p.scu ∧ (countVacancy p).pwu = p.pwu ∧
    (countVacancy p).pln = p.pln ∧ (countVacancy p).pins = p.pins := by
  simp only [countVacancy]
  (repeat' split) <;> simp

@[simp] theorem sessionSecond_frame (p : Part) :
    (sessionSecond p).sfe = p.sfe ∧ (sessionSecond p).scu = p.scu ∧ (sessionSecond p).pwu = p.pwu ∧
    (sessionSecond p).pln = p.pln ∧ (sessionSecond p).pins = p.pins := by
  simp [sessionSecond]

@[simp] theorem countAwait_frame (b p : Part) :
    (countAwait b p).sfe = p.sfe ∧ (countAwait b p).smn = p.smn ∧ (countAwait b p).flc = p.flc ∧
    (countAwait b p).sgu = p.sgu ∧ (countAwait b p).scu = p.scu ∧ (countAwait b p).rtu = p.rtu ∧
    (countAwait b p).sch = p.sch ∧ (countAwait b p).prt = p.prt ∧ (countAwait b p).pwu = p.pwu ∧
    (countAwait b p).pln = p.pln ∧ (countAwait b p).pins = p.pins := by
  simp only [countAwait]
  (repeat' split) <;> simp

@[simp] theorem sessionMinute_frame (b p : Part) :
    (sessionMinute b p).pln = p.pln ∧ (sessionMinute b p).pins = p.pins := by
  simp [sessionMinute]

@[simp] theorem sessionJump_frame (p : Part) :
    (sessionJump p).pln = p.pln ∧ (sessionJump p).pins = p.pins := by
  simp [sessionJump]

@[simp] theorem occupiedChanged_frame (p : Part) (old : Nat) :
    (occupiedChanged p old).sfe = p.sfe ∧ (occupiedChanged p old).scu = p.scu ∧ (occupiedChanged p old).pwu = p.pwu ∧
    (occupiedChanged p old).pln = p.pln ∧ (occupiedChanged p old).pins = p.pins := by
  simp only [occupiedChanged]
  (repeat' split) <;> simp

@[simp] theorem enterActive_frame (p : Part) :
    (enterActive p).sfe = p.sfe ∧ (enterActive p).scu = p.scu ∧ (enterActive p).pln = p.pln ∧
    (enterActive p).pins = p.pins := by
  simp [enterActive]

@[simp] theorem endSettling_frame (p : Part) :
    (endSettling p).sfe = p.sfe ∧ (endSettling p).scu = p.scu ∧ (endSettling p).pln = p.pln ∧
    (endSettling p).pins = p.pins := by
  simp [endSettling]

@[simp] theorem extendTo_frame (p : Part) (x : Session) (e : Nat) :
    (extendTo p x e).sfe = p.sfe ∧ (extendTo p x e).scu = p.scu ∧ (extendTo p x e).pwu = p.pwu ∧
    (extendTo p x e).pln = p.pln ∧ (extendTo p x e).pins = p.pins := by
  simp [extendTo]

@[simp] theorem resetSession_frame (p : Part) :
    (resetSession p).sfe = p.sfe ∧ (resetSession p).flc = p.flc ∧ (resetSession p).sgu = p.sgu ∧
    (resetSession p).scu = p.scu ∧ (resetSession p).rtu = p.rtu ∧ (resetSession p).pwu = p.pwu ∧
    (resetSession p).pln = p.pln ∧ (resetSession p).pins = p.pins := by
  simp only [resetSession]
  (repeat' split) <;> simp

@[simp] theorem updateCount_frame (p : Part) :
    (updateCount p).sfe = p.sfe ∧ (updateCount p).scu = p.scu ∧ (updateCount p).pln = p.pln ∧
    (updateCount p).pins = p.pins := by
  simp only [updateCount]
  (repeat' split) <;> simp

@[simp] theorem changePresence_frame (p : Part) (s : SeatId) (y : Presence) (timer : Nat) :
    (changePresence p s y timer).sfe = p.sfe ∧ (changePresence p s y timer).scu = p.scu ∧
    (changePresence p s y timer).pln = p.pln ∧ (changePresence p s y timer).pins = p.pins := by
  simp only [changePresence]
  (repeat' split) <;> simp

@[simp] theorem proximityReport_frame (p : Part) (s : SeatId) (o : Sensed) :
    (proximityReport p s o).sfe = p.sfe ∧ (proximityReport p s o).scu = p.scu ∧ (proximityReport p s o).pln = p.pln ∧
    (proximityReport p s o).pins = p.pins := by
  simp [proximityReport]

@[simp] theorem absenceExpiry_frame (p : Part) (s : SeatId) :
    (absenceExpiry p s).sfe = p.sfe ∧ (absenceExpiry p s).scu = p.scu ∧ (absenceExpiry p s).pln = p.pln ∧
    (absenceExpiry p s).pins = p.pins := by
  simp only [absenceExpiry]
  (repeat' split) <;> simp

@[simp] theorem countAbsence_frame (p : Part) (s : SeatId) :
    (countAbsence p s).sfe = p.sfe ∧ (countAbsence p s).scu = p.scu ∧ (countAbsence p s).pln = p.pln ∧
    (countAbsence p s).pins = p.pins := by
  simp only [countAbsence]
  (repeat' split) <;> simp

@[simp] theorem countOccupied_frame (p : Part) (s : SeatId) :
    (countOccupied p s).sfe = p.sfe ∧ (countOccupied p s).flc = p.flc ∧ (countOccupied p s).sgu = p.sgu ∧
    (countOccupied p s).scu = p.scu ∧ (countOccupied p s).rtu = p.rtu ∧ (countOccupied p s).sch = p.sch ∧
    (countOccupied p s).ssu = p.ssu ∧ (countOccupied p s).prt = p.prt ∧ (countOccupied p s).pwu = p.pwu ∧
    (countOccupied p s).pln = p.pln ∧ (countOccupied p s).pins = p.pins := by
  simp only [countOccupied]
  (repeat' split) <;> simp

@[simp] theorem seatSecond_frame (p : Part) :
    (seatSecond p).sfe = p.sfe ∧ (seatSecond p).scu = p.scu ∧ (seatSecond p).pln = p.pln ∧
    (seatSecond p).pins = p.pins := by
  simp [seatSecond]

@[simp] theorem keyDown_frame (p : Part) (s : SeatId) :
    (keyDown p s).sfe = p.sfe ∧ (keyDown p s).scu = p.scu ∧ (keyDown p s).sch = p.sch ∧ (keyDown p s).ssu = p.ssu ∧
    (keyDown p s).pwu = p.pwu ∧ (keyDown p s).pln = p.pln ∧ (keyDown p s).pins = p.pins := by
  simp only [keyDown]
  (repeat' split) <;> simp

@[simp] theorem keyUp_frame (p : Part) (s : SeatId) :
    (keyUp p s).sfe = p.sfe ∧ (keyUp p s).flc = p.flc ∧ (keyUp p s).sgu = p.sgu ∧ (keyUp p s).scu = p.scu ∧
    (keyUp p s).rtu = p.rtu ∧ (keyUp p s).sch = p.sch ∧ (keyUp p s).ssu = p.ssu ∧ (keyUp p s).prt = p.prt ∧
    (keyUp p s).pwu = p.pwu ∧ (keyUp p s).pln = p.pln ∧ (keyUp p s).pins = p.pins := by
  simp [keyUp]

@[simp] theorem keyRelease_frame (p : Part) (s : SeatId) :
    (keyRelease p s).sfe = p.sfe ∧ (keyRelease p s).scu = p.scu ∧ (keyRelease p s).sch = p.sch ∧
    (keyRelease p s).ssu = p.ssu ∧ (keyRelease p s).pwu = p.pwu ∧ (keyRelease p s).pln = p.pln ∧
    (keyRelease p s).pins = p.pins := by
  simp only [keyRelease]
  (repeat' split) <;> simp

@[simp] theorem keyReport_frame (p : Part) (s : SeatId) (o : Sensed) (c : ReportCause) :
    (keyReport p s o c).sfe = p.sfe ∧ (keyReport p s o c).scu = p.scu ∧ (keyReport p s o c).sch = p.sch ∧
    (keyReport p s o c).ssu = p.ssu ∧ (keyReport p s o c).pwu = p.pwu ∧ (keyReport p s o c).pln = p.pln ∧
    (keyReport p s o c).pins = p.pins := by
  simp only [keyReport]
  (repeat' split) <;> simp

@[simp] theorem takeChairNext_frame (p : Part) :
    (takeChairNext p).sfe = p.sfe ∧ (takeChairNext p).scu = p.scu ∧ (takeChairNext p).rtu = p.rtu ∧
    (takeChairNext p).sch = p.sch ∧ (takeChairNext p).ssu = p.ssu ∧ (takeChairNext p).pwu = p.pwu ∧
    (takeChairNext p).pln = p.pln ∧ (takeChairNext p).pins = p.pins := by
  simp only [takeChairNext]
  (repeat' split) <;> simp

@[simp] theorem countPress_frame (p : Part) (period : Nat) (s : SeatId) :
    (countPress p period s).sfe = p.sfe ∧ (countPress p period s).scu = p.scu ∧ (countPress p period s).rtu = p.rtu ∧
    (countPress p period s).sch = p.sch ∧ (countPress p period s).ssu = p.ssu ∧ (countPress p period s).pwu = p.pwu ∧
    (countPress p period s).pln = p.pln ∧ (countPress p period s).pins = p.pins := by
  simp only [countPress]
  (repeat' split) <;> simp

@[simp] theorem report_frame (p : Part) (c : ChannelId) (o : Sensed) (cause : ReportCause) :
    (report p c o cause).pln = p.pln ∧ (report p c o cause).pins = p.pins := by
  simp only [report]
  (repeat' split) <;> simp

@[simp] theorem handSource_frame (p : Part) (k : SocketId) (old new : Socket) :
    (handSource p k old new).smn = p.smn ∧ (handSource p k old new).flc = p.flc ∧
    (handSource p k old new).sgu = p.sgu ∧ (handSource p k old new).sch = p.sch ∧
    (handSource p k old new).ssu = p.ssu ∧ (handSource p k old new).pln = p.pln ∧
    (handSource p k old new).pins = p.pins := by
  simp only [handSource]
  (repeat' split) <;> simp

@[simp] theorem putSocket_frame (p : Part) (k : SocketId) (x : Socket) :
    (putSocket p k x).smn = p.smn ∧ (putSocket p k x).flc = p.flc ∧ (putSocket p k x).sgu = p.sgu ∧
    (putSocket p k x).sch = p.sch ∧ (putSocket p k x).ssu = p.ssu ∧ (putSocket p k x).pln = p.pln ∧
    (putSocket p k x).pins = p.pins := by
  simp [putSocket]

@[simp] theorem captureEvent_frame (p : Part) (k : SocketId) (x : Socket) (e : CaptureEvent) :
    (captureEvent p k x e).smn = p.smn ∧ (captureEvent p k x e).flc = p.flc ∧ (captureEvent p k x e).sgu = p.sgu ∧
    (captureEvent p k x e).sch = p.sch ∧ (captureEvent p k x e).ssu = p.ssu ∧ (captureEvent p k x e).pln = p.pln ∧
    (captureEvent p k x e).pins = p.pins := by
  simp [captureEvent]

@[simp] theorem overflow_frame (p : Part) (k : SocketId) :
    (overflow p k).smn = p.smn ∧ (overflow p k).flc = p.flc ∧ (overflow p k).sgu = p.sgu ∧
    (overflow p k).sch = p.sch ∧ (overflow p k).ssu = p.ssu ∧ (overflow p k).pln = p.pln ∧
    (overflow p k).pins = p.pins := by
  simp only [overflow]
  (repeat' split) <;> simp

@[simp] theorem overflows_frame (k : SocketId) (n : Nat) (p : Part) :
    (overflows k n p).smn = p.smn ∧ (overflows k n p).flc = p.flc ∧ (overflows k n p).sgu = p.sgu ∧
    (overflows k n p).sch = p.sch ∧ (overflows k n p).ssu = p.ssu ∧ (overflows k n p).pln = p.pln ∧
    (overflows k n p).pins = p.pins := by
  induction n generalizing p with
  | zero => simp [overflows]
  | succ n ih => simp [overflows, ih]

@[simp] theorem passTicks_frame (p : Part) (k : SocketId) (ticks : Nat) (last : Bool) :
    (passTicks p k ticks last).smn = p.smn ∧ (passTicks p k ticks last).flc = p.flc ∧
    (passTicks p k ticks last).sgu = p.sgu ∧ (passTicks p k ticks last).sch = p.sch ∧
    (passTicks p k ticks last).ssu = p.ssu ∧ (passTicks p k ticks last).pln = p.pln ∧
    (passTicks p k ticks last).pins = p.pins := by
  simp only [passTicks]
  (repeat' split) <;> simp

/-- Ticks short of an overflow only add to the counter. -/
theorem passTicks_counts (p : Part) (k : SocketId) (ticks : Nat) (last : Bool)
    (h : (p.socket k).counter + ticks < Config.overflowTicks) :
    passTicks p k ticks last = p.setSocket k { p.socket k with counter := (p.socket k).counter + ticks } := by
  simp [passTicks, Nat.div_eq_of_lt h, Nat.mod_eq_of_lt h, overflows]

@[simp] theorem tickSocket_frame (p : Part) (k : SocketId) :
    (tickSocket p k).smn = p.smn ∧ (tickSocket p k).flc = p.flc ∧ (tickSocket p k).sgu = p.sgu ∧
    (tickSocket p k).sch = p.sch ∧ (tickSocket p k).ssu = p.ssu ∧ (tickSocket p k).pln = p.pln ∧
    (tickSocket p k).pins = p.pins := by
  simp only [tickSocket]
  split <;> simp

@[simp] theorem captureTick_frame (p : Part) :
    (captureTick p).smn = p.smn ∧ (captureTick p).flc = p.flc ∧ (captureTick p).sgu = p.sgu ∧
    (captureTick p).sch = p.sch ∧ (captureTick p).ssu = p.ssu ∧ (captureTick p).pln = p.pln ∧
    (captureTick p).pins = p.pins := by
  simp [captureTick]

@[simp] theorem measure_frame (p : Part) (k : SocketId) (x : Socket) :
    (measure p k x).smn = p.smn ∧ (measure p k x).flc = p.flc ∧ (measure p k x).sgu = p.sgu ∧
    (measure p k x).sch = p.sch ∧ (measure p k x).ssu = p.ssu ∧ (measure p k x).pln = p.pln ∧
    (measure p k x).pins = p.pins := by
  simp [measure]

@[simp] theorem edgeActs_frame (p : Part) (k : SocketId) (isActive : Bool) :
    (edgeActs p k isActive).smn = p.smn ∧ (edgeActs p k isActive).flc = p.flc ∧ (edgeActs p k isActive).sgu = p.sgu ∧
    (edgeActs p k isActive).sch = p.sch ∧ (edgeActs p k isActive).ssu = p.ssu ∧ (edgeActs p k isActive).pln = p.pln ∧
    (edgeActs p k isActive).pins = p.pins := by
  simp only [edgeActs]
  (repeat' split) <;> simp

@[simp] theorem lateOverflow_frame (p : Part) (k : SocketId) :
    (lateOverflow p k).smn = p.smn ∧ (lateOverflow p k).flc = p.flc ∧ (lateOverflow p k).sgu = p.sgu ∧
    (lateOverflow p k).sch = p.sch ∧ (lateOverflow p k).ssu = p.ssu ∧ (lateOverflow p k).pln = p.pln ∧
    (lateOverflow p k).pins = p.pins := by
  simp only [lateOverflow]
  (repeat' split) <;> simp

@[simp] theorem takeEdge_frame (p : Part) (k : SocketId) (e : Edge) (ticks levelHeld : Nat) (overflowFirst : Bool) :
    (takeEdge p k e ticks levelHeld overflowFirst).smn = p.smn ∧
    (takeEdge p k e ticks levelHeld overflowFirst).flc = p.flc ∧
    (takeEdge p k e ticks levelHeld overflowFirst).sgu = p.sgu ∧
    (takeEdge p k e ticks levelHeld overflowFirst).sch = p.sch ∧
    (takeEdge p k e ticks levelHeld overflowFirst).ssu = p.ssu ∧
    (takeEdge p k e ticks levelHeld overflowFirst).pln = p.pln ∧
    (takeEdge p k e ticks levelHeld overflowFirst).pins = p.pins := by
  simp only [takeEdge]
  (repeat' split) <;> simp

@[simp] theorem standbySocket_frame (p : Part) (k : SocketId) :
    (standbySocket p k).smn = p.smn ∧ (standbySocket p k).flc = p.flc ∧ (standbySocket p k).sgu = p.sgu ∧
    (standbySocket p k).sch = p.sch ∧ (standbySocket p k).ssu = p.ssu ∧ (standbySocket p k).pln = p.pln ∧
    (standbySocket p k).pins = p.pins := by
  simp only [standbySocket]
  (repeat' split) <;> simp

@[simp] theorem setFixedInput_frame (p : Part) (codec present : Bool) :
    (setFixedInput p codec present).sfe = p.sfe ∧ (setFixedInput p codec present).smn = p.smn ∧
    (setFixedInput p codec present).flc = p.flc ∧ (setFixedInput p codec present).sgu = p.sgu ∧
    (setFixedInput p codec present).sch = p.sch ∧ (setFixedInput p codec present).ssu = p.ssu ∧
    (setFixedInput p codec present).pwu = p.pwu ∧ (setFixedInput p codec present).pln = p.pln ∧
    (setFixedInput p codec present).pins = p.pins := by
  simp only [setFixedInput]
  (repeat' split) <;> simp

@[simp] theorem sendOne_frame (c : ChannelId) (p : Part) (o : SfeOut) :
    (sendOne c p o).pln = p.pln ∧ (sendOne c p o).pins = p.pins := by
  simp only [sendOne]
  (repeat' split) <;> simp

@[simp] theorem sendOut_frame (p : Part) (c : ChannelId) (out : List SfeOut) :
    (sendOut p c out).pln = p.pln ∧ (sendOut p c out).pins = p.pins := by
  simp [sendOut]

@[simp] theorem putChannel_frame (p : Part) (c : ChannelId) (r : ChanResult) :
    (putChannel p c r).pln = p.pln ∧ (putChannel p c r).pins = p.pins := by
  simp [putChannel]

@[simp] theorem channelFrame_frame (standby : Bool) (change : Int) (readings : List Nat) (p : Part) (c : ChannelId) :
    (channelFrame standby change readings p c).pln = p.pln ∧
    (channelFrame standby change readings p c).pins = p.pins := by
  simp only [channelFrame]
  (repeat' split) <;> simp

@[simp] theorem countPresses_frame (p : Part) (period : Nat) (seats : List SeatId) :
    (countPresses p period seats).sfe = p.sfe ∧ (countPresses p period seats).scu = p.scu ∧
    (countPresses p period seats).rtu = p.rtu ∧ (countPresses p period seats).sch = p.sch ∧
    (countPresses p period seats).ssu = p.ssu ∧ (countPresses p period seats).pwu = p.pwu ∧
    (countPresses p period seats).pln = p.pln ∧ (countPresses p period seats).pins = p.pins := by
  simp [countPresses]

@[simp] theorem startUpTest_frame (p : Part) :
    (startUpTest p).sfe = p.sfe ∧ (startUpTest p).scu = p.scu ∧ (startUpTest p).pins = p.pins := by
  simp only [startUpTest]
  (repeat' split) <;> simp

@[simp] theorem settleFrame_frame (p : Part) (counts : Bool) :
    (settleFrame p counts).sfe = p.sfe ∧ (settleFrame p counts).scu = p.scu ∧ (settleFrame p counts).pln = p.pln ∧
    (settleFrame p counts).pins = p.pins := by
  simp only [settleFrame]
  (repeat' split) <;> simp

@[simp] theorem sensingFrame_frame (p : Part) (readings : List Nat) (first : List ChannelId) (timersFirst : Bool) :
    (sensingFrame p readings first timersFirst).pins = p.pins := by
  simp only [sensingFrame]
  (repeat' split) <;> simp

@[simp] theorem haltReseed_frame (p : Part) (c : ChannelId) :
    (haltReseed p c).pln = p.pln ∧ (haltReseed p c).pins = p.pins := by
  simp only [haltReseed]
  (repeat' split) <;> simp

@[simp] theorem bandRetune_frame (p : Part) (c : ChannelId) :
    (bandRetune p c).smn = p.smn ∧ (bandRetune p c).flc = p.flc ∧ (bandRetune p c).sgu = p.sgu ∧
    (bandRetune p c).scu = p.scu ∧ (bandRetune p c).rtu = p.rtu ∧ (bandRetune p c).sch = p.sch ∧
    (bandRetune p c).ssu = p.ssu ∧ (bandRetune p c).prt = p.prt ∧ (bandRetune p c).pwu = p.pwu ∧
    (bandRetune p c).pln = p.pln ∧ (bandRetune p c).pins = p.pins := by
  simp only [bandRetune]
  (repeat' split) <;> simp

@[simp] theorem retuneDone_frame (p : Part) (c : ChannelId) :
    (retuneDone p c).pins = p.pins := by
  simp only [retuneDone]
  (repeat' split) <;> simp

@[simp] theorem startUpRetunes_frame (p : Part) :
    (startUpRetunes p).smn = p.smn ∧ (startUpRetunes p).flc = p.flc ∧ (startUpRetunes p).sgu = p.sgu ∧
    (startUpRetunes p).scu = p.scu ∧ (startUpRetunes p).rtu = p.rtu ∧ (startUpRetunes p).sch = p.sch ∧
    (startUpRetunes p).ssu = p.ssu ∧ (startUpRetunes p).prt = p.prt ∧ (startUpRetunes p).pwu = p.pwu ∧
    (startUpRetunes p).pln = p.pln ∧ (startUpRetunes p).pins = p.pins := by
  simp [startUpRetunes]

@[simp] theorem retuneChannel_frame (force : Bool) (p : Part) (c : ChannelId) :
    (retuneChannel force p c).smn = p.smn ∧ (retuneChannel force p c).flc = p.flc ∧
    (retuneChannel force p c).sgu = p.sgu ∧ (retuneChannel force p c).scu = p.scu ∧
    (retuneChannel force p c).rtu = p.rtu ∧ (retuneChannel force p c).sch = p.sch ∧
    (retuneChannel force p c).ssu = p.ssu ∧ (retuneChannel force p c).prt = p.prt ∧
    (retuneChannel force p c).pwu = p.pwu ∧ (retuneChannel force p c).pln = p.pln ∧
    (retuneChannel force p c).pins = p.pins := by
  simp only [retuneChannel]
  (repeat' split) <;> simp

@[simp] theorem directionReseed_frame (p : Part) (c : ChannelId) :
    (directionReseed p c).pln = p.pln ∧ (directionReseed p c).pins = p.pins := by
  simp only [directionReseed]
  (repeat' split) <;> simp

@[simp] theorem putProfile_frame (p : Part) (k : ProfileKind) (x : Profile) :
    (putProfile p k x).smn = p.smn ∧ (putProfile p k x).flc = p.flc ∧ (putProfile p k x).sgu = p.sgu ∧
    (putProfile p k x).scu = p.scu ∧ (putProfile p k x).rtu = p.rtu ∧ (putProfile p k x).sch = p.sch ∧
    (putProfile p k x).ssu = p.ssu ∧ (putProfile p k x).prt = p.prt ∧ (putProfile p k x).pwu = p.pwu ∧
    (putProfile p k x).pln = p.pln ∧ (putProfile p k x).pins = p.pins := by
  simp only [putProfile]
  (repeat' split) <;> simp

@[simp] theorem setProfile_frame (p : Part) (k : ProfileKind) (x : Profile) :
    (setProfile p k x).pln = p.pln ∧ (setProfile p k x).pins = p.pins := by
  simp only [setProfile]
  (repeat' split) <;> simp

end Sys2Proof.Machine.Part
end

