-- ==== Sys2Proof/Laws/FramesPorts.lean ====
section
/-! SUPPORT. The frames of the operations over standby, the clock and banks, the plan, the settings and the ports: the blocks that each one leaves as they are. -/

namespace Sys2Proof.Machine.Part

@[simp] theorem standbyKey_frame (p : Part) (s : SeatId) :
    (standbyKey p s).pln = p.pln ∧ (standbyKey p s).pins = p.pins := by
  simp [standbyKey]

@[simp] theorem standbySlots_frame (p : Part) :
    (standbySlots p).sfe = p.sfe ∧ (standbySlots p).smn = p.smn ∧ (standbySlots p).flc = p.flc ∧
    (standbySlots p).scu = p.scu ∧ (standbySlots p).rtu = p.rtu ∧ (standbySlots p).sch = p.sch ∧
    (standbySlots p).ssu = p.ssu ∧ (standbySlots p).prt = p.prt ∧ (standbySlots p).pwu = p.pwu ∧
    (standbySlots p).pln = p.pln ∧ (standbySlots p).pins = p.pins := by
  simp [standbySlots]

@[simp] theorem standbyEntry_frame (p : Part) :
    (standbyEntry p).pln = p.pln ∧ (standbyEntry p).pins = p.pins := by
  simp [standbyEntry]

@[simp] theorem standbyTest_frame (p : Part) :
    (standbyTest p).pln = p.pln ∧ (standbyTest p).pins = p.pins := by
  simp only [standbyTest]
  (repeat' split) <;> simp

@[simp] theorem countQuiet_frame (p : Part) :
    (countQuiet p).sfe = p.sfe ∧ (countQuiet p).smn = p.smn ∧ (countQuiet p).flc = p.flc ∧
    (countQuiet p).sgu = p.sgu ∧ (countQuiet p).scu = p.scu ∧ (countQuiet p).rtu = p.rtu ∧
    (countQuiet p).sch = p.sch ∧ (countQuiet p).ssu = p.ssu ∧ (countQuiet p).prt = p.prt ∧
    (countQuiet p).pln = p.pln ∧ (countQuiet p).pins = p.pins := by
  simp only [countQuiet]
  (repeat' split) <;> simp

@[simp] theorem powerSecond_frame (p : Part) (minute : Bool) :
    (powerSecond p minute).pln = p.pln ∧ (powerSecond p minute).pins = p.pins := by
  simp only [powerSecond]
  (repeat' split) <;> simp

@[simp] theorem standbyEnter_frame (p : Part) :
    (standbyEnter p).1.pln = p.pln ∧ (standbyEnter p).1.pins = p.pins := by
  simp only [standbyEnter]
  (repeat' split) <;> simp

@[simp] theorem exchangeBanks_frame (p : Part) :
    (exchangeBanks p).sfe = p.sfe ∧ (exchangeBanks p).smn = p.smn ∧ (exchangeBanks p).flc = p.flc ∧
    (exchangeBanks p).sgu = p.sgu ∧ (exchangeBanks p).scu = p.scu ∧ (exchangeBanks p).rtu = p.rtu ∧
    (exchangeBanks p).ssu = p.ssu ∧ (exchangeBanks p).prt = p.prt ∧ (exchangeBanks p).pwu = p.pwu ∧
    (exchangeBanks p).pln = p.pln ∧ (exchangeBanks p).pins = p.pins := by
  simp only [exchangeBanks]
  (repeat' split) <;> simp

@[simp] theorem relink_frame (p : Part) :
    (relink p).sfe = p.sfe ∧ (relink p).smn = p.smn ∧ (relink p).flc = p.flc ∧ (relink p).sgu = p.sgu ∧
    (relink p).scu = p.scu ∧ (relink p).rtu = p.rtu ∧ (relink p).pwu = p.pwu ∧ (relink p).pln = p.pln ∧
    (relink p).pins = p.pins := by
  simp only [relink]
  (repeat' split) <;> simp

@[simp] theorem relinkTests_frame (p : Part) :
    (relinkTests p).sfe = p.sfe ∧ (relinkTests p).scu = p.scu ∧ (relinkTests p).pwu = p.pwu ∧
    (relinkTests p).pln = p.pln ∧ (relinkTests p).pins = p.pins := by
  simp only [relinkTests]
  (repeat' split) <;> simp

@[simp] theorem swapPending_frame (p : Part) :
    (swapPending p).sfe = p.sfe ∧ (swapPending p).smn = p.smn ∧ (swapPending p).flc = p.flc ∧
    (swapPending p).sgu = p.sgu ∧ (swapPending p).scu = p.scu ∧ (swapPending p).rtu = p.rtu ∧
    (swapPending p).sch = p.sch ∧ (swapPending p).pwu = p.pwu ∧ (swapPending p).pln = p.pln ∧
    (swapPending p).pins = p.pins := by
  simp [swapPending]

@[simp] theorem swap_frame (p : Part) :
    (swap p).pln = p.pln ∧ (swap p).pins = p.pins := by
  simp [swap]

@[simp] theorem midnight_frame (p : Part) :
    (midnight p).pln = p.pln ∧ (midnight p).pins = p.pins := by
  simp only [midnight]
  (repeat' split) <;> simp

@[simp] theorem secondFor_frame (b : Part) (minute : Bool) (p : Part) (u : ClockUser) :
    (secondFor b minute p u).pln = p.pln ∧ (secondFor b minute p u).pins = p.pins := by
  simp only [secondFor]
  (repeat' split) <;> simp

@[simp] theorem secondEvent_frame (p : Part) (first : List ClockUser) :
    (secondEvent p first).pln = p.pln ∧ (secondEvent p first).pins = p.pins := by
  simp only [secondEvent]
  (repeat' split) <;> simp

@[simp] theorem clockSet_frame (p : Part) (day minute second : Nat) :
    (clockSet p day minute second).1.pln = p.pln ∧ (clockSet p day minute second).1.pins = p.pins := by
  simp only [clockSet]
  (repeat' split) <;> simp

@[simp] theorem startCheck_frame (p : Part) :
    (startCheck p).sfe = p.sfe ∧ (startCheck p).smn = p.smn ∧ (startCheck p).flc = p.flc ∧
    (startCheck p).sgu = p.sgu ∧ (startCheck p).scu = p.scu ∧ (startCheck p).rtu = p.rtu ∧
    (startCheck p).ssu = p.ssu ∧ (startCheck p).pwu = p.pwu ∧ (startCheck p).pln = p.pln ∧
    (startCheck p).pins = p.pins := by
  simp [startCheck]

@[simp] theorem bankOpen_frame (p : Part) (day count auto : Nat) :
    (bankOpen p day count auto).1.sfe = p.sfe ∧ (bankOpen p day count auto).1.flc = p.flc ∧
    (bankOpen p day count auto).1.sgu = p.sgu ∧ (bankOpen p day count auto).1.scu = p.scu ∧
    (bankOpen p day count auto).1.rtu = p.rtu ∧ (bankOpen p day count auto).1.ssu = p.ssu ∧
    (bankOpen p day count auto).1.pwu = p.pwu ∧ (bankOpen p day count auto).1.pln = p.pln ∧
    (bankOpen p day count auto).1.pins = p.pins := by
  simp only [bankOpen]
  (repeat' split) <;> simp

@[simp] theorem faultBank_frame (p : Part) (c : BankFault) :
    (faultBank p c).sfe = p.sfe ∧ (faultBank p c).smn = p.smn ∧ (faultBank p c).flc = p.flc ∧
    (faultBank p c).sgu = p.sgu ∧ (faultBank p c).scu = p.scu ∧ (faultBank p c).rtu = p.rtu ∧
    (faultBank p c).ssu = p.ssu ∧ (faultBank p c).pwu = p.pwu ∧ (faultBank p c).pln = p.pln ∧
    (faultBank p c).pins = p.pins := by
  simp [faultBank]

@[simp] theorem bookingEntry_frame (p : Part) (l : List Byte) :
    (bookingEntry p l).1.sfe = p.sfe ∧ (bookingEntry p l).1.smn = p.smn ∧ (bookingEntry p l).1.flc = p.flc ∧
    (bookingEntry p l).1.sgu = p.sgu ∧ (bookingEntry p l).1.scu = p.scu ∧ (bookingEntry p l).1.rtu = p.rtu ∧
    (bookingEntry p l).1.ssu = p.ssu ∧ (bookingEntry p l).1.pwu = p.pwu ∧ (bookingEntry p l).1.pln = p.pln ∧
    (bookingEntry p l).1.pins = p.pins := by
  simp only [bookingEntry]
  (repeat' split) <;> simp

@[simp] theorem bankPublish_frame (p : Part) :
    (bankPublish p).1.pln = p.pln ∧ (bankPublish p).1.pins = p.pins := by
  simp only [bankPublish]
  (repeat' split) <;> simp

@[simp] theorem bankAbandon_frame (p : Part) :
    (bankAbandon p).1.sfe = p.sfe ∧ (bankAbandon p).1.smn = p.smn ∧ (bankAbandon p).1.flc = p.flc ∧
    (bankAbandon p).1.sgu = p.sgu ∧ (bankAbandon p).1.scu = p.scu ∧ (bankAbandon p).1.rtu = p.rtu ∧
    (bankAbandon p).1.ssu = p.ssu ∧ (bankAbandon p).1.pwu = p.pwu ∧ (bankAbandon p).1.pln = p.pln ∧
    (bankAbandon p).1.pins = p.pins := by
  simp only [bankAbandon]
  (repeat' split) <;> simp

@[simp] theorem checkCompletion_frame (p : Part) :
    (checkCompletion p).pln = p.pln ∧ (checkCompletion p).pins = p.pins := by
  simp only [checkCompletion]
  (repeat' split) <;> simp

@[simp] theorem cancelEntry_frame (p : Part) (id : Nat) (s : EntryStatus) :
    (cancelEntry p id s).1.sfe = p.sfe ∧ (cancelEntry p id s).1.scu = p.scu ∧ (cancelEntry p id s).1.pwu = p.pwu ∧
    (cancelEntry p id s).1.pln = p.pln ∧ (cancelEntry p id s).1.pins = p.pins := by
  simp only [cancelEntry]
  (repeat' split) <;> simp

@[simp] theorem bookingCancel_frame (p : Part) (id : Nat) :
    (bookingCancel p id).1.sfe = p.sfe ∧ (bookingCancel p id).1.scu = p.scu ∧ (bookingCancel p id).1.pwu = p.pwu ∧
    (bookingCancel p id).1.pln = p.pln ∧ (bookingCancel p id).1.pins = p.pins := by
  simp only [bookingCancel]
  (repeat' split) <;> simp

@[simp] theorem extend_frame (p : Part) (minute : Nat) :
    (extend p minute).1.sfe = p.sfe ∧ (extend p minute).1.scu = p.scu ∧ (extend p minute).1.pwu = p.pwu ∧
    (extend p minute).1.pln = p.pln ∧ (extend p minute).1.pins = p.pins := by
  simp only [extend]
  (repeat' split) <;> simp

@[simp] theorem endSession_frame (p : Part) :
    (endSession p).1.sfe = p.sfe ∧ (endSession p).1.scu = p.scu ∧ (endSession p).1.pwu = p.pwu ∧
    (endSession p).1.pln = p.pln ∧ (endSession p).1.pins = p.pins := by
  simp only [endSession]
  (repeat' split) <;> simp

@[simp] theorem summaryRelease_frame (p : Part) (number : Nat) :
    (summaryRelease p number).1.sfe = p.sfe ∧ (summaryRelease p number).1.smn = p.smn ∧
    (summaryRelease p number).1.flc = p.flc ∧ (summaryRelease p number).1.sgu = p.sgu ∧
    (summaryRelease p number).1.scu = p.scu ∧ (summaryRelease p number).1.rtu = p.rtu ∧
    (summaryRelease p number).1.sch = p.sch ∧ (summaryRelease p number).1.prt = p.prt ∧
    (summaryRelease p number).1.pwu = p.pwu ∧ (summaryRelease p number).1.pln = p.pln ∧
    (summaryRelease p number).1.pins = p.pins := by
  simp only [summaryRelease]
  (repeat' split) <;> simp

@[simp] theorem handOut_frame (p : Part) (s : Settings) :
    (handOut p s).sch = p.sch ∧ (handOut p s).pln = p.pln ∧ (handOut p s).pins = p.pins := by
  simp [handOut]

@[simp] theorem loadRecord_frame (p : Part) (outcome : LoadOutcome) (corrected : Bool) (image : List Byte) :
    (loadRecord p outcome corrected image).sfe = p.sfe ∧ (loadRecord p outcome corrected image).smn = p.smn ∧
    (loadRecord p outcome corrected image).flc = p.flc ∧ (loadRecord p outcome corrected image).sgu = p.sgu ∧
    (loadRecord p outcome corrected image).scu = p.scu ∧ (loadRecord p outcome corrected image).rtu = p.rtu ∧
    (loadRecord p outcome corrected image).sch = p.sch ∧ (loadRecord p outcome corrected image).ssu = p.ssu ∧
    (loadRecord p outcome corrected image).prt = p.prt ∧ (loadRecord p outcome corrected image).pwu = p.pwu ∧
    (loadRecord p outcome corrected image).pins = p.pins := by
  simp [loadRecord]

@[simp] theorem loadPlan_frame (p : Part) (img : List Byte) :
    (loadPlan p img).sch = p.sch ∧ (loadPlan p img).pins = p.pins := by
  simp only [loadPlan]
  (repeat' split) <;> simp

@[simp] theorem loadDefault_frame (p : Part) :
    (loadDefault p).sch = p.sch ∧ (loadDefault p).pins = p.pins := by
  simp [loadDefault]

@[simp] theorem loadEnd_frame (p : Part) (e : EepromRead) :
    (loadEnd p e).sch = p.sch ∧ (loadEnd p e).pins = p.pins := by
  simp only [loadEnd]
  (repeat' split) <;> simp

@[simp] theorem planSave_frame (p : Part) :
    (planSave p).1.sfe = p.sfe ∧ (planSave p).1.smn = p.smn ∧ (planSave p).1.flc = p.flc ∧
    (planSave p).1.sgu = p.sgu ∧ (planSave p).1.scu = p.scu ∧ (planSave p).1.rtu = p.rtu ∧
    (planSave p).1.sch = p.sch ∧ (planSave p).1.ssu = p.ssu ∧ (planSave p).1.prt = p.prt ∧
    (planSave p).1.pwu = p.pwu ∧ (planSave p).1.pins = p.pins := by
  simp only [planSave]
  (repeat' split) <;> simp

@[simp] theorem saveMatch_frame (p : Part) :
    (saveMatch p).sfe = p.sfe ∧ (saveMatch p).smn = p.smn ∧ (saveMatch p).flc = p.flc ∧ (saveMatch p).sgu = p.sgu ∧
    (saveMatch p).scu = p.scu ∧ (saveMatch p).rtu = p.rtu ∧ (saveMatch p).sch = p.sch ∧ (saveMatch p).ssu = p.ssu ∧
    (saveMatch p).pwu = p.pwu ∧ (saveMatch p).pins = p.pins := by
  simp only [saveMatch]
  (repeat' split) <;> simp

@[simp] theorem saveFailure_frame (p : Part) :
    (saveFailure p).sfe = p.sfe ∧ (saveFailure p).smn = p.smn ∧ (saveFailure p).flc = p.flc ∧
    (saveFailure p).sgu = p.sgu ∧ (saveFailure p).scu = p.scu ∧ (saveFailure p).rtu = p.rtu ∧
    (saveFailure p).sch = p.sch ∧ (saveFailure p).ssu = p.ssu ∧ (saveFailure p).pwu = p.pwu ∧
    (saveFailure p).pins = p.pins := by
  simp only [saveFailure]
  (repeat' split) <;> simp

@[simp] theorem closeRequest_frame (p : Part) (s : SeatId) :
    (closeRequest p s).1.sfe = p.sfe ∧ (closeRequest p s).1.smn = p.smn ∧ (closeRequest p s).1.scu = p.scu ∧
    (closeRequest p s).1.sch = p.sch ∧ (closeRequest p s).1.ssu = p.ssu ∧ (closeRequest p s).1.pwu = p.pwu ∧
    (closeRequest p s).1.pln = p.pln ∧ (closeRequest p s).1.pins = p.pins := by
  simp only [closeRequest]
  (repeat' split) <;> simp

@[simp] theorem cancelRequest_frame (p : Part) (s : SeatId) :
    (cancelRequest p s).1.sfe = p.sfe ∧ (cancelRequest p s).1.smn = p.smn ∧ (cancelRequest p s).1.sgu = p.sgu ∧
    (cancelRequest p s).1.scu = p.scu ∧ (cancelRequest p s).1.rtu = p.rtu ∧ (cancelRequest p s).1.sch = p.sch ∧
    (cancelRequest p s).1.ssu = p.ssu ∧ (cancelRequest p s).1.pwu = p.pwu ∧ (cancelRequest p s).1.pln = p.pln ∧
    (cancelRequest p s).1.pins = p.pins := by
  simp only [cancelRequest]
  (repeat' split) <;> simp

@[simp] theorem cancelAll_frame (p : Part) :
    (cancelAll p).1.sfe = p.sfe ∧ (cancelAll p).1.smn = p.smn ∧ (cancelAll p).1.sgu = p.sgu ∧
    (cancelAll p).1.scu = p.scu ∧ (cancelAll p).1.rtu = p.rtu ∧ (cancelAll p).1.sch = p.sch ∧
    (cancelAll p).1.ssu = p.ssu ∧ (cancelAll p).1.pwu = p.pwu ∧ (cancelAll p).1.pln = p.pln ∧
    (cancelAll p).1.pins = p.pins := by
  simp [cancelAll]

@[simp] theorem setModeRequest_frame (p : Part) (n : Nat) :
    (setModeRequest p n).1.sfe = p.sfe ∧ (setModeRequest p n).1.scu = p.scu ∧ (setModeRequest p n).1.rtu = p.rtu ∧
    (setModeRequest p n).1.sch = p.sch ∧ (setModeRequest p n).1.ssu = p.ssu ∧ (setModeRequest p n).1.pwu = p.pwu ∧
    (setModeRequest p n).1.pln = p.pln ∧ (setModeRequest p n).1.pins = p.pins := by
  simp only [setModeRequest]
  (repeat' split) <;> simp

@[simp] theorem setSpeakRequest_frame (p : Part) (n e : Nat) :
    (setSpeakRequest p n e).1.sfe = p.sfe ∧ (setSpeakRequest p n e).1.smn = p.smn ∧
    (setSpeakRequest p n e).1.scu = p.scu ∧ (setSpeakRequest p n e).1.sch = p.sch ∧
    (setSpeakRequest p n e).1.ssu = p.ssu ∧ (setSpeakRequest p n e).1.pwu = p.pwu ∧
    (setSpeakRequest p n e).1.pln = p.pln ∧ (setSpeakRequest p n e).1.pins = p.pins := by
  simp only [setSpeakRequest]
  (repeat' split) <;> simp

@[simp] theorem pressRequest_frame (p : Part) (s : SeatId) :
    (pressRequest p s).1.sfe = p.sfe ∧ (pressRequest p s).1.scu = p.scu ∧ (pressRequest p s).1.sch = p.sch ∧
    (pressRequest p s).1.ssu = p.ssu ∧ (pressRequest p s).1.pwu = p.pwu ∧ (pressRequest p s).1.pln = p.pln ∧
    (pressRequest p s).1.pins = p.pins := by
  simp only [pressRequest]
  (repeat' split) <;> simp

@[simp] theorem profileRequest_frame (p : Part) (l : List Byte) :
    (profileRequest p l).1.pln = p.pln ∧ (profileRequest p l).1.pins = p.pins := by
  simp only [profileRequest]
  (repeat' split) <;> simp

@[simp] theorem setPattern_frame (p : Part) (i : Fin 12) (l : List Byte) :
    (setPattern p i l).1.sfe = p.sfe ∧ (setPattern p i l).1.smn = p.smn ∧ (setPattern p i l).1.flc = p.flc ∧
    (setPattern p i l).1.scu = p.scu ∧ (setPattern p i l).1.rtu = p.rtu ∧ (setPattern p i l).1.sch = p.sch ∧
    (setPattern p i l).1.ssu = p.ssu ∧ (setPattern p i l).1.prt = p.prt ∧ (setPattern p i l).1.pwu = p.pwu ∧
    (setPattern p i l).1.pln = p.pln ∧ (setPattern p i l).1.pins = p.pins := by
  simp only [setPattern]
  (repeat' split) <;> simp

@[simp] theorem patternRequest_frame (p : Part) (l : List Byte) :
    (patternRequest p l).1.sfe = p.sfe ∧ (patternRequest p l).1.smn = p.smn ∧ (patternRequest p l).1.flc = p.flc ∧
    (patternRequest p l).1.scu = p.scu ∧ (patternRequest p l).1.rtu = p.rtu ∧ (patternRequest p l).1.sch = p.sch ∧
    (patternRequest p l).1.ssu = p.ssu ∧ (patternRequest p l).1.prt = p.prt ∧ (patternRequest p l).1.pwu = p.pwu ∧
    (patternRequest p l).1.pln = p.pln ∧ (patternRequest p l).1.pins = p.pins := by
  simp only [patternRequest]
  (repeat' split) <;> simp

@[simp] theorem setPolarity_frame (p : Part) (l : List Byte) :
    (setPolarity p l).1.sfe = p.sfe ∧ (setPolarity p l).1.smn = p.smn ∧ (setPolarity p l).1.flc = p.flc ∧
    (setPolarity p l).1.scu = p.scu ∧ (setPolarity p l).1.rtu = p.rtu ∧ (setPolarity p l).1.sch = p.sch ∧
    (setPolarity p l).1.ssu = p.ssu ∧ (setPolarity p l).1.prt = p.prt ∧ (setPolarity p l).1.pwu = p.pwu ∧
    (setPolarity p l).1.pln = p.pln ∧ (setPolarity p l).1.pins = p.pins := by
  simp only [setPolarity]
  (repeat' split) <;> simp

@[simp] theorem polarityRequest_frame (p : Part) (l : List Byte) :
    (polarityRequest p l).1.sfe = p.sfe ∧ (polarityRequest p l).1.smn = p.smn ∧ (polarityRequest p l).1.flc = p.flc ∧
    (polarityRequest p l).1.scu = p.scu ∧ (polarityRequest p l).1.rtu = p.rtu ∧ (polarityRequest p l).1.sch = p.sch ∧
    (polarityRequest p l).1.ssu = p.ssu ∧ (polarityRequest p l).1.prt = p.prt ∧ (polarityRequest p l).1.pwu = p.pwu ∧
    (polarityRequest p l).1.pln = p.pln ∧ (polarityRequest p l).1.pins = p.pins := by
  simp [polarityRequest]

@[simp] theorem retuneRequest_frame (p : Part) (scope force : Nat) :
    (retuneRequest p scope force).1.smn = p.smn ∧ (retuneRequest p scope force).1.flc = p.flc ∧
    (retuneRequest p scope force).1.sgu = p.sgu ∧ (retuneRequest p scope force).1.scu = p.scu ∧
    (retuneRequest p scope force).1.rtu = p.rtu ∧ (retuneRequest p scope force).1.sch = p.sch ∧
    (retuneRequest p scope force).1.ssu = p.ssu ∧ (retuneRequest p scope force).1.prt = p.prt ∧
    (retuneRequest p scope force).1.pwu = p.pwu ∧ (retuneRequest p scope force).1.pln = p.pln ∧
    (retuneRequest p scope force).1.pins = p.pins := by
  simp only [retuneRequest]
  (repeat' split) <;> simp

@[simp] theorem setScreenSettings_frame (p : Part) (k : ScreenId) (x : ScreenSettings) :
    (setScreenSettings p k x).sfe = p.sfe ∧ (setScreenSettings p k x).smn = p.smn ∧
    (setScreenSettings p k x).flc = p.flc ∧ (setScreenSettings p k x).sgu = p.sgu ∧
    (setScreenSettings p k x).scu = p.scu ∧ (setScreenSettings p k x).sch = p.sch ∧
    (setScreenSettings p k x).ssu = p.ssu ∧ (setScreenSettings p k x).prt = p.prt ∧
    (setScreenSettings p k x).pwu = p.pwu ∧ (setScreenSettings p k x).pln = p.pln ∧
    (setScreenSettings p k x).pins = p.pins := by
  simp [setScreenSettings]

@[simp] theorem setRoute_frame (p : Part) (k : ScreenId) (l : List Byte) :
    (setRoute p k l).1.sfe = p.sfe ∧ (setRoute p k l).1.smn = p.smn ∧ (setRoute p k l).1.flc = p.flc ∧
    (setRoute p k l).1.sgu = p.sgu ∧ (setRoute p k l).1.scu = p.scu ∧ (setRoute p k l).1.sch = p.sch ∧
    (setRoute p k l).1.ssu = p.ssu ∧ (setRoute p k l).1.prt = p.prt ∧ (setRoute p k l).1.pwu = p.pwu ∧
    (setRoute p k l).1.pln = p.pln ∧ (setRoute p k l).1.pins = p.pins := by
  simp only [setRoute]
  (repeat' split) <;> simp

@[simp] theorem routeRequest_frame (p : Part) (l : List Byte) :
    (routeRequest p l).1.sfe = p.sfe ∧ (routeRequest p l).1.smn = p.smn ∧ (routeRequest p l).1.flc = p.flc ∧
    (routeRequest p l).1.sgu = p.sgu ∧ (routeRequest p l).1.scu = p.scu ∧ (routeRequest p l).1.sch = p.sch ∧
    (routeRequest p l).1.ssu = p.ssu ∧ (routeRequest p l).1.prt = p.prt ∧ (routeRequest p l).1.pwu = p.pwu ∧
    (routeRequest p l).1.pln = p.pln ∧ (routeRequest p l).1.pins = p.pins := by
  simp only [routeRequest]
  (repeat' split) <;> simp

@[simp] theorem setRate_frame (p : Part) (i : Fin 8) (l : List Byte) :
    (setRate p i l).1.sfe = p.sfe ∧ (setRate p i l).1.smn = p.smn ∧ (setRate p i l).1.flc = p.flc ∧
    (setRate p i l).1.sgu = p.sgu ∧ (setRate p i l).1.rtu = p.rtu ∧ (setRate p i l).1.sch = p.sch ∧
    (setRate p i l).1.ssu = p.ssu ∧ (setRate p i l).1.prt = p.prt ∧ (setRate p i l).1.pwu = p.pwu ∧
    (setRate p i l).1.pln = p.pln ∧ (setRate p i l).1.pins = p.pins := by
  simp only [setRate]
  (repeat' split) <;> simp

@[simp] theorem rateRequest_frame (p : Part) (l : List Byte) :
    (rateRequest p l).1.sfe = p.sfe ∧ (rateRequest p l).1.smn = p.smn ∧ (rateRequest p l).1.flc = p.flc ∧
    (rateRequest p l).1.sgu = p.sgu ∧ (rateRequest p l).1.rtu = p.rtu ∧ (rateRequest p l).1.sch = p.sch ∧
    (rateRequest p l).1.ssu = p.ssu ∧ (rateRequest p l).1.prt = p.prt ∧ (rateRequest p l).1.pwu = p.pwu ∧
    (rateRequest p l).1.pln = p.pln ∧ (rateRequest p l).1.pins = p.pins := by
  simp only [rateRequest]
  (repeat' split) <;> simp

@[simp] theorem setCounts_frame (p : Part) (k d : Nat) :
    (setCounts p k d).1.sfe = p.sfe ∧ (setCounts p k d).1.smn = p.smn ∧ (setCounts p k d).1.flc = p.flc ∧
    (setCounts p k d).1.sgu = p.sgu ∧ (setCounts p k d).1.rtu = p.rtu ∧ (setCounts p k d).1.sch = p.sch ∧
    (setCounts p k d).1.ssu = p.ssu ∧ (setCounts p k d).1.prt = p.prt ∧ (setCounts p k d).1.pwu = p.pwu ∧
    (setCounts p k d).1.pln = p.pln ∧ (setCounts p k d).1.pins = p.pins := by
  simp only [setCounts]
  (repeat' split) <;> simp

@[simp] theorem countSetRequest_frame (p : Part) (k d : Nat) :
    (countSetRequest p k d).1.sfe = p.sfe ∧ (countSetRequest p k d).1.smn = p.smn ∧
    (countSetRequest p k d).1.flc = p.flc ∧ (countSetRequest p k d).1.sgu = p.sgu ∧
    (countSetRequest p k d).1.rtu = p.rtu ∧ (countSetRequest p k d).1.sch = p.sch ∧
    (countSetRequest p k d).1.ssu = p.ssu ∧ (countSetRequest p k d).1.prt = p.prt ∧
    (countSetRequest p k d).1.pwu = p.pwu ∧ (countSetRequest p k d).1.pln = p.pln ∧
    (countSetRequest p k d).1.pins = p.pins := by
  simp [countSetRequest]

@[simp] theorem setCapture_frame (p : Part) (k : SocketId) (l : List Byte) :
    (setCapture p k l).1.smn = p.smn ∧ (setCapture p k l).1.flc = p.flc ∧ (setCapture p k l).1.sgu = p.sgu ∧
    (setCapture p k l).1.sch = p.sch ∧ (setCapture p k l).1.ssu = p.ssu ∧ (setCapture p k l).1.pln = p.pln ∧
    (setCapture p k l).1.pins = p.pins := by
  simp only [setCapture]
  (repeat' split) <;> simp

@[simp] theorem captureRequest_frame (p : Part) (l : List Byte) :
    (captureRequest p l).1.smn = p.smn ∧ (captureRequest p l).1.flc = p.flc ∧ (captureRequest p l).1.sgu = p.sgu ∧
    (captureRequest p l).1.sch = p.sch ∧ (captureRequest p l).1.ssu = p.ssu ∧ (captureRequest p l).1.pln = p.pln ∧
    (captureRequest p l).1.pins = p.pins := by
  simp only [captureRequest]
  (repeat' split) <;> simp

@[simp] theorem setPresent_frame (p : Part) (input present : Nat) :
    (setPresent p input present).1.sfe = p.sfe ∧ (setPresent p input present).1.smn = p.smn ∧
    (setPresent p input present).1.flc = p.flc ∧ (setPresent p input present).1.sgu = p.sgu ∧
    (setPresent p input present).1.sch = p.sch ∧ (setPresent p input present).1.ssu = p.ssu ∧
    (setPresent p input present).1.pwu = p.pwu ∧ (setPresent p input present).1.pln = p.pln ∧
    (setPresent p input present).1.pins = p.pins := by
  simp only [setPresent]
  (repeat' split) <;> simp

@[simp] theorem presentRequest_frame (p : Part) (input present : Nat) :
    (presentRequest p input present).1.sfe = p.sfe ∧ (presentRequest p input present).1.smn = p.smn ∧
    (presentRequest p input present).1.flc = p.flc ∧ (presentRequest p input present).1.sgu = p.sgu ∧
    (presentRequest p input present).1.sch = p.sch ∧ (presentRequest p input present).1.ssu = p.ssu ∧
    (presentRequest p input present).1.pwu = p.pwu ∧ (presentRequest p input present).1.pln = p.pln ∧
    (presentRequest p input present).1.pins = p.pins := by
  simp [presentRequest]

@[simp] theorem setGain_frame (p : Part) (l : List Byte) :
    (setGain p l).1.sfe = p.sfe ∧ (setGain p l).1.smn = p.smn ∧ (setGain p l).1.flc = p.flc ∧
    (setGain p l).1.scu = p.scu ∧ (setGain p l).1.rtu = p.rtu ∧ (setGain p l).1.sch = p.sch ∧
    (setGain p l).1.ssu = p.ssu ∧ (setGain p l).1.prt = p.prt ∧ (setGain p l).1.pwu = p.pwu ∧
    (setGain p l).1.pln = p.pln ∧ (setGain p l).1.pins = p.pins := by
  simp only [setGain]
  (repeat' split) <;> simp

@[simp] theorem gainRequest_frame (p : Part) (l : List Byte) :
    (gainRequest p l).1.sfe = p.sfe ∧ (gainRequest p l).1.smn = p.smn ∧ (gainRequest p l).1.flc = p.flc ∧
    (gainRequest p l).1.scu = p.scu ∧ (gainRequest p l).1.rtu = p.rtu ∧ (gainRequest p l).1.sch = p.sch ∧
    (gainRequest p l).1.ssu = p.ssu ∧ (gainRequest p l).1.prt = p.prt ∧ (gainRequest p l).1.pwu = p.pwu ∧
    (gainRequest p l).1.pln = p.pln ∧ (gainRequest p l).1.pins = p.pins := by
  simp [gainRequest]

@[simp] theorem noticeRead_frame (p : Part) (q : Port) :
    (noticeRead p q).1.sfe = p.sfe ∧ (noticeRead p q).1.smn = p.smn ∧ (noticeRead p q).1.flc = p.flc ∧
    (noticeRead p q).1.sgu = p.sgu ∧ (noticeRead p q).1.scu = p.scu ∧ (noticeRead p q).1.rtu = p.rtu ∧
    (noticeRead p q).1.sch = p.sch ∧ (noticeRead p q).1.ssu = p.ssu ∧ (noticeRead p q).1.pwu = p.pwu ∧
    (noticeRead p q).1.pln = p.pln ∧ (noticeRead p q).1.pins = p.pins := by
  simp [noticeRead]

@[simp] theorem setMask_frame (p : Part) (q : Port) (n : Nat) :
    (setMask p q n).1.sfe = p.sfe ∧ (setMask p q n).1.smn = p.smn ∧ (setMask p q n).1.flc = p.flc ∧
    (setMask p q n).1.sgu = p.sgu ∧ (setMask p q n).1.scu = p.scu ∧ (setMask p q n).1.rtu = p.rtu ∧
    (setMask p q n).1.sch = p.sch ∧ (setMask p q n).1.ssu = p.ssu ∧ (setMask p q n).1.pwu = p.pwu ∧
    (setMask p q n).1.pln = p.pln ∧ (setMask p q n).1.pins = p.pins := by
  simp only [setMask]
  (repeat' split) <;> simp

@[simp] theorem maskRequest_frame (p : Part) (q : Port) (n : Nat) :
    (maskRequest p q n).1.sfe = p.sfe ∧ (maskRequest p q n).1.smn = p.smn ∧ (maskRequest p q n).1.flc = p.flc ∧
    (maskRequest p q n).1.sgu = p.sgu ∧ (maskRequest p q n).1.scu = p.scu ∧ (maskRequest p q n).1.rtu = p.rtu ∧
    (maskRequest p q n).1.sch = p.sch ∧ (maskRequest p q n).1.ssu = p.ssu ∧ (maskRequest p q n).1.pwu = p.pwu ∧
    (maskRequest p q n).1.pln = p.pln ∧ (maskRequest p q n).1.pins = p.pins := by
  simp [maskRequest]

@[simp] theorem resetPorts_frame (p : Part) :
    (resetPorts p).sfe = p.sfe ∧ (resetPorts p).smn = p.smn ∧ (resetPorts p).flc = p.flc ∧
    (resetPorts p).sgu = p.sgu ∧ (resetPorts p).scu = p.scu ∧ (resetPorts p).rtu = p.rtu ∧
    (resetPorts p).sch = p.sch ∧ (resetPorts p).ssu = p.ssu ∧ (resetPorts p).pwu = p.pwu ∧
    (resetPorts p).pln = p.pln ∧ (resetPorts p).pins = p.pins := by
  simp [resetPorts]

@[simp] theorem resetPower_frame (p : Part) (o : Option Nat) :
    (resetPower p o).sfe = p.sfe ∧ (resetPower p o).scu = p.scu ∧ (resetPower p o).pln = p.pln ∧
    (resetPower p o).pins = p.pins := by
  simp only [resetPower]
  (repeat' split) <;> simp

@[simp] theorem tableReset_frame (p : Part) :
    (tableReset p).sfe = p.sfe ∧ (tableReset p).scu = p.scu ∧ (tableReset p).pln = p.pln ∧
    (tableReset p).pins = p.pins := by
  simp [tableReset]

@[simp] theorem serveRead_frame (p : Part) (q : Port) (r : Request) :
    (serveRead p q r).1.sfe = p.sfe ∧ (serveRead p q r).1.smn = p.smn ∧ (serveRead p q r).1.flc = p.flc ∧
    (serveRead p q r).1.sgu = p.sgu ∧ (serveRead p q r).1.scu = p.scu ∧ (serveRead p q r).1.rtu = p.rtu ∧
    (serveRead p q r).1.sch = p.sch ∧ (serveRead p q r).1.ssu = p.ssu ∧ (serveRead p q r).1.pwu = p.pwu ∧
    (serveRead p q r).1.pln = p.pln ∧ (serveRead p q r).1.pins = p.pins := by
  simp only [serveRead]
  (repeat' split) <;> simp

@[simp] theorem serveFloor_frame (p : Part) (r : Request) :
    (serveFloor p r).1.sfe = p.sfe ∧ (serveFloor p r).1.scu = p.scu ∧ (serveFloor p r).1.pwu = p.pwu ∧
    (serveFloor p r).1.pln = p.pln ∧ (serveFloor p r).1.pins = p.pins := by
  simp only [serveFloor, onSeat]
  (repeat' split) <;> simp [plain]

@[simp] theorem serveRoom_frame (p : Part) (r : Request) :
    (serveRoom p r).1.pins = p.pins := by
  simp only [serveRoom]
  (repeat' split) <;> simp [plain]

@[simp] theorem serveAv_frame (p : Part) (r : Request) :
    (serveAv p r).1.smn = p.smn ∧ (serveAv p r).1.flc = p.flc ∧ (serveAv p r).1.sch = p.sch ∧
    (serveAv p r).1.ssu = p.ssu ∧ (serveAv p r).1.pln = p.pln ∧ (serveAv p r).1.pins = p.pins := by
  simp only [serveAv]
  (repeat' split) <;> simp

@[simp] theorem serveOwner_frame (p : Part) (q : Port) (r : Request) :
    (serveOwner p q r).1.pins = p.pins := by
  simp only [serveOwner]
  (repeat' split) <;> simp

@[simp] theorem sendRoom_frame (p : Part) (r : Response) :
    (sendRoom p r).sfe = p.sfe ∧ (sendRoom p r).smn = p.smn ∧ (sendRoom p r).flc = p.flc ∧
    (sendRoom p r).sgu = p.sgu ∧ (sendRoom p r).scu = p.scu ∧ (sendRoom p r).rtu = p.rtu ∧
    (sendRoom p r).sch = p.sch ∧ (sendRoom p r).ssu = p.ssu ∧ (sendRoom p r).pwu = p.pwu ∧
    (sendRoom p r).pln = p.pln ∧ (sendRoom p r).pins = p.pins := by
  simp [sendRoom]

@[simp] theorem deliver_frame (p : Part) (q : Port) (r : Response) :
    (deliver p q r).sfe = p.sfe ∧ (deliver p q r).smn = p.smn ∧ (deliver p q r).flc = p.flc ∧
    (deliver p q r).sgu = p.sgu ∧ (deliver p q r).scu = p.scu ∧ (deliver p q r).rtu = p.rtu ∧
    (deliver p q r).sch = p.sch ∧ (deliver p q r).ssu = p.ssu ∧ (deliver p q r).pwu = p.pwu ∧
    (deliver p q r).pln = p.pln ∧ (deliver p q r).pins = p.pins := by
  simp only [deliver]
  (repeat' split) <;> simp

@[simp] theorem deliverServed_frame (p : Part) (q : Port) (r : Response) :
    (deliverServed p q r).sfe = p.sfe ∧ (deliverServed p q r).smn = p.smn ∧ (deliverServed p q r).flc = p.flc ∧
    (deliverServed p q r).sgu = p.sgu ∧ (deliverServed p q r).scu = p.scu ∧ (deliverServed p q r).rtu = p.rtu ∧
    (deliverServed p q r).sch = p.sch ∧ (deliverServed p q r).ssu = p.ssu ∧ (deliverServed p q r).pwu = p.pwu ∧
    (deliverServed p q r).pln = p.pln ∧ (deliverServed p q r).pins = p.pins := by
  simp only [deliverServed]
  (repeat' split) <;> simp

@[simp] theorem enterService_frame (p : Part) (q : Port) (r : Request) :
    (enterService p q r).sfe = p.sfe ∧ (enterService p q r).smn = p.smn ∧ (enterService p q r).flc = p.flc ∧
    (enterService p q r).sgu = p.sgu ∧ (enterService p q r).scu = p.scu ∧ (enterService p q r).rtu = p.rtu ∧
    (enterService p q r).sch = p.sch ∧ (enterService p q r).ssu = p.ssu ∧ (enterService p q r).pwu = p.pwu ∧
    (enterService p q r).pln = p.pln ∧ (enterService p q r).pins = p.pins := by
  simp only [enterService]
  (repeat' split) <;> simp

@[simp] theorem enterWaiting_frame (p : Part) (q : Port) :
    (enterWaiting p q).sfe = p.sfe ∧ (enterWaiting p q).smn = p.smn ∧ (enterWaiting p q).flc = p.flc ∧
    (enterWaiting p q).sgu = p.sgu ∧ (enterWaiting p q).scu = p.scu ∧ (enterWaiting p q).rtu = p.rtu ∧
    (enterWaiting p q).sch = p.sch ∧ (enterWaiting p q).ssu = p.ssu ∧ (enterWaiting p q).pwu = p.pwu ∧
    (enterWaiting p q).pln = p.pln ∧ (enterWaiting p q).pins = p.pins := by
  simp only [enterWaiting]
  (repeat' split) <;> simp

@[simp] theorem answer_frame (p : Part) (q : Port) (r : Request) (x : Reply) :
    (answer p q r x).sfe = p.sfe ∧ (answer p q r x).smn = p.smn ∧ (answer p q r x).flc = p.flc ∧
    (answer p q r x).sgu = p.sgu ∧ (answer p q r x).scu = p.scu ∧ (answer p q r x).rtu = p.rtu ∧
    (answer p q r x).sch = p.sch ∧ (answer p q r x).ssu = p.ssu ∧ (answer p q r x).pwu = p.pwu ∧
    (answer p q r x).pln = p.pln ∧ (answer p q r x).pins = p.pins := by
  simp [answer]

@[simp] theorem serveCurrent_frame (p : Part) (q : Port) :
    (serveCurrent p q).pins = p.pins := by
  simp only [serveCurrent]
  (repeat' split) <;> simp

@[simp] theorem portReset_frame (p : Part) (q : Port) (tag : Byte) :
    (portReset p q tag).sfe = p.sfe ∧ (portReset p q tag).smn = p.smn ∧ (portReset p q tag).flc = p.flc ∧
    (portReset p q tag).sgu = p.sgu ∧ (portReset p q tag).scu = p.scu ∧ (portReset p q tag).rtu = p.rtu ∧
    (portReset p q tag).sch = p.sch ∧ (portReset p q tag).ssu = p.ssu ∧ (portReset p q tag).pwu = p.pwu ∧
    (portReset p q tag).pln = p.pln ∧ (portReset p q tag).pins = p.pins := by
  simp only [portReset]
  (repeat' split) <;> simp

@[simp] theorem discardPending_frame (p : Part) (q : Port) :
    (discardPending p q).sfe = p.sfe ∧ (discardPending p q).smn = p.smn ∧ (discardPending p q).flc = p.flc ∧
    (discardPending p q).sgu = p.sgu ∧ (discardPending p q).scu = p.scu ∧ (discardPending p q).rtu = p.rtu ∧
    (discardPending p q).sch = p.sch ∧ (discardPending p q).ssu = p.ssu ∧ (discardPending p q).pwu = p.pwu ∧
    (discardPending p q).pln = p.pln ∧ (discardPending p q).pins = p.pins := by
  simp [discardPending]

@[simp] theorem placeRequest_frame (p : Part) (q : Port) (r : Request) :
    (placeRequest p q r).sfe = p.sfe ∧ (placeRequest p q r).smn = p.smn ∧ (placeRequest p q r).flc = p.flc ∧
    (placeRequest p q r).sgu = p.sgu ∧ (placeRequest p q r).scu = p.scu ∧ (placeRequest p q r).rtu = p.rtu ∧
    (placeRequest p q r).sch = p.sch ∧ (placeRequest p q r).ssu = p.ssu ∧ (placeRequest p q r).pwu = p.pwu ∧
    (placeRequest p q r).pln = p.pln ∧ (placeRequest p q r).pins = p.pins := by
  simp only [placeRequest]
  (repeat' split) <;> simp

@[simp] theorem refuseReset_frame (p : Part) (q : Port) (x : Response) :
    (refuseReset p q x).sfe = p.sfe ∧ (refuseReset p q x).smn = p.smn ∧ (refuseReset p q x).flc = p.flc ∧
    (refuseReset p q x).sgu = p.sgu ∧ (refuseReset p q x).scu = p.scu ∧ (refuseReset p q x).rtu = p.rtu ∧
    (refuseReset p q x).sch = p.sch ∧ (refuseReset p q x).ssu = p.ssu ∧ (refuseReset p q x).pwu = p.pwu ∧
    (refuseReset p q x).pln = p.pln ∧ (refuseReset p q x).pins = p.pins := by
  simp only [refuseReset]
  (repeat' split) <;> simp

@[simp] theorem takeReset_frame (p : Part) (q : Port) (r : Request) :
    (takeReset p q r).sfe = p.sfe ∧ (takeReset p q r).smn = p.smn ∧ (takeReset p q r).flc = p.flc ∧
    (takeReset p q r).sgu = p.sgu ∧ (takeReset p q r).scu = p.scu ∧ (takeReset p q r).rtu = p.rtu ∧
    (takeReset p q r).sch = p.sch ∧ (takeReset p q r).ssu = p.ssu ∧ (takeReset p q r).pwu = p.pwu ∧
    (takeReset p q r).pln = p.pln ∧ (takeReset p q r).pins = p.pins := by
  simp only [takeReset]
  (repeat' split) <;> simp

@[simp] theorem takeRequest_frame (p : Part) (q : Port) (r : Request) :
    (takeRequest p q r).pins = p.pins := by
  simp only [takeRequest]
  (repeat' split) <;> simp

@[simp] theorem clearSent_frame (p : Part) (q : Port) :
    (clearSent p q).sfe = p.sfe ∧ (clearSent p q).smn = p.smn ∧ (clearSent p q).flc = p.flc ∧
    (clearSent p q).sgu = p.sgu ∧ (clearSent p q).scu = p.scu ∧ (clearSent p q).rtu = p.rtu ∧
    (clearSent p q).sch = p.sch ∧ (clearSent p q).ssu = p.ssu ∧ (clearSent p q).pwu = p.pwu ∧
    (clearSent p q).pln = p.pln ∧ (clearSent p q).pins = p.pins := by
  simp [clearSent]

@[simp] theorem requestRow_frame (p : Part) (q : Port) (r : Request) :
    (requestRow p q r).pins = p.pins := by
  simp only [requestRow]
  (repeat' split) <;> simp

@[simp] theorem shiftOut_frame (p : Part) (q : SerialPort) (n : Nat) :
    (shiftOut p q n).sfe = p.sfe ∧ (shiftOut p q n).smn = p.smn ∧ (shiftOut p q n).flc = p.flc ∧
    (shiftOut p q n).sgu = p.sgu ∧ (shiftOut p q n).scu = p.scu ∧ (shiftOut p q n).rtu = p.rtu ∧
    (shiftOut p q n).sch = p.sch ∧ (shiftOut p q n).ssu = p.ssu ∧ (shiftOut p q n).pwu = p.pwu ∧
    (shiftOut p q n).pln = p.pln ∧ (shiftOut p q n).pins = p.pins := by
  simp only [shiftOut]
  (repeat' split) <;> simp

@[simp] theorem transfer_frame (p : Part) (q : SerialPort) (l : List Byte) :
    (transfer p q l).pins = p.pins := by
  simp only [transfer]
  (repeat' split) <;> simp

@[simp] theorem readResponse_frame (p : Part) (q : SerialPort) (n : Nat) :
    (readResponse p q n).sfe = p.sfe ∧ (readResponse p q n).smn = p.smn ∧ (readResponse p q n).flc = p.flc ∧
    (readResponse p q n).sgu = p.sgu ∧ (readResponse p q n).scu = p.scu ∧ (readResponse p q n).rtu = p.rtu ∧
    (readResponse p q n).sch = p.sch ∧ (readResponse p q n).ssu = p.ssu ∧ (readResponse p q n).pwu = p.pwu ∧
    (readResponse p q n).pln = p.pln ∧ (readResponse p q n).pins = p.pins := by
  simp only [readResponse]
  (repeat' split) <;> simp

@[simp] theorem setReceiver_frame (p : Part) (x : Receiver) :
    (setReceiver p x).sfe = p.sfe ∧ (setReceiver p x).smn = p.smn ∧ (setReceiver p x).flc = p.flc ∧
    (setReceiver p x).sgu = p.sgu ∧ (setReceiver p x).scu = p.scu ∧ (setReceiver p x).rtu = p.rtu ∧
    (setReceiver p x).sch = p.sch ∧ (setReceiver p x).ssu = p.ssu ∧ (setReceiver p x).pwu = p.pwu ∧
    (setReceiver p x).pln = p.pln ∧ (setReceiver p x).pins = p.pins := by
  simp [setReceiver]

@[simp] theorem roomByte_frame (p : Part) (b : Byte) :
    (roomByte p b).pins = p.pins := by
  simp only [roomByte]
  (repeat' split) <;> simp

@[simp] theorem roomBytes_frame (p : Part) (l : List Byte) :
    (roomBytes p l).pins = p.pins := by
  simp [roomBytes]

@[simp] theorem dropFrame_frame (p : Part) :
    (dropFrame p).sfe = p.sfe ∧ (dropFrame p).smn = p.smn ∧ (dropFrame p).flc = p.flc ∧ (dropFrame p).sgu = p.sgu ∧
    (dropFrame p).scu = p.scu ∧ (dropFrame p).rtu = p.rtu ∧ (dropFrame p).sch = p.sch ∧ (dropFrame p).ssu = p.ssu ∧
    (dropFrame p).pwu = p.pwu ∧ (dropFrame p).pln = p.pln ∧ (dropFrame p).pins = p.pins := by
  simp [dropFrame]

@[simp] theorem conclude_frame (before after : Part) :
    (conclude before after).sfe = after.sfe ∧ (conclude before after).scu = after.scu ∧
    (conclude before after).pwu = after.pwu ∧ (conclude before after).pln = after.pln := by
  simp [conclude]

@[simp] theorem freePhase_frame (p : Part) (k : SlotId) :
    (freePhase p k).sfe = p.sfe ∧ (freePhase p k).scu = p.scu ∧ (freePhase p k).pwu = p.pwu ∧
    (freePhase p k).pln = p.pln ∧ (freePhase p k).pins = p.pins := by
  simp only [freePhase]
  (repeat' split) <;> simp

@[simp] theorem gainFrame_frame (p : Part) (first : List SlotId) (settlesLast : Bool) :
    (gainFrame p first settlesLast).sfe = p.sfe ∧ (gainFrame p first settlesLast).scu = p.scu ∧
    (gainFrame p first settlesLast).pwu = p.pwu ∧ (gainFrame p first settlesLast).pln = p.pln ∧
    (gainFrame p first settlesLast).pins = p.pins := by
  simp only [gainFrame]
  (repeat' split) <;> simp

@[simp] theorem settleComplete_frame (p : Part) :
    (settleComplete p).sfe = p.sfe ∧ (settleComplete p).scu = p.scu ∧ (settleComplete p).pln = p.pln ∧
    (settleComplete p).pins = p.pins := by
  simp only [settleComplete]
  (repeat' split) <;> simp

@[simp] theorem requestTransfer_frame (p : Part) (q : SerialPort) (bytes : List Byte) :
    (requestTransfer p q bytes).pins = p.pins := by
  simp only [requestTransfer]
  (repeat' split) <;> simp

end Sys2Proof.Machine.Part
end

