-- ==== Sys2Proof/Laws/KeepsFloor.lean ====
section
/-! SUPPORT. The frames of the operations over the screens, the slots, the banks and the floor, piece by piece: what each one leaves as it is in the blocks that it changes, and in the port records. -/

namespace Sys2Proof.Machine.Part

@[simp] theorem foldl_sfe_channels {f : Part → α → Part} (h : ∀ q a, (f q a).sfe.channels = q.sfe.channels) (l : List α) (p : Part) :
    (l.foldl f p).sfe.channels = p.sfe.channels := foldl_keeps (·.sfe.channels) h l p
@[simp] theorem foldl_sfe_key {f : Part → α → Part} (h : ∀ q a, (f q a).sfe.key = q.sfe.key) (l : List α) (p : Part) :
    (l.foldl f p).sfe.key = p.sfe.key := foldl_keeps (·.sfe.key) h l p
@[simp] theorem foldl_sfe_proximity {f : Part → α → Part} (h : ∀ q a, (f q a).sfe.proximity = q.sfe.proximity) (l : List α) (p : Part) :
    (l.foldl f p).sfe.proximity = p.sfe.proximity := foldl_keeps (·.sfe.proximity) h l p
@[simp] theorem foldl_sfe_reference {f : Part → α → Part} (h : ∀ q a, (f q a).sfe.reference = q.sfe.reference) (l : List α) (p : Part) :
    (l.foldl f p).sfe.reference = p.sfe.reference := foldl_keeps (·.sfe.reference) h l p
@[simp] theorem foldl_sfe_frame {f : Part → α → Part} (h : ∀ q a, (f q a).sfe.frame = q.sfe.frame) (l : List α) (p : Part) :
    (l.foldl f p).sfe.frame = p.sfe.frame := foldl_keeps (·.sfe.frame) h l p
@[simp] theorem foldl_smn_seats {f : Part → α → Part} (h : ∀ q a, (f q a).smn.seats = q.smn.seats) (l : List α) (p : Part) :
    (l.foldl f p).smn.seats = p.smn.seats := foldl_keeps (·.smn.seats) h l p
@[simp] theorem foldl_smn_occupied {f : Part → α → Part} (h : ∀ q a, (f q a).smn.occupied = q.smn.occupied) (l : List α) (p : Part) :
    (l.foldl f p).smn.occupied = p.smn.occupied := foldl_keeps (·.smn.occupied) h l p
@[simp] theorem foldl_smn_grace {f : Part → α → Part} (h : ∀ q a, (f q a).smn.grace = q.smn.grace) (l : List α) (p : Part) :
    (l.foldl f p).smn.grace = p.smn.grace := foldl_keeps (·.smn.grace) h l p
@[simp] theorem foldl_flc_mode {f : Part → α → Part} (h : ∀ q a, (f q a).flc.mode = q.flc.mode) (l : List α) (p : Part) :
    (l.foldl f p).flc.mode = p.flc.mode := foldl_keeps (·.flc.mode) h l p
@[simp] theorem foldl_flc_limit {f : Part → α → Part} (h : ∀ q a, (f q a).flc.limit = q.flc.limit) (l : List α) (p : Part) :
    (l.foldl f p).flc.limit = p.flc.limit := foldl_keeps (·.flc.limit) h l p
@[simp] theorem foldl_flc_speak {f : Part → α → Part} (h : ∀ q a, (f q a).flc.speak = q.flc.speak) (l : List α) (p : Part) :
    (l.foldl f p).flc.speak = p.flc.speak := foldl_keeps (·.flc.speak) h l p
@[simp] theorem foldl_flc_enforce {f : Part → α → Part} (h : ∀ q a, (f q a).flc.enforce = q.flc.enforce) (l : List α) (p : Part) :
    (l.foldl f p).flc.enforce = p.flc.enforce := foldl_keeps (·.flc.enforce) h l p
@[simp] theorem foldl_flc_lead {f : Part → α → Part} (h : ∀ q a, (f q a).flc.lead = q.flc.lead) (l : List α) (p : Part) :
    (l.foldl f p).flc.lead = p.flc.lead := foldl_keeps (·.flc.lead) h l p
@[simp] theorem foldl_flc_isOpen {f : Part → α → Part} (h : ∀ q a, (f q a).flc.isOpen = q.flc.isOpen) (l : List α) (p : Part) :
    (l.foldl f p).flc.isOpen = p.flc.isOpen := foldl_keeps (·.flc.isOpen) h l p
@[simp] theorem foldl_flc_queue {f : Part → α → Part} (h : ∀ q a, (f q a).flc.queue = q.flc.queue) (l : List α) (p : Part) :
    (l.foldl f p).flc.queue = p.flc.queue := foldl_keeps (·.flc.queue) h l p
@[simp] theorem foldl_flc_nextNumber {f : Part → α → Part} (h : ∀ q a, (f q a).flc.nextNumber = q.flc.nextNumber) (l : List α) (p : Part) :
    (l.foldl f p).flc.nextNumber = p.flc.nextNumber := foldl_keeps (·.flc.nextNumber) h l p
@[simp] theorem foldl_flc_seconds {f : Part → α → Part} (h : ∀ q a, (f q a).flc.seconds = q.flc.seconds) (l : List α) (p : Part) :
    (l.foldl f p).flc.seconds = p.flc.seconds := foldl_keeps (·.flc.seconds) h l p
@[simp] theorem foldl_flc_openOrder {f : Part → α → Part} (h : ∀ q a, (f q a).flc.openOrder = q.flc.openOrder) (l : List α) (p : Part) :
    (l.foldl f p).flc.openOrder = p.flc.openOrder := foldl_keeps (·.flc.openOrder) h l p
@[simp] theorem foldl_flc_preset {f : Part → α → Part} (h : ∀ q a, (f q a).flc.preset = q.flc.preset) (l : List α) (p : Part) :
    (l.foldl f p).flc.preset = p.flc.preset := foldl_keeps (·.flc.preset) h l p
@[simp] theorem foldl_sgu_slots {f : Part → α → Part} (h : ∀ q a, (f q a).sgu.slots = q.sgu.slots) (l : List α) (p : Part) :
    (l.foldl f p).sgu.slots = p.sgu.slots := foldl_keeps (·.sgu.slots) h l p
@[simp] theorem foldl_sgu_gain {f : Part → α → Part} (h : ∀ q a, (f q a).sgu.gain = q.sgu.gain) (l : List α) (p : Part) :
    (l.foldl f p).sgu.gain = p.sgu.gain := foldl_keeps (·.sgu.gain) h l p
@[simp] theorem foldl_sgu_patterns {f : Part → α → Part} (h : ∀ q a, (f q a).sgu.patterns = q.sgu.patterns) (l : List α) (p : Part) :
    (l.foldl f p).sgu.patterns = p.sgu.patterns := foldl_keeps (·.sgu.patterns) h l p
@[simp] theorem foldl_sgu_polarity {f : Part → α → Part} (h : ∀ q a, (f q a).sgu.polarity = q.sgu.polarity) (l : List α) (p : Part) :
    (l.foldl f p).sgu.polarity = p.sgu.polarity := foldl_keeps (·.sgu.polarity) h l p
@[simp] theorem foldl_sgu_refused {f : Part → α → Part} (h : ∀ q a, (f q a).sgu.refused = q.sgu.refused) (l : List α) (p : Part) :
    (l.foldl f p).sgu.refused = p.sgu.refused := foldl_keeps (·.sgu.refused) h l p
@[simp] theorem foldl_sgu_blink {f : Part → α → Part} (h : ∀ q a, (f q a).sgu.blink = q.sgu.blink) (l : List α) (p : Part) :
    (l.foldl f p).sgu.blink = p.sgu.blink := foldl_keeps (·.sgu.blink) h l p
@[simp] theorem foldl_sgu_released {f : Part → α → Part} (h : ∀ q a, (f q a).sgu.released = q.sgu.released) (l : List α) (p : Part) :
    (l.foldl f p).sgu.released = p.sgu.released := foldl_keeps (·.sgu.released) h l p
@[simp] theorem foldl_sgu_indication {f : Part → α → Part} (h : ∀ q a, (f q a).sgu.indication = q.sgu.indication) (l : List α) (p : Part) :
    (l.foldl f p).sgu.indication = p.sgu.indication := foldl_keeps (·.sgu.indication) h l p
@[simp] theorem foldl_sgu_bus {f : Part → α → Part} (h : ∀ q a, (f q a).sgu.bus = q.sgu.bus) (l : List α) (p : Part) :
    (l.foldl f p).sgu.bus = p.sgu.bus := foldl_keeps (·.sgu.bus) h l p
@[simp] theorem foldl_scu_sockets {f : Part → α → Part} (h : ∀ q a, (f q a).scu.sockets = q.scu.sockets) (l : List α) (p : Part) :
    (l.foldl f p).scu.sockets = p.scu.sockets := foldl_keeps (·.scu.sockets) h l p
@[simp] theorem foldl_scu_rates {f : Part → α → Part} (h : ∀ q a, (f q a).scu.rates = q.scu.rates) (l : List α) (p : Part) :
    (l.foldl f p).scu.rates = p.scu.rates := foldl_keeps (·.scu.rates) h l p
@[simp] theorem foldl_scu_agree {f : Part → α → Part} (h : ∀ q a, (f q a).scu.agree = q.scu.agree) (l : List α) (p : Part) :
    (l.foldl f p).scu.agree = p.scu.agree := foldl_keeps (·.scu.agree) h l p
@[simp] theorem foldl_scu_drop {f : Part → α → Part} (h : ∀ q a, (f q a).scu.drop = q.scu.drop) (l : List α) (p : Part) :
    (l.foldl f p).scu.drop = p.scu.drop := foldl_keeps (·.scu.drop) h l p
@[simp] theorem foldl_scu_pc {f : Part → α → Part} (h : ∀ q a, (f q a).scu.pc = q.scu.pc) (l : List α) (p : Part) :
    (l.foldl f p).scu.pc = p.scu.pc := foldl_keeps (·.scu.pc) h l p
@[simp] theorem foldl_scu_codec {f : Part → α → Part} (h : ∀ q a, (f q a).scu.codec = q.scu.codec) (l : List α) (p : Part) :
    (l.foldl f p).scu.codec = p.scu.codec := foldl_keeps (·.scu.codec) h l p
@[simp] theorem foldl_rtu_screens {f : Part → α → Part} (h : ∀ q a, (f q a).rtu.screens = q.rtu.screens) (l : List α) (p : Part) :
    (l.foldl f p).rtu.screens = p.rtu.screens := foldl_keeps (·.rtu.screens) h l p
@[simp] theorem foldl_rtu_presets {f : Part → α → Part} (h : ∀ q a, (f q a).rtu.presets = q.rtu.presets) (l : List α) (p : Part) :
    (l.foldl f p).rtu.presets = p.rtu.presets := foldl_keeps (·.rtu.presets) h l p
@[simp] theorem foldl_rtu_speakers {f : Part → α → Part} (h : ∀ q a, (f q a).rtu.speakers = q.rtu.speakers) (l : List α) (p : Part) :
    (l.foldl f p).rtu.speakers = p.rtu.speakers := foldl_keeps (·.rtu.speakers) h l p
@[simp] theorem foldl_rtu_routable {f : Part → α → Part} (h : ∀ q a, (f q a).rtu.routable = q.rtu.routable) (l : List α) (p : Part) :
    (l.foldl f p).rtu.routable = p.rtu.routable := foldl_keeps (·.rtu.routable) h l p
@[simp] theorem foldl_rtu_override {f : Part → α → Part} (h : ∀ q a, (f q a).rtu.override = q.rtu.override) (l : List α) (p : Part) :
    (l.foldl f p).rtu.override = p.rtu.override := foldl_keeps (·.rtu.override) h l p
@[simp] theorem foldl_sch_clock {f : Part → α → Part} (h : ∀ q a, (f q a).sch.clock = q.sch.clock) (l : List α) (p : Part) :
    (l.foldl f p).sch.clock = p.sch.clock := foldl_keeps (·.sch.clock) h l p
@[simp] theorem foldl_sch_bankA {f : Part → α → Part} (h : ∀ q a, (f q a).sch.bankA = q.sch.bankA) (l : List α) (p : Part) :
    (l.foldl f p).sch.bankA = p.sch.bankA := foldl_keeps (·.sch.bankA) h l p
@[simp] theorem foldl_sch_bankB {f : Part → α → Part} (h : ∀ q a, (f q a).sch.bankB = q.sch.bankB) (l : List α) (p : Part) :
    (l.foldl f p).sch.bankB = p.sch.bankB := foldl_keeps (·.sch.bankB) h l p
@[simp] theorem foldl_ssu_session {f : Part → α → Part} (h : ∀ q a, (f q a).ssu.session = q.ssu.session) (l : List α) (p : Part) :
    (l.foldl f p).ssu.session = p.ssu.session := foldl_keeps (·.ssu.session) h l p
@[simp] theorem foldl_ssu_pendingStart {f : Part → α → Part} (h : ∀ q a, (f q a).ssu.pendingStart = q.ssu.pendingStart) (l : List α) (p : Part) :
    (l.foldl f p).ssu.pendingStart = p.ssu.pendingStart := foldl_keeps (·.ssu.pendingStart) h l p
@[simp] theorem foldl_ssu_dwell {f : Part → α → Part} (h : ∀ q a, (f q a).ssu.dwell = q.ssu.dwell) (l : List α) (p : Part) :
    (l.foldl f p).ssu.dwell = p.ssu.dwell := foldl_keeps (·.ssu.dwell) h l p
@[simp] theorem foldl_ssu_store {f : Part → α → Part} (h : ∀ q a, (f q a).ssu.store = q.ssu.store) (l : List α) (p : Part) :
    (l.foldl f p).ssu.store = p.ssu.store := foldl_keeps (·.ssu.store) h l p
@[simp] theorem foldl_ssu_lost {f : Part → α → Part} (h : ∀ q a, (f q a).ssu.lost = q.ssu.lost) (l : List α) (p : Part) :
    (l.foldl f p).ssu.lost = p.ssu.lost := foldl_keeps (·.ssu.lost) h l p
@[simp] theorem foldl_ssu_nextSummary {f : Part → α → Part} (h : ∀ q a, (f q a).ssu.nextSummary = q.ssu.nextSummary) (l : List α) (p : Part) :
    (l.foldl f p).ssu.nextSummary = p.ssu.nextSummary := foldl_keeps (·.ssu.nextSummary) h l p
@[simp] theorem foldl_ssu_params {f : Part → α → Part} (h : ∀ q a, (f q a).ssu.params = q.ssu.params) (l : List α) (p : Part) :
    (l.foldl f p).ssu.params = p.ssu.params := foldl_keeps (·.ssu.params) h l p
@[simp] theorem foldl_prt_ports {f : Part → α → Part} (h : ∀ q a, (f q a).prt.ports = q.prt.ports) (l : List α) (p : Part) :
    (l.foldl f p).prt.ports = p.prt.ports := foldl_keeps (·.prt.ports) h l p
@[simp] theorem foldl_prt_rx {f : Part → α → Part} (h : ∀ q a, (f q a).prt.rx = q.prt.rx) (l : List α) (p : Part) :
    (l.foldl f p).prt.rx = p.prt.rx := foldl_keeps (·.prt.rx) h l p
@[simp] theorem foldl_prt_roomId {f : Part → α → Part} (h : ∀ q a, (f q a).prt.roomId = q.prt.roomId) (l : List α) (p : Part) :
    (l.foldl f p).prt.roomId = p.prt.roomId := foldl_keeps (·.prt.roomId) h l p
@[simp] theorem foldl_prt_tableName {f : Part → α → Part} (h : ∀ q a, (f q a).prt.tableName = q.prt.tableName) (l : List α) (p : Part) :
    (l.foldl f p).prt.tableName = p.prt.tableName := foldl_keeps (·.prt.tableName) h l p
@[simp] theorem foldl_pwu_power {f : Part → α → Part} (h : ∀ q a, (f q a).pwu.power = q.pwu.power) (l : List α) (p : Part) :
    (l.foldl f p).pwu.power = p.pwu.power := foldl_keeps (·.pwu.power) h l p
@[simp] theorem foldl_pwu_quiet {f : Part → α → Part} (h : ∀ q a, (f q a).pwu.quiet = q.pwu.quiet) (l : List α) (p : Part) :
    (l.foldl f p).pwu.quiet = p.pwu.quiet := foldl_keeps (·.pwu.quiet) h l p
@[simp] theorem foldl_pwu_settle {f : Part → α → Part} (h : ∀ q a, (f q a).pwu.settle = q.pwu.settle) (l : List α) (p : Part) :
    (l.foldl f p).pwu.settle = p.pwu.settle := foldl_keeps (·.pwu.settle) h l p
@[simp] theorem foldl_pwu_lead {f : Part → α → Part} (h : ∀ q a, (f q a).pwu.lead = q.pwu.lead) (l : List α) (p : Part) :
    (l.foldl f p).pwu.lead = p.pwu.lead := foldl_keeps (·.pwu.lead) h l p
@[simp] theorem foldl_pwu_delay {f : Part → α → Part} (h : ∀ q a, (f q a).pwu.delay = q.pwu.delay) (l : List α) (p : Part) :
    (l.foldl f p).pwu.delay = p.pwu.delay := foldl_keeps (·.pwu.delay) h l p
@[simp] theorem foldl_pwu_mask {f : Part → α → Part} (h : ∀ q a, (f q a).pwu.mask = q.pwu.mask) (l : List α) (p : Part) :
    (l.foldl f p).pwu.mask = p.pwu.mask := foldl_keeps (·.pwu.mask) h l p
@[simp] theorem foldl_pwu_proximityWake {f : Part → α → Part} (h : ∀ q a, (f q a).pwu.proximityWake = q.pwu.proximityWake) (l : List α) (p : Part) :
    (l.foldl f p).pwu.proximityWake = p.pwu.proximityWake := foldl_keeps (·.pwu.proximityWake) h l p
@[simp] theorem foldl_pln_straps {f : Part → α → Part} (h : ∀ q a, (f q a).pln.straps = q.pln.straps) (l : List α) (p : Part) :
    (l.foldl f p).pln.straps = p.pln.straps := foldl_keeps (·.pln.straps) h l p
@[simp] theorem foldl_pln_stage {f : Part → α → Part} (h : ∀ q a, (f q a).pln.stage = q.pln.stage) (l : List α) (p : Part) :
    (l.foldl f p).pln.stage = p.pln.stage := foldl_keeps (·.pln.stage) h l p
@[simp] theorem foldl_pln_outcome {f : Part → α → Part} (h : ∀ q a, (f q a).pln.outcome = q.pln.outcome) (l : List α) (p : Part) :
    (l.foldl f p).pln.outcome = p.pln.outcome := foldl_keeps (·.pln.outcome) h l p
@[simp] theorem foldl_pln_corrected {f : Part → α → Part} (h : ∀ q a, (f q a).pln.corrected = q.pln.corrected) (l : List α) (p : Part) :
    (l.foldl f p).pln.corrected = p.pln.corrected := foldl_keeps (·.pln.corrected) h l p
@[simp] theorem foldl_pln_image {f : Part → α → Part} (h : ∀ q a, (f q a).pln.image = q.pln.image) (l : List α) (p : Part) :
    (l.foldl f p).pln.image = p.pln.image := foldl_keeps (·.pln.image) h l p
@[simp] theorem foldl_pln_saving {f : Part → α → Part} (h : ∀ q a, (f q a).pln.saving = q.pln.saving) (l : List α) (p : Part) :
    (l.foldl f p).pln.saving = p.pln.saving := foldl_keeps (·.pln.saving) h l p
@[simp] theorem foldl_pln_composed {f : Part → α → Part} (h : ∀ q a, (f q a).pln.composed = q.pln.composed) (l : List α) (p : Part) :
    (l.foldl f p).pln.composed = p.pln.composed := foldl_keeps (·.pln.composed) h l p
@[simp] theorem foldl_pln_result {f : Part → α → Part} (h : ∀ q a, (f q a).pln.result = q.pln.result) (l : List α) (p : Part) :
    (l.foldl f p).pln.result = p.pln.result := foldl_keeps (·.pln.result) h l p
@[simp] theorem foldl_line {f : Part → α → Part} (h : ∀ q a, (f q a).line = q.line) (l : List α) (p : Part) :
    (l.foldl f p).line = p.line := foldl_keeps (·.line) h l p
@[simp] theorem foldl_maskOf {f : Part → α → Part} (h : ∀ q a, (f q a).maskOf = q.maskOf) (l : List α) (p : Part) :
    (l.foldl f p).maskOf = p.maskOf := foldl_keeps (·.maskOf) h l p
@[simp] theorem foldl_notices {f : Part → α → Part} (h : ∀ q a, (f q a).notices = q.notices) (l : List α) (p : Part) :
    (l.foldl f p).notices = p.notices := foldl_keeps (·.notices) h l p

/-! ### Port views under the updates of a block -/

theorem line_eq {p t : Part} (h : t.prt.ports = p.prt.ports) : t.line = p.line := by
  funext q; simp [line, port, h]

theorem maskOf_eq {p t : Part} (h : t.prt.ports = p.prt.ports) : t.maskOf = p.maskOf := by
  funext q; simp [maskOf, port, h]

theorem notices_eq {p t : Part} (h : t.prt.ports = p.prt.ports) : t.notices = p.notices := by
  funext q; simp [notices, port, h]

@[simp] theorem withSfe_line (p : Part) (x : Sfe) : (p.withSfe x).line = p.line := rfl
@[simp] theorem withSfe_maskOf (p : Part) (x : Sfe) : (p.withSfe x).maskOf = p.maskOf := rfl
@[simp] theorem withSfe_notices (p : Part) (x : Sfe) : (p.withSfe x).notices = p.notices := rfl
@[simp] theorem withSmn_line (p : Part) (x : Smn) : (p.withSmn x).line = p.line := rfl
@[simp] theorem withSmn_maskOf (p : Part) (x : Smn) : (p.withSmn x).maskOf = p.maskOf := rfl
@[simp] theorem withSmn_notices (p : Part) (x : Smn) : (p.withSmn x).notices = p.notices := rfl
@[simp] theorem withFlc_line (p : Part) (x : Flc) : (p.withFlc x).line = p.line := rfl
@[simp] theorem withFlc_maskOf (p : Part) (x : Flc) : (p.withFlc x).maskOf = p.maskOf := rfl
@[simp] theorem withFlc_notices (p : Part) (x : Flc) : (p.withFlc x).notices = p.notices := rfl
@[simp] theorem withSgu_line (p : Part) (x : Sgu) : (p.withSgu x).line = p.line := rfl
@[simp] theorem withSgu_maskOf (p : Part) (x : Sgu) : (p.withSgu x).maskOf = p.maskOf := rfl
@[simp] theorem withSgu_notices (p : Part) (x : Sgu) : (p.withSgu x).notices = p.notices := rfl
@[simp] theorem withScu_line (p : Part) (x : Scu) : (p.withScu x).line = p.line := rfl
@[simp] theorem withScu_maskOf (p : Part) (x : Scu) : (p.withScu x).maskOf = p.maskOf := rfl
@[simp] theorem withScu_notices (p : Part) (x : Scu) : (p.withScu x).notices = p.notices := rfl
@[simp] theorem withRtu_line (p : Part) (x : Rtu) : (p.withRtu x).line = p.line := rfl
@[simp] theorem withRtu_maskOf (p : Part) (x : Rtu) : (p.withRtu x).maskOf = p.maskOf := rfl
@[simp] theorem withRtu_notices (p : Part) (x : Rtu) : (p.withRtu x).notices = p.notices := rfl
@[simp] theorem withSch_line (p : Part) (x : Sch) : (p.withSch x).line = p.line := rfl
@[simp] theorem withSch_maskOf (p : Part) (x : Sch) : (p.withSch x).maskOf = p.maskOf := rfl
@[simp] theorem withSch_notices (p : Part) (x : Sch) : (p.withSch x).notices = p.notices := rfl
@[simp] theorem withSsu_line (p : Part) (x : Ssu) : (p.withSsu x).line = p.line := rfl
@[simp] theorem withSsu_maskOf (p : Part) (x : Ssu) : (p.withSsu x).maskOf = p.maskOf := rfl
@[simp] theorem withSsu_notices (p : Part) (x : Ssu) : (p.withSsu x).notices = p.notices := rfl
@[simp] theorem withPwu_line (p : Part) (x : Pwu) : (p.withPwu x).line = p.line := rfl
@[simp] theorem withPwu_maskOf (p : Part) (x : Pwu) : (p.withPwu x).maskOf = p.maskOf := rfl
@[simp] theorem withPwu_notices (p : Part) (x : Pwu) : (p.withPwu x).notices = p.notices := rfl
@[simp] theorem withPln_line (p : Part) (x : Pln) : (p.withPln x).line = p.line := rfl
@[simp] theorem withPln_maskOf (p : Part) (x : Pln) : (p.withPln x).maskOf = p.maskOf := rfl
@[simp] theorem withPln_notices (p : Part) (x : Pln) : (p.withPln x).notices = p.notices := rfl
@[simp] theorem withPins_line (p : Part) (x : Pins) : (p.withPins x).line = p.line := rfl
@[simp] theorem withPins_maskOf (p : Part) (x : Pins) : (p.withPins x).maskOf = p.maskOf := rfl
@[simp] theorem withPins_notices (p : Part) (x : Pins) : (p.withPins x).notices = p.notices := rfl
@[simp] theorem setChannel_key (p : Part) (i : ChannelId) (x : Channel) : (p.setChannel i x).sfe.key = p.sfe.key := rfl
@[simp] theorem setChannel_proximity (p : Part) (i : ChannelId) (x : Channel) : (p.setChannel i x).sfe.proximity = p.sfe.proximity := rfl
@[simp] theorem setChannel_reference (p : Part) (i : ChannelId) (x : Channel) : (p.setChannel i x).sfe.reference = p.sfe.reference := rfl
@[simp] theorem setChannel_frame (p : Part) (i : ChannelId) (x : Channel) : (p.setChannel i x).sfe.frame = p.sfe.frame := rfl
@[simp] theorem setChannel_line (p : Part) (i : ChannelId) (x : Channel) : (p.setChannel i x).line = p.line := rfl
@[simp] theorem setChannel_maskOf (p : Part) (i : ChannelId) (x : Channel) : (p.setChannel i x).maskOf = p.maskOf := rfl
@[simp] theorem setChannel_notices (p : Part) (i : ChannelId) (x : Channel) : (p.setChannel i x).notices = p.notices := rfl
@[simp] theorem setSeat_occupied (p : Part) (i : SeatId) (x : Seat) : (p.setSeat i x).smn.occupied = p.smn.occupied := rfl
@[simp] theorem setSeat_grace (p : Part) (i : SeatId) (x : Seat) : (p.setSeat i x).smn.grace = p.smn.grace := rfl
@[simp] theorem setSeat_line (p : Part) (i : SeatId) (x : Seat) : (p.setSeat i x).line = p.line := rfl
@[simp] theorem setSeat_maskOf (p : Part) (i : SeatId) (x : Seat) : (p.setSeat i x).maskOf = p.maskOf := rfl
@[simp] theorem setSeat_notices (p : Part) (i : SeatId) (x : Seat) : (p.setSeat i x).notices = p.notices := rfl
@[simp] theorem setSlot_gain (p : Part) (i : SlotId) (x : Slot) : (p.setSlot i x).sgu.gain = p.sgu.gain := rfl
@[simp] theorem setSlot_patterns (p : Part) (i : SlotId) (x : Slot) : (p.setSlot i x).sgu.patterns = p.sgu.patterns := rfl
@[simp] theorem setSlot_polarity (p : Part) (i : SlotId) (x : Slot) : (p.setSlot i x).sgu.polarity = p.sgu.polarity := rfl
@[simp] theorem setSlot_refused (p : Part) (i : SlotId) (x : Slot) : (p.setSlot i x).sgu.refused = p.sgu.refused := rfl
@[simp] theorem setSlot_blink (p : Part) (i : SlotId) (x : Slot) : (p.setSlot i x).sgu.blink = p.sgu.blink := rfl
@[simp] theorem setSlot_released (p : Part) (i : SlotId) (x : Slot) : (p.setSlot i x).sgu.released = p.sgu.released := rfl
@[simp] theorem setSlot_indication (p : Part) (i : SlotId) (x : Slot) : (p.setSlot i x).sgu.indication = p.sgu.indication := rfl
@[simp] theorem setSlot_bus (p : Part) (i : SlotId) (x : Slot) : (p.setSlot i x).sgu.bus = p.sgu.bus := rfl
@[simp] theorem setSlot_line (p : Part) (i : SlotId) (x : Slot) : (p.setSlot i x).line = p.line := rfl
@[simp] theorem setSlot_maskOf (p : Part) (i : SlotId) (x : Slot) : (p.setSlot i x).maskOf = p.maskOf := rfl
@[simp] theorem setSlot_notices (p : Part) (i : SlotId) (x : Slot) : (p.setSlot i x).notices = p.notices := rfl
@[simp] theorem setSocket_rates (p : Part) (i : SocketId) (x : Socket) : (p.setSocket i x).scu.rates = p.scu.rates := rfl
@[simp] theorem setSocket_agree (p : Part) (i : SocketId) (x : Socket) : (p.setSocket i x).scu.agree = p.scu.agree := rfl
@[simp] theorem setSocket_drop (p : Part) (i : SocketId) (x : Socket) : (p.setSocket i x).scu.drop = p.scu.drop := rfl
@[simp] theorem setSocket_pc (p : Part) (i : SocketId) (x : Socket) : (p.setSocket i x).scu.pc = p.scu.pc := rfl
@[simp] theorem setSocket_codec (p : Part) (i : SocketId) (x : Socket) : (p.setSocket i x).scu.codec = p.scu.codec := rfl
@[simp] theorem setSocket_line (p : Part) (i : SocketId) (x : Socket) : (p.setSocket i x).line = p.line := rfl
@[simp] theorem setSocket_maskOf (p : Part) (i : SocketId) (x : Socket) : (p.setSocket i x).maskOf = p.maskOf := rfl
@[simp] theorem setSocket_notices (p : Part) (i : SocketId) (x : Socket) : (p.setSocket i x).notices = p.notices := rfl
@[simp] theorem setScreen_presets (p : Part) (i : ScreenId) (x : Screen) : (p.setScreen i x).rtu.presets = p.rtu.presets := rfl
@[simp] theorem setScreen_speakers (p : Part) (i : ScreenId) (x : Screen) : (p.setScreen i x).rtu.speakers = p.rtu.speakers := rfl
@[simp] theorem setScreen_routable (p : Part) (i : ScreenId) (x : Screen) : (p.setScreen i x).rtu.routable = p.rtu.routable := rfl
@[simp] theorem setScreen_override (p : Part) (i : ScreenId) (x : Screen) : (p.setScreen i x).rtu.override = p.rtu.override := rfl
@[simp] theorem setScreen_line (p : Part) (i : ScreenId) (x : Screen) : (p.setScreen i x).line = p.line := rfl
@[simp] theorem setScreen_maskOf (p : Part) (i : ScreenId) (x : Screen) : (p.setScreen i x).maskOf = p.maskOf := rfl
@[simp] theorem setScreen_notices (p : Part) (i : ScreenId) (x : Screen) : (p.setScreen i x).notices = p.notices := rfl
@[simp] theorem setSession_pendingStart (p : Part) (x : Option Session) : (p.setSession x).ssu.pendingStart = p.ssu.pendingStart := rfl
@[simp] theorem setSession_dwell (p : Part) (x : Option Session) : (p.setSession x).ssu.dwell = p.ssu.dwell := rfl
@[simp] theorem setSession_store (p : Part) (x : Option Session) : (p.setSession x).ssu.store = p.ssu.store := rfl
@[simp] theorem setSession_lost (p : Part) (x : Option Session) : (p.setSession x).ssu.lost = p.ssu.lost := rfl
@[simp] theorem setSession_nextSummary (p : Part) (x : Option Session) : (p.setSession x).ssu.nextSummary = p.ssu.nextSummary := rfl
@[simp] theorem setSession_params (p : Part) (x : Option Session) : (p.setSession x).ssu.params = p.ssu.params := rfl
@[simp] theorem setSession_line (p : Part) (x : Option Session) : (p.setSession x).line = p.line := rfl
@[simp] theorem setSession_maskOf (p : Part) (x : Option Session) : (p.setSession x).maskOf = p.maskOf := rfl
@[simp] theorem setSession_notices (p : Part) (x : Option Session) : (p.setSession x).notices = p.notices := rfl
@[simp] theorem setClock_bankA (p : Part) (x : Clock) : (p.setClock x).sch.bankA = p.sch.bankA := rfl
@[simp] theorem setClock_bankB (p : Part) (x : Clock) : (p.setClock x).sch.bankB = p.sch.bankB := rfl
@[simp] theorem setClock_line (p : Part) (x : Clock) : (p.setClock x).line = p.line := rfl
@[simp] theorem setClock_maskOf (p : Part) (x : Clock) : (p.setClock x).maskOf = p.maskOf := rfl
@[simp] theorem setClock_notices (p : Part) (x : Clock) : (p.setClock x).notices = p.notices := rfl
@[simp] theorem setPower_quiet (p : Part) (x : PowerState) : (p.setPower x).pwu.quiet = p.pwu.quiet := rfl
@[simp] theorem setPower_settle (p : Part) (x : PowerState) : (p.setPower x).pwu.settle = p.pwu.settle := rfl
@[simp] theorem setPower_lead (p : Part) (x : PowerState) : (p.setPower x).pwu.lead = p.pwu.lead := rfl
@[simp] theorem setPower_delay (p : Part) (x : PowerState) : (p.setPower x).pwu.delay = p.pwu.delay := rfl
@[simp] theorem setPower_mask (p : Part) (x : PowerState) : (p.setPower x).pwu.mask = p.pwu.mask := rfl
@[simp] theorem setPower_proximityWake (p : Part) (x : PowerState) : (p.setPower x).pwu.proximityWake = p.pwu.proximityWake := rfl
@[simp] theorem setPower_line (p : Part) (x : PowerState) : (p.setPower x).line = p.line := rfl
@[simp] theorem setPower_maskOf (p : Part) (x : PowerState) : (p.setPower x).maskOf = p.maskOf := rfl
@[simp] theorem setPower_notices (p : Part) (x : PowerState) : (p.setPower x).notices = p.notices := rfl

/-! ### Port views under the port operations -/

theorem setPort_line (p : Part) (q r : Port) (x : PortRecord) :
    (p.setPort q x).line r =
      if r = q then (x.inService, x.waiting, x.pending, x.dropAnswer, x.heldBack, x.sent, x.acks) else p.line r := by
  by_cases h : r = q <;> simp [line, h]

@[simp] theorem setPort_maskOf_same {p : Part} {q : Port} {x : PortRecord} (h : x.mask = (p.port q).mask) :
    (p.setPort q x).maskOf = p.maskOf := by
  funext r; by_cases e : r = q <;> simp [maskOf, e, h]

@[simp] theorem setPort_notices_same {p : Part} {q : Port} {x : PortRecord} (h : x.flags = (p.port q).flags)
    (h' : x.causes = (p.port q).causes) : (p.setPort q x).notices = p.notices := by
  funext r; by_cases e : r = q <;> simp [notices, e, h, h']

@[simp] theorem setPort_line_same {p : Part} {q : Port} {x : PortRecord} (h1 : x.inService = (p.port q).inService)
    (h2 : x.waiting = (p.port q).waiting) (h3 : x.pending = (p.port q).pending)
    (h4 : x.dropAnswer = (p.port q).dropAnswer) (h5 : x.heldBack = (p.port q).heldBack)
    (h6 : x.sent = (p.port q).sent) (h7 : x.acks = (p.port q).acks) : (p.setPort q x).line = p.line := by
  funext r
  rw [setPort_line]
  by_cases e : r = q
  · subst e; simp [line, h1, h2, h3, h4, h5, h6, h7]
  · simp [e]

@[simp] theorem onPorts_port (p : Part) (f : PortRecord → PortRecord) (q : Port) : (p.onPorts f).port q = f (p.port q) := by
  simp [onPorts, port]

@[simp] theorem onPorts_rx (p : Part) (f : PortRecord → PortRecord) : (p.onPorts f).prt.rx = p.prt.rx := rfl
@[simp] theorem onPorts_roomId (p : Part) (f : PortRecord → PortRecord) : (p.onPorts f).prt.roomId = p.prt.roomId := rfl
@[simp] theorem onPorts_tableName (p : Part) (f : PortRecord → PortRecord) :
    (p.onPorts f).prt.tableName = p.prt.tableName := rfl


@[simp] theorem notice_keeps (p : Part) (c : Category) :
    (notice p c).prt.rx = p.prt.rx ∧ (notice p c).prt.roomId = p.prt.roomId ∧
    (notice p c).prt.tableName = p.prt.tableName ∧ (notice p c).line = p.line ∧ (notice p c).maskOf = p.maskOf := by
  refine ⟨rfl, rfl, rfl, ?_, ?_⟩ <;> funext q <;> simp [notice, line, maskOf]

@[simp] theorem noticeCause_keeps (p : Part) (c : Category) (m : Cause) :
    (noticeCause p c m).prt.rx = p.prt.rx ∧ (noticeCause p c m).prt.roomId = p.prt.roomId ∧
    (noticeCause p c m).prt.tableName = p.prt.tableName ∧ (noticeCause p c m).line = p.line ∧
    (noticeCause p c m).maskOf = p.maskOf := by
  refine ⟨rfl, rfl, rfl, ?_, ?_⟩ <;> funext q <;> simp [noticeCause, line, maskOf]

@[simp] theorem noticeIf_keeps (p : Part) (b : Bool) (c : Category) :
    (noticeIf p b c).prt.rx = p.prt.rx ∧ (noticeIf p b c).prt.roomId = p.prt.roomId ∧
    (noticeIf p b c).prt.tableName = p.prt.tableName ∧ (noticeIf p b c).line = p.line ∧
    (noticeIf p b c).maskOf = p.maskOf := by
  simp only [noticeIf]
  (repeat' split) <;> simp

@[simp] theorem driveAttention_keeps (p : Part) :
    (driveAttention p).prt.rx = p.prt.rx ∧ (driveAttention p).prt.roomId = p.prt.roomId ∧
    (driveAttention p).prt.tableName = p.prt.tableName ∧ (driveAttention p).line = p.line ∧
    (driveAttention p).maskOf = p.maskOf ∧ (driveAttention p).notices = p.notices := by
  refine ⟨rfl, rfl, rfl, ?_, ?_, ?_⟩ <;> funext q <;> simp [driveAttention, line, maskOf, notices]

@[simp] theorem computeShown_keeps (p : Part) (sel : ScreenId → Bool) :
    (computeShown p sel).rtu.presets = p.rtu.presets ∧ (computeShown p sel).rtu.speakers = p.rtu.speakers ∧
    (computeShown p sel).rtu.routable = p.rtu.routable ∧ (computeShown p sel).rtu.override = p.rtu.override ∧
    (computeShown p sel).line = p.line ∧ (computeShown p sel).maskOf = p.maskOf ∧
    (computeShown p sel).notices = p.notices := by
  simp [computeShown]

@[simp] theorem driveScreens_keeps (p : Part) :
    (driveScreens p).rtu.presets = p.rtu.presets ∧ (driveScreens p).rtu.speakers = p.rtu.speakers ∧
    (driveScreens p).rtu.routable = p.rtu.routable ∧ (driveScreens p).rtu.override = p.rtu.override ∧
    (driveScreens p).line = p.line ∧ (driveScreens p).maskOf = p.maskOf ∧ (driveScreens p).notices = p.notices := by
  simp [driveScreens]

@[simp] theorem speakerEnters_keeps (p : Part) (s : SeatId) :
    (speakerEnters p s).rtu.presets = p.rtu.presets ∧ (speakerEnters p s).rtu.routable = p.rtu.routable ∧
    (speakerEnters p s).rtu.override = p.rtu.override ∧ (speakerEnters p s).line = p.line ∧
    (speakerEnters p s).maskOf = p.maskOf ∧ (speakerEnters p s).notices = p.notices := by
  simp [speakerEnters]

@[simp] theorem speakerLeaves_keeps (p : Part) (s : SeatId) :
    (speakerLeaves p s).rtu.presets = p.rtu.presets ∧ (speakerLeaves p s).rtu.routable = p.rtu.routable ∧
    (speakerLeaves p s).rtu.override = p.rtu.override ∧ (speakerLeaves p s).line = p.line ∧
    (speakerLeaves p s).maskOf = p.maskOf ∧ (speakerLeaves p s).notices = p.notices := by
  simp [speakerLeaves]

@[simp] theorem setRoutable_keeps (p : Part) (i : Fin 10) (b : Bool) :
    (setRoutable p i b).rtu.presets = p.rtu.presets ∧ (setRoutable p i b).rtu.speakers = p.rtu.speakers ∧
    (setRoutable p i b).rtu.override = p.rtu.override ∧ (setRoutable p i b).line = p.line ∧
    (setRoutable p i b).maskOf = p.maskOf ∧ (setRoutable p i b).notices = p.notices := by
  simp only [setRoutable]
  (repeat' split) <;> simp

@[simp] theorem takeSettings_keeps (p : Part) (v : Vector ScreenSettings 4) :
    (takeSettings p v).rtu.presets = p.rtu.presets ∧ (takeSettings p v).rtu.speakers = p.rtu.speakers ∧
    (takeSettings p v).rtu.routable = p.rtu.routable ∧ (takeSettings p v).rtu.override = p.rtu.override ∧
    (takeSettings p v).line = p.line ∧ (takeSettings p v).maskOf = p.maskOf ∧
    (takeSettings p v).notices = p.notices := by
  simp [takeSettings]

@[simp] theorem applyPreset_keeps (p : Part) (n : Fin 4) :
    (applyPreset p n).rtu.presets = p.rtu.presets ∧ (applyPreset p n).rtu.speakers = p.rtu.speakers ∧
    (applyPreset p n).rtu.routable = p.rtu.routable ∧ (applyPreset p n).rtu.override = p.rtu.override ∧
    (applyPreset p n).line = p.line ∧ (applyPreset p n).maskOf = p.maskOf ∧
    (applyPreset p n).notices = p.notices := by
  simp [applyPreset]

@[simp] theorem routeClose_keeps (p : Part) (privacy : Bool) :
    (routeClose p privacy).rtu.presets = p.rtu.presets ∧ (routeClose p privacy).rtu.speakers = p.rtu.speakers ∧
    (routeClose p privacy).rtu.routable = p.rtu.routable ∧ (routeClose p privacy).rtu.override = p.rtu.override ∧
    (routeClose p privacy).line = p.line ∧ (routeClose p privacy).maskOf = p.maskOf ∧
    (routeClose p privacy).notices = p.notices := by
  simp [routeClose]

@[simp] theorem concludeRouting_keeps (before after : Part) :
    (concludeRouting before after).rtu.presets = after.rtu.presets ∧
    (concludeRouting before after).rtu.speakers = after.rtu.speakers ∧
    (concludeRouting before after).rtu.routable = after.rtu.routable ∧
    (concludeRouting before after).rtu.override = after.rtu.override ∧
    (concludeRouting before after).prt.rx = after.prt.rx ∧
    (concludeRouting before after).prt.roomId = after.prt.roomId ∧
    (concludeRouting before after).prt.tableName = after.prt.tableName ∧
    (concludeRouting before after).line = after.line ∧ (concludeRouting before after).maskOf = after.maskOf := by
  simp [concludeRouting]

@[simp] theorem countSettles_keeps (p : Part) :
    (countSettles p).rtu.presets = p.rtu.presets ∧ (countSettles p).rtu.speakers = p.rtu.speakers ∧
    (countSettles p).rtu.routable = p.rtu.routable ∧
    (countSettles p).rtu.override = p.rtu.override ∧ (countSettles p).prt.rx = p.prt.rx ∧
    (countSettles p).prt.roomId = p.prt.roomId ∧ (countSettles p).prt.tableName = p.prt.tableName ∧
    (countSettles p).line = p.line ∧ (countSettles p).maskOf = p.maskOf := by
  simp [countSettles]

@[simp] theorem endSettle_keeps (p : Part) (k : ScreenId) :
    (endSettle p k).rtu.presets = p.rtu.presets ∧ (endSettle p k).rtu.speakers = p.rtu.speakers ∧
    (endSettle p k).rtu.routable = p.rtu.routable ∧ (endSettle p k).rtu.override = p.rtu.override ∧
    (endSettle p k).prt.rx = p.prt.rx ∧ (endSettle p k).prt.roomId = p.prt.roomId ∧
    (endSettle p k).prt.tableName = p.prt.tableName ∧ (endSettle p k).line = p.line ∧
    (endSettle p k).maskOf = p.maskOf := by
  simp only [endSettle]
  (repeat' split) <;> simp

@[simp] theorem settleStep_keeps (changing : Bool) (p : Part) (k : ScreenId) :
    (settleStep changing p k).rtu.presets = p.rtu.presets ∧ (settleStep changing p k).rtu.speakers = p.rtu.speakers ∧
    (settleStep changing p k).rtu.routable = p.rtu.routable ∧
    (settleStep changing p k).rtu.override = p.rtu.override ∧ (settleStep changing p k).prt.rx = p.prt.rx ∧
    (settleStep changing p k).prt.roomId = p.prt.roomId ∧ (settleStep changing p k).prt.tableName = p.prt.tableName ∧
    (settleStep changing p k).line = p.line ∧ (settleStep changing p k).maskOf = p.maskOf := by
  simp only [settleStep]
  (repeat' split) <;> simp

@[simp] theorem endSettles_keeps (p : Part) (changing : Bool) :
    (endSettles p changing).rtu.presets = p.rtu.presets ∧ (endSettles p changing).rtu.speakers = p.rtu.speakers ∧
    (endSettles p changing).rtu.routable = p.rtu.routable ∧
    (endSettles p changing).rtu.override = p.rtu.override ∧ (endSettles p changing).prt.rx = p.prt.rx ∧
    (endSettles p changing).prt.roomId = p.prt.roomId ∧ (endSettles p changing).prt.tableName = p.prt.tableName ∧
    (endSettles p changing).line = p.line ∧ (endSettles p changing).maskOf = p.maskOf := by
  simp [endSettles]

@[simp] theorem setOverride_keeps (p : Part) (b : Bool) :
    (setOverride p b).rtu.presets = p.rtu.presets ∧ (setOverride p b).rtu.speakers = p.rtu.speakers ∧
    (setOverride p b).rtu.routable = p.rtu.routable ∧ (setOverride p b).line = p.line ∧
    (setOverride p b).maskOf = p.maskOf ∧ (setOverride p b).notices = p.notices := by
  simp [setOverride]

@[simp] theorem retarget_keeps (p : Part) :
    (retarget p).sgu.gain = p.sgu.gain ∧ (retarget p).sgu.patterns = p.sgu.patterns ∧
    (retarget p).sgu.polarity = p.sgu.polarity ∧ (retarget p).sgu.refused = p.sgu.refused ∧
    (retarget p).sgu.blink = p.sgu.blink ∧ (retarget p).sgu.released = p.sgu.released ∧
    (retarget p).sgu.indication = p.sgu.indication ∧ (retarget p).sgu.bus = p.sgu.bus ∧ (retarget p).line = p.line ∧
    (retarget p).maskOf = p.maskOf ∧ (retarget p).notices = p.notices := by
  simp [retarget]

@[simp] theorem openSlot_keeps (p : Part) (k : SlotId) (s : SeatId) :
    (openSlot p k s).sgu.gain = p.sgu.gain ∧ (openSlot p k s).sgu.patterns = p.sgu.patterns ∧
    (openSlot p k s).sgu.polarity = p.sgu.polarity ∧ (openSlot p k s).sgu.refused = p.sgu.refused ∧
    (openSlot p k s).sgu.blink = p.sgu.blink ∧ (openSlot p k s).sgu.released = p.sgu.released ∧
    (openSlot p k s).sgu.indication = p.sgu.indication ∧ (openSlot p k s).sgu.bus = p.sgu.bus ∧
    (openSlot p k s).line = p.line ∧ (openSlot p k s).maskOf = p.maskOf ∧ (openSlot p k s).notices = p.notices := by
  simp [openSlot]

@[simp] theorem reportLeft_keeps (p : Part) (x : Slot) :
    (reportLeft p x).rtu.presets = p.rtu.presets ∧ (reportLeft p x).rtu.routable = p.rtu.routable ∧
    (reportLeft p x).rtu.override = p.rtu.override ∧ (reportLeft p x).line = p.line ∧
    (reportLeft p x).maskOf = p.maskOf ∧ (reportLeft p x).notices = p.notices := by
  simp only [reportLeft]
  (repeat' split) <;> simp

@[simp] theorem closeSlot_keeps (p : Part) (k : SlotId) (r : SlotReason) :
    (closeSlot p k r).sgu.gain = p.sgu.gain ∧ (closeSlot p k r).sgu.patterns = p.sgu.patterns ∧
    (closeSlot p k r).sgu.polarity = p.sgu.polarity ∧ (closeSlot p k r).sgu.refused = p.sgu.refused ∧
    (closeSlot p k r).sgu.blink = p.sgu.blink ∧ (closeSlot p k r).sgu.released = p.sgu.released ∧
    (closeSlot p k r).sgu.indication = p.sgu.indication ∧ (closeSlot p k r).sgu.bus = p.sgu.bus ∧
    (closeSlot p k r).rtu.presets = p.rtu.presets ∧ (closeSlot p k r).rtu.routable = p.rtu.routable ∧
    (closeSlot p k r).rtu.override = p.rtu.override ∧ (closeSlot p k r).line = p.line ∧
    (closeSlot p k r).maskOf = p.maskOf ∧ (closeSlot p k r).notices = p.notices := by
  simp [closeSlot]

@[simp] theorem freeSlotRecord_keeps (p : Part) (k : SlotId) :
    (freeSlotRecord p k).sgu.gain = p.sgu.gain ∧ (freeSlotRecord p k).sgu.patterns = p.sgu.patterns ∧
    (freeSlotRecord p k).sgu.polarity = p.sgu.polarity ∧ (freeSlotRecord p k).sgu.refused = p.sgu.refused ∧
    (freeSlotRecord p k).sgu.blink = p.sgu.blink ∧ (freeSlotRecord p k).sgu.indication = p.sgu.indication ∧
    (freeSlotRecord p k).sgu.bus = p.sgu.bus ∧ (freeSlotRecord p k).line = p.line ∧
    (freeSlotRecord p k).maskOf = p.maskOf ∧ (freeSlotRecord p k).notices = p.notices := by
  simp [freeSlotRecord]

@[simp] theorem cutSlot_keeps (p : Part) (k : SlotId) :
    (cutSlot p k).sgu.gain = p.sgu.gain ∧ (cutSlot p k).sgu.patterns = p.sgu.patterns ∧
    (cutSlot p k).sgu.polarity = p.sgu.polarity ∧ (cutSlot p k).sgu.refused = p.sgu.refused ∧
    (cutSlot p k).sgu.blink = p.sgu.blink ∧ (cutSlot p k).sgu.indication = p.sgu.indication ∧
    (cutSlot p k).sgu.bus = p.sgu.bus ∧ (cutSlot p k).rtu.presets = p.rtu.presets ∧
    (cutSlot p k).rtu.routable = p.rtu.routable ∧ (cutSlot p k).rtu.override = p.rtu.override ∧
    (cutSlot p k).line = p.line ∧ (cutSlot p k).maskOf = p.maskOf ∧ (cutSlot p k).notices = p.notices := by
  simp only [cutSlot]
  (repeat' split) <;> simp

@[simp] theorem cutAll_keeps (p : Part) :
    (cutAll p).sgu.gain = p.sgu.gain ∧ (cutAll p).sgu.patterns = p.sgu.patterns ∧
    (cutAll p).sgu.polarity = p.sgu.polarity ∧ (cutAll p).sgu.refused = p.sgu.refused ∧
    (cutAll p).sgu.blink = p.sgu.blink ∧ (cutAll p).sgu.indication = p.sgu.indication ∧
    (cutAll p).sgu.bus = p.sgu.bus ∧ (cutAll p).rtu.presets = p.rtu.presets ∧
    (cutAll p).rtu.routable = p.rtu.routable ∧ (cutAll p).rtu.override = p.rtu.override ∧ (cutAll p).line = p.line ∧
    (cutAll p).maskOf = p.maskOf ∧ (cutAll p).notices = p.notices := by
  simp [cutAll]

@[simp] theorem moveGains_keeps (p : Part) :
    (moveGains p).sgu.gain = p.sgu.gain ∧ (moveGains p).sgu.patterns = p.sgu.patterns ∧
    (moveGains p).sgu.polarity = p.sgu.polarity ∧ (moveGains p).sgu.refused = p.sgu.refused ∧
    (moveGains p).sgu.blink = p.sgu.blink ∧ (moveGains p).sgu.released = p.sgu.released ∧
    (moveGains p).sgu.indication = p.sgu.indication ∧ (moveGains p).sgu.bus = p.sgu.bus ∧
    (moveGains p).line = p.line ∧ (moveGains p).maskOf = p.maskOf ∧ (moveGains p).notices = p.notices := by
  simp [moveGains]

@[simp] theorem enterLive_keeps (p : Part) (k : SlotId) :
    (enterLive p k).sgu.gain = p.sgu.gain ∧ (enterLive p k).sgu.patterns = p.sgu.patterns ∧
    (enterLive p k).sgu.polarity = p.sgu.polarity ∧ (enterLive p k).sgu.refused = p.sgu.refused ∧
    (enterLive p k).sgu.blink = p.sgu.blink ∧ (enterLive p k).sgu.released = p.sgu.released ∧
    (enterLive p k).sgu.indication = p.sgu.indication ∧ (enterLive p k).sgu.bus = p.sgu.bus ∧
    (enterLive p k).rtu.presets = p.rtu.presets ∧ (enterLive p k).rtu.routable = p.rtu.routable ∧
    (enterLive p k).rtu.override = p.rtu.override ∧ (enterLive p k).prt.rx = p.prt.rx ∧
    (enterLive p k).prt.roomId = p.prt.roomId ∧ (enterLive p k).prt.tableName = p.prt.tableName ∧
    (enterLive p k).line = p.line ∧ (enterLive p k).maskOf = p.maskOf := by
  simp only [enterLive]
  (repeat' split) <;> simp

@[simp] theorem enterLives_keeps (p : Part) :
    (enterLives p).sgu.gain = p.sgu.gain ∧ (enterLives p).sgu.patterns = p.sgu.patterns ∧
    (enterLives p).sgu.polarity = p.sgu.polarity ∧ (enterLives p).sgu.refused = p.sgu.refused ∧
    (enterLives p).sgu.blink = p.sgu.blink ∧ (enterLives p).sgu.released = p.sgu.released ∧
    (enterLives p).sgu.indication = p.sgu.indication ∧ (enterLives p).sgu.bus = p.sgu.bus ∧
    (enterLives p).rtu.presets = p.rtu.presets ∧ (enterLives p).rtu.routable = p.rtu.routable ∧
    (enterLives p).rtu.override = p.rtu.override ∧ (enterLives p).prt.rx = p.prt.rx ∧
    (enterLives p).prt.roomId = p.prt.roomId ∧ (enterLives p).prt.tableName = p.prt.tableName ∧
    (enterLives p).line = p.line ∧ (enterLives p).maskOf = p.maskOf := by
  simp [enterLives]

@[simp] theorem sendGains_keeps (p : Part) :
    (sendGains p).sgu.slots = p.sgu.slots ∧ (sendGains p).sgu.gain = p.sgu.gain ∧
    (sendGains p).sgu.patterns = p.sgu.patterns ∧ (sendGains p).sgu.polarity = p.sgu.polarity ∧
    (sendGains p).sgu.refused = p.sgu.refused ∧ (sendGains p).sgu.blink = p.sgu.blink ∧
    (sendGains p).sgu.indication = p.sgu.indication ∧ (sendGains p).line = p.line ∧ (sendGains p).maskOf = p.maskOf ∧
    (sendGains p).notices = p.notices := by
  simp only [sendGains]
  (repeat' split) <;> simp

@[simp] theorem countGainTimers_keeps (p : Part) :
    (countGainTimers p).sgu.slots = p.sgu.slots ∧ (countGainTimers p).sgu.gain = p.sgu.gain ∧
    (countGainTimers p).sgu.patterns = p.sgu.patterns ∧ (countGainTimers p).sgu.polarity = p.sgu.polarity ∧
    (countGainTimers p).sgu.released = p.sgu.released ∧ (countGainTimers p).sgu.indication = p.sgu.indication ∧
    (countGainTimers p).sgu.bus = p.sgu.bus ∧ (countGainTimers p).line = p.line ∧
    (countGainTimers p).maskOf = p.maskOf ∧ (countGainTimers p).notices = p.notices := by
  simp only [countGainTimers]
  (repeat' split) <;> simp

@[simp] theorem takeGain_keeps (p : Part) (g : GainSettings) :
    (takeGain p g).sgu.patterns = p.sgu.patterns ∧ (takeGain p g).sgu.polarity = p.sgu.polarity ∧
    (takeGain p g).sgu.refused = p.sgu.refused ∧ (takeGain p g).sgu.blink = p.sgu.blink ∧
    (takeGain p g).sgu.released = p.sgu.released ∧ (takeGain p g).sgu.indication = p.sgu.indication ∧
    (takeGain p g).sgu.bus = p.sgu.bus ∧ (takeGain p g).line = p.line ∧ (takeGain p g).maskOf = p.maskOf ∧
    (takeGain p g).notices = p.notices := by
  simp [takeGain]

@[simp] theorem showRefused_keeps (p : Part) (s : SeatId) :
    (showRefused p s).sgu.slots = p.sgu.slots ∧ (showRefused p s).sgu.gain = p.sgu.gain ∧
    (showRefused p s).sgu.patterns = p.sgu.patterns ∧ (showRefused p s).sgu.polarity = p.sgu.polarity ∧
    (showRefused p s).sgu.blink = p.sgu.blink ∧ (showRefused p s).sgu.released = p.sgu.released ∧
    (showRefused p s).sgu.indication = p.sgu.indication ∧ (showRefused p s).sgu.bus = p.sgu.bus ∧
    (showRefused p s).line = p.line ∧ (showRefused p s).maskOf = p.maskOf ∧
    (showRefused p s).notices = p.notices := by
  simp [showRefused]

@[simp] theorem drivePins_keeps (p : Part) :
    (drivePins p).sgu.slots = p.sgu.slots ∧ (drivePins p).sgu.gain = p.sgu.gain ∧
    (drivePins p).sgu.patterns = p.sgu.patterns ∧ (drivePins p).sgu.polarity = p.sgu.polarity ∧
    (drivePins p).sgu.refused = p.sgu.refused ∧ (drivePins p).sgu.blink = p.sgu.blink ∧
    (drivePins p).sgu.released = p.sgu.released ∧ (drivePins p).sgu.bus = p.sgu.bus ∧
    (drivePins p).prt.rx = p.prt.rx ∧ (drivePins p).prt.roomId = p.prt.roomId ∧
    (drivePins p).prt.tableName = p.prt.tableName ∧ (drivePins p).line = p.line ∧ (drivePins p).maskOf = p.maskOf ∧
    (drivePins p).notices = p.notices := by
  simp [drivePins]

@[simp] theorem setPublished_keeps (p : Part) (b : Bank) :
    (setPublished p b).sch.clock = p.sch.clock ∧ (setPublished p b).line = p.line ∧
    (setPublished p b).maskOf = p.maskOf ∧ (setPublished p b).notices = p.notices := by
  simp only [setPublished]
  (repeat' split) <;> simp

@[simp] theorem setStaging_keeps (p : Part) (b : Bank) :
    (setStaging p b).sch.clock = p.sch.clock ∧ (setStaging p b).line = p.line ∧ (setStaging p b).maskOf = p.maskOf ∧
    (setStaging p b).notices = p.notices := by
  simp only [setStaging]
  (repeat' split) <;> simp

@[simp] theorem markEntry_keeps (p : Part) (id : Nat) (old new : EntryStatus) :
    (markEntry p id old new).sch.clock = p.sch.clock ∧ (markEntry p id old new).prt.rx = p.prt.rx ∧
    (markEntry p id old new).prt.roomId = p.prt.roomId ∧ (markEntry p id old new).prt.tableName = p.prt.tableName ∧
    (markEntry p id old new).line = p.line ∧ (markEntry p id old new).maskOf = p.maskOf := by
  simp [markEntry]

@[simp] theorem markMissed_keeps (p : Part) :
    (markMissed p).sch.clock = p.sch.clock ∧ (markMissed p).prt.rx = p.prt.rx ∧
    (markMissed p).prt.roomId = p.prt.roomId ∧ (markMissed p).prt.tableName = p.prt.tableName ∧
    (markMissed p).line = p.line ∧ (markMissed p).maskOf = p.maskOf := by
  simp only [markMissed]
  (repeat' split) <;> simp

@[simp] theorem changePower_keeps (p : Part) (x : PowerState) :
    (changePower p x).prt.rx = p.prt.rx ∧ (changePower p x).prt.roomId = p.prt.roomId ∧
    (changePower p x).prt.tableName = p.prt.tableName ∧ (changePower p x).pwu.quiet = p.pwu.quiet ∧
    (changePower p x).pwu.settle = p.pwu.settle ∧ (changePower p x).pwu.lead = p.pwu.lead ∧
    (changePower p x).pwu.delay = p.pwu.delay ∧ (changePower p x).pwu.mask = p.pwu.mask ∧
    (changePower p x).pwu.proximityWake = p.pwu.proximityWake ∧ (changePower p x).line = p.line ∧
    (changePower p x).maskOf = p.maskOf := by
  simp [changePower]

@[simp] theorem wakeChannels_keeps (p : Part) :
    (wakeChannels p).sfe.key = p.sfe.key ∧ (wakeChannels p).sfe.proximity = p.sfe.proximity ∧
    (wakeChannels p).sfe.reference = p.sfe.reference ∧ (wakeChannels p).sfe.frame = p.sfe.frame ∧
    (wakeChannels p).line = p.line ∧ (wakeChannels p).maskOf = p.maskOf ∧ (wakeChannels p).notices = p.notices := by
  simp [wakeChannels]

@[simp] theorem wakeSockets_keeps (p : Part) :
    (wakeSockets p).scu.rates = p.scu.rates ∧ (wakeSockets p).scu.agree = p.scu.agree ∧
    (wakeSockets p).scu.drop = p.scu.drop ∧ (wakeSockets p).scu.pc = p.scu.pc ∧
    (wakeSockets p).scu.codec = p.scu.codec ∧ (wakeSockets p).line = p.line ∧ (wakeSockets p).maskOf = p.maskOf ∧
    (wakeSockets p).notices = p.notices := by
  simp [wakeSockets]

@[simp] theorem wake_keeps (p : Part) :
    (wake p).sfe.key = p.sfe.key ∧ (wake p).sfe.proximity = p.sfe.proximity ∧
    (wake p).sfe.reference = p.sfe.reference ∧ (wake p).sfe.frame = p.sfe.frame ∧ (wake p).scu.rates = p.scu.rates ∧
    (wake p).scu.agree = p.scu.agree ∧ (wake p).scu.drop = p.scu.drop ∧ (wake p).scu.pc = p.scu.pc ∧
    (wake p).scu.codec = p.scu.codec ∧ (wake p).rtu.presets = p.rtu.presets ∧
    (wake p).rtu.speakers = p.rtu.speakers ∧ (wake p).rtu.routable = p.rtu.routable ∧ (wake p).prt.rx = p.prt.rx ∧
    (wake p).prt.roomId = p.prt.roomId ∧ (wake p).prt.tableName = p.prt.tableName ∧ (wake p).pwu.lead = p.pwu.lead ∧
    (wake p).pwu.delay = p.pwu.delay ∧ (wake p).pwu.mask = p.pwu.mask ∧
    (wake p).pwu.proximityWake = p.pwu.proximityWake ∧ (wake p).line = p.line ∧ (wake p).maskOf = p.maskOf := by
  simp only [wake]
  (repeat' split) <;> simp

@[simp] theorem clearQuiet_keeps (p : Part) :
    (clearQuiet p).pwu.power = p.pwu.power ∧ (clearQuiet p).pwu.settle = p.pwu.settle ∧
    (clearQuiet p).pwu.lead = p.pwu.lead ∧ (clearQuiet p).pwu.delay = p.pwu.delay ∧
    (clearQuiet p).pwu.mask = p.pwu.mask ∧ (clearQuiet p).pwu.proximityWake = p.pwu.proximityWake ∧
    (clearQuiet p).line = p.line ∧ (clearQuiet p).maskOf = p.maskOf ∧ (clearQuiet p).notices = p.notices := by
  simp [clearQuiet]

@[simp] theorem preWake_keeps (p : Part) :
    (preWake p).sfe.key = p.sfe.key ∧ (preWake p).sfe.proximity = p.sfe.proximity ∧
    (preWake p).sfe.reference = p.sfe.reference ∧ (preWake p).sfe.frame = p.sfe.frame ∧
    (preWake p).scu.rates = p.scu.rates ∧ (preWake p).scu.agree = p.scu.agree ∧ (preWake p).scu.drop = p.scu.drop ∧
    (preWake p).scu.pc = p.scu.pc ∧ (preWake p).scu.codec = p.scu.codec ∧ (preWake p).rtu.presets = p.rtu.presets ∧
    (preWake p).rtu.speakers = p.rtu.speakers ∧ (preWake p).rtu.routable = p.rtu.routable ∧
    (preWake p).prt.rx = p.prt.rx ∧ (preWake p).prt.roomId = p.prt.roomId ∧
    (preWake p).prt.tableName = p.prt.tableName ∧ (preWake p).pwu.lead = p.pwu.lead ∧
    (preWake p).pwu.delay = p.pwu.delay ∧ (preWake p).pwu.mask = p.pwu.mask ∧
    (preWake p).pwu.proximityWake = p.pwu.proximityWake ∧ (preWake p).line = p.line ∧
    (preWake p).maskOf = p.maskOf := by
  simp only [preWake]
  (repeat' split) <;> simp

@[simp] theorem count_keeps (p : Part) (s : SeatId) (f : Counters → Counters) :
    (count p s f).smn.occupied = p.smn.occupied ∧ (count p s f).smn.grace = p.smn.grace ∧
    (count p s f).line = p.line ∧ (count p s f).maskOf = p.maskOf ∧ (count p s f).notices = p.notices := by
  simp only [count]
  (repeat' split) <;> simp

@[simp] theorem countRequest_keeps (p : Part) (s : SeatId) :
    (countRequest p s).smn.occupied = p.smn.occupied ∧ (countRequest p s).smn.grace = p.smn.grace ∧
    (countRequest p s).line = p.line ∧ (countRequest p s).maskOf = p.maskOf ∧
    (countRequest p s).notices = p.notices := by
  simp [countRequest]

@[simp] theorem countGrant_keeps (p : Part) (s : SeatId) :
    (countGrant p s).smn.occupied = p.smn.occupied ∧ (countGrant p s).smn.grace = p.smn.grace ∧
    (countGrant p s).line = p.line ∧ (countGrant p s).maskOf = p.maskOf ∧ (countGrant p s).notices = p.notices := by
  simp [countGrant]

@[simp] theorem countRefused_keeps (p : Part) (s : SeatId) :
    (countRefused p s).smn.occupied = p.smn.occupied ∧ (countRefused p s).smn.grace = p.smn.grace ∧
    (countRefused p s).line = p.line ∧ (countRefused p s).maskOf = p.maskOf ∧
    (countRefused p s).notices = p.notices := by
  simp [countRefused]

@[simp] theorem countStray_keeps (p : Part) (s : SeatId) :
    (countStray p s).smn.occupied = p.smn.occupied ∧ (countStray p s).smn.grace = p.smn.grace ∧
    (countStray p s).line = p.line ∧ (countStray p s).maskOf = p.maskOf ∧ (countStray p s).notices = p.notices := by
  simp [countStray]

@[simp] theorem countSpeaking_keeps (p : Part) (s : SeatId) :
    (countSpeaking p s).smn.occupied = p.smn.occupied ∧ (countSpeaking p s).smn.grace = p.smn.grace ∧
    (countSpeaking p s).line = p.line ∧ (countSpeaking p s).maskOf = p.maskOf ∧
    (countSpeaking p s).notices = p.notices := by
  simp [countSpeaking]

@[simp] theorem setQueue_keeps (p : Part) (q : List QueueEntry) :
    (setQueue p q).flc.mode = p.flc.mode ∧ (setQueue p q).flc.limit = p.flc.limit ∧
    (setQueue p q).flc.speak = p.flc.speak ∧ (setQueue p q).flc.enforce = p.flc.enforce ∧
    (setQueue p q).flc.lead = p.flc.lead ∧ (setQueue p q).flc.isOpen = p.flc.isOpen ∧
    (setQueue p q).flc.nextNumber = p.flc.nextNumber ∧ (setQueue p q).flc.seconds = p.flc.seconds ∧
    (setQueue p q).flc.openOrder = p.flc.openOrder ∧ (setQueue p q).flc.preset = p.flc.preset ∧
    (setQueue p q).prt.rx = p.prt.rx ∧ (setQueue p q).prt.roomId = p.prt.roomId ∧
    (setQueue p q).prt.tableName = p.prt.tableName ∧ (setQueue p q).line = p.line ∧
    (setQueue p q).maskOf = p.maskOf := by
  simp [setQueue]

@[simp] theorem join_keeps (p : Part) (s : SeatId) (override : Bool) :
    (join p s override).flc.mode = p.flc.mode ∧ (join p s override).flc.limit = p.flc.limit ∧
    (join p s override).flc.speak = p.flc.speak ∧ (join p s override).flc.enforce = p.flc.enforce ∧
    (join p s override).flc.lead = p.flc.lead ∧ (join p s override).flc.isOpen = p.flc.isOpen ∧
    (join p s override).flc.seconds = p.flc.seconds ∧ (join p s override).flc.openOrder = p.flc.openOrder ∧
    (join p s override).flc.preset = p.flc.preset ∧ (join p s override).prt.rx = p.prt.rx ∧
    (join p s override).prt.roomId = p.prt.roomId ∧ (join p s override).prt.tableName = p.prt.tableName ∧
    (join p s override).line = p.line ∧ (join p s override).maskOf = p.maskOf := by
  simp [join]

@[simp] theorem leaveQueue_keeps (p : Part) (s : SeatId) :
    (leaveQueue p s).flc.mode = p.flc.mode ∧ (leaveQueue p s).flc.limit = p.flc.limit ∧
    (leaveQueue p s).flc.speak = p.flc.speak ∧ (leaveQueue p s).flc.enforce = p.flc.enforce ∧
    (leaveQueue p s).flc.lead = p.flc.lead ∧ (leaveQueue p s).flc.isOpen = p.flc.isOpen ∧
    (leaveQueue p s).flc.nextNumber = p.flc.nextNumber ∧ (leaveQueue p s).flc.seconds = p.flc.seconds ∧
    (leaveQueue p s).flc.openOrder = p.flc.openOrder ∧ (leaveQueue p s).flc.preset = p.flc.preset ∧
    (leaveQueue p s).prt.rx = p.prt.rx ∧ (leaveQueue p s).prt.roomId = p.prt.roomId ∧
    (leaveQueue p s).prt.tableName = p.prt.tableName ∧ (leaveQueue p s).line = p.line ∧
    (leaveQueue p s).maskOf = p.maskOf := by
  simp [leaveQueue]

@[simp] theorem grantSlot_keeps (p : Part) (k : SlotId) (s : SeatId) :
    (grantSlot p k s).smn.occupied = p.smn.occupied ∧ (grantSlot p k s).smn.grace = p.smn.grace ∧
    (grantSlot p k s).flc.mode = p.flc.mode ∧ (grantSlot p k s).flc.limit = p.flc.limit ∧
    (grantSlot p k s).flc.speak = p.flc.speak ∧ (grantSlot p k s).flc.enforce = p.flc.enforce ∧
    (grantSlot p k s).flc.lead = p.flc.lead ∧ (grantSlot p k s).flc.isOpen = p.flc.isOpen ∧
    (grantSlot p k s).flc.nextNumber = p.flc.nextNumber ∧ (grantSlot p k s).flc.seconds = p.flc.seconds ∧
    (grantSlot p k s).flc.preset = p.flc.preset ∧ (grantSlot p k s).sgu.gain = p.sgu.gain ∧
    (grantSlot p k s).sgu.patterns = p.sgu.patterns ∧ (grantSlot p k s).sgu.polarity = p.sgu.polarity ∧
    (grantSlot p k s).sgu.refused = p.sgu.refused ∧ (grantSlot p k s).sgu.blink = p.sgu.blink ∧
    (grantSlot p k s).sgu.released = p.sgu.released ∧ (grantSlot p k s).sgu.indication = p.sgu.indication ∧
    (grantSlot p k s).sgu.bus = p.sgu.bus ∧ (grantSlot p k s).prt.rx = p.prt.rx ∧
    (grantSlot p k s).prt.roomId = p.prt.roomId ∧ (grantSlot p k s).prt.tableName = p.prt.tableName ∧
    (grantSlot p k s).line = p.line ∧ (grantSlot p k s).maskOf = p.maskOf := by
  simp [grantSlot]

@[simp] theorem grant_keeps (p : Part) (s : SeatId) :
    (grant p s).smn.occupied = p.smn.occupied ∧ (grant p s).smn.grace = p.smn.grace ∧
    (grant p s).flc.mode = p.flc.mode ∧ (grant p s).flc.limit = p.flc.limit ∧ (grant p s).flc.speak = p.flc.speak ∧
    (grant p s).flc.enforce = p.flc.enforce ∧ (grant p s).flc.lead = p.flc.lead ∧
    (grant p s).flc.isOpen = p.flc.isOpen ∧ (grant p s).flc.nextNumber = p.flc.nextNumber ∧
    (grant p s).flc.seconds = p.flc.seconds ∧ (grant p s).flc.preset = p.flc.preset ∧
    (grant p s).sgu.gain = p.sgu.gain ∧ (grant p s).sgu.patterns = p.sgu.patterns ∧
    (grant p s).sgu.polarity = p.sgu.polarity ∧ (grant p s).sgu.refused = p.sgu.refused ∧
    (grant p s).sgu.blink = p.sgu.blink ∧ (grant p s).sgu.released = p.sgu.released ∧
    (grant p s).sgu.indication = p.sgu.indication ∧ (grant p s).sgu.bus = p.sgu.bus ∧ (grant p s).prt.rx = p.prt.rx ∧
    (grant p s).prt.roomId = p.prt.roomId ∧ (grant p s).prt.tableName = p.prt.tableName ∧ (grant p s).line = p.line ∧
    (grant p s).maskOf = p.maskOf := by
  simp only [grant]
  (repeat' split) <;> simp

@[simp] theorem close_keeps (p : Part) (k : SlotId) (r : SlotReason) :
    (close p k r).flc.mode = p.flc.mode ∧ (close p k r).flc.limit = p.flc.limit ∧
    (close p k r).flc.speak = p.flc.speak ∧ (close p k r).flc.enforce = p.flc.enforce ∧
    (close p k r).flc.lead = p.flc.lead ∧ (close p k r).flc.isOpen = p.flc.isOpen ∧
    (close p k r).flc.queue = p.flc.queue ∧ (close p k r).flc.nextNumber = p.flc.nextNumber ∧
    (close p k r).flc.seconds = p.flc.seconds ∧ (close p k r).flc.preset = p.flc.preset ∧
    (close p k r).sgu.gain = p.sgu.gain ∧ (close p k r).sgu.patterns = p.sgu.patterns ∧
    (close p k r).sgu.polarity = p.sgu.polarity ∧ (close p k r).sgu.refused = p.sgu.refused ∧
    (close p k r).sgu.blink = p.sgu.blink ∧ (close p k r).sgu.released = p.sgu.released ∧
    (close p k r).sgu.indication = p.sgu.indication ∧ (close p k r).sgu.bus = p.sgu.bus ∧
    (close p k r).rtu.presets = p.rtu.presets ∧ (close p k r).rtu.routable = p.rtu.routable ∧
    (close p k r).rtu.override = p.rtu.override ∧ (close p k r).prt.rx = p.prt.rx ∧
    (close p k r).prt.roomId = p.prt.roomId ∧ (close p k r).prt.tableName = p.prt.tableName ∧
    (close p k r).line = p.line ∧ (close p k r).maskOf = p.maskOf := by
  simp only [close]
  (repeat' split) <;> simp

@[simp] theorem advance_keeps (n : Nat) (p : Part) :
    (advance n p).smn.occupied = p.smn.occupied ∧ (advance n p).smn.grace = p.smn.grace ∧
    (advance n p).flc.mode = p.flc.mode ∧ (advance n p).flc.limit = p.flc.limit ∧
    (advance n p).flc.speak = p.flc.speak ∧ (advance n p).flc.enforce = p.flc.enforce ∧
    (advance n p).flc.lead = p.flc.lead ∧ (advance n p).flc.isOpen = p.flc.isOpen ∧
    (advance n p).flc.nextNumber = p.flc.nextNumber ∧ (advance n p).flc.seconds = p.flc.seconds ∧
    (advance n p).flc.preset = p.flc.preset ∧ (advance n p).sgu.gain = p.sgu.gain ∧
    (advance n p).sgu.patterns = p.sgu.patterns ∧ (advance n p).sgu.polarity = p.sgu.polarity ∧
    (advance n p).sgu.refused = p.sgu.refused ∧ (advance n p).sgu.blink = p.sgu.blink ∧
    (advance n p).sgu.released = p.sgu.released ∧ (advance n p).sgu.indication = p.sgu.indication ∧
    (advance n p).sgu.bus = p.sgu.bus ∧ (advance n p).prt.rx = p.prt.rx ∧ (advance n p).prt.roomId = p.prt.roomId ∧
    (advance n p).prt.tableName = p.prt.tableName ∧ (advance n p).line = p.line ∧
    (advance n p).maskOf = p.maskOf := by
  induction n generalizing p with
  | zero => simp [advance]
  | succ n ih =>
    simp only [advance]
    split <;> simp [ih]

@[simp] theorem autoAdvance_keeps (p : Part) :
    (autoAdvance p).smn.occupied = p.smn.occupied ∧ (autoAdvance p).smn.grace = p.smn.grace ∧
    (autoAdvance p).flc.mode = p.flc.mode ∧ (autoAdvance p).flc.limit = p.flc.limit ∧
    (autoAdvance p).flc.speak = p.flc.speak ∧ (autoAdvance p).flc.enforce = p.flc.enforce ∧
    (autoAdvance p).flc.lead = p.flc.lead ∧ (autoAdvance p).flc.isOpen = p.flc.isOpen ∧
    (autoAdvance p).flc.nextNumber = p.flc.nextNumber ∧ (autoAdvance p).flc.seconds = p.flc.seconds ∧
    (autoAdvance p).flc.preset = p.flc.preset ∧ (autoAdvance p).sgu.gain = p.sgu.gain ∧
    (autoAdvance p).sgu.patterns = p.sgu.patterns ∧ (autoAdvance p).sgu.polarity = p.sgu.polarity ∧
    (autoAdvance p).sgu.refused = p.sgu.refused ∧ (autoAdvance p).sgu.blink = p.sgu.blink ∧
    (autoAdvance p).sgu.released = p.sgu.released ∧ (autoAdvance p).sgu.indication = p.sgu.indication ∧
    (autoAdvance p).sgu.bus = p.sgu.bus ∧ (autoAdvance p).prt.rx = p.prt.rx ∧
    (autoAdvance p).prt.roomId = p.prt.roomId ∧ (autoAdvance p).prt.tableName = p.prt.tableName ∧
    (autoAdvance p).line = p.line ∧ (autoAdvance p).maskOf = p.maskOf := by
  simp only [autoAdvance]
  (repeat' split) <;> simp

@[simp] theorem takeFree_keeps (p : Part) (k : SlotId) :
    (takeFree p k).smn.occupied = p.smn.occupied ∧ (takeFree p k).smn.grace = p.smn.grace ∧
    (takeFree p k).flc.mode = p.flc.mode ∧ (takeFree p k).flc.limit = p.flc.limit ∧
    (takeFree p k).flc.speak = p.flc.speak ∧ (takeFree p k).flc.enforce = p.flc.enforce ∧
    (takeFree p k).flc.lead = p.flc.lead ∧ (takeFree p k).flc.isOpen = p.flc.isOpen ∧
    (takeFree p k).flc.nextNumber = p.flc.nextNumber ∧ (takeFree p k).flc.seconds = p.flc.seconds ∧
    (takeFree p k).flc.preset = p.flc.preset ∧ (takeFree p k).sgu.gain = p.sgu.gain ∧
    (takeFree p k).sgu.patterns = p.sgu.patterns ∧ (takeFree p k).sgu.polarity = p.sgu.polarity ∧
    (takeFree p k).sgu.refused = p.sgu.refused ∧ (takeFree p k).sgu.blink = p.sgu.blink ∧
    (takeFree p k).sgu.indication = p.sgu.indication ∧ (takeFree p k).sgu.bus = p.sgu.bus ∧
    (takeFree p k).prt.rx = p.prt.rx ∧ (takeFree p k).prt.roomId = p.prt.roomId ∧
    (takeFree p k).prt.tableName = p.prt.tableName ∧ (takeFree p k).line = p.line ∧
    (takeFree p k).maskOf = p.maskOf := by
  simp only [takeFree]
  (repeat' split) <;> simp

@[simp] theorem refusePress_keeps (p : Part) (s : SeatId) :
    (refusePress p s).smn.occupied = p.smn.occupied ∧ (refusePress p s).smn.grace = p.smn.grace ∧
    (refusePress p s).sgu.slots = p.sgu.slots ∧ (refusePress p s).sgu.gain = p.sgu.gain ∧
    (refusePress p s).sgu.patterns = p.sgu.patterns ∧ (refusePress p s).sgu.polarity = p.sgu.polarity ∧
    (refusePress p s).sgu.blink = p.sgu.blink ∧ (refusePress p s).sgu.released = p.sgu.released ∧
    (refusePress p s).sgu.indication = p.sgu.indication ∧ (refusePress p s).sgu.bus = p.sgu.bus ∧
    (refusePress p s).line = p.line ∧ (refusePress p s).maskOf = p.maskOf ∧
    (refusePress p s).notices = p.notices := by
  simp [refusePress]

@[simp] theorem joinAndAdvance_keeps (p : Part) (s : SeatId) (override : Bool) :
    (joinAndAdvance p s override).1.smn.occupied = p.smn.occupied ∧
    (joinAndAdvance p s override).1.smn.grace = p.smn.grace ∧ (joinAndAdvance p s override).1.flc.mode = p.flc.mode ∧
    (joinAndAdvance p s override).1.flc.limit = p.flc.limit ∧
    (joinAndAdvance p s override).1.flc.speak = p.flc.speak ∧
    (joinAndAdvance p s override).1.flc.enforce = p.flc.enforce ∧
    (joinAndAdvance p s override).1.flc.lead = p.flc.lead ∧
    (joinAndAdvance p s override).1.flc.isOpen = p.flc.isOpen ∧
    (joinAndAdvance p s override).1.flc.seconds = p.flc.seconds ∧
    (joinAndAdvance p s override).1.flc.preset = p.flc.preset ∧
    (joinAndAdvance p s override).1.sgu.gain = p.sgu.gain ∧
    (joinAndAdvance p s override).1.sgu.patterns = p.sgu.patterns ∧
    (joinAndAdvance p s override).1.sgu.polarity = p.sgu.polarity ∧
    (joinAndAdvance p s override).1.sgu.refused = p.sgu.refused ∧
    (joinAndAdvance p s override).1.sgu.blink = p.sgu.blink ∧
    (joinAndAdvance p s override).1.sgu.released = p.sgu.released ∧
    (joinAndAdvance p s override).1.sgu.indication = p.sgu.indication ∧
    (joinAndAdvance p s override).1.sgu.bus = p.sgu.bus ∧ (joinAndAdvance p s override).1.prt.rx = p.prt.rx ∧
    (joinAndAdvance p s override).1.prt.roomId = p.prt.roomId ∧
    (joinAndAdvance p s override).1.prt.tableName = p.prt.tableName ∧ (joinAndAdvance p s override).1.line = p.line ∧
    (joinAndAdvance p s override).1.maskOf = p.maskOf := by
  simp [joinAndAdvance]

@[simp] theorem openAtOnce_keeps (p : Part) (k : SlotId) (s : SeatId) :
    (openAtOnce p k s).1.smn.occupied = p.smn.occupied ∧ (openAtOnce p k s).1.smn.grace = p.smn.grace ∧
    (openAtOnce p k s).1.flc.mode = p.flc.mode ∧ (openAtOnce p k s).1.flc.limit = p.flc.limit ∧
    (openAtOnce p k s).1.flc.speak = p.flc.speak ∧ (openAtOnce p k s).1.flc.enforce = p.flc.enforce ∧
    (openAtOnce p k s).1.flc.lead = p.flc.lead ∧ (openAtOnce p k s).1.flc.isOpen = p.flc.isOpen ∧
    (openAtOnce p k s).1.flc.nextNumber = p.flc.nextNumber ∧ (openAtOnce p k s).1.flc.seconds = p.flc.seconds ∧
    (openAtOnce p k s).1.flc.preset = p.flc.preset ∧ (openAtOnce p k s).1.sgu.gain = p.sgu.gain ∧
    (openAtOnce p k s).1.sgu.patterns = p.sgu.patterns ∧ (openAtOnce p k s).1.sgu.polarity = p.sgu.polarity ∧
    (openAtOnce p k s).1.sgu.refused = p.sgu.refused ∧ (openAtOnce p k s).1.sgu.blink = p.sgu.blink ∧
    (openAtOnce p k s).1.sgu.released = p.sgu.released ∧ (openAtOnce p k s).1.sgu.indication = p.sgu.indication ∧
    (openAtOnce p k s).1.sgu.bus = p.sgu.bus ∧ (openAtOnce p k s).1.prt.rx = p.prt.rx ∧
    (openAtOnce p k s).1.prt.roomId = p.prt.roomId ∧ (openAtOnce p k s).1.prt.tableName = p.prt.tableName ∧
    (openAtOnce p k s).1.line = p.line ∧ (openAtOnce p k s).1.maskOf = p.maskOf := by
  simp [openAtOnce]

@[simp] theorem refuseFull_keeps (p : Part) (s : SeatId) :
    (refuseFull p s).1.smn.occupied = p.smn.occupied ∧ (refuseFull p s).1.smn.grace = p.smn.grace ∧
    (refuseFull p s).1.sgu.slots = p.sgu.slots ∧ (refuseFull p s).1.sgu.gain = p.sgu.gain ∧
    (refuseFull p s).1.sgu.patterns = p.sgu.patterns ∧ (refuseFull p s).1.sgu.polarity = p.sgu.polarity ∧
    (refuseFull p s).1.sgu.blink = p.sgu.blink ∧ (refuseFull p s).1.sgu.released = p.sgu.released ∧
    (refuseFull p s).1.sgu.indication = p.sgu.indication ∧ (refuseFull p s).1.sgu.bus = p.sgu.bus ∧
    (refuseFull p s).1.line = p.line ∧ (refuseFull p s).1.maskOf = p.maskOf ∧
    (refuseFull p s).1.notices = p.notices := by
  simp [refuseFull]

@[simp] theorem newRequest_keeps (p : Part) (s : SeatId) :
    (newRequest p s).1.smn.occupied = p.smn.occupied ∧ (newRequest p s).1.smn.grace = p.smn.grace ∧
    (newRequest p s).1.flc.mode = p.flc.mode ∧ (newRequest p s).1.flc.limit = p.flc.limit ∧
    (newRequest p s).1.flc.speak = p.flc.speak ∧ (newRequest p s).1.flc.enforce = p.flc.enforce ∧
    (newRequest p s).1.flc.lead = p.flc.lead ∧ (newRequest p s).1.flc.isOpen = p.flc.isOpen ∧
    (newRequest p s).1.flc.seconds = p.flc.seconds ∧ (newRequest p s).1.flc.preset = p.flc.preset ∧
    (newRequest p s).1.sgu.gain = p.sgu.gain ∧ (newRequest p s).1.sgu.patterns = p.sgu.patterns ∧
    (newRequest p s).1.sgu.polarity = p.sgu.polarity ∧ (newRequest p s).1.sgu.blink = p.sgu.blink ∧
    (newRequest p s).1.sgu.released = p.sgu.released ∧ (newRequest p s).1.sgu.indication = p.sgu.indication ∧
    (newRequest p s).1.sgu.bus = p.sgu.bus ∧ (newRequest p s).1.rtu.presets = p.rtu.presets ∧
    (newRequest p s).1.rtu.routable = p.rtu.routable ∧ (newRequest p s).1.rtu.override = p.rtu.override ∧
    (newRequest p s).1.prt.rx = p.prt.rx ∧ (newRequest p s).1.prt.roomId = p.prt.roomId ∧
    (newRequest p s).1.prt.tableName = p.prt.tableName ∧ (newRequest p s).1.line = p.line ∧
    (newRequest p s).1.maskOf = p.maskOf := by
  simp only [newRequest]
  (repeat' split) <;> simp

@[simp] theorem delegatePress_keeps (p : Part) (s : SeatId) :
    (delegatePress p s).1.smn.occupied = p.smn.occupied ∧ (delegatePress p s).1.smn.grace = p.smn.grace ∧
    (delegatePress p s).1.flc.mode = p.flc.mode ∧ (delegatePress p s).1.flc.limit = p.flc.limit ∧
    (delegatePress p s).1.flc.speak = p.flc.speak ∧ (delegatePress p s).1.flc.enforce = p.flc.enforce ∧
    (delegatePress p s).1.flc.lead = p.flc.lead ∧ (delegatePress p s).1.flc.isOpen = p.flc.isOpen ∧
    (delegatePress p s).1.flc.seconds = p.flc.seconds ∧ (delegatePress p s).1.flc.preset = p.flc.preset ∧
    (delegatePress p s).1.sgu.gain = p.sgu.gain ∧ (delegatePress p s).1.sgu.patterns = p.sgu.patterns ∧
    (delegatePress p s).1.sgu.polarity = p.sgu.polarity ∧ (delegatePress p s).1.sgu.blink = p.sgu.blink ∧
    (delegatePress p s).1.sgu.released = p.sgu.released ∧ (delegatePress p s).1.sgu.indication = p.sgu.indication ∧
    (delegatePress p s).1.sgu.bus = p.sgu.bus ∧ (delegatePress p s).1.rtu.presets = p.rtu.presets ∧
    (delegatePress p s).1.rtu.routable = p.rtu.routable ∧ (delegatePress p s).1.rtu.override = p.rtu.override ∧
    (delegatePress p s).1.prt.rx = p.prt.rx ∧ (delegatePress p s).1.prt.roomId = p.prt.roomId ∧
    (delegatePress p s).1.prt.tableName = p.prt.tableName ∧ (delegatePress p s).1.line = p.line ∧
    (delegatePress p s).1.maskOf = p.maskOf := by
  simp only [delegatePress]
  (repeat' split) <;> simp

@[simp] theorem chairToggle_keeps (p : Part) :
    (chairToggle p).1.flc.mode = p.flc.mode ∧ (chairToggle p).1.flc.limit = p.flc.limit ∧
    (chairToggle p).1.flc.speak = p.flc.speak ∧ (chairToggle p).1.flc.enforce = p.flc.enforce ∧
    (chairToggle p).1.flc.lead = p.flc.lead ∧ (chairToggle p).1.flc.isOpen = p.flc.isOpen ∧
    (chairToggle p).1.flc.queue = p.flc.queue ∧ (chairToggle p).1.flc.nextNumber = p.flc.nextNumber ∧
    (chairToggle p).1.flc.seconds = p.flc.seconds ∧ (chairToggle p).1.flc.preset = p.flc.preset ∧
    (chairToggle p).1.sgu.gain = p.sgu.gain ∧ (chairToggle p).1.sgu.patterns = p.sgu.patterns ∧
    (chairToggle p).1.sgu.polarity = p.sgu.polarity ∧ (chairToggle p).1.sgu.blink = p.sgu.blink ∧
    (chairToggle p).1.sgu.released = p.sgu.released ∧ (chairToggle p).1.sgu.indication = p.sgu.indication ∧
    (chairToggle p).1.sgu.bus = p.sgu.bus ∧ (chairToggle p).1.rtu.presets = p.rtu.presets ∧
    (chairToggle p).1.rtu.routable = p.rtu.routable ∧ (chairToggle p).1.rtu.override = p.rtu.override ∧
    (chairToggle p).1.prt.rx = p.prt.rx ∧ (chairToggle p).1.prt.roomId = p.prt.roomId ∧
    (chairToggle p).1.prt.tableName = p.prt.tableName ∧ (chairToggle p).1.line = p.line ∧
    (chairToggle p).1.maskOf = p.maskOf := by
  simp only [chairToggle]
  (repeat' split) <;> simp

@[simp] theorem grantRequest_keeps (p : Part) (s : SeatId) :
    (grantRequest p s).1.smn.occupied = p.smn.occupied ∧ (grantRequest p s).1.smn.grace = p.smn.grace ∧
    (grantRequest p s).1.flc.mode = p.flc.mode ∧ (grantRequest p s).1.flc.limit = p.flc.limit ∧
    (grantRequest p s).1.flc.speak = p.flc.speak ∧ (grantRequest p s).1.flc.enforce = p.flc.enforce ∧
    (grantRequest p s).1.flc.lead = p.flc.lead ∧ (grantRequest p s).1.flc.isOpen = p.flc.isOpen ∧
    (grantRequest p s).1.flc.seconds = p.flc.seconds ∧ (grantRequest p s).1.flc.preset = p.flc.preset ∧
    (grantRequest p s).1.sgu.gain = p.sgu.gain ∧ (grantRequest p s).1.sgu.patterns = p.sgu.patterns ∧
    (grantRequest p s).1.sgu.polarity = p.sgu.polarity ∧ (grantRequest p s).1.sgu.refused = p.sgu.refused ∧
    (grantRequest p s).1.sgu.blink = p.sgu.blink ∧ (grantRequest p s).1.sgu.released = p.sgu.released ∧
    (grantRequest p s).1.sgu.indication = p.sgu.indication ∧ (grantRequest p s).1.sgu.bus = p.sgu.bus ∧
    (grantRequest p s).1.prt.rx = p.prt.rx ∧ (grantRequest p s).1.prt.roomId = p.prt.roomId ∧
    (grantRequest p s).1.prt.tableName = p.prt.tableName ∧ (grantRequest p s).1.line = p.line ∧
    (grantRequest p s).1.maskOf = p.maskOf := by
  simp only [grantRequest]
  (repeat' split) <;> simp

@[simp] theorem grantNext_keeps (p : Part) :
    (grantNext p).1.smn.occupied = p.smn.occupied ∧ (grantNext p).1.smn.grace = p.smn.grace ∧
    (grantNext p).1.flc.mode = p.flc.mode ∧ (grantNext p).1.flc.limit = p.flc.limit ∧
    (grantNext p).1.flc.speak = p.flc.speak ∧ (grantNext p).1.flc.enforce = p.flc.enforce ∧
    (grantNext p).1.flc.lead = p.flc.lead ∧ (grantNext p).1.flc.isOpen = p.flc.isOpen ∧
    (grantNext p).1.flc.seconds = p.flc.seconds ∧ (grantNext p).1.flc.preset = p.flc.preset ∧
    (grantNext p).1.sgu.gain = p.sgu.gain ∧ (grantNext p).1.sgu.patterns = p.sgu.patterns ∧
    (grantNext p).1.sgu.polarity = p.sgu.polarity ∧ (grantNext p).1.sgu.refused = p.sgu.refused ∧
    (grantNext p).1.sgu.blink = p.sgu.blink ∧ (grantNext p).1.sgu.released = p.sgu.released ∧
    (grantNext p).1.sgu.indication = p.sgu.indication ∧ (grantNext p).1.sgu.bus = p.sgu.bus ∧
    (grantNext p).1.prt.rx = p.prt.rx ∧ (grantNext p).1.prt.roomId = p.prt.roomId ∧
    (grantNext p).1.prt.tableName = p.prt.tableName ∧ (grantNext p).1.line = p.line ∧
    (grantNext p).1.maskOf = p.maskOf := by
  simp only [grantNext]
  (repeat' split) <;> simp

@[simp] theorem chairNext_keeps (p : Part) :
    (chairNext p).smn.occupied = p.smn.occupied ∧ (chairNext p).smn.grace = p.smn.grace ∧
    (chairNext p).flc.mode = p.flc.mode ∧ (chairNext p).flc.limit = p.flc.limit ∧
    (chairNext p).flc.speak = p.flc.speak ∧ (chairNext p).flc.enforce = p.flc.enforce ∧
    (chairNext p).flc.lead = p.flc.lead ∧ (chairNext p).flc.isOpen = p.flc.isOpen ∧
    (chairNext p).flc.seconds = p.flc.seconds ∧ (chairNext p).flc.preset = p.flc.preset ∧
    (chairNext p).sgu.gain = p.sgu.gain ∧ (chairNext p).sgu.patterns = p.sgu.patterns ∧
    (chairNext p).sgu.polarity = p.sgu.polarity ∧ (chairNext p).sgu.blink = p.sgu.blink ∧
    (chairNext p).sgu.released = p.sgu.released ∧ (chairNext p).sgu.indication = p.sgu.indication ∧
    (chairNext p).sgu.bus = p.sgu.bus ∧ (chairNext p).prt.rx = p.prt.rx ∧ (chairNext p).prt.roomId = p.prt.roomId ∧
    (chairNext p).prt.tableName = p.prt.tableName ∧ (chairNext p).line = p.line ∧
    (chairNext p).maskOf = p.maskOf := by
  simp only [chairNext]
  (repeat' split) <;> simp

@[simp] theorem closeEach_keeps (p : Part) (ks : List SlotId) (r : SlotReason) :
    (closeEach p ks r).flc.mode = p.flc.mode ∧ (closeEach p ks r).flc.limit = p.flc.limit ∧
    (closeEach p ks r).flc.speak = p.flc.speak ∧ (closeEach p ks r).flc.enforce = p.flc.enforce ∧
    (closeEach p ks r).flc.lead = p.flc.lead ∧ (closeEach p ks r).flc.isOpen = p.flc.isOpen ∧
    (closeEach p ks r).flc.queue = p.flc.queue ∧ (closeEach p ks r).flc.nextNumber = p.flc.nextNumber ∧
    (closeEach p ks r).flc.seconds = p.flc.seconds ∧ (closeEach p ks r).flc.preset = p.flc.preset ∧
    (closeEach p ks r).sgu.gain = p.sgu.gain ∧ (closeEach p ks r).sgu.patterns = p.sgu.patterns ∧
    (closeEach p ks r).sgu.polarity = p.sgu.polarity ∧ (closeEach p ks r).sgu.refused = p.sgu.refused ∧
    (closeEach p ks r).sgu.blink = p.sgu.blink ∧ (closeEach p ks r).sgu.released = p.sgu.released ∧
    (closeEach p ks r).sgu.indication = p.sgu.indication ∧ (closeEach p ks r).sgu.bus = p.sgu.bus ∧
    (closeEach p ks r).rtu.presets = p.rtu.presets ∧ (closeEach p ks r).rtu.routable = p.rtu.routable ∧
    (closeEach p ks r).rtu.override = p.rtu.override ∧ (closeEach p ks r).prt.rx = p.prt.rx ∧
    (closeEach p ks r).prt.roomId = p.prt.roomId ∧ (closeEach p ks r).prt.tableName = p.prt.tableName ∧
    (closeEach p ks r).line = p.line ∧ (closeEach p ks r).maskOf = p.maskOf := by
  simp [closeEach]

@[simp] theorem muteAll_keeps (p : Part) :
    (muteAll p).flc.mode = p.flc.mode ∧ (muteAll p).flc.limit = p.flc.limit ∧ (muteAll p).flc.speak = p.flc.speak ∧
    (muteAll p).flc.enforce = p.flc.enforce ∧ (muteAll p).flc.lead = p.flc.lead ∧
    (muteAll p).flc.isOpen = p.flc.isOpen ∧ (muteAll p).flc.queue = p.flc.queue ∧
    (muteAll p).flc.nextNumber = p.flc.nextNumber ∧ (muteAll p).flc.seconds = p.flc.seconds ∧
    (muteAll p).flc.preset = p.flc.preset ∧ (muteAll p).sgu.gain = p.sgu.gain ∧
    (muteAll p).sgu.patterns = p.sgu.patterns ∧ (muteAll p).sgu.polarity = p.sgu.polarity ∧
    (muteAll p).sgu.refused = p.sgu.refused ∧ (muteAll p).sgu.blink = p.sgu.blink ∧
    (muteAll p).sgu.released = p.sgu.released ∧ (muteAll p).sgu.indication = p.sgu.indication ∧
    (muteAll p).sgu.bus = p.sgu.bus ∧ (muteAll p).rtu.presets = p.rtu.presets ∧
    (muteAll p).rtu.routable = p.rtu.routable ∧ (muteAll p).rtu.override = p.rtu.override ∧
    (muteAll p).prt.rx = p.prt.rx ∧ (muteAll p).prt.roomId = p.prt.roomId ∧
    (muteAll p).prt.tableName = p.prt.tableName ∧ (muteAll p).line = p.line ∧ (muteAll p).maskOf = p.maskOf := by
  simp [muteAll]

@[simp] theorem setMode_keeps (p : Part) (m : FloorMode) :
    (setMode p m).smn.occupied = p.smn.occupied ∧ (setMode p m).smn.grace = p.smn.grace ∧
    (setMode p m).flc.limit = p.flc.limit ∧ (setMode p m).flc.speak = p.flc.speak ∧
    (setMode p m).flc.enforce = p.flc.enforce ∧ (setMode p m).flc.lead = p.flc.lead ∧
    (setMode p m).flc.isOpen = p.flc.isOpen ∧ (setMode p m).flc.nextNumber = p.flc.nextNumber ∧
    (setMode p m).flc.seconds = p.flc.seconds ∧ (setMode p m).flc.preset = p.flc.preset ∧
    (setMode p m).sgu.gain = p.sgu.gain ∧ (setMode p m).sgu.patterns = p.sgu.patterns ∧
    (setMode p m).sgu.polarity = p.sgu.polarity ∧ (setMode p m).sgu.refused = p.sgu.refused ∧
    (setMode p m).sgu.blink = p.sgu.blink ∧ (setMode p m).sgu.released = p.sgu.released ∧
    (setMode p m).sgu.indication = p.sgu.indication ∧ (setMode p m).sgu.bus = p.sgu.bus ∧
    (setMode p m).prt.rx = p.prt.rx ∧ (setMode p m).prt.roomId = p.prt.roomId ∧
    (setMode p m).prt.tableName = p.prt.tableName ∧ (setMode p m).line = p.line ∧
    (setMode p m).maskOf = p.maskOf := by
  simp [setMode]

@[simp] theorem setLimit_keeps (p : Part) (n : Nat) :
    (setLimit p n).smn.occupied = p.smn.occupied ∧ (setLimit p n).smn.grace = p.smn.grace ∧
    (setLimit p n).flc.mode = p.flc.mode ∧ (setLimit p n).flc.speak = p.flc.speak ∧
    (setLimit p n).flc.enforce = p.flc.enforce ∧ (setLimit p n).flc.lead = p.flc.lead ∧
    (setLimit p n).flc.isOpen = p.flc.isOpen ∧ (setLimit p n).flc.nextNumber = p.flc.nextNumber ∧
    (setLimit p n).flc.seconds = p.flc.seconds ∧ (setLimit p n).flc.preset = p.flc.preset ∧
    (setLimit p n).sgu.gain = p.sgu.gain ∧ (setLimit p n).sgu.patterns = p.sgu.patterns ∧
    (setLimit p n).sgu.polarity = p.sgu.polarity ∧ (setLimit p n).sgu.refused = p.sgu.refused ∧
    (setLimit p n).sgu.blink = p.sgu.blink ∧ (setLimit p n).sgu.released = p.sgu.released ∧
    (setLimit p n).sgu.indication = p.sgu.indication ∧ (setLimit p n).sgu.bus = p.sgu.bus ∧
    (setLimit p n).rtu.presets = p.rtu.presets ∧ (setLimit p n).rtu.routable = p.rtu.routable ∧
    (setLimit p n).rtu.override = p.rtu.override ∧ (setLimit p n).prt.rx = p.prt.rx ∧
    (setLimit p n).prt.roomId = p.prt.roomId ∧ (setLimit p n).prt.tableName = p.prt.tableName ∧
    (setLimit p n).line = p.line ∧ (setLimit p n).maskOf = p.maskOf := by
  simp only [setLimit]
  (repeat' split) <;> simp

@[simp] theorem evaluate_keeps (p : Part) (k : SlotId) :
    (evaluate p k).flc.mode = p.flc.mode ∧ (evaluate p k).flc.limit = p.flc.limit ∧
    (evaluate p k).flc.speak = p.flc.speak ∧ (evaluate p k).flc.enforce = p.flc.enforce ∧
    (evaluate p k).flc.lead = p.flc.lead ∧ (evaluate p k).flc.isOpen = p.flc.isOpen ∧
    (evaluate p k).flc.queue = p.flc.queue ∧ (evaluate p k).flc.nextNumber = p.flc.nextNumber ∧
    (evaluate p k).flc.seconds = p.flc.seconds ∧ (evaluate p k).flc.preset = p.flc.preset ∧
    (evaluate p k).sgu.gain = p.sgu.gain ∧ (evaluate p k).sgu.patterns = p.sgu.patterns ∧
    (evaluate p k).sgu.polarity = p.sgu.polarity ∧ (evaluate p k).sgu.refused = p.sgu.refused ∧
    (evaluate p k).sgu.blink = p.sgu.blink ∧ (evaluate p k).sgu.released = p.sgu.released ∧
    (evaluate p k).sgu.indication = p.sgu.indication ∧ (evaluate p k).sgu.bus = p.sgu.bus ∧
    (evaluate p k).rtu.presets = p.rtu.presets ∧ (evaluate p k).rtu.routable = p.rtu.routable ∧
    (evaluate p k).rtu.override = p.rtu.override ∧ (evaluate p k).prt.rx = p.prt.rx ∧
    (evaluate p k).prt.roomId = p.prt.roomId ∧ (evaluate p k).prt.tableName = p.prt.tableName ∧
    (evaluate p k).line = p.line ∧ (evaluate p k).maskOf = p.maskOf := by
  simp only [evaluate]
  (repeat' split) <;> simp

@[simp] theorem evaluateAll_keeps (p : Part) :
    (evaluateAll p).flc.mode = p.flc.mode ∧ (evaluateAll p).flc.limit = p.flc.limit ∧
    (evaluateAll p).flc.speak = p.flc.speak ∧ (evaluateAll p).flc.enforce = p.flc.enforce ∧
    (evaluateAll p).flc.lead = p.flc.lead ∧ (evaluateAll p).flc.isOpen = p.flc.isOpen ∧
    (evaluateAll p).flc.queue = p.flc.queue ∧ (evaluateAll p).flc.nextNumber = p.flc.nextNumber ∧
    (evaluateAll p).flc.seconds = p.flc.seconds ∧ (evaluateAll p).flc.preset = p.flc.preset ∧
    (evaluateAll p).sgu.gain = p.sgu.gain ∧ (evaluateAll p).sgu.patterns = p.sgu.patterns ∧
    (evaluateAll p).sgu.polarity = p.sgu.polarity ∧ (evaluateAll p).sgu.refused = p.sgu.refused ∧
    (evaluateAll p).sgu.blink = p.sgu.blink ∧ (evaluateAll p).sgu.released = p.sgu.released ∧
    (evaluateAll p).sgu.indication = p.sgu.indication ∧ (evaluateAll p).sgu.bus = p.sgu.bus ∧
    (evaluateAll p).rtu.presets = p.rtu.presets ∧ (evaluateAll p).rtu.routable = p.rtu.routable ∧
    (evaluateAll p).rtu.override = p.rtu.override ∧ (evaluateAll p).prt.rx = p.prt.rx ∧
    (evaluateAll p).prt.roomId = p.prt.roomId ∧ (evaluateAll p).prt.tableName = p.prt.tableName ∧
    (evaluateAll p).line = p.line ∧ (evaluateAll p).maskOf = p.maskOf := by
  simp [evaluateAll]

@[simp] theorem setSpeakLimit_keeps (p : Part) (n : Nat) (enforce : Bool) :
    (setSpeakLimit p n enforce).flc.mode = p.flc.mode ∧ (setSpeakLimit p n enforce).flc.limit = p.flc.limit ∧
    (setSpeakLimit p n enforce).flc.lead = p.flc.lead ∧ (setSpeakLimit p n enforce).flc.isOpen = p.flc.isOpen ∧
    (setSpeakLimit p n enforce).flc.queue = p.flc.queue ∧
    (setSpeakLimit p n enforce).flc.nextNumber = p.flc.nextNumber ∧
    (setSpeakLimit p n enforce).flc.seconds = p.flc.seconds ∧ (setSpeakLimit p n enforce).flc.preset = p.flc.preset ∧
    (setSpeakLimit p n enforce).sgu.gain = p.sgu.gain ∧ (setSpeakLimit p n enforce).sgu.patterns = p.sgu.patterns ∧
    (setSpeakLimit p n enforce).sgu.polarity = p.sgu.polarity ∧
    (setSpeakLimit p n enforce).sgu.refused = p.sgu.refused ∧ (setSpeakLimit p n enforce).sgu.blink = p.sgu.blink ∧
    (setSpeakLimit p n enforce).sgu.released = p.sgu.released ∧
    (setSpeakLimit p n enforce).sgu.indication = p.sgu.indication ∧ (setSpeakLimit p n enforce).sgu.bus = p.sgu.bus ∧
    (setSpeakLimit p n enforce).rtu.presets = p.rtu.presets ∧
    (setSpeakLimit p n enforce).rtu.routable = p.rtu.routable ∧
    (setSpeakLimit p n enforce).rtu.override = p.rtu.override ∧ (setSpeakLimit p n enforce).prt.rx = p.prt.rx ∧
    (setSpeakLimit p n enforce).prt.roomId = p.prt.roomId ∧
    (setSpeakLimit p n enforce).prt.tableName = p.prt.tableName ∧ (setSpeakLimit p n enforce).line = p.line ∧
    (setSpeakLimit p n enforce).maskOf = p.maskOf := by
  simp [setSpeakLimit]

@[simp] theorem countSlotSecond_keeps (p : Part) (k : SlotId) :
    (countSlotSecond p k).smn.occupied = p.smn.occupied ∧ (countSlotSecond p k).smn.grace = p.smn.grace ∧
    (countSlotSecond p k).sgu.gain = p.sgu.gain ∧ (countSlotSecond p k).sgu.patterns = p.sgu.patterns ∧
    (countSlotSecond p k).sgu.polarity = p.sgu.polarity ∧ (countSlotSecond p k).sgu.refused = p.sgu.refused ∧
    (countSlotSecond p k).sgu.blink = p.sgu.blink ∧ (countSlotSecond p k).sgu.released = p.sgu.released ∧
    (countSlotSecond p k).sgu.indication = p.sgu.indication ∧ (countSlotSecond p k).sgu.bus = p.sgu.bus ∧
    (countSlotSecond p k).line = p.line ∧ (countSlotSecond p k).maskOf = p.maskOf ∧
    (countSlotSecond p k).notices = p.notices := by
  simp only [countSlotSecond]
  (repeat' split) <;> simp

@[simp] theorem floorSecond_keeps (p : Part) :
    (floorSecond p).smn.occupied = p.smn.occupied ∧ (floorSecond p).smn.grace = p.smn.grace ∧
    (floorSecond p).flc.mode = p.flc.mode ∧ (floorSecond p).flc.limit = p.flc.limit ∧
    (floorSecond p).flc.speak = p.flc.speak ∧ (floorSecond p).flc.enforce = p.flc.enforce ∧
    (floorSecond p).flc.lead = p.flc.lead ∧ (floorSecond p).flc.isOpen = p.flc.isOpen ∧
    (floorSecond p).flc.queue = p.flc.queue ∧ (floorSecond p).flc.nextNumber = p.flc.nextNumber ∧
    (floorSecond p).flc.preset = p.flc.preset ∧ (floorSecond p).sgu.gain = p.sgu.gain ∧
    (floorSecond p).sgu.patterns = p.sgu.patterns ∧ (floorSecond p).sgu.polarity = p.sgu.polarity ∧
    (floorSecond p).sgu.refused = p.sgu.refused ∧ (floorSecond p).sgu.blink = p.sgu.blink ∧
    (floorSecond p).sgu.released = p.sgu.released ∧ (floorSecond p).sgu.indication = p.sgu.indication ∧
    (floorSecond p).sgu.bus = p.sgu.bus ∧ (floorSecond p).rtu.presets = p.rtu.presets ∧
    (floorSecond p).rtu.routable = p.rtu.routable ∧ (floorSecond p).rtu.override = p.rtu.override ∧
    (floorSecond p).prt.rx = p.prt.rx ∧ (floorSecond p).prt.roomId = p.prt.roomId ∧
    (floorSecond p).prt.tableName = p.prt.tableName ∧ (floorSecond p).line = p.line ∧
    (floorSecond p).maskOf = p.maskOf := by
  simp [floorSecond]

@[simp] theorem openFloor_keeps (p : Part) :
    (openFloor p).flc.mode = p.flc.mode ∧ (openFloor p).flc.limit = p.flc.limit ∧
    (openFloor p).flc.speak = p.flc.speak ∧ (openFloor p).flc.enforce = p.flc.enforce ∧
    (openFloor p).flc.lead = p.flc.lead ∧ (openFloor p).flc.queue = p.flc.queue ∧
    (openFloor p).flc.nextNumber = p.flc.nextNumber ∧ (openFloor p).flc.seconds = p.flc.seconds ∧
    (openFloor p).flc.openOrder = p.flc.openOrder ∧ (openFloor p).flc.preset = p.flc.preset ∧
    (openFloor p).prt.rx = p.prt.rx ∧ (openFloor p).prt.roomId = p.prt.roomId ∧
    (openFloor p).prt.tableName = p.prt.tableName ∧ (openFloor p).line = p.line ∧
    (openFloor p).maskOf = p.maskOf := by
  simp [openFloor]

@[simp] theorem floorCloseSlot_keeps (p : Part) (k : SlotId) :
    (floorCloseSlot p k).flc.mode = p.flc.mode ∧ (floorCloseSlot p k).flc.limit = p.flc.limit ∧
    (floorCloseSlot p k).flc.speak = p.flc.speak ∧ (floorCloseSlot p k).flc.enforce = p.flc.enforce ∧
    (floorCloseSlot p k).flc.lead = p.flc.lead ∧ (floorCloseSlot p k).flc.isOpen = p.flc.isOpen ∧
    (floorCloseSlot p k).flc.queue = p.flc.queue ∧ (floorCloseSlot p k).flc.nextNumber = p.flc.nextNumber ∧
    (floorCloseSlot p k).flc.seconds = p.flc.seconds ∧ (floorCloseSlot p k).flc.preset = p.flc.preset ∧
    (floorCloseSlot p k).sgu.gain = p.sgu.gain ∧ (floorCloseSlot p k).sgu.patterns = p.sgu.patterns ∧
    (floorCloseSlot p k).sgu.polarity = p.sgu.polarity ∧ (floorCloseSlot p k).sgu.refused = p.sgu.refused ∧
    (floorCloseSlot p k).sgu.blink = p.sgu.blink ∧ (floorCloseSlot p k).sgu.released = p.sgu.released ∧
    (floorCloseSlot p k).sgu.indication = p.sgu.indication ∧ (floorCloseSlot p k).sgu.bus = p.sgu.bus ∧
    (floorCloseSlot p k).rtu.presets = p.rtu.presets ∧ (floorCloseSlot p k).rtu.routable = p.rtu.routable ∧
    (floorCloseSlot p k).rtu.override = p.rtu.override ∧ (floorCloseSlot p k).prt.rx = p.prt.rx ∧
    (floorCloseSlot p k).prt.roomId = p.prt.roomId ∧ (floorCloseSlot p k).prt.tableName = p.prt.tableName ∧
    (floorCloseSlot p k).line = p.line ∧ (floorCloseSlot p k).maskOf = p.maskOf := by
  simp only [floorCloseSlot]
  (repeat' split) <;> simp

@[simp] theorem closeFloor_keeps (p : Part) :
    (closeFloor p).flc.mode = p.flc.mode ∧ (closeFloor p).flc.limit = p.flc.limit ∧
    (closeFloor p).flc.speak = p.flc.speak ∧ (closeFloor p).flc.enforce = p.flc.enforce ∧
    (closeFloor p).flc.lead = p.flc.lead ∧ (closeFloor p).flc.nextNumber = p.flc.nextNumber ∧
    (closeFloor p).flc.seconds = p.flc.seconds ∧ (closeFloor p).flc.preset = p.flc.preset ∧
    (closeFloor p).sgu.gain = p.sgu.gain ∧ (closeFloor p).sgu.patterns = p.sgu.patterns ∧
    (closeFloor p).sgu.polarity = p.sgu.polarity ∧ (closeFloor p).sgu.refused = p.sgu.refused ∧
    (closeFloor p).sgu.blink = p.sgu.blink ∧ (closeFloor p).sgu.released = p.sgu.released ∧
    (closeFloor p).sgu.indication = p.sgu.indication ∧ (closeFloor p).sgu.bus = p.sgu.bus ∧
    (closeFloor p).rtu.presets = p.rtu.presets ∧ (closeFloor p).rtu.routable = p.rtu.routable ∧
    (closeFloor p).rtu.override = p.rtu.override ∧ (closeFloor p).prt.rx = p.prt.rx ∧
    (closeFloor p).prt.roomId = p.prt.roomId ∧ (closeFloor p).prt.tableName = p.prt.tableName ∧
    (closeFloor p).line = p.line ∧ (closeFloor p).maskOf = p.maskOf := by
  simp [closeFloor]

@[simp] theorem applyFloorPreset_keeps (p : Part) (f : FloorPreset) :
    (applyFloorPreset p f).flc.lead = p.flc.lead ∧ (applyFloorPreset p f).flc.isOpen = p.flc.isOpen ∧
    (applyFloorPreset p f).flc.queue = p.flc.queue ∧ (applyFloorPreset p f).flc.nextNumber = p.flc.nextNumber ∧
    (applyFloorPreset p f).flc.seconds = p.flc.seconds ∧ (applyFloorPreset p f).flc.openOrder = p.flc.openOrder ∧
    (applyFloorPreset p f).flc.preset = p.flc.preset ∧ (applyFloorPreset p f).prt.rx = p.prt.rx ∧
    (applyFloorPreset p f).prt.roomId = p.prt.roomId ∧ (applyFloorPreset p f).prt.tableName = p.prt.tableName ∧
    (applyFloorPreset p f).line = p.line ∧ (applyFloorPreset p f).maskOf = p.maskOf := by
  simp [applyFloorPreset]

@[simp] theorem seatVacant_keeps (p : Part) (s : SeatId) :
    (seatVacant p s).flc.mode = p.flc.mode ∧ (seatVacant p s).flc.limit = p.flc.limit ∧
    (seatVacant p s).flc.speak = p.flc.speak ∧ (seatVacant p s).flc.enforce = p.flc.enforce ∧
    (seatVacant p s).flc.lead = p.flc.lead ∧ (seatVacant p s).flc.isOpen = p.flc.isOpen ∧
    (seatVacant p s).flc.nextNumber = p.flc.nextNumber ∧ (seatVacant p s).flc.seconds = p.flc.seconds ∧
    (seatVacant p s).flc.preset = p.flc.preset ∧ (seatVacant p s).sgu.gain = p.sgu.gain ∧
    (seatVacant p s).sgu.patterns = p.sgu.patterns ∧ (seatVacant p s).sgu.polarity = p.sgu.polarity ∧
    (seatVacant p s).sgu.refused = p.sgu.refused ∧ (seatVacant p s).sgu.blink = p.sgu.blink ∧
    (seatVacant p s).sgu.released = p.sgu.released ∧ (seatVacant p s).sgu.indication = p.sgu.indication ∧
    (seatVacant p s).sgu.bus = p.sgu.bus ∧ (seatVacant p s).rtu.presets = p.rtu.presets ∧
    (seatVacant p s).rtu.routable = p.rtu.routable ∧ (seatVacant p s).rtu.override = p.rtu.override ∧
    (seatVacant p s).prt.rx = p.prt.rx ∧ (seatVacant p s).prt.roomId = p.prt.roomId ∧
    (seatVacant p s).prt.tableName = p.prt.tableName ∧ (seatVacant p s).line = p.line ∧
    (seatVacant p s).maskOf = p.maskOf := by
  simp only [seatVacant]
  (repeat' split) <;> simp

@[simp] theorem resetFloor_keeps (p : Part) :
    (resetFloor p).flc.lead = p.flc.lead ∧ (resetFloor p).flc.nextNumber = p.flc.nextNumber ∧
    (resetFloor p).flc.seconds = p.flc.seconds ∧ (resetFloor p).flc.preset = p.flc.preset ∧
    (resetFloor p).sgu.gain = p.sgu.gain ∧ (resetFloor p).sgu.patterns = p.sgu.patterns ∧
    (resetFloor p).sgu.polarity = p.sgu.polarity ∧ (resetFloor p).sgu.refused = p.sgu.refused ∧
    (resetFloor p).sgu.blink = p.sgu.blink ∧ (resetFloor p).sgu.indication = p.sgu.indication ∧
    (resetFloor p).sgu.bus = p.sgu.bus ∧ (resetFloor p).rtu.presets = p.rtu.presets ∧
    (resetFloor p).rtu.routable = p.rtu.routable ∧ (resetFloor p).rtu.override = p.rtu.override ∧
    (resetFloor p).prt.rx = p.prt.rx ∧ (resetFloor p).prt.roomId = p.prt.roomId ∧
    (resetFloor p).prt.tableName = p.prt.tableName ∧ (resetFloor p).line = p.line ∧
    (resetFloor p).maskOf = p.maskOf := by
  simp [resetFloor]

end Sys2Proof.Machine.Part
end

