-- ==== Sys2Proof/Laws/KeepsMeeting.lean ====
section
/-! SUPPORT. The frames of the operations over the sessions, the seats, the sources and the sensing, piece by piece: what each one leaves as it is in the blocks that it changes, and in the port records. -/

namespace Sys2Proof.Machine.Part

@[simp] theorem putSession_keeps (p : Part) (x : Option Session) :
    (putSession p x).ssu.pendingStart = p.ssu.pendingStart ∧ (putSession p x).ssu.dwell = p.ssu.dwell ∧
    (putSession p x).ssu.store = p.ssu.store ∧ (putSession p x).ssu.lost = p.ssu.lost ∧
    (putSession p x).ssu.nextSummary = p.ssu.nextSummary ∧ (putSession p x).ssu.params = p.ssu.params ∧
    (putSession p x).prt.rx = p.prt.rx ∧ (putSession p x).prt.roomId = p.prt.roomId ∧
    (putSession p x).prt.tableName = p.prt.tableName ∧ (putSession p x).line = p.line ∧
    (putSession p x).maskOf = p.maskOf := by
  simp [putSession]

@[simp] theorem setPendingStart_keeps (p : Part) (x : Option Nat) :
    (setPendingStart p x).ssu.session = p.ssu.session ∧ (setPendingStart p x).ssu.dwell = p.ssu.dwell ∧
    (setPendingStart p x).ssu.store = p.ssu.store ∧ (setPendingStart p x).ssu.lost = p.ssu.lost ∧
    (setPendingStart p x).ssu.nextSummary = p.ssu.nextSummary ∧ (setPendingStart p x).ssu.params = p.ssu.params ∧
    (setPendingStart p x).prt.rx = p.prt.rx ∧ (setPendingStart p x).prt.roomId = p.prt.roomId ∧
    (setPendingStart p x).prt.tableName = p.prt.tableName ∧ (setPendingStart p x).line = p.line ∧
    (setPendingStart p x).maskOf = p.maskOf := by
  simp [setPendingStart]

@[simp] theorem enterWindup_keeps (p : Part) (r : CloseReason) :
    (enterWindup p r).flc.mode = p.flc.mode ∧ (enterWindup p r).flc.limit = p.flc.limit ∧
    (enterWindup p r).flc.speak = p.flc.speak ∧ (enterWindup p r).flc.enforce = p.flc.enforce ∧
    (enterWindup p r).flc.lead = p.flc.lead ∧ (enterWindup p r).flc.nextNumber = p.flc.nextNumber ∧
    (enterWindup p r).flc.seconds = p.flc.seconds ∧ (enterWindup p r).flc.preset = p.flc.preset ∧
    (enterWindup p r).sgu.gain = p.sgu.gain ∧ (enterWindup p r).sgu.patterns = p.sgu.patterns ∧
    (enterWindup p r).sgu.polarity = p.sgu.polarity ∧ (enterWindup p r).sgu.refused = p.sgu.refused ∧
    (enterWindup p r).sgu.blink = p.sgu.blink ∧ (enterWindup p r).sgu.released = p.sgu.released ∧
    (enterWindup p r).sgu.indication = p.sgu.indication ∧ (enterWindup p r).sgu.bus = p.sgu.bus ∧
    (enterWindup p r).rtu.presets = p.rtu.presets ∧ (enterWindup p r).rtu.routable = p.rtu.routable ∧
    (enterWindup p r).rtu.override = p.rtu.override ∧ (enterWindup p r).ssu.pendingStart = p.ssu.pendingStart ∧
    (enterWindup p r).ssu.dwell = p.ssu.dwell ∧ (enterWindup p r).ssu.store = p.ssu.store ∧
    (enterWindup p r).ssu.lost = p.ssu.lost ∧ (enterWindup p r).ssu.nextSummary = p.ssu.nextSummary ∧
    (enterWindup p r).ssu.params = p.ssu.params ∧ (enterWindup p r).prt.rx = p.prt.rx ∧
    (enterWindup p r).prt.roomId = p.prt.roomId ∧ (enterWindup p r).prt.tableName = p.prt.tableName ∧
    (enterWindup p r).line = p.line ∧ (enterWindup p r).maskOf = p.maskOf := by
  simp only [enterWindup]
  (repeat' split) <;> simp

@[simp] theorem stageStep_keeps (p : Part) :
    (stageStep p).flc.mode = p.flc.mode ∧ (stageStep p).flc.limit = p.flc.limit ∧
    (stageStep p).flc.speak = p.flc.speak ∧ (stageStep p).flc.enforce = p.flc.enforce ∧
    (stageStep p).flc.lead = p.flc.lead ∧ (stageStep p).flc.nextNumber = p.flc.nextNumber ∧
    (stageStep p).flc.seconds = p.flc.seconds ∧ (stageStep p).flc.preset = p.flc.preset ∧
    (stageStep p).sgu.gain = p.sgu.gain ∧ (stageStep p).sgu.patterns = p.sgu.patterns ∧
    (stageStep p).sgu.polarity = p.sgu.polarity ∧ (stageStep p).sgu.refused = p.sgu.refused ∧
    (stageStep p).sgu.blink = p.sgu.blink ∧ (stageStep p).sgu.released = p.sgu.released ∧
    (stageStep p).sgu.indication = p.sgu.indication ∧ (stageStep p).sgu.bus = p.sgu.bus ∧
    (stageStep p).rtu.presets = p.rtu.presets ∧ (stageStep p).rtu.routable = p.rtu.routable ∧
    (stageStep p).rtu.override = p.rtu.override ∧ (stageStep p).ssu.pendingStart = p.ssu.pendingStart ∧
    (stageStep p).ssu.dwell = p.ssu.dwell ∧ (stageStep p).ssu.store = p.ssu.store ∧
    (stageStep p).ssu.lost = p.ssu.lost ∧ (stageStep p).ssu.nextSummary = p.ssu.nextSummary ∧
    (stageStep p).ssu.params = p.ssu.params ∧ (stageStep p).prt.rx = p.prt.rx ∧
    (stageStep p).prt.roomId = p.prt.roomId ∧ (stageStep p).prt.tableName = p.prt.tableName ∧
    (stageStep p).line = p.line ∧ (stageStep p).maskOf = p.maskOf := by
  simp only [stageStep]
  (repeat' split) <;> simp

@[simp] theorem enterSession_keeps (p : Part) (x : Session) :
    (enterSession p x).flc.mode = p.flc.mode ∧ (enterSession p x).flc.limit = p.flc.limit ∧
    (enterSession p x).flc.speak = p.flc.speak ∧ (enterSession p x).flc.enforce = p.flc.enforce ∧
    (enterSession p x).flc.lead = p.flc.lead ∧ (enterSession p x).flc.nextNumber = p.flc.nextNumber ∧
    (enterSession p x).flc.seconds = p.flc.seconds ∧ (enterSession p x).flc.preset = p.flc.preset ∧
    (enterSession p x).sgu.gain = p.sgu.gain ∧ (enterSession p x).sgu.patterns = p.sgu.patterns ∧
    (enterSession p x).sgu.polarity = p.sgu.polarity ∧ (enterSession p x).sgu.refused = p.sgu.refused ∧
    (enterSession p x).sgu.blink = p.sgu.blink ∧ (enterSession p x).sgu.released = p.sgu.released ∧
    (enterSession p x).sgu.indication = p.sgu.indication ∧ (enterSession p x).sgu.bus = p.sgu.bus ∧
    (enterSession p x).rtu.presets = p.rtu.presets ∧ (enterSession p x).rtu.routable = p.rtu.routable ∧
    (enterSession p x).rtu.override = p.rtu.override ∧ (enterSession p x).ssu.pendingStart = p.ssu.pendingStart ∧
    (enterSession p x).ssu.dwell = p.ssu.dwell ∧ (enterSession p x).ssu.store = p.ssu.store ∧
    (enterSession p x).ssu.lost = p.ssu.lost ∧ (enterSession p x).ssu.nextSummary = p.ssu.nextSummary ∧
    (enterSession p x).ssu.params = p.ssu.params ∧ (enterSession p x).prt.rx = p.prt.rx ∧
    (enterSession p x).prt.roomId = p.prt.roomId ∧ (enterSession p x).prt.tableName = p.prt.tableName ∧
    (enterSession p x).line = p.line ∧ (enterSession p x).maskOf = p.maskOf := by
  simp [enterSession]

@[simp] theorem checkIn_keeps (p : Part) :
    (checkIn p).flc.mode = p.flc.mode ∧ (checkIn p).flc.limit = p.flc.limit ∧ (checkIn p).flc.speak = p.flc.speak ∧
    (checkIn p).flc.enforce = p.flc.enforce ∧ (checkIn p).flc.lead = p.flc.lead ∧
    (checkIn p).flc.nextNumber = p.flc.nextNumber ∧ (checkIn p).flc.seconds = p.flc.seconds ∧
    (checkIn p).flc.preset = p.flc.preset ∧ (checkIn p).sgu.gain = p.sgu.gain ∧
    (checkIn p).sgu.patterns = p.sgu.patterns ∧ (checkIn p).sgu.polarity = p.sgu.polarity ∧
    (checkIn p).sgu.refused = p.sgu.refused ∧ (checkIn p).sgu.blink = p.sgu.blink ∧
    (checkIn p).sgu.released = p.sgu.released ∧ (checkIn p).sgu.indication = p.sgu.indication ∧
    (checkIn p).sgu.bus = p.sgu.bus ∧ (checkIn p).rtu.presets = p.rtu.presets ∧
    (checkIn p).rtu.routable = p.rtu.routable ∧ (checkIn p).rtu.override = p.rtu.override ∧
    (checkIn p).ssu.pendingStart = p.ssu.pendingStart ∧ (checkIn p).ssu.dwell = p.ssu.dwell ∧
    (checkIn p).ssu.store = p.ssu.store ∧ (checkIn p).ssu.lost = p.ssu.lost ∧
    (checkIn p).ssu.nextSummary = p.ssu.nextSummary ∧ (checkIn p).ssu.params = p.ssu.params ∧
    (checkIn p).prt.rx = p.prt.rx ∧ (checkIn p).prt.roomId = p.prt.roomId ∧
    (checkIn p).prt.tableName = p.prt.tableName ∧ (checkIn p).line = p.line ∧ (checkIn p).maskOf = p.maskOf := by
  simp only [checkIn]
  (repeat' split) <;> simp

@[simp] theorem openBooked_keeps (p : Part) (b : Booking) :
    (openBooked p b).flc.lead = p.flc.lead ∧ (openBooked p b).flc.nextNumber = p.flc.nextNumber ∧
    (openBooked p b).flc.seconds = p.flc.seconds ∧ (openBooked p b).flc.preset = p.flc.preset ∧
    (openBooked p b).sgu.gain = p.sgu.gain ∧ (openBooked p b).sgu.patterns = p.sgu.patterns ∧
    (openBooked p b).sgu.polarity = p.sgu.polarity ∧ (openBooked p b).sgu.refused = p.sgu.refused ∧
    (openBooked p b).sgu.blink = p.sgu.blink ∧ (openBooked p b).sgu.released = p.sgu.released ∧
    (openBooked p b).sgu.indication = p.sgu.indication ∧ (openBooked p b).sgu.bus = p.sgu.bus ∧
    (openBooked p b).rtu.presets = p.rtu.presets ∧ (openBooked p b).rtu.routable = p.rtu.routable ∧
    (openBooked p b).rtu.override = p.rtu.override ∧ (openBooked p b).sch.clock = p.sch.clock ∧
    (openBooked p b).ssu.store = p.ssu.store ∧ (openBooked p b).ssu.lost = p.ssu.lost ∧
    (openBooked p b).ssu.nextSummary = p.ssu.nextSummary ∧ (openBooked p b).ssu.params = p.ssu.params ∧
    (openBooked p b).prt.rx = p.prt.rx ∧ (openBooked p b).prt.roomId = p.prt.roomId ∧
    (openBooked p b).prt.tableName = p.prt.tableName ∧ (openBooked p b).line = p.line ∧
    (openBooked p b).maskOf = p.maskOf := by
  simp only [openBooked]
  (repeat' split) <;> simp

@[simp] theorem openWalkIn_keeps (p : Part) :
    (openWalkIn p).flc.lead = p.flc.lead ∧ (openWalkIn p).flc.nextNumber = p.flc.nextNumber ∧
    (openWalkIn p).flc.seconds = p.flc.seconds ∧ (openWalkIn p).flc.preset = p.flc.preset ∧
    (openWalkIn p).sgu.gain = p.sgu.gain ∧ (openWalkIn p).sgu.patterns = p.sgu.patterns ∧
    (openWalkIn p).sgu.polarity = p.sgu.polarity ∧ (openWalkIn p).sgu.refused = p.sgu.refused ∧
    (openWalkIn p).sgu.blink = p.sgu.blink ∧ (openWalkIn p).sgu.released = p.sgu.released ∧
    (openWalkIn p).sgu.indication = p.sgu.indication ∧ (openWalkIn p).sgu.bus = p.sgu.bus ∧
    (openWalkIn p).rtu.presets = p.rtu.presets ∧ (openWalkIn p).rtu.routable = p.rtu.routable ∧
    (openWalkIn p).rtu.override = p.rtu.override ∧ (openWalkIn p).ssu.pendingStart = p.ssu.pendingStart ∧
    (openWalkIn p).ssu.store = p.ssu.store ∧ (openWalkIn p).ssu.lost = p.ssu.lost ∧
    (openWalkIn p).ssu.nextSummary = p.ssu.nextSummary ∧ (openWalkIn p).ssu.params = p.ssu.params ∧
    (openWalkIn p).prt.rx = p.prt.rx ∧ (openWalkIn p).prt.roomId = p.prt.roomId ∧
    (openWalkIn p).prt.tableName = p.prt.tableName ∧ (openWalkIn p).line = p.line ∧
    (openWalkIn p).maskOf = p.maskOf := by
  simp [openWalkIn]

@[simp] theorem openPending_keeps (p : Part) :
    (openPending p).flc.lead = p.flc.lead ∧ (openPending p).flc.nextNumber = p.flc.nextNumber ∧
    (openPending p).flc.seconds = p.flc.seconds ∧ (openPending p).flc.preset = p.flc.preset ∧
    (openPending p).sgu.gain = p.sgu.gain ∧ (openPending p).sgu.patterns = p.sgu.patterns ∧
    (openPending p).sgu.polarity = p.sgu.polarity ∧ (openPending p).sgu.refused = p.sgu.refused ∧
    (openPending p).sgu.blink = p.sgu.blink ∧ (openPending p).sgu.released = p.sgu.released ∧
    (openPending p).sgu.indication = p.sgu.indication ∧ (openPending p).sgu.bus = p.sgu.bus ∧
    (openPending p).rtu.presets = p.rtu.presets ∧ (openPending p).rtu.routable = p.rtu.routable ∧
    (openPending p).rtu.override = p.rtu.override ∧ (openPending p).sch.clock = p.sch.clock ∧
    (openPending p).ssu.store = p.ssu.store ∧ (openPending p).ssu.lost = p.ssu.lost ∧
    (openPending p).ssu.nextSummary = p.ssu.nextSummary ∧ (openPending p).ssu.params = p.ssu.params ∧
    (openPending p).prt.rx = p.prt.rx ∧ (openPending p).prt.roomId = p.prt.roomId ∧
    (openPending p).prt.tableName = p.prt.tableName ∧ (openPending p).line = p.line ∧
    (openPending p).maskOf = p.maskOf := by
  simp only [openPending]
  (repeat' split) <;> simp

@[simp] theorem writeSummary_keeps (p : Part) (x : Summary) :
    (writeSummary p x).ssu.session = p.ssu.session ∧ (writeSummary p x).ssu.pendingStart = p.ssu.pendingStart ∧
    (writeSummary p x).ssu.dwell = p.ssu.dwell ∧ (writeSummary p x).ssu.params = p.ssu.params ∧
    (writeSummary p x).prt.rx = p.prt.rx ∧ (writeSummary p x).prt.roomId = p.prt.roomId ∧
    (writeSummary p x).prt.tableName = p.prt.tableName ∧ (writeSummary p x).line = p.line ∧
    (writeSummary p x).maskOf = p.maskOf := by
  simp only [writeSummary]
  (repeat' split) <;> simp

@[simp] theorem clearCounters_keeps (p : Part) :
    (clearCounters p).smn.occupied = p.smn.occupied ∧ (clearCounters p).smn.grace = p.smn.grace ∧
    (clearCounters p).line = p.line ∧ (clearCounters p).maskOf = p.maskOf ∧
    (clearCounters p).notices = p.notices := by
  simp [clearCounters]

@[simp] theorem closeRecords_keeps (p : Part) (x : Session) (r : CloseReason) :
    (closeRecords p x r).smn.occupied = p.smn.occupied ∧ (closeRecords p x r).smn.grace = p.smn.grace ∧
    (closeRecords p x r).sch.clock = p.sch.clock ∧ (closeRecords p x r).ssu.session = p.ssu.session ∧
    (closeRecords p x r).ssu.pendingStart = p.ssu.pendingStart ∧ (closeRecords p x r).ssu.dwell = p.ssu.dwell ∧
    (closeRecords p x r).ssu.params = p.ssu.params ∧ (closeRecords p x r).prt.rx = p.prt.rx ∧
    (closeRecords p x r).prt.roomId = p.prt.roomId ∧ (closeRecords p x r).prt.tableName = p.prt.tableName ∧
    (closeRecords p x r).line = p.line ∧ (closeRecords p x r).maskOf = p.maskOf := by
  simp only [closeRecords]
  (repeat' split) <;> simp

@[simp] theorem closeSession_keeps (p : Part) (x : Session) (r : CloseReason) :
    (closeSession p x r).smn.occupied = p.smn.occupied ∧ (closeSession p x r).smn.grace = p.smn.grace ∧
    (closeSession p x r).flc.lead = p.flc.lead ∧ (closeSession p x r).flc.isOpen = p.flc.isOpen ∧
    (closeSession p x r).flc.queue = p.flc.queue ∧ (closeSession p x r).flc.nextNumber = p.flc.nextNumber ∧
    (closeSession p x r).flc.seconds = p.flc.seconds ∧ (closeSession p x r).flc.openOrder = p.flc.openOrder ∧
    (closeSession p x r).flc.preset = p.flc.preset ∧ (closeSession p x r).rtu.presets = p.rtu.presets ∧
    (closeSession p x r).rtu.speakers = p.rtu.speakers ∧ (closeSession p x r).rtu.routable = p.rtu.routable ∧
    (closeSession p x r).rtu.override = p.rtu.override ∧ (closeSession p x r).sch.clock = p.sch.clock ∧
    (closeSession p x r).ssu.pendingStart = p.ssu.pendingStart ∧ (closeSession p x r).ssu.dwell = p.ssu.dwell ∧
    (closeSession p x r).ssu.params = p.ssu.params ∧ (closeSession p x r).prt.rx = p.prt.rx ∧
    (closeSession p x r).prt.roomId = p.prt.roomId ∧ (closeSession p x r).prt.tableName = p.prt.tableName ∧
    (closeSession p x r).line = p.line ∧ (closeSession p x r).maskOf = p.maskOf := by
  simp [closeSession]

@[simp] theorem closeWindup_keeps (p : Part) :
    (closeWindup p).smn.occupied = p.smn.occupied ∧ (closeWindup p).smn.grace = p.smn.grace ∧
    (closeWindup p).flc.lead = p.flc.lead ∧ (closeWindup p).flc.isOpen = p.flc.isOpen ∧
    (closeWindup p).flc.queue = p.flc.queue ∧ (closeWindup p).flc.nextNumber = p.flc.nextNumber ∧
    (closeWindup p).flc.seconds = p.flc.seconds ∧ (closeWindup p).flc.openOrder = p.flc.openOrder ∧
    (closeWindup p).flc.preset = p.flc.preset ∧ (closeWindup p).rtu.presets = p.rtu.presets ∧
    (closeWindup p).rtu.speakers = p.rtu.speakers ∧ (closeWindup p).rtu.routable = p.rtu.routable ∧
    (closeWindup p).rtu.override = p.rtu.override ∧ (closeWindup p).sch.clock = p.sch.clock ∧
    (closeWindup p).ssu.pendingStart = p.ssu.pendingStart ∧ (closeWindup p).ssu.dwell = p.ssu.dwell ∧
    (closeWindup p).ssu.params = p.ssu.params ∧ (closeWindup p).prt.rx = p.prt.rx ∧
    (closeWindup p).prt.roomId = p.prt.roomId ∧ (closeWindup p).prt.tableName = p.prt.tableName ∧
    (closeWindup p).line = p.line ∧ (closeWindup p).maskOf = p.maskOf := by
  simp only [closeWindup]
  (repeat' split) <;> simp

@[simp] theorem completeWindup_keeps (p : Part) :
    (completeWindup p).smn.occupied = p.smn.occupied ∧ (completeWindup p).smn.grace = p.smn.grace ∧
    (completeWindup p).flc.lead = p.flc.lead ∧ (completeWindup p).flc.nextNumber = p.flc.nextNumber ∧
    (completeWindup p).flc.seconds = p.flc.seconds ∧ (completeWindup p).flc.preset = p.flc.preset ∧
    (completeWindup p).sgu.gain = p.sgu.gain ∧ (completeWindup p).sgu.patterns = p.sgu.patterns ∧
    (completeWindup p).sgu.polarity = p.sgu.polarity ∧ (completeWindup p).sgu.refused = p.sgu.refused ∧
    (completeWindup p).sgu.blink = p.sgu.blink ∧ (completeWindup p).sgu.released = p.sgu.released ∧
    (completeWindup p).sgu.indication = p.sgu.indication ∧ (completeWindup p).sgu.bus = p.sgu.bus ∧
    (completeWindup p).rtu.presets = p.rtu.presets ∧ (completeWindup p).rtu.routable = p.rtu.routable ∧
    (completeWindup p).rtu.override = p.rtu.override ∧ (completeWindup p).sch.clock = p.sch.clock ∧
    (completeWindup p).ssu.params = p.ssu.params ∧ (completeWindup p).prt.rx = p.prt.rx ∧
    (completeWindup p).prt.roomId = p.prt.roomId ∧ (completeWindup p).prt.tableName = p.prt.tableName ∧
    (completeWindup p).line = p.line ∧ (completeWindup p).maskOf = p.maskOf := by
  simp only [completeWindup]
  (repeat' split) <;> simp

@[simp] theorem windup_keeps (p : Part) (r : CloseReason) :
    (windup p r).smn.occupied = p.smn.occupied ∧ (windup p r).smn.grace = p.smn.grace ∧
    (windup p r).flc.lead = p.flc.lead ∧ (windup p r).flc.nextNumber = p.flc.nextNumber ∧
    (windup p r).flc.seconds = p.flc.seconds ∧ (windup p r).flc.preset = p.flc.preset ∧
    (windup p r).sgu.gain = p.sgu.gain ∧ (windup p r).sgu.patterns = p.sgu.patterns ∧
    (windup p r).sgu.polarity = p.sgu.polarity ∧ (windup p r).sgu.refused = p.sgu.refused ∧
    (windup p r).sgu.blink = p.sgu.blink ∧ (windup p r).sgu.released = p.sgu.released ∧
    (windup p r).sgu.indication = p.sgu.indication ∧ (windup p r).sgu.bus = p.sgu.bus ∧
    (windup p r).rtu.presets = p.rtu.presets ∧ (windup p r).rtu.routable = p.rtu.routable ∧
    (windup p r).rtu.override = p.rtu.override ∧ (windup p r).sch.clock = p.sch.clock ∧
    (windup p r).ssu.params = p.ssu.params ∧ (windup p r).prt.rx = p.prt.rx ∧
    (windup p r).prt.roomId = p.prt.roomId ∧ (windup p r).prt.tableName = p.prt.tableName ∧
    (windup p r).line = p.line ∧ (windup p r).maskOf = p.maskOf := by
  simp [windup]

@[simp] theorem stageTest_keeps (p : Part) :
    (stageTest p).smn.occupied = p.smn.occupied ∧ (stageTest p).smn.grace = p.smn.grace ∧
    (stageTest p).flc.lead = p.flc.lead ∧ (stageTest p).flc.nextNumber = p.flc.nextNumber ∧
    (stageTest p).flc.seconds = p.flc.seconds ∧ (stageTest p).flc.preset = p.flc.preset ∧
    (stageTest p).sgu.gain = p.sgu.gain ∧ (stageTest p).sgu.patterns = p.sgu.patterns ∧
    (stageTest p).sgu.polarity = p.sgu.polarity ∧ (stageTest p).sgu.refused = p.sgu.refused ∧
    (stageTest p).sgu.blink = p.sgu.blink ∧ (stageTest p).sgu.released = p.sgu.released ∧
    (stageTest p).sgu.indication = p.sgu.indication ∧ (stageTest p).sgu.bus = p.sgu.bus ∧
    (stageTest p).rtu.presets = p.rtu.presets ∧ (stageTest p).rtu.routable = p.rtu.routable ∧
    (stageTest p).rtu.override = p.rtu.override ∧ (stageTest p).sch.clock = p.sch.clock ∧
    (stageTest p).ssu.params = p.ssu.params ∧ (stageTest p).prt.rx = p.prt.rx ∧
    (stageTest p).prt.roomId = p.prt.roomId ∧ (stageTest p).prt.tableName = p.prt.tableName ∧
    (stageTest p).line = p.line ∧ (stageTest p).maskOf = p.maskOf := by
  simp [stageTest]

@[simp] theorem checkInTest_keeps (p : Part) :
    (checkInTest p).smn.occupied = p.smn.occupied ∧ (checkInTest p).smn.grace = p.smn.grace ∧
    (checkInTest p).flc.lead = p.flc.lead ∧ (checkInTest p).flc.nextNumber = p.flc.nextNumber ∧
    (checkInTest p).flc.seconds = p.flc.seconds ∧ (checkInTest p).flc.preset = p.flc.preset ∧
    (checkInTest p).sgu.gain = p.sgu.gain ∧ (checkInTest p).sgu.patterns = p.sgu.patterns ∧
    (checkInTest p).sgu.polarity = p.sgu.polarity ∧ (checkInTest p).sgu.refused = p.sgu.refused ∧
    (checkInTest p).sgu.blink = p.sgu.blink ∧ (checkInTest p).sgu.released = p.sgu.released ∧
    (checkInTest p).sgu.indication = p.sgu.indication ∧ (checkInTest p).sgu.bus = p.sgu.bus ∧
    (checkInTest p).rtu.presets = p.rtu.presets ∧ (checkInTest p).rtu.routable = p.rtu.routable ∧
    (checkInTest p).rtu.override = p.rtu.override ∧ (checkInTest p).sch.clock = p.sch.clock ∧
    (checkInTest p).ssu.params = p.ssu.params ∧ (checkInTest p).prt.rx = p.prt.rx ∧
    (checkInTest p).prt.roomId = p.prt.roomId ∧ (checkInTest p).prt.tableName = p.prt.tableName ∧
    (checkInTest p).line = p.line ∧ (checkInTest p).maskOf = p.maskOf := by
  simp [checkInTest]

@[simp] theorem release_keeps (p : Part) (x : Session) :
    (release p x).smn.occupied = p.smn.occupied ∧ (release p x).smn.grace = p.smn.grace ∧
    (release p x).flc.lead = p.flc.lead ∧ (release p x).flc.nextNumber = p.flc.nextNumber ∧
    (release p x).flc.seconds = p.flc.seconds ∧ (release p x).flc.preset = p.flc.preset ∧
    (release p x).sgu.gain = p.sgu.gain ∧ (release p x).sgu.patterns = p.sgu.patterns ∧
    (release p x).sgu.polarity = p.sgu.polarity ∧ (release p x).sgu.refused = p.sgu.refused ∧
    (release p x).sgu.blink = p.sgu.blink ∧ (release p x).sgu.released = p.sgu.released ∧
    (release p x).sgu.indication = p.sgu.indication ∧ (release p x).sgu.bus = p.sgu.bus ∧
    (release p x).rtu.presets = p.rtu.presets ∧ (release p x).rtu.routable = p.rtu.routable ∧
    (release p x).rtu.override = p.rtu.override ∧ (release p x).sch.clock = p.sch.clock ∧
    (release p x).ssu.params = p.ssu.params ∧ (release p x).prt.rx = p.prt.rx ∧
    (release p x).prt.roomId = p.prt.roomId ∧ (release p x).prt.tableName = p.prt.tableName ∧
    (release p x).line = p.line ∧ (release p x).maskOf = p.maskOf := by
  simp [release]

@[simp] theorem releaseTest_keeps (p : Part) (window : Bool) :
    (releaseTest p window).smn.occupied = p.smn.occupied ∧ (releaseTest p window).smn.grace = p.smn.grace ∧
    (releaseTest p window).flc.lead = p.flc.lead ∧ (releaseTest p window).flc.nextNumber = p.flc.nextNumber ∧
    (releaseTest p window).flc.seconds = p.flc.seconds ∧ (releaseTest p window).flc.preset = p.flc.preset ∧
    (releaseTest p window).sgu.gain = p.sgu.gain ∧ (releaseTest p window).sgu.patterns = p.sgu.patterns ∧
    (releaseTest p window).sgu.polarity = p.sgu.polarity ∧ (releaseTest p window).sgu.refused = p.sgu.refused ∧
    (releaseTest p window).sgu.blink = p.sgu.blink ∧ (releaseTest p window).sgu.released = p.sgu.released ∧
    (releaseTest p window).sgu.indication = p.sgu.indication ∧ (releaseTest p window).sgu.bus = p.sgu.bus ∧
    (releaseTest p window).rtu.presets = p.rtu.presets ∧ (releaseTest p window).rtu.routable = p.rtu.routable ∧
    (releaseTest p window).rtu.override = p.rtu.override ∧ (releaseTest p window).sch.clock = p.sch.clock ∧
    (releaseTest p window).ssu.params = p.ssu.params ∧ (releaseTest p window).prt.rx = p.prt.rx ∧
    (releaseTest p window).prt.roomId = p.prt.roomId ∧ (releaseTest p window).prt.tableName = p.prt.tableName ∧
    (releaseTest p window).line = p.line ∧ (releaseTest p window).maskOf = p.maskOf := by
  simp only [releaseTest]
  (repeat' split) <;> simp

@[simp] theorem endTest_keeps (p : Part) (window : Bool) :
    (endTest p window).smn.occupied = p.smn.occupied ∧ (endTest p window).smn.grace = p.smn.grace ∧
    (endTest p window).flc.lead = p.flc.lead ∧ (endTest p window).flc.nextNumber = p.flc.nextNumber ∧
    (endTest p window).flc.seconds = p.flc.seconds ∧ (endTest p window).flc.preset = p.flc.preset ∧
    (endTest p window).sgu.gain = p.sgu.gain ∧ (endTest p window).sgu.patterns = p.sgu.patterns ∧
    (endTest p window).sgu.polarity = p.sgu.polarity ∧ (endTest p window).sgu.refused = p.sgu.refused ∧
    (endTest p window).sgu.blink = p.sgu.blink ∧ (endTest p window).sgu.released = p.sgu.released ∧
    (endTest p window).sgu.indication = p.sgu.indication ∧ (endTest p window).sgu.bus = p.sgu.bus ∧
    (endTest p window).rtu.presets = p.rtu.presets ∧ (endTest p window).rtu.routable = p.rtu.routable ∧
    (endTest p window).rtu.override = p.rtu.override ∧ (endTest p window).sch.clock = p.sch.clock ∧
    (endTest p window).ssu.params = p.ssu.params ∧ (endTest p window).prt.rx = p.prt.rx ∧
    (endTest p window).prt.roomId = p.prt.roomId ∧ (endTest p window).prt.tableName = p.prt.tableName ∧
    (endTest p window).line = p.line ∧ (endTest p window).maskOf = p.maskOf := by
  simp [endTest]

@[simp] theorem openingTest_keeps (p : Part) :
    (openingTest p).sfe.key = p.sfe.key ∧ (openingTest p).sfe.proximity = p.sfe.proximity ∧
    (openingTest p).sfe.reference = p.sfe.reference ∧ (openingTest p).sfe.frame = p.sfe.frame ∧
    (openingTest p).smn.occupied = p.smn.occupied ∧ (openingTest p).smn.grace = p.smn.grace ∧
    (openingTest p).flc.lead = p.flc.lead ∧ (openingTest p).flc.nextNumber = p.flc.nextNumber ∧
    (openingTest p).flc.seconds = p.flc.seconds ∧ (openingTest p).flc.preset = p.flc.preset ∧
    (openingTest p).sgu.gain = p.sgu.gain ∧ (openingTest p).sgu.patterns = p.sgu.patterns ∧
    (openingTest p).sgu.polarity = p.sgu.polarity ∧ (openingTest p).sgu.refused = p.sgu.refused ∧
    (openingTest p).sgu.blink = p.sgu.blink ∧ (openingTest p).sgu.released = p.sgu.released ∧
    (openingTest p).sgu.indication = p.sgu.indication ∧ (openingTest p).sgu.bus = p.sgu.bus ∧
    (openingTest p).scu.rates = p.scu.rates ∧ (openingTest p).scu.agree = p.scu.agree ∧
    (openingTest p).scu.drop = p.scu.drop ∧ (openingTest p).scu.pc = p.scu.pc ∧
    (openingTest p).scu.codec = p.scu.codec ∧ (openingTest p).rtu.presets = p.rtu.presets ∧
    (openingTest p).rtu.routable = p.rtu.routable ∧ (openingTest p).sch.clock = p.sch.clock ∧
    (openingTest p).ssu.params = p.ssu.params ∧ (openingTest p).prt.rx = p.prt.rx ∧
    (openingTest p).prt.roomId = p.prt.roomId ∧ (openingTest p).prt.tableName = p.prt.tableName ∧
    (openingTest p).pwu.lead = p.pwu.lead ∧ (openingTest p).pwu.delay = p.pwu.delay ∧
    (openingTest p).pwu.mask = p.pwu.mask ∧ (openingTest p).pwu.proximityWake = p.pwu.proximityWake ∧
    (openingTest p).line = p.line ∧ (openingTest p).maskOf = p.maskOf := by
  simp only [openingTest]
  (repeat' split) <;> simp

@[simp] theorem dropStalePending_keeps (p : Part) :
    (dropStalePending p).ssu.session = p.ssu.session ∧ (dropStalePending p).ssu.dwell = p.ssu.dwell ∧
    (dropStalePending p).ssu.store = p.ssu.store ∧ (dropStalePending p).ssu.lost = p.ssu.lost ∧
    (dropStalePending p).ssu.nextSummary = p.ssu.nextSummary ∧ (dropStalePending p).ssu.params = p.ssu.params ∧
    (dropStalePending p).prt.rx = p.prt.rx ∧ (dropStalePending p).prt.roomId = p.prt.roomId ∧
    (dropStalePending p).prt.tableName = p.prt.tableName ∧ (dropStalePending p).line = p.line ∧
    (dropStalePending p).maskOf = p.maskOf := by
  simp only [dropStalePending]
  (repeat' split) <;> simp

@[simp] theorem walkInTest_keeps (p : Part) :
    (walkInTest p).smn.occupied = p.smn.occupied ∧ (walkInTest p).smn.grace = p.smn.grace ∧
    (walkInTest p).flc.lead = p.flc.lead ∧ (walkInTest p).flc.nextNumber = p.flc.nextNumber ∧
    (walkInTest p).flc.seconds = p.flc.seconds ∧ (walkInTest p).flc.preset = p.flc.preset ∧
    (walkInTest p).sgu.gain = p.sgu.gain ∧ (walkInTest p).sgu.patterns = p.sgu.patterns ∧
    (walkInTest p).sgu.polarity = p.sgu.polarity ∧ (walkInTest p).sgu.refused = p.sgu.refused ∧
    (walkInTest p).sgu.blink = p.sgu.blink ∧ (walkInTest p).sgu.released = p.sgu.released ∧
    (walkInTest p).sgu.indication = p.sgu.indication ∧ (walkInTest p).sgu.bus = p.sgu.bus ∧
    (walkInTest p).rtu.presets = p.rtu.presets ∧ (walkInTest p).rtu.routable = p.rtu.routable ∧
    (walkInTest p).rtu.override = p.rtu.override ∧ (walkInTest p).sch.clock = p.sch.clock ∧
    (walkInTest p).ssu.params = p.ssu.params ∧ (walkInTest p).prt.rx = p.prt.rx ∧
    (walkInTest p).prt.roomId = p.prt.roomId ∧ (walkInTest p).prt.tableName = p.prt.tableName ∧
    (walkInTest p).line = p.line ∧ (walkInTest p).maskOf = p.maskOf := by
  simp only [walkInTest]
  (repeat' split) <;> simp

@[simp] theorem repeatWalkIn_keeps (p : Part) :
    (repeatWalkIn p).smn.occupied = p.smn.occupied ∧ (repeatWalkIn p).smn.grace = p.smn.grace ∧
    (repeatWalkIn p).flc.lead = p.flc.lead ∧ (repeatWalkIn p).flc.nextNumber = p.flc.nextNumber ∧
    (repeatWalkIn p).flc.seconds = p.flc.seconds ∧ (repeatWalkIn p).flc.preset = p.flc.preset ∧
    (repeatWalkIn p).sgu.gain = p.sgu.gain ∧ (repeatWalkIn p).sgu.patterns = p.sgu.patterns ∧
    (repeatWalkIn p).sgu.polarity = p.sgu.polarity ∧ (repeatWalkIn p).sgu.refused = p.sgu.refused ∧
    (repeatWalkIn p).sgu.blink = p.sgu.blink ∧ (repeatWalkIn p).sgu.released = p.sgu.released ∧
    (repeatWalkIn p).sgu.indication = p.sgu.indication ∧ (repeatWalkIn p).sgu.bus = p.sgu.bus ∧
    (repeatWalkIn p).rtu.presets = p.rtu.presets ∧ (repeatWalkIn p).rtu.routable = p.rtu.routable ∧
    (repeatWalkIn p).rtu.override = p.rtu.override ∧ (repeatWalkIn p).sch.clock = p.sch.clock ∧
    (repeatWalkIn p).ssu.params = p.ssu.params ∧ (repeatWalkIn p).prt.rx = p.prt.rx ∧
    (repeatWalkIn p).prt.roomId = p.prt.roomId ∧ (repeatWalkIn p).prt.tableName = p.prt.tableName ∧
    (repeatWalkIn p).line = p.line ∧ (repeatWalkIn p).maskOf = p.maskOf := by
  simp only [repeatWalkIn]
  (repeat' split) <;> simp

@[simp] theorem countDwell_keeps (p : Part) :
    (countDwell p).smn.occupied = p.smn.occupied ∧ (countDwell p).smn.grace = p.smn.grace ∧
    (countDwell p).flc.lead = p.flc.lead ∧ (countDwell p).flc.nextNumber = p.flc.nextNumber ∧
    (countDwell p).flc.seconds = p.flc.seconds ∧ (countDwell p).flc.preset = p.flc.preset ∧
    (countDwell p).sgu.gain = p.sgu.gain ∧ (countDwell p).sgu.patterns = p.sgu.patterns ∧
    (countDwell p).sgu.polarity = p.sgu.polarity ∧ (countDwell p).sgu.refused = p.sgu.refused ∧
    (countDwell p).sgu.blink = p.sgu.blink ∧ (countDwell p).sgu.released = p.sgu.released ∧
    (countDwell p).sgu.indication = p.sgu.indication ∧ (countDwell p).sgu.bus = p.sgu.bus ∧
    (countDwell p).rtu.presets = p.rtu.presets ∧ (countDwell p).rtu.routable = p.rtu.routable ∧
    (countDwell p).rtu.override = p.rtu.override ∧ (countDwell p).sch.clock = p.sch.clock ∧
    (countDwell p).ssu.params = p.ssu.params ∧ (countDwell p).prt.rx = p.prt.rx ∧
    (countDwell p).prt.roomId = p.prt.roomId ∧ (countDwell p).prt.tableName = p.prt.tableName ∧
    (countDwell p).line = p.line ∧ (countDwell p).maskOf = p.maskOf := by
  simp only [countDwell]
  (repeat' split) <;> simp

@[simp] theorem concludeDwell_keeps (before after : Part) :
    (concludeDwell before after).smn.occupied = after.smn.occupied ∧
    (concludeDwell before after).smn.grace = after.smn.grace ∧
    (concludeDwell before after).flc.lead = after.flc.lead ∧
    (concludeDwell before after).flc.nextNumber = after.flc.nextNumber ∧
    (concludeDwell before after).flc.seconds = after.flc.seconds ∧
    (concludeDwell before after).flc.preset = after.flc.preset ∧
    (concludeDwell before after).sgu.gain = after.sgu.gain ∧
    (concludeDwell before after).sgu.patterns = after.sgu.patterns ∧
    (concludeDwell before after).sgu.polarity = after.sgu.polarity ∧
    (concludeDwell before after).sgu.refused = after.sgu.refused ∧
    (concludeDwell before after).sgu.blink = after.sgu.blink ∧
    (concludeDwell before after).sgu.released = after.sgu.released ∧
    (concludeDwell before after).sgu.indication = after.sgu.indication ∧
    (concludeDwell before after).sgu.bus = after.sgu.bus ∧
    (concludeDwell before after).rtu.presets = after.rtu.presets ∧
    (concludeDwell before after).rtu.routable = after.rtu.routable ∧
    (concludeDwell before after).rtu.override = after.rtu.override ∧
    (concludeDwell before after).sch.clock = after.sch.clock ∧
    (concludeDwell before after).ssu.params = after.ssu.params ∧ (concludeDwell before after).prt.rx = after.prt.rx ∧
    (concludeDwell before after).prt.roomId = after.prt.roomId ∧
    (concludeDwell before after).prt.tableName = after.prt.tableName ∧
    (concludeDwell before after).line = after.line ∧ (concludeDwell before after).maskOf = after.maskOf := by
  simp only [concludeDwell]
  (repeat' split) <;> simp

@[simp] theorem vacancyTest_keeps (p : Part) :
    (vacancyTest p).smn.occupied = p.smn.occupied ∧ (vacancyTest p).smn.grace = p.smn.grace ∧
    (vacancyTest p).flc.lead = p.flc.lead ∧ (vacancyTest p).flc.nextNumber = p.flc.nextNumber ∧
    (vacancyTest p).flc.seconds = p.flc.seconds ∧ (vacancyTest p).flc.preset = p.flc.preset ∧
    (vacancyTest p).sgu.gain = p.sgu.gain ∧ (vacancyTest p).sgu.patterns = p.sgu.patterns ∧
    (vacancyTest p).sgu.polarity = p.sgu.polarity ∧ (vacancyTest p).sgu.refused = p.sgu.refused ∧
    (vacancyTest p).sgu.blink = p.sgu.blink ∧ (vacancyTest p).sgu.released = p.sgu.released ∧
    (vacancyTest p).sgu.indication = p.sgu.indication ∧ (vacancyTest p).sgu.bus = p.sgu.bus ∧
    (vacancyTest p).rtu.presets = p.rtu.presets ∧ (vacancyTest p).rtu.routable = p.rtu.routable ∧
    (vacancyTest p).rtu.override = p.rtu.override ∧ (vacancyTest p).sch.clock = p.sch.clock ∧
    (vacancyTest p).ssu.params = p.ssu.params ∧ (vacancyTest p).prt.rx = p.prt.rx ∧
    (vacancyTest p).prt.roomId = p.prt.roomId ∧ (vacancyTest p).prt.tableName = p.prt.tableName ∧
    (vacancyTest p).line = p.line ∧ (vacancyTest p).maskOf = p.maskOf := by
  simp only [vacancyTest]
  (repeat' split) <;> simp

@[simp] theorem countVacancy_keeps (p : Part) :
    (countVacancy p).smn.occupied = p.smn.occupied ∧ (countVacancy p).smn.grace = p.smn.grace ∧
    (countVacancy p).flc.lead = p.flc.lead ∧ (countVacancy p).flc.nextNumber = p.flc.nextNumber ∧
    (countVacancy p).flc.seconds = p.flc.seconds ∧ (countVacancy p).flc.preset = p.flc.preset ∧
    (countVacancy p).sgu.gain = p.sgu.gain ∧ (countVacancy p).sgu.patterns = p.sgu.patterns ∧
    (countVacancy p).sgu.polarity = p.sgu.polarity ∧ (countVacancy p).sgu.refused = p.sgu.refused ∧
    (countVacancy p).sgu.blink = p.sgu.blink ∧ (countVacancy p).sgu.released = p.sgu.released ∧
    (countVacancy p).sgu.indication = p.sgu.indication ∧ (countVacancy p).sgu.bus = p.sgu.bus ∧
    (countVacancy p).rtu.presets = p.rtu.presets ∧ (countVacancy p).rtu.routable = p.rtu.routable ∧
    (countVacancy p).rtu.override = p.rtu.override ∧ (countVacancy p).sch.clock = p.sch.clock ∧
    (countVacancy p).ssu.params = p.ssu.params ∧ (countVacancy p).prt.rx = p.prt.rx ∧
    (countVacancy p).prt.roomId = p.prt.roomId ∧ (countVacancy p).prt.tableName = p.prt.tableName ∧
    (countVacancy p).line = p.line ∧ (countVacancy p).maskOf = p.maskOf := by
  simp only [countVacancy]
  (repeat' split) <;> simp

@[simp] theorem sessionSecond_keeps (p : Part) :
    (sessionSecond p).smn.occupied = p.smn.occupied ∧ (sessionSecond p).smn.grace = p.smn.grace ∧
    (sessionSecond p).flc.lead = p.flc.lead ∧ (sessionSecond p).flc.nextNumber = p.flc.nextNumber ∧
    (sessionSecond p).flc.seconds = p.flc.seconds ∧ (sessionSecond p).flc.preset = p.flc.preset ∧
    (sessionSecond p).sgu.gain = p.sgu.gain ∧ (sessionSecond p).sgu.patterns = p.sgu.patterns ∧
    (sessionSecond p).sgu.polarity = p.sgu.polarity ∧ (sessionSecond p).sgu.refused = p.sgu.refused ∧
    (sessionSecond p).sgu.blink = p.sgu.blink ∧ (sessionSecond p).sgu.released = p.sgu.released ∧
    (sessionSecond p).sgu.indication = p.sgu.indication ∧ (sessionSecond p).sgu.bus = p.sgu.bus ∧
    (sessionSecond p).rtu.presets = p.rtu.presets ∧ (sessionSecond p).rtu.routable = p.rtu.routable ∧
    (sessionSecond p).rtu.override = p.rtu.override ∧ (sessionSecond p).sch.clock = p.sch.clock ∧
    (sessionSecond p).ssu.params = p.ssu.params ∧ (sessionSecond p).prt.rx = p.prt.rx ∧
    (sessionSecond p).prt.roomId = p.prt.roomId ∧ (sessionSecond p).prt.tableName = p.prt.tableName ∧
    (sessionSecond p).line = p.line ∧ (sessionSecond p).maskOf = p.maskOf := by
  simp [sessionSecond]

@[simp] theorem countAwait_keeps (b p : Part) :
    (countAwait b p).ssu.pendingStart = p.ssu.pendingStart ∧ (countAwait b p).ssu.dwell = p.ssu.dwell ∧
    (countAwait b p).ssu.store = p.ssu.store ∧ (countAwait b p).ssu.lost = p.ssu.lost ∧
    (countAwait b p).ssu.nextSummary = p.ssu.nextSummary ∧ (countAwait b p).ssu.params = p.ssu.params ∧
    (countAwait b p).line = p.line ∧ (countAwait b p).maskOf = p.maskOf ∧ (countAwait b p).notices = p.notices := by
  simp only [countAwait]
  (repeat' split) <;> simp

@[simp] theorem sessionMinute_keeps (b p : Part) :
    (sessionMinute b p).sfe.key = p.sfe.key ∧ (sessionMinute b p).sfe.proximity = p.sfe.proximity ∧
    (sessionMinute b p).sfe.reference = p.sfe.reference ∧ (sessionMinute b p).sfe.frame = p.sfe.frame ∧
    (sessionMinute b p).smn.occupied = p.smn.occupied ∧ (sessionMinute b p).smn.grace = p.smn.grace ∧
    (sessionMinute b p).flc.lead = p.flc.lead ∧ (sessionMinute b p).flc.nextNumber = p.flc.nextNumber ∧
    (sessionMinute b p).flc.seconds = p.flc.seconds ∧ (sessionMinute b p).flc.preset = p.flc.preset ∧
    (sessionMinute b p).sgu.gain = p.sgu.gain ∧ (sessionMinute b p).sgu.patterns = p.sgu.patterns ∧
    (sessionMinute b p).sgu.polarity = p.sgu.polarity ∧ (sessionMinute b p).sgu.refused = p.sgu.refused ∧
    (sessionMinute b p).sgu.blink = p.sgu.blink ∧ (sessionMinute b p).sgu.released = p.sgu.released ∧
    (sessionMinute b p).sgu.indication = p.sgu.indication ∧ (sessionMinute b p).sgu.bus = p.sgu.bus ∧
    (sessionMinute b p).scu.rates = p.scu.rates ∧ (sessionMinute b p).scu.agree = p.scu.agree ∧
    (sessionMinute b p).scu.drop = p.scu.drop ∧ (sessionMinute b p).scu.pc = p.scu.pc ∧
    (sessionMinute b p).scu.codec = p.scu.codec ∧ (sessionMinute b p).rtu.presets = p.rtu.presets ∧
    (sessionMinute b p).rtu.routable = p.rtu.routable ∧ (sessionMinute b p).sch.clock = p.sch.clock ∧
    (sessionMinute b p).ssu.params = p.ssu.params ∧ (sessionMinute b p).prt.rx = p.prt.rx ∧
    (sessionMinute b p).prt.roomId = p.prt.roomId ∧ (sessionMinute b p).prt.tableName = p.prt.tableName ∧
    (sessionMinute b p).pwu.lead = p.pwu.lead ∧ (sessionMinute b p).pwu.delay = p.pwu.delay ∧
    (sessionMinute b p).pwu.mask = p.pwu.mask ∧ (sessionMinute b p).pwu.proximityWake = p.pwu.proximityWake ∧
    (sessionMinute b p).line = p.line ∧ (sessionMinute b p).maskOf = p.maskOf := by
  simp [sessionMinute]

@[simp] theorem sessionJump_keeps (p : Part) :
    (sessionJump p).sfe.key = p.sfe.key ∧ (sessionJump p).sfe.proximity = p.sfe.proximity ∧
    (sessionJump p).sfe.reference = p.sfe.reference ∧ (sessionJump p).sfe.frame = p.sfe.frame ∧
    (sessionJump p).smn.occupied = p.smn.occupied ∧ (sessionJump p).smn.grace = p.smn.grace ∧
    (sessionJump p).flc.lead = p.flc.lead ∧ (sessionJump p).flc.nextNumber = p.flc.nextNumber ∧
    (sessionJump p).flc.seconds = p.flc.seconds ∧ (sessionJump p).flc.preset = p.flc.preset ∧
    (sessionJump p).sgu.gain = p.sgu.gain ∧ (sessionJump p).sgu.patterns = p.sgu.patterns ∧
    (sessionJump p).sgu.polarity = p.sgu.polarity ∧ (sessionJump p).sgu.refused = p.sgu.refused ∧
    (sessionJump p).sgu.blink = p.sgu.blink ∧ (sessionJump p).sgu.released = p.sgu.released ∧
    (sessionJump p).sgu.indication = p.sgu.indication ∧ (sessionJump p).sgu.bus = p.sgu.bus ∧
    (sessionJump p).scu.rates = p.scu.rates ∧ (sessionJump p).scu.agree = p.scu.agree ∧
    (sessionJump p).scu.drop = p.scu.drop ∧ (sessionJump p).scu.pc = p.scu.pc ∧
    (sessionJump p).scu.codec = p.scu.codec ∧ (sessionJump p).rtu.presets = p.rtu.presets ∧
    (sessionJump p).rtu.routable = p.rtu.routable ∧ (sessionJump p).sch.clock = p.sch.clock ∧
    (sessionJump p).ssu.params = p.ssu.params ∧ (sessionJump p).prt.rx = p.prt.rx ∧
    (sessionJump p).prt.roomId = p.prt.roomId ∧ (sessionJump p).prt.tableName = p.prt.tableName ∧
    (sessionJump p).pwu.lead = p.pwu.lead ∧ (sessionJump p).pwu.delay = p.pwu.delay ∧
    (sessionJump p).pwu.mask = p.pwu.mask ∧ (sessionJump p).pwu.proximityWake = p.pwu.proximityWake ∧
    (sessionJump p).line = p.line ∧ (sessionJump p).maskOf = p.maskOf := by
  simp [sessionJump]

@[simp] theorem occupiedChanged_keeps (p : Part) (old : Nat) :
    (occupiedChanged p old).smn.occupied = p.smn.occupied ∧ (occupiedChanged p old).smn.grace = p.smn.grace ∧
    (occupiedChanged p old).flc.lead = p.flc.lead ∧ (occupiedChanged p old).flc.nextNumber = p.flc.nextNumber ∧
    (occupiedChanged p old).flc.seconds = p.flc.seconds ∧ (occupiedChanged p old).flc.preset = p.flc.preset ∧
    (occupiedChanged p old).sgu.gain = p.sgu.gain ∧ (occupiedChanged p old).sgu.patterns = p.sgu.patterns ∧
    (occupiedChanged p old).sgu.polarity = p.sgu.polarity ∧ (occupiedChanged p old).sgu.refused = p.sgu.refused ∧
    (occupiedChanged p old).sgu.blink = p.sgu.blink ∧ (occupiedChanged p old).sgu.released = p.sgu.released ∧
    (occupiedChanged p old).sgu.indication = p.sgu.indication ∧ (occupiedChanged p old).sgu.bus = p.sgu.bus ∧
    (occupiedChanged p old).rtu.presets = p.rtu.presets ∧ (occupiedChanged p old).rtu.routable = p.rtu.routable ∧
    (occupiedChanged p old).rtu.override = p.rtu.override ∧ (occupiedChanged p old).sch.clock = p.sch.clock ∧
    (occupiedChanged p old).ssu.params = p.ssu.params ∧ (occupiedChanged p old).prt.rx = p.prt.rx ∧
    (occupiedChanged p old).prt.roomId = p.prt.roomId ∧ (occupiedChanged p old).prt.tableName = p.prt.tableName ∧
    (occupiedChanged p old).line = p.line ∧ (occupiedChanged p old).maskOf = p.maskOf := by
  simp only [occupiedChanged]
  (repeat' split) <;> simp

@[simp] theorem enterActive_keeps (p : Part) :
    (enterActive p).smn.occupied = p.smn.occupied ∧ (enterActive p).smn.grace = p.smn.grace ∧
    (enterActive p).flc.lead = p.flc.lead ∧ (enterActive p).flc.nextNumber = p.flc.nextNumber ∧
    (enterActive p).flc.seconds = p.flc.seconds ∧ (enterActive p).flc.preset = p.flc.preset ∧
    (enterActive p).sgu.gain = p.sgu.gain ∧ (enterActive p).sgu.patterns = p.sgu.patterns ∧
    (enterActive p).sgu.polarity = p.sgu.polarity ∧ (enterActive p).sgu.refused = p.sgu.refused ∧
    (enterActive p).sgu.blink = p.sgu.blink ∧ (enterActive p).sgu.released = p.sgu.released ∧
    (enterActive p).sgu.indication = p.sgu.indication ∧ (enterActive p).sgu.bus = p.sgu.bus ∧
    (enterActive p).rtu.presets = p.rtu.presets ∧ (enterActive p).rtu.routable = p.rtu.routable ∧
    (enterActive p).rtu.override = p.rtu.override ∧ (enterActive p).sch.clock = p.sch.clock ∧
    (enterActive p).ssu.params = p.ssu.params ∧ (enterActive p).prt.rx = p.prt.rx ∧
    (enterActive p).prt.roomId = p.prt.roomId ∧ (enterActive p).prt.tableName = p.prt.tableName ∧
    (enterActive p).pwu.quiet = p.pwu.quiet ∧ (enterActive p).pwu.settle = p.pwu.settle ∧
    (enterActive p).pwu.lead = p.pwu.lead ∧ (enterActive p).pwu.delay = p.pwu.delay ∧
    (enterActive p).pwu.mask = p.pwu.mask ∧ (enterActive p).pwu.proximityWake = p.pwu.proximityWake ∧
    (enterActive p).line = p.line ∧ (enterActive p).maskOf = p.maskOf := by
  simp [enterActive]

@[simp] theorem endSettling_keeps (p : Part) :
    (endSettling p).smn.occupied = p.smn.occupied ∧ (endSettling p).smn.grace = p.smn.grace ∧
    (endSettling p).flc.lead = p.flc.lead ∧ (endSettling p).flc.nextNumber = p.flc.nextNumber ∧
    (endSettling p).flc.seconds = p.flc.seconds ∧ (endSettling p).flc.preset = p.flc.preset ∧
    (endSettling p).sgu.gain = p.sgu.gain ∧ (endSettling p).sgu.patterns = p.sgu.patterns ∧
    (endSettling p).sgu.polarity = p.sgu.polarity ∧ (endSettling p).sgu.refused = p.sgu.refused ∧
    (endSettling p).sgu.blink = p.sgu.blink ∧ (endSettling p).sgu.released = p.sgu.released ∧
    (endSettling p).sgu.indication = p.sgu.indication ∧ (endSettling p).sgu.bus = p.sgu.bus ∧
    (endSettling p).rtu.presets = p.rtu.presets ∧ (endSettling p).rtu.routable = p.rtu.routable ∧
    (endSettling p).rtu.override = p.rtu.override ∧ (endSettling p).sch.clock = p.sch.clock ∧
    (endSettling p).ssu.params = p.ssu.params ∧ (endSettling p).prt.rx = p.prt.rx ∧
    (endSettling p).prt.roomId = p.prt.roomId ∧ (endSettling p).prt.tableName = p.prt.tableName ∧
    (endSettling p).pwu.quiet = p.pwu.quiet ∧ (endSettling p).pwu.lead = p.pwu.lead ∧
    (endSettling p).pwu.delay = p.pwu.delay ∧ (endSettling p).pwu.mask = p.pwu.mask ∧
    (endSettling p).pwu.proximityWake = p.pwu.proximityWake ∧ (endSettling p).line = p.line ∧
    (endSettling p).maskOf = p.maskOf := by
  simp [endSettling]

@[simp] theorem extendTo_keeps (p : Part) (x : Session) (e : Nat) :
    (extendTo p x e).smn.occupied = p.smn.occupied ∧ (extendTo p x e).smn.grace = p.smn.grace ∧
    (extendTo p x e).flc.lead = p.flc.lead ∧ (extendTo p x e).flc.nextNumber = p.flc.nextNumber ∧
    (extendTo p x e).flc.seconds = p.flc.seconds ∧ (extendTo p x e).flc.preset = p.flc.preset ∧
    (extendTo p x e).sgu.gain = p.sgu.gain ∧ (extendTo p x e).sgu.patterns = p.sgu.patterns ∧
    (extendTo p x e).sgu.polarity = p.sgu.polarity ∧ (extendTo p x e).sgu.refused = p.sgu.refused ∧
    (extendTo p x e).sgu.blink = p.sgu.blink ∧ (extendTo p x e).sgu.released = p.sgu.released ∧
    (extendTo p x e).sgu.indication = p.sgu.indication ∧ (extendTo p x e).sgu.bus = p.sgu.bus ∧
    (extendTo p x e).rtu.presets = p.rtu.presets ∧ (extendTo p x e).rtu.routable = p.rtu.routable ∧
    (extendTo p x e).rtu.override = p.rtu.override ∧ (extendTo p x e).sch.clock = p.sch.clock ∧
    (extendTo p x e).ssu.params = p.ssu.params ∧ (extendTo p x e).prt.rx = p.prt.rx ∧
    (extendTo p x e).prt.roomId = p.prt.roomId ∧ (extendTo p x e).prt.tableName = p.prt.tableName ∧
    (extendTo p x e).line = p.line ∧ (extendTo p x e).maskOf = p.maskOf := by
  simp [extendTo]

@[simp] theorem resetSession_keeps (p : Part) :
    (resetSession p).smn.occupied = p.smn.occupied ∧ (resetSession p).smn.grace = p.smn.grace ∧
    (resetSession p).sch.clock = p.sch.clock ∧ (resetSession p).ssu.params = p.ssu.params ∧
    (resetSession p).prt.rx = p.prt.rx ∧ (resetSession p).prt.roomId = p.prt.roomId ∧
    (resetSession p).prt.tableName = p.prt.tableName ∧ (resetSession p).line = p.line ∧
    (resetSession p).maskOf = p.maskOf := by
  simp only [resetSession]
  (repeat' split) <;> simp

@[simp] theorem updateCount_keeps (p : Part) :
    (updateCount p).smn.grace = p.smn.grace ∧ (updateCount p).flc.lead = p.flc.lead ∧
    (updateCount p).flc.nextNumber = p.flc.nextNumber ∧ (updateCount p).flc.seconds = p.flc.seconds ∧
    (updateCount p).flc.preset = p.flc.preset ∧ (updateCount p).sgu.gain = p.sgu.gain ∧
    (updateCount p).sgu.patterns = p.sgu.patterns ∧ (updateCount p).sgu.polarity = p.sgu.polarity ∧
    (updateCount p).sgu.refused = p.sgu.refused ∧ (updateCount p).sgu.blink = p.sgu.blink ∧
    (updateCount p).sgu.released = p.sgu.released ∧ (updateCount p).sgu.indication = p.sgu.indication ∧
    (updateCount p).sgu.bus = p.sgu.bus ∧ (updateCount p).rtu.presets = p.rtu.presets ∧
    (updateCount p).rtu.routable = p.rtu.routable ∧ (updateCount p).rtu.override = p.rtu.override ∧
    (updateCount p).sch.clock = p.sch.clock ∧ (updateCount p).ssu.params = p.ssu.params ∧
    (updateCount p).prt.rx = p.prt.rx ∧ (updateCount p).prt.roomId = p.prt.roomId ∧
    (updateCount p).prt.tableName = p.prt.tableName ∧ (updateCount p).pwu.power = p.pwu.power ∧
    (updateCount p).pwu.settle = p.pwu.settle ∧ (updateCount p).pwu.lead = p.pwu.lead ∧
    (updateCount p).pwu.delay = p.pwu.delay ∧ (updateCount p).pwu.mask = p.pwu.mask ∧
    (updateCount p).pwu.proximityWake = p.pwu.proximityWake ∧ (updateCount p).line = p.line ∧
    (updateCount p).maskOf = p.maskOf := by
  simp only [updateCount]
  (repeat' split) <;> simp

@[simp] theorem changePresence_keeps (p : Part) (s : SeatId) (y : Presence) (timer : Nat) :
    (changePresence p s y timer).smn.grace = p.smn.grace ∧ (changePresence p s y timer).flc.lead = p.flc.lead ∧
    (changePresence p s y timer).flc.nextNumber = p.flc.nextNumber ∧
    (changePresence p s y timer).flc.seconds = p.flc.seconds ∧
    (changePresence p s y timer).flc.preset = p.flc.preset ∧ (changePresence p s y timer).sgu.gain = p.sgu.gain ∧
    (changePresence p s y timer).sgu.patterns = p.sgu.patterns ∧
    (changePresence p s y timer).sgu.polarity = p.sgu.polarity ∧
    (changePresence p s y timer).sgu.refused = p.sgu.refused ∧ (changePresence p s y timer).sgu.blink = p.sgu.blink ∧
    (changePresence p s y timer).sgu.released = p.sgu.released ∧
    (changePresence p s y timer).sgu.indication = p.sgu.indication ∧
    (changePresence p s y timer).sgu.bus = p.sgu.bus ∧ (changePresence p s y timer).rtu.presets = p.rtu.presets ∧
    (changePresence p s y timer).rtu.routable = p.rtu.routable ∧
    (changePresence p s y timer).rtu.override = p.rtu.override ∧
    (changePresence p s y timer).sch.clock = p.sch.clock ∧ (changePresence p s y timer).ssu.params = p.ssu.params ∧
    (changePresence p s y timer).prt.rx = p.prt.rx ∧ (changePresence p s y timer).prt.roomId = p.prt.roomId ∧
    (changePresence p s y timer).prt.tableName = p.prt.tableName ∧
    (changePresence p s y timer).pwu.power = p.pwu.power ∧ (changePresence p s y timer).pwu.settle = p.pwu.settle ∧
    (changePresence p s y timer).pwu.lead = p.pwu.lead ∧ (changePresence p s y timer).pwu.delay = p.pwu.delay ∧
    (changePresence p s y timer).pwu.mask = p.pwu.mask ∧
    (changePresence p s y timer).pwu.proximityWake = p.pwu.proximityWake ∧
    (changePresence p s y timer).line = p.line ∧ (changePresence p s y timer).maskOf = p.maskOf := by
  simp only [changePresence]
  (repeat' split) <;> simp

@[simp] theorem proximityReport_keeps (p : Part) (s : SeatId) (o : Sensed) :
    (proximityReport p s o).smn.grace = p.smn.grace ∧ (proximityReport p s o).flc.lead = p.flc.lead ∧
    (proximityReport p s o).flc.nextNumber = p.flc.nextNumber ∧ (proximityReport p s o).flc.seconds = p.flc.seconds ∧
    (proximityReport p s o).flc.preset = p.flc.preset ∧ (proximityReport p s o).sgu.gain = p.sgu.gain ∧
    (proximityReport p s o).sgu.patterns = p.sgu.patterns ∧ (proximityReport p s o).sgu.polarity = p.sgu.polarity ∧
    (proximityReport p s o).sgu.refused = p.sgu.refused ∧ (proximityReport p s o).sgu.blink = p.sgu.blink ∧
    (proximityReport p s o).sgu.released = p.sgu.released ∧
    (proximityReport p s o).sgu.indication = p.sgu.indication ∧ (proximityReport p s o).sgu.bus = p.sgu.bus ∧
    (proximityReport p s o).rtu.presets = p.rtu.presets ∧ (proximityReport p s o).rtu.routable = p.rtu.routable ∧
    (proximityReport p s o).rtu.override = p.rtu.override ∧ (proximityReport p s o).sch.clock = p.sch.clock ∧
    (proximityReport p s o).ssu.params = p.ssu.params ∧ (proximityReport p s o).prt.rx = p.prt.rx ∧
    (proximityReport p s o).prt.roomId = p.prt.roomId ∧ (proximityReport p s o).prt.tableName = p.prt.tableName ∧
    (proximityReport p s o).pwu.power = p.pwu.power ∧ (proximityReport p s o).pwu.settle = p.pwu.settle ∧
    (proximityReport p s o).pwu.lead = p.pwu.lead ∧ (proximityReport p s o).pwu.delay = p.pwu.delay ∧
    (proximityReport p s o).pwu.mask = p.pwu.mask ∧ (proximityReport p s o).pwu.proximityWake = p.pwu.proximityWake ∧
    (proximityReport p s o).line = p.line ∧ (proximityReport p s o).maskOf = p.maskOf := by
  simp [proximityReport]

@[simp] theorem absenceExpiry_keeps (p : Part) (s : SeatId) :
    (absenceExpiry p s).smn.grace = p.smn.grace ∧ (absenceExpiry p s).flc.lead = p.flc.lead ∧
    (absenceExpiry p s).flc.nextNumber = p.flc.nextNumber ∧ (absenceExpiry p s).flc.seconds = p.flc.seconds ∧
    (absenceExpiry p s).flc.preset = p.flc.preset ∧ (absenceExpiry p s).sgu.gain = p.sgu.gain ∧
    (absenceExpiry p s).sgu.patterns = p.sgu.patterns ∧ (absenceExpiry p s).sgu.polarity = p.sgu.polarity ∧
    (absenceExpiry p s).sgu.refused = p.sgu.refused ∧ (absenceExpiry p s).sgu.blink = p.sgu.blink ∧
    (absenceExpiry p s).sgu.released = p.sgu.released ∧ (absenceExpiry p s).sgu.indication = p.sgu.indication ∧
    (absenceExpiry p s).sgu.bus = p.sgu.bus ∧ (absenceExpiry p s).rtu.presets = p.rtu.presets ∧
    (absenceExpiry p s).rtu.routable = p.rtu.routable ∧ (absenceExpiry p s).rtu.override = p.rtu.override ∧
    (absenceExpiry p s).sch.clock = p.sch.clock ∧ (absenceExpiry p s).ssu.params = p.ssu.params ∧
    (absenceExpiry p s).prt.rx = p.prt.rx ∧ (absenceExpiry p s).prt.roomId = p.prt.roomId ∧
    (absenceExpiry p s).prt.tableName = p.prt.tableName ∧ (absenceExpiry p s).pwu.power = p.pwu.power ∧
    (absenceExpiry p s).pwu.settle = p.pwu.settle ∧ (absenceExpiry p s).pwu.lead = p.pwu.lead ∧
    (absenceExpiry p s).pwu.delay = p.pwu.delay ∧ (absenceExpiry p s).pwu.mask = p.pwu.mask ∧
    (absenceExpiry p s).pwu.proximityWake = p.pwu.proximityWake ∧ (absenceExpiry p s).line = p.line ∧
    (absenceExpiry p s).maskOf = p.maskOf := by
  simp only [absenceExpiry]
  (repeat' split) <;> simp

@[simp] theorem countAbsence_keeps (p : Part) (s : SeatId) :
    (countAbsence p s).smn.grace = p.smn.grace ∧ (countAbsence p s).flc.lead = p.flc.lead ∧
    (countAbsence p s).flc.nextNumber = p.flc.nextNumber ∧ (countAbsence p s).flc.seconds = p.flc.seconds ∧
    (countAbsence p s).flc.preset = p.flc.preset ∧ (countAbsence p s).sgu.gain = p.sgu.gain ∧
    (countAbsence p s).sgu.patterns = p.sgu.patterns ∧ (countAbsence p s).sgu.polarity = p.sgu.polarity ∧
    (countAbsence p s).sgu.refused = p.sgu.refused ∧ (countAbsence p s).sgu.blink = p.sgu.blink ∧
    (countAbsence p s).sgu.released = p.sgu.released ∧ (countAbsence p s).sgu.indication = p.sgu.indication ∧
    (countAbsence p s).sgu.bus = p.sgu.bus ∧ (countAbsence p s).rtu.presets = p.rtu.presets ∧
    (countAbsence p s).rtu.routable = p.rtu.routable ∧ (countAbsence p s).rtu.override = p.rtu.override ∧
    (countAbsence p s).sch.clock = p.sch.clock ∧ (countAbsence p s).ssu.params = p.ssu.params ∧
    (countAbsence p s).prt.rx = p.prt.rx ∧ (countAbsence p s).prt.roomId = p.prt.roomId ∧
    (countAbsence p s).prt.tableName = p.prt.tableName ∧ (countAbsence p s).pwu.power = p.pwu.power ∧
    (countAbsence p s).pwu.settle = p.pwu.settle ∧ (countAbsence p s).pwu.lead = p.pwu.lead ∧
    (countAbsence p s).pwu.delay = p.pwu.delay ∧ (countAbsence p s).pwu.mask = p.pwu.mask ∧
    (countAbsence p s).pwu.proximityWake = p.pwu.proximityWake ∧ (countAbsence p s).line = p.line ∧
    (countAbsence p s).maskOf = p.maskOf := by
  simp only [countAbsence]
  (repeat' split) <;> simp

@[simp] theorem countOccupied_keeps (p : Part) (s : SeatId) :
    (countOccupied p s).smn.occupied = p.smn.occupied ∧ (countOccupied p s).smn.grace = p.smn.grace ∧
    (countOccupied p s).line = p.line ∧ (countOccupied p s).maskOf = p.maskOf ∧
    (countOccupied p s).notices = p.notices := by
  simp only [countOccupied]
  (repeat' split) <;> simp

@[simp] theorem seatSecond_keeps (p : Part) :
    (seatSecond p).smn.grace = p.smn.grace ∧ (seatSecond p).flc.lead = p.flc.lead ∧
    (seatSecond p).flc.nextNumber = p.flc.nextNumber ∧ (seatSecond p).flc.seconds = p.flc.seconds ∧
    (seatSecond p).flc.preset = p.flc.preset ∧ (seatSecond p).sgu.gain = p.sgu.gain ∧
    (seatSecond p).sgu.patterns = p.sgu.patterns ∧ (seatSecond p).sgu.polarity = p.sgu.polarity ∧
    (seatSecond p).sgu.refused = p.sgu.refused ∧ (seatSecond p).sgu.blink = p.sgu.blink ∧
    (seatSecond p).sgu.released = p.sgu.released ∧ (seatSecond p).sgu.indication = p.sgu.indication ∧
    (seatSecond p).sgu.bus = p.sgu.bus ∧ (seatSecond p).rtu.presets = p.rtu.presets ∧
    (seatSecond p).rtu.routable = p.rtu.routable ∧ (seatSecond p).rtu.override = p.rtu.override ∧
    (seatSecond p).sch.clock = p.sch.clock ∧ (seatSecond p).ssu.params = p.ssu.params ∧
    (seatSecond p).prt.rx = p.prt.rx ∧ (seatSecond p).prt.roomId = p.prt.roomId ∧
    (seatSecond p).prt.tableName = p.prt.tableName ∧ (seatSecond p).pwu.power = p.pwu.power ∧
    (seatSecond p).pwu.settle = p.pwu.settle ∧ (seatSecond p).pwu.lead = p.pwu.lead ∧
    (seatSecond p).pwu.delay = p.pwu.delay ∧ (seatSecond p).pwu.mask = p.pwu.mask ∧
    (seatSecond p).pwu.proximityWake = p.pwu.proximityWake ∧ (seatSecond p).line = p.line ∧
    (seatSecond p).maskOf = p.maskOf := by
  simp [seatSecond]

@[simp] theorem keyDown_keeps (p : Part) (s : SeatId) :
    (keyDown p s).smn.occupied = p.smn.occupied ∧ (keyDown p s).smn.grace = p.smn.grace ∧
    (keyDown p s).flc.mode = p.flc.mode ∧ (keyDown p s).flc.limit = p.flc.limit ∧
    (keyDown p s).flc.speak = p.flc.speak ∧ (keyDown p s).flc.enforce = p.flc.enforce ∧
    (keyDown p s).flc.lead = p.flc.lead ∧ (keyDown p s).flc.isOpen = p.flc.isOpen ∧
    (keyDown p s).flc.seconds = p.flc.seconds ∧ (keyDown p s).flc.preset = p.flc.preset ∧
    (keyDown p s).sgu.gain = p.sgu.gain ∧ (keyDown p s).sgu.patterns = p.sgu.patterns ∧
    (keyDown p s).sgu.polarity = p.sgu.polarity ∧ (keyDown p s).sgu.blink = p.sgu.blink ∧
    (keyDown p s).sgu.released = p.sgu.released ∧ (keyDown p s).sgu.indication = p.sgu.indication ∧
    (keyDown p s).sgu.bus = p.sgu.bus ∧ (keyDown p s).rtu.presets = p.rtu.presets ∧
    (keyDown p s).rtu.routable = p.rtu.routable ∧ (keyDown p s).rtu.override = p.rtu.override ∧
    (keyDown p s).prt.rx = p.prt.rx ∧ (keyDown p s).prt.roomId = p.prt.roomId ∧
    (keyDown p s).prt.tableName = p.prt.tableName ∧ (keyDown p s).line = p.line ∧
    (keyDown p s).maskOf = p.maskOf := by
  simp only [keyDown]
  (repeat' split) <;> simp

@[simp] theorem keyUp_keeps (p : Part) (s : SeatId) :
    (keyUp p s).smn.occupied = p.smn.occupied ∧ (keyUp p s).smn.grace = p.smn.grace ∧ (keyUp p s).line = p.line ∧
    (keyUp p s).maskOf = p.maskOf ∧ (keyUp p s).notices = p.notices := by
  simp [keyUp]

@[simp] theorem keyRelease_keeps (p : Part) (s : SeatId) :
    (keyRelease p s).smn.occupied = p.smn.occupied ∧ (keyRelease p s).smn.grace = p.smn.grace ∧
    (keyRelease p s).flc.mode = p.flc.mode ∧ (keyRelease p s).flc.limit = p.flc.limit ∧
    (keyRelease p s).flc.speak = p.flc.speak ∧ (keyRelease p s).flc.enforce = p.flc.enforce ∧
    (keyRelease p s).flc.lead = p.flc.lead ∧ (keyRelease p s).flc.isOpen = p.flc.isOpen ∧
    (keyRelease p s).flc.queue = p.flc.queue ∧ (keyRelease p s).flc.nextNumber = p.flc.nextNumber ∧
    (keyRelease p s).flc.seconds = p.flc.seconds ∧ (keyRelease p s).flc.preset = p.flc.preset ∧
    (keyRelease p s).sgu.gain = p.sgu.gain ∧ (keyRelease p s).sgu.patterns = p.sgu.patterns ∧
    (keyRelease p s).sgu.polarity = p.sgu.polarity ∧ (keyRelease p s).sgu.blink = p.sgu.blink ∧
    (keyRelease p s).sgu.released = p.sgu.released ∧ (keyRelease p s).sgu.indication = p.sgu.indication ∧
    (keyRelease p s).sgu.bus = p.sgu.bus ∧ (keyRelease p s).rtu.presets = p.rtu.presets ∧
    (keyRelease p s).rtu.routable = p.rtu.routable ∧ (keyRelease p s).rtu.override = p.rtu.override ∧
    (keyRelease p s).prt.rx = p.prt.rx ∧ (keyRelease p s).prt.roomId = p.prt.roomId ∧
    (keyRelease p s).prt.tableName = p.prt.tableName ∧ (keyRelease p s).line = p.line ∧
    (keyRelease p s).maskOf = p.maskOf := by
  simp only [keyRelease]
  (repeat' split) <;> simp

@[simp] theorem keyReport_keeps (p : Part) (s : SeatId) (o : Sensed) (c : ReportCause) :
    (keyReport p s o c).smn.occupied = p.smn.occupied ∧ (keyReport p s o c).smn.grace = p.smn.grace ∧
    (keyReport p s o c).flc.mode = p.flc.mode ∧ (keyReport p s o c).flc.limit = p.flc.limit ∧
    (keyReport p s o c).flc.speak = p.flc.speak ∧ (keyReport p s o c).flc.enforce = p.flc.enforce ∧
    (keyReport p s o c).flc.lead = p.flc.lead ∧ (keyReport p s o c).flc.isOpen = p.flc.isOpen ∧
    (keyReport p s o c).flc.seconds = p.flc.seconds ∧ (keyReport p s o c).flc.preset = p.flc.preset ∧
    (keyReport p s o c).sgu.gain = p.sgu.gain ∧ (keyReport p s o c).sgu.patterns = p.sgu.patterns ∧
    (keyReport p s o c).sgu.polarity = p.sgu.polarity ∧ (keyReport p s o c).sgu.blink = p.sgu.blink ∧
    (keyReport p s o c).sgu.released = p.sgu.released ∧ (keyReport p s o c).sgu.indication = p.sgu.indication ∧
    (keyReport p s o c).sgu.bus = p.sgu.bus ∧ (keyReport p s o c).rtu.presets = p.rtu.presets ∧
    (keyReport p s o c).rtu.routable = p.rtu.routable ∧ (keyReport p s o c).rtu.override = p.rtu.override ∧
    (keyReport p s o c).prt.rx = p.prt.rx ∧ (keyReport p s o c).prt.roomId = p.prt.roomId ∧
    (keyReport p s o c).prt.tableName = p.prt.tableName ∧ (keyReport p s o c).line = p.line ∧
    (keyReport p s o c).maskOf = p.maskOf := by
  simp only [keyReport]
  (repeat' split) <;> simp

@[simp] theorem takeChairNext_keeps (p : Part) :
    (takeChairNext p).smn.occupied = p.smn.occupied ∧ (takeChairNext p).smn.grace = p.smn.grace ∧
    (takeChairNext p).flc.mode = p.flc.mode ∧ (takeChairNext p).flc.limit = p.flc.limit ∧
    (takeChairNext p).flc.speak = p.flc.speak ∧ (takeChairNext p).flc.enforce = p.flc.enforce ∧
    (takeChairNext p).flc.lead = p.flc.lead ∧ (takeChairNext p).flc.isOpen = p.flc.isOpen ∧
    (takeChairNext p).flc.seconds = p.flc.seconds ∧ (takeChairNext p).flc.preset = p.flc.preset ∧
    (takeChairNext p).sgu.gain = p.sgu.gain ∧ (takeChairNext p).sgu.patterns = p.sgu.patterns ∧
    (takeChairNext p).sgu.polarity = p.sgu.polarity ∧ (takeChairNext p).sgu.blink = p.sgu.blink ∧
    (takeChairNext p).sgu.released = p.sgu.released ∧ (takeChairNext p).sgu.indication = p.sgu.indication ∧
    (takeChairNext p).sgu.bus = p.sgu.bus ∧ (takeChairNext p).prt.rx = p.prt.rx ∧
    (takeChairNext p).prt.roomId = p.prt.roomId ∧ (takeChairNext p).prt.tableName = p.prt.tableName ∧
    (takeChairNext p).line = p.line ∧ (takeChairNext p).maskOf = p.maskOf := by
  simp only [takeChairNext]
  (repeat' split) <;> simp

@[simp] theorem countPress_keeps (p : Part) (period : Nat) (s : SeatId) :
    (countPress p period s).smn.occupied = p.smn.occupied ∧ (countPress p period s).smn.grace = p.smn.grace ∧
    (countPress p period s).flc.mode = p.flc.mode ∧ (countPress p period s).flc.limit = p.flc.limit ∧
    (countPress p period s).flc.speak = p.flc.speak ∧ (countPress p period s).flc.enforce = p.flc.enforce ∧
    (countPress p period s).flc.lead = p.flc.lead ∧ (countPress p period s).flc.isOpen = p.flc.isOpen ∧
    (countPress p period s).flc.seconds = p.flc.seconds ∧ (countPress p period s).flc.preset = p.flc.preset ∧
    (countPress p period s).sgu.gain = p.sgu.gain ∧ (countPress p period s).sgu.patterns = p.sgu.patterns ∧
    (countPress p period s).sgu.polarity = p.sgu.polarity ∧ (countPress p period s).sgu.blink = p.sgu.blink ∧
    (countPress p period s).sgu.released = p.sgu.released ∧
    (countPress p period s).sgu.indication = p.sgu.indication ∧ (countPress p period s).sgu.bus = p.sgu.bus ∧
    (countPress p period s).prt.rx = p.prt.rx ∧ (countPress p period s).prt.roomId = p.prt.roomId ∧
    (countPress p period s).prt.tableName = p.prt.tableName ∧ (countPress p period s).line = p.line ∧
    (countPress p period s).maskOf = p.maskOf := by
  simp only [countPress]
  (repeat' split) <;> simp

@[simp] theorem report_keeps (p : Part) (c : ChannelId) (o : Sensed) (cause : ReportCause) :
    (report p c o cause).sfe.key = p.sfe.key ∧ (report p c o cause).sfe.proximity = p.sfe.proximity ∧
    (report p c o cause).sfe.reference = p.sfe.reference ∧ (report p c o cause).sfe.frame = p.sfe.frame ∧
    (report p c o cause).smn.grace = p.smn.grace ∧ (report p c o cause).flc.lead = p.flc.lead ∧
    (report p c o cause).flc.seconds = p.flc.seconds ∧ (report p c o cause).flc.preset = p.flc.preset ∧
    (report p c o cause).sgu.gain = p.sgu.gain ∧ (report p c o cause).sgu.patterns = p.sgu.patterns ∧
    (report p c o cause).sgu.polarity = p.sgu.polarity ∧ (report p c o cause).sgu.blink = p.sgu.blink ∧
    (report p c o cause).sgu.released = p.sgu.released ∧ (report p c o cause).sgu.indication = p.sgu.indication ∧
    (report p c o cause).sgu.bus = p.sgu.bus ∧ (report p c o cause).scu.rates = p.scu.rates ∧
    (report p c o cause).scu.agree = p.scu.agree ∧ (report p c o cause).scu.drop = p.scu.drop ∧
    (report p c o cause).scu.pc = p.scu.pc ∧ (report p c o cause).scu.codec = p.scu.codec ∧
    (report p c o cause).rtu.presets = p.rtu.presets ∧ (report p c o cause).rtu.routable = p.rtu.routable ∧
    (report p c o cause).sch.clock = p.sch.clock ∧ (report p c o cause).ssu.params = p.ssu.params ∧
    (report p c o cause).prt.rx = p.prt.rx ∧ (report p c o cause).prt.roomId = p.prt.roomId ∧
    (report p c o cause).prt.tableName = p.prt.tableName ∧ (report p c o cause).pwu.lead = p.pwu.lead ∧
    (report p c o cause).pwu.delay = p.pwu.delay ∧ (report p c o cause).pwu.mask = p.pwu.mask ∧
    (report p c o cause).pwu.proximityWake = p.pwu.proximityWake ∧ (report p c o cause).line = p.line ∧
    (report p c o cause).maskOf = p.maskOf := by
  simp only [report]
  (repeat' split) <;> simp

@[simp] theorem handSource_keeps (p : Part) (k : SocketId) (old new : Socket) :
    (handSource p k old new).sfe.key = p.sfe.key ∧ (handSource p k old new).sfe.proximity = p.sfe.proximity ∧
    (handSource p k old new).sfe.reference = p.sfe.reference ∧ (handSource p k old new).sfe.frame = p.sfe.frame ∧
    (handSource p k old new).scu.rates = p.scu.rates ∧ (handSource p k old new).scu.agree = p.scu.agree ∧
    (handSource p k old new).scu.drop = p.scu.drop ∧ (handSource p k old new).scu.pc = p.scu.pc ∧
    (handSource p k old new).scu.codec = p.scu.codec ∧ (handSource p k old new).rtu.presets = p.rtu.presets ∧
    (handSource p k old new).rtu.speakers = p.rtu.speakers ∧ (handSource p k old new).prt.rx = p.prt.rx ∧
    (handSource p k old new).prt.roomId = p.prt.roomId ∧ (handSource p k old new).prt.tableName = p.prt.tableName ∧
    (handSource p k old new).pwu.lead = p.pwu.lead ∧ (handSource p k old new).pwu.delay = p.pwu.delay ∧
    (handSource p k old new).pwu.mask = p.pwu.mask ∧
    (handSource p k old new).pwu.proximityWake = p.pwu.proximityWake ∧ (handSource p k old new).line = p.line ∧
    (handSource p k old new).maskOf = p.maskOf := by
  simp only [handSource]
  (repeat' split) <;> simp

@[simp] theorem putSocket_keeps (p : Part) (k : SocketId) (x : Socket) :
    (putSocket p k x).sfe.key = p.sfe.key ∧ (putSocket p k x).sfe.proximity = p.sfe.proximity ∧
    (putSocket p k x).sfe.reference = p.sfe.reference ∧ (putSocket p k x).sfe.frame = p.sfe.frame ∧
    (putSocket p k x).scu.rates = p.scu.rates ∧ (putSocket p k x).scu.agree = p.scu.agree ∧
    (putSocket p k x).scu.drop = p.scu.drop ∧ (putSocket p k x).scu.pc = p.scu.pc ∧
    (putSocket p k x).scu.codec = p.scu.codec ∧ (putSocket p k x).rtu.presets = p.rtu.presets ∧
    (putSocket p k x).rtu.speakers = p.rtu.speakers ∧ (putSocket p k x).prt.rx = p.prt.rx ∧
    (putSocket p k x).prt.roomId = p.prt.roomId ∧ (putSocket p k x).prt.tableName = p.prt.tableName ∧
    (putSocket p k x).pwu.lead = p.pwu.lead ∧ (putSocket p k x).pwu.delay = p.pwu.delay ∧
    (putSocket p k x).pwu.mask = p.pwu.mask ∧ (putSocket p k x).pwu.proximityWake = p.pwu.proximityWake ∧
    (putSocket p k x).line = p.line ∧ (putSocket p k x).maskOf = p.maskOf := by
  simp [putSocket]

@[simp] theorem captureEvent_keeps (p : Part) (k : SocketId) (x : Socket) (e : CaptureEvent) :
    (captureEvent p k x e).sfe.key = p.sfe.key ∧ (captureEvent p k x e).sfe.proximity = p.sfe.proximity ∧
    (captureEvent p k x e).sfe.reference = p.sfe.reference ∧ (captureEvent p k x e).sfe.frame = p.sfe.frame ∧
    (captureEvent p k x e).scu.rates = p.scu.rates ∧ (captureEvent p k x e).scu.agree = p.scu.agree ∧
    (captureEvent p k x e).scu.drop = p.scu.drop ∧ (captureEvent p k x e).scu.pc = p.scu.pc ∧
    (captureEvent p k x e).scu.codec = p.scu.codec ∧ (captureEvent p k x e).rtu.presets = p.rtu.presets ∧
    (captureEvent p k x e).rtu.speakers = p.rtu.speakers ∧ (captureEvent p k x e).prt.rx = p.prt.rx ∧
    (captureEvent p k x e).prt.roomId = p.prt.roomId ∧ (captureEvent p k x e).prt.tableName = p.prt.tableName ∧
    (captureEvent p k x e).pwu.lead = p.pwu.lead ∧ (captureEvent p k x e).pwu.delay = p.pwu.delay ∧
    (captureEvent p k x e).pwu.mask = p.pwu.mask ∧ (captureEvent p k x e).pwu.proximityWake = p.pwu.proximityWake ∧
    (captureEvent p k x e).line = p.line ∧ (captureEvent p k x e).maskOf = p.maskOf := by
  simp [captureEvent]

@[simp] theorem overflow_keeps (p : Part) (k : SocketId) :
    (overflow p k).sfe.key = p.sfe.key ∧ (overflow p k).sfe.proximity = p.sfe.proximity ∧
    (overflow p k).sfe.reference = p.sfe.reference ∧ (overflow p k).sfe.frame = p.sfe.frame ∧
    (overflow p k).scu.rates = p.scu.rates ∧ (overflow p k).scu.agree = p.scu.agree ∧
    (overflow p k).scu.drop = p.scu.drop ∧ (overflow p k).scu.pc = p.scu.pc ∧
    (overflow p k).scu.codec = p.scu.codec ∧ (overflow p k).rtu.presets = p.rtu.presets ∧
    (overflow p k).rtu.speakers = p.rtu.speakers ∧ (overflow p k).prt.rx = p.prt.rx ∧
    (overflow p k).prt.roomId = p.prt.roomId ∧ (overflow p k).prt.tableName = p.prt.tableName ∧
    (overflow p k).pwu.lead = p.pwu.lead ∧ (overflow p k).pwu.delay = p.pwu.delay ∧
    (overflow p k).pwu.mask = p.pwu.mask ∧ (overflow p k).pwu.proximityWake = p.pwu.proximityWake ∧
    (overflow p k).line = p.line ∧ (overflow p k).maskOf = p.maskOf := by
  simp only [overflow]
  (repeat' split) <;> simp

@[simp] theorem overflows_keeps (k : SocketId) (n : Nat) (p : Part) :
    (overflows k n p).sfe.key = p.sfe.key ∧ (overflows k n p).sfe.proximity = p.sfe.proximity ∧
    (overflows k n p).sfe.reference = p.sfe.reference ∧ (overflows k n p).sfe.frame = p.sfe.frame ∧
    (overflows k n p).scu.rates = p.scu.rates ∧ (overflows k n p).scu.agree = p.scu.agree ∧
    (overflows k n p).scu.drop = p.scu.drop ∧ (overflows k n p).scu.pc = p.scu.pc ∧
    (overflows k n p).scu.codec = p.scu.codec ∧ (overflows k n p).rtu.presets = p.rtu.presets ∧
    (overflows k n p).rtu.speakers = p.rtu.speakers ∧ (overflows k n p).prt.rx = p.prt.rx ∧
    (overflows k n p).prt.roomId = p.prt.roomId ∧ (overflows k n p).prt.tableName = p.prt.tableName ∧
    (overflows k n p).pwu.lead = p.pwu.lead ∧ (overflows k n p).pwu.delay = p.pwu.delay ∧
    (overflows k n p).pwu.mask = p.pwu.mask ∧ (overflows k n p).pwu.proximityWake = p.pwu.proximityWake ∧
    (overflows k n p).line = p.line ∧ (overflows k n p).maskOf = p.maskOf := by
  induction n generalizing p with
  | zero => simp [overflows]
  | succ n ih => simp [overflows, ih]

@[simp] theorem passTicks_keeps (p : Part) (k : SocketId) (ticks : Nat) (last : Bool) :
    (passTicks p k ticks last).sfe.key = p.sfe.key ∧ (passTicks p k ticks last).sfe.proximity = p.sfe.proximity ∧
    (passTicks p k ticks last).sfe.reference = p.sfe.reference ∧ (passTicks p k ticks last).sfe.frame = p.sfe.frame ∧
    (passTicks p k ticks last).scu.rates = p.scu.rates ∧ (passTicks p k ticks last).scu.agree = p.scu.agree ∧
    (passTicks p k ticks last).scu.drop = p.scu.drop ∧ (passTicks p k ticks last).scu.pc = p.scu.pc ∧
    (passTicks p k ticks last).scu.codec = p.scu.codec ∧ (passTicks p k ticks last).rtu.presets = p.rtu.presets ∧
    (passTicks p k ticks last).rtu.speakers = p.rtu.speakers ∧ (passTicks p k ticks last).prt.rx = p.prt.rx ∧
    (passTicks p k ticks last).prt.roomId = p.prt.roomId ∧
    (passTicks p k ticks last).prt.tableName = p.prt.tableName ∧ (passTicks p k ticks last).pwu.lead = p.pwu.lead ∧
    (passTicks p k ticks last).pwu.delay = p.pwu.delay ∧ (passTicks p k ticks last).pwu.mask = p.pwu.mask ∧
    (passTicks p k ticks last).pwu.proximityWake = p.pwu.proximityWake ∧ (passTicks p k ticks last).line = p.line ∧
    (passTicks p k ticks last).maskOf = p.maskOf := by
  simp only [passTicks]
  (repeat' split) <;> simp

@[simp] theorem tickSocket_keeps (p : Part) (k : SocketId) :
    (tickSocket p k).sfe.key = p.sfe.key ∧ (tickSocket p k).sfe.proximity = p.sfe.proximity ∧
    (tickSocket p k).sfe.reference = p.sfe.reference ∧ (tickSocket p k).sfe.frame = p.sfe.frame ∧
    (tickSocket p k).scu.rates = p.scu.rates ∧ (tickSocket p k).scu.agree = p.scu.agree ∧
    (tickSocket p k).scu.drop = p.scu.drop ∧ (tickSocket p k).scu.pc = p.scu.pc ∧
    (tickSocket p k).scu.codec = p.scu.codec ∧ (tickSocket p k).rtu.presets = p.rtu.presets ∧
    (tickSocket p k).rtu.speakers = p.rtu.speakers ∧ (tickSocket p k).prt.rx = p.prt.rx ∧
    (tickSocket p k).prt.roomId = p.prt.roomId ∧ (tickSocket p k).prt.tableName = p.prt.tableName ∧
    (tickSocket p k).pwu.lead = p.pwu.lead ∧ (tickSocket p k).pwu.delay = p.pwu.delay ∧
    (tickSocket p k).pwu.mask = p.pwu.mask ∧ (tickSocket p k).pwu.proximityWake = p.pwu.proximityWake ∧
    (tickSocket p k).line = p.line ∧ (tickSocket p k).maskOf = p.maskOf := by
  simp only [tickSocket]
  split <;> simp

@[simp] theorem captureTick_keeps (p : Part) :
    (captureTick p).sfe.key = p.sfe.key ∧ (captureTick p).sfe.proximity = p.sfe.proximity ∧
    (captureTick p).sfe.reference = p.sfe.reference ∧ (captureTick p).sfe.frame = p.sfe.frame ∧
    (captureTick p).scu.rates = p.scu.rates ∧ (captureTick p).scu.agree = p.scu.agree ∧
    (captureTick p).scu.drop = p.scu.drop ∧ (captureTick p).scu.pc = p.scu.pc ∧
    (captureTick p).scu.codec = p.scu.codec ∧ (captureTick p).rtu.presets = p.rtu.presets ∧
    (captureTick p).rtu.speakers = p.rtu.speakers ∧ (captureTick p).prt.rx = p.prt.rx ∧
    (captureTick p).prt.roomId = p.prt.roomId ∧ (captureTick p).prt.tableName = p.prt.tableName ∧
    (captureTick p).pwu.lead = p.pwu.lead ∧ (captureTick p).pwu.delay = p.pwu.delay ∧
    (captureTick p).pwu.mask = p.pwu.mask ∧ (captureTick p).pwu.proximityWake = p.pwu.proximityWake ∧
    (captureTick p).line = p.line ∧ (captureTick p).maskOf = p.maskOf := by
  simp [captureTick]

@[simp] theorem measure_keeps (p : Part) (k : SocketId) (x : Socket) :
    (measure p k x).sfe.key = p.sfe.key ∧ (measure p k x).sfe.proximity = p.sfe.proximity ∧
    (measure p k x).sfe.reference = p.sfe.reference ∧ (measure p k x).sfe.frame = p.sfe.frame ∧
    (measure p k x).scu.rates = p.scu.rates ∧ (measure p k x).scu.agree = p.scu.agree ∧
    (measure p k x).scu.drop = p.scu.drop ∧ (measure p k x).scu.pc = p.scu.pc ∧
    (measure p k x).scu.codec = p.scu.codec ∧ (measure p k x).rtu.presets = p.rtu.presets ∧
    (measure p k x).rtu.speakers = p.rtu.speakers ∧ (measure p k x).prt.rx = p.prt.rx ∧
    (measure p k x).prt.roomId = p.prt.roomId ∧ (measure p k x).prt.tableName = p.prt.tableName ∧
    (measure p k x).pwu.lead = p.pwu.lead ∧ (measure p k x).pwu.delay = p.pwu.delay ∧
    (measure p k x).pwu.mask = p.pwu.mask ∧ (measure p k x).pwu.proximityWake = p.pwu.proximityWake ∧
    (measure p k x).line = p.line ∧ (measure p k x).maskOf = p.maskOf := by
  simp [measure]

@[simp] theorem edgeActs_keeps (p : Part) (k : SocketId) (isActive : Bool) :
    (edgeActs p k isActive).sfe.key = p.sfe.key ∧ (edgeActs p k isActive).sfe.proximity = p.sfe.proximity ∧
    (edgeActs p k isActive).sfe.reference = p.sfe.reference ∧ (edgeActs p k isActive).sfe.frame = p.sfe.frame ∧
    (edgeActs p k isActive).scu.rates = p.scu.rates ∧ (edgeActs p k isActive).scu.agree = p.scu.agree ∧
    (edgeActs p k isActive).scu.drop = p.scu.drop ∧ (edgeActs p k isActive).scu.pc = p.scu.pc ∧
    (edgeActs p k isActive).scu.codec = p.scu.codec ∧ (edgeActs p k isActive).rtu.presets = p.rtu.presets ∧
    (edgeActs p k isActive).rtu.speakers = p.rtu.speakers ∧ (edgeActs p k isActive).prt.rx = p.prt.rx ∧
    (edgeActs p k isActive).prt.roomId = p.prt.roomId ∧ (edgeActs p k isActive).prt.tableName = p.prt.tableName ∧
    (edgeActs p k isActive).pwu.lead = p.pwu.lead ∧ (edgeActs p k isActive).pwu.delay = p.pwu.delay ∧
    (edgeActs p k isActive).pwu.mask = p.pwu.mask ∧ (edgeActs p k isActive).pwu.proximityWake = p.pwu.proximityWake ∧
    (edgeActs p k isActive).line = p.line ∧ (edgeActs p k isActive).maskOf = p.maskOf := by
  simp only [edgeActs]
  (repeat' split) <;> simp

@[simp] theorem lateOverflow_keeps (p : Part) (k : SocketId) :
    (lateOverflow p k).sfe.key = p.sfe.key ∧ (lateOverflow p k).sfe.proximity = p.sfe.proximity ∧
    (lateOverflow p k).sfe.reference = p.sfe.reference ∧ (lateOverflow p k).sfe.frame = p.sfe.frame ∧
    (lateOverflow p k).scu.rates = p.scu.rates ∧ (lateOverflow p k).scu.agree = p.scu.agree ∧
    (lateOverflow p k).scu.drop = p.scu.drop ∧ (lateOverflow p k).scu.pc = p.scu.pc ∧
    (lateOverflow p k).scu.codec = p.scu.codec ∧ (lateOverflow p k).rtu.presets = p.rtu.presets ∧
    (lateOverflow p k).rtu.speakers = p.rtu.speakers ∧ (lateOverflow p k).prt.rx = p.prt.rx ∧
    (lateOverflow p k).prt.roomId = p.prt.roomId ∧ (lateOverflow p k).prt.tableName = p.prt.tableName ∧
    (lateOverflow p k).pwu.lead = p.pwu.lead ∧ (lateOverflow p k).pwu.delay = p.pwu.delay ∧
    (lateOverflow p k).pwu.mask = p.pwu.mask ∧ (lateOverflow p k).pwu.proximityWake = p.pwu.proximityWake ∧
    (lateOverflow p k).line = p.line ∧ (lateOverflow p k).maskOf = p.maskOf := by
  simp only [lateOverflow]
  (repeat' split) <;> simp

@[simp] theorem takeEdge_keeps (p : Part) (k : SocketId) (e : Edge) (ticks levelHeld : Nat) (overflowFirst : Bool) :
    (takeEdge p k e ticks levelHeld overflowFirst).sfe.key = p.sfe.key ∧
    (takeEdge p k e ticks levelHeld overflowFirst).sfe.proximity = p.sfe.proximity ∧
    (takeEdge p k e ticks levelHeld overflowFirst).sfe.reference = p.sfe.reference ∧
    (takeEdge p k e ticks levelHeld overflowFirst).sfe.frame = p.sfe.frame ∧
    (takeEdge p k e ticks levelHeld overflowFirst).scu.rates = p.scu.rates ∧
    (takeEdge p k e ticks levelHeld overflowFirst).scu.agree = p.scu.agree ∧
    (takeEdge p k e ticks levelHeld overflowFirst).scu.drop = p.scu.drop ∧
    (takeEdge p k e ticks levelHeld overflowFirst).scu.pc = p.scu.pc ∧
    (takeEdge p k e ticks levelHeld overflowFirst).scu.codec = p.scu.codec ∧
    (takeEdge p k e ticks levelHeld overflowFirst).rtu.presets = p.rtu.presets ∧
    (takeEdge p k e ticks levelHeld overflowFirst).rtu.speakers = p.rtu.speakers ∧
    (takeEdge p k e ticks levelHeld overflowFirst).prt.rx = p.prt.rx ∧
    (takeEdge p k e ticks levelHeld overflowFirst).prt.roomId = p.prt.roomId ∧
    (takeEdge p k e ticks levelHeld overflowFirst).prt.tableName = p.prt.tableName ∧
    (takeEdge p k e ticks levelHeld overflowFirst).pwu.lead = p.pwu.lead ∧
    (takeEdge p k e ticks levelHeld overflowFirst).pwu.delay = p.pwu.delay ∧
    (takeEdge p k e ticks levelHeld overflowFirst).pwu.mask = p.pwu.mask ∧
    (takeEdge p k e ticks levelHeld overflowFirst).pwu.proximityWake = p.pwu.proximityWake ∧
    (takeEdge p k e ticks levelHeld overflowFirst).line = p.line ∧
    (takeEdge p k e ticks levelHeld overflowFirst).maskOf = p.maskOf := by
  simp only [takeEdge]
  (repeat' split) <;> simp

@[simp] theorem standbySocket_keeps (p : Part) (k : SocketId) :
    (standbySocket p k).sfe.key = p.sfe.key ∧ (standbySocket p k).sfe.proximity = p.sfe.proximity ∧
    (standbySocket p k).sfe.reference = p.sfe.reference ∧ (standbySocket p k).sfe.frame = p.sfe.frame ∧
    (standbySocket p k).scu.rates = p.scu.rates ∧ (standbySocket p k).scu.agree = p.scu.agree ∧
    (standbySocket p k).scu.drop = p.scu.drop ∧ (standbySocket p k).scu.pc = p.scu.pc ∧
    (standbySocket p k).scu.codec = p.scu.codec ∧ (standbySocket p k).rtu.presets = p.rtu.presets ∧
    (standbySocket p k).rtu.speakers = p.rtu.speakers ∧ (standbySocket p k).prt.rx = p.prt.rx ∧
    (standbySocket p k).prt.roomId = p.prt.roomId ∧ (standbySocket p k).prt.tableName = p.prt.tableName ∧
    (standbySocket p k).pwu.lead = p.pwu.lead ∧ (standbySocket p k).pwu.delay = p.pwu.delay ∧
    (standbySocket p k).pwu.mask = p.pwu.mask ∧ (standbySocket p k).pwu.proximityWake = p.pwu.proximityWake ∧
    (standbySocket p k).line = p.line ∧ (standbySocket p k).maskOf = p.maskOf := by
  simp only [standbySocket]
  (repeat' split) <;> simp

@[simp] theorem setFixedInput_keeps (p : Part) (codec present : Bool) :
    (setFixedInput p codec present).scu.sockets = p.scu.sockets ∧
    (setFixedInput p codec present).scu.rates = p.scu.rates ∧
    (setFixedInput p codec present).scu.agree = p.scu.agree ∧ (setFixedInput p codec present).scu.drop = p.scu.drop ∧
    (setFixedInput p codec present).rtu.presets = p.rtu.presets ∧
    (setFixedInput p codec present).rtu.speakers = p.rtu.speakers ∧
    (setFixedInput p codec present).rtu.override = p.rtu.override ∧
    (setFixedInput p codec present).prt.rx = p.prt.rx ∧ (setFixedInput p codec present).prt.roomId = p.prt.roomId ∧
    (setFixedInput p codec present).prt.tableName = p.prt.tableName ∧ (setFixedInput p codec present).line = p.line ∧
    (setFixedInput p codec present).maskOf = p.maskOf := by
  simp only [setFixedInput]
  (repeat' split) <;> simp

@[simp] theorem sendOne_keeps (c : ChannelId) (p : Part) (o : SfeOut) :
    (sendOne c p o).sfe.key = p.sfe.key ∧ (sendOne c p o).sfe.proximity = p.sfe.proximity ∧
    (sendOne c p o).sfe.reference = p.sfe.reference ∧ (sendOne c p o).sfe.frame = p.sfe.frame ∧
    (sendOne c p o).smn.grace = p.smn.grace ∧ (sendOne c p o).flc.lead = p.flc.lead ∧
    (sendOne c p o).flc.seconds = p.flc.seconds ∧ (sendOne c p o).flc.preset = p.flc.preset ∧
    (sendOne c p o).sgu.gain = p.sgu.gain ∧ (sendOne c p o).sgu.patterns = p.sgu.patterns ∧
    (sendOne c p o).sgu.polarity = p.sgu.polarity ∧ (sendOne c p o).sgu.blink = p.sgu.blink ∧
    (sendOne c p o).sgu.released = p.sgu.released ∧ (sendOne c p o).sgu.indication = p.sgu.indication ∧
    (sendOne c p o).sgu.bus = p.sgu.bus ∧ (sendOne c p o).scu.rates = p.scu.rates ∧
    (sendOne c p o).scu.agree = p.scu.agree ∧ (sendOne c p o).scu.drop = p.scu.drop ∧
    (sendOne c p o).scu.pc = p.scu.pc ∧ (sendOne c p o).scu.codec = p.scu.codec ∧
    (sendOne c p o).rtu.presets = p.rtu.presets ∧ (sendOne c p o).rtu.routable = p.rtu.routable ∧
    (sendOne c p o).sch.clock = p.sch.clock ∧ (sendOne c p o).ssu.params = p.ssu.params ∧
    (sendOne c p o).prt.rx = p.prt.rx ∧ (sendOne c p o).prt.roomId = p.prt.roomId ∧
    (sendOne c p o).prt.tableName = p.prt.tableName ∧ (sendOne c p o).pwu.lead = p.pwu.lead ∧
    (sendOne c p o).pwu.delay = p.pwu.delay ∧ (sendOne c p o).pwu.mask = p.pwu.mask ∧
    (sendOne c p o).pwu.proximityWake = p.pwu.proximityWake ∧ (sendOne c p o).line = p.line ∧
    (sendOne c p o).maskOf = p.maskOf := by
  simp only [sendOne]
  (repeat' split) <;> simp

@[simp] theorem sendOut_keeps (p : Part) (c : ChannelId) (out : List SfeOut) :
    (sendOut p c out).sfe.key = p.sfe.key ∧ (sendOut p c out).sfe.proximity = p.sfe.proximity ∧
    (sendOut p c out).sfe.reference = p.sfe.reference ∧ (sendOut p c out).sfe.frame = p.sfe.frame ∧
    (sendOut p c out).smn.grace = p.smn.grace ∧ (sendOut p c out).flc.lead = p.flc.lead ∧
    (sendOut p c out).flc.seconds = p.flc.seconds ∧ (sendOut p c out).flc.preset = p.flc.preset ∧
    (sendOut p c out).sgu.gain = p.sgu.gain ∧ (sendOut p c out).sgu.patterns = p.sgu.patterns ∧
    (sendOut p c out).sgu.polarity = p.sgu.polarity ∧ (sendOut p c out).sgu.blink = p.sgu.blink ∧
    (sendOut p c out).sgu.released = p.sgu.released ∧ (sendOut p c out).sgu.indication = p.sgu.indication ∧
    (sendOut p c out).sgu.bus = p.sgu.bus ∧ (sendOut p c out).scu.rates = p.scu.rates ∧
    (sendOut p c out).scu.agree = p.scu.agree ∧ (sendOut p c out).scu.drop = p.scu.drop ∧
    (sendOut p c out).scu.pc = p.scu.pc ∧ (sendOut p c out).scu.codec = p.scu.codec ∧
    (sendOut p c out).rtu.presets = p.rtu.presets ∧ (sendOut p c out).rtu.routable = p.rtu.routable ∧
    (sendOut p c out).sch.clock = p.sch.clock ∧ (sendOut p c out).ssu.params = p.ssu.params ∧
    (sendOut p c out).prt.rx = p.prt.rx ∧ (sendOut p c out).prt.roomId = p.prt.roomId ∧
    (sendOut p c out).prt.tableName = p.prt.tableName ∧ (sendOut p c out).pwu.lead = p.pwu.lead ∧
    (sendOut p c out).pwu.delay = p.pwu.delay ∧ (sendOut p c out).pwu.mask = p.pwu.mask ∧
    (sendOut p c out).pwu.proximityWake = p.pwu.proximityWake ∧ (sendOut p c out).line = p.line ∧
    (sendOut p c out).maskOf = p.maskOf := by
  simp [sendOut]

@[simp] theorem putChannel_keeps (p : Part) (c : ChannelId) (r : ChanResult) :
    (putChannel p c r).sfe.key = p.sfe.key ∧ (putChannel p c r).sfe.proximity = p.sfe.proximity ∧
    (putChannel p c r).sfe.reference = p.sfe.reference ∧ (putChannel p c r).sfe.frame = p.sfe.frame ∧
    (putChannel p c r).smn.grace = p.smn.grace ∧ (putChannel p c r).flc.lead = p.flc.lead ∧
    (putChannel p c r).flc.seconds = p.flc.seconds ∧ (putChannel p c r).flc.preset = p.flc.preset ∧
    (putChannel p c r).sgu.gain = p.sgu.gain ∧ (putChannel p c r).sgu.patterns = p.sgu.patterns ∧
    (putChannel p c r).sgu.polarity = p.sgu.polarity ∧ (putChannel p c r).sgu.blink = p.sgu.blink ∧
    (putChannel p c r).sgu.released = p.sgu.released ∧ (putChannel p c r).sgu.indication = p.sgu.indication ∧
    (putChannel p c r).sgu.bus = p.sgu.bus ∧ (putChannel p c r).scu.rates = p.scu.rates ∧
    (putChannel p c r).scu.agree = p.scu.agree ∧ (putChannel p c r).scu.drop = p.scu.drop ∧
    (putChannel p c r).scu.pc = p.scu.pc ∧ (putChannel p c r).scu.codec = p.scu.codec ∧
    (putChannel p c r).rtu.presets = p.rtu.presets ∧ (putChannel p c r).rtu.routable = p.rtu.routable ∧
    (putChannel p c r).sch.clock = p.sch.clock ∧ (putChannel p c r).ssu.params = p.ssu.params ∧
    (putChannel p c r).prt.rx = p.prt.rx ∧ (putChannel p c r).prt.roomId = p.prt.roomId ∧
    (putChannel p c r).prt.tableName = p.prt.tableName ∧ (putChannel p c r).pwu.lead = p.pwu.lead ∧
    (putChannel p c r).pwu.delay = p.pwu.delay ∧ (putChannel p c r).pwu.mask = p.pwu.mask ∧
    (putChannel p c r).pwu.proximityWake = p.pwu.proximityWake ∧ (putChannel p c r).line = p.line ∧
    (putChannel p c r).maskOf = p.maskOf := by
  simp [putChannel]

@[simp] theorem channelFrame_keeps (standby : Bool) (change : Int) (readings : List Nat) (p : Part) (c : ChannelId) :
    (channelFrame standby change readings p c).sfe.key = p.sfe.key ∧
    (channelFrame standby change readings p c).sfe.proximity = p.sfe.proximity ∧
    (channelFrame standby change readings p c).sfe.reference = p.sfe.reference ∧
    (channelFrame standby change readings p c).sfe.frame = p.sfe.frame ∧
    (channelFrame standby change readings p c).smn.grace = p.smn.grace ∧
    (channelFrame standby change readings p c).flc.lead = p.flc.lead ∧
    (channelFrame standby change readings p c).flc.seconds = p.flc.seconds ∧
    (channelFrame standby change readings p c).flc.preset = p.flc.preset ∧
    (channelFrame standby change readings p c).sgu.gain = p.sgu.gain ∧
    (channelFrame standby change readings p c).sgu.patterns = p.sgu.patterns ∧
    (channelFrame standby change readings p c).sgu.polarity = p.sgu.polarity ∧
    (channelFrame standby change readings p c).sgu.blink = p.sgu.blink ∧
    (channelFrame standby change readings p c).sgu.released = p.sgu.released ∧
    (channelFrame standby change readings p c).sgu.indication = p.sgu.indication ∧
    (channelFrame standby change readings p c).sgu.bus = p.sgu.bus ∧
    (channelFrame standby change readings p c).scu.rates = p.scu.rates ∧
    (channelFrame standby change readings p c).scu.agree = p.scu.agree ∧
    (channelFrame standby change readings p c).scu.drop = p.scu.drop ∧
    (channelFrame standby change readings p c).scu.pc = p.scu.pc ∧
    (channelFrame standby change readings p c).scu.codec = p.scu.codec ∧
    (channelFrame standby change readings p c).rtu.presets = p.rtu.presets ∧
    (channelFrame standby change readings p c).rtu.routable = p.rtu.routable ∧
    (channelFrame standby change readings p c).sch.clock = p.sch.clock ∧
    (channelFrame standby change readings p c).ssu.params = p.ssu.params ∧
    (channelFrame standby change readings p c).prt.rx = p.prt.rx ∧
    (channelFrame standby change readings p c).prt.roomId = p.prt.roomId ∧
    (channelFrame standby change readings p c).prt.tableName = p.prt.tableName ∧
    (channelFrame standby change readings p c).pwu.lead = p.pwu.lead ∧
    (channelFrame standby change readings p c).pwu.delay = p.pwu.delay ∧
    (channelFrame standby change readings p c).pwu.mask = p.pwu.mask ∧
    (channelFrame standby change readings p c).pwu.proximityWake = p.pwu.proximityWake ∧
    (channelFrame standby change readings p c).line = p.line ∧
    (channelFrame standby change readings p c).maskOf = p.maskOf := by
  simp only [channelFrame]
  (repeat' split) <;> simp

@[simp] theorem countPresses_keeps (p : Part) (period : Nat) (seats : List SeatId) :
    (countPresses p period seats).smn.occupied = p.smn.occupied ∧
    (countPresses p period seats).smn.grace = p.smn.grace ∧ (countPresses p period seats).flc.mode = p.flc.mode ∧
    (countPresses p period seats).flc.limit = p.flc.limit ∧ (countPresses p period seats).flc.speak = p.flc.speak ∧
    (countPresses p period seats).flc.enforce = p.flc.enforce ∧ (countPresses p period seats).flc.lead = p.flc.lead ∧
    (countPresses p period seats).flc.isOpen = p.flc.isOpen ∧
    (countPresses p period seats).flc.seconds = p.flc.seconds ∧
    (countPresses p period seats).flc.preset = p.flc.preset ∧ (countPresses p period seats).sgu.gain = p.sgu.gain ∧
    (countPresses p period seats).sgu.patterns = p.sgu.patterns ∧
    (countPresses p period seats).sgu.polarity = p.sgu.polarity ∧
    (countPresses p period seats).sgu.blink = p.sgu.blink ∧
    (countPresses p period seats).sgu.released = p.sgu.released ∧
    (countPresses p period seats).sgu.indication = p.sgu.indication ∧
    (countPresses p period seats).sgu.bus = p.sgu.bus ∧ (countPresses p period seats).prt.rx = p.prt.rx ∧
    (countPresses p period seats).prt.roomId = p.prt.roomId ∧
    (countPresses p period seats).prt.tableName = p.prt.tableName ∧ (countPresses p period seats).line = p.line ∧
    (countPresses p period seats).maskOf = p.maskOf := by
  simp [countPresses]

@[simp] theorem startUpTest_keeps (p : Part) :
    (startUpTest p).smn.occupied = p.smn.occupied ∧ (startUpTest p).smn.grace = p.smn.grace ∧
    (startUpTest p).flc.lead = p.flc.lead ∧ (startUpTest p).flc.nextNumber = p.flc.nextNumber ∧
    (startUpTest p).flc.seconds = p.flc.seconds ∧ (startUpTest p).flc.preset = p.flc.preset ∧
    (startUpTest p).sgu.gain = p.sgu.gain ∧ (startUpTest p).sgu.patterns = p.sgu.patterns ∧
    (startUpTest p).sgu.polarity = p.sgu.polarity ∧ (startUpTest p).sgu.refused = p.sgu.refused ∧
    (startUpTest p).sgu.blink = p.sgu.blink ∧ (startUpTest p).sgu.released = p.sgu.released ∧
    (startUpTest p).sgu.indication = p.sgu.indication ∧ (startUpTest p).sgu.bus = p.sgu.bus ∧
    (startUpTest p).rtu.presets = p.rtu.presets ∧ (startUpTest p).rtu.routable = p.rtu.routable ∧
    (startUpTest p).rtu.override = p.rtu.override ∧ (startUpTest p).sch.clock = p.sch.clock ∧
    (startUpTest p).ssu.params = p.ssu.params ∧ (startUpTest p).prt.rx = p.prt.rx ∧
    (startUpTest p).prt.roomId = p.prt.roomId ∧ (startUpTest p).prt.tableName = p.prt.tableName ∧
    (startUpTest p).pwu.quiet = p.pwu.quiet ∧ (startUpTest p).pwu.settle = p.pwu.settle ∧
    (startUpTest p).pwu.lead = p.pwu.lead ∧ (startUpTest p).pwu.delay = p.pwu.delay ∧
    (startUpTest p).pwu.mask = p.pwu.mask ∧ (startUpTest p).pwu.proximityWake = p.pwu.proximityWake ∧
    (startUpTest p).pln.straps = p.pln.straps ∧ (startUpTest p).pln.outcome = p.pln.outcome ∧
    (startUpTest p).pln.corrected = p.pln.corrected ∧ (startUpTest p).pln.image = p.pln.image ∧
    (startUpTest p).pln.saving = p.pln.saving ∧ (startUpTest p).pln.composed = p.pln.composed ∧
    (startUpTest p).pln.result = p.pln.result ∧ (startUpTest p).line = p.line ∧
    (startUpTest p).maskOf = p.maskOf := by
  simp only [startUpTest]
  (repeat' split) <;> simp

@[simp] theorem settleFrame_keeps (p : Part) (counts : Bool) :
    (settleFrame p counts).smn.occupied = p.smn.occupied ∧ (settleFrame p counts).smn.grace = p.smn.grace ∧
    (settleFrame p counts).flc.lead = p.flc.lead ∧ (settleFrame p counts).flc.nextNumber = p.flc.nextNumber ∧
    (settleFrame p counts).flc.seconds = p.flc.seconds ∧ (settleFrame p counts).flc.preset = p.flc.preset ∧
    (settleFrame p counts).sgu.gain = p.sgu.gain ∧ (settleFrame p counts).sgu.patterns = p.sgu.patterns ∧
    (settleFrame p counts).sgu.polarity = p.sgu.polarity ∧ (settleFrame p counts).sgu.refused = p.sgu.refused ∧
    (settleFrame p counts).sgu.blink = p.sgu.blink ∧ (settleFrame p counts).sgu.released = p.sgu.released ∧
    (settleFrame p counts).sgu.indication = p.sgu.indication ∧ (settleFrame p counts).sgu.bus = p.sgu.bus ∧
    (settleFrame p counts).rtu.presets = p.rtu.presets ∧ (settleFrame p counts).rtu.routable = p.rtu.routable ∧
    (settleFrame p counts).rtu.override = p.rtu.override ∧ (settleFrame p counts).sch.clock = p.sch.clock ∧
    (settleFrame p counts).ssu.params = p.ssu.params ∧ (settleFrame p counts).prt.rx = p.prt.rx ∧
    (settleFrame p counts).prt.roomId = p.prt.roomId ∧ (settleFrame p counts).prt.tableName = p.prt.tableName ∧
    (settleFrame p counts).pwu.quiet = p.pwu.quiet ∧ (settleFrame p counts).pwu.lead = p.pwu.lead ∧
    (settleFrame p counts).pwu.delay = p.pwu.delay ∧ (settleFrame p counts).pwu.mask = p.pwu.mask ∧
    (settleFrame p counts).pwu.proximityWake = p.pwu.proximityWake ∧ (settleFrame p counts).line = p.line ∧
    (settleFrame p counts).maskOf = p.maskOf := by
  simp only [settleFrame]
  (repeat' split) <;> simp

@[simp] theorem sensingFrame_keeps (p : Part) (readings : List Nat) (first : List ChannelId) (timersFirst : Bool) :
    (sensingFrame p readings first timersFirst).sfe.key = p.sfe.key ∧
    (sensingFrame p readings first timersFirst).sfe.proximity = p.sfe.proximity ∧
    (sensingFrame p readings first timersFirst).sfe.reference = p.sfe.reference ∧
    (sensingFrame p readings first timersFirst).sfe.frame = p.sfe.frame ∧
    (sensingFrame p readings first timersFirst).smn.grace = p.smn.grace ∧
    (sensingFrame p readings first timersFirst).flc.lead = p.flc.lead ∧
    (sensingFrame p readings first timersFirst).flc.seconds = p.flc.seconds ∧
    (sensingFrame p readings first timersFirst).flc.preset = p.flc.preset ∧
    (sensingFrame p readings first timersFirst).sgu.gain = p.sgu.gain ∧
    (sensingFrame p readings first timersFirst).sgu.patterns = p.sgu.patterns ∧
    (sensingFrame p readings first timersFirst).sgu.polarity = p.sgu.polarity ∧
    (sensingFrame p readings first timersFirst).sgu.blink = p.sgu.blink ∧
    (sensingFrame p readings first timersFirst).sgu.released = p.sgu.released ∧
    (sensingFrame p readings first timersFirst).sgu.indication = p.sgu.indication ∧
    (sensingFrame p readings first timersFirst).sgu.bus = p.sgu.bus ∧
    (sensingFrame p readings first timersFirst).scu.rates = p.scu.rates ∧
    (sensingFrame p readings first timersFirst).scu.agree = p.scu.agree ∧
    (sensingFrame p readings first timersFirst).scu.drop = p.scu.drop ∧
    (sensingFrame p readings first timersFirst).scu.pc = p.scu.pc ∧
    (sensingFrame p readings first timersFirst).scu.codec = p.scu.codec ∧
    (sensingFrame p readings first timersFirst).rtu.presets = p.rtu.presets ∧
    (sensingFrame p readings first timersFirst).rtu.routable = p.rtu.routable ∧
    (sensingFrame p readings first timersFirst).sch.clock = p.sch.clock ∧
    (sensingFrame p readings first timersFirst).ssu.params = p.ssu.params ∧
    (sensingFrame p readings first timersFirst).prt.rx = p.prt.rx ∧
    (sensingFrame p readings first timersFirst).prt.roomId = p.prt.roomId ∧
    (sensingFrame p readings first timersFirst).prt.tableName = p.prt.tableName ∧
    (sensingFrame p readings first timersFirst).pwu.lead = p.pwu.lead ∧
    (sensingFrame p readings first timersFirst).pwu.delay = p.pwu.delay ∧
    (sensingFrame p readings first timersFirst).pwu.mask = p.pwu.mask ∧
    (sensingFrame p readings first timersFirst).pwu.proximityWake = p.pwu.proximityWake ∧
    (sensingFrame p readings first timersFirst).pln.straps = p.pln.straps ∧
    (sensingFrame p readings first timersFirst).pln.outcome = p.pln.outcome ∧
    (sensingFrame p readings first timersFirst).pln.corrected = p.pln.corrected ∧
    (sensingFrame p readings first timersFirst).pln.image = p.pln.image ∧
    (sensingFrame p readings first timersFirst).pln.saving = p.pln.saving ∧
    (sensingFrame p readings first timersFirst).pln.composed = p.pln.composed ∧
    (sensingFrame p readings first timersFirst).pln.result = p.pln.result ∧
    (sensingFrame p readings first timersFirst).line = p.line ∧
    (sensingFrame p readings first timersFirst).maskOf = p.maskOf := by
  simp only [sensingFrame]
  (repeat' split) <;> simp

@[simp] theorem haltReseed_keeps (p : Part) (c : ChannelId) :
    (haltReseed p c).sfe.key = p.sfe.key ∧ (haltReseed p c).sfe.proximity = p.sfe.proximity ∧
    (haltReseed p c).sfe.reference = p.sfe.reference ∧ (haltReseed p c).sfe.frame = p.sfe.frame ∧
    (haltReseed p c).smn.grace = p.smn.grace ∧ (haltReseed p c).flc.lead = p.flc.lead ∧
    (haltReseed p c).flc.seconds = p.flc.seconds ∧ (haltReseed p c).flc.preset = p.flc.preset ∧
    (haltReseed p c).sgu.gain = p.sgu.gain ∧ (haltReseed p c).sgu.patterns = p.sgu.patterns ∧
    (haltReseed p c).sgu.polarity = p.sgu.polarity ∧ (haltReseed p c).sgu.blink = p.sgu.blink ∧
    (haltReseed p c).sgu.released = p.sgu.released ∧ (haltReseed p c).sgu.indication = p.sgu.indication ∧
    (haltReseed p c).sgu.bus = p.sgu.bus ∧ (haltReseed p c).scu.rates = p.scu.rates ∧
    (haltReseed p c).scu.agree = p.scu.agree ∧ (haltReseed p c).scu.drop = p.scu.drop ∧
    (haltReseed p c).scu.pc = p.scu.pc ∧ (haltReseed p c).scu.codec = p.scu.codec ∧
    (haltReseed p c).rtu.presets = p.rtu.presets ∧ (haltReseed p c).rtu.routable = p.rtu.routable ∧
    (haltReseed p c).sch.clock = p.sch.clock ∧ (haltReseed p c).ssu.params = p.ssu.params ∧
    (haltReseed p c).prt.rx = p.prt.rx ∧ (haltReseed p c).prt.roomId = p.prt.roomId ∧
    (haltReseed p c).prt.tableName = p.prt.tableName ∧ (haltReseed p c).pwu.lead = p.pwu.lead ∧
    (haltReseed p c).pwu.delay = p.pwu.delay ∧ (haltReseed p c).pwu.mask = p.pwu.mask ∧
    (haltReseed p c).pwu.proximityWake = p.pwu.proximityWake ∧ (haltReseed p c).line = p.line ∧
    (haltReseed p c).maskOf = p.maskOf := by
  simp only [haltReseed]
  (repeat' split) <;> simp

@[simp] theorem bandRetune_keeps (p : Part) (c : ChannelId) :
    (bandRetune p c).sfe.key = p.sfe.key ∧ (bandRetune p c).sfe.proximity = p.sfe.proximity ∧
    (bandRetune p c).sfe.reference = p.sfe.reference ∧ (bandRetune p c).sfe.frame = p.sfe.frame ∧
    (bandRetune p c).line = p.line ∧ (bandRetune p c).maskOf = p.maskOf ∧ (bandRetune p c).notices = p.notices := by
  simp only [bandRetune]
  (repeat' split) <;> simp

@[simp] theorem retuneDone_keeps (p : Part) (c : ChannelId) :
    (retuneDone p c).sfe.key = p.sfe.key ∧ (retuneDone p c).sfe.proximity = p.sfe.proximity ∧
    (retuneDone p c).sfe.reference = p.sfe.reference ∧ (retuneDone p c).sfe.frame = p.sfe.frame ∧
    (retuneDone p c).smn.grace = p.smn.grace ∧ (retuneDone p c).flc.lead = p.flc.lead ∧
    (retuneDone p c).flc.seconds = p.flc.seconds ∧ (retuneDone p c).flc.preset = p.flc.preset ∧
    (retuneDone p c).sgu.gain = p.sgu.gain ∧ (retuneDone p c).sgu.patterns = p.sgu.patterns ∧
    (retuneDone p c).sgu.polarity = p.sgu.polarity ∧ (retuneDone p c).sgu.blink = p.sgu.blink ∧
    (retuneDone p c).sgu.released = p.sgu.released ∧ (retuneDone p c).sgu.indication = p.sgu.indication ∧
    (retuneDone p c).sgu.bus = p.sgu.bus ∧ (retuneDone p c).scu.rates = p.scu.rates ∧
    (retuneDone p c).scu.agree = p.scu.agree ∧ (retuneDone p c).scu.drop = p.scu.drop ∧
    (retuneDone p c).scu.pc = p.scu.pc ∧ (retuneDone p c).scu.codec = p.scu.codec ∧
    (retuneDone p c).rtu.presets = p.rtu.presets ∧ (retuneDone p c).rtu.routable = p.rtu.routable ∧
    (retuneDone p c).sch.clock = p.sch.clock ∧ (retuneDone p c).ssu.params = p.ssu.params ∧
    (retuneDone p c).prt.rx = p.prt.rx ∧ (retuneDone p c).prt.roomId = p.prt.roomId ∧
    (retuneDone p c).prt.tableName = p.prt.tableName ∧ (retuneDone p c).pwu.lead = p.pwu.lead ∧
    (retuneDone p c).pwu.delay = p.pwu.delay ∧ (retuneDone p c).pwu.mask = p.pwu.mask ∧
    (retuneDone p c).pwu.proximityWake = p.pwu.proximityWake ∧ (retuneDone p c).pln.straps = p.pln.straps ∧
    (retuneDone p c).pln.outcome = p.pln.outcome ∧ (retuneDone p c).pln.corrected = p.pln.corrected ∧
    (retuneDone p c).pln.image = p.pln.image ∧ (retuneDone p c).pln.saving = p.pln.saving ∧
    (retuneDone p c).pln.composed = p.pln.composed ∧ (retuneDone p c).pln.result = p.pln.result ∧
    (retuneDone p c).line = p.line ∧ (retuneDone p c).maskOf = p.maskOf := by
  simp only [retuneDone]
  (repeat' split) <;> simp

@[simp] theorem startUpRetunes_keeps (p : Part) :
    (startUpRetunes p).sfe.key = p.sfe.key ∧ (startUpRetunes p).sfe.proximity = p.sfe.proximity ∧
    (startUpRetunes p).sfe.reference = p.sfe.reference ∧ (startUpRetunes p).sfe.frame = p.sfe.frame ∧
    (startUpRetunes p).line = p.line ∧ (startUpRetunes p).maskOf = p.maskOf ∧
    (startUpRetunes p).notices = p.notices := by
  simp [startUpRetunes]

@[simp] theorem retuneChannel_keeps (force : Bool) (p : Part) (c : ChannelId) :
    (retuneChannel force p c).sfe.key = p.sfe.key ∧ (retuneChannel force p c).sfe.proximity = p.sfe.proximity ∧
    (retuneChannel force p c).sfe.reference = p.sfe.reference ∧ (retuneChannel force p c).sfe.frame = p.sfe.frame ∧
    (retuneChannel force p c).line = p.line ∧ (retuneChannel force p c).maskOf = p.maskOf ∧
    (retuneChannel force p c).notices = p.notices := by
  simp only [retuneChannel]
  (repeat' split) <;> simp

@[simp] theorem directionReseed_keeps (p : Part) (c : ChannelId) :
    (directionReseed p c).sfe.key = p.sfe.key ∧ (directionReseed p c).sfe.proximity = p.sfe.proximity ∧
    (directionReseed p c).sfe.reference = p.sfe.reference ∧ (directionReseed p c).sfe.frame = p.sfe.frame ∧
    (directionReseed p c).smn.grace = p.smn.grace ∧ (directionReseed p c).flc.lead = p.flc.lead ∧
    (directionReseed p c).flc.seconds = p.flc.seconds ∧ (directionReseed p c).flc.preset = p.flc.preset ∧
    (directionReseed p c).sgu.gain = p.sgu.gain ∧ (directionReseed p c).sgu.patterns = p.sgu.patterns ∧
    (directionReseed p c).sgu.polarity = p.sgu.polarity ∧ (directionReseed p c).sgu.blink = p.sgu.blink ∧
    (directionReseed p c).sgu.released = p.sgu.released ∧ (directionReseed p c).sgu.indication = p.sgu.indication ∧
    (directionReseed p c).sgu.bus = p.sgu.bus ∧ (directionReseed p c).scu.rates = p.scu.rates ∧
    (directionReseed p c).scu.agree = p.scu.agree ∧ (directionReseed p c).scu.drop = p.scu.drop ∧
    (directionReseed p c).scu.pc = p.scu.pc ∧ (directionReseed p c).scu.codec = p.scu.codec ∧
    (directionReseed p c).rtu.presets = p.rtu.presets ∧ (directionReseed p c).rtu.routable = p.rtu.routable ∧
    (directionReseed p c).sch.clock = p.sch.clock ∧ (directionReseed p c).ssu.params = p.ssu.params ∧
    (directionReseed p c).prt.rx = p.prt.rx ∧ (directionReseed p c).prt.roomId = p.prt.roomId ∧
    (directionReseed p c).prt.tableName = p.prt.tableName ∧ (directionReseed p c).pwu.lead = p.pwu.lead ∧
    (directionReseed p c).pwu.delay = p.pwu.delay ∧ (directionReseed p c).pwu.mask = p.pwu.mask ∧
    (directionReseed p c).pwu.proximityWake = p.pwu.proximityWake ∧ (directionReseed p c).line = p.line ∧
    (directionReseed p c).maskOf = p.maskOf := by
  simp only [directionReseed]
  (repeat' split) <;> simp

@[simp] theorem putProfile_keeps (p : Part) (k : ProfileKind) (x : Profile) :
    (putProfile p k x).sfe.channels = p.sfe.channels ∧ (putProfile p k x).sfe.frame = p.sfe.frame ∧
    (putProfile p k x).line = p.line ∧ (putProfile p k x).maskOf = p.maskOf ∧
    (putProfile p k x).notices = p.notices := by
  simp only [putProfile]
  (repeat' split) <;> simp

@[simp] theorem setProfile_keeps (p : Part) (k : ProfileKind) (x : Profile) :
    (setProfile p k x).sfe.frame = p.sfe.frame ∧ (setProfile p k x).smn.grace = p.smn.grace ∧
    (setProfile p k x).flc.lead = p.flc.lead ∧ (setProfile p k x).flc.seconds = p.flc.seconds ∧
    (setProfile p k x).flc.preset = p.flc.preset ∧ (setProfile p k x).sgu.gain = p.sgu.gain ∧
    (setProfile p k x).sgu.patterns = p.sgu.patterns ∧ (setProfile p k x).sgu.polarity = p.sgu.polarity ∧
    (setProfile p k x).sgu.blink = p.sgu.blink ∧ (setProfile p k x).sgu.released = p.sgu.released ∧
    (setProfile p k x).sgu.indication = p.sgu.indication ∧ (setProfile p k x).sgu.bus = p.sgu.bus ∧
    (setProfile p k x).scu.rates = p.scu.rates ∧ (setProfile p k x).scu.agree = p.scu.agree ∧
    (setProfile p k x).scu.drop = p.scu.drop ∧ (setProfile p k x).scu.pc = p.scu.pc ∧
    (setProfile p k x).scu.codec = p.scu.codec ∧ (setProfile p k x).rtu.presets = p.rtu.presets ∧
    (setProfile p k x).rtu.routable = p.rtu.routable ∧ (setProfile p k x).sch.clock = p.sch.clock ∧
    (setProfile p k x).ssu.params = p.ssu.params ∧ (setProfile p k x).prt.rx = p.prt.rx ∧
    (setProfile p k x).prt.roomId = p.prt.roomId ∧ (setProfile p k x).prt.tableName = p.prt.tableName ∧
    (setProfile p k x).pwu.lead = p.pwu.lead ∧ (setProfile p k x).pwu.delay = p.pwu.delay ∧
    (setProfile p k x).pwu.mask = p.pwu.mask ∧ (setProfile p k x).pwu.proximityWake = p.pwu.proximityWake ∧
    (setProfile p k x).line = p.line ∧ (setProfile p k x).maskOf = p.maskOf := by
  simp only [setProfile]
  (repeat' split) <;> simp

end Sys2Proof.Machine.Part
end

