-- ==== Sys2Proof/Laws/KeepsPorts.lean ====
section
/-! SUPPORT. The frames of the operations over standby, the clock and banks, the plan, the settings and the ports, piece by piece: what each one leaves as it is in the blocks that it changes, and in the port records. -/

namespace Sys2Proof.Machine.Part

@[simp] theorem standbyKey_keeps (p : Part) (s : SeatId) :
    (standbyKey p s).sfe.key = p.sfe.key ∧ (standbyKey p s).sfe.proximity = p.sfe.proximity ∧
    (standbyKey p s).sfe.reference = p.sfe.reference ∧ (standbyKey p s).sfe.frame = p.sfe.frame ∧
    (standbyKey p s).smn.grace = p.smn.grace ∧ (standbyKey p s).flc.lead = p.flc.lead ∧
    (standbyKey p s).flc.seconds = p.flc.seconds ∧ (standbyKey p s).flc.preset = p.flc.preset ∧
    (standbyKey p s).sgu.gain = p.sgu.gain ∧ (standbyKey p s).sgu.patterns = p.sgu.patterns ∧
    (standbyKey p s).sgu.polarity = p.sgu.polarity ∧ (standbyKey p s).sgu.blink = p.sgu.blink ∧
    (standbyKey p s).sgu.released = p.sgu.released ∧ (standbyKey p s).sgu.indication = p.sgu.indication ∧
    (standbyKey p s).sgu.bus = p.sgu.bus ∧ (standbyKey p s).scu.rates = p.scu.rates ∧
    (standbyKey p s).scu.agree = p.scu.agree ∧ (standbyKey p s).scu.drop = p.scu.drop ∧
    (standbyKey p s).scu.pc = p.scu.pc ∧ (standbyKey p s).scu.codec = p.scu.codec ∧
    (standbyKey p s).rtu.presets = p.rtu.presets ∧ (standbyKey p s).rtu.routable = p.rtu.routable ∧
    (standbyKey p s).sch.clock = p.sch.clock ∧ (standbyKey p s).ssu.params = p.ssu.params ∧
    (standbyKey p s).prt.rx = p.prt.rx ∧ (standbyKey p s).prt.roomId = p.prt.roomId ∧
    (standbyKey p s).prt.tableName = p.prt.tableName ∧ (standbyKey p s).pwu.lead = p.pwu.lead ∧
    (standbyKey p s).pwu.delay = p.pwu.delay ∧ (standbyKey p s).pwu.mask = p.pwu.mask ∧
    (standbyKey p s).pwu.proximityWake = p.pwu.proximityWake ∧ (standbyKey p s).line = p.line ∧
    (standbyKey p s).maskOf = p.maskOf := by
  simp [standbyKey]

@[simp] theorem standbySlots_keeps (p : Part) :
    (standbySlots p).sgu.slots = p.sgu.slots ∧ (standbySlots p).sgu.gain = p.sgu.gain ∧
    (standbySlots p).sgu.patterns = p.sgu.patterns ∧ (standbySlots p).sgu.polarity = p.sgu.polarity ∧
    (standbySlots p).sgu.blink = p.sgu.blink ∧ (standbySlots p).sgu.released = p.sgu.released ∧
    (standbySlots p).sgu.indication = p.sgu.indication ∧ (standbySlots p).line = p.line ∧
    (standbySlots p).maskOf = p.maskOf ∧ (standbySlots p).notices = p.notices := by
  simp [standbySlots]

@[simp] theorem standbyEntry_keeps (p : Part) :
    (standbyEntry p).sfe.key = p.sfe.key ∧ (standbyEntry p).sfe.proximity = p.sfe.proximity ∧
    (standbyEntry p).sfe.reference = p.sfe.reference ∧ (standbyEntry p).sfe.frame = p.sfe.frame ∧
    (standbyEntry p).smn.grace = p.smn.grace ∧ (standbyEntry p).flc.lead = p.flc.lead ∧
    (standbyEntry p).flc.seconds = p.flc.seconds ∧ (standbyEntry p).flc.preset = p.flc.preset ∧
    (standbyEntry p).sgu.gain = p.sgu.gain ∧ (standbyEntry p).sgu.patterns = p.sgu.patterns ∧
    (standbyEntry p).sgu.polarity = p.sgu.polarity ∧ (standbyEntry p).sgu.blink = p.sgu.blink ∧
    (standbyEntry p).sgu.released = p.sgu.released ∧ (standbyEntry p).sgu.indication = p.sgu.indication ∧
    (standbyEntry p).scu.rates = p.scu.rates ∧ (standbyEntry p).scu.agree = p.scu.agree ∧
    (standbyEntry p).scu.drop = p.scu.drop ∧ (standbyEntry p).scu.pc = p.scu.pc ∧
    (standbyEntry p).scu.codec = p.scu.codec ∧ (standbyEntry p).rtu.presets = p.rtu.presets ∧
    (standbyEntry p).sch.clock = p.sch.clock ∧ (standbyEntry p).ssu.params = p.ssu.params ∧
    (standbyEntry p).prt.rx = p.prt.rx ∧ (standbyEntry p).prt.roomId = p.prt.roomId ∧
    (standbyEntry p).prt.tableName = p.prt.tableName ∧ (standbyEntry p).pwu.lead = p.pwu.lead ∧
    (standbyEntry p).pwu.delay = p.pwu.delay ∧ (standbyEntry p).pwu.mask = p.pwu.mask ∧
    (standbyEntry p).pwu.proximityWake = p.pwu.proximityWake ∧ (standbyEntry p).line = p.line ∧
    (standbyEntry p).maskOf = p.maskOf := by
  simp [standbyEntry]

@[simp] theorem standbyTest_keeps (p : Part) :
    (standbyTest p).sfe.key = p.sfe.key ∧ (standbyTest p).sfe.proximity = p.sfe.proximity ∧
    (standbyTest p).sfe.reference = p.sfe.reference ∧ (standbyTest p).sfe.frame = p.sfe.frame ∧
    (standbyTest p).smn.grace = p.smn.grace ∧ (standbyTest p).flc.lead = p.flc.lead ∧
    (standbyTest p).flc.seconds = p.flc.seconds ∧ (standbyTest p).flc.preset = p.flc.preset ∧
    (standbyTest p).sgu.gain = p.sgu.gain ∧ (standbyTest p).sgu.patterns = p.sgu.patterns ∧
    (standbyTest p).sgu.polarity = p.sgu.polarity ∧ (standbyTest p).sgu.blink = p.sgu.blink ∧
    (standbyTest p).sgu.released = p.sgu.released ∧ (standbyTest p).sgu.indication = p.sgu.indication ∧
    (standbyTest p).scu.rates = p.scu.rates ∧ (standbyTest p).scu.agree = p.scu.agree ∧
    (standbyTest p).scu.drop = p.scu.drop ∧ (standbyTest p).scu.pc = p.scu.pc ∧
    (standbyTest p).scu.codec = p.scu.codec ∧ (standbyTest p).rtu.presets = p.rtu.presets ∧
    (standbyTest p).sch.clock = p.sch.clock ∧ (standbyTest p).ssu.params = p.ssu.params ∧
    (standbyTest p).prt.rx = p.prt.rx ∧ (standbyTest p).prt.roomId = p.prt.roomId ∧
    (standbyTest p).prt.tableName = p.prt.tableName ∧ (standbyTest p).pwu.lead = p.pwu.lead ∧
    (standbyTest p).pwu.delay = p.pwu.delay ∧ (standbyTest p).pwu.mask = p.pwu.mask ∧
    (standbyTest p).pwu.proximityWake = p.pwu.proximityWake ∧ (standbyTest p).line = p.line ∧
    (standbyTest p).maskOf = p.maskOf := by
  simp only [standbyTest]
  (repeat' split) <;> simp

@[simp] theorem countQuiet_keeps (p : Part) :
    (countQuiet p).pwu.power = p.pwu.power ∧ (countQuiet p).pwu.settle = p.pwu.settle ∧
    (countQuiet p).pwu.lead = p.pwu.lead ∧ (countQuiet p).pwu.delay = p.pwu.delay ∧
    (countQuiet p).pwu.mask = p.pwu.mask ∧ (countQuiet p).pwu.proximityWake = p.pwu.proximityWake ∧
    (countQuiet p).line = p.line ∧ (countQuiet p).maskOf = p.maskOf ∧ (countQuiet p).notices = p.notices := by
  simp only [countQuiet]
  (repeat' split) <;> simp

@[simp] theorem powerSecond_keeps (p : Part) (minute : Bool) :
    (powerSecond p minute).sfe.key = p.sfe.key ∧ (powerSecond p minute).sfe.proximity = p.sfe.proximity ∧
    (powerSecond p minute).sfe.reference = p.sfe.reference ∧ (powerSecond p minute).sfe.frame = p.sfe.frame ∧
    (powerSecond p minute).smn.grace = p.smn.grace ∧ (powerSecond p minute).flc.lead = p.flc.lead ∧
    (powerSecond p minute).flc.seconds = p.flc.seconds ∧ (powerSecond p minute).flc.preset = p.flc.preset ∧
    (powerSecond p minute).sgu.gain = p.sgu.gain ∧ (powerSecond p minute).sgu.patterns = p.sgu.patterns ∧
    (powerSecond p minute).sgu.polarity = p.sgu.polarity ∧ (powerSecond p minute).sgu.blink = p.sgu.blink ∧
    (powerSecond p minute).sgu.released = p.sgu.released ∧ (powerSecond p minute).sgu.indication = p.sgu.indication ∧
    (powerSecond p minute).scu.rates = p.scu.rates ∧ (powerSecond p minute).scu.agree = p.scu.agree ∧
    (powerSecond p minute).scu.drop = p.scu.drop ∧ (powerSecond p minute).scu.pc = p.scu.pc ∧
    (powerSecond p minute).scu.codec = p.scu.codec ∧ (powerSecond p minute).rtu.presets = p.rtu.presets ∧
    (powerSecond p minute).sch.clock = p.sch.clock ∧ (powerSecond p minute).ssu.params = p.ssu.params ∧
    (powerSecond p minute).prt.rx = p.prt.rx ∧ (powerSecond p minute).prt.roomId = p.prt.roomId ∧
    (powerSecond p minute).prt.tableName = p.prt.tableName ∧ (powerSecond p minute).pwu.lead = p.pwu.lead ∧
    (powerSecond p minute).pwu.delay = p.pwu.delay ∧ (powerSecond p minute).pwu.mask = p.pwu.mask ∧
    (powerSecond p minute).pwu.proximityWake = p.pwu.proximityWake ∧ (powerSecond p minute).line = p.line ∧
    (powerSecond p minute).maskOf = p.maskOf := by
  simp only [powerSecond]
  (repeat' split) <;> simp

@[simp] theorem standbyEnter_keeps (p : Part) :
    (standbyEnter p).1.sfe.key = p.sfe.key ∧ (standbyEnter p).1.sfe.proximity = p.sfe.proximity ∧
    (standbyEnter p).1.sfe.reference = p.sfe.reference ∧ (standbyEnter p).1.sfe.frame = p.sfe.frame ∧
    (standbyEnter p).1.smn.grace = p.smn.grace ∧ (standbyEnter p).1.flc.lead = p.flc.lead ∧
    (standbyEnter p).1.flc.seconds = p.flc.seconds ∧ (standbyEnter p).1.flc.preset = p.flc.preset ∧
    (standbyEnter p).1.sgu.gain = p.sgu.gain ∧ (standbyEnter p).1.sgu.patterns = p.sgu.patterns ∧
    (standbyEnter p).1.sgu.polarity = p.sgu.polarity ∧ (standbyEnter p).1.sgu.blink = p.sgu.blink ∧
    (standbyEnter p).1.sgu.released = p.sgu.released ∧ (standbyEnter p).1.sgu.indication = p.sgu.indication ∧
    (standbyEnter p).1.scu.rates = p.scu.rates ∧ (standbyEnter p).1.scu.agree = p.scu.agree ∧
    (standbyEnter p).1.scu.drop = p.scu.drop ∧ (standbyEnter p).1.scu.pc = p.scu.pc ∧
    (standbyEnter p).1.scu.codec = p.scu.codec ∧ (standbyEnter p).1.rtu.presets = p.rtu.presets ∧
    (standbyEnter p).1.sch.clock = p.sch.clock ∧ (standbyEnter p).1.ssu.params = p.ssu.params ∧
    (standbyEnter p).1.prt.rx = p.prt.rx ∧ (standbyEnter p).1.prt.roomId = p.prt.roomId ∧
    (standbyEnter p).1.prt.tableName = p.prt.tableName ∧ (standbyEnter p).1.pwu.lead = p.pwu.lead ∧
    (standbyEnter p).1.pwu.delay = p.pwu.delay ∧ (standbyEnter p).1.pwu.mask = p.pwu.mask ∧
    (standbyEnter p).1.pwu.proximityWake = p.pwu.proximityWake ∧ (standbyEnter p).1.line = p.line ∧
    (standbyEnter p).1.maskOf = p.maskOf := by
  simp only [standbyEnter]
  (repeat' split) <;> simp

@[simp] theorem exchangeBanks_keeps (p : Part) :
    (exchangeBanks p).sch.clock = p.sch.clock ∧ (exchangeBanks p).line = p.line ∧
    (exchangeBanks p).maskOf = p.maskOf ∧ (exchangeBanks p).notices = p.notices := by
  simp only [exchangeBanks]
  (repeat' split) <;> simp

@[simp] theorem relink_keeps (p : Part) :
    (relink p).sch.clock = p.sch.clock ∧ (relink p).ssu.pendingStart = p.ssu.pendingStart ∧
    (relink p).ssu.dwell = p.ssu.dwell ∧ (relink p).ssu.store = p.ssu.store ∧ (relink p).ssu.lost = p.ssu.lost ∧
    (relink p).ssu.nextSummary = p.ssu.nextSummary ∧ (relink p).ssu.params = p.ssu.params ∧
    (relink p).prt.rx = p.prt.rx ∧ (relink p).prt.roomId = p.prt.roomId ∧
    (relink p).prt.tableName = p.prt.tableName ∧ (relink p).line = p.line ∧ (relink p).maskOf = p.maskOf := by
  simp only [relink]
  (repeat' split) <;> simp

@[simp] theorem relinkTests_keeps (p : Part) :
    (relinkTests p).smn.occupied = p.smn.occupied ∧ (relinkTests p).smn.grace = p.smn.grace ∧
    (relinkTests p).flc.lead = p.flc.lead ∧ (relinkTests p).flc.nextNumber = p.flc.nextNumber ∧
    (relinkTests p).flc.seconds = p.flc.seconds ∧ (relinkTests p).flc.preset = p.flc.preset ∧
    (relinkTests p).sgu.gain = p.sgu.gain ∧ (relinkTests p).sgu.patterns = p.sgu.patterns ∧
    (relinkTests p).sgu.polarity = p.sgu.polarity ∧ (relinkTests p).sgu.refused = p.sgu.refused ∧
    (relinkTests p).sgu.blink = p.sgu.blink ∧ (relinkTests p).sgu.released = p.sgu.released ∧
    (relinkTests p).sgu.indication = p.sgu.indication ∧ (relinkTests p).sgu.bus = p.sgu.bus ∧
    (relinkTests p).rtu.presets = p.rtu.presets ∧ (relinkTests p).rtu.routable = p.rtu.routable ∧
    (relinkTests p).rtu.override = p.rtu.override ∧ (relinkTests p).sch.clock = p.sch.clock ∧
    (relinkTests p).ssu.params = p.ssu.params ∧ (relinkTests p).prt.rx = p.prt.rx ∧
    (relinkTests p).prt.roomId = p.prt.roomId ∧ (relinkTests p).prt.tableName = p.prt.tableName ∧
    (relinkTests p).line = p.line ∧ (relinkTests p).maskOf = p.maskOf := by
  simp only [relinkTests]
  (repeat' split) <;> simp

@[simp] theorem swapPending_keeps (p : Part) :
    (swapPending p).ssu.session = p.ssu.session ∧ (swapPending p).ssu.dwell = p.ssu.dwell ∧
    (swapPending p).ssu.store = p.ssu.store ∧ (swapPending p).ssu.lost = p.ssu.lost ∧
    (swapPending p).ssu.nextSummary = p.ssu.nextSummary ∧ (swapPending p).ssu.params = p.ssu.params ∧
    (swapPending p).prt.rx = p.prt.rx ∧ (swapPending p).prt.roomId = p.prt.roomId ∧
    (swapPending p).prt.tableName = p.prt.tableName ∧ (swapPending p).line = p.line ∧
    (swapPending p).maskOf = p.maskOf := by
  simp [swapPending]

@[simp] theorem swap_keeps (p : Part) :
    (swap p).sfe.key = p.sfe.key ∧ (swap p).sfe.proximity = p.sfe.proximity ∧
    (swap p).sfe.reference = p.sfe.reference ∧ (swap p).sfe.frame = p.sfe.frame ∧
    (swap p).smn.occupied = p.smn.occupied ∧ (swap p).smn.grace = p.smn.grace ∧ (swap p).flc.lead = p.flc.lead ∧
    (swap p).flc.nextNumber = p.flc.nextNumber ∧ (swap p).flc.seconds = p.flc.seconds ∧
    (swap p).flc.preset = p.flc.preset ∧ (swap p).sgu.gain = p.sgu.gain ∧ (swap p).sgu.patterns = p.sgu.patterns ∧
    (swap p).sgu.polarity = p.sgu.polarity ∧ (swap p).sgu.refused = p.sgu.refused ∧
    (swap p).sgu.blink = p.sgu.blink ∧ (swap p).sgu.released = p.sgu.released ∧
    (swap p).sgu.indication = p.sgu.indication ∧ (swap p).sgu.bus = p.sgu.bus ∧ (swap p).scu.rates = p.scu.rates ∧
    (swap p).scu.agree = p.scu.agree ∧ (swap p).scu.drop = p.scu.drop ∧ (swap p).scu.pc = p.scu.pc ∧
    (swap p).scu.codec = p.scu.codec ∧ (swap p).rtu.presets = p.rtu.presets ∧
    (swap p).rtu.routable = p.rtu.routable ∧ (swap p).sch.clock = p.sch.clock ∧ (swap p).ssu.params = p.ssu.params ∧
    (swap p).prt.rx = p.prt.rx ∧ (swap p).prt.roomId = p.prt.roomId ∧ (swap p).prt.tableName = p.prt.tableName ∧
    (swap p).pwu.lead = p.pwu.lead ∧ (swap p).pwu.delay = p.pwu.delay ∧ (swap p).pwu.mask = p.pwu.mask ∧
    (swap p).pwu.proximityWake = p.pwu.proximityWake ∧ (swap p).line = p.line ∧ (swap p).maskOf = p.maskOf := by
  simp [swap]

@[simp] theorem midnight_keeps (p : Part) :
    (midnight p).sfe.key = p.sfe.key ∧ (midnight p).sfe.proximity = p.sfe.proximity ∧
    (midnight p).sfe.reference = p.sfe.reference ∧ (midnight p).sfe.frame = p.sfe.frame ∧
    (midnight p).smn.occupied = p.smn.occupied ∧ (midnight p).smn.grace = p.smn.grace ∧
    (midnight p).flc.lead = p.flc.lead ∧ (midnight p).flc.nextNumber = p.flc.nextNumber ∧
    (midnight p).flc.seconds = p.flc.seconds ∧ (midnight p).flc.preset = p.flc.preset ∧
    (midnight p).sgu.gain = p.sgu.gain ∧ (midnight p).sgu.patterns = p.sgu.patterns ∧
    (midnight p).sgu.polarity = p.sgu.polarity ∧ (midnight p).sgu.refused = p.sgu.refused ∧
    (midnight p).sgu.blink = p.sgu.blink ∧ (midnight p).sgu.released = p.sgu.released ∧
    (midnight p).sgu.indication = p.sgu.indication ∧ (midnight p).sgu.bus = p.sgu.bus ∧
    (midnight p).scu.rates = p.scu.rates ∧ (midnight p).scu.agree = p.scu.agree ∧
    (midnight p).scu.drop = p.scu.drop ∧ (midnight p).scu.pc = p.scu.pc ∧ (midnight p).scu.codec = p.scu.codec ∧
    (midnight p).rtu.presets = p.rtu.presets ∧ (midnight p).rtu.routable = p.rtu.routable ∧
    (midnight p).sch.clock = p.sch.clock ∧ (midnight p).ssu.params = p.ssu.params ∧ (midnight p).prt.rx = p.prt.rx ∧
    (midnight p).prt.roomId = p.prt.roomId ∧ (midnight p).prt.tableName = p.prt.tableName ∧
    (midnight p).pwu.lead = p.pwu.lead ∧ (midnight p).pwu.delay = p.pwu.delay ∧ (midnight p).pwu.mask = p.pwu.mask ∧
    (midnight p).pwu.proximityWake = p.pwu.proximityWake ∧ (midnight p).line = p.line ∧
    (midnight p).maskOf = p.maskOf := by
  simp only [midnight]
  (repeat' split) <;> simp

@[simp] theorem secondFor_keeps (b : Part) (minute : Bool) (p : Part) (u : ClockUser) :
    (secondFor b minute p u).sfe.key = p.sfe.key ∧ (secondFor b minute p u).sfe.proximity = p.sfe.proximity ∧
    (secondFor b minute p u).sfe.reference = p.sfe.reference ∧ (secondFor b minute p u).sfe.frame = p.sfe.frame ∧
    (secondFor b minute p u).smn.grace = p.smn.grace ∧ (secondFor b minute p u).flc.lead = p.flc.lead ∧
    (secondFor b minute p u).flc.preset = p.flc.preset ∧ (secondFor b minute p u).sgu.gain = p.sgu.gain ∧
    (secondFor b minute p u).sgu.patterns = p.sgu.patterns ∧ (secondFor b minute p u).sgu.polarity = p.sgu.polarity ∧
    (secondFor b minute p u).sgu.blink = p.sgu.blink ∧ (secondFor b minute p u).sgu.released = p.sgu.released ∧
    (secondFor b minute p u).sgu.indication = p.sgu.indication ∧ (secondFor b minute p u).scu.rates = p.scu.rates ∧
    (secondFor b minute p u).scu.agree = p.scu.agree ∧ (secondFor b minute p u).scu.drop = p.scu.drop ∧
    (secondFor b minute p u).scu.pc = p.scu.pc ∧ (secondFor b minute p u).scu.codec = p.scu.codec ∧
    (secondFor b minute p u).rtu.presets = p.rtu.presets ∧ (secondFor b minute p u).sch.clock = p.sch.clock ∧
    (secondFor b minute p u).ssu.params = p.ssu.params ∧ (secondFor b minute p u).prt.rx = p.prt.rx ∧
    (secondFor b minute p u).prt.roomId = p.prt.roomId ∧ (secondFor b minute p u).prt.tableName = p.prt.tableName ∧
    (secondFor b minute p u).pwu.lead = p.pwu.lead ∧ (secondFor b minute p u).pwu.delay = p.pwu.delay ∧
    (secondFor b minute p u).pwu.mask = p.pwu.mask ∧ (secondFor b minute p u).pwu.proximityWake = p.pwu.proximityWake ∧
    (secondFor b minute p u).line = p.line ∧ (secondFor b minute p u).maskOf = p.maskOf := by
  simp only [secondFor]
  (repeat' split) <;> simp

@[simp] theorem secondEvent_keeps (p : Part) (first : List ClockUser) :
    (secondEvent p first).sfe.key = p.sfe.key ∧ (secondEvent p first).sfe.proximity = p.sfe.proximity ∧
    (secondEvent p first).sfe.reference = p.sfe.reference ∧ (secondEvent p first).sfe.frame = p.sfe.frame ∧
    (secondEvent p first).smn.grace = p.smn.grace ∧ (secondEvent p first).flc.lead = p.flc.lead ∧
    (secondEvent p first).flc.preset = p.flc.preset ∧ (secondEvent p first).sgu.gain = p.sgu.gain ∧
    (secondEvent p first).sgu.patterns = p.sgu.patterns ∧ (secondEvent p first).sgu.polarity = p.sgu.polarity ∧
    (secondEvent p first).sgu.blink = p.sgu.blink ∧ (secondEvent p first).sgu.released = p.sgu.released ∧
    (secondEvent p first).sgu.indication = p.sgu.indication ∧ (secondEvent p first).scu.rates = p.scu.rates ∧
    (secondEvent p first).scu.agree = p.scu.agree ∧ (secondEvent p first).scu.drop = p.scu.drop ∧
    (secondEvent p first).scu.pc = p.scu.pc ∧ (secondEvent p first).scu.codec = p.scu.codec ∧
    (secondEvent p first).rtu.presets = p.rtu.presets ∧ (secondEvent p first).ssu.params = p.ssu.params ∧
    (secondEvent p first).prt.rx = p.prt.rx ∧ (secondEvent p first).prt.roomId = p.prt.roomId ∧
    (secondEvent p first).prt.tableName = p.prt.tableName ∧ (secondEvent p first).pwu.lead = p.pwu.lead ∧
    (secondEvent p first).pwu.delay = p.pwu.delay ∧ (secondEvent p first).pwu.mask = p.pwu.mask ∧
    (secondEvent p first).pwu.proximityWake = p.pwu.proximityWake ∧ (secondEvent p first).line = p.line ∧
    (secondEvent p first).maskOf = p.maskOf := by
  simp only [secondEvent]
  (repeat' split) <;> simp

@[simp] theorem clockSet_keeps (p : Part) (day minute second : Nat) :
    (clockSet p day minute second).1.sfe.key = p.sfe.key ∧
    (clockSet p day minute second).1.sfe.proximity = p.sfe.proximity ∧
    (clockSet p day minute second).1.sfe.reference = p.sfe.reference ∧
    (clockSet p day minute second).1.sfe.frame = p.sfe.frame ∧
    (clockSet p day minute second).1.smn.occupied = p.smn.occupied ∧
    (clockSet p day minute second).1.smn.grace = p.smn.grace ∧
    (clockSet p day minute second).1.flc.lead = p.flc.lead ∧
    (clockSet p day minute second).1.flc.nextNumber = p.flc.nextNumber ∧
    (clockSet p day minute second).1.flc.seconds = p.flc.seconds ∧
    (clockSet p day minute second).1.flc.preset = p.flc.preset ∧
    (clockSet p day minute second).1.sgu.gain = p.sgu.gain ∧
    (clockSet p day minute second).1.sgu.patterns = p.sgu.patterns ∧
    (clockSet p day minute second).1.sgu.polarity = p.sgu.polarity ∧
    (clockSet p day minute second).1.sgu.refused = p.sgu.refused ∧
    (clockSet p day minute second).1.sgu.blink = p.sgu.blink ∧
    (clockSet p day minute second).1.sgu.released = p.sgu.released ∧
    (clockSet p day minute second).1.sgu.indication = p.sgu.indication ∧
    (clockSet p day minute second).1.sgu.bus = p.sgu.bus ∧ (clockSet p day minute second).1.scu.rates = p.scu.rates ∧
    (clockSet p day minute second).1.scu.agree = p.scu.agree ∧
    (clockSet p day minute second).1.scu.drop = p.scu.drop ∧ (clockSet p day minute second).1.scu.pc = p.scu.pc ∧
    (clockSet p day minute second).1.scu.codec = p.scu.codec ∧
    (clockSet p day minute second).1.rtu.presets = p.rtu.presets ∧
    (clockSet p day minute second).1.rtu.routable = p.rtu.routable ∧
    (clockSet p day minute second).1.ssu.params = p.ssu.params ∧ (clockSet p day minute second).1.prt.rx = p.prt.rx ∧
    (clockSet p day minute second).1.prt.roomId = p.prt.roomId ∧
    (clockSet p day minute second).1.prt.tableName = p.prt.tableName ∧
    (clockSet p day minute second).1.pwu.lead = p.pwu.lead ∧
    (clockSet p day minute second).1.pwu.delay = p.pwu.delay ∧
    (clockSet p day minute second).1.pwu.mask = p.pwu.mask ∧
    (clockSet p day minute second).1.pwu.proximityWake = p.pwu.proximityWake ∧
    (clockSet p day minute second).1.line = p.line ∧ (clockSet p day minute second).1.maskOf = p.maskOf := by
  simp only [clockSet]
  (repeat' split) <;> simp

@[simp] theorem startCheck_keeps (p : Part) :
    (startCheck p).sch.clock = p.sch.clock ∧ (startCheck p).prt.rx = p.prt.rx ∧
    (startCheck p).prt.roomId = p.prt.roomId ∧ (startCheck p).prt.tableName = p.prt.tableName ∧
    (startCheck p).line = p.line ∧ (startCheck p).maskOf = p.maskOf := by
  simp [startCheck]

@[simp] theorem bankOpen_keeps (p : Part) (day count auto : Nat) :
    (bankOpen p day count auto).1.smn.occupied = p.smn.occupied ∧
    (bankOpen p day count auto).1.smn.grace = p.smn.grace ∧ (bankOpen p day count auto).1.sch.clock = p.sch.clock ∧
    (bankOpen p day count auto).1.prt.rx = p.prt.rx ∧ (bankOpen p day count auto).1.prt.roomId = p.prt.roomId ∧
    (bankOpen p day count auto).1.prt.tableName = p.prt.tableName ∧ (bankOpen p day count auto).1.line = p.line ∧
    (bankOpen p day count auto).1.maskOf = p.maskOf := by
  simp only [bankOpen]
  (repeat' split) <;> simp

@[simp] theorem faultBank_keeps (p : Part) (c : BankFault) :
    (faultBank p c).sch.clock = p.sch.clock ∧ (faultBank p c).prt.rx = p.prt.rx ∧
    (faultBank p c).prt.roomId = p.prt.roomId ∧ (faultBank p c).prt.tableName = p.prt.tableName ∧
    (faultBank p c).line = p.line ∧ (faultBank p c).maskOf = p.maskOf := by
  simp [faultBank]

@[simp] theorem bookingEntry_keeps (p : Part) (l : List Byte) :
    (bookingEntry p l).1.sch.clock = p.sch.clock ∧ (bookingEntry p l).1.prt.rx = p.prt.rx ∧
    (bookingEntry p l).1.prt.roomId = p.prt.roomId ∧ (bookingEntry p l).1.prt.tableName = p.prt.tableName ∧
    (bookingEntry p l).1.line = p.line ∧ (bookingEntry p l).1.maskOf = p.maskOf := by
  simp only [bookingEntry]
  (repeat' split) <;> simp

@[simp] theorem bankPublish_keeps (p : Part) :
    (bankPublish p).1.sfe.key = p.sfe.key ∧ (bankPublish p).1.sfe.proximity = p.sfe.proximity ∧
    (bankPublish p).1.sfe.reference = p.sfe.reference ∧ (bankPublish p).1.sfe.frame = p.sfe.frame ∧
    (bankPublish p).1.smn.occupied = p.smn.occupied ∧ (bankPublish p).1.smn.grace = p.smn.grace ∧
    (bankPublish p).1.flc.lead = p.flc.lead ∧ (bankPublish p).1.flc.nextNumber = p.flc.nextNumber ∧
    (bankPublish p).1.flc.seconds = p.flc.seconds ∧ (bankPublish p).1.flc.preset = p.flc.preset ∧
    (bankPublish p).1.sgu.gain = p.sgu.gain ∧ (bankPublish p).1.sgu.patterns = p.sgu.patterns ∧
    (bankPublish p).1.sgu.polarity = p.sgu.polarity ∧ (bankPublish p).1.sgu.refused = p.sgu.refused ∧
    (bankPublish p).1.sgu.blink = p.sgu.blink ∧ (bankPublish p).1.sgu.released = p.sgu.released ∧
    (bankPublish p).1.sgu.indication = p.sgu.indication ∧ (bankPublish p).1.sgu.bus = p.sgu.bus ∧
    (bankPublish p).1.scu.rates = p.scu.rates ∧ (bankPublish p).1.scu.agree = p.scu.agree ∧
    (bankPublish p).1.scu.drop = p.scu.drop ∧ (bankPublish p).1.scu.pc = p.scu.pc ∧
    (bankPublish p).1.scu.codec = p.scu.codec ∧ (bankPublish p).1.rtu.presets = p.rtu.presets ∧
    (bankPublish p).1.rtu.routable = p.rtu.routable ∧ (bankPublish p).1.sch.clock = p.sch.clock ∧
    (bankPublish p).1.ssu.params = p.ssu.params ∧ (bankPublish p).1.prt.rx = p.prt.rx ∧
    (bankPublish p).1.prt.roomId = p.prt.roomId ∧ (bankPublish p).1.prt.tableName = p.prt.tableName ∧
    (bankPublish p).1.pwu.lead = p.pwu.lead ∧ (bankPublish p).1.pwu.delay = p.pwu.delay ∧
    (bankPublish p).1.pwu.mask = p.pwu.mask ∧ (bankPublish p).1.pwu.proximityWake = p.pwu.proximityWake ∧
    (bankPublish p).1.line = p.line ∧ (bankPublish p).1.maskOf = p.maskOf := by
  simp only [bankPublish]
  (repeat' split) <;> simp

@[simp] theorem bankAbandon_keeps (p : Part) :
    (bankAbandon p).1.sch.clock = p.sch.clock ∧ (bankAbandon p).1.prt.rx = p.prt.rx ∧
    (bankAbandon p).1.prt.roomId = p.prt.roomId ∧ (bankAbandon p).1.prt.tableName = p.prt.tableName ∧
    (bankAbandon p).1.line = p.line ∧ (bankAbandon p).1.maskOf = p.maskOf := by
  simp only [bankAbandon]
  (repeat' split) <;> simp

@[simp] theorem checkCompletion_keeps (p : Part) :
    (checkCompletion p).sfe.key = p.sfe.key ∧ (checkCompletion p).sfe.proximity = p.sfe.proximity ∧
    (checkCompletion p).sfe.reference = p.sfe.reference ∧ (checkCompletion p).sfe.frame = p.sfe.frame ∧
    (checkCompletion p).smn.occupied = p.smn.occupied ∧ (checkCompletion p).smn.grace = p.smn.grace ∧
    (checkCompletion p).flc.lead = p.flc.lead ∧ (checkCompletion p).flc.nextNumber = p.flc.nextNumber ∧
    (checkCompletion p).flc.seconds = p.flc.seconds ∧ (checkCompletion p).flc.preset = p.flc.preset ∧
    (checkCompletion p).sgu.gain = p.sgu.gain ∧ (checkCompletion p).sgu.patterns = p.sgu.patterns ∧
    (checkCompletion p).sgu.polarity = p.sgu.polarity ∧ (checkCompletion p).sgu.refused = p.sgu.refused ∧
    (checkCompletion p).sgu.blink = p.sgu.blink ∧ (checkCompletion p).sgu.released = p.sgu.released ∧
    (checkCompletion p).sgu.indication = p.sgu.indication ∧ (checkCompletion p).sgu.bus = p.sgu.bus ∧
    (checkCompletion p).scu.rates = p.scu.rates ∧ (checkCompletion p).scu.agree = p.scu.agree ∧
    (checkCompletion p).scu.drop = p.scu.drop ∧ (checkCompletion p).scu.pc = p.scu.pc ∧
    (checkCompletion p).scu.codec = p.scu.codec ∧ (checkCompletion p).rtu.presets = p.rtu.presets ∧
    (checkCompletion p).rtu.routable = p.rtu.routable ∧ (checkCompletion p).sch.clock = p.sch.clock ∧
    (checkCompletion p).ssu.params = p.ssu.params ∧ (checkCompletion p).prt.rx = p.prt.rx ∧
    (checkCompletion p).prt.roomId = p.prt.roomId ∧ (checkCompletion p).prt.tableName = p.prt.tableName ∧
    (checkCompletion p).pwu.lead = p.pwu.lead ∧ (checkCompletion p).pwu.delay = p.pwu.delay ∧
    (checkCompletion p).pwu.mask = p.pwu.mask ∧ (checkCompletion p).pwu.proximityWake = p.pwu.proximityWake ∧
    (checkCompletion p).line = p.line ∧ (checkCompletion p).maskOf = p.maskOf := by
  simp only [checkCompletion]
  (repeat' split) <;> simp

@[simp] theorem cancelEntry_keeps (p : Part) (id : Nat) (s : EntryStatus) :
    (cancelEntry p id s).1.smn.occupied = p.smn.occupied ∧ (cancelEntry p id s).1.smn.grace = p.smn.grace ∧
    (cancelEntry p id s).1.flc.lead = p.flc.lead ∧ (cancelEntry p id s).1.flc.nextNumber = p.flc.nextNumber ∧
    (cancelEntry p id s).1.flc.seconds = p.flc.seconds ∧ (cancelEntry p id s).1.flc.preset = p.flc.preset ∧
    (cancelEntry p id s).1.sgu.gain = p.sgu.gain ∧ (cancelEntry p id s).1.sgu.patterns = p.sgu.patterns ∧
    (cancelEntry p id s).1.sgu.polarity = p.sgu.polarity ∧ (cancelEntry p id s).1.sgu.refused = p.sgu.refused ∧
    (cancelEntry p id s).1.sgu.blink = p.sgu.blink ∧ (cancelEntry p id s).1.sgu.released = p.sgu.released ∧
    (cancelEntry p id s).1.sgu.indication = p.sgu.indication ∧ (cancelEntry p id s).1.sgu.bus = p.sgu.bus ∧
    (cancelEntry p id s).1.rtu.presets = p.rtu.presets ∧ (cancelEntry p id s).1.rtu.routable = p.rtu.routable ∧
    (cancelEntry p id s).1.rtu.override = p.rtu.override ∧ (cancelEntry p id s).1.sch.clock = p.sch.clock ∧
    (cancelEntry p id s).1.ssu.params = p.ssu.params ∧ (cancelEntry p id s).1.prt.rx = p.prt.rx ∧
    (cancelEntry p id s).1.prt.roomId = p.prt.roomId ∧ (cancelEntry p id s).1.prt.tableName = p.prt.tableName ∧
    (cancelEntry p id s).1.line = p.line ∧ (cancelEntry p id s).1.maskOf = p.maskOf := by
  simp only [cancelEntry]
  (repeat' split) <;> simp

@[simp] theorem bookingCancel_keeps (p : Part) (id : Nat) :
    (bookingCancel p id).1.smn.occupied = p.smn.occupied ∧ (bookingCancel p id).1.smn.grace = p.smn.grace ∧
    (bookingCancel p id).1.flc.lead = p.flc.lead ∧ (bookingCancel p id).1.flc.nextNumber = p.flc.nextNumber ∧
    (bookingCancel p id).1.flc.seconds = p.flc.seconds ∧ (bookingCancel p id).1.flc.preset = p.flc.preset ∧
    (bookingCancel p id).1.sgu.gain = p.sgu.gain ∧ (bookingCancel p id).1.sgu.patterns = p.sgu.patterns ∧
    (bookingCancel p id).1.sgu.polarity = p.sgu.polarity ∧ (bookingCancel p id).1.sgu.refused = p.sgu.refused ∧
    (bookingCancel p id).1.sgu.blink = p.sgu.blink ∧ (bookingCancel p id).1.sgu.released = p.sgu.released ∧
    (bookingCancel p id).1.sgu.indication = p.sgu.indication ∧ (bookingCancel p id).1.sgu.bus = p.sgu.bus ∧
    (bookingCancel p id).1.rtu.presets = p.rtu.presets ∧ (bookingCancel p id).1.rtu.routable = p.rtu.routable ∧
    (bookingCancel p id).1.rtu.override = p.rtu.override ∧ (bookingCancel p id).1.sch.clock = p.sch.clock ∧
    (bookingCancel p id).1.ssu.params = p.ssu.params ∧ (bookingCancel p id).1.prt.rx = p.prt.rx ∧
    (bookingCancel p id).1.prt.roomId = p.prt.roomId ∧ (bookingCancel p id).1.prt.tableName = p.prt.tableName ∧
    (bookingCancel p id).1.line = p.line ∧ (bookingCancel p id).1.maskOf = p.maskOf := by
  simp only [bookingCancel]
  (repeat' split) <;> simp

@[simp] theorem extend_keeps (p : Part) (minute : Nat) :
    (extend p minute).1.smn.occupied = p.smn.occupied ∧ (extend p minute).1.smn.grace = p.smn.grace ∧
    (extend p minute).1.flc.lead = p.flc.lead ∧ (extend p minute).1.flc.nextNumber = p.flc.nextNumber ∧
    (extend p minute).1.flc.seconds = p.flc.seconds ∧ (extend p minute).1.flc.preset = p.flc.preset ∧
    (extend p minute).1.sgu.gain = p.sgu.gain ∧ (extend p minute).1.sgu.patterns = p.sgu.patterns ∧
    (extend p minute).1.sgu.polarity = p.sgu.polarity ∧ (extend p minute).1.sgu.refused = p.sgu.refused ∧
    (extend p minute).1.sgu.blink = p.sgu.blink ∧ (extend p minute).1.sgu.released = p.sgu.released ∧
    (extend p minute).1.sgu.indication = p.sgu.indication ∧ (extend p minute).1.sgu.bus = p.sgu.bus ∧
    (extend p minute).1.rtu.presets = p.rtu.presets ∧ (extend p minute).1.rtu.routable = p.rtu.routable ∧
    (extend p minute).1.rtu.override = p.rtu.override ∧ (extend p minute).1.sch.clock = p.sch.clock ∧
    (extend p minute).1.ssu.params = p.ssu.params ∧ (extend p minute).1.prt.rx = p.prt.rx ∧
    (extend p minute).1.prt.roomId = p.prt.roomId ∧ (extend p minute).1.prt.tableName = p.prt.tableName ∧
    (extend p minute).1.line = p.line ∧ (extend p minute).1.maskOf = p.maskOf := by
  simp only [extend]
  (repeat' split) <;> simp

@[simp] theorem endSession_keeps (p : Part) :
    (endSession p).1.smn.occupied = p.smn.occupied ∧ (endSession p).1.smn.grace = p.smn.grace ∧
    (endSession p).1.flc.lead = p.flc.lead ∧ (endSession p).1.flc.nextNumber = p.flc.nextNumber ∧
    (endSession p).1.flc.seconds = p.flc.seconds ∧ (endSession p).1.flc.preset = p.flc.preset ∧
    (endSession p).1.sgu.gain = p.sgu.gain ∧ (endSession p).1.sgu.patterns = p.sgu.patterns ∧
    (endSession p).1.sgu.polarity = p.sgu.polarity ∧ (endSession p).1.sgu.refused = p.sgu.refused ∧
    (endSession p).1.sgu.blink = p.sgu.blink ∧ (endSession p).1.sgu.released = p.sgu.released ∧
    (endSession p).1.sgu.indication = p.sgu.indication ∧ (endSession p).1.sgu.bus = p.sgu.bus ∧
    (endSession p).1.rtu.presets = p.rtu.presets ∧ (endSession p).1.rtu.routable = p.rtu.routable ∧
    (endSession p).1.rtu.override = p.rtu.override ∧ (endSession p).1.sch.clock = p.sch.clock ∧
    (endSession p).1.ssu.params = p.ssu.params ∧ (endSession p).1.prt.rx = p.prt.rx ∧
    (endSession p).1.prt.roomId = p.prt.roomId ∧ (endSession p).1.prt.tableName = p.prt.tableName ∧
    (endSession p).1.line = p.line ∧ (endSession p).1.maskOf = p.maskOf := by
  simp only [endSession]
  (repeat' split) <;> simp

@[simp] theorem summaryRelease_keeps (p : Part) (number : Nat) :
    (summaryRelease p number).1.ssu.session = p.ssu.session ∧
    (summaryRelease p number).1.ssu.pendingStart = p.ssu.pendingStart ∧
    (summaryRelease p number).1.ssu.dwell = p.ssu.dwell ∧
    (summaryRelease p number).1.ssu.nextSummary = p.ssu.nextSummary ∧
    (summaryRelease p number).1.ssu.params = p.ssu.params ∧ (summaryRelease p number).1.line = p.line ∧
    (summaryRelease p number).1.maskOf = p.maskOf ∧ (summaryRelease p number).1.notices = p.notices := by
  simp only [summaryRelease]
  (repeat' split) <;> simp

@[simp] theorem handOut_keeps (p : Part) (s : Settings) :
    (handOut p s).smn.occupied = p.smn.occupied ∧ (handOut p s).flc.isOpen = p.flc.isOpen ∧
    (handOut p s).flc.queue = p.flc.queue ∧ (handOut p s).flc.nextNumber = p.flc.nextNumber ∧
    (handOut p s).flc.seconds = p.flc.seconds ∧ (handOut p s).flc.openOrder = p.flc.openOrder ∧
    (handOut p s).sgu.slots = p.sgu.slots ∧ (handOut p s).sgu.refused = p.sgu.refused ∧
    (handOut p s).sgu.blink = p.sgu.blink ∧ (handOut p s).sgu.released = p.sgu.released ∧
    (handOut p s).sgu.indication = p.sgu.indication ∧ (handOut p s).sgu.bus = p.sgu.bus ∧
    (handOut p s).scu.pc = p.scu.pc ∧ (handOut p s).scu.codec = p.scu.codec ∧
    (handOut p s).rtu.speakers = p.rtu.speakers ∧ (handOut p s).rtu.routable = p.rtu.routable ∧
    (handOut p s).ssu.session = p.ssu.session ∧ (handOut p s).ssu.pendingStart = p.ssu.pendingStart ∧
    (handOut p s).ssu.dwell = p.ssu.dwell ∧ (handOut p s).ssu.store = p.ssu.store ∧
    (handOut p s).ssu.lost = p.ssu.lost ∧ (handOut p s).ssu.nextSummary = p.ssu.nextSummary ∧
    (handOut p s).prt.rx = p.prt.rx ∧ (handOut p s).line = p.line ∧ (handOut p s).maskOf = p.maskOf := by
  simp [handOut]
  exact ⟨line_eq rfl, maskOf_eq rfl⟩

@[simp] theorem loadRecord_keeps (p : Part) (outcome : LoadOutcome) (corrected : Bool) (image : List Byte) :
    (loadRecord p outcome corrected image).pln.straps = p.pln.straps ∧
    (loadRecord p outcome corrected image).pln.saving = p.pln.saving ∧
    (loadRecord p outcome corrected image).pln.composed = p.pln.composed ∧
    (loadRecord p outcome corrected image).pln.result = p.pln.result ∧
    (loadRecord p outcome corrected image).line = p.line ∧ (loadRecord p outcome corrected image).maskOf = p.maskOf ∧
    (loadRecord p outcome corrected image).notices = p.notices := by
  simp [loadRecord]

@[simp] theorem loadPlan_keeps (p : Part) (img : List Byte) :
    (loadPlan p img).smn.occupied = p.smn.occupied ∧ (loadPlan p img).flc.isOpen = p.flc.isOpen ∧
    (loadPlan p img).flc.queue = p.flc.queue ∧ (loadPlan p img).flc.nextNumber = p.flc.nextNumber ∧
    (loadPlan p img).flc.seconds = p.flc.seconds ∧ (loadPlan p img).flc.openOrder = p.flc.openOrder ∧
    (loadPlan p img).sgu.slots = p.sgu.slots ∧ (loadPlan p img).sgu.refused = p.sgu.refused ∧
    (loadPlan p img).sgu.blink = p.sgu.blink ∧ (loadPlan p img).sgu.released = p.sgu.released ∧
    (loadPlan p img).sgu.indication = p.sgu.indication ∧ (loadPlan p img).sgu.bus = p.sgu.bus ∧
    (loadPlan p img).scu.pc = p.scu.pc ∧ (loadPlan p img).scu.codec = p.scu.codec ∧
    (loadPlan p img).rtu.speakers = p.rtu.speakers ∧ (loadPlan p img).rtu.routable = p.rtu.routable ∧
    (loadPlan p img).ssu.session = p.ssu.session ∧ (loadPlan p img).ssu.pendingStart = p.ssu.pendingStart ∧
    (loadPlan p img).ssu.dwell = p.ssu.dwell ∧ (loadPlan p img).ssu.store = p.ssu.store ∧
    (loadPlan p img).ssu.lost = p.ssu.lost ∧ (loadPlan p img).ssu.nextSummary = p.ssu.nextSummary ∧
    (loadPlan p img).prt.rx = p.prt.rx ∧ (loadPlan p img).pln.straps = p.pln.straps ∧
    (loadPlan p img).pln.saving = p.pln.saving ∧ (loadPlan p img).pln.composed = p.pln.composed ∧
    (loadPlan p img).pln.result = p.pln.result ∧ (loadPlan p img).line = p.line ∧
    (loadPlan p img).maskOf = p.maskOf := by
  simp only [loadPlan]
  (repeat' split) <;> simp

@[simp] theorem loadDefault_keeps (p : Part) :
    (loadDefault p).smn.occupied = p.smn.occupied ∧ (loadDefault p).flc.isOpen = p.flc.isOpen ∧
    (loadDefault p).flc.queue = p.flc.queue ∧ (loadDefault p).flc.nextNumber = p.flc.nextNumber ∧
    (loadDefault p).flc.seconds = p.flc.seconds ∧ (loadDefault p).flc.openOrder = p.flc.openOrder ∧
    (loadDefault p).sgu.slots = p.sgu.slots ∧ (loadDefault p).sgu.refused = p.sgu.refused ∧
    (loadDefault p).sgu.blink = p.sgu.blink ∧ (loadDefault p).sgu.released = p.sgu.released ∧
    (loadDefault p).sgu.indication = p.sgu.indication ∧ (loadDefault p).sgu.bus = p.sgu.bus ∧
    (loadDefault p).scu.pc = p.scu.pc ∧ (loadDefault p).scu.codec = p.scu.codec ∧
    (loadDefault p).rtu.speakers = p.rtu.speakers ∧ (loadDefault p).rtu.routable = p.rtu.routable ∧
    (loadDefault p).ssu.session = p.ssu.session ∧ (loadDefault p).ssu.pendingStart = p.ssu.pendingStart ∧
    (loadDefault p).ssu.dwell = p.ssu.dwell ∧ (loadDefault p).ssu.store = p.ssu.store ∧
    (loadDefault p).ssu.lost = p.ssu.lost ∧ (loadDefault p).ssu.nextSummary = p.ssu.nextSummary ∧
    (loadDefault p).prt.rx = p.prt.rx ∧ (loadDefault p).pln.straps = p.pln.straps ∧
    (loadDefault p).pln.saving = p.pln.saving ∧ (loadDefault p).pln.composed = p.pln.composed ∧
    (loadDefault p).pln.result = p.pln.result ∧ (loadDefault p).line = p.line ∧
    (loadDefault p).maskOf = p.maskOf := by
  simp [loadDefault]

@[simp] theorem loadEnd_keeps (p : Part) (e : EepromRead) :
    (loadEnd p e).smn.occupied = p.smn.occupied ∧ (loadEnd p e).flc.isOpen = p.flc.isOpen ∧
    (loadEnd p e).flc.queue = p.flc.queue ∧ (loadEnd p e).flc.nextNumber = p.flc.nextNumber ∧
    (loadEnd p e).flc.seconds = p.flc.seconds ∧ (loadEnd p e).flc.openOrder = p.flc.openOrder ∧
    (loadEnd p e).sgu.slots = p.sgu.slots ∧ (loadEnd p e).sgu.refused = p.sgu.refused ∧
    (loadEnd p e).sgu.blink = p.sgu.blink ∧ (loadEnd p e).sgu.released = p.sgu.released ∧
    (loadEnd p e).sgu.indication = p.sgu.indication ∧ (loadEnd p e).sgu.bus = p.sgu.bus ∧
    (loadEnd p e).scu.pc = p.scu.pc ∧ (loadEnd p e).scu.codec = p.scu.codec ∧
    (loadEnd p e).rtu.speakers = p.rtu.speakers ∧ (loadEnd p e).rtu.routable = p.rtu.routable ∧
    (loadEnd p e).ssu.session = p.ssu.session ∧ (loadEnd p e).ssu.pendingStart = p.ssu.pendingStart ∧
    (loadEnd p e).ssu.dwell = p.ssu.dwell ∧ (loadEnd p e).ssu.store = p.ssu.store ∧
    (loadEnd p e).ssu.lost = p.ssu.lost ∧ (loadEnd p e).ssu.nextSummary = p.ssu.nextSummary ∧
    (loadEnd p e).prt.rx = p.prt.rx ∧ (loadEnd p e).pln.straps = p.pln.straps ∧
    (loadEnd p e).pln.saving = p.pln.saving ∧ (loadEnd p e).pln.composed = p.pln.composed ∧
    (loadEnd p e).pln.result = p.pln.result ∧ (loadEnd p e).line = p.line ∧ (loadEnd p e).maskOf = p.maskOf := by
  simp only [loadEnd]
  (repeat' split) <;> simp

@[simp] theorem planSave_keeps (p : Part) :
    (planSave p).1.pln.straps = p.pln.straps ∧ (planSave p).1.pln.stage = p.pln.stage ∧
    (planSave p).1.pln.outcome = p.pln.outcome ∧ (planSave p).1.pln.corrected = p.pln.corrected ∧
    (planSave p).1.pln.image = p.pln.image ∧ (planSave p).1.pln.result = p.pln.result ∧
    (planSave p).1.line = p.line ∧ (planSave p).1.maskOf = p.maskOf ∧ (planSave p).1.notices = p.notices := by
  simp only [planSave]
  (repeat' split) <;> simp

@[simp] theorem saveMatch_keeps (p : Part) :
    (saveMatch p).prt.rx = p.prt.rx ∧ (saveMatch p).prt.roomId = p.prt.roomId ∧
    (saveMatch p).prt.tableName = p.prt.tableName ∧ (saveMatch p).pln.straps = p.pln.straps ∧
    (saveMatch p).pln.stage = p.pln.stage ∧ (saveMatch p).pln.outcome = p.pln.outcome ∧
    (saveMatch p).pln.corrected = p.pln.corrected ∧ (saveMatch p).line = p.line ∧
    (saveMatch p).maskOf = p.maskOf := by
  simp only [saveMatch]
  (repeat' split) <;> simp

@[simp] theorem saveFailure_keeps (p : Part) :
    (saveFailure p).prt.rx = p.prt.rx ∧ (saveFailure p).prt.roomId = p.prt.roomId ∧
    (saveFailure p).prt.tableName = p.prt.tableName ∧ (saveFailure p).pln.straps = p.pln.straps ∧
    (saveFailure p).pln.stage = p.pln.stage ∧ (saveFailure p).pln.outcome = p.pln.outcome ∧
    (saveFailure p).pln.corrected = p.pln.corrected ∧ (saveFailure p).pln.image = p.pln.image ∧
    (saveFailure p).line = p.line ∧ (saveFailure p).maskOf = p.maskOf := by
  simp only [saveFailure]
  (repeat' split) <;> simp

@[simp] theorem closeRequest_keeps (p : Part) (s : SeatId) :
    (closeRequest p s).1.flc.mode = p.flc.mode ∧ (closeRequest p s).1.flc.limit = p.flc.limit ∧
    (closeRequest p s).1.flc.speak = p.flc.speak ∧ (closeRequest p s).1.flc.enforce = p.flc.enforce ∧
    (closeRequest p s).1.flc.lead = p.flc.lead ∧ (closeRequest p s).1.flc.isOpen = p.flc.isOpen ∧
    (closeRequest p s).1.flc.queue = p.flc.queue ∧ (closeRequest p s).1.flc.nextNumber = p.flc.nextNumber ∧
    (closeRequest p s).1.flc.seconds = p.flc.seconds ∧ (closeRequest p s).1.flc.preset = p.flc.preset ∧
    (closeRequest p s).1.sgu.gain = p.sgu.gain ∧ (closeRequest p s).1.sgu.patterns = p.sgu.patterns ∧
    (closeRequest p s).1.sgu.polarity = p.sgu.polarity ∧ (closeRequest p s).1.sgu.refused = p.sgu.refused ∧
    (closeRequest p s).1.sgu.blink = p.sgu.blink ∧ (closeRequest p s).1.sgu.released = p.sgu.released ∧
    (closeRequest p s).1.sgu.indication = p.sgu.indication ∧ (closeRequest p s).1.sgu.bus = p.sgu.bus ∧
    (closeRequest p s).1.rtu.presets = p.rtu.presets ∧ (closeRequest p s).1.rtu.routable = p.rtu.routable ∧
    (closeRequest p s).1.rtu.override = p.rtu.override ∧ (closeRequest p s).1.prt.rx = p.prt.rx ∧
    (closeRequest p s).1.prt.roomId = p.prt.roomId ∧ (closeRequest p s).1.prt.tableName = p.prt.tableName ∧
    (closeRequest p s).1.line = p.line ∧ (closeRequest p s).1.maskOf = p.maskOf := by
  simp only [closeRequest]
  (repeat' split) <;> simp

@[simp] theorem cancelRequest_keeps (p : Part) (s : SeatId) :
    (cancelRequest p s).1.flc.mode = p.flc.mode ∧ (cancelRequest p s).1.flc.limit = p.flc.limit ∧
    (cancelRequest p s).1.flc.speak = p.flc.speak ∧ (cancelRequest p s).1.flc.enforce = p.flc.enforce ∧
    (cancelRequest p s).1.flc.lead = p.flc.lead ∧ (cancelRequest p s).1.flc.isOpen = p.flc.isOpen ∧
    (cancelRequest p s).1.flc.nextNumber = p.flc.nextNumber ∧ (cancelRequest p s).1.flc.seconds = p.flc.seconds ∧
    (cancelRequest p s).1.flc.openOrder = p.flc.openOrder ∧ (cancelRequest p s).1.flc.preset = p.flc.preset ∧
    (cancelRequest p s).1.prt.rx = p.prt.rx ∧ (cancelRequest p s).1.prt.roomId = p.prt.roomId ∧
    (cancelRequest p s).1.prt.tableName = p.prt.tableName ∧ (cancelRequest p s).1.line = p.line ∧
    (cancelRequest p s).1.maskOf = p.maskOf := by
  simp only [cancelRequest]
  (repeat' split) <;> simp

@[simp] theorem cancelAll_keeps (p : Part) :
    (cancelAll p).1.flc.mode = p.flc.mode ∧ (cancelAll p).1.flc.limit = p.flc.limit ∧
    (cancelAll p).1.flc.speak = p.flc.speak ∧ (cancelAll p).1.flc.enforce = p.flc.enforce ∧
    (cancelAll p).1.flc.lead = p.flc.lead ∧ (cancelAll p).1.flc.isOpen = p.flc.isOpen ∧
    (cancelAll p).1.flc.nextNumber = p.flc.nextNumber ∧ (cancelAll p).1.flc.seconds = p.flc.seconds ∧
    (cancelAll p).1.flc.openOrder = p.flc.openOrder ∧ (cancelAll p).1.flc.preset = p.flc.preset ∧
    (cancelAll p).1.prt.rx = p.prt.rx ∧ (cancelAll p).1.prt.roomId = p.prt.roomId ∧
    (cancelAll p).1.prt.tableName = p.prt.tableName ∧ (cancelAll p).1.line = p.line ∧
    (cancelAll p).1.maskOf = p.maskOf := by
  simp [cancelAll]

@[simp] theorem setModeRequest_keeps (p : Part) (n : Nat) :
    (setModeRequest p n).1.smn.occupied = p.smn.occupied ∧ (setModeRequest p n).1.smn.grace = p.smn.grace ∧
    (setModeRequest p n).1.flc.limit = p.flc.limit ∧ (setModeRequest p n).1.flc.speak = p.flc.speak ∧
    (setModeRequest p n).1.flc.enforce = p.flc.enforce ∧ (setModeRequest p n).1.flc.lead = p.flc.lead ∧
    (setModeRequest p n).1.flc.isOpen = p.flc.isOpen ∧ (setModeRequest p n).1.flc.nextNumber = p.flc.nextNumber ∧
    (setModeRequest p n).1.flc.seconds = p.flc.seconds ∧ (setModeRequest p n).1.flc.preset = p.flc.preset ∧
    (setModeRequest p n).1.sgu.gain = p.sgu.gain ∧ (setModeRequest p n).1.sgu.patterns = p.sgu.patterns ∧
    (setModeRequest p n).1.sgu.polarity = p.sgu.polarity ∧ (setModeRequest p n).1.sgu.refused = p.sgu.refused ∧
    (setModeRequest p n).1.sgu.blink = p.sgu.blink ∧ (setModeRequest p n).1.sgu.released = p.sgu.released ∧
    (setModeRequest p n).1.sgu.indication = p.sgu.indication ∧ (setModeRequest p n).1.sgu.bus = p.sgu.bus ∧
    (setModeRequest p n).1.prt.rx = p.prt.rx ∧ (setModeRequest p n).1.prt.roomId = p.prt.roomId ∧
    (setModeRequest p n).1.prt.tableName = p.prt.tableName ∧ (setModeRequest p n).1.line = p.line ∧
    (setModeRequest p n).1.maskOf = p.maskOf := by
  simp only [setModeRequest]
  (repeat' split) <;> simp

@[simp] theorem setSpeakRequest_keeps (p : Part) (n e : Nat) :
    (setSpeakRequest p n e).1.flc.mode = p.flc.mode ∧ (setSpeakRequest p n e).1.flc.limit = p.flc.limit ∧
    (setSpeakRequest p n e).1.flc.lead = p.flc.lead ∧ (setSpeakRequest p n e).1.flc.isOpen = p.flc.isOpen ∧
    (setSpeakRequest p n e).1.flc.queue = p.flc.queue ∧ (setSpeakRequest p n e).1.flc.nextNumber = p.flc.nextNumber ∧
    (setSpeakRequest p n e).1.flc.seconds = p.flc.seconds ∧ (setSpeakRequest p n e).1.flc.preset = p.flc.preset ∧
    (setSpeakRequest p n e).1.sgu.gain = p.sgu.gain ∧ (setSpeakRequest p n e).1.sgu.patterns = p.sgu.patterns ∧
    (setSpeakRequest p n e).1.sgu.polarity = p.sgu.polarity ∧ (setSpeakRequest p n e).1.sgu.refused = p.sgu.refused ∧
    (setSpeakRequest p n e).1.sgu.blink = p.sgu.blink ∧ (setSpeakRequest p n e).1.sgu.released = p.sgu.released ∧
    (setSpeakRequest p n e).1.sgu.indication = p.sgu.indication ∧ (setSpeakRequest p n e).1.sgu.bus = p.sgu.bus ∧
    (setSpeakRequest p n e).1.rtu.presets = p.rtu.presets ∧ (setSpeakRequest p n e).1.rtu.routable = p.rtu.routable ∧
    (setSpeakRequest p n e).1.rtu.override = p.rtu.override ∧ (setSpeakRequest p n e).1.prt.rx = p.prt.rx ∧
    (setSpeakRequest p n e).1.prt.roomId = p.prt.roomId ∧ (setSpeakRequest p n e).1.prt.tableName = p.prt.tableName ∧
    (setSpeakRequest p n e).1.line = p.line ∧ (setSpeakRequest p n e).1.maskOf = p.maskOf := by
  simp only [setSpeakRequest]
  (repeat' split) <;> simp

@[simp] theorem pressRequest_keeps (p : Part) (s : SeatId) :
    (pressRequest p s).1.smn.occupied = p.smn.occupied ∧ (pressRequest p s).1.smn.grace = p.smn.grace ∧
    (pressRequest p s).1.flc.mode = p.flc.mode ∧ (pressRequest p s).1.flc.limit = p.flc.limit ∧
    (pressRequest p s).1.flc.speak = p.flc.speak ∧ (pressRequest p s).1.flc.enforce = p.flc.enforce ∧
    (pressRequest p s).1.flc.lead = p.flc.lead ∧ (pressRequest p s).1.flc.isOpen = p.flc.isOpen ∧
    (pressRequest p s).1.flc.seconds = p.flc.seconds ∧ (pressRequest p s).1.flc.preset = p.flc.preset ∧
    (pressRequest p s).1.sgu.gain = p.sgu.gain ∧ (pressRequest p s).1.sgu.patterns = p.sgu.patterns ∧
    (pressRequest p s).1.sgu.polarity = p.sgu.polarity ∧ (pressRequest p s).1.sgu.blink = p.sgu.blink ∧
    (pressRequest p s).1.sgu.released = p.sgu.released ∧ (pressRequest p s).1.sgu.indication = p.sgu.indication ∧
    (pressRequest p s).1.sgu.bus = p.sgu.bus ∧ (pressRequest p s).1.rtu.presets = p.rtu.presets ∧
    (pressRequest p s).1.rtu.routable = p.rtu.routable ∧ (pressRequest p s).1.rtu.override = p.rtu.override ∧
    (pressRequest p s).1.prt.rx = p.prt.rx ∧ (pressRequest p s).1.prt.roomId = p.prt.roomId ∧
    (pressRequest p s).1.prt.tableName = p.prt.tableName ∧ (pressRequest p s).1.line = p.line ∧
    (pressRequest p s).1.maskOf = p.maskOf := by
  simp only [pressRequest]
  (repeat' split) <;> simp

@[simp] theorem profileRequest_keeps (p : Part) (l : List Byte) :
    (profileRequest p l).1.sfe.frame = p.sfe.frame ∧ (profileRequest p l).1.smn.grace = p.smn.grace ∧
    (profileRequest p l).1.flc.lead = p.flc.lead ∧ (profileRequest p l).1.flc.seconds = p.flc.seconds ∧
    (profileRequest p l).1.flc.preset = p.flc.preset ∧ (profileRequest p l).1.sgu.gain = p.sgu.gain ∧
    (profileRequest p l).1.sgu.patterns = p.sgu.patterns ∧ (profileRequest p l).1.sgu.polarity = p.sgu.polarity ∧
    (profileRequest p l).1.sgu.blink = p.sgu.blink ∧ (profileRequest p l).1.sgu.released = p.sgu.released ∧
    (profileRequest p l).1.sgu.indication = p.sgu.indication ∧ (profileRequest p l).1.sgu.bus = p.sgu.bus ∧
    (profileRequest p l).1.scu.rates = p.scu.rates ∧ (profileRequest p l).1.scu.agree = p.scu.agree ∧
    (profileRequest p l).1.scu.drop = p.scu.drop ∧ (profileRequest p l).1.scu.pc = p.scu.pc ∧
    (profileRequest p l).1.scu.codec = p.scu.codec ∧ (profileRequest p l).1.rtu.presets = p.rtu.presets ∧
    (profileRequest p l).1.rtu.routable = p.rtu.routable ∧ (profileRequest p l).1.sch.clock = p.sch.clock ∧
    (profileRequest p l).1.ssu.params = p.ssu.params ∧ (profileRequest p l).1.prt.rx = p.prt.rx ∧
    (profileRequest p l).1.prt.roomId = p.prt.roomId ∧ (profileRequest p l).1.prt.tableName = p.prt.tableName ∧
    (profileRequest p l).1.pwu.lead = p.pwu.lead ∧ (profileRequest p l).1.pwu.delay = p.pwu.delay ∧
    (profileRequest p l).1.pwu.mask = p.pwu.mask ∧ (profileRequest p l).1.pwu.proximityWake = p.pwu.proximityWake ∧
    (profileRequest p l).1.line = p.line ∧ (profileRequest p l).1.maskOf = p.maskOf := by
  simp only [profileRequest]
  (repeat' split) <;> simp

@[simp] theorem setPattern_keeps (p : Part) (i : Fin 12) (l : List Byte) :
    (setPattern p i l).1.sgu.slots = p.sgu.slots ∧ (setPattern p i l).1.sgu.gain = p.sgu.gain ∧
    (setPattern p i l).1.sgu.polarity = p.sgu.polarity ∧ (setPattern p i l).1.sgu.refused = p.sgu.refused ∧
    (setPattern p i l).1.sgu.blink = p.sgu.blink ∧ (setPattern p i l).1.sgu.released = p.sgu.released ∧
    (setPattern p i l).1.sgu.indication = p.sgu.indication ∧ (setPattern p i l).1.sgu.bus = p.sgu.bus ∧
    (setPattern p i l).1.line = p.line ∧ (setPattern p i l).1.maskOf = p.maskOf ∧
    (setPattern p i l).1.notices = p.notices := by
  simp only [setPattern]
  (repeat' split) <;> simp

@[simp] theorem patternRequest_keeps (p : Part) (l : List Byte) :
    (patternRequest p l).1.sgu.slots = p.sgu.slots ∧ (patternRequest p l).1.sgu.gain = p.sgu.gain ∧
    (patternRequest p l).1.sgu.polarity = p.sgu.polarity ∧ (patternRequest p l).1.sgu.refused = p.sgu.refused ∧
    (patternRequest p l).1.sgu.blink = p.sgu.blink ∧ (patternRequest p l).1.sgu.released = p.sgu.released ∧
    (patternRequest p l).1.sgu.indication = p.sgu.indication ∧ (patternRequest p l).1.sgu.bus = p.sgu.bus ∧
    (patternRequest p l).1.line = p.line ∧ (patternRequest p l).1.maskOf = p.maskOf ∧
    (patternRequest p l).1.notices = p.notices := by
  simp only [patternRequest]
  (repeat' split) <;> simp

@[simp] theorem setPolarity_keeps (p : Part) (l : List Byte) :
    (setPolarity p l).1.sgu.slots = p.sgu.slots ∧ (setPolarity p l).1.sgu.gain = p.sgu.gain ∧
    (setPolarity p l).1.sgu.patterns = p.sgu.patterns ∧ (setPolarity p l).1.sgu.refused = p.sgu.refused ∧
    (setPolarity p l).1.sgu.blink = p.sgu.blink ∧ (setPolarity p l).1.sgu.released = p.sgu.released ∧
    (setPolarity p l).1.sgu.indication = p.sgu.indication ∧ (setPolarity p l).1.sgu.bus = p.sgu.bus ∧
    (setPolarity p l).1.line = p.line ∧ (setPolarity p l).1.maskOf = p.maskOf ∧
    (setPolarity p l).1.notices = p.notices := by
  simp only [setPolarity]
  (repeat' split) <;> simp

@[simp] theorem polarityRequest_keeps (p : Part) (l : List Byte) :
    (polarityRequest p l).1.sgu.slots = p.sgu.slots ∧ (polarityRequest p l).1.sgu.gain = p.sgu.gain ∧
    (polarityRequest p l).1.sgu.patterns = p.sgu.patterns ∧ (polarityRequest p l).1.sgu.refused = p.sgu.refused ∧
    (polarityRequest p l).1.sgu.blink = p.sgu.blink ∧ (polarityRequest p l).1.sgu.released = p.sgu.released ∧
    (polarityRequest p l).1.sgu.indication = p.sgu.indication ∧ (polarityRequest p l).1.sgu.bus = p.sgu.bus ∧
    (polarityRequest p l).1.line = p.line ∧ (polarityRequest p l).1.maskOf = p.maskOf ∧
    (polarityRequest p l).1.notices = p.notices := by
  simp [polarityRequest]

@[simp] theorem retuneRequest_keeps (p : Part) (scope force : Nat) :
    (retuneRequest p scope force).1.sfe.key = p.sfe.key ∧
    (retuneRequest p scope force).1.sfe.proximity = p.sfe.proximity ∧
    (retuneRequest p scope force).1.sfe.reference = p.sfe.reference ∧
    (retuneRequest p scope force).1.sfe.frame = p.sfe.frame ∧ (retuneRequest p scope force).1.line = p.line ∧
    (retuneRequest p scope force).1.maskOf = p.maskOf ∧ (retuneRequest p scope force).1.notices = p.notices := by
  simp only [retuneRequest]
  (repeat' split) <;> simp

@[simp] theorem setScreenSettings_keeps (p : Part) (k : ScreenId) (x : ScreenSettings) :
    (setScreenSettings p k x).rtu.presets = p.rtu.presets ∧ (setScreenSettings p k x).rtu.speakers = p.rtu.speakers ∧
    (setScreenSettings p k x).rtu.routable = p.rtu.routable ∧
    (setScreenSettings p k x).rtu.override = p.rtu.override ∧ (setScreenSettings p k x).line = p.line ∧
    (setScreenSettings p k x).maskOf = p.maskOf ∧ (setScreenSettings p k x).notices = p.notices := by
  simp [setScreenSettings]

@[simp] theorem setRoute_keeps (p : Part) (k : ScreenId) (l : List Byte) :
    (setRoute p k l).1.rtu.presets = p.rtu.presets ∧ (setRoute p k l).1.rtu.speakers = p.rtu.speakers ∧
    (setRoute p k l).1.rtu.routable = p.rtu.routable ∧ (setRoute p k l).1.rtu.override = p.rtu.override ∧
    (setRoute p k l).1.line = p.line ∧ (setRoute p k l).1.maskOf = p.maskOf ∧
    (setRoute p k l).1.notices = p.notices := by
  simp only [setRoute]
  (repeat' split) <;> simp

@[simp] theorem routeRequest_keeps (p : Part) (l : List Byte) :
    (routeRequest p l).1.rtu.presets = p.rtu.presets ∧ (routeRequest p l).1.rtu.speakers = p.rtu.speakers ∧
    (routeRequest p l).1.rtu.routable = p.rtu.routable ∧ (routeRequest p l).1.rtu.override = p.rtu.override ∧
    (routeRequest p l).1.line = p.line ∧ (routeRequest p l).1.maskOf = p.maskOf ∧
    (routeRequest p l).1.notices = p.notices := by
  simp only [routeRequest]
  (repeat' split) <;> simp

@[simp] theorem setRate_keeps (p : Part) (i : Fin 8) (l : List Byte) :
    (setRate p i l).1.scu.sockets = p.scu.sockets ∧ (setRate p i l).1.scu.agree = p.scu.agree ∧
    (setRate p i l).1.scu.drop = p.scu.drop ∧ (setRate p i l).1.scu.pc = p.scu.pc ∧
    (setRate p i l).1.scu.codec = p.scu.codec ∧ (setRate p i l).1.line = p.line ∧
    (setRate p i l).1.maskOf = p.maskOf ∧ (setRate p i l).1.notices = p.notices := by
  simp only [setRate]
  (repeat' split) <;> simp

@[simp] theorem rateRequest_keeps (p : Part) (l : List Byte) :
    (rateRequest p l).1.scu.sockets = p.scu.sockets ∧ (rateRequest p l).1.scu.agree = p.scu.agree ∧
    (rateRequest p l).1.scu.drop = p.scu.drop ∧ (rateRequest p l).1.scu.pc = p.scu.pc ∧
    (rateRequest p l).1.scu.codec = p.scu.codec ∧ (rateRequest p l).1.line = p.line ∧
    (rateRequest p l).1.maskOf = p.maskOf ∧ (rateRequest p l).1.notices = p.notices := by
  simp only [rateRequest]
  (repeat' split) <;> simp

@[simp] theorem setCounts_keeps (p : Part) (k d : Nat) :
    (setCounts p k d).1.scu.sockets = p.scu.sockets ∧ (setCounts p k d).1.scu.rates = p.scu.rates ∧
    (setCounts p k d).1.scu.pc = p.scu.pc ∧ (setCounts p k d).1.scu.codec = p.scu.codec ∧
    (setCounts p k d).1.line = p.line ∧ (setCounts p k d).1.maskOf = p.maskOf ∧
    (setCounts p k d).1.notices = p.notices := by
  simp only [setCounts]
  (repeat' split) <;> simp

@[simp] theorem countSetRequest_keeps (p : Part) (k d : Nat) :
    (countSetRequest p k d).1.scu.sockets = p.scu.sockets ∧ (countSetRequest p k d).1.scu.rates = p.scu.rates ∧
    (countSetRequest p k d).1.scu.pc = p.scu.pc ∧ (countSetRequest p k d).1.scu.codec = p.scu.codec ∧
    (countSetRequest p k d).1.line = p.line ∧ (countSetRequest p k d).1.maskOf = p.maskOf ∧
    (countSetRequest p k d).1.notices = p.notices := by
  simp [countSetRequest]

@[simp] theorem setCapture_keeps (p : Part) (k : SocketId) (l : List Byte) :
    (setCapture p k l).1.sfe.key = p.sfe.key ∧ (setCapture p k l).1.sfe.proximity = p.sfe.proximity ∧
    (setCapture p k l).1.sfe.reference = p.sfe.reference ∧ (setCapture p k l).1.sfe.frame = p.sfe.frame ∧
    (setCapture p k l).1.scu.rates = p.scu.rates ∧ (setCapture p k l).1.scu.agree = p.scu.agree ∧
    (setCapture p k l).1.scu.drop = p.scu.drop ∧ (setCapture p k l).1.scu.pc = p.scu.pc ∧
    (setCapture p k l).1.scu.codec = p.scu.codec ∧ (setCapture p k l).1.rtu.presets = p.rtu.presets ∧
    (setCapture p k l).1.rtu.speakers = p.rtu.speakers ∧ (setCapture p k l).1.prt.rx = p.prt.rx ∧
    (setCapture p k l).1.prt.roomId = p.prt.roomId ∧ (setCapture p k l).1.prt.tableName = p.prt.tableName ∧
    (setCapture p k l).1.pwu.lead = p.pwu.lead ∧ (setCapture p k l).1.pwu.delay = p.pwu.delay ∧
    (setCapture p k l).1.pwu.mask = p.pwu.mask ∧ (setCapture p k l).1.pwu.proximityWake = p.pwu.proximityWake ∧
    (setCapture p k l).1.line = p.line ∧ (setCapture p k l).1.maskOf = p.maskOf := by
  simp only [setCapture]
  (repeat' split) <;> simp

@[simp] theorem captureRequest_keeps (p : Part) (l : List Byte) :
    (captureRequest p l).1.sfe.key = p.sfe.key ∧ (captureRequest p l).1.sfe.proximity = p.sfe.proximity ∧
    (captureRequest p l).1.sfe.reference = p.sfe.reference ∧ (captureRequest p l).1.sfe.frame = p.sfe.frame ∧
    (captureRequest p l).1.scu.rates = p.scu.rates ∧ (captureRequest p l).1.scu.agree = p.scu.agree ∧
    (captureRequest p l).1.scu.drop = p.scu.drop ∧ (captureRequest p l).1.scu.pc = p.scu.pc ∧
    (captureRequest p l).1.scu.codec = p.scu.codec ∧ (captureRequest p l).1.rtu.presets = p.rtu.presets ∧
    (captureRequest p l).1.rtu.speakers = p.rtu.speakers ∧ (captureRequest p l).1.prt.rx = p.prt.rx ∧
    (captureRequest p l).1.prt.roomId = p.prt.roomId ∧ (captureRequest p l).1.prt.tableName = p.prt.tableName ∧
    (captureRequest p l).1.pwu.lead = p.pwu.lead ∧ (captureRequest p l).1.pwu.delay = p.pwu.delay ∧
    (captureRequest p l).1.pwu.mask = p.pwu.mask ∧ (captureRequest p l).1.pwu.proximityWake = p.pwu.proximityWake ∧
    (captureRequest p l).1.line = p.line ∧ (captureRequest p l).1.maskOf = p.maskOf := by
  simp only [captureRequest]
  (repeat' split) <;> simp

@[simp] theorem setPresent_keeps (p : Part) (input present : Nat) :
    (setPresent p input present).1.scu.sockets = p.scu.sockets ∧
    (setPresent p input present).1.scu.rates = p.scu.rates ∧ (setPresent p input present).1.scu.agree = p.scu.agree ∧
    (setPresent p input present).1.scu.drop = p.scu.drop ∧
    (setPresent p input present).1.rtu.presets = p.rtu.presets ∧
    (setPresent p input present).1.rtu.speakers = p.rtu.speakers ∧
    (setPresent p input present).1.rtu.override = p.rtu.override ∧ (setPresent p input present).1.prt.rx = p.prt.rx ∧
    (setPresent p input present).1.prt.roomId = p.prt.roomId ∧
    (setPresent p input present).1.prt.tableName = p.prt.tableName ∧ (setPresent p input present).1.line = p.line ∧
    (setPresent p input present).1.maskOf = p.maskOf := by
  simp only [setPresent]
  (repeat' split) <;> simp

@[simp] theorem presentRequest_keeps (p : Part) (input present : Nat) :
    (presentRequest p input present).1.scu.sockets = p.scu.sockets ∧
    (presentRequest p input present).1.scu.rates = p.scu.rates ∧
    (presentRequest p input present).1.scu.agree = p.scu.agree ∧
    (presentRequest p input present).1.scu.drop = p.scu.drop ∧
    (presentRequest p input present).1.rtu.presets = p.rtu.presets ∧
    (presentRequest p input present).1.rtu.speakers = p.rtu.speakers ∧
    (presentRequest p input present).1.rtu.override = p.rtu.override ∧
    (presentRequest p input present).1.prt.rx = p.prt.rx ∧
    (presentRequest p input present).1.prt.roomId = p.prt.roomId ∧
    (presentRequest p input present).1.prt.tableName = p.prt.tableName ∧
    (presentRequest p input present).1.line = p.line ∧ (presentRequest p input present).1.maskOf = p.maskOf := by
  simp [presentRequest]

@[simp] theorem setGain_keeps (p : Part) (l : List Byte) :
    (setGain p l).1.sgu.patterns = p.sgu.patterns ∧ (setGain p l).1.sgu.polarity = p.sgu.polarity ∧
    (setGain p l).1.sgu.refused = p.sgu.refused ∧ (setGain p l).1.sgu.blink = p.sgu.blink ∧
    (setGain p l).1.sgu.released = p.sgu.released ∧ (setGain p l).1.sgu.indication = p.sgu.indication ∧
    (setGain p l).1.sgu.bus = p.sgu.bus ∧ (setGain p l).1.line = p.line ∧ (setGain p l).1.maskOf = p.maskOf ∧
    (setGain p l).1.notices = p.notices := by
  simp only [setGain]
  (repeat' split) <;> simp

@[simp] theorem gainRequest_keeps (p : Part) (l : List Byte) :
    (gainRequest p l).1.sgu.patterns = p.sgu.patterns ∧ (gainRequest p l).1.sgu.polarity = p.sgu.polarity ∧
    (gainRequest p l).1.sgu.refused = p.sgu.refused ∧ (gainRequest p l).1.sgu.blink = p.sgu.blink ∧
    (gainRequest p l).1.sgu.released = p.sgu.released ∧ (gainRequest p l).1.sgu.indication = p.sgu.indication ∧
    (gainRequest p l).1.sgu.bus = p.sgu.bus ∧ (gainRequest p l).1.line = p.line ∧
    (gainRequest p l).1.maskOf = p.maskOf ∧ (gainRequest p l).1.notices = p.notices := by
  simp [gainRequest]

@[simp] theorem noticeRead_keeps (p : Part) (q : Port) :
    (noticeRead p q).1.prt.rx = p.prt.rx ∧ (noticeRead p q).1.prt.roomId = p.prt.roomId ∧
    (noticeRead p q).1.prt.tableName = p.prt.tableName ∧ (noticeRead p q).1.line = p.line ∧
    (noticeRead p q).1.maskOf = p.maskOf := by
  simp [noticeRead]

@[simp] theorem setMask_keeps (p : Part) (q : Port) (n : Nat) :
    (setMask p q n).1.prt.rx = p.prt.rx ∧ (setMask p q n).1.prt.roomId = p.prt.roomId ∧
    (setMask p q n).1.prt.tableName = p.prt.tableName ∧ (setMask p q n).1.line = p.line ∧
    (setMask p q n).1.notices = p.notices := by
  simp only [setMask]
  split <;> simp

@[simp] theorem maskRequest_keeps (p : Part) (q : Port) (n : Nat) :
    (maskRequest p q n).1.prt.rx = p.prt.rx ∧ (maskRequest p q n).1.prt.roomId = p.prt.roomId ∧
    (maskRequest p q n).1.prt.tableName = p.prt.tableName ∧ (maskRequest p q n).1.line = p.line ∧
    (maskRequest p q n).1.notices = p.notices := by
  simp [maskRequest]

@[simp] theorem resetPorts_keeps (p : Part) :
    (resetPorts p).prt.rx = p.prt.rx ∧ (resetPorts p).prt.roomId = p.prt.roomId ∧
    (resetPorts p).prt.tableName = p.prt.tableName ∧ (resetPorts p).maskOf = p.maskOf := by
  refine ⟨rfl, rfl, rfl, ?_⟩
  funext q
  cases q <;> simp [resetPorts, maskOf]

@[simp] theorem resetPower_keeps (p : Part) (o : Option Nat) :
    (resetPower p o).smn.occupied = p.smn.occupied ∧ (resetPower p o).smn.grace = p.smn.grace ∧
    (resetPower p o).flc.lead = p.flc.lead ∧ (resetPower p o).flc.nextNumber = p.flc.nextNumber ∧
    (resetPower p o).flc.seconds = p.flc.seconds ∧ (resetPower p o).flc.preset = p.flc.preset ∧
    (resetPower p o).sgu.gain = p.sgu.gain ∧ (resetPower p o).sgu.patterns = p.sgu.patterns ∧
    (resetPower p o).sgu.polarity = p.sgu.polarity ∧ (resetPower p o).sgu.refused = p.sgu.refused ∧
    (resetPower p o).sgu.blink = p.sgu.blink ∧ (resetPower p o).sgu.released = p.sgu.released ∧
    (resetPower p o).sgu.indication = p.sgu.indication ∧ (resetPower p o).sgu.bus = p.sgu.bus ∧
    (resetPower p o).rtu.presets = p.rtu.presets ∧ (resetPower p o).rtu.routable = p.rtu.routable ∧
    (resetPower p o).rtu.override = p.rtu.override ∧ (resetPower p o).sch.clock = p.sch.clock ∧
    (resetPower p o).ssu.params = p.ssu.params ∧ (resetPower p o).prt.rx = p.prt.rx ∧
    (resetPower p o).prt.roomId = p.prt.roomId ∧ (resetPower p o).prt.tableName = p.prt.tableName ∧
    (resetPower p o).pwu.lead = p.pwu.lead ∧ (resetPower p o).pwu.delay = p.pwu.delay ∧
    (resetPower p o).pwu.mask = p.pwu.mask ∧ (resetPower p o).pwu.proximityWake = p.pwu.proximityWake ∧
    (resetPower p o).line = p.line ∧ (resetPower p o).maskOf = p.maskOf := by
  simp only [resetPower]
  (repeat' split) <;> simp

@[simp] theorem tableReset_keeps (p : Part) :
    (tableReset p).smn.occupied = p.smn.occupied ∧ (tableReset p).smn.grace = p.smn.grace ∧
    (tableReset p).flc.lead = p.flc.lead ∧ (tableReset p).flc.nextNumber = p.flc.nextNumber ∧
    (tableReset p).flc.seconds = p.flc.seconds ∧ (tableReset p).flc.preset = p.flc.preset ∧
    (tableReset p).sgu.gain = p.sgu.gain ∧ (tableReset p).sgu.patterns = p.sgu.patterns ∧
    (tableReset p).sgu.polarity = p.sgu.polarity ∧ (tableReset p).sgu.refused = p.sgu.refused ∧
    (tableReset p).sgu.blink = p.sgu.blink ∧ (tableReset p).sgu.indication = p.sgu.indication ∧
    (tableReset p).sgu.bus = p.sgu.bus ∧ (tableReset p).rtu.presets = p.rtu.presets ∧
    (tableReset p).rtu.routable = p.rtu.routable ∧ (tableReset p).rtu.override = p.rtu.override ∧
    (tableReset p).sch.clock = p.sch.clock ∧ (tableReset p).ssu.params = p.ssu.params ∧
    (tableReset p).prt.rx = p.prt.rx ∧ (tableReset p).prt.roomId = p.prt.roomId ∧
    (tableReset p).prt.tableName = p.prt.tableName ∧ (tableReset p).pwu.lead = p.pwu.lead ∧
    (tableReset p).pwu.delay = p.pwu.delay ∧ (tableReset p).pwu.mask = p.pwu.mask ∧
    (tableReset p).pwu.proximityWake = p.pwu.proximityWake ∧ (tableReset p).maskOf = p.maskOf := by
  simp [tableReset]

@[simp] theorem serveRead_keeps (p : Part) (q : Port) (r : Request) :
    (serveRead p q r).1.prt.rx = p.prt.rx ∧ (serveRead p q r).1.prt.roomId = p.prt.roomId ∧
    (serveRead p q r).1.prt.tableName = p.prt.tableName ∧ (serveRead p q r).1.line = p.line := by
  simp only [serveRead]
  (repeat' split) <;> simp

@[simp] theorem serveFloor_keeps (p : Part) (r : Request) :
    (serveFloor p r).1.smn.occupied = p.smn.occupied ∧ (serveFloor p r).1.smn.grace = p.smn.grace ∧
    (serveFloor p r).1.flc.lead = p.flc.lead ∧ (serveFloor p r).1.flc.seconds = p.flc.seconds ∧
    (serveFloor p r).1.flc.preset = p.flc.preset ∧ (serveFloor p r).1.sgu.gain = p.sgu.gain ∧
    (serveFloor p r).1.sgu.patterns = p.sgu.patterns ∧ (serveFloor p r).1.sgu.polarity = p.sgu.polarity ∧
    (serveFloor p r).1.sgu.blink = p.sgu.blink ∧ (serveFloor p r).1.sgu.released = p.sgu.released ∧
    (serveFloor p r).1.sgu.indication = p.sgu.indication ∧ (serveFloor p r).1.sgu.bus = p.sgu.bus ∧
    (serveFloor p r).1.rtu.presets = p.rtu.presets ∧ (serveFloor p r).1.rtu.routable = p.rtu.routable ∧
    (serveFloor p r).1.rtu.override = p.rtu.override ∧ (serveFloor p r).1.sch.clock = p.sch.clock ∧
    (serveFloor p r).1.ssu.params = p.ssu.params ∧ (serveFloor p r).1.prt.rx = p.prt.rx ∧
    (serveFloor p r).1.prt.roomId = p.prt.roomId ∧ (serveFloor p r).1.prt.tableName = p.prt.tableName ∧
    (serveFloor p r).1.line = p.line ∧ (serveFloor p r).1.maskOf = p.maskOf := by
  simp only [serveFloor, onSeat]
  (repeat' split) <;> simp [plain]

@[simp] theorem serveRoom_keeps (p : Part) (r : Request) :
    (serveRoom p r).1.sfe.frame = p.sfe.frame ∧ (serveRoom p r).1.smn.grace = p.smn.grace ∧
    (serveRoom p r).1.flc.lead = p.flc.lead ∧ (serveRoom p r).1.flc.seconds = p.flc.seconds ∧
    (serveRoom p r).1.flc.preset = p.flc.preset ∧ (serveRoom p r).1.sgu.gain = p.sgu.gain ∧
    (serveRoom p r).1.sgu.blink = p.sgu.blink ∧ (serveRoom p r).1.sgu.indication = p.sgu.indication ∧
    (serveRoom p r).1.scu.rates = p.scu.rates ∧ (serveRoom p r).1.scu.agree = p.scu.agree ∧
    (serveRoom p r).1.scu.drop = p.scu.drop ∧ (serveRoom p r).1.scu.pc = p.scu.pc ∧
    (serveRoom p r).1.scu.codec = p.scu.codec ∧ (serveRoom p r).1.rtu.presets = p.rtu.presets ∧
    (serveRoom p r).1.ssu.params = p.ssu.params ∧ (serveRoom p r).1.prt.rx = p.prt.rx ∧
    (serveRoom p r).1.prt.roomId = p.prt.roomId ∧ (serveRoom p r).1.prt.tableName = p.prt.tableName ∧
    (serveRoom p r).1.pwu.lead = p.pwu.lead ∧ (serveRoom p r).1.pwu.delay = p.pwu.delay ∧
    (serveRoom p r).1.pwu.mask = p.pwu.mask ∧ (serveRoom p r).1.pwu.proximityWake = p.pwu.proximityWake ∧
    (serveRoom p r).1.pln.straps = p.pln.straps ∧ (serveRoom p r).1.pln.stage = p.pln.stage ∧
    (serveRoom p r).1.pln.outcome = p.pln.outcome ∧ (serveRoom p r).1.pln.corrected = p.pln.corrected ∧
    (serveRoom p r).1.pln.image = p.pln.image ∧ (serveRoom p r).1.pln.result = p.pln.result ∧
    (serveRoom p r).1.maskOf = p.maskOf := by
  simp only [serveRoom]
  (repeat' split) <;> simp [plain]

@[simp] theorem serveAv_keeps (p : Part) (r : Request) :
    (serveAv p r).1.sfe.key = p.sfe.key ∧ (serveAv p r).1.sfe.proximity = p.sfe.proximity ∧
    (serveAv p r).1.sfe.reference = p.sfe.reference ∧ (serveAv p r).1.sfe.frame = p.sfe.frame ∧
    (serveAv p r).1.sgu.patterns = p.sgu.patterns ∧ (serveAv p r).1.sgu.polarity = p.sgu.polarity ∧
    (serveAv p r).1.sgu.refused = p.sgu.refused ∧ (serveAv p r).1.sgu.blink = p.sgu.blink ∧
    (serveAv p r).1.sgu.released = p.sgu.released ∧ (serveAv p r).1.sgu.indication = p.sgu.indication ∧
    (serveAv p r).1.sgu.bus = p.sgu.bus ∧ (serveAv p r).1.rtu.presets = p.rtu.presets ∧
    (serveAv p r).1.rtu.speakers = p.rtu.speakers ∧ (serveAv p r).1.prt.rx = p.prt.rx ∧
    (serveAv p r).1.prt.roomId = p.prt.roomId ∧ (serveAv p r).1.prt.tableName = p.prt.tableName ∧
    (serveAv p r).1.pwu.lead = p.pwu.lead ∧ (serveAv p r).1.pwu.delay = p.pwu.delay ∧
    (serveAv p r).1.pwu.mask = p.pwu.mask ∧ (serveAv p r).1.pwu.proximityWake = p.pwu.proximityWake ∧
    (serveAv p r).1.line = p.line ∧ (serveAv p r).1.maskOf = p.maskOf := by
  simp only [serveAv]
  (repeat' split) <;> simp

@[simp] theorem serveOwner_keeps (p : Part) (q : Port) (r : Request) :
    (serveOwner p q r).1.sfe.frame = p.sfe.frame ∧ (serveOwner p q r).1.smn.grace = p.smn.grace ∧
    (serveOwner p q r).1.flc.lead = p.flc.lead ∧ (serveOwner p q r).1.flc.seconds = p.flc.seconds ∧
    (serveOwner p q r).1.flc.preset = p.flc.preset ∧ (serveOwner p q r).1.sgu.blink = p.sgu.blink ∧
    (serveOwner p q r).1.sgu.indication = p.sgu.indication ∧ (serveOwner p q r).1.rtu.presets = p.rtu.presets ∧
    (serveOwner p q r).1.ssu.params = p.ssu.params ∧ (serveOwner p q r).1.prt.rx = p.prt.rx ∧
    (serveOwner p q r).1.prt.roomId = p.prt.roomId ∧ (serveOwner p q r).1.prt.tableName = p.prt.tableName ∧
    (serveOwner p q r).1.pwu.lead = p.pwu.lead ∧ (serveOwner p q r).1.pwu.delay = p.pwu.delay ∧
    (serveOwner p q r).1.pwu.mask = p.pwu.mask ∧ (serveOwner p q r).1.pwu.proximityWake = p.pwu.proximityWake ∧
    (serveOwner p q r).1.pln.straps = p.pln.straps ∧ (serveOwner p q r).1.pln.stage = p.pln.stage ∧
    (serveOwner p q r).1.pln.outcome = p.pln.outcome ∧ (serveOwner p q r).1.pln.corrected = p.pln.corrected ∧
    (serveOwner p q r).1.pln.image = p.pln.image ∧ (serveOwner p q r).1.pln.result = p.pln.result := by
  simp only [serveOwner]
  (repeat' split) <;> simp

@[simp] theorem sendRoom_keeps (p : Part) (r : Response) :
    (sendRoom p r).prt.rx = p.prt.rx ∧ (sendRoom p r).prt.roomId = p.prt.roomId ∧
    (sendRoom p r).prt.tableName = p.prt.tableName ∧ (sendRoom p r).maskOf = p.maskOf ∧
    (sendRoom p r).notices = p.notices := by
  simp [sendRoom]

@[simp] theorem deliver_keeps (p : Part) (q : Port) (r : Response) :
    (deliver p q r).prt.rx = p.prt.rx ∧ (deliver p q r).prt.roomId = p.prt.roomId ∧
    (deliver p q r).prt.tableName = p.prt.tableName ∧ (deliver p q r).maskOf = p.maskOf ∧
    (deliver p q r).notices = p.notices := by
  simp only [deliver]
  (repeat' split) <;> simp

@[simp] theorem deliverServed_keeps (p : Part) (q : Port) (r : Response) :
    (deliverServed p q r).prt.rx = p.prt.rx ∧ (deliverServed p q r).prt.roomId = p.prt.roomId ∧
    (deliverServed p q r).prt.tableName = p.prt.tableName ∧ (deliverServed p q r).maskOf = p.maskOf ∧
    (deliverServed p q r).notices = p.notices := by
  simp only [deliverServed]
  (repeat' split) <;> simp

@[simp] theorem enterService_keeps (p : Part) (q : Port) (r : Request) :
    (enterService p q r).prt.rx = p.prt.rx ∧ (enterService p q r).prt.roomId = p.prt.roomId ∧
    (enterService p q r).prt.tableName = p.prt.tableName ∧ (enterService p q r).maskOf = p.maskOf ∧
    (enterService p q r).notices = p.notices := by
  simp only [enterService]
  (repeat' split) <;> simp

@[simp] theorem enterWaiting_keeps (p : Part) (q : Port) :
    (enterWaiting p q).prt.rx = p.prt.rx ∧ (enterWaiting p q).prt.roomId = p.prt.roomId ∧
    (enterWaiting p q).prt.tableName = p.prt.tableName ∧ (enterWaiting p q).maskOf = p.maskOf ∧
    (enterWaiting p q).notices = p.notices := by
  simp only [enterWaiting]
  (repeat' split) <;> simp

@[simp] theorem answer_keeps (p : Part) (q : Port) (r : Request) (x : Reply) :
    (answer p q r x).prt.rx = p.prt.rx ∧ (answer p q r x).prt.roomId = p.prt.roomId ∧
    (answer p q r x).prt.tableName = p.prt.tableName ∧ (answer p q r x).maskOf = p.maskOf ∧
    (answer p q r x).notices = p.notices := by
  simp [answer]

@[simp] theorem serveCurrent_keeps (p : Part) (q : Port) :
    (serveCurrent p q).sfe.frame = p.sfe.frame ∧ (serveCurrent p q).smn.grace = p.smn.grace ∧
    (serveCurrent p q).flc.lead = p.flc.lead ∧ (serveCurrent p q).flc.seconds = p.flc.seconds ∧
    (serveCurrent p q).flc.preset = p.flc.preset ∧ (serveCurrent p q).sgu.blink = p.sgu.blink ∧
    (serveCurrent p q).sgu.indication = p.sgu.indication ∧ (serveCurrent p q).rtu.presets = p.rtu.presets ∧
    (serveCurrent p q).ssu.params = p.ssu.params ∧ (serveCurrent p q).prt.rx = p.prt.rx ∧
    (serveCurrent p q).prt.roomId = p.prt.roomId ∧ (serveCurrent p q).prt.tableName = p.prt.tableName ∧
    (serveCurrent p q).pwu.lead = p.pwu.lead ∧ (serveCurrent p q).pwu.delay = p.pwu.delay ∧
    (serveCurrent p q).pwu.mask = p.pwu.mask ∧ (serveCurrent p q).pwu.proximityWake = p.pwu.proximityWake ∧
    (serveCurrent p q).pln.straps = p.pln.straps ∧ (serveCurrent p q).pln.stage = p.pln.stage ∧
    (serveCurrent p q).pln.outcome = p.pln.outcome ∧ (serveCurrent p q).pln.corrected = p.pln.corrected ∧
    (serveCurrent p q).pln.image = p.pln.image ∧ (serveCurrent p q).pln.result = p.pln.result := by
  simp only [serveCurrent]
  (repeat' split) <;> simp

@[simp] theorem portReset_keeps (p : Part) (q : Port) (tag : Byte) :
    (portReset p q tag).prt.rx = p.prt.rx ∧ (portReset p q tag).prt.roomId = p.prt.roomId ∧
    (portReset p q tag).prt.tableName = p.prt.tableName := by
  simp only [portReset]
  (repeat' split) <;> simp

@[simp] theorem discardPending_keeps (p : Part) (q : Port) :
    (discardPending p q).prt.rx = p.prt.rx ∧ (discardPending p q).prt.roomId = p.prt.roomId ∧
    (discardPending p q).prt.tableName = p.prt.tableName ∧ (discardPending p q).maskOf = p.maskOf ∧
    (discardPending p q).notices = p.notices := by
  simp [discardPending]

@[simp] theorem placeRequest_keeps (p : Part) (q : Port) (r : Request) :
    (placeRequest p q r).prt.rx = p.prt.rx ∧ (placeRequest p q r).prt.roomId = p.prt.roomId ∧
    (placeRequest p q r).prt.tableName = p.prt.tableName ∧ (placeRequest p q r).maskOf = p.maskOf ∧
    (placeRequest p q r).notices = p.notices := by
  simp only [placeRequest]
  (repeat' split) <;> simp

@[simp] theorem refuseReset_keeps (p : Part) (q : Port) (x : Response) :
    (refuseReset p q x).prt.rx = p.prt.rx ∧ (refuseReset p q x).prt.roomId = p.prt.roomId ∧
    (refuseReset p q x).prt.tableName = p.prt.tableName ∧ (refuseReset p q x).maskOf = p.maskOf ∧
    (refuseReset p q x).notices = p.notices := by
  simp only [refuseReset]
  (repeat' split) <;> simp

@[simp] theorem takeReset_keeps (p : Part) (q : Port) (r : Request) :
    (takeReset p q r).prt.rx = p.prt.rx ∧ (takeReset p q r).prt.roomId = p.prt.roomId ∧
    (takeReset p q r).prt.tableName = p.prt.tableName := by
  simp only [takeReset]
  (repeat' split) <;> simp

@[simp] theorem takeRequest_keeps (p : Part) (q : Port) (r : Request) :
    (takeRequest p q r).sfe.frame = p.sfe.frame ∧ (takeRequest p q r).smn.grace = p.smn.grace ∧
    (takeRequest p q r).flc.lead = p.flc.lead ∧ (takeRequest p q r).flc.seconds = p.flc.seconds ∧
    (takeRequest p q r).flc.preset = p.flc.preset ∧ (takeRequest p q r).sgu.blink = p.sgu.blink ∧
    (takeRequest p q r).sgu.indication = p.sgu.indication ∧ (takeRequest p q r).rtu.presets = p.rtu.presets ∧
    (takeRequest p q r).ssu.params = p.ssu.params ∧ (takeRequest p q r).prt.rx = p.prt.rx ∧
    (takeRequest p q r).prt.roomId = p.prt.roomId ∧ (takeRequest p q r).prt.tableName = p.prt.tableName ∧
    (takeRequest p q r).pwu.lead = p.pwu.lead ∧ (takeRequest p q r).pwu.delay = p.pwu.delay ∧
    (takeRequest p q r).pwu.mask = p.pwu.mask ∧ (takeRequest p q r).pwu.proximityWake = p.pwu.proximityWake ∧
    (takeRequest p q r).pln.straps = p.pln.straps ∧ (takeRequest p q r).pln.stage = p.pln.stage ∧
    (takeRequest p q r).pln.outcome = p.pln.outcome ∧ (takeRequest p q r).pln.corrected = p.pln.corrected ∧
    (takeRequest p q r).pln.image = p.pln.image ∧ (takeRequest p q r).pln.result = p.pln.result := by
  simp only [takeRequest]
  (repeat' split) <;> simp

@[simp] theorem clearSent_keeps (p : Part) (q : Port) :
    (clearSent p q).prt.rx = p.prt.rx ∧ (clearSent p q).prt.roomId = p.prt.roomId ∧
    (clearSent p q).prt.tableName = p.prt.tableName ∧ (clearSent p q).maskOf = p.maskOf ∧
    (clearSent p q).notices = p.notices := by
  simp [clearSent]

@[simp] theorem requestRow_keeps (p : Part) (q : Port) (r : Request) :
    (requestRow p q r).sfe.frame = p.sfe.frame ∧ (requestRow p q r).smn.grace = p.smn.grace ∧
    (requestRow p q r).flc.lead = p.flc.lead ∧ (requestRow p q r).flc.seconds = p.flc.seconds ∧
    (requestRow p q r).flc.preset = p.flc.preset ∧ (requestRow p q r).sgu.blink = p.sgu.blink ∧
    (requestRow p q r).sgu.indication = p.sgu.indication ∧ (requestRow p q r).rtu.presets = p.rtu.presets ∧
    (requestRow p q r).ssu.params = p.ssu.params ∧ (requestRow p q r).prt.rx = p.prt.rx ∧
    (requestRow p q r).prt.roomId = p.prt.roomId ∧ (requestRow p q r).prt.tableName = p.prt.tableName ∧
    (requestRow p q r).pwu.lead = p.pwu.lead ∧ (requestRow p q r).pwu.delay = p.pwu.delay ∧
    (requestRow p q r).pwu.mask = p.pwu.mask ∧ (requestRow p q r).pwu.proximityWake = p.pwu.proximityWake ∧
    (requestRow p q r).pln.straps = p.pln.straps ∧ (requestRow p q r).pln.stage = p.pln.stage ∧
    (requestRow p q r).pln.outcome = p.pln.outcome ∧ (requestRow p q r).pln.corrected = p.pln.corrected ∧
    (requestRow p q r).pln.image = p.pln.image ∧ (requestRow p q r).pln.result = p.pln.result := by
  simp only [requestRow]
  (repeat' split) <;> simp

@[simp] theorem shiftOut_keeps (p : Part) (q : SerialPort) (n : Nat) :
    (shiftOut p q n).prt.rx = p.prt.rx ∧ (shiftOut p q n).prt.roomId = p.prt.roomId ∧
    (shiftOut p q n).prt.tableName = p.prt.tableName ∧ (shiftOut p q n).maskOf = p.maskOf ∧
    (shiftOut p q n).notices = p.notices := by
  simp only [shiftOut]
  (repeat' split) <;> simp

@[simp] theorem transfer_keeps (p : Part) (q : SerialPort) (l : List Byte) :
    (transfer p q l).sfe.frame = p.sfe.frame ∧ (transfer p q l).smn.grace = p.smn.grace ∧
    (transfer p q l).flc.lead = p.flc.lead ∧ (transfer p q l).flc.seconds = p.flc.seconds ∧
    (transfer p q l).flc.preset = p.flc.preset ∧ (transfer p q l).sgu.blink = p.sgu.blink ∧
    (transfer p q l).sgu.indication = p.sgu.indication ∧ (transfer p q l).rtu.presets = p.rtu.presets ∧
    (transfer p q l).ssu.params = p.ssu.params ∧ (transfer p q l).prt.rx = p.prt.rx ∧
    (transfer p q l).prt.roomId = p.prt.roomId ∧ (transfer p q l).prt.tableName = p.prt.tableName ∧
    (transfer p q l).pwu.lead = p.pwu.lead ∧ (transfer p q l).pwu.delay = p.pwu.delay ∧
    (transfer p q l).pwu.mask = p.pwu.mask ∧ (transfer p q l).pwu.proximityWake = p.pwu.proximityWake ∧
    (transfer p q l).pln.straps = p.pln.straps ∧ (transfer p q l).pln.stage = p.pln.stage ∧
    (transfer p q l).pln.outcome = p.pln.outcome ∧ (transfer p q l).pln.corrected = p.pln.corrected ∧
    (transfer p q l).pln.image = p.pln.image ∧ (transfer p q l).pln.result = p.pln.result := by
  simp only [transfer]
  (repeat' split) <;> simp

@[simp] theorem readResponse_keeps (p : Part) (q : SerialPort) (n : Nat) :
    (readResponse p q n).prt.rx = p.prt.rx ∧ (readResponse p q n).prt.roomId = p.prt.roomId ∧
    (readResponse p q n).prt.tableName = p.prt.tableName ∧ (readResponse p q n).maskOf = p.maskOf ∧
    (readResponse p q n).notices = p.notices := by
  simp only [readResponse]
  (repeat' split) <;> simp

@[simp] theorem setReceiver_keeps (p : Part) (x : Receiver) :
    (setReceiver p x).prt.ports = p.prt.ports ∧ (setReceiver p x).prt.roomId = p.prt.roomId ∧
    (setReceiver p x).prt.tableName = p.prt.tableName ∧ (setReceiver p x).line = p.line ∧
    (setReceiver p x).maskOf = p.maskOf ∧ (setReceiver p x).notices = p.notices := by
  exact ⟨rfl, rfl, rfl, rfl, rfl, rfl⟩

@[simp] theorem roomByte_keeps (p : Part) (b : Byte) :
    (roomByte p b).sfe.frame = p.sfe.frame ∧ (roomByte p b).smn.grace = p.smn.grace ∧
    (roomByte p b).flc.lead = p.flc.lead ∧ (roomByte p b).flc.seconds = p.flc.seconds ∧
    (roomByte p b).flc.preset = p.flc.preset ∧ (roomByte p b).sgu.blink = p.sgu.blink ∧
    (roomByte p b).sgu.indication = p.sgu.indication ∧ (roomByte p b).rtu.presets = p.rtu.presets ∧
    (roomByte p b).ssu.params = p.ssu.params ∧ (roomByte p b).prt.roomId = p.prt.roomId ∧
    (roomByte p b).prt.tableName = p.prt.tableName ∧ (roomByte p b).pwu.lead = p.pwu.lead ∧
    (roomByte p b).pwu.delay = p.pwu.delay ∧ (roomByte p b).pwu.mask = p.pwu.mask ∧
    (roomByte p b).pwu.proximityWake = p.pwu.proximityWake ∧ (roomByte p b).pln.straps = p.pln.straps ∧
    (roomByte p b).pln.stage = p.pln.stage ∧ (roomByte p b).pln.outcome = p.pln.outcome ∧
    (roomByte p b).pln.corrected = p.pln.corrected ∧ (roomByte p b).pln.image = p.pln.image ∧
    (roomByte p b).pln.result = p.pln.result := by
  simp only [roomByte]
  (repeat' split) <;> simp

@[simp] theorem roomBytes_keeps (p : Part) (l : List Byte) :
    (roomBytes p l).sfe.frame = p.sfe.frame ∧ (roomBytes p l).smn.grace = p.smn.grace ∧
    (roomBytes p l).flc.lead = p.flc.lead ∧ (roomBytes p l).flc.seconds = p.flc.seconds ∧
    (roomBytes p l).flc.preset = p.flc.preset ∧ (roomBytes p l).sgu.blink = p.sgu.blink ∧
    (roomBytes p l).sgu.indication = p.sgu.indication ∧ (roomBytes p l).rtu.presets = p.rtu.presets ∧
    (roomBytes p l).ssu.params = p.ssu.params ∧ (roomBytes p l).prt.roomId = p.prt.roomId ∧
    (roomBytes p l).prt.tableName = p.prt.tableName ∧ (roomBytes p l).pwu.lead = p.pwu.lead ∧
    (roomBytes p l).pwu.delay = p.pwu.delay ∧ (roomBytes p l).pwu.mask = p.pwu.mask ∧
    (roomBytes p l).pwu.proximityWake = p.pwu.proximityWake ∧ (roomBytes p l).pln.straps = p.pln.straps ∧
    (roomBytes p l).pln.stage = p.pln.stage ∧ (roomBytes p l).pln.outcome = p.pln.outcome ∧
    (roomBytes p l).pln.corrected = p.pln.corrected ∧ (roomBytes p l).pln.image = p.pln.image ∧
    (roomBytes p l).pln.result = p.pln.result := by
  simp [roomBytes]

@[simp] theorem dropFrame_keeps (p : Part) :
    (dropFrame p).prt.ports = p.prt.ports ∧ (dropFrame p).prt.roomId = p.prt.roomId ∧
    (dropFrame p).prt.tableName = p.prt.tableName ∧ (dropFrame p).line = p.line ∧ (dropFrame p).maskOf = p.maskOf ∧
    (dropFrame p).notices = p.notices := by
  simp [dropFrame]

@[simp] theorem conclude_keeps (before after : Part) :
    (conclude before after).smn.occupied = after.smn.occupied ∧ (conclude before after).smn.grace = after.smn.grace ∧
    (conclude before after).flc.lead = after.flc.lead ∧
    (conclude before after).flc.nextNumber = after.flc.nextNumber ∧
    (conclude before after).flc.seconds = after.flc.seconds ∧ (conclude before after).flc.preset = after.flc.preset ∧
    (conclude before after).sgu.gain = after.sgu.gain ∧ (conclude before after).sgu.patterns = after.sgu.patterns ∧
    (conclude before after).sgu.polarity = after.sgu.polarity ∧
    (conclude before after).sgu.refused = after.sgu.refused ∧ (conclude before after).sgu.blink = after.sgu.blink ∧
    (conclude before after).sgu.released = after.sgu.released ∧ (conclude before after).sgu.bus = after.sgu.bus ∧
    (conclude before after).rtu.presets = after.rtu.presets ∧
    (conclude before after).rtu.routable = after.rtu.routable ∧
    (conclude before after).rtu.override = after.rtu.override ∧ (conclude before after).sch.clock = after.sch.clock ∧
    (conclude before after).ssu.params = after.ssu.params ∧ (conclude before after).prt.rx = after.prt.rx ∧
    (conclude before after).prt.roomId = after.prt.roomId ∧
    (conclude before after).prt.tableName = after.prt.tableName ∧ (conclude before after).line = after.line ∧
    (conclude before after).maskOf = after.maskOf := by
  simp [conclude]

@[simp] theorem freePhase_keeps (p : Part) (k : SlotId) :
    (freePhase p k).smn.occupied = p.smn.occupied ∧ (freePhase p k).smn.grace = p.smn.grace ∧
    (freePhase p k).flc.lead = p.flc.lead ∧ (freePhase p k).flc.nextNumber = p.flc.nextNumber ∧
    (freePhase p k).flc.seconds = p.flc.seconds ∧ (freePhase p k).flc.preset = p.flc.preset ∧
    (freePhase p k).sgu.gain = p.sgu.gain ∧ (freePhase p k).sgu.patterns = p.sgu.patterns ∧
    (freePhase p k).sgu.polarity = p.sgu.polarity ∧ (freePhase p k).sgu.refused = p.sgu.refused ∧
    (freePhase p k).sgu.blink = p.sgu.blink ∧ (freePhase p k).sgu.indication = p.sgu.indication ∧
    (freePhase p k).sgu.bus = p.sgu.bus ∧ (freePhase p k).rtu.presets = p.rtu.presets ∧
    (freePhase p k).rtu.routable = p.rtu.routable ∧ (freePhase p k).rtu.override = p.rtu.override ∧
    (freePhase p k).sch.clock = p.sch.clock ∧ (freePhase p k).ssu.params = p.ssu.params ∧
    (freePhase p k).prt.rx = p.prt.rx ∧ (freePhase p k).prt.roomId = p.prt.roomId ∧
    (freePhase p k).prt.tableName = p.prt.tableName ∧ (freePhase p k).line = p.line ∧
    (freePhase p k).maskOf = p.maskOf := by
  simp only [freePhase]
  (repeat' split) <;> simp

@[simp] theorem gainFrame_keeps (p : Part) (first : List SlotId) (settlesLast : Bool) :
    (gainFrame p first settlesLast).smn.occupied = p.smn.occupied ∧
    (gainFrame p first settlesLast).smn.grace = p.smn.grace ∧ (gainFrame p first settlesLast).flc.lead = p.flc.lead ∧
    (gainFrame p first settlesLast).flc.nextNumber = p.flc.nextNumber ∧
    (gainFrame p first settlesLast).flc.seconds = p.flc.seconds ∧
    (gainFrame p first settlesLast).flc.preset = p.flc.preset ∧
    (gainFrame p first settlesLast).sgu.gain = p.sgu.gain ∧
    (gainFrame p first settlesLast).sgu.patterns = p.sgu.patterns ∧
    (gainFrame p first settlesLast).sgu.polarity = p.sgu.polarity ∧
    (gainFrame p first settlesLast).sgu.indication = p.sgu.indication ∧
    (gainFrame p first settlesLast).rtu.presets = p.rtu.presets ∧
    (gainFrame p first settlesLast).rtu.routable = p.rtu.routable ∧
    (gainFrame p first settlesLast).rtu.override = p.rtu.override ∧
    (gainFrame p first settlesLast).sch.clock = p.sch.clock ∧
    (gainFrame p first settlesLast).ssu.params = p.ssu.params ∧ (gainFrame p first settlesLast).prt.rx = p.prt.rx ∧
    (gainFrame p first settlesLast).prt.roomId = p.prt.roomId ∧
    (gainFrame p first settlesLast).prt.tableName = p.prt.tableName ∧ (gainFrame p first settlesLast).line = p.line ∧
    (gainFrame p first settlesLast).maskOf = p.maskOf := by
  simp only [gainFrame]
  (repeat' split) <;> simp

@[simp] theorem settleComplete_keeps (p : Part) :
    (settleComplete p).smn.occupied = p.smn.occupied ∧ (settleComplete p).smn.grace = p.smn.grace ∧
    (settleComplete p).flc.lead = p.flc.lead ∧ (settleComplete p).flc.nextNumber = p.flc.nextNumber ∧
    (settleComplete p).flc.seconds = p.flc.seconds ∧ (settleComplete p).flc.preset = p.flc.preset ∧
    (settleComplete p).sgu.gain = p.sgu.gain ∧ (settleComplete p).sgu.patterns = p.sgu.patterns ∧
    (settleComplete p).sgu.polarity = p.sgu.polarity ∧ (settleComplete p).sgu.refused = p.sgu.refused ∧
    (settleComplete p).sgu.blink = p.sgu.blink ∧ (settleComplete p).sgu.released = p.sgu.released ∧
    (settleComplete p).sgu.indication = p.sgu.indication ∧ (settleComplete p).sgu.bus = p.sgu.bus ∧
    (settleComplete p).rtu.presets = p.rtu.presets ∧ (settleComplete p).rtu.routable = p.rtu.routable ∧
    (settleComplete p).rtu.override = p.rtu.override ∧ (settleComplete p).sch.clock = p.sch.clock ∧
    (settleComplete p).ssu.params = p.ssu.params ∧ (settleComplete p).prt.rx = p.prt.rx ∧
    (settleComplete p).prt.roomId = p.prt.roomId ∧ (settleComplete p).prt.tableName = p.prt.tableName ∧
    (settleComplete p).pwu.quiet = p.pwu.quiet ∧ (settleComplete p).pwu.lead = p.pwu.lead ∧
    (settleComplete p).pwu.delay = p.pwu.delay ∧ (settleComplete p).pwu.mask = p.pwu.mask ∧
    (settleComplete p).pwu.proximityWake = p.pwu.proximityWake ∧ (settleComplete p).line = p.line ∧
    (settleComplete p).maskOf = p.maskOf := by
  simp only [settleComplete]
  (repeat' split) <;> simp

@[simp] theorem requestTransfer_keeps (p : Part) (q : SerialPort) (bytes : List Byte) :
    (requestTransfer p q bytes).sfe.frame = p.sfe.frame ∧ (requestTransfer p q bytes).smn.grace = p.smn.grace ∧
    (requestTransfer p q bytes).flc.lead = p.flc.lead ∧ (requestTransfer p q bytes).flc.seconds = p.flc.seconds ∧
    (requestTransfer p q bytes).flc.preset = p.flc.preset ∧ (requestTransfer p q bytes).sgu.blink = p.sgu.blink ∧
    (requestTransfer p q bytes).sgu.indication = p.sgu.indication ∧
    (requestTransfer p q bytes).rtu.presets = p.rtu.presets ∧ (requestTransfer p q bytes).ssu.params = p.ssu.params ∧
    (requestTransfer p q bytes).prt.rx = p.prt.rx ∧ (requestTransfer p q bytes).prt.roomId = p.prt.roomId ∧
    (requestTransfer p q bytes).prt.tableName = p.prt.tableName ∧ (requestTransfer p q bytes).pwu.lead = p.pwu.lead ∧
    (requestTransfer p q bytes).pwu.delay = p.pwu.delay ∧ (requestTransfer p q bytes).pwu.mask = p.pwu.mask ∧
    (requestTransfer p q bytes).pwu.proximityWake = p.pwu.proximityWake ∧
    (requestTransfer p q bytes).pln.straps = p.pln.straps ∧ (requestTransfer p q bytes).pln.stage = p.pln.stage ∧
    (requestTransfer p q bytes).pln.outcome = p.pln.outcome ∧
    (requestTransfer p q bytes).pln.corrected = p.pln.corrected ∧
    (requestTransfer p q bytes).pln.image = p.pln.image ∧ (requestTransfer p q bytes).pln.result = p.pln.result := by
  simp only [requestTransfer]
  (repeat' split) <;> simp

end Sys2Proof.Machine.Part
end

