-- ==== Sys2Proof/Laws/Requests.lean ====
section
/-! SUPPORT. What every event ends with, and what the serving of a request comes to on a port that listens: the owner's
answer is given, and nothing but the ports' records changes besides what the owner does. -/

namespace Sys2Proof.Machine

namespace Part

/-! ### The end of an event -/

theorem drivenBy_eq {p t : Part} (h : t.rtu = p.rtu) (k : ScreenId) : t.drivenBy k = p.drivenBy k := by
  simp [drivenBy, screen, h]

theorem walkInReady_eq {p t : Part} (h : t.ssu = p.ssu) (h' : t.smn.occupied = p.smn.occupied) :
    t.walkInReady = p.walkInReady := by
  simp [walkInReady, sessionOpen, h, h']

/-- The dwell timer's part of an event's end changes nothing when the event leaves SSU and the occupied count. -/
theorem concludeDwell_settled {p t : Part} (h : Settled p) (h1 : t.ssu = p.ssu)
    (h2 : t.smn.occupied = p.smn.occupied) : concludeDwell p t = t := by
  have hw := walkInReady_eq h1 h2
  rcases h.2 with hr | hd
  · simp [concludeDwell, hw, hr]
  · by_cases hr : p.walkInReady
    · simp [concludeDwell, hw, hr]
    · have : ({ t.ssu with dwell := 0 } : Ssu) = t.ssu := by rw [h1, ← hd]
      simp [concludeDwell, hw, hr, this]
      rfl

/-- What the drive makes of a screen: it is left where its driven source stands, and settles where that changes (R132, R133). -/
theorem driveScreens_screen (p : Part) (k : ScreenId) :
    p.driveScreens.screen k =
      if p.drivenBy k = (p.screen k).driven then p.screen k else startSettle (p.screen k) (p.drivenBy k) := by
  by_cases h : p.drivenBy k = (p.screen k).driven <;> simp_all [driveScreens, screen]

/-- What the count of a gain frame makes of a screen: a settle in progress has a frame less to go (R133). -/
theorem countSettles_screen (p : Part) (k : ScreenId) :
    p.countSettles.screen k =
      if (p.screen k).settle = .settling then { p.screen k with timer := (p.screen k).timer - 1 } else p.screen k := by
  by_cases h : (p.screen k).settle = .settling <;> simp_all [countSettles, screen]

/-- A screen table driven as R132 says is left by the drive. -/
theorem driveScreens_settled {t : Part} (h : ∀ k, (t.screen k).driven = t.drivenBy k) : t.driveScreens = t := by
  have : mapTable (fun k x => if t.drivenBy k = x.driven then x else startSettle x (t.drivenBy k)) t.rtu.screens =
      t.rtu.screens := by
    apply Vector.ext
    intro i hi
    have hk := h ⟨i, hi⟩
    simp only [screen, Vector.get_eq_getElem] at hk
    simp [mapTable, Vector.get_eq_getElem, hk]
  simp only [driveScreens, this]
  rfl

/-- The routing part of an event's end changes nothing when the event leaves RTU. -/
theorem concludeRouting_settled {p t : Part} (h : Settled p) (h1 : t.rtu = p.rtu) : concludeRouting p t = t := by
  have hs : ∀ k, t.screen k = p.screen k := fun k => by simp [screen, h1]
  have hc : routeChanged p t = false := by simp [routeChanged, hs]
  have hd : ∀ k, (t.screen k).driven = t.drivenBy k := fun k => by
    rw [hs, drivenBy_eq h1]; exact h.1 k
  simp [concludeRouting, hc, noticeIf, driveScreens_settled hd]

/-- An event that leaves SSU, the occupied count and RTU ends with the outputs alone. -/
theorem conclude_settled {p t : Part} (h : Settled p) (h1 : t.ssu = p.ssu) (h2 : t.smn.occupied = p.smn.occupied)
    (h3 : t.rtu = p.rtu) : conclude p t = t.drivePins := by
  simp [conclude, concludeDwell_settled h h1 h2, concludeRouting_settled h h3]

/-- An event that leaves SSU and the occupied count ends with the screens and the outputs. -/
theorem conclude_quiet {p t : Part} (h : Settled p) (h1 : t.ssu = p.ssu) (h2 : t.smn.occupied = p.smn.occupied) :
    conclude p t = (concludeRouting p t).drivePins := by
  simp [conclude, concludeDwell_settled h h1 h2]

/-- A running part takes events. -/
theorem event_running {p : Part} (h : p.pln.stage = .running) (f : Part → Part) : event f p = conclude p (f p) := by
  simp [event, isHeld, h]

/-! ### Requests -/

/-- A port with the request in service that it has just taken. -/
def taken (p : Part) (q : Port) (r : Request) : Part :=
  p.setPort q { p.port q with sent := [], acks := [], pending := none, inService := some r }

/-- A part in which a request has been answered. -/
def replied (p : Part) (q : Port) (r : Response) : Part :=
  (p.setPort q { p.port q with inService := none }).deliver q r

@[simp] theorem taken_blocks (p : Part) (q : Port) (r : Request) :
    (p.taken q r).sfe = p.sfe ∧ (p.taken q r).smn = p.smn ∧ (p.taken q r).flc = p.flc ∧ (p.taken q r).sgu = p.sgu ∧
    (p.taken q r).scu = p.scu ∧ (p.taken q r).rtu = p.rtu ∧ (p.taken q r).sch = p.sch ∧ (p.taken q r).ssu = p.ssu ∧
    (p.taken q r).pwu = p.pwu ∧ (p.taken q r).pln = p.pln ∧ (p.taken q r).pins = p.pins ∧
    (p.taken q r).prt.rx = p.prt.rx ∧ (p.taken q r).prt.roomId = p.prt.roomId ∧
    (p.taken q r).prt.tableName = p.prt.tableName ∧ (p.taken q r).maskOf = p.maskOf ∧
    (p.taken q r).notices = p.notices := by
  simp [taken]

@[simp] theorem replied_blocks (p : Part) (q : Port) (r : Response) :
    (p.replied q r).sfe = p.sfe ∧ (p.replied q r).smn = p.smn ∧ (p.replied q r).flc = p.flc ∧
    (p.replied q r).sgu = p.sgu ∧ (p.replied q r).scu = p.scu ∧ (p.replied q r).rtu = p.rtu ∧
    (p.replied q r).sch = p.sch ∧ (p.replied q r).ssu = p.ssu ∧ (p.replied q r).pwu = p.pwu ∧
    (p.replied q r).pln = p.pln ∧ (p.replied q r).pins = p.pins ∧
    (p.replied q r).prt.rx = p.prt.rx ∧ (p.replied q r).prt.roomId = p.prt.roomId ∧
    (p.replied q r).prt.tableName = p.prt.tableName ∧ (p.replied q r).maskOf = p.maskOf ∧
    (p.replied q r).notices = p.notices := by
  simp [replied]

theorem setPort_self (p : Part) (q : Port) : p.setPort q (p.port q) = p := by
  have : setEntry p.prt.ports (portIdx q) (p.prt.ports.get (portIdx q)) = p.prt.ports := by
    apply Vector.ext
    intro i hi
    simp only [setEntry, Vector.getElem_set, Vector.get_eq_getElem]
    split
    · subst_vars; rfl
    · rfl
  simp only [setPort, port, this]
  rfl

theorem setPort_setPort (p : Part) (q : Port) (x y : PortRecord) : (p.setPort q x).setPort q y = p.setPort q y := by
  have : setEntry (setEntry p.prt.ports (portIdx q) x) (portIdx q) y = setEntry p.prt.ports (portIdx q) y := by
    simp [setEntry]
  simp only [setPort, withPrt_prt, this]
  rfl

theorem wake_running {p : Part} (h : p.pwu.power ≠ .standby) : p.wake = p := by simp [wake, h]

@[simp] theorem setPort_checkRequest (p : Part) (q a : Port) (x : PortRecord) (r : Request) :
    (p.setPort q x).checkRequest a r = p.checkRequest a r := by
  simp only [checkRequest, stageAnswer, setPort_pln]

theorem taken_port (p : Part) (q : Port) (r : Request) :
    (p.taken q r).port q = { p.port q with sent := [], acks := [], pending := none, inService := some r } := by simp [taken]

/-- The request in service of a listening port is answered. -/
theorem answer_listening {p : Part} {q : Port} {r : Request} {x : Status × List Byte}
    (hw : (p.port q).waiting = none) (hd : (p.port q).dropAnswer = false) (hh : (p.port q).heldBack = []) :
    p.answer q r x = p.replied q ⟨r.tag, x.1, framesOf r.code x.2⟩ := by
  cases q <;>
  · simp only [answer, deliverServed, setPort_port_self, hd, hh, List.foldl_nil, Bool.false_eq_true, if_false]
    simp only [deliver, sendRoom, setPort_port_self, setPort_setPort, replied, hh, hd, enterWaiting, hw]

/-- A request that a listening port takes is served and answered at that event. -/
theorem requestRow_listening {p : Part} {q : Port} {r : Request} (h : Listening p q)
    (hc : p.checkRequest q r = none) (hr : r.code ≠ portResetCode)
    (hw : (((p.taken q r).serveOwner q r).1.port q).waiting = none)
    (hd : (((p.taken q r).serveOwner q r).1.port q).dropAnswer = false)
    (hh : (((p.taken q r).serveOwner q r).1.port q).heldBack = []) :
    p.requestRow q r =
      ((p.taken q r).serveOwner q r).1.replied q
        ⟨r.tag, ((p.taken q r).serveOwner q r).2.1, framesOf r.code ((p.taken q r).serveOwner q r).2.2⟩ := by
  obtain ⟨⟨h1, h2⟩, h3, h4, h5, h6⟩ := h
  have e1 : ((p.clearSent q).port q).inService = none := by simp [clearSent, h3]
  have e2 : (p.clearSent q).roomFull q = false := by simp [roomFull, e1]
  have e3 : (p.clearSent q).pwu.power ≠ .standby := by simpa using h2
  have e6 : (p.clearSent q).takeRequest q r = p.taken q r := by
    simp only [takeRequest, hr, e2, e3, Bool.false_eq_true, if_false]
    simp [placeRequest, h3, enterService, hc, setPort_setPort, taken, discardPending, clearSent]
  have e7 : ((p.taken q r).port q).inService = some r := by simp [taken_port]
  have e8 : (p.taken q r).wake = p.taken q r := wake_running (by simpa using h2)
  simp only [requestRow, e1, e6, e7, reduceCtorEq, if_false, if_true, serveCurrent, e8]
  exact answer_listening hw hd hh

/-- What a request transfer gives out stands in the port's record, which is else as it was. -/
theorem shiftOut_port (p : Part) (q : SerialPort) (n : Nat) :
    (p.shiftOut q n).port (portOf q) = { p.port (portOf q) with
      sent := if q = .chair then [List.replicate n 0] else []
      acks := if q = .chair then [] else writeAcks n } := by
  cases q <;> simp [shiftOut, portOf]

/-- A transfer of fewer than three bytes does nothing. -/
theorem transfer_short {p : Part} {q : SerialPort} {l : List Byte} (h : l.length < 3) : p.transfer q l = p := by
  match l, h with
  | [], _ => rfl
  | [_], _ => rfl
  | [_, _], _ => rfl

/-- A PORT RESET that a port takes is served, or answered with the status of the check that it fails. -/
theorem takeReset_cases (p : Part) (q : Port) (r : Request) :
    (p.checkRequest q r = none ∧ p.takeReset q r = p.portReset q r.tag) ∨
      ∃ st, p.checkRequest q r = some st ∧ p.takeReset q r = p.refuseReset q (checkResponse r st) := by
  cases h : p.checkRequest q r with
  | none => exact .inl ⟨rfl, by simp [takeReset, h]⟩
  | some st => exact .inr ⟨st, rfl, by simp [takeReset, h]⟩

/-- A request taken while one is in service waits, and the pending response is discarded. -/
theorem placeRequest_busy {p : Part} {q : Port} (h : (p.port q).inService ≠ none) (r : Request) :
    p.placeRequest q r = p.setPort q { p.port q with pending := none, waiting := some r } := by
  have h' : (p.port q).inService.isSome = true := by
    cases e : (p.port q).inService with
    | none => exact absurd e h
    | some _ => rfl
  simp [placeRequest, discardPending, h', setPort_setPort]

end Part

end Sys2Proof.Machine
end

