-- ==== Sys2Proof/WellFormed.lean ====
section
/-! DEFINITION. Which commands are well formed: operands that the pins, the time bases and the ports can produce. A meaning
exists for every command; the checks here rule out operands that no event carries. -/

namespace Sys2Proof

/-- A list names each member at most once. -/
def namesOnce [DecidableEq α] : List α → Bool
  | [] => true
  | x :: xs => !xs.contains x && namesOnce xs

/-- What the EEPROM gave is well formed: an image that was read in full has 512 bytes (R3). -/
def EepromRead.wf : EepromRead → Bool
  | .image l => l.length = 512
  | _ => true

/-- A tag of a request: a room link master does not use 7Eh (R184). -/
def tagWf (port : Port) (tag : Byte) : Bool := port ≠ .room || tag ≠ 0x7E

/-- A request transfer of the chair port does not begin with 00h, which would make it a response read (R183). -/
def transferWf (port : SerialPort) (bytes : List Byte) : Bool := port ≠ .chair || bytes.head? ≠ some 0

/-- Well-formedness of a command. -/
def Instr.wf : Instr → Bool
  | .powerOnResetRelease _ => true
  | .resetPinAssert => true
  | .resetPinRelease _ => true
  | .loadEnd e => e.wf
  | .sensingFrame readings first _ => readings.length = 41 && namesOnce first
  | .haltLimitReseed c => c.val ≠ 40
  | .bandCheckRetuneStart _ => true
  | .retuneCompletion _ => true
  | .absenceGraceExpiry _ => true
  | .chairNext => true
  | .gainFrame first _ => namesOnce first
  | .refusedTimerExpiry _ => true
  | .edgeTaken _ _ _ _ _ => true
  | .captureOverflow _ => true
  | .settleEnd _ => true
  | .secondEvent first => namesOnce first
  | .checkCompletion => true
  | .awaitWindowExpiry => true
  | .vacancyTimeout => true
  | .walkInDwellExpiry => true
  | .quietTimerExpiry => true
  | .settleComplete => true
  | .saveReadBackMatch => true
  | .saveWriteFailure => true
  | .requestTransfer port bytes => transferWf port bytes
  | .responseRead _ _ => true
  | .roomLinkFrame _ => true
  | .roomLinkGapTimeout => true
  | .requestEntersService _ => true
  | .ident port tag => tagWf port tag
  | .floorRead port tag => tagWf port tag
  | .seatRead port tag _ => tagWf port tag
  | .channelRead port tag _ => tagWf port tag
  | .sourceRead port tag _ => tagWf port tag
  | .routeRead port tag _ => tagWf port tag
  | .clockRead port tag => tagWf port tag
  | .bankRead port tag _ _ => tagWf port tag
  | .sessionRead port tag => tagWf port tag
  | .noticeRead port tag => tagWf port tag
  | .noticeMask port tag _ => tagWf port tag
  | .portReset port tag => tagWf port tag
  | .grant port tag _ => tagWf port tag
  | .grantNext port tag => tagWf port tag
  | .close port tag _ => tagWf port tag
  | .cancel port tag _ => tagWf port tag
  | .cancelAll port tag => tagWf port tag
  | .muteAll port tag => tagWf port tag
  | .setMode port tag _ => tagWf port tag
  | .setLimit port tag _ => tagWf port tag
  | .setSpeakLimit port tag _ _ => tagWf port tag
  | .press port tag _ => tagWf port tag
  | .endSession port tag => tagWf port tag
  | .clockSet port tag _ _ _ => tagWf port tag
  | .bankOpen port tag _ _ _ => tagWf port tag
  | .bookingEntry port tag _ => tagWf port tag
  | .bankPublish port tag => tagWf port tag
  | .bankAbandon port tag => tagWf port tag
  | .bookingCancel port tag _ => tagWf port tag
  | .extend port tag _ => tagWf port tag
  | .summaryRead port tag _ => tagWf port tag
  | .summaryRelease port tag _ => tagWf port tag
  | .profileSet port tag _ _ => tagWf port tag
  | .patternSet port tag _ _ _ _ => tagWf port tag
  | .polaritySet port tag _ _ _ => tagWf port tag
  | .retune port tag _ _ => tagWf port tag
  | .planSave port tag => tagWf port tag
  | .tableReset port tag => tagWf port tag
  | .standbyEnter port tag => tagWf port tag
  | .routeSet port tag _ _ _ _ _ _ => tagWf port tag
  | .rateSet port tag _ _ _ _ _ _ => tagWf port tag
  | .countSet port tag _ _ => tagWf port tag
  | .captureSet port tag _ _ _ _ => tagWf port tag
  | .inputPresent port tag _ _ => tagWf port tag
  | .gainSet port tag _ _ _ _ _ => tagWf port tag
  | .powerOnResetAssert => true
  | .roomLinkFramingError => true
  | .roomLinkLengthAbove64 length => 64 < length.toNat && length ≠ 0x7E

end Sys2Proof
end

