-- ==== Sys2Proof/Tests/Slice0.lean ====
section
/-! SUPPORT. Tests: the well-formedness checks, single commands against the manual's worked examples and rules, and for every
statement with hypotheses a state and operands that meet them, for each of its clauses. -/

namespace Sys2Proof.Tests

set_option Elab.async false

open Sys2Proof.Machine

/-! ### Small states -/

/-- The part after a command. -/
def after (c : Instr) (p : Part) : Part :=
  match exec c ⟨p, []⟩ with
  | .next t => t.part
  | _ => p

/-- A part in the given stage of start-up, with the power state ACTIVE and every block at its reset values. -/
def staged (x : Stage) : Part := (Part.atReset ⟨0, 0, false⟩ x).setPower .active

/-- A part that has started up: the floor is closed. -/
def ready : Part := staged .running

/-- The part with every seat present and the floor open. -/
def meeting : Part :=
  (ready.withFlc { ready.flc with isOpen := true }).withSmn
    { ready.smn with seats := Vector.ofFn fun i => { Seat.reset i with presence := .occupied }, occupied := 20 }

/-- A channel in IDLE at a count of 2000. -/
def idleKey : Channel := { Channel.reset with enabled := true, state := .idle, lta := 32000, filtered := 32000 }

def withChannel (p : Part) (c : ChannelId) (x : Channel) : Part := p.setChannel c x
def withSeat (p : Part) (i : SeatId) (f : Seat → Seat) : Part := p.setSeat i (f (p.seat i))
def withSocket (p : Part) (k : SocketId) (f : Socket → Socket) : Part := p.setSocket k (f (p.socket k))
def withScreen (p : Part) (k : ScreenId) (f : Screen → Screen) : Part := p.setScreen k (f (p.screen k))
def withSession (p : Part) (x : Session) : Part := p.setSession (some x)
def withQueue (p : Part) (l : List QueueEntry) : Part := p.withFlc { p.flc with queue := l }

/-- A slot in a state, with its gain and target. -/
def setSlotAs (p : Part) (k : SlotId) (st : SlotState) (i : SeatId) (gain target : Nat) : Part :=
  p.setSlot k { p.slot k with state := st, holder := some i, gain := gain, target := target }

/-- A slot in a state, one step below the built-in ceiling. -/
def withSlot (p : Part) (k : SlotId) (st : SlotState) (i : SeatId) : Part := setSlotAs p k st i 792 800

/-- Both slots of the limit live. -/
def full (p : Part) : Part := withSlot (withSlot p 1 .live 1) 2 .live 2

/-- A queue entry of a seat. -/
def entry (i : SeatId) : QueueEntry := ⟨i, false, false, 0, 0⟩

/-- The floor open and seat 4 waiting. -/
def queued : Part := withQueue meeting [entry 3]

/-- A booking without check-in. -/
def aBooking : Booking := ⟨1, 600, 660, false, none, 2, FloorPreset.builtIn, 0, false, none⟩

/-- A pending entry. -/
def booking (id start stop : Nat) : Entry := ⟨{ aBooking with id := id, start := start, stop := stop }, .pending⟩

/-- A staging bank. -/
def staging (st : BankState) (day declared received : Nat) (l : List Entry) : Part :=
  ready.setStaging ⟨.staging, st, day, declared, received, false, .none, l⟩

/-- A published bank for day 0, which is current. -/
def published (l : List Entry) : Part :=
  (ready.setPublished ⟨.published, .published, 0, l.length, l.length, false, .none, l⟩).setClock ⟨0, 0, 0, true⟩

/-- A walk-in session in progress. -/
def openSession : Session := ⟨.walkIn, none, none, .inSession, 0, 0, none, 60, false, 2, none, 0, 0⟩

/-- Two seats at the table and the dwell full. -/
def walkIn : Part :=
  let p := withSeat (withSeat ready 0 fun x => { x with presence := .occupied }) 1 fun x => { x with presence := .occupied }
  ((p.withSmn { p.smn with occupied := 2 }).withSsu { p.ssu with dwell := 60 }).setClock ⟨0, 1380, 0, true⟩

/-- A summary in the store. -/
def stored : Part :=
  ready.withSsu { ready.ssu with store := [⟨7, .walkIn, none, none, 0, 0, 0, 60, .vacated, none, 2, false, []⟩] }

/-- The image copy of the built-in defaults. -/
def planned : Part := ready.withPln { ready.pln with image := defaultImage ⟨0, 0, false⟩ }

/-- A save in progress. -/
def saving : Part := planned.withPln { planned.pln with saving := true, composed := planned.composeImage }

/-- A screen that follows another. -/
def follows (k f : ScreenId) : Part :=
  withScreen ready k fun x => { x with set := { x.set with mode := .followScreen, followed := f } }

/-- A booking entry's payload with every field at the end of its range. -/
def payload : BookingPayload := ⟨65535, 1439, 1440, 1, 30, 20, 3, 6, 3600, 1, 3, 1, 20⟩

/-- A profile payload with every clamped field at the end of its range. -/
def profileFields : ProfilePayload := ⟨0, 7, 15, 15, 255, 255, 15, 15, 255, 127, 1, 3800, 64⟩

/-- The plan of the built-in defaults with one byte replaced. -/
def planWith (i : Nat) (v : Byte) : List Byte := withSum (((defaultImage ⟨0, 0, false⟩).take 510).set i v)

/-- The plan of the built-in defaults with the first bytes of its seat records given. -/
def planSeats (f : Nat → Byte) : List Byte :=
  let l := defaultImage ⟨0, 0, false⟩
  withSum (l.take 21 ++ (List.range 20).flatMap (fun i => [f i, 9]) ++ (l.drop 61).take 449)

/-- A published booking with id 5 in a given status, and its session. -/
def listed (x : EntryStatus) (y : SessionState) : Part :=
  withSession (published [{ booking 5 600 660 with status := x }])
    { openSession with kind := .booked, booking := some 5, copy := some { aBooking with window := some 30 }, state := y }

/-- Channels that are OFF make no report. -/
theorem quietOthers (p : Part) (r : List Nat) (c : ChannelId)
    (h : ∀ d : ChannelId, d ≠ c → (p.channel d).state = .off) :
    ∀ d : ChannelId, d ≠ c → d.val ≠ 40 → QuietChannel p r d := fun d hd _ => .inl (.inl (h d hd))

/-- Channels that are OFF or in FAULT make no report. -/
theorem quietAll (p : Part) (r : List Nat) (h : ∀ d : ChannelId, (p.channel d).state = .off ∨ (p.channel d).state = .fault) :
    ∀ d : ChannelId, d.val ≠ 40 → QuietChannel p r d := fun d _ => .inl ((h d).imp_right .inl)

/-- The plan of the built-in defaults passes every check of R7 to R9. -/
theorem planSoundBuiltIn : PlanSound ⟨0, 0, false⟩ (defaultImage ⟨0, 0, false⟩) := by
  and_intros <;> decide +kernel
/-! ### Well-formedness -/

theorem test_wf_eeprom : Instr.wf (.loadEnd (.image (List.replicate 511 0))) = false := by decide +kernel
theorem test_wf_readings : Instr.wf (.sensingFrame (List.replicate 40 0) [] true) = false := by decide +kernel
theorem test_wf_channels : Instr.wf (.sensingFrame (List.replicate 41 0) [3, 3] true) = false := by decide +kernel
theorem test_wf_slots : Instr.wf (.gainFrame [1, 2, 1] true) = false := by decide
theorem test_wf_blocks : Instr.wf (.secondEvent [.flc, .flc]) = false := by decide
theorem test_wf_reference : Instr.wf (.haltLimitReseed 40) = false := by decide
theorem test_wf_transfer : Instr.wf (.requestTransfer .chair [0, 1, 2]) = false := by decide
theorem test_wf_tag : Instr.wf (.clockRead .room 0x7E) = false := by decide
theorem test_wf_length : Instr.wf (.roomLinkLengthAbove64 64) = false := by decide
theorem test_wf_mark : Instr.wf (.roomLinkLengthAbove64 0x7E) = false := by decide
theorem test_wf_accepts : Instr.wf (.clockRead .chair 0x7E) = true ∧ Instr.wf (.loadEnd .absent) = true := by decide

/-- The table gives no row any bits, so no word spells a command. -/
theorem test_no_words : decodeTableWord 0 0 = none ∧ decodeTableWord 16 0xFFFF = none := by decide

/-! ### Sensing: sections 2.3, 2.4, 2.6 and 2.7 -/

/-- A channel after frames of 10 ms with the KEY profile. -/
def keyFrames (x : Channel) (readings : List Nat) : Channel :=
  readings.foldl (fun x r => (updateChannel Profile.key 8 10 0 x r).1) x

/-- Frames 1 to 4 of section 2.3: the finger lands. -/
theorem test_key_press :
    let x := keyFrames idleKey [1700, 1700, 1700, 1700]
    (x.filtered, x.lta, x.level, x.haltLevel, x.delta, x.state, x.haltTimer) =
      (28719, 31996, 2499, 1249, 3277, .active, 30) := by decide +kernel

/-- Frames 5 to 8 of section 2.3: the finger leaves. -/
theorem test_key_release :
    let x := keyFrames idleKey [1700, 1700, 1700, 1700, 2000, 2000, 2000, 2000]
    (x.filtered, x.lta, x.release, x.delta, x.state, x.debounce, x.haltTimer) =
      (30961, 31992, 1875, 1035, .idle, 0, 0) := by decide +kernel

/-- A first frame as a command: row 1 of section 2.3. -/
theorem test_sensing_frame :
    let t := after (.sensingFrame (List.replicate 41 1700) [] true) (withChannel ready 4 idleKey)
    ((t.channel 4).filtered, (t.channel 4).lta, (t.channel 4).state) = (30800, 31996, .idle) := by decide +kernel

/-- Section 2.4: the filter stops three sixteenths above 16r. -/
theorem test_filter_stops : approach 27203 (16 * 1700) 2 = 27203 ∧ approach 27204 (16 * 1700) 2 = 27203 := by decide

/-- Section 2.4: the cup reaches the halt limit. -/
theorem test_halt_limit :
    let t := after (.haltLimitReseed 4)
      (withChannel ready 4
        { idleKey with state := .active, lta := 31996, filtered := 27203, haltTimer := 20000, haltTested := 20 })
    ((t.channel 4).lta, (t.channel 4).state, (t.channel 4).haltTimer, (t.port .room).causes) =
      (27203, .idle, 0, 4) := by decide +kernel

/-- R19: a halt limit lowered to 3 s under a halt timer of 4 s waits for the next halted frame, which reseeds. -/
theorem test_lowered_halt_limit :
    let p := withChannel ready 4 { idleKey with state := .active, haltTimer := 4000, haltTested := 20, filtered := 27200 }
    let q := p.setProfile .key { p.profileOf .key with haltLimit := 3 }
    ((after (.haltLimitReseed 4) q).channel 4 = q.channel 4) ∧
      ((after (.sensingFrame (List.replicate 41 1700) [] true) q).channel 4).state = .idle := by decide +kernel

/-- The search of section 2.6 on an electrode with r = 600 + 12v. -/
theorem test_retune_search :
    let x := (List.range 8).foldl
      (fun x _ => searchStep { Profile.proximity with target := 2000 } x (600 + 12 * (x.kept + stepWeight (x.step + 1))))
      (startRetune { idleKey with state := .fault })
    (x.best, x.kept, x.step, x.held) = (some (117, 2004), 116, 8, .fault) := by decide +kernel

/-- The completion of section 2.6. -/
theorem test_retune_completion :
    let t := after (.retuneCompletion 11) (withChannel (ready.putProfile .proximity { Profile.proximity with target := 2000 })
      11 { idleKey with state := .tuning, held := .fault, step := 8, best := some (117, 2004) })
    ((t.channel 11).state, (t.channel 11).tune, (t.channel 11).filtered, (t.channel 11).lta, (t.port .room).causes) =
      (.idle, 117, 32064, 32064, 16) := by decide +kernel

/-- Section 2.7. -/
theorem test_tracking :
    trackLta Profile.proximity 28800 64 = 28848 ∧ trackLta Profile.proximity 28848 (-10) = 28841 ∧
      trackLta { Profile.proximity with sign := .opposite } 28800 64 = 28752 := by decide

/-! ### The load: section 1.9 -/

/-- A sensing frame of 12 ms becomes 10 ms, with a correction; 10 ms stays. -/
theorem test_frame_corrected : fixFrame 12 = (10, true) ∧ fixFrame 10 = (10, false) ∧ fixFrame 41 = (40, true) := by decide

/-- With no CHAIR among the installed seats, seat 1 takes the role: a correction. -/
theorem test_chair_corrected :
    let r := fixChair (Vector.ofFn fun i => { Seat.reset i with installed := i.val < 12, role := if i.val = 13 then .chair else .delegate })
    (r.2, (r.1.get 0).role) = (true, .chair) := by decide +kernel

/-- A screen that names itself becomes BLANK: a correction. -/
theorem test_follow_corrected :
    let r := fixFollow (Vector.replicate 4 { ScreenSettings.reset with mode := .followScreen, followed := 2 }, false) 2
    (r.2, (r.1.get 2).mode) = (true, .blank) := by decide +kernel

/-- An absent EEPROM: outcome DEFAULT, *plan default*, and stage 3 begins. -/
theorem test_load_absent :
    let t := after (.loadEnd .absent) State.reset.part
    (t.pln.outcome, t.pln.stage, (t.port .room).causes, (t.channel 0).state, (t.seat 8).installed) =
      (.default, .retuning, 1, .tuning, false) := by decide +kernel

/-! ### The floor: sections 4.12 to 4.15 -/

/-- The meeting of section 4.12, in QUEUE mode. -/
def table412 : Part := withSession (meeting.withFlc { meeting.flc with nextNumber := 40, seconds := 1000 }) openSession

/-- Row 1: seat 3 presses and is granted slot 1. -/
theorem test_press_granted :
    let t := after (.press .chair 7 3) table412
    ((t.slot 1).state, (t.slot 1).holder, t.flc.openOrder, t.flc.queue, t.flc.nextNumber) =
      (.opening, some 2, [1], [], 41) := by decide +kernel

/-- Rows 4 and 5: a priority entry stands before the plain one. -/
theorem test_priority_entry :
    Part.insertEntry { entry 11 with priority := true, number := 43 } [{ entry 7 with number := 42 }] =
      [{ entry 11 with priority := true, number := 43 }, { entry 7 with number := 42 }] := by decide

/-- Row 1 of section 4.13: seat 9 overrides seat 3 and is granted slot 3 at the same event. -/
theorem test_override :
    let p := withSlot (withSlot (withQueue meeting [entry 7]) 1 .live 2) 2 .live 4
    let t := after (.press .chair 7 9) (p.withFlc { p.flc with mode := .override, openOrder := [1, 2] })
    ((t.slot 1).state, (t.slot 1).reason, (t.slot 3).holder, t.flc.queue.map (·.seat), t.flc.openOrder) =
      (.closing, some .override, some 8, [7], [2, 3]) := by decide +kernel

/-- Section 4.14: the limit goes from 4 to 2, and the tail of the open order closes. -/
theorem test_limit_lowered :
    let p := withSlot (withSlot (withSlot (withSlot (withQueue meeting [entry 10]) 1 .live 2) 2 .live 6) 3 .live 5) 4 .live 9
    let t := after (.setLimit .chair 1 2) (p.withFlc { p.flc with mode := .direct, limit := 4, openOrder := [2, 1, 4, 3] })
    ((t.slot 3).reason, (t.slot 4).reason, (t.slot 1).state, t.flc.openOrder, t.flc.queue.length) =
      (some .limit, some .limit, .live, [2, 1], 1) := by decide +kernel

/-- Section 4.15: SET SPEAK LIMIT 30 with enforce on at elapsed 35 closes the slot at the request; 40 leaves WARN. -/
theorem test_speak_limit :
    let p := withSlot meeting 1 .live 7
    let q := p.setSlot 1 { p.slot 1 with elapsed := 35, warned := .warn }
    let t := after (.setSpeakLimit .chair 1 30 1) q
    let u := after (.setSpeakLimit .chair 1 40 1) q
    ((t.slot 1).warned, (t.slot 1).reason, (u.slot 1).warned, (u.slot 1).state) =
      (.over, some .time, .warn, .live) := by decide +kernel

/-! ### Gain: section 5.5 -/

/-- Frame 501. -/
theorem test_gain_frame :
    let t := after (.gainFrame [] false) (setSlotAs (setSlotAs ready 1 .live 5 800 600) 0 .opening 0 0 800)
    ((t.slot 0).gain, (t.slot 1).gain, t.sgu.bus) = (8, 784, some [(0, 8), (5, 784)]) := by decide +kernel

/-- A slot closed by MUTE ALL falls from 600 to silence in one frame and comes free in it. -/
theorem test_mute_frame :
    let p := setSlotAs ready 1 .closing 5 600 0
    let t := after (.gainFrame [] false) (p.setSlot 1 { p.slot 1 with reason := some .mute })
    ((t.slot 1).state, (t.slot 1).gain, t.sgu.bus) = (.free, 0, some [(5, 0)]) := by decide +kernel

/-- The ceiling is lowered from 800 to 500 with the chair open. -/
theorem test_ceiling_lowered :
    let t := after (.gainSet .av 1 500 8 16 64 1) (setSlotAs (setSlotAs ready 1 .live 5 600 600) 0 .live 0 500 800)
    ((t.slot 1).gain, (t.slot 1).target, (t.slot 0).target) = (500, 375, 500) := by decide +kernel

/-! ### Sources: section 6.6 -/

/-- Measurement 1 of the first example. -/
theorem test_measurement :
    let t := after (.edgeTaken 2 .falling 16550 5 false)
      (withSocket ready 2 fun x => { x with phase := .waitActive, counter := 100, width := 100, lastEdge := some .rising })
    ((t.socket 2).period, (t.socket 2).entry, (t.socket 2).state, (t.socket 2).agree, (t.socket 2).cls) =
      (16650, 1, .seeking, 1, .id 1) := by decide +kernel

/-- The third overflow of the unplugged laptop. -/
theorem test_overflow :
    let t := after (.captureOverflow 2) (withSocket ready 2 fun x => { x with state := .dropping, drop := 2, cls := .id 1 })
    ((t.socket 2).state, (t.socket 2).cls, (t.socket 2).drop, t.isRoutable 3) = (.none, .none, 0, false) := by decide +kernel

/-- R52 and R170: in one frame seat 1 leaves and seat 3 arrives; the count change below the quorum between them sets the
dwell timer to 0. -/
theorem test_dip_clears_dwell :
    let p := withChannel (walkIn.withSsu { walkIn.ssu with dwell := 30 }) 1 { idleKey with state := .leaving, debounce := 7 }
    let q := withChannel (p.withSmn { p.smn with grace := 0 }) 5
      { idleKey with state := .entering, lta := 36000, debounce := 3 }
    let t := after (.sensingFrame (List.replicate 41 2000) [] true) q
    let u := after (.sensingFrame (List.replicate 41 2000) [5] true) q
    ((t.smn.occupied, t.ssu.dwell), (u.smn.occupied, u.ssu.dwell)) = ((2, 0), (2, 30)) := by decide +kernel

/-- R113: a level shorter than the filter right after capture starts takes both its edges away; the next rising edge is
the first edge taken. -/
theorem test_short_first_level :
    let p := withSocket ready 2 fun x => { x with edge := .rising }
    let q := after (.edgeTaken 2 .rising 10 5 false) (after (.edgeTaken 2 .falling 10 1 false) p)
    let t := after (.edgeTaken 2 .rising 10 5 false) (after (.edgeTaken 2 .falling 10 5 false) q)
    ((q.socket 2).phase, (t.socket 2).phase) = (.waitFirst, .waitInactive) := by decide +kernel

/-- R113: a CAPTURE SET that changes the edge between the two edges of a level shorter than the filter; the second is not
taken either. -/
theorem test_short_level_across_capture_set :
    let p := after (.captureSet .av 1 3 1 0 4) (after (.edgeTaken 2 .falling 10 1 false) ready)
    let q := after (.edgeTaken 2 .rising 10 5 false) p
    let t := after (.edgeTaken 2 .rising 10 5 false) (after (.edgeTaken 2 .falling 10 5 false) q)
    ((p.socket 2).edge, (q.socket 2).phase, (t.socket 2).phase) = (.rising, .waitFirst, .waitInactive) := by decide +kernel

/-- R129 and R133: slots 1 and 2 enter LIVE in one gain frame and move the driven source from 4 to 2 and back: a settle
starts, and the frame does not count it. -/
theorem test_reports_settle :
    let p := withScreen ready 0 fun x => { x with set := { x.set with mode := .followSpeaker }, shown := 4, driven := 4 }
    let q := withSeat (withSeat p 1 fun x => { x with socket := some 1 }) 2 fun x => { x with socket := some 3 }
    let r := q.withRtu { q.rtu with routable := Vector.ofFn fun i => i.val = 1 ∨ i.val = 3 }
    let t := after (.gainFrame [] true) (withSlot (withSlot r 1 .opening 1) 2 .opening 2)
    (t.rtu.speakers, (t.screen 0).driven, (t.screen 0).settle, (t.screen 0).timer, (t.port .av).flags &&& 16) =
      ([2, 1], 4, .settling, 40, 0) := by decide +kernel

/-- R133 and R134: ROUTE SET to BLANK wakes a part that shows the PC: the driven source stands, so no settle starts, and
the event raises ROUTE. -/
theorem test_blank_from_standby :
    let p := withScreen ready 0 fun x => { x with set := { x.set with mode := .fixed, fixed := 9 }, shown := 9 }
    let t := after (.routeSet .av 1 1 3 0 1 0 0) ((p.setPower .standby).withRtu { p.rtu with override := true })
    ((t.screen 0).shown, (t.screen 0).driven, (t.screen 0).settle, (t.port .chair).flags &&& 16) =
      (0, 0, .steady, 16) := by decide +kernel

/-! ### The clock, the ports and the power state -/

/-- R142: the last second of the last day number. -/
theorem test_midnight_wrap :
    (after (.secondEvent []) (ready.setClock ⟨65535, 1439, 59, true⟩)).sch.clock = ⟨0, 0, 0, true⟩ := by decide +kernel

/-- R166: a session that the turnover's swap opens at midnight starts its window there. -/
theorem test_midnight_window :
    let e : Entry := ⟨{ aBooking with start := 0, stop := 60, checkIn := true, window := some 1 }, .pending⟩
    let t := after (.secondEvent []) ((staging .ready 1 1 1 [e]).setClock ⟨0, 1439, 59, true⟩)
    t.ssu.session.map (fun x => (x.state, x.await)) = some (.awaiting, 0) := by decide +kernel

/-- R176: TABLE RESET in ACTIVE drops the pending start. -/
theorem test_reset_drops_pending_start :
    let p := (published [booking 5 600 660]).setClock ⟨0, 600, 0, true⟩
    let t := after (.tableReset .room 9) (p.withSsu { p.ssu with pendingStart := some 5 })
    (t.pwu.power, t.ssu.pendingStart, t.ssu.session) = (.active, none, none) := by decide +kernel

/-- R202: TABLE RESET in WAKING ends the settle, and the opening of the pending start follows. -/
theorem test_reset_opens_pending :
    let p := ((published [booking 5 600 660]).setClock ⟨0, 600, 0, true⟩).setPower .waking
    let t := after (.tableReset .room 9)
      ((p.withPwu { p.pwu with settle := 2 }).withSsu { p.ssu with pendingStart := some 5 })
    (t.pwu.power, t.pwu.settle, t.ssu.pendingStart, t.ssu.session.map (·.state)) = (.active, 0, none, some .inSession) := by
  decide +kernel

/-- R114, R115: a capture tick adds 1 to the counter, and at 65535 the counter overflows. -/
theorem test_capture_tick :
    let p := withSocket (withSocket ready 0 fun x => { x with enable := true, counter := 0x0100 }) 7
      fun x => { x with enable := true, counter := 65534, phase := .waitActive }
    (match step ⟨p, []⟩ with
      | .next t => some ((t.part.socket 0).counter, (t.part.socket 7).counter, (t.part.socket 7).phase)
      | _ => none) = some (0x0101, 0, .waitFirst) := by decide +kernel

/-- Section 10.8: the transfer puts GRANT in service, and the next event of the chair port serves it. -/
theorem test_console_transfer :
    ((after (.requestTransfer .chair [0x20, 51, 1, 8]) meeting).port .chair).inService = some ⟨0x20, 51, 1, [8]⟩ := by
  decide +kernel

/-- Section 10.8: NOTICE READ returns FLOOR and clears it. -/
theorem test_notice_read :
    let t := after (.noticeRead .chair 52) (meeting.notice .floor)
    ((t.port .chair).flags, (t.port .room).flags, (t.port .chair).pending.map (·.status)) =
      (0, 1, some .done) := by decide +kernel

/-- R184: CLOCK READ with tag 5 on the room link: the request's sum is 0Ch, and the frame reaches service. -/
theorem test_room_frame :
    ((after (.roomLinkFrame [0x7E, 0x07, 5, 0, 0x0C]) ready).port .room).inService = some ⟨0x07, 5, 0, []⟩ ∧
      ((after (.roomLinkFrame [0x7E, 0x07, 5, 0, 0x0D]) ready).port .room).inService = none := by decide +kernel

/-- R188: the AV port holds no right over TABLE RESET. -/
theorem test_rights :
    ((after (.tableReset .av 9) ready).port .av).pending = some ⟨9, .notPermitted, [[]]⟩ := by decide +kernel

/-- R202: the fourth frame of the settle has come. -/
theorem test_wake_ends :
    (after .settleComplete (ready.withPwu { ready.pwu with power := .waking, settle := 4 })).pwu.power = .active := by
  decide +kernel

/-- 07:50 of section 11.3: the minute event at which the next start lies within the pre-wake lead wakes the part, with the
quiet timer at 0. -/
theorem test_pre_wake :
    let p := (published [booking 5 480 540]).setClock ⟨0, 469, 59, true⟩
    let t := after (.secondEvent []) (p.withPwu { p.pwu with power := .standby, quiet := 300 })
    (t.pwu.power, t.pwu.quiet) = (.waking, 0) := by decide +kernel

/-- R150: a BANK OPEN of a bank that is FILLING already changes no state and raises no SCHEDULE notice. -/
theorem test_bank_open_again :
    ((after (.bankOpen .room 1 3 2 0) (staging .filling 1 2 1 [])).port .room).flags = 0 ∧
    ((after (.bankOpen .room 1 3 2 0) ready).port .room).flags = 64 := by decide +kernel

/-! ### The hypotheses of the statements can be met -/

/-- StepKeepsOutputsTrue, StepKeepsRecordsSound and CountsStayInRange: a step from a sound state. -/
theorem test_hyp_steps :
    ∃ s t : State, (OutputsTrue s.part ∧ Settled s.part ∧ BanksSound s.part ∧ QueueSound s.part.flc ∧
      (∀ k, SlotSound (s.part.slot k)) ∧ s.part.ssu.store.length ≤ 2) ∧ (∀ c, CountsInRange (s.part.channel c)) ∧
      (∀ k, (s.part.profileOf k).threshold ≤ 255) ∧ step s = .next t ∧ t ≠ s :=
  ⟨⟨State.reset.part, [.ident .av 1]⟩, ⟨after (.ident .av 1) State.reset.part, []⟩, by decide +kernel, by decide +kernel,
    fun k => by cases k <;> decide +kernel, rfl, by decide +kernel⟩

/-- ResetsRestoreEveryBlock: an event on a part that the RESET pin holds. -/
theorem test_hyp_held :
    ∃ (c : Instr) (s : State), s.part.isHeld = true ∧ (c ≠ .resetPinAssert ∧ c ≠ .powerOnResetAssert) ∧
      ∀ pins, c ≠ .powerOnResetRelease pins ∧ c ≠ .resetPinRelease pins :=
  ⟨.chairNext, ⟨staged .held, []⟩, by decide +kernel, ⟨nofun, nofun⟩, fun _ => ⟨nofun, nofun⟩⟩


/-- BookingFieldsAsTaken: payloads at both ends of the fields' ranges, and one out of range. -/
theorem test_hyp_bookingFieldsAsTaken :
    (∃ b, b ∈ ready.correctBooking (bookingPayloadBytes payload)) ∧
    (∃ b, b ∈ ready.correctBooking (bookingPayloadBytes ⟨1, 0, 1, 0, 31, 1, 0, 0, 0, 0, 0, 0, 0⟩)) ∧
    ready.correctBooking (bookingPayloadBytes { payload with stop := 1441 }) = none :=
  ⟨⟨(ready.correctBooking (bookingPayloadBytes payload)).get (by decide +kernel), by decide +kernel⟩,
   ⟨(ready.correctBooking (bookingPayloadBytes ⟨1, 0, 1, 0, 31, 1, 0, 0, 0, 0, 0, 0, 0⟩)).get (by decide +kernel),
     by decide +kernel⟩, by decide +kernel⟩

/-- EmptyQueueTicksAndEveryCommandAnswers: reset, counts, overflows. -/
theorem test_hyp_emptyQueueTicksAndEveryCommandAnswers :
    (∃ (s : State), (s.pending = []) ∧ (Settled s.part) ∧ (∀ k, s.part.capturing k = false)) ∧
    (∃ (s : State), (s.pending = []) ∧ (Settled s.part) ∧ (s.part.capturing 7 = true ∧ (s.part.socket 7).counter + 2
      = 65535)) ∧
    (∃ (s : State), (s.pending = []) ∧ (Settled s.part) ∧ (s.part.capturing 7 = true ∧ (s.part.socket 7).counter + 1
      = 65535)) :=
  ⟨⟨State.reset, by decide +kernel⟩,
   ⟨⟨(withSocket ready 7 fun x => { x with enable := true, counter := 65533, phase := .waitActive }), []⟩, by
     decide +kernel⟩,
   ⟨⟨(withSocket ready 7 fun x => { x with enable := true, counter := 65534, phase := .waitActive }), []⟩, by
     decide +kernel⟩⟩

/-- ResetsRestoreEveryBlock: supply, noSupply. -/
theorem test_hyp_resetsRestoreEveryBlock :
    (∃ (s : State), (s.part.pln.stage ≠ .unpowered)) ∧
    (∃ (s : State), (s.part.pln.stage = .unpowered)) :=
  ⟨⟨State.reset, by decide +kernel⟩,
   ⟨⟨Part.atReset ⟨0, 0, false⟩ .unpowered, []⟩, by decide +kernel⟩⟩

/-- LoadWithoutGoodImage: all, stopped, badImage. -/
theorem test_hyp_loadWithoutGoodImage :
    (∃ (e : EepromRead) (s : State), (s.part.pln.stage = .loading) ∧ (Part.loadedImage e = none)) ∧
    (∃ (e : EepromRead) (s : State), (s.part.pln.stage = .loading) ∧ (Part.loadedImage e = none)) ∧
    (∃ (e : EepromRead) (s : State), (s.part.pln.stage = .loading) ∧ (Part.loadedImage e = none)) :=
  ⟨⟨.absent, State.reset, by decide +kernel⟩,
   ⟨.stopped, State.reset, by decide +kernel⟩,
   ⟨.image (List.replicate 512 0), State.reset, by decide +kernel⟩⟩

/-- LoadOfGoodImage: all, noneInstalled, noChair, twoChairs, sound, frame, direction, ownFollower, chain, twoFollow,
  outsideSet, nominal, widths, speakTen. -/
theorem test_hyp_loadOfGoodImage :
    (∃ (img : List Byte) (s : State), (s.part.pln.stage = .loading) ∧ (Part.goodImage img = true)) ∧
    (∃ (img : List Byte) (s : State), (s.part.pln.stage = .loading) ∧ (Part.goodImage img = true) ∧ (∀ i, ¬
      PlanInstalls s.part.pln.straps img i)) ∧
    (∃ (img : List Byte) (s : State), (s.part.pln.stage = .loading) ∧ (Part.goodImage img = true) ∧ (∃ c,
      PlanInstalls s.part.pln.straps img c ∧ (∀ j, j < c → ¬ PlanInstalls s.part.pln.straps img j) ∧ ∀ j,
      PlanInstalls s.part.pln.straps img j → ¬ PlanChair img j)) ∧
    (∃ (img : List Byte) (s : State), (s.part.pln.stage = .loading) ∧ (Part.goodImage img = true) ∧ (∃ c,
      PlanInstalls s.part.pln.straps img c ∧ PlanChair img c ∧ (∀ j, j < c → PlanInstalls s.part.pln.straps img j → ¬
      PlanChair img j) ∧ ∃ j, c < j ∧ PlanInstalls s.part.pln.straps img j ∧ PlanChair img j)) ∧
    (∃ (img : List Byte) (s : State), (s.part.pln.stage = .loading) ∧ (Part.goodImage img = true) ∧ (PlanSound
      s.part.pln.straps img)) ∧
    (∃ (img : List Byte) (s : State), (s.part.pln.stage = .loading) ∧ (Part.goodImage img = true) ∧ (byteAt img 256 %
      5 ≠ 0)) ∧
    (∃ (img : List Byte) (s : State), (s.part.pln.stage = .loading) ∧ (Part.goodImage img = true) ∧ (1 < byteAt img
      67 % 16 ∧ 1 < byteAt img 67 / 16)) ∧
    (∃ (img : List Byte) (s : State), (s.part.pln.stage = .loading) ∧ (Part.goodImage img = true) ∧ (planMode img 0 2
      = .followScreen ∧ planFollowed img 0 2 = 2)) ∧
    (∃ (img : List Byte) (s : State), (s.part.pln.stage = .loading) ∧ (Part.goodImage img = true) ∧ (planMode img 1 0
      = .followSpeaker ∧ planMode img 1 1 = .followScreen ∧ planFollowed img 1 1 = 3)) ∧
    (∃ (img : List Byte) (s : State), (s.part.pln.stage = .loading) ∧ (Part.goodImage img = true) ∧ (planMode img 1 0
      = .followScreen ∧ planFollowed img 1 0 = 1 ∧ planMode img 1 1 = .followScreen ∧ planFollowed img 1 1 = 0)) ∧
    (∃ (img : List Byte) (s : State), (s.part.pln.stage = .loading) ∧ (Part.goodImage img = true) ∧ (3 < byteAt img
      135 % 8 ∧ planMode img 1 1 = .followScreen)) ∧
    (∃ (img : List Byte) (s : State), (s.part.pln.stage = .loading) ∧ (Part.goodImage img = true) ∧ (halfAt img 168 ≠
      0 ∧ halfAt img 168 < 1000)) ∧
    (∃ (img : List Byte) (s : State), (s.part.pln.stage = .loading) ∧ (Part.goodImage img = true) ∧ (halfAt img 175 <
      65535)) ∧
    (∃ (img : List Byte) (s : State), (s.part.pln.stage = .loading) ∧ (Part.goodImage img = true) ∧ (halfAt img 271 =
      9)) :=
  ⟨⟨defaultImage ⟨0, 0, false⟩, State.reset, by decide +kernel⟩,
   ⟨planSeats fun _ => 2, State.reset, by decide +kernel⟩,
   ⟨planSeats fun i => if i = 0 then 2 else 1, State.reset, by decide +kernel⟩,
   ⟨planSeats fun i => if i = 3 ∨ i = 7 ∨ i = 8 then 15 else 1, State.reset, by decide +kernel⟩,
   ⟨defaultImage ⟨0, 0, false⟩, State.reset, rfl, by decide +kernel, planSoundBuiltIn⟩,
   ⟨planWith 256 12, State.reset, by decide +kernel⟩,
   ⟨planWith 67 0x22, State.reset, by decide +kernel⟩,
   ⟨planWith 126 0x12, State.reset, by decide +kernel⟩,
   ⟨planWith 135 0x1A, State.reset, by decide +kernel⟩,
   ⟨planWith 132 0x0A, State.reset, by decide +kernel⟩,
   ⟨planWith 135 0x07, State.reset, by decide +kernel⟩,
   ⟨planWith 168 0, State.reset, by decide +kernel⟩,
   ⟨planWith 175 0, State.reset, by decide +kernel⟩,
   ⟨planWith 272 9, State.reset, by decide +kernel⟩⟩

/-- SavedPlanLoadsBack. -/
theorem test_hyp_savedPlanLoadsBack :
    ∃ (p : Part), (p.pln.image.length = 512 ∧ halfAt p.pln.image 0 = 0xA51C) ∧ (SavedInRange p) :=
  ⟨planned, by decide +kernel, (fun k => by cases k <;> decide +kernel), by decide +kernel⟩

/-- PlanSaveComposesAndEnds: saving, idle. -/
theorem test_hyp_planSaveComposesAndEnds :
    (∃ (s : State), (s.part.isHeld = false) ∧ (Settled s.part) ∧ (s.part.pln.saving = true)) ∧
    (∃ (s : State), (s.part.isHeld = false) ∧ (Settled s.part) ∧ (s.part.pln.saving = false)) ∧
    (∃ (s : State), (Listening s.part .room) ∧ (Settled s.part) ∧ (s.part.pln.image.length = 512) ∧
      (s.part.pln.saving = true)) ∧
    (∃ (s : State), (Listening s.part .room) ∧ (Settled s.part) ∧ (s.part.pln.image.length = 512) ∧
      (s.part.pln.saving = false)) :=
  ⟨⟨⟨saving, []⟩, by decide +kernel⟩,
   ⟨⟨ready, []⟩, by decide +kernel⟩,
   ⟨⟨saving, []⟩, by decide +kernel⟩,
   ⟨⟨planned, []⟩, by decide +kernel⟩⟩

/-- SensingFrameOfIdleChannel: all, allIdle. -/
theorem test_hyp_sensingFrameOfIdleChannel :
    (∃ (readings : List Nat) (c : ChannelId) (s : State), (s.part.pln.stage = .running ∧ s.part.pwu.power = .active)
      ∧ (c.val ≠ 40) ∧ (((s.part.channel c).state = .idle ∧ (s.part.channel c).firstWake = false ∧ (s.part.channel
      c).bandCount < 49)) ∧ (deltaOf (s.part.profileOf (Part.kindOf c)).direction (s.part.channel c).lta (approach
      (s.part.channel c).filtered (16 * min (readings.getD c.val 0) 4095) (s.part.profileOf (Part.kindOf
      c)).countBeta) < (s.part.channel c).lta * (s.part.profileOf (Part.kindOf c)).threshold / 256 / 2)) ∧
    (∃ (readings : List Nat) (c : ChannelId) (s : State), (s.part.pln.stage = .running ∧ s.part.pwu.power = .active)
      ∧ (c.val ≠ 40) ∧ (((s.part.channel c).state = .idle ∧ (s.part.channel c).firstWake = false ∧ (s.part.channel
      c).bandCount < 49)) ∧ (deltaOf (s.part.profileOf (Part.kindOf c)).direction (s.part.channel c).lta (approach
      (s.part.channel c).filtered (16 * min (readings.getD c.val 0) 4095) (s.part.profileOf (Part.kindOf
      c)).countBeta) < (s.part.channel c).lta * (s.part.profileOf (Part.kindOf c)).threshold / 256 / 2)) :=
  ⟨⟨List.replicate 41 1700, 4, ⟨(withChannel ready 4 idleKey), []⟩, by decide +kernel⟩,
   ⟨List.replicate 41 2000, 39, ⟨(withChannel ready 39
     { idleKey with lta := 28800, filtered := 28800, bandCount := 48 }), []⟩, by decide +kernel⟩⟩

/-- SensingFrameMovesChannel: idle, idleEnters, entering, enteringFalls, active, activeLeaves, leaving, noReference,
  tracking, zero, zeroRetunes, inBand, held, retunes. -/
theorem test_hyp_sensingFrameMovesChannel :
    (∃ (readings : List Nat) (c : ChannelId) (s : State), (s.part.pln.stage = .running ∧ s.part.pwu.power = .active)
      ∧ (c.val ≠ 40) ∧ (RunningChannel (s.part.channel c)) ∧ (((s.part.channel c).firstWake = false ∧ (s.part.channel
      c).pending = false ∧ (s.part.channel c).bandCount < 49)) ∧ (¬ ReachesHaltLimit s.part c s.part.sfe.frame) ∧
      ((s.part.channel c).state = .idle ∧ nextDelta s.part readings c < thresholdOf s.part c / 2)) ∧
    (∃ (readings : List Nat) (c : ChannelId) (s : State), (s.part.pln.stage = .running ∧ s.part.pwu.power = .active)
      ∧ (c.val ≠ 40) ∧ (RunningChannel (s.part.channel c)) ∧ (((s.part.channel c).firstWake = false ∧ (s.part.channel
      c).pending = false ∧ (s.part.channel c).bandCount < 49)) ∧ (¬ ReachesHaltLimit s.part c s.part.sfe.frame) ∧
      ((s.part.channel c).state = .idle ∧ nextDelta s.part readings c = thresholdOf s.part c)) ∧
    (∃ (readings : List Nat) (c : ChannelId) (s : State), (s.part.pln.stage = .running ∧ s.part.pwu.power = .active)
      ∧ (c.val ≠ 40) ∧ (RunningChannel (s.part.channel c)) ∧ (((s.part.channel c).firstWake = false ∧ (s.part.channel
      c).pending = false ∧ (s.part.channel c).bandCount < 49)) ∧ (¬ ReachesHaltLimit s.part c s.part.sfe.frame) ∧
      ((s.part.channel c).state = .entering ∧ nextDelta s.part readings c = thresholdOf s.part c ∧ (profileFor s.part
      c).enter = (s.part.channel c).debounce + 1)) ∧
    (∃ (readings : List Nat) (c : ChannelId) (s : State), (s.part.pln.stage = .running ∧ s.part.pwu.power = .active)
      ∧ (c.val ≠ 40) ∧ (RunningChannel (s.part.channel c)) ∧ (((s.part.channel c).firstWake = false ∧ (s.part.channel
      c).pending = false ∧ (s.part.channel c).bandCount < 49)) ∧ (¬ ReachesHaltLimit s.part c s.part.sfe.frame) ∧
      ((s.part.channel c).state = .entering ∧ nextDelta s.part readings c < thresholdOf s.part c)) ∧
    (∃ (readings : List Nat) (c : ChannelId) (s : State), (s.part.pln.stage = .running ∧ s.part.pwu.power = .active)
      ∧ (c.val ≠ 40) ∧ (RunningChannel (s.part.channel c)) ∧ (((s.part.channel c).firstWake = false ∧ (s.part.channel
      c).pending = false ∧ (s.part.channel c).bandCount < 49)) ∧ (¬ ReachesHaltLimit s.part c s.part.sfe.frame) ∧
      ((s.part.channel c).state = .active ∧ nextDelta s.part readings c = releaseOf s.part c)) ∧
    (∃ (readings : List Nat) (c : ChannelId) (s : State), (s.part.pln.stage = .running ∧ s.part.pwu.power = .active)
      ∧ (c.val ≠ 40) ∧ (RunningChannel (s.part.channel c)) ∧ (((s.part.channel c).firstWake = false ∧ (s.part.channel
      c).pending = false ∧ (s.part.channel c).bandCount < 49)) ∧ (¬ ReachesHaltLimit s.part c s.part.sfe.frame) ∧
      ((s.part.channel c).state = .active ∧ nextDelta s.part readings c < releaseOf s.part c ∧ thresholdOf s.part c /
      2 ≤ nextDelta s.part readings c)) ∧
    (∃ (readings : List Nat) (c : ChannelId) (s : State), (s.part.pln.stage = .running ∧ s.part.pwu.power = .active)
      ∧ (c.val ≠ 40) ∧ (RunningChannel (s.part.channel c)) ∧ (((s.part.channel c).firstWake = false ∧ (s.part.channel
      c).pending = false ∧ (s.part.channel c).bandCount < 49)) ∧ (¬ ReachesHaltLimit s.part c s.part.sfe.frame) ∧
      ((s.part.channel c).state = .leaving ∧ nextDelta s.part readings c < releaseOf s.part c ∧ (profileFor s.part
      c).exit = (s.part.channel c).debounce + 1)) ∧
    (∃ (readings : List Nat) (c : ChannelId) (s : State), (s.part.pln.stage = .running ∧ s.part.pwu.power = .active)
      ∧ (c.val ≠ 40) ∧ (RunningChannel (s.part.channel c)) ∧ (((s.part.channel c).firstWake = false ∧ (s.part.channel
      c).pending = false ∧ (s.part.channel c).bandCount < 49)) ∧ (¬ ReachesHaltLimit s.part c s.part.sfe.frame) ∧
      ((s.part.channel c).state = .active ∧ (profileFor s.part c).tracking ≠ 0 ∧ releaseOf s.part c ≤ nextDelta
      s.part readings c ∧ (s.part.channel 40).state = .off)) ∧
    (∃ (readings : List Nat) (c : ChannelId) (s : State), (s.part.pln.stage = .running ∧ s.part.pwu.power = .active)
      ∧ (c.val ≠ 40) ∧ (RunningChannel (s.part.channel c)) ∧ (((s.part.channel c).firstWake = false ∧ (s.part.channel
      c).pending = false ∧ (s.part.channel c).bandCount < 49)) ∧ (¬ ReachesHaltLimit s.part c s.part.sfe.frame) ∧
      ((s.part.channel c).state = .active ∧ (profileFor s.part c).tracking ≠ 0 ∧ releaseOf s.part c ≤ nextDelta
      s.part readings c ∧ (s.part.channel 40).state = .idle ∧ (s.part.channel 40).bandCount < 49)) ∧
    (∃ (readings : List Nat) (c : ChannelId) (s : State), (s.part.pln.stage = .running ∧ s.part.pwu.power = .active)
      ∧ (c.val ≠ 40) ∧ (RunningChannel (s.part.channel c)) ∧ (((s.part.channel c).firstWake = false ∧ (s.part.channel
      c).pending = false ∧ (s.part.channel c).bandCount < 49)) ∧ ((ReachesHaltLimit s.part c s.part.sfe.frame ∧
      (profileFor s.part c).haltLimit ≤ 255)) ∧ (thresholdOf s.part c / 2 ≤ nextDelta s.part readings c) ∧
      ((s.part.channel c).state = .active)) ∧
    (∃ (readings : List Nat) (c : ChannelId) (s : State), (s.part.pln.stage = .running ∧ s.part.pwu.power = .active)
      ∧ (c.val ≠ 40) ∧ (RunningChannel (s.part.channel c)) ∧ (((s.part.channel c).firstWake = false ∧ (s.part.channel
      c).pending = false ∧ (s.part.channel c).bandCount < 49)) ∧ ((ReachesHaltLimit s.part c s.part.sfe.frame ∧
      (profileFor s.part c).haltLimit ≤ 255)) ∧ (thresholdOf s.part c / 2 ≤ nextDelta s.part readings c) ∧
      ((s.part.channel c).state = .idle ∧ nextDelta s.part readings c = thresholdOf s.part c / 2)) ∧
    (∃ (c : ChannelId) (s : State), (s.part.pln.stage = .running ∧ s.part.pwu.power = .active) ∧ (c.val ≠ 40) ∧
      (RunningChannel (s.part.channel c)) ∧ (((s.part.channel c).firstWake = false ∧ (s.part.channel c).pending =
      false)) ∧ (thresholdOf s.part c = 0 ∧ (s.part.channel c).bandCount = 48)) ∧
    (∃ (c : ChannelId) (s : State), (s.part.pln.stage = .running ∧ s.part.pwu.power = .active) ∧ (c.val ≠ 40) ∧
      (RunningChannel (s.part.channel c)) ∧ (((s.part.channel c).firstWake = false ∧ (s.part.channel c).pending =
      false)) ∧ (thresholdOf s.part c = 0 ∧ (s.part.channel c).bandCount = 49)) ∧
    (∃ (readings : List Nat) (c : ChannelId) (s : State), (s.part.pln.stage = .running ∧ s.part.pwu.power = .active)
      ∧ (c.val ≠ 40) ∧ (RunningChannel (s.part.channel c)) ∧ (((s.part.channel c).firstWake = false ∧ (s.part.channel
      c).pending = false)) ∧ (thresholdOf s.part c ≠ 0 ∧ (s.part.channel c).state = .idle ∧ nextDelta s.part readings
      c < thresholdOf s.part c / 2 ∧ InBand (profileFor s.part c) (followLta (s.part.channel c).lta (nextFiltered
      s.part readings c) (profileFor s.part c).activeBeta / 16))) ∧
    (∃ (readings : List Nat) (c : ChannelId) (s : State), (s.part.pln.stage = .running ∧ s.part.pwu.power = .active)
      ∧ (c.val ≠ 40) ∧ (RunningChannel (s.part.channel c)) ∧ (((s.part.channel c).firstWake = false ∧ (s.part.channel
      c).pending = false)) ∧ (thresholdOf s.part c ≠ 0 ∧ (s.part.channel c).state = .active ∧ releaseOf s.part c ≤
      nextDelta s.part readings c ∧ ¬ ReachesHaltLimit s.part c s.part.sfe.frame)) ∧
    (∃ (readings : List Nat) (c : ChannelId) (s : State), (s.part.pln.stage = .running ∧ s.part.pwu.power = .active)
      ∧ (c.val ≠ 40) ∧ (RunningChannel (s.part.channel c)) ∧ (((s.part.channel c).firstWake = false ∧ (s.part.channel
      c).pending = false)) ∧ (thresholdOf s.part c ≠ 0 ∧ (s.part.channel c).state = .idle ∧ nextDelta s.part readings
      c < thresholdOf s.part c / 2 ∧ ¬ InBand (profileFor s.part c) (followLta (s.part.channel c).lta (nextFiltered
      s.part readings c) (profileFor s.part c).activeBeta / 16) ∧ (s.part.channel c).bandCount = 49)) :=
  ⟨⟨List.replicate 41 2000, 4, ⟨(withChannel ready 4 { idleKey with bandCount := 48 }), []⟩, by decide +kernel⟩,
   ⟨List.replicate 41 1475, 4, ⟨(withChannel ready 4 { idleKey with lta := 25600, filtered := 23600 }), []⟩, by
     decide +kernel⟩,
   ⟨List.replicate 41 1475, 4, ⟨(withChannel ready 4
     { idleKey with state := .entering, lta := 25600, filtered := 23600, debounce := 1 }), []⟩, by decide +kernel⟩,
   ⟨List.replicate 41 1476, 4, ⟨(withChannel ready 4
     { idleKey with state := .entering, lta := 25600, filtered := 23616, debounce := 1 }), []⟩, by decide +kernel⟩,
   ⟨List.replicate 41 1205, 4, ⟨(withChannel ready 4
     { idleKey with state := .active, lta := 20480, filtered := 19280 }), []⟩, by decide +kernel⟩,
   ⟨List.replicate 41 1206, 4, ⟨(withChannel ready 4
     { idleKey with state := .active, lta := 20480, filtered := 19296 }), []⟩, by decide +kernel⟩,
   ⟨List.replicate 41 2000, 4, ⟨(withChannel ready 4 { idleKey with state := .leaving, debounce := 2 }), []⟩, by
     decide +kernel⟩,
   ⟨List.replicate 41 1475, 5, ⟨(withChannel ready 5
     { idleKey with state := .active, lta := 25600, filtered := 23600 }), []⟩, by decide +kernel⟩,
   ⟨List.replicate 41 1475, 5, ⟨(withChannel (withChannel ready 40 { idleKey with bandCount := 48 }) 5
     { idleKey with state := .active, lta := 25600, filtered := 23600 }), []⟩, by decide +kernel⟩,
   ⟨List.replicate 41 1475, 4, ⟨(withChannel ready 4
     { idleKey with state := .active, lta := 25600, filtered := 23600, haltTimer := 19990 }), []⟩, by decide +kernel⟩,
   ⟨List.replicate 41 1230, 4, ⟨(withChannel ready 4
     { idleKey with lta := 20480, filtered := 19680, haltTimer := 19990 }), []⟩, by decide +kernel⟩,
   ⟨4, ⟨(withChannel ready 4 { idleKey with lta := 12, bandCount := 48 }), []⟩, by decide +kernel⟩,
   ⟨4, ⟨(withChannel ready 4 { idleKey with lta := 12, bandCount := 49 }), []⟩, by decide +kernel⟩,
   ⟨List.replicate 41 2250, 4, ⟨(withChannel ready 4
     { idleKey with lta := 36000, filtered := 36000, bandCount := 49 }), []⟩, by decide +kernel⟩,
   ⟨List.replicate 41 1475, 4, ⟨(withChannel ready 4
     { idleKey with state := .active, lta := 25600, filtered := 23600, bandCount := 49 }), []⟩, by decide +kernel⟩,
   ⟨List.replicate 41 2251, 4, ⟨(withChannel ready 4
     { idleKey with lta := 36016, filtered := 36016, bandCount := 49 }), []⟩, by decide +kernel⟩⟩

/-- SensingFrameOfOtherChannels: inBand, standby, first, tie, good, outOfBand, key, follows, halted, idle, pending,
  fault. -/
theorem test_hyp_sensingFrameOfOtherChannels :
    (∃ (readings : List Nat) (s : State), (s.part.isHeld = false) ∧ (((s.part.channel 40).state = .idle ∧
      (s.part.channel 40).bandCount < 49)) ∧ (s.part.pwu.power ≠ .standby ∧ InBand s.part.sfe.reference (followLta
      (s.part.channel 40).lta (nextFiltered s.part readings 40) s.part.sfe.reference.activeBeta / 16))) ∧
    (∃ (readings : List Nat) (s : State), (s.part.isHeld = false) ∧ (((s.part.channel 40).state = .idle ∧
      (s.part.channel 40).bandCount < 49)) ∧ (s.part.pwu.power = .standby ∧ ¬ InBand s.part.sfe.reference (followLta
      (s.part.channel 40).lta (nextFiltered s.part readings 40) s.part.sfe.reference.standbyBeta / 16))) ∧
    (∃ (readings : List Nat) (c : ChannelId) (v : Nat) (b : Nat × Nat) (s : State), (s.part.isHeld = false) ∧
      (((s.part.channel c).state = .tuning ∧ (s.part.channel c).pending = false)) ∧ (s.part.pwu.power ≠ .standby ∨
      Part.kindOf c ≠ .key) ∧ (v = (s.part.channel c).kept + 2 ^ (7 - (s.part.channel c).step)) ∧ (b = bestTrialAfter
      s.part readings c v) ∧ ((s.part.channel c).step = 0)) ∧
    (∃ (readings : List Nat) (c : ChannelId) (v : Nat) (b : Nat × Nat) (s : State), (s.part.isHeld = false) ∧
      (((s.part.channel c).state = .tuning ∧ (s.part.channel c).pending = false)) ∧ (s.part.pwu.power ≠ .standby ∨
      Part.kindOf c ≠ .key) ∧ (v = (s.part.channel c).kept + 2 ^ (7 - (s.part.channel c).step)) ∧ (b = bestTrialAfter
      s.part readings c v) ∧ ((s.part.channel c).step = 6 ∧ distance 2001 (profileFor s.part c).target = distance
      1599 (profileFor s.part c).target)) ∧
    (∃ (readings : List Nat) (c : ChannelId) (v : Nat) (b : Nat × Nat) (s : State), (s.part.isHeld = false) ∧
      (((s.part.channel c).state = .tuning ∧ (s.part.channel c).pending = false)) ∧ (s.part.pwu.power ≠ .standby ∨
      Part.kindOf c ≠ .key) ∧ (v = (s.part.channel c).kept + 2 ^ (7 - (s.part.channel c).step)) ∧ (b = bestTrialAfter
      s.part readings c v) ∧ ((s.part.channel c).step = 7 ∧ InBand (profileFor s.part c) b.2)) ∧
    (∃ (readings : List Nat) (c : ChannelId) (v : Nat) (b : Nat × Nat) (s : State), (s.part.isHeld = false) ∧
      (((s.part.channel c).state = .tuning ∧ (s.part.channel c).pending = false)) ∧ (s.part.pwu.power ≠ .standby ∨
      Part.kindOf c ≠ .key) ∧ (v = (s.part.channel c).kept + 2 ^ (7 - (s.part.channel c).step)) ∧ (b = bestTrialAfter
      s.part readings c v) ∧ ((s.part.channel c).step = 7 ∧ ¬ InBand (profileFor s.part c) b.2)) ∧
    (∃ (c : ChannelId) (s : State), (s.part.isHeld = false) ∧ (((s.part.channel c).state = .fault ∧ (s.part.channel
      c).firstWake = false)) ∧ (s.part.pwu.power ≠ .standby ∨ Part.kindOf c ≠ .key)) ∧
    (∃ (c : ChannelId) (s : State), (s.part.isHeld = false) ∧ (((s.part.channel c).state = .fault ∧ (s.part.channel
      c).firstWake = false)) ∧ (s.part.pwu.power ≠ .standby ∨ Part.kindOf c ≠ .key)) ∧
    (∃ (readings : List Nat) (i : SeatId) (s : State), (s.part.pln.stage = .running ∧ s.part.pwu.power = .standby) ∧
      (Part.proximityChannel i = 5 ∧ (s.part.channel 5).state = .idle ∧ (s.part.channel 5).firstWake = false ∧
      (s.part.channel 5).pending = false ∧ (s.part.channel 5).bandCount < 49 ∧ ¬ ReachesHaltLimit s.part 5 200 ∧
      nextDelta s.part readings 5 < thresholdOf s.part 5 / 2)) ∧
    (∃ (readings : List Nat) (i : SeatId) (s : State), (s.part.pln.stage = .running ∧ s.part.pwu.power = .standby) ∧
      (Part.proximityChannel i = 5 ∧ (s.part.channel 5).state = .idle ∧ (s.part.channel 5).firstWake = false ∧
      (s.part.channel 5).pending = false ∧ (s.part.channel 5).bandCount < 49 ∧ ¬ ReachesHaltLimit s.part 5 200 ∧
      nextDelta s.part readings 5 = thresholdOf s.part 5 / 2)) ∧
    (∃ (i : SeatId) (c : ChannelId) (s : State), (s.part.pln.stage = .running ∧ s.part.pwu.power = .waking) ∧ (c =
      Part.keyChannel i) ∧ ((s.part.channel c).firstWake = true) ∧ ((s.part.channel c).state = .idle ∧
      (s.part.channel c).pending = false)) ∧
    (∃ (readings : List Nat) (i : SeatId) (c : ChannelId) (s : State), (s.part.pln.stage = .running ∧
      s.part.pwu.power = .waking) ∧ (c = Part.keyChannel i) ∧ ((s.part.channel c).firstWake = true) ∧
      ((s.part.channel c).state = .idle ∧ (s.part.channel c).pending = true ∧ (profileFor s.part c).target <
      frameCount readings c)) ∧
    (∃ (i : SeatId) (c : ChannelId) (s : State), (s.part.pln.stage = .running ∧ s.part.pwu.power = .waking) ∧ (c =
      Part.keyChannel i) ∧ ((s.part.channel c).firstWake = true) ∧ ((s.part.channel c).state = .fault ∧
      (s.part.channel c).pending = true)) :=
  ⟨⟨List.replicate 41 2250, ⟨(withChannel ready 40
     { idleKey with lta := 36000, filtered := 36000, bandCount := 48 }), []⟩, by decide +kernel⟩,
   ⟨List.replicate 41 2251, ⟨(withChannel (ready.setPower .standby) 40
     { idleKey with lta := 36016, filtered := 36016, bandCount := 48 }), []⟩, by decide +kernel⟩,
   ⟨List.replicate 41 2000, 4, 128, (128, 2000), ⟨(withChannel ready 4 { idleKey with state := .tuning, step := 0 }),
     []⟩, by decide +kernel⟩,
   ⟨List.replicate 41 2001, 5, 6, (6, 2001), ⟨(withChannel (ready.setPower .standby) 5
     { idleKey with state := .tuning, step := 6, kept := 4, best := some (8, 1599) }), []⟩, by decide +kernel⟩,
   ⟨List.replicate 41 2251, 4, 5, (8, 2250), ⟨(withChannel ready 4
     { idleKey with state := .tuning, step := 7, kept := 4, best := some (8, 2250) }), []⟩, by decide +kernel⟩,
   ⟨List.replicate 41 2252, 4, 5, (8, 2251), ⟨(withChannel ready 4
     { idleKey with state := .tuning, step := 7, kept := 4, best := some (8, 2251) }), []⟩, by decide +kernel⟩,
   ⟨4, ⟨(withChannel ready 4 { idleKey with state := .fault }), []⟩, by decide +kernel⟩,
   ⟨5, ⟨(withChannel (ready.setPower .standby) 5 { idleKey with state := .fault }), []⟩, by decide +kernel⟩,
   ⟨List.replicate 41 2000, 2, ⟨(withChannel (ready.setPower .standby) 5 { idleKey with bandCount := 48 }), []⟩, by
     decide +kernel⟩,
   ⟨List.replicate 41 1563, 2, ⟨(withChannel (ready.setPower .standby) 5
     { idleKey with lta := 25608, filtered := 25008 }), []⟩, by decide +kernel⟩,
   ⟨2, 4, ⟨(withChannel (ready.setPower .waking) 4 { idleKey with firstWake := true }), []⟩, by decide +kernel⟩,
   ⟨List.replicate 41 2001, 0, 0, ⟨(withChannel (ready.setPower .waking) 0
     { idleKey with firstWake := true, pending := true }), []⟩, by decide +kernel⟩,
   ⟨19, 38, ⟨(withChannel (ready.setPower .waking) 38
     { idleKey with state := .fault, firstWake := true, pending := true }), []⟩, by decide +kernel⟩⟩

/-- ReseedAndBandCheck: all, pending, lowered, held. -/
theorem test_hyp_reseedAndBandCheck :
    (∃ (c : ChannelId) (s : State), (s.part.isHeld = false) ∧ (Part.kindOf c ≠ .reference) ∧ (((s.part.channel
      c).state = .idle ∨ (s.part.channel c).state = .entering ∨ (s.part.channel c).state = .active ∨ (s.part.channel
      c).state = .leaving)) ∧ (((s.part.profileOf (Part.kindOf c)).haltLimit ≠ 0 ∧ (s.part.profileOf (Part.kindOf
      c)).haltLimit * 1000 ≤ (s.part.channel c).haltTimer)) ∧ ((s.part.channel c).haltTested = (s.part.profileOf
      (Part.kindOf c)).haltLimit)) ∧
    (∃ (c : ChannelId) (s : State), (s.part.isHeld = false) ∧ (Part.kindOf c ≠ .reference) ∧ (((s.part.channel
      c).state = .idle ∨ (s.part.channel c).state = .entering ∨ (s.part.channel c).state = .active ∨ (s.part.channel
      c).state = .leaving)) ∧ (((s.part.profileOf (Part.kindOf c)).haltLimit ≠ 0 ∧ (s.part.profileOf (Part.kindOf
      c)).haltLimit * 1000 ≤ (s.part.channel c).haltTimer)) ∧ ((s.part.channel c).haltTested = (s.part.profileOf
      (Part.kindOf c)).haltLimit ∧ (s.part.channel c).pending = true)) ∧
    (∃ (c : ChannelId) (s : State), (s.part.isHeld = false) ∧ (Part.kindOf c ≠ .reference) ∧ (((s.part.channel
      c).state = .idle ∨ (s.part.channel c).state = .entering ∨ (s.part.channel c).state = .active ∨ (s.part.channel
      c).state = .leaving)) ∧ (((s.part.profileOf (Part.kindOf c)).haltLimit ≠ 0 ∧ (s.part.profileOf (Part.kindOf
      c)).haltLimit * 1000 ≤ (s.part.channel c).haltTimer)) ∧ ((s.part.channel c).haltTested ≠ (s.part.profileOf
      (Part.kindOf c)).haltLimit ∧ Settled s.part)) ∧
    (∃ (c : ChannelId) (s : State), (s.part.isHeld = false) ∧ (Settled s.part) ∧ (((s.part.channel c).state ≠ .off ∧
      (s.part.channel c).state ≠ .tuning ∧ (s.part.channel c).state ≠ .fault)) ∧ (50 ≤ (s.part.channel c).bandCount)) ∧
    (∃ (c : ChannelId) (s : State), (s.part.isHeld = false) ∧ (Settled s.part) ∧ (((s.part.channel c).state ≠ .off ∧
      (s.part.channel c).state ≠ .tuning ∧ (s.part.channel c).state ≠ .fault)) ∧ (50 ≤ (s.part.channel c).bandCount)) :=
  ⟨⟨0, ⟨(withChannel ready 0 { idleKey with state := .active, haltTimer := 20000, haltTested := 20 }), []⟩, by
     decide +kernel⟩,
   ⟨38, ⟨(withChannel ready 38
     { idleKey with state := .leaving, haltTimer := 20000, haltTested := 20, pending := true }), []⟩, by
     decide +kernel⟩,
   ⟨0, ⟨(withChannel ready 0 { idleKey with state := .active, haltTimer := 20000, haltTested := 21 }), []⟩, by
     decide +kernel⟩,
   ⟨40, ⟨(withChannel ready 40 { idleKey with bandCount := 50 }), []⟩, by decide +kernel⟩,
   ⟨1, ⟨(withChannel ready 1 { idleKey with state := .leaving, bandCount := 50 }), []⟩, by decide +kernel⟩⟩

/-- RetuneCompletes: inBand, outOfBand, all. -/
theorem test_hyp_retuneCompletes :
    (∃ (c : ChannelId) (v : Nat) (r : Nat) (s : State), (s.part.pln.stage = .running) ∧ (((s.part.channel c).state =
      .tuning ∧ 8 ≤ (s.part.channel c).step ∧ (s.part.channel c).pending = false)) ∧ ((s.part.channel c).best = some
      (v, r)) ∧ (distance r (s.part.profileOf (Part.kindOf c)).target ≤ (s.part.profileOf (Part.kindOf c)).target *
      (s.part.profileOf (Part.kindOf c)).band / 256)) ∧
    (∃ (c : ChannelId) (v : Nat) (r : Nat) (s : State), (s.part.pln.stage = .running) ∧ (((s.part.channel c).state =
      .tuning ∧ 8 ≤ (s.part.channel c).step ∧ (s.part.channel c).pending = false)) ∧ ((s.part.channel c).best = some
      (v, r)) ∧ ((s.part.profileOf (Part.kindOf c)).target * (s.part.profileOf (Part.kindOf c)).band / 256 < distance
      r (s.part.profileOf (Part.kindOf c)).target)) ∧
    (∃ (c : ChannelId) (s : State), (s.part.pln.stage = .retuning) ∧ (((s.part.channel c).state = .tuning ∧ 8 ≤
      (s.part.channel c).step ∧ (s.part.channel c).pending = false)) ∧ ((∀ d, d ≠ c → (s.part.channel d).state ≠
      .tuning)) ∧ (s.part.pwu.power ≠ .active)) :=
  ⟨⟨4, 255, 2250, ⟨(withChannel ready 4 { idleKey with state := .tuning, step := 8, best := some (255, 2250) }), []⟩,
     by decide +kernel⟩,
   ⟨40, 1, 2251, ⟨(withChannel ready 40 { idleKey with state := .tuning, step := 8, best := some (1, 2251) }), []⟩,
     by decide +kernel⟩,
   ⟨40, ⟨(withChannel ((staged .retuning).setPower .waking) 40
     { idleKey with state := .tuning, step := 8, best := some (128, 2000) }), []⟩, by decide +kernel⟩⟩

/-- ReportsReachSeats: quiet, arrives, leaves, leavesAtOnce, fault, quorum, below. -/
theorem test_hyp_reportsReachSeats :
    (∃ (readings : List Nat) (i : SeatId) (c : ChannelId) (s : State), (s.part.pln.stage = .running ∧
      s.part.pwu.power = .active) ∧ (c = Part.proximityChannel i ∧ ∀ d : ChannelId, d ≠ c → d.val ≠ 40 → QuietChannel
      s.part readings d) ∧ (¬ ReachesHaltLimit s.part c s.part.sfe.frame) ∧ ((s.part.seat s.part.chairSeat).key =
      .up) ∧ (QuietChannel s.part readings c)) ∧
    (∃ (readings : List Nat) (i : SeatId) (c : ChannelId) (s : State), (s.part.pln.stage = .running ∧
      s.part.pwu.power = .active) ∧ (c = Part.proximityChannel i ∧ ∀ d : ChannelId, d ≠ c → d.val ≠ 40 → QuietChannel
      s.part readings d) ∧ (¬ ReachesHaltLimit s.part c s.part.sfe.frame) ∧ ((s.part.seat s.part.chairSeat).key =
      .up) ∧ (EntersActive s.part readings c s.part.sfe.frame ∧ (s.part.seat i).presence = .away)) ∧
    (∃ (readings : List Nat) (i : SeatId) (c : ChannelId) (s : State), (s.part.pln.stage = .running ∧
      s.part.pwu.power = .active) ∧ (c = Part.proximityChannel i ∧ ∀ d : ChannelId, d ≠ c → d.val ≠ 40 → QuietChannel
      s.part readings d) ∧ (¬ ReachesHaltLimit s.part c s.part.sfe.frame) ∧ ((s.part.seat s.part.chairSeat).key =
      .up) ∧ (LeavesActive s.part readings c s.part.sfe.frame ∧ (s.part.seat i).presence = .occupied ∧
      s.part.smn.grace ≠ 0)) ∧
    (∃ (readings : List Nat) (i : SeatId) (c : ChannelId) (s : State), (s.part.pln.stage = .running ∧
      s.part.pwu.power = .active) ∧ (c = Part.proximityChannel i ∧ ∀ d : ChannelId, d ≠ c → d.val ≠ 40 → QuietChannel
      s.part readings d) ∧ (¬ ReachesHaltLimit s.part c s.part.sfe.frame) ∧ ((s.part.seat s.part.chairSeat).key =
      .up) ∧ (LeavesActive s.part readings c s.part.sfe.frame ∧ (s.part.seat i).presence = .unknown ∧
      s.part.smn.grace = 0)) ∧
    (∃ (readings : List Nat) (i : SeatId) (c : ChannelId) (s : State), (s.part.pln.stage = .running ∧
      s.part.pwu.power = .active) ∧ (c = Part.proximityChannel i ∧ ∀ d : ChannelId, d ≠ c → d.val ≠ 40 → QuietChannel
      s.part readings d) ∧ (¬ ReachesHaltLimit s.part c s.part.sfe.frame) ∧ ((s.part.seat s.part.chairSeat).key =
      .up) ∧ ((s.part.channel c).state = .tuning ∧ (s.part.channel c).step = 7 ∧ (s.part.channel c).best = none ∧ ¬
      InBand (profileFor s.part c) (frameCount readings c))) ∧
    (∃ (readings : List Nat) (i : SeatId) (c : ChannelId) (x : Session) (b : Booking) (s : State), (s.part.pln.stage
      = .running ∧ s.part.pwu.power = .active) ∧ (c = Part.proximityChannel i ∧ ∀ d : ChannelId, d ≠ c → d.val ≠ 40 →
      QuietChannel s.part readings d) ∧ (EntersActive s.part readings c s.part.sfe.frame) ∧ ((s.part.seat
      s.part.chairSeat).key = .up) ∧ (((s.part.seat i).presence = .vacant ∧ (s.part.seat i).installed = true ∧
      s.part.smn.occupied = s.part.occupiedSeats)) ∧ (s.part.ssu.session = some x ∧ x.state = .awaiting ∧ x.copy =
      some b) ∧ (s.part.now + s.part.ssu.params.warning < x.effEnd) ∧ (b.quorum = s.part.smn.occupied + 1)) ∧
    (∃ (readings : List Nat) (i : SeatId) (c : ChannelId) (x : Session) (b : Booking) (s : State), (s.part.pln.stage
      = .running ∧ s.part.pwu.power = .active) ∧ (c = Part.proximityChannel i ∧ ∀ d : ChannelId, d ≠ c → d.val ≠ 40 →
      QuietChannel s.part readings d) ∧ (EntersActive s.part readings c s.part.sfe.frame) ∧ ((s.part.seat
      s.part.chairSeat).key = .up) ∧ (((s.part.seat i).presence = .vacant ∧ (s.part.seat i).installed = true ∧
      s.part.smn.occupied = s.part.occupiedSeats)) ∧ (s.part.ssu.session = some x ∧ x.state = .awaiting ∧ x.copy =
      some b) ∧ (s.part.now + s.part.ssu.params.warning < x.effEnd) ∧ (s.part.smn.occupied + 1 < b.quorum)) :=
  ⟨⟨List.replicate 41 2000, 2, 5, ⟨(withChannel ready 5 { idleKey with firstWake := false }), []⟩, by decide +kernel,
     ⟨by decide +kernel, quietOthers _ _ _ (by decide +kernel)⟩, by decide +kernel⟩,
   ⟨List.replicate 41 1475, 2, 5, ⟨(withChannel (withSeat ready 2 fun x => { x with presence := .away }) 5
     { idleKey with state := .entering, lta := 25600, filtered := 23600, debounce := 3 }), []⟩, by decide +kernel,
     ⟨by decide +kernel, quietOthers _ _ _ (by decide +kernel)⟩, by decide +kernel⟩,
   ⟨List.replicate 41 2000, 2, 5, ⟨(withChannel (withSeat ready 2 fun x => { x with presence := .occupied }) 5
     { idleKey with state := .leaving, debounce := 7 }), []⟩, by decide +kernel, ⟨by decide +kernel, quietOthers _ _
     _ (by decide +kernel)⟩, by decide +kernel⟩,
   ⟨List.replicate 41 2000, 2, 5, ⟨(withChannel ((withSeat ready 2 fun x => { x with presence := .unknown }) |> fun p
     => p.withSmn { p.smn with grace := 0 }) 5 { idleKey with state := .leaving, debounce := 7 }), []⟩, by
     decide +kernel, ⟨by decide +kernel, quietOthers _ _ _ (by decide +kernel)⟩, by decide +kernel⟩,
   ⟨List.replicate 41 4095, 2, 5, ⟨(withChannel (withSeat ready 2 fun x => { x with presence := .occupied }) 5
     { idleKey with state := .tuning, step := 7, held := .active }), []⟩, by decide +kernel, ⟨by decide +kernel,
     quietOthers _ _ _ (by decide +kernel)⟩, by decide +kernel⟩,
   ⟨List.replicate 41 1475, 2, 5,
     { openSession with state := .awaiting, effEnd := 6, copy := some { aBooking with quorum := 1 } },
     { aBooking with quorum := 1 }, ⟨(withChannel (withSession ready
     { openSession with state := .awaiting, effEnd := 6, copy := some { aBooking with quorum := 1 } }) 5
     { idleKey with state := .entering, lta := 25600, filtered := 23600, debounce := 3 }), []⟩, by decide +kernel,
     ⟨by decide +kernel, quietOthers _ _ _ (by decide +kernel)⟩, by decide +kernel⟩,
   ⟨List.replicate 41 1475, 2, 5,
     { openSession with state := .awaiting, effEnd := 6, copy := some { aBooking with quorum := 2 } },
     { aBooking with quorum := 2 }, ⟨(withChannel (withSession ready
     { openSession with state := .awaiting, effEnd := 6, copy := some { aBooking with quorum := 2 } }) 5
     { idleKey with state := .entering, lta := 25600, filtered := 23600, debounce := 3 }), []⟩, by decide +kernel,
     ⟨by decide +kernel, quietOthers _ _ _ (by decide +kernel)⟩, by decide +kernel⟩⟩

/-- KeysMakeGestures: stray, chair, closed, queued, closes, granted, joins, delegate, taken, opens, hold, full. -/
theorem test_hyp_keysMakeGestures :
    (∃ (readings : List Nat) (i : SeatId) (c : ChannelId) (s : State), (s.part.pln.stage = .running ∧
      s.part.pwu.power = .active) ∧ (c = Part.keyChannel i ∧ ∀ d : ChannelId, d ≠ c → d.val ≠ 40 → QuietChannel
      s.part readings d) ∧ (EntersActive s.part readings c s.part.sfe.frame) ∧ (((s.part.seat i).key = .up ∧
      (s.part.seat s.part.chairSeat).key = .up)) ∧ (Settled s.part) ∧ (s.part.presentForKey i = false)) ∧
    (∃ (readings : List Nat) (i : SeatId) (c : ChannelId) (s : State), (s.part.pln.stage = .running ∧
      s.part.pwu.power = .active) ∧ (c = Part.keyChannel i ∧ ∀ d : ChannelId, d ≠ c → d.val ≠ 40 → QuietChannel
      s.part readings d) ∧ (EntersActive s.part readings c s.part.sfe.frame) ∧ (((s.part.seat i).key = .up ∧
      (s.part.seat s.part.chairSeat).key = .up)) ∧ (Settled s.part) ∧ (s.part.presentForKey i = true ∧ i =
      s.part.chairSeat)) ∧
    (∃ (readings : List Nat) (i : SeatId) (c : ChannelId) (s : State), (s.part.pln.stage = .running ∧
      s.part.pwu.power = .active) ∧ (c = Part.keyChannel i ∧ ∀ d : ChannelId, d ≠ c → d.val ≠ 40 → QuietChannel
      s.part readings d) ∧ (EntersActive s.part readings c s.part.sfe.frame) ∧ (((s.part.seat i).key = .up ∧
      (s.part.seat s.part.chairSeat).key = .up)) ∧ (Settled s.part) ∧ (s.part.presentForKey i = true ∧ i ≠
      s.part.chairSeat ∧ s.part.flc.isOpen = false)) ∧
    (∃ (readings : List Nat) (i : SeatId) (c : ChannelId) (s : State), (s.part.pln.stage = .running ∧
      s.part.pwu.power = .active) ∧ (c = Part.keyChannel i ∧ ∀ d : ChannelId, d ≠ c → d.val ≠ 40 → QuietChannel
      s.part readings d) ∧ (EntersActive s.part readings c s.part.sfe.frame) ∧ (((s.part.seat i).key = .up ∧
      (s.part.seat s.part.chairSeat).key = .up)) ∧ (Settled s.part) ∧ (s.part.presentForKey i = true ∧ i ≠
      s.part.chairSeat ∧ s.part.flc.isOpen = true ∧ s.part.isQueued i = true)) ∧
    (∃ (readings : List Nat) (i : SeatId) (c : ChannelId) (s : State), (s.part.pln.stage = .running ∧
      s.part.pwu.power = .active) ∧ (c = Part.keyChannel i ∧ ∀ d : ChannelId, d ≠ c → d.val ≠ 40 → QuietChannel
      s.part readings d) ∧ (EntersActive s.part readings c s.part.sfe.frame) ∧ (((s.part.seat i).key = .up ∧
      (s.part.seat s.part.chairSeat).key = .up)) ∧ (Settled s.part) ∧ (s.part.presentForKey i = true ∧ i ≠
      s.part.chairSeat ∧ s.part.flc.isOpen = true ∧ s.part.isQueued i = false ∧ s.part.slotOf i = some 6 ∧
      Part.isOpenState (s.part.slot 6).state = true)) ∧
    (∃ (readings : List Nat) (i : SeatId) (c : ChannelId) (s : State), (s.part.pln.stage = .running ∧
      s.part.pwu.power = .active) ∧ (c = Part.keyChannel i ∧ ∀ d : ChannelId, d ≠ c → d.val ≠ 40 → QuietChannel
      s.part readings d) ∧ (EntersActive s.part readings c s.part.sfe.frame) ∧ (((s.part.seat i).key = .up ∧
      (s.part.seat s.part.chairSeat).key = .up)) ∧ (Settled s.part) ∧ (s.part.presentForKey i = true ∧ i ≠
      s.part.chairSeat ∧ s.part.flc.isOpen = true ∧ s.part.flc.queue = [] ∧ s.part.slotOf i = none ∧ s.part.flc.mode
      ≠ .chair ∧ s.part.available = some 1)) ∧
    (∃ (readings : List Nat) (i : SeatId) (c : ChannelId) (s : State), (s.part.pln.stage = .running ∧
      s.part.pwu.power = .active) ∧ (c = Part.keyChannel i ∧ ∀ d : ChannelId, d ≠ c → d.val ≠ 40 → QuietChannel
      s.part readings d) ∧ (EntersActive s.part readings c s.part.sfe.frame) ∧ (((s.part.seat i).key = .up ∧
      (s.part.seat s.part.chairSeat).key = .up)) ∧ (Settled s.part) ∧ (s.part.presentForKey i = true ∧ i ≠
      s.part.chairSeat ∧ s.part.flc.isOpen = true ∧ s.part.isQueued i = false ∧ s.part.slotOf i = none ∧
      s.part.flc.mode = .chair ∧ s.part.flc.queue.length = 15)) ∧
    (∃ (readings : List Nat) (i : SeatId) (c : ChannelId) (s : State), (s.part.pln.stage = .running ∧
      s.part.pwu.power = .active) ∧ (c = Part.keyChannel i ∧ ∀ d : ChannelId, d ≠ c → d.val ≠ 40 → QuietChannel
      s.part readings d) ∧ (LeavesActive s.part readings c s.part.sfe.frame) ∧ (((s.part.seat i).key = .down ∧ (i ≠
      s.part.chairSeat → (s.part.seat s.part.chairSeat).key = .up))) ∧ (Settled s.part) ∧ (i ≠ s.part.chairSeat)) ∧
    (∃ (readings : List Nat) (i : SeatId) (c : ChannelId) (s : State), (s.part.pln.stage = .running ∧
      s.part.pwu.power = .active) ∧ (c = Part.keyChannel i ∧ ∀ d : ChannelId, d ≠ c → d.val ≠ 40 → QuietChannel
      s.part readings d) ∧ (LeavesActive s.part readings c s.part.sfe.frame) ∧ (((s.part.seat i).key = .down ∧ (i ≠
      s.part.chairSeat → (s.part.seat s.part.chairSeat).key = .up))) ∧ (Settled s.part) ∧ (i = s.part.chairSeat ∧
      (s.part.seat i).nextTaken = true)) ∧
    (∃ (readings : List Nat) (i : SeatId) (c : ChannelId) (s : State), (s.part.pln.stage = .running ∧
      s.part.pwu.power = .active) ∧ (c = Part.keyChannel i ∧ ∀ d : ChannelId, d ≠ c → d.val ≠ 40 → QuietChannel
      s.part readings d) ∧ (LeavesActive s.part readings c s.part.sfe.frame) ∧ (((s.part.seat i).key = .down ∧ (i ≠
      s.part.chairSeat → (s.part.seat s.part.chairSeat).key = .up))) ∧ (Settled s.part) ∧ (i = s.part.chairSeat ∧
      (s.part.seat i).mark = .accepted ∧ (s.part.seat i).nextTaken = false ∧ (s.part.seat i).press + s.part.sfe.frame
      < 2000 ∧ s.part.flc.isOpen = false)) ∧
    (∃ (readings : List Nat) (i : SeatId) (c : ChannelId) (s : State), (s.part.pln.stage = .running ∧
      s.part.pwu.power = .active) ∧ (c = Part.keyChannel i ∧ ∀ d : ChannelId, d ≠ c → d.val ≠ 40 → QuietChannel
      s.part readings d) ∧ (LeavesActive s.part readings c s.part.sfe.frame) ∧ (((s.part.seat i).key = .down ∧ (i ≠
      s.part.chairSeat → (s.part.seat s.part.chairSeat).key = .up))) ∧ (Settled s.part) ∧ (i = s.part.chairSeat ∧
      (s.part.seat i).mark = .accepted ∧ (s.part.seat i).nextTaken = false ∧ (s.part.seat i).press + s.part.sfe.frame
      < 2000 ∧ s.part.flc.isOpen = true ∧ Part.isOpenState (s.part.slot 0).state = false)) ∧
    (∃ (readings : List Nat) (i : SeatId) (c : ChannelId) (s : State), (s.part.pln.stage = .running ∧
      s.part.pwu.power = .active) ∧ (c = Part.keyChannel i ∧ ∀ d : ChannelId, d ≠ c → d.val ≠ 40 → QuietChannel
      s.part readings d) ∧ (LeavesActive s.part readings c s.part.sfe.frame) ∧ (((s.part.seat i).key = .down ∧ (i ≠
      s.part.chairSeat → (s.part.seat s.part.chairSeat).key = .up))) ∧ (Settled s.part) ∧ (i = s.part.chairSeat ∧
      (s.part.seat i).mark = .accepted ∧ (s.part.seat i).nextTaken = false ∧ (s.part.seat i).press + s.part.sfe.frame
      < 2000 ∧ s.part.flc.isOpen = true ∧ Part.isOpenState (s.part.slot 0).state = true)) ∧
    (∃ (readings : List Nat) (i : SeatId) (s : State), (s.part.pln.stage = .running ∧ s.part.pwu.power = .active) ∧
      (∀ d : ChannelId, d.val ≠ 40 → QuietChannel s.part readings d) ∧ (((s.part.seat i).key = .down ∧
      (s.part.channel (Part.keyChannel i)).state ≠ .off)) ∧ (i = s.part.chairSeat ∧ (s.part.seat i).mark = .accepted
      ∧ (s.part.seat i).press + s.part.sfe.frame = 2000)) ∧
    (∃ (readings : List Nat) (i : SeatId) (s : State), (s.part.pln.stage = .running ∧ s.part.pwu.power = .active) ∧
      (∀ d : ChannelId, d.val ≠ 40 → QuietChannel s.part readings d) ∧ (((s.part.seat i).key = .down ∧
      (s.part.channel (Part.keyChannel i)).state ≠ .off)) ∧ (i ≠ s.part.chairSeat)) :=
  ⟨⟨List.replicate 41 1475, 2, 4, ⟨(withChannel ready 4
     { idleKey with state := .entering, lta := 25600, filtered := 23600, debounce := 1 }), []⟩, by decide +kernel,
     ⟨by decide +kernel, quietOthers _ _ _ (by decide +kernel)⟩, by decide +kernel⟩,
   ⟨List.replicate 41 1475, 0, 0, ⟨(withChannel meeting 0
     { idleKey with state := .entering, lta := 25600, filtered := 23600, debounce := 1 }), []⟩, by decide +kernel,
     ⟨by decide +kernel, quietOthers _ _ _ (by decide +kernel)⟩, by decide +kernel⟩,
   ⟨List.replicate 41 1475, 2, 4, ⟨(withChannel (meeting.withFlc ready.flc) 4
     { idleKey with state := .entering, lta := 25600, filtered := 23600, debounce := 1 }), []⟩, by decide +kernel,
     ⟨by decide +kernel, quietOthers _ _ _ (by decide +kernel)⟩, by decide +kernel⟩,
   ⟨List.replicate 41 1475, 2, 4, ⟨(withChannel (withQueue meeting [entry 2]) 4
     { idleKey with state := .entering, lta := 25600, filtered := 23600, debounce := 1 }), []⟩, by decide +kernel,
     ⟨by decide +kernel, quietOthers _ _ _ (by decide +kernel)⟩, by decide +kernel⟩,
   ⟨List.replicate 41 1475, 2, 4, ⟨(withChannel (withSlot meeting 6 .opening 2) 4
     { idleKey with state := .entering, lta := 25600, filtered := 23600, debounce := 1 }), []⟩, by decide +kernel,
     ⟨by decide +kernel, quietOthers _ _ _ (by decide +kernel)⟩, by decide +kernel⟩,
   ⟨List.replicate 41 1475, 2, 4, ⟨(withChannel meeting 4
     { idleKey with state := .entering, lta := 25600, filtered := 23600, debounce := 1 }), []⟩, by decide +kernel,
     ⟨by decide +kernel, quietOthers _ _ _ (by decide +kernel)⟩, by decide +kernel⟩,
   ⟨List.replicate 41 1475, 2, 4, ⟨(withChannel (withQueue (meeting.withFlc { meeting.flc with mode := .chair })
     ((List.finRange 20).drop 3 |>.take 15 |>.map entry)) 4
     { idleKey with state := .entering, lta := 25600, filtered := 23600, debounce := 1 }), []⟩, by decide +kernel,
     ⟨by decide +kernel, quietOthers _ _ _ (by decide +kernel)⟩, by decide +kernel⟩,
   ⟨List.replicate 41 2000, 2, 4, ⟨(withChannel (withSeat meeting 2 fun x =>
     { x with key := .down, mark := .accepted, press := 65535 }) 4
     { idleKey with state := .leaving, debounce := 2 }), []⟩, by decide +kernel, ⟨by decide +kernel, quietOthers _ _
     _ (by decide +kernel)⟩, by decide +kernel⟩,
   ⟨List.replicate 41 2000, 0, 0, ⟨(withChannel (withSeat meeting 0 fun x =>
     { x with key := .down, mark := .accepted, press := 2000, nextTaken := true }) 0
     { idleKey with state := .leaving, debounce := 2 }), []⟩, by decide +kernel, ⟨by decide +kernel, quietOthers _ _
     _ (by decide +kernel)⟩, by decide +kernel⟩,
   ⟨List.replicate 41 2000, 0, 0, ⟨(withChannel (withSeat ready 0 fun x =>
     { x with key := .down, mark := .accepted, press := 1989 }) 0 { idleKey with state := .leaving, debounce := 2 }),
     []⟩, by decide +kernel, ⟨by decide +kernel, quietOthers _ _ _ (by decide +kernel)⟩, by decide +kernel⟩,
   ⟨List.replicate 41 2000, 0, 0, ⟨(withChannel (withSeat meeting 0 fun x =>
     { x with key := .down, mark := .accepted, press := 1989 }) 0 { idleKey with state := .leaving, debounce := 2 }),
     []⟩, by decide +kernel, ⟨by decide +kernel, quietOthers _ _ _ (by decide +kernel)⟩, by decide +kernel⟩,
   ⟨List.replicate 41 2000, 0, 0, ⟨(withChannel (withSeat (withSlot meeting 0 .live 0) 0 fun x =>
     { x with key := .down, mark := .accepted, press := 0 }) 0 { idleKey with state := .leaving, debounce := 2 }),
     []⟩, by decide +kernel, ⟨by decide +kernel, quietOthers _ _ _ (by decide +kernel)⟩, by decide +kernel⟩,
   ⟨List.replicate 41 2000, 0, ⟨(withSeat (withChannel ready 0 { idleKey with state := .fault }) 0 fun x =>
     { x with key := .down, mark := .accepted, press := 1990 }), []⟩, by decide +kernel, quietAll _ _ (by
     decide +kernel), by decide +kernel⟩,
   ⟨List.replicate 41 2000, 19, ⟨(withSeat (withChannel ready 38 { idleKey with state := .fault }) 19 fun x =>
     { x with key := .down, mark := .accepted, press := 65530 }), []⟩, by decide +kernel, quietAll _ _ (by
     decide +kernel), by decide +kernel⟩⟩

/-- AbsenceGraceAndChairNext: all, session, closed, emptyQueue, noSlot, granted, ineligible. -/
theorem test_hyp_absenceGraceAndChairNext :
    (∃ (i : SeatId) (s : State), (s.part.isHeld = false) ∧ (((s.part.seat i).presence = .away ∧ s.part.smn.grace ≤
      (s.part.seat i).absence)) ∧ (s.part.slotOf i = some 1)) ∧
    (∃ (i : SeatId) (s : State), (s.part.isHeld = false) ∧ (((s.part.seat i).presence = .away ∧ s.part.smn.grace ≤
      (s.part.seat i).absence)) ∧ (s.part.slotOf i = some 6 ∧ Part.isOpenState (s.part.slot 6).state = true ∧ ∃ x ∈
      s.part.ssu.session, Part.runningState x.state = true)) ∧
    (∃ (s : State), (s.part.isHeld = false) ∧ (Settled s.part) ∧ (((s.part.seat s.part.chairSeat).key = .down ∧
      (s.part.seat s.part.chairSeat).mark = .accepted ∧ (s.part.seat s.part.chairSeat).nextTaken = false ∧ 2000 ≤
      (s.part.seat s.part.chairSeat).press)) ∧ (s.part.flc.isOpen = false)) ∧
    (∃ (s : State), (s.part.isHeld = false) ∧ (Settled s.part) ∧ (((s.part.seat s.part.chairSeat).key = .down ∧
      (s.part.seat s.part.chairSeat).mark = .accepted ∧ (s.part.seat s.part.chairSeat).nextTaken = false ∧ 2000 ≤
      (s.part.seat s.part.chairSeat).press)) ∧ (s.part.flc.isOpen = true ∧ s.part.flc.queue = [])) ∧
    (∃ (s : State), (s.part.isHeld = false) ∧ (Settled s.part) ∧ (((s.part.seat s.part.chairSeat).key = .down ∧
      (s.part.seat s.part.chairSeat).mark = .accepted ∧ (s.part.seat s.part.chairSeat).nextTaken = false ∧ 2000 ≤
      (s.part.seat s.part.chairSeat).press)) ∧ (s.part.flc.isOpen = true ∧ s.part.flc.queue ≠ [] ∧ s.part.available =
      none)) ∧
    (∃ (s : State), (s.part.isHeld = false) ∧ (Settled s.part) ∧ (((s.part.seat s.part.chairSeat).key = .down ∧
      (s.part.seat s.part.chairSeat).mark = .accepted ∧ (s.part.seat s.part.chairSeat).nextTaken = false ∧ 2000 ≤
      (s.part.seat s.part.chairSeat).press)) ∧ (∃ k, ∃ e ∈ s.part.flc.queue.head?, s.part.flc.isOpen = true ∧
      s.part.available = some k ∧ s.part.isDelegate e.seat = true ∧ s.part.presentForKey e.seat = true ∧
      s.part.slotOf e.seat = none)) ∧
    (∃ (s : State), (s.part.isHeld = false) ∧ (Settled s.part) ∧ (((s.part.seat s.part.chairSeat).key = .down ∧
      (s.part.seat s.part.chairSeat).mark = .accepted ∧ (s.part.seat s.part.chairSeat).nextTaken = false ∧ 2000 ≤
      (s.part.seat s.part.chairSeat).press)) ∧ (s.part.flc.isOpen = true ∧ s.part.available ≠ none ∧ ∃ e ∈
      s.part.flc.queue.head?, s.part.slotOf e.seat ≠ none)) :=
  ⟨⟨19, ⟨(withSlot (withSeat ready 19 fun x => { x with presence := .away, absence := 8 }) 1 .live 19), []⟩, by
     decide +kernel⟩,
   ⟨19, ⟨(withSession (withSlot (withSeat ready 19 fun x => { x with presence := .away, absence := 8 }) 6 .opening
     19) openSession), []⟩, by decide +kernel⟩,
   ⟨⟨(withSeat ready 0 fun x => { x with key := .down, mark := .accepted, press := 2000 }), []⟩, by decide +kernel⟩,
   ⟨⟨(withSeat meeting 0 fun x => { x with key := .down, mark := .accepted, press := 2000 }), []⟩, by decide +kernel⟩,
   ⟨⟨(withSeat (full queued) 0 fun x => { x with key := .down, mark := .accepted, press := 2000 }), []⟩, by
     decide +kernel⟩,
   ⟨⟨(withSeat queued 0 fun x => { x with key := .down, mark := .accepted, press := 2000 }), []⟩, by decide +kernel⟩,
   ⟨⟨(withSlot (withSeat queued 0 fun x => { x with key := .down, mark := .accepted, press := 2000 }) 6 .closing 3),
     []⟩, by decide +kernel⟩⟩

/-- GainFrameMovesGains: all. -/
theorem test_hyp_gainFrameMovesGains :
    (∃ (s : State), (s.part.isHeld = false)) ∧
    (∃ (i : SeatId) (s : State), (s.part.isHeld = false) ∧ (Settled s.part) ∧ (s.part.sgu.refused.get i = 0)) ∧
    (∃ (k : ScreenId) (s : State), (s.part.isHeld = false) ∧ (Settled s.part) ∧ (((s.part.screen k).settle =
      .settling ∧ (s.part.screen k).timer = 0))) :=
  ⟨⟨State.reset, by decide +kernel⟩,
   ⟨0, ⟨ready, []⟩, by decide +kernel⟩,
   ⟨3, ⟨(withScreen ready 3 fun x => { x with settle := .settling }), []⟩, by decide +kernel⟩⟩

/-- SlotsOpenAndComeFree: all, standby, running. -/
theorem test_hyp_slotsOpenAndComeFree :
    (∃ (s : State), (s.part.isHeld = false) ∧ (Settled s.part) ∧ ((∀ k, (s.part.slot k).state = .closing →
      (s.part.slot k).reason ≠ some .mute ∧ (s.part.slot k).reason ≠ some .floorClosed ∧ (s.part.slot k).target +
      s.part.sgu.gain.fall < (s.part.slot k).gain)) ∧ ((s.part.slot 1).state = .opening ∧ (s.part.slot 1).gain +
      s.part.sgu.gain.rise = (s.part.slot 1).target)) ∧
    (∃ (k : SlotId) (i : SeatId) (s : State), (s.part.isHeld = false) ∧ ((s.part.flc.queue = [] ∧ (∀ x ∈
      s.part.ssu.session, x.state ≠ .windup) ∧ s.part.ssu.params.dwell ≠ 0)) ∧ (((s.part.slot k).state = .closing ∧
      (s.part.slot k).holder = some i)) ∧ (((s.part.slot k).target = 0 ∧ (s.part.slot k).gain ≤ s.part.sgu.gain.fall
      ∧ s.part.sgu.gain.fall ≤ 255)) ∧ (s.part.pwu.power ≠ .standby)) ∧
    (∃ (k : SlotId) (i : SeatId) (s : State), (s.part.isHeld = false) ∧ ((s.part.flc.queue = [] ∧ (∀ x ∈
      s.part.ssu.session, x.state ≠ .windup) ∧ s.part.ssu.params.dwell ≠ 0)) ∧ (((s.part.slot k).state = .closing ∧
      (s.part.slot k).holder = some i)) ∧ (((s.part.slot k).target = 0 ∧ (s.part.slot k).gain ≤ s.part.sgu.gain.fall
      ∧ s.part.sgu.gain.fall ≤ 255)) ∧ (s.part.pwu.power = .standby)) ∧
    (∃ (k : SlotId) (i : SeatId) (s : State), (s.part.isHeld = false) ∧ ((s.part.flc.queue = [] ∧ (∀ x ∈
      s.part.ssu.session, x.state ≠ .windup) ∧ s.part.ssu.params.dwell ≠ 0)) ∧ (((s.part.slot k).state = .closing ∧
      (s.part.slot k).holder = some i)) ∧ (((s.part.slot k).target = 0 ∧ (s.part.slot k).gain ≤ s.part.sgu.gain.fall
      ∧ s.part.sgu.gain.fall ≤ 255)) ∧ (∃ x ∈ s.part.ssu.session, x.state = .inSession)) ∧
    (∃ (k : SlotId) (x : Session) (r : CloseReason) (s : State), (s.part.isHeld = false) ∧ (s.part.ssu.session = some
      x ∧ x.state = .windup ∧ x.reason = some r) ∧ (s.part.flc.queue = [] ∧ s.part.ssu.pendingStart = none ∧
      s.part.ssu.params.dwell ≠ 0) ∧ (((s.part.slot k).state = .closing ∧ (s.part.slot k).target = 0 ∧ (s.part.slot
      k).gain ≤ s.part.sgu.gain.fall ∧ s.part.sgu.gain.fall ≤ 255)) ∧ ((∀ j, j ≠ k → (s.part.slot j).state = .free))) :=
  ⟨⟨⟨(setSlotAs (withSlot ready 1 .opening 2) 2 .closing 3 700 0), []⟩, by decide +kernel⟩,
   ⟨6, 19, ⟨(setSlotAs ready 6 .closing 19 16 0), []⟩, by decide +kernel⟩,
   ⟨0, 0, ⟨(setSlotAs (ready.setPower .standby) 0 .closing 0 0 0), []⟩, by decide +kernel⟩,
   ⟨1, 3, ⟨(setSlotAs (withSession meeting openSession) 1 .closing 3 16 0), []⟩, by decide +kernel⟩,
   ⟨6, { openSession with state := .windup, reason := some .ended }, .ended, ⟨(setSlotAs (withSession meeting
     { openSession with state := .windup, reason := some .ended }) 6 .closing 19 16 0), []⟩, by decide +kernel⟩⟩

/-- EdgeMovesPhase: filtered, sameEdge, firstEdge, inactiveEdge. -/
theorem test_hyp_edgeMovesPhase :
    (∃ (k : SocketId) (ticks : Nat) (levelHeld : Nat) (s : State), (s.part.isHeld = false) ∧ (Settled s.part) ∧
      (s.part.capturing k = true) ∧ ((s.part.socket k).counter + ticks < 65535) ∧ (levelHeld < (s.part.socket
      k).filter)) ∧
    (∃ (k : SocketId) (e : Edge) (ticks : Nat) (levelHeld : Nat) (s : State), (s.part.isHeld = false) ∧ (Settled
      s.part) ∧ (s.part.capturing k = true) ∧ ((s.part.socket k).counter + ticks < 65535) ∧ ((s.part.socket k).filter
      ≤ levelHeld ∧ (s.part.socket k).lastEdge = some e)) ∧
    (∃ (k : SocketId) (e : Edge) (ticks : Nat) (levelHeld : Nat) (s : State), (s.part.isHeld = false) ∧ (Settled
      s.part) ∧ (s.part.capturing k = true) ∧ ((s.part.socket k).counter + ticks < 65535) ∧ ((s.part.socket k).filter
      ≤ levelHeld ∧ (s.part.socket k).lastEdge ≠ some e ∧ (s.part.socket k).phase = .waitFirst ∧ e = (s.part.socket
      k).edge)) ∧
    (∃ (k : SocketId) (e : Edge) (ticks : Nat) (levelHeld : Nat) (s : State), (s.part.isHeld = false) ∧ (Settled
      s.part) ∧ (s.part.capturing k = true) ∧ ((s.part.socket k).counter + ticks < 65535) ∧ ((s.part.socket k).filter
      ≤ levelHeld ∧ (s.part.socket k).lastEdge ≠ some e ∧ (s.part.socket k).phase = .waitInactive ∧ e ≠
      (s.part.socket k).edge)) :=
  ⟨⟨0, 65534, 1, ⟨ready, []⟩, by decide +kernel⟩,
   ⟨7, .rising, 0, 2, ⟨(withSocket ready 7 fun x => { x with lastEdge := some .rising }), []⟩, by decide +kernel⟩,
   ⟨7, .falling, 65534, 2, ⟨ready, []⟩, by decide +kernel⟩,
   ⟨0, .rising, 34, 2, ⟨(withSocket ready 0 fun x =>
     { x with phase := .waitInactive, counter := 65500, lastEdge := some .falling }), []⟩, by decide +kernel⟩⟩

/-- EdgesMeasureAndOverflowsDrop: seeking, goesLive, unsupported, none, live, dropping, dropped. -/
theorem test_hyp_edgesMeasureAndOverflowsDrop :
    (∃ (k : SocketId) (ticks : Nat) (levelHeld : Nat) (s : State), (s.part.isHeld = false) ∧ (s.part.capturing k =
      true) ∧ (((s.part.socket k).counter + ticks < 65535 ∧ (s.part.socket k).filter ≤ levelHeld ∧ (s.part.socket
      k).lastEdge ≠ some (s.part.socket k).edge)) ∧ ((s.part.socket k).phase = .waitActive) ∧ ((s.part.socket
      k).state = .none ∧ 1 < s.part.scu.agree ∧ matchesRate (s.part.scu.rates.get 0) (s.part.socket k).width
      ((s.part.socket k).counter + ticks) = true)) ∧
    (∃ (k : SocketId) (ticks : Nat) (levelHeld : Nat) (s : State), (s.part.isHeld = false) ∧ (s.part.capturing k =
      true) ∧ (((s.part.socket k).counter + ticks < 65535 ∧ (s.part.socket k).filter ≤ levelHeld ∧ (s.part.socket
      k).lastEdge ≠ some (s.part.socket k).edge)) ∧ ((s.part.socket k).phase = .waitActive) ∧ ((s.part.socket
      k).state = .seeking ∧ s.part.scu.agree ≤ (s.part.socket k).agree + 1 ∧ matchesRate (s.part.scu.rates.get 0)
      (s.part.socket k).width ((s.part.socket k).counter + ticks) = true ∧ (s.part.socket k).cls = .id
      (s.part.scu.rates.get 0).cls)) ∧
    (∃ (k : SocketId) (ticks : Nat) (levelHeld : Nat) (s : State), (s.part.isHeld = false) ∧ (s.part.capturing k =
      true) ∧ (((s.part.socket k).counter + ticks < 65535 ∧ (s.part.socket k).filter ≤ levelHeld ∧ (s.part.socket
      k).lastEdge ≠ some (s.part.socket k).edge)) ∧ ((s.part.socket k).phase = .waitActive) ∧ (∀ i : Fin 8,
      matchesRate (s.part.scu.rates.get i) (s.part.socket k).width ((s.part.socket k).counter + ticks) = false)) ∧
    (∃ (k : SocketId) (s : State), (s.part.isHeld = false) ∧ (s.part.capturing k = true) ∧ ((s.part.socket k).state =
      .none)) ∧
    (∃ (k : SocketId) (s : State), (s.part.isHeld = false) ∧ (s.part.capturing k = true) ∧ ((s.part.socket k).state =
      .seeking)) ∧
    (∃ (k : SocketId) (s : State), (s.part.isHeld = false) ∧ (s.part.capturing k = true) ∧ ((s.part.socket k).state =
      .live ∧ 1 < s.part.scu.drop)) ∧
    (∃ (k : SocketId) (s : State), (s.part.isHeld = false) ∧ (s.part.capturing k = true) ∧ ((s.part.socket k).state =
      .dropping ∧ (s.part.socket k).drop + 1 < s.part.scu.drop)) ∧
    (∃ (k : SocketId) (s : State), (s.part.isHeld = false) ∧ (s.part.capturing k = true) ∧ ((s.part.socket k).state =
      .dropping ∧ s.part.scu.drop ≤ (s.part.socket k).drop + 1)) :=
  ⟨⟨0, 6817, 2, ⟨(withSocket ready 0 fun x =>
     { x with phase := .waitActive, counter := 10000, width := 500, lastEdge := some .rising, state := .none }), []⟩,
     by decide +kernel⟩,
   ⟨7, 6517, 9, ⟨(withSocket ready 7 fun x =>
     { x with phase := .waitActive, counter := 10000, width := 500, lastEdge := some .rising, state := .seeking, agree := 3, cls := .id 1, entry := 1 }),
     []⟩, by decide +kernel⟩,
   ⟨3, 55534, 2, ⟨(withSocket ready 3 fun x =>
     { x with phase := .waitActive, counter := 10000, width := 500, lastEdge := some .rising, state := .live, cls := .unsupported }),
     []⟩, by decide +kernel⟩,
   ⟨5, ⟨(withSocket ready 5 fun x => { x with state := .none, drop := 0 }), []⟩, by decide +kernel⟩,
   ⟨5, ⟨(withSocket ready 5 fun x => { x with state := .seeking, drop := 0 }), []⟩, by decide +kernel⟩,
   ⟨5, ⟨(withSocket ready 5 fun x => { x with state := .live, drop := 0 }), []⟩, by decide +kernel⟩,
   ⟨5, ⟨(withSocket ready 5 fun x => { x with state := .dropping, drop := 1 }), []⟩, by decide +kernel⟩,
   ⟨5, ⟨(withSocket ready 5 fun x => { x with state := .dropping, drop := 2 }), []⟩, by decide +kernel⟩⟩

/-- SecondEventCounts: midnight, fullTime, counts, expires, none, warn, over, closes, noLimit, fullCounts, windup,
  ends, occupied, awaiting, opens, booking, waking, stands, pending, quorum, enters, full, near, live. -/
theorem test_hyp_secondEventCounts :
    (∃ (s : State), (s.part.isHeld = false)) ∧
    (∃ (s : State), (s.part.isHeld = false) ∧ (Part.isOpenState (s.part.slot 0).state = true ∧ (s.part.slot
      0).elapsed = 65535)) ∧
    (∃ (s : State), (s.part.isHeld = false) ∧ ((s.part.seat 19).presence = .away ∧ (s.part.seat 19).absence + 2 =
      s.part.smn.grace)) ∧
    (∃ (s : State), (s.part.isHeld = false) ∧ ((s.part.seat 19).presence = .away ∧ (s.part.seat 19).absence + 1 =
      s.part.smn.grace ∧ (s.part.seat 0).presence ≠ .away)) ∧
    (∃ (x : Session) (lead : Nat) (s : State), (s.part.isHeld = false ∧ s.part.sch.clock.second < 59) ∧
      ((s.part.ssu.session = some x ∧ (Part.runningState x.state = false ∨ s.part.smn.occupied ≠ 0 ∨
      s.part.ssu.params.vacancy = 0 ∨ x.vacancy + 1 < s.part.ssu.params.vacancy * 60))) ∧ ((∀ i, (s.part.seat
      i).presence = .away → (s.part.seat i).absence + 1 < s.part.smn.grace)) ∧ (lead = min s.part.flc.lead
      (s.part.flc.speak / 2)) ∧ (Part.isOpenState (s.part.slot 6).state = true ∧ (s.part.slot 6).holder = some 5 ∧
      (s.part.slot 6).elapsed + 2 + lead = s.part.flc.speak)) ∧
    (∃ (x : Session) (lead : Nat) (s : State), (s.part.isHeld = false ∧ s.part.sch.clock.second < 59) ∧
      ((s.part.ssu.session = some x ∧ (Part.runningState x.state = false ∨ s.part.smn.occupied ≠ 0 ∨
      s.part.ssu.params.vacancy = 0 ∨ x.vacancy + 1 < s.part.ssu.params.vacancy * 60))) ∧ ((∀ i, (s.part.seat
      i).presence = .away → (s.part.seat i).absence + 1 < s.part.smn.grace)) ∧ (lead = min s.part.flc.lead
      (s.part.flc.speak / 2)) ∧ (Part.isOpenState (s.part.slot 6).state = true ∧ (s.part.slot 6).holder = some 5 ∧
      (s.part.slot 6).elapsed + 1 + lead = s.part.flc.speak)) ∧
    (∃ (x : Session) (lead : Nat) (s : State), (s.part.isHeld = false ∧ s.part.sch.clock.second < 59) ∧
      ((s.part.ssu.session = some x ∧ (Part.runningState x.state = false ∨ s.part.smn.occupied ≠ 0 ∨
      s.part.ssu.params.vacancy = 0 ∨ x.vacancy + 1 < s.part.ssu.params.vacancy * 60))) ∧ ((∀ i, (s.part.seat
      i).presence = .away → (s.part.seat i).absence + 1 < s.part.smn.grace)) ∧ (lead = min s.part.flc.lead
      (s.part.flc.speak / 2)) ∧ (Part.isOpenState (s.part.slot 6).state = true ∧ (s.part.slot 6).holder = some 5 ∧
      (s.part.slot 6).elapsed + 1 = s.part.flc.speak ∧ s.part.flc.enforce = false)) ∧
    (∃ (x : Session) (lead : Nat) (s : State), (s.part.isHeld = false ∧ s.part.sch.clock.second < 59) ∧
      ((s.part.ssu.session = some x ∧ (Part.runningState x.state = false ∨ s.part.smn.occupied ≠ 0 ∨
      s.part.ssu.params.vacancy = 0 ∨ x.vacancy + 1 < s.part.ssu.params.vacancy * 60))) ∧ ((∀ i, (s.part.seat
      i).presence = .away → (s.part.seat i).absence + 1 < s.part.smn.grace)) ∧ (lead = min s.part.flc.lead
      (s.part.flc.speak / 2)) ∧ (Part.isOpenState (s.part.slot 6).state = true ∧ (s.part.slot 6).holder = some 5 ∧
      (s.part.slot 6).elapsed + 1 = s.part.flc.speak ∧ s.part.flc.enforce = true)) ∧
    (∃ (x : Session) (lead : Nat) (s : State), (s.part.isHeld = false ∧ s.part.sch.clock.second < 59) ∧
      ((s.part.ssu.session = some x ∧ (Part.runningState x.state = false ∨ s.part.smn.occupied ≠ 0 ∨
      s.part.ssu.params.vacancy = 0 ∨ x.vacancy + 1 < s.part.ssu.params.vacancy * 60))) ∧ ((∀ i, (s.part.seat
      i).presence = .away → (s.part.seat i).absence + 1 < s.part.smn.grace)) ∧ (lead = min s.part.flc.lead
      (s.part.flc.speak / 2)) ∧ (Part.isOpenState (s.part.slot 6).state = true ∧ (s.part.slot 6).holder = some 5 ∧
      s.part.flc.speak = 0 ∧ (s.part.slot 6).elapsed = 65535)) ∧
    (∃ (x : Session) (lead : Nat) (s : State), (s.part.isHeld = false ∧ s.part.sch.clock.second < 59) ∧
      ((s.part.ssu.session = some x ∧ (Part.runningState x.state = false ∨ s.part.smn.occupied ≠ 0 ∨
      s.part.ssu.params.vacancy = 0 ∨ x.vacancy + 1 < s.part.ssu.params.vacancy * 60))) ∧ ((∀ i, (s.part.seat
      i).presence = .away → (s.part.seat i).absence + 1 < s.part.smn.grace)) ∧ (lead = min s.part.flc.lead
      (s.part.flc.speak / 2)) ∧ (Part.isOpenState (s.part.slot 0).state = true ∧ (s.part.slot 0).holder = some 5 ∧
      (s.part.seat 5).counters.occupied = 16777215 ∧ (s.part.seat 5).counters.speaking = 16777215)) ∧
    (∃ (x : Session) (lead : Nat) (s : State), (s.part.isHeld = false ∧ s.part.sch.clock.second < 59) ∧
      ((s.part.ssu.session = some x ∧ (Part.runningState x.state = false ∨ s.part.smn.occupied ≠ 0 ∨
      s.part.ssu.params.vacancy = 0 ∨ x.vacancy + 1 < s.part.ssu.params.vacancy * 60))) ∧ ((∀ i, (s.part.seat
      i).presence = .away → (s.part.seat i).absence + 1 < s.part.smn.grace)) ∧ (lead = min s.part.flc.lead
      (s.part.flc.speak / 2)) ∧ (x.state = .windup ∧ s.part.smn.occupied = 0 ∧ Part.isOpenState (s.part.slot 1).state
      = false)) ∧
    (∃ (x : Session) (v : Nat) (s : State), (s.part.isHeld = false ∧ s.part.sch.clock.second < 59) ∧
      (s.part.ssu.session = some x) ∧ ((∀ i, (s.part.seat i).presence = .away → (s.part.seat i).absence + 1 <
      s.part.smn.grace)) ∧ (s.part.ssu.pendingStart = none ∧ s.part.ssu.params.dwell ≠ 0) ∧ (v = min (x.vacancy + 1)
      3600) ∧ (Part.runningState x.state = true ∧ s.part.smn.occupied = 0 ∧ v + 1 = s.part.ssu.params.vacancy * 60)) ∧
    (∃ (x : Session) (v : Nat) (s : State), (s.part.isHeld = false ∧ s.part.sch.clock.second < 59) ∧
      (s.part.ssu.session = some x) ∧ ((∀ i, (s.part.seat i).presence = .away → (s.part.seat i).absence + 1 <
      s.part.smn.grace)) ∧ (s.part.ssu.pendingStart = none ∧ s.part.ssu.params.dwell ≠ 0) ∧ (v = min (x.vacancy + 1)
      3600) ∧ (Part.runningState x.state = true ∧ s.part.smn.occupied = 0 ∧ v = s.part.ssu.params.vacancy * 60 ∧
      s.part.allFree = false)) ∧
    (∃ (x : Session) (v : Nat) (s : State), (s.part.isHeld = false ∧ s.part.sch.clock.second < 59) ∧
      (s.part.ssu.session = some x) ∧ ((∀ i, (s.part.seat i).presence = .away → (s.part.seat i).absence + 1 <
      s.part.smn.grace)) ∧ (s.part.ssu.pendingStart = none ∧ s.part.ssu.params.dwell ≠ 0) ∧ (v = min (x.vacancy + 1)
      3600) ∧ (Part.runningState x.state = true ∧ s.part.smn.occupied = 0 ∧ v = s.part.ssu.params.vacancy * 60 ∧
      s.part.allFree = true)) ∧
    (∃ (x : Session) (v : Nat) (s : State), (s.part.isHeld = false ∧ s.part.sch.clock.second < 59) ∧
      (s.part.ssu.session = some x) ∧ ((∀ i, (s.part.seat i).presence = .away → (s.part.seat i).absence + 1 <
      s.part.smn.grace)) ∧ (s.part.ssu.pendingStart = none ∧ s.part.ssu.params.dwell ≠ 0) ∧ (v = min (x.vacancy + 1)
      3600) ∧ (Part.runningState x.state = true ∧ s.part.smn.occupied = 0 ∧ s.part.ssu.params.vacancy = 0 ∧ x.vacancy
      = 3600)) ∧
    (∃ (x : Session) (v : Nat) (s : State), (s.part.isHeld = false ∧ s.part.sch.clock.second < 59) ∧
      (s.part.ssu.session = some x) ∧ ((∀ i, (s.part.seat i).presence = .away → (s.part.seat i).absence + 1 <
      s.part.smn.grace)) ∧ (s.part.ssu.pendingStart = none ∧ s.part.ssu.params.dwell ≠ 0) ∧ (v = min (x.vacancy + 1)
      3600) ∧ (Part.runningState x.state = true ∧ s.part.smn.occupied ≠ 0)) ∧
    (∃ (x : Session) (v : Nat) (s : State), (s.part.isHeld = false ∧ s.part.sch.clock.second < 59) ∧
      (s.part.ssu.session = some x) ∧ ((∀ i, (s.part.seat i).presence = .away → (s.part.seat i).absence + 1 <
      s.part.smn.grace)) ∧ (s.part.ssu.pendingStart = none ∧ s.part.ssu.params.dwell ≠ 0) ∧ (v = min (x.vacancy + 1)
      3600) ∧ (x.state = .awaiting ∧ s.part.smn.occupied = 0)) ∧
    (∃ (s : State), (s.part.isHeld = false ∧ s.part.sch.clock.second < 59) ∧ (s.part.ssu.session = none) ∧ ((∀ i,
      (s.part.seat i).presence = .away → (s.part.seat i).absence + 1 < s.part.smn.grace)) ∧ (s.part.pwu.quiet <
      s.part.pwu.delay * 60) ∧ (s.part.ssu.pendingStart = none ∧ s.part.ssu.params.quorum ≠ 0 ∧
      s.part.ssu.params.quorum ≤ s.part.smn.occupied ∧ s.part.ssu.dwell + 2 = s.part.ssu.params.dwell)) ∧
    (∃ (s : State), (s.part.isHeld = false ∧ s.part.sch.clock.second < 59) ∧ (s.part.ssu.session = none) ∧ ((∀ i,
      (s.part.seat i).presence = .away → (s.part.seat i).absence + 1 < s.part.smn.grace)) ∧ (s.part.pwu.quiet <
      s.part.pwu.delay * 60) ∧ (s.part.ssu.pendingStart = none ∧ s.part.ssu.params.quorum ≠ 0 ∧
      s.part.ssu.params.quorum ≤ s.part.smn.occupied ∧ s.part.ssu.dwell + 1 = s.part.ssu.params.dwell ∧
      s.part.nextStart = 1440 ∧ s.part.pwu.power = .active ∧ s.part.sch.clock.minute + s.part.ssu.params.length =
      1440 ∧ s.part.ssu.params.warning < s.part.ssu.params.length)) ∧
    (∃ (s : State), (s.part.isHeld = false ∧ s.part.sch.clock.second < 59) ∧ (s.part.ssu.session = none) ∧ ((∀ i,
      (s.part.seat i).presence = .away → (s.part.seat i).absence + 1 < s.part.smn.grace)) ∧ (s.part.pwu.quiet <
      s.part.pwu.delay * 60) ∧ (s.part.ssu.pendingStart = none ∧ s.part.ssu.params.quorum ≠ 0 ∧
      s.part.ssu.params.quorum ≤ s.part.smn.occupied ∧ s.part.ssu.dwell + 1 = s.part.ssu.params.dwell ∧
      s.part.nextStart = 1380 ∧ s.part.nextStart < s.part.sch.clock.minute + s.part.ssu.params.minFree)) ∧
    (∃ (s : State), (s.part.isHeld = false ∧ s.part.sch.clock.second < 59) ∧ (s.part.ssu.session = none) ∧ ((∀ i,
      (s.part.seat i).presence = .away → (s.part.seat i).absence + 1 < s.part.smn.grace)) ∧ (s.part.pwu.quiet <
      s.part.pwu.delay * 60) ∧ (s.part.ssu.pendingStart = none ∧ s.part.ssu.params.quorum ≠ 0 ∧
      s.part.ssu.params.quorum ≤ s.part.smn.occupied ∧ s.part.ssu.dwell + 1 = s.part.ssu.params.dwell ∧
      s.part.pwu.power = .waking)) ∧
    (∃ (s : State), (s.part.isHeld = false ∧ s.part.sch.clock.second < 59) ∧ (s.part.ssu.session = none) ∧ ((∀ i,
      (s.part.seat i).presence = .away → (s.part.seat i).absence + 1 < s.part.smn.grace)) ∧ (s.part.pwu.quiet <
      s.part.pwu.delay * 60) ∧ (s.part.ssu.pendingStart = none ∧ s.part.ssu.params.quorum ≠ 0 ∧
      s.part.ssu.params.quorum ≤ s.part.smn.occupied ∧ s.part.ssu.dwell = s.part.ssu.params.dwell)) ∧
    (∃ (s : State), (s.part.isHeld = false ∧ s.part.sch.clock.second < 59) ∧ (s.part.ssu.session = none) ∧ ((∀ i,
      (s.part.seat i).presence = .away → (s.part.seat i).absence + 1 < s.part.smn.grace)) ∧ (s.part.pwu.quiet <
      s.part.pwu.delay * 60) ∧ (s.part.ssu.pendingStart ≠ none)) ∧
    (∃ (s : State), (s.part.isHeld = false ∧ s.part.sch.clock.second < 59) ∧ (s.part.ssu.session = none) ∧ ((∀ i,
      (s.part.seat i).presence = .away → (s.part.seat i).absence + 1 < s.part.smn.grace)) ∧ (s.part.pwu.quiet <
      s.part.pwu.delay * 60) ∧ (s.part.smn.occupied + 1 = s.part.ssu.params.quorum)) ∧
    (∃ (s : State), (s.part.isHeld = false ∧ s.part.sch.clock.second < 59) ∧ ((∀ i, (s.part.seat i).presence = .away
      → (s.part.seat i).absence + 1 < s.part.smn.grace)) ∧ (s.part.smn.occupied = 0 ∧ s.part.anySocketLive = false ∧
      s.part.pwu.power = .active ∧ s.part.ssu.session = none ∧ s.part.pwu.quiet + 2 = s.part.pwu.delay * 60)) ∧
    (∃ (s : State), (s.part.isHeld = false ∧ s.part.sch.clock.second < 59) ∧ ((∀ i, (s.part.seat i).presence = .away
      → (s.part.seat i).absence + 1 < s.part.smn.grace)) ∧ (s.part.smn.occupied = 0 ∧ s.part.anySocketLive = false ∧
      s.part.pwu.power = .active ∧ s.part.ssu.session = none ∧ s.part.pwu.quiet + 1 = s.part.pwu.delay * 60 ∧
      s.part.ssu.pendingStart = none ∧ s.part.nextStart = 1440)) ∧
    (∃ (s : State), (s.part.isHeld = false ∧ s.part.sch.clock.second < 59) ∧ ((∀ i, (s.part.seat i).presence = .away
      → (s.part.seat i).absence + 1 < s.part.smn.grace)) ∧ (s.part.smn.occupied = 0 ∧ s.part.anySocketLive = false ∧
      s.part.pwu.power = .active ∧ s.part.ssu.session = none ∧ s.part.pwu.quiet = s.part.pwu.delay * 60 ∧
      s.part.ssu.pendingStart = none ∧ s.part.sch.clock.minute + s.part.pwu.lead + 1 = s.part.nextStart)) ∧
    (∃ (s : State), (s.part.isHeld = false ∧ s.part.sch.clock.second < 59) ∧ ((∀ i, (s.part.seat i).presence = .away
      → (s.part.seat i).absence + 1 < s.part.smn.grace)) ∧ (s.part.smn.occupied = 0 ∧ s.part.anySocketLive = false ∧
      s.part.pwu.power = .active ∧ s.part.ssu.session = none ∧ s.part.pwu.quiet + 1 = s.part.pwu.delay * 60 ∧
      s.part.sch.clock.minute + s.part.pwu.lead = s.part.nextStart)) ∧
    (∃ (s : State), (s.part.isHeld = false ∧ s.part.sch.clock.second < 59) ∧ ((∀ i, (s.part.seat i).presence = .away
      → (s.part.seat i).absence + 1 < s.part.smn.grace)) ∧ (s.part.smn.occupied = 0 ∧ s.part.anySocketLive = false ∧
      s.part.pwu.power = .active ∧ s.part.ssu.session = none ∧ s.part.pwu.quiet + 1 = s.part.pwu.delay * 60 ∧
      s.part.ssu.pendingStart ≠ none)) ∧
    (∃ (s : State), (s.part.isHeld = false ∧ s.part.sch.clock.second < 59) ∧ ((∀ i, (s.part.seat i).presence = .away
      → (s.part.seat i).absence + 1 < s.part.smn.grace)) ∧ (s.part.smn.occupied ≠ 0)) ∧
    (∃ (s : State), (s.part.isHeld = false ∧ s.part.sch.clock.second < 59) ∧ ((∀ i, (s.part.seat i).presence = .away
      → (s.part.seat i).absence + 1 < s.part.smn.grace)) ∧ (s.part.smn.occupied = 0 ∧ s.part.anySocketLive = true)) :=
  ⟨⟨⟨(ready.setClock ⟨65535, 1439, 59, true⟩), []⟩, by decide +kernel⟩,
   ⟨⟨(withSlot meeting 0 .live 0 |> fun p => p.setSlot 0 { p.slot 0 with elapsed := 65535 }), []⟩, by decide +kernel⟩,
   ⟨⟨(withSeat ready 19 fun x => { x with presence := .away, absence := 6 }), []⟩, by decide +kernel⟩,
   ⟨⟨(withSeat (meeting.setClock ⟨0, 1439, 59, true⟩) 19 fun x => { x with presence := .away, absence := 7 }), []⟩,
     by decide +kernel⟩,
   ⟨openSession, 30, ⟨(withSession (withSlot meeting 6 .live 5) openSession |> fun (p : Part) => (p.setSlot 6
     { p.slot 6 with elapsed := 28 }).withFlc { p.flc with speak := 60 }), []⟩, by decide +kernel⟩,
   ⟨openSession, 30, ⟨(withSession (withSlot meeting 6 .live 5) openSession |> fun (p : Part) => (p.setSlot 6
     { p.slot 6 with elapsed := 29 }).withFlc { p.flc with speak := 60 }), []⟩, by decide +kernel⟩,
   ⟨openSession, 30, ⟨(withSession (withSlot meeting 6 .live 5) openSession |> fun (p : Part) => (p.setSlot 6
     { p.slot 6 with elapsed := 59 }).withFlc { p.flc with speak := 60 }), []⟩, by decide +kernel⟩,
   ⟨openSession, 30, ⟨(withSession (withSlot meeting 6 .live 5) openSession |> fun (p : Part) => (p.setSlot 6
     { p.slot 6 with elapsed := 59 }).withFlc { p.flc with speak := 60, enforce := true }), []⟩, by decide +kernel⟩,
   ⟨openSession, 0, ⟨(withSession (withSlot meeting 6 .live 5) openSession |> fun (p : Part) => (p.setSlot 6
     { p.slot 6 with elapsed := 65535 }).withFlc { p.flc with speak := 0, enforce := true }), []⟩, by decide +kernel⟩,
   ⟨openSession, 30, ⟨(withSession (withSlot (withSeat meeting 5 fun x =>
     { x with counters := ⟨16777215, 16777215, 0, 0, 0, 0⟩ }) 0 .live 5) openSession |> fun (p : Part) => (p.setSlot
     0 { p.slot 0 with elapsed := 0 }).withFlc { p.flc with speak := 60 }), []⟩, by decide +kernel⟩,
   ⟨{ openSession with state := .windup, vacancy := 600 }, 0, ⟨(withSession (setSlotAs ready 1 .closing 3 100 0)
     { openSession with state := .windup, vacancy := 600 }), []⟩, by decide +kernel⟩,
   ⟨{ openSession with state := .inSession, vacancy := 598 }, 599, ⟨(withSession (withSlot ready 1 .opening 3)
     { openSession with state := .inSession, vacancy := 598 }), []⟩, by decide +kernel⟩,
   ⟨{ openSession with state := .inSession, vacancy := 599 }, 600, ⟨(withSession (withSlot ready 1 .opening 3)
     { openSession with state := .inSession, vacancy := 599 }), []⟩, by decide +kernel⟩,
   ⟨{ openSession with state := .inSession, vacancy := 3599 }, 3600, ⟨((withSession ready
     { openSession with state := .inSession, vacancy := 3599 }) |> fun (p : Part) => p.withSsu
     { p.ssu with params := { p.ssu.params with vacancy := 60 } }), []⟩, by decide +kernel⟩,
   ⟨{ openSession with state := .overtime, vacancy := 3600 }, 3600, ⟨((withSession (withSlot ready 1 .opening 3)
     { openSession with state := .overtime, vacancy := 3600 }) |> fun (p : Part) => p.withSsu
     { p.ssu with params := { p.ssu.params with vacancy := 0 } }), []⟩, by decide +kernel⟩,
   ⟨{ openSession with state := .ending, vacancy := 599 }, 600, ⟨(withSession meeting
     { openSession with state := .ending, vacancy := 599 }), []⟩, by decide +kernel⟩,
   ⟨{ openSession with state := .awaiting, vacancy := 599 }, 600, ⟨(withSession (withSlot ready 1 .opening 3)
     { openSession with state := .awaiting, vacancy := 599 }), []⟩, by decide +kernel⟩,
   ⟨⟨((walkIn.setClock ⟨0, 1380, 0, true⟩) |> fun (p : Part) => (p.withSsu { p.ssu with dwell := 58 })), []⟩, by
     decide +kernel⟩,
   ⟨⟨((walkIn.setClock ⟨0, 1380, 0, true⟩) |> fun (p : Part) => (p.withSsu { p.ssu with dwell := 59 })), []⟩, by
     decide +kernel⟩,
   ⟨⟨(((walkIn.setPublished ⟨.published, .published, 0, 1, 1, false, .none, [booking 5 1380 1440]⟩).setClock ⟨0,
     1372, 0, true⟩) |> fun (p : Part) => (p.withSsu { p.ssu with dwell := 59 })), []⟩, by decide +kernel⟩,
   ⟨⟨(((walkIn.setPower .waking).setClock ⟨0, 1380, 0, true⟩) |> fun (p : Part) => (p.withSsu
     { p.ssu with dwell := 59 })), []⟩, by decide +kernel⟩,
   ⟨⟨(((walkIn.setPower .waking).setClock ⟨0, 1380, 0, true⟩) |> fun (p : Part) => (p.withSsu
     { p.ssu with dwell := 60 })), []⟩, by decide +kernel⟩,
   ⟨⟨((walkIn.setClock ⟨0, 1380, 0, true⟩) |> fun (p : Part) => (p.withSsu
     { p.ssu with dwell := 60, pendingStart := some 5 })), []⟩, by decide +kernel⟩,
   ⟨⟨(((walkIn |> fun (p : Part) => p.withSmn { p.smn with occupied := 1 }).setClock ⟨0, 1380, 0, true⟩) |> fun (p :
     Part) => (p.withSsu { p.ssu with dwell := 60 })), []⟩, by decide +kernel⟩,
   ⟨⟨(ready |> fun (p : Part) => p.withPwu { p.pwu with quiet := 298 }), []⟩, by decide +kernel⟩,
   ⟨⟨(ready |> fun (p : Part) => p.withPwu { p.pwu with quiet := 299 }), []⟩, by decide +kernel⟩,
   ⟨⟨(((published [booking 5 600 660]).setClock ⟨0, 589, 0, true⟩) |> fun (p : Part) => p.withPwu
     { p.pwu with quiet := 300 }), []⟩, by decide +kernel⟩,
   ⟨⟨(((published [booking 5 600 660]).setClock ⟨0, 590, 0, true⟩) |> fun (p : Part) => p.withPwu
     { p.pwu with quiet := 299 }), []⟩, by decide +kernel⟩,
   ⟨⟨((ready |> fun (p : Part) => p.withSsu { p.ssu with pendingStart := some 5 }) |> fun (p : Part) => p.withPwu
     { p.pwu with quiet := 299 }), []⟩, by decide +kernel⟩,
   ⟨⟨(meeting |> fun (p : Part) => p.withPwu { p.pwu with quiet := 5 }), []⟩, by decide +kernel⟩,
   ⟨⟨((withSocket ready 7 fun x => { x with state := .dropping }) |> fun (p : Part) => p.withPwu
     { p.pwu with quiet := 5 }), []⟩, by decide +kernel⟩⟩

/-- MinuteEventsDriveSessions: opens, checksIn, awaits, inSession, ending, overtime, windup, closes, counts, window,
  end. -/
theorem test_hyp_minuteEventsDriveSessions :
    (∃ (e : Entry) (m : Nat) (s : State), (s.part.pln.stage = .running ∧ s.part.pwu.power = .active) ∧
      (s.part.sch.clock.second = 59 ∧ s.part.sch.clock.minute < 1439 ∧ s.part.sch.clock.valid = true ∧ m =
      s.part.sch.clock.minute + 1) ∧ (s.part.published.state = .published ∧ s.part.published.day =
      s.part.sch.clock.day) ∧ (s.part.published.entries.find? (fun x => x.status = .pending ∧ x.booking.start ≤ m ∧ m
      < x.booking.stop) = some e) ∧ ((s.part.ssu.session = none ∧ s.part.ssu.pendingStart = none ∧ s.part.walkInReady
      = false ∧ ∀ i, (s.part.seat i).presence ≠ .away)) ∧ (m + s.part.ssu.params.warning < e.booking.stop) ∧
      (e.booking.checkIn = false ∧ m = e.booking.start ∧ m + s.part.ssu.params.warning + 1 = e.booking.stop)) ∧
    (∃ (e : Entry) (m : Nat) (s : State), (s.part.pln.stage = .running ∧ s.part.pwu.power = .active) ∧
      (s.part.sch.clock.second = 59 ∧ s.part.sch.clock.minute < 1439 ∧ s.part.sch.clock.valid = true ∧ m =
      s.part.sch.clock.minute + 1) ∧ (s.part.published.state = .published ∧ s.part.published.day =
      s.part.sch.clock.day) ∧ (s.part.published.entries.find? (fun x => x.status = .pending ∧ x.booking.start ≤ m ∧ m
      < x.booking.stop) = some e) ∧ ((s.part.ssu.session = none ∧ s.part.ssu.pendingStart = none ∧ s.part.walkInReady
      = false ∧ ∀ i, (s.part.seat i).presence ≠ .away)) ∧ (m + s.part.ssu.params.warning < e.booking.stop) ∧
      (e.booking.checkIn = true ∧ e.booking.quorum = s.part.smn.occupied)) ∧
    (∃ (e : Entry) (m : Nat) (s : State), (s.part.pln.stage = .running ∧ s.part.pwu.power = .active) ∧
      (s.part.sch.clock.second = 59 ∧ s.part.sch.clock.minute < 1439 ∧ s.part.sch.clock.valid = true ∧ m =
      s.part.sch.clock.minute + 1) ∧ (s.part.published.state = .published ∧ s.part.published.day =
      s.part.sch.clock.day) ∧ (s.part.published.entries.find? (fun x => x.status = .pending ∧ x.booking.start ≤ m ∧ m
      < x.booking.stop) = some e) ∧ ((s.part.ssu.session = none ∧ s.part.ssu.pendingStart = none ∧ s.part.walkInReady
      = false ∧ ∀ i, (s.part.seat i).presence ≠ .away)) ∧ (m + s.part.ssu.params.warning < e.booking.stop) ∧
      (e.booking.checkIn = true ∧ s.part.smn.occupied < e.booking.quorum)) ∧
    (∃ (x : Session) (p : Part) (graceEnd : Nat) (s : State), (s.part.isHeld = false) ∧ ((s.part.sch.clock.second =
      59 ∧ s.part.staging.state ≠ .ready ∧ p = s.part.setClock (Part.tick s.part.sch.clock))) ∧ (s.part.ssu.session =
      some x ∧ Part.runningState x.state = true) ∧ (Settled s.part) ∧ (p.dueEntry = none ∧ s.part.ssu.pendingStart =
      none ∧ s.part.ssu.params.dwell ≠ 0) ∧ (((s.part.ssu.params.vacancy = 0 ∨ s.part.smn.occupied ≠ 0) ∧ ∀ i,
      (s.part.seat i).presence ≠ .away)) ∧ (graceEnd = (if p.nextStart < 1440 then min (x.effEnd +
      s.part.ssu.params.overtime) (p.sch.clock.day * 1440 + p.nextStart) else x.effEnd + s.part.ssu.params.overtime))
      ∧ (p.now + s.part.ssu.params.warning + 1 = x.effEnd)) ∧
    (∃ (x : Session) (p : Part) (graceEnd : Nat) (s : State), (s.part.isHeld = false) ∧ ((s.part.sch.clock.second =
      59 ∧ s.part.staging.state ≠ .ready ∧ p = s.part.setClock (Part.tick s.part.sch.clock))) ∧ (s.part.ssu.session =
      some x ∧ Part.runningState x.state = true) ∧ (Settled s.part) ∧ (p.dueEntry = none ∧ s.part.ssu.pendingStart =
      none ∧ s.part.ssu.params.dwell ≠ 0) ∧ (((s.part.ssu.params.vacancy = 0 ∨ s.part.smn.occupied ≠ 0) ∧ ∀ i,
      (s.part.seat i).presence ≠ .away)) ∧ (graceEnd = (if p.nextStart < 1440 then min (x.effEnd +
      s.part.ssu.params.overtime) (p.sch.clock.day * 1440 + p.nextStart) else x.effEnd + s.part.ssu.params.overtime))
      ∧ (p.now + s.part.ssu.params.warning = x.effEnd)) ∧
    (∃ (x : Session) (p : Part) (graceEnd : Nat) (s : State), (s.part.isHeld = false) ∧ ((s.part.sch.clock.second =
      59 ∧ s.part.staging.state ≠ .ready ∧ p = s.part.setClock (Part.tick s.part.sch.clock))) ∧ (s.part.ssu.session =
      some x ∧ Part.runningState x.state = true) ∧ (Settled s.part) ∧ (p.dueEntry = none ∧ s.part.ssu.pendingStart =
      none ∧ s.part.ssu.params.dwell ≠ 0) ∧ (((s.part.ssu.params.vacancy = 0 ∨ s.part.smn.occupied ≠ 0) ∧ ∀ i,
      (s.part.seat i).presence ≠ .away)) ∧ (graceEnd = (if p.nextStart < 1440 then min (x.effEnd +
      s.part.ssu.params.overtime) (p.sch.clock.day * 1440 + p.nextStart) else x.effEnd + s.part.ssu.params.overtime))
      ∧ (x.effEnd = p.now ∧ p.now < graceEnd)) ∧
    (∃ (x : Session) (p : Part) (graceEnd : Nat) (s : State), (s.part.isHeld = false) ∧ ((s.part.sch.clock.second =
      59 ∧ s.part.staging.state ≠ .ready ∧ p = s.part.setClock (Part.tick s.part.sch.clock))) ∧ (s.part.ssu.session =
      some x ∧ Part.runningState x.state = true) ∧ (Settled s.part) ∧ (p.dueEntry = none ∧ s.part.ssu.pendingStart =
      none ∧ s.part.ssu.params.dwell ≠ 0) ∧ (((s.part.ssu.params.vacancy = 0 ∨ s.part.smn.occupied ≠ 0) ∧ ∀ i,
      (s.part.seat i).presence ≠ .away)) ∧ (graceEnd = (if p.nextStart < 1440 then min (x.effEnd +
      s.part.ssu.params.overtime) (p.sch.clock.day * 1440 + p.nextStart) else x.effEnd + s.part.ssu.params.overtime))
      ∧ (graceEnd = p.now ∧ s.part.allFree = false)) ∧
    (∃ (x : Session) (p : Part) (graceEnd : Nat) (s : State), (s.part.isHeld = false) ∧ ((s.part.sch.clock.second =
      59 ∧ s.part.staging.state ≠ .ready ∧ p = s.part.setClock (Part.tick s.part.sch.clock))) ∧ (s.part.ssu.session =
      some x ∧ Part.runningState x.state = true) ∧ (Settled s.part) ∧ (p.dueEntry = none ∧ s.part.ssu.pendingStart =
      none ∧ s.part.ssu.params.dwell ≠ 0) ∧ (((s.part.ssu.params.vacancy = 0 ∨ s.part.smn.occupied ≠ 0) ∧ ∀ i,
      (s.part.seat i).presence ≠ .away)) ∧ (graceEnd = (if p.nextStart < 1440 then min (x.effEnd +
      s.part.ssu.params.overtime) (p.sch.clock.day * 1440 + p.nextStart) else x.effEnd + s.part.ssu.params.overtime))
      ∧ (graceEnd = p.now ∧ s.part.allFree = true)) ∧
    (∃ (x : Session) (b : Booking) (w : Nat) (p : Part) (s : State), (s.part.isHeld = false) ∧
      ((s.part.sch.clock.second = 59 ∧ s.part.staging.state ≠ .ready ∧ p = s.part.setClock (Part.tick
      s.part.sch.clock))) ∧ (s.part.ssu.session = some x ∧ x.state = .awaiting ∧ x.copy = some b ∧ b.window = some w)
      ∧ (Settled s.part) ∧ (p.dueEntry = none ∧ s.part.ssu.pendingStart = none ∧ s.part.ssu.params.dwell ≠ 0) ∧ ((∀
      i, (s.part.seat i).presence ≠ .away)) ∧ (p.now + 1 = x.effEnd ∧ min (x.await + 1) 30 + 1 = w)) ∧
    (∃ (x : Session) (b : Booking) (w : Nat) (p : Part) (s : State), (s.part.isHeld = false) ∧
      ((s.part.sch.clock.second = 59 ∧ s.part.staging.state ≠ .ready ∧ p = s.part.setClock (Part.tick
      s.part.sch.clock))) ∧ (s.part.ssu.session = some x ∧ x.state = .awaiting ∧ x.copy = some b ∧ b.window = some w)
      ∧ (Settled s.part) ∧ (p.dueEntry = none ∧ s.part.ssu.pendingStart = none ∧ s.part.ssu.params.dwell ≠ 0) ∧ ((∀
      i, (s.part.seat i).presence ≠ .away)) ∧ (p.now < x.effEnd ∧ min (x.await + 1) 30 = w)) ∧
    (∃ (x : Session) (b : Booking) (w : Nat) (p : Part) (s : State), (s.part.isHeld = false) ∧
      ((s.part.sch.clock.second = 59 ∧ s.part.staging.state ≠ .ready ∧ p = s.part.setClock (Part.tick
      s.part.sch.clock))) ∧ (s.part.ssu.session = some x ∧ x.state = .awaiting ∧ x.copy = some b ∧ b.window = some w)
      ∧ (Settled s.part) ∧ (p.dueEntry = none ∧ s.part.ssu.pendingStart = none ∧ s.part.ssu.params.dwell ≠ 0) ∧ ((∀
      i, (s.part.seat i).presence ≠ .away)) ∧ (x.effEnd = p.now)) :=
  ⟨⟨booking 5 600 606, 600, ⟨(published [booking 5 600 606] |> fun p => (p.setClock ⟨0, 599, 59, true⟩).withSmn
     { p.smn with occupied := 0 }), []⟩, by decide +kernel⟩,
   ⟨⟨{ aBooking with id := 5, start := 600, stop := 606, checkIn := true, window := some 1, quorum := 1 }, .pending⟩,
     600, ⟨(published
     [⟨{ aBooking with id := 5, start := 600, stop := 606, checkIn := true, window := some 1, quorum := 1 },
     .pending⟩] |> fun p => (p.setClock ⟨0, 599, 59, true⟩).withSmn { p.smn with occupied := 1 }), []⟩, by
     decide +kernel⟩,
   ⟨⟨{ aBooking with id := 5, start := 600, stop := 606, checkIn := true, window := some 1, quorum := 1 }, .pending⟩,
     600, ⟨(published
     [⟨{ aBooking with id := 5, start := 600, stop := 606, checkIn := true, window := some 1, quorum := 1 },
     .pending⟩] |> fun p => (p.setClock ⟨0, 599, 59, true⟩).withSmn { p.smn with occupied := 0 }), []⟩, by
     decide +kernel⟩,
   ⟨{ openSession with effEnd := 107 }, ((withSession meeting { openSession with effEnd := 107 }).setClock ⟨0, 101,
     0, true⟩), 112, ⟨((withSession meeting { openSession with effEnd := 107 }).setClock ⟨0, 100, 59, true⟩), []⟩, by
     decide +kernel⟩,
   ⟨{ openSession with effEnd := 106 }, ((withSession meeting { openSession with effEnd := 106 }).setClock ⟨0, 101,
     0, true⟩), 111, ⟨((withSession meeting { openSession with effEnd := 106 }).setClock ⟨0, 100, 59, true⟩), []⟩, by
     decide +kernel⟩,
   ⟨{ openSession with effEnd := 101 }, ((withSession meeting { openSession with effEnd := 101 }).setClock ⟨0, 101,
     0, true⟩), 106, ⟨((withSession meeting { openSession with effEnd := 101 }).setClock ⟨0, 100, 59, true⟩), []⟩, by
     decide +kernel⟩,
   ⟨{ openSession with effEnd := 96 }, ((withSession (withSlot meeting 6 .closing 5)
     { openSession with effEnd := 96 }).setClock ⟨0, 101, 0, true⟩), 101, ⟨((withSession (withSlot meeting 6 .closing
     5) { openSession with effEnd := 96 }).setClock ⟨0, 100, 59, true⟩), []⟩, by decide +kernel⟩,
   ⟨{ openSession with effEnd := 96 }, ((withSession meeting { openSession with effEnd := 96 }).setClock ⟨0, 101, 0,
     true⟩), 101, ⟨((withSession meeting { openSession with effEnd := 96 }).setClock ⟨0, 100, 59, true⟩), []⟩, by
     decide +kernel⟩,

     ⟨{ openSession with state := .awaiting, effEnd := 102, await := 28, copy := some { aBooking with window := some 30 } },
     { aBooking with window := some 30 }, 30, ((withSession ready
     { openSession with state := .awaiting, effEnd := 102, await := 28, copy := some { aBooking with window := some 30 } }).setClock
     ⟨0, 101, 0, true⟩), ⟨((withSession ready
     { openSession with state := .awaiting, effEnd := 102, await := 28, copy := some { aBooking with window := some 30 } }).setClock
     ⟨0, 100, 59, true⟩), []⟩, by decide +kernel⟩,

     ⟨{ openSession with state := .awaiting, effEnd := 102, await := 29, copy := some { aBooking with window := some 30 } },
     { aBooking with window := some 30 }, 30, ((withSession ready
     { openSession with state := .awaiting, effEnd := 102, await := 29, copy := some { aBooking with window := some 30 } }).setClock
     ⟨0, 101, 0, true⟩), ⟨((withSession ready
     { openSession with state := .awaiting, effEnd := 102, await := 29, copy := some { aBooking with window := some 30 } }).setClock
     ⟨0, 100, 59, true⟩), []⟩, by decide +kernel⟩,

     ⟨{ openSession with state := .awaiting, effEnd := 101, await := 0, copy := some { aBooking with window := some 30 } },
     { aBooking with window := some 30 }, 30, ((withSession ready
     { openSession with state := .awaiting, effEnd := 101, await := 0, copy := some { aBooking with window := some 30 } }).setClock
     ⟨0, 101, 0, true⟩), ⟨((withSession ready
     { openSession with state := .awaiting, effEnd := 101, await := 0, copy := some { aBooking with window := some 30 } }).setClock
     ⟨0, 100, 59, true⟩), []⟩, by decide +kernel⟩⟩

/-- MinuteEventsTurnTheBanks: all, swaps, otherDay, invalid, notReady. -/
theorem test_hyp_minuteEventsTurnTheBanks :
    (∃ (p : Part) (s : State), (s.part.isHeld = false) ∧ ((s.part.sch.clock.second = 59 ∧ s.part.staging.state ≠
      .ready ∧ p = s.part.setClock (Part.tick s.part.sch.clock))) ∧ (s.part.published.state = .published) ∧ (∃ y ∈
      s.part.published.entries, ∃ z ∈ s.part.published.entries, y.status = .pending ∧ z.status = .pending ∧
      s.part.published.day * 1440 + y.booking.stop = p.now ∧ p.now < s.part.published.day * 1440 + z.booking.stop)) ∧
    (∃ (s : State), (s.part.isHeld = false) ∧ (s.part.sch.bankA.role ≠ s.part.sch.bankB.role) ∧ (59 ≤
      s.part.sch.clock.second ∧ 1439 ≤ s.part.sch.clock.minute) ∧ (s.part.staging.state = .ready ∧
      s.part.sch.clock.valid = true ∧ s.part.staging.day = (s.part.sch.clock.day + 1) % 65536)) ∧
    (∃ (s : State), (s.part.isHeld = false) ∧ (s.part.sch.bankA.role ≠ s.part.sch.bankB.role) ∧ (59 ≤
      s.part.sch.clock.second ∧ 1439 ≤ s.part.sch.clock.minute) ∧ (s.part.staging.state = .ready ∧ s.part.staging.day
      ≠ (s.part.sch.clock.day + 1) % 65536)) ∧
    (∃ (s : State), (s.part.isHeld = false) ∧ (s.part.sch.bankA.role ≠ s.part.sch.bankB.role) ∧ (59 ≤
      s.part.sch.clock.second ∧ 1439 ≤ s.part.sch.clock.minute) ∧ (s.part.sch.clock.valid = false)) ∧
    (∃ (s : State), (s.part.isHeld = false) ∧ (s.part.sch.bankA.role ≠ s.part.sch.bankB.role) ∧ (59 ≤
      s.part.sch.clock.second ∧ 1439 ≤ s.part.sch.clock.minute) ∧ (s.part.staging.state ≠ .ready)) :=
  ⟨⟨(published [booking 4 600 660, booking 5 600 661] |> fun p => p.setClock ⟨0, 660, 0, true⟩), ⟨(published [booking
     4 600 660, booking 5 600 661] |> fun p => p.setClock ⟨0, 659, 59, true⟩), []⟩, by decide +kernel⟩,
   ⟨⟨(staging .ready 0 1 1 [booking 5 600 660] |> fun p => p.setClock ⟨65535, 1439, 59, true⟩), []⟩, by
     decide +kernel⟩,
   ⟨⟨(staging .ready 1 1 1 [booking 5 600 660] |> fun p => p.setClock ⟨65535, 1439, 59, true⟩), []⟩, by
     decide +kernel⟩,
   ⟨⟨(staging .ready 0 1 1 [booking 5 600 660] |> fun p => p.setClock ⟨65535, 1439, 59, false⟩), []⟩, by
     decide +kernel⟩,
   ⟨⟨(staging .faulty 0 1 1 [booking 5 600 660] |> fun p => p.setClock ⟨65535, 1439, 59, true⟩), []⟩, by
     decide +kernel⟩⟩

/-- CheckCompletes: overlap, ready, clockInvalid, today, earlier. -/
theorem test_hyp_checkCompletes :
    (∃ (s : State), (s.part.isHeld = false) ∧ (Settled s.part) ∧ (s.part.sch.bankA.role ≠ s.part.sch.bankB.role) ∧
      (s.part.staging.state = .checking) ∧ (Part.bankOverlaps (Part.sortEntries s.part.staging.entries) = true)) ∧
    (∃ (s : State), (s.part.isHeld = false) ∧ (Settled s.part) ∧ (s.part.sch.bankA.role ≠ s.part.sch.bankB.role) ∧
      (s.part.staging.state = .checking) ∧ (Part.bankOverlaps (Part.sortEntries s.part.staging.entries) = false ∧
      s.part.sch.clock.day < s.part.staging.day)) ∧
    (∃ (s : State), (s.part.isHeld = false) ∧ (Settled s.part) ∧ (s.part.sch.bankA.role ≠ s.part.sch.bankB.role) ∧
      (s.part.staging.state = .checking) ∧ (Part.bankOverlaps (Part.sortEntries s.part.staging.entries) = false ∧
      s.part.sch.clock.valid = false)) ∧
    (∃ (s : State), (s.part.isHeld = false) ∧ (s.part.sch.bankA.role ≠ s.part.sch.bankB.role) ∧ (s.part.staging.state
      = .checking) ∧ (Part.bankOverlaps (Part.sortEntries s.part.staging.entries) = false) ∧ (s.part.sch.clock.valid
      = true ∧ s.part.staging.day ≤ s.part.sch.clock.day) ∧ (s.part.ssu.session = none)) ∧
    (∃ (s : State), (s.part.isHeld = false) ∧ (s.part.sch.bankA.role ≠ s.part.sch.bankB.role) ∧ (s.part.staging.state
      = .checking) ∧ (Part.bankOverlaps (Part.sortEntries s.part.staging.entries) = false) ∧ (s.part.sch.clock.valid
      = true ∧ s.part.staging.day ≤ s.part.sch.clock.day) ∧ (s.part.staging.day < s.part.sch.clock.day)) :=
  ⟨⟨⟨(staging .checking 1 2 2 [booking 1 600 660, booking 2 659 700]), []⟩, by decide +kernel⟩,
   ⟨⟨(staging .checking 1 2 2 [booking 1 660 700, booking 2 600 660] |> fun p => p.setClock ⟨0, 0, 0, true⟩), []⟩, by
     decide +kernel⟩,
   ⟨⟨(staging .checking 0 0 0 []), []⟩, by decide +kernel⟩,
   ⟨⟨((staging .checking 1 2 2 [booking 1 660 700, booking 2 600 660]).setClock ⟨1, 700, 0, true⟩), []⟩, by
     decide +kernel⟩,
   ⟨⟨((staging .checking 1 1 1 [booking 1 0 1440]).setClock ⟨2, 0, 0, true⟩), []⟩, by decide +kernel⟩⟩

/-- SessionsOpenAndEndByTimers: all. -/
theorem test_hyp_sessionsOpenAndEndByTimers :
    (∃ (x : Session) (b : Booking) (w : Nat) (s : State), (s.part.isHeld = false) ∧ (s.part.ssu.session = some x ∧
      x.state = .awaiting ∧ x.copy = some b ∧ b.window = some w ∧ w ≤ x.await) ∧ (s.part.ssu.pendingStart = none ∧
      s.part.ssu.params.dwell ≠ 0)) ∧
    (∃ (x : Session) (s : State), (s.part.isHeld = false) ∧ (s.part.ssu.session = some x ∧ Part.runningState x.state
      = true) ∧ (s.part.ssu.params.vacancy ≠ 0 ∧ s.part.ssu.params.vacancy * 60 ≤ x.vacancy) ∧ (s.part.allFree =
      false)) ∧
    (∃ (x : Session) (s : State), (s.part.isHeld = false) ∧ (s.part.ssu.session = some x ∧ Part.runningState x.state
      = true) ∧ (s.part.ssu.params.vacancy ≠ 0 ∧ s.part.ssu.params.vacancy * 60 ≤ x.vacancy) ∧ (s.part.allFree = true
      ∧ s.part.ssu.pendingStart = none ∧ s.part.ssu.params.dwell ≠ 0)) ∧
    (∃ (s : State), (s.part.isHeld = false) ∧ (s.part.walkInReady = true ∧ s.part.ssu.params.dwell ≤ s.part.ssu.dwell
      ∧ s.part.pwu.power = .active) ∧ (s.part.nextStart = 1440 ∧ s.part.ssu.params.warning < s.part.ssu.params.length
      ∧ s.part.sch.clock.minute + s.part.ssu.params.length ≤ 1440)) :=
  ⟨⟨{ openSession with state := .awaiting, copy := some { aBooking with window := some 30 }, await := 30 },
     { aBooking with window := some 30 }, 30, ⟨(withSession ready
     { openSession with state := .awaiting, copy := some { aBooking with window := some 30 }, await := 30 }), []⟩, by
     decide +kernel⟩,
   ⟨{ openSession with vacancy := 600 }, ⟨(withSlot (withSession meeting { openSession with vacancy := 600 }) 1 .live
     3), []⟩, by decide +kernel⟩,
   ⟨{ openSession with vacancy := 600 }, ⟨(withSession meeting { openSession with vacancy := 600 }), []⟩, by
     decide +kernel⟩,
   ⟨⟨walkIn, []⟩, by decide +kernel⟩⟩

/-- StandbyIsEntered: all, booking, session, pendingStart, quiet. -/
theorem test_hyp_standbyIsEntered :
    (∃ (s : State), (s.part.isHeld = false) ∧ (s.part.pwu.power = .active ∧ s.part.pwu.delay * 60 ≤ s.part.pwu.quiet)
      ∧ ((s.part.ssu.session = none ∧ s.part.ssu.pendingStart = none ∧ s.part.ssu.params.dwell ≠ 0 ∧
      (s.part.nextStart = 1440 ∨ s.part.sch.clock.minute + s.part.pwu.lead < s.part.nextStart)))) ∧
    (∃ (s : State), (s.part.isHeld = false) ∧ (s.part.pwu.power = .active ∧ s.part.pwu.delay * 60 ≤ s.part.pwu.quiet)
      ∧ ((s.part.ssu.session = none ∧ s.part.ssu.pendingStart = none ∧ s.part.ssu.params.dwell ≠ 0 ∧
      (s.part.nextStart = 1440 ∨ s.part.sch.clock.minute + s.part.pwu.lead < s.part.nextStart))) ∧
      (s.part.sch.clock.minute + s.part.pwu.lead + 1 = s.part.nextStart)) ∧
    (∃ (s : State), (Listening s.part .room) ∧ (Settled s.part) ∧ (s.part.ssu.session ≠ none)) ∧
    (∃ (s : State), (Listening s.part .room) ∧ (Settled s.part) ∧ (s.part.ssu.session = none ∧
      s.part.ssu.pendingStart ≠ none)) ∧
    (∃ (s : State), (Listening s.part .room) ∧ (Settled s.part) ∧ (s.part.ssu.session = none ∧
      s.part.ssu.pendingStart = none ∧ s.part.ssu.params.dwell ≠ 0)) :=
  ⟨⟨⟨(ready.withPwu { ready.pwu with quiet := 300 }), []⟩, by decide +kernel⟩,
   ⟨⟨(published [booking 5 600 660] |> fun p => (p.setClock ⟨0, 589, 0, true⟩).withPwu { p.pwu with quiet := 300 }),
     []⟩, by decide +kernel⟩,
   ⟨⟨(withSession ready openSession), []⟩, by decide +kernel⟩,
   ⟨⟨(ready.withSsu { ready.ssu with pendingStart := some 7 }), []⟩, by decide +kernel⟩,
   ⟨⟨ready, []⟩, by decide +kernel⟩⟩

/-- PartWakes: all, wakes, disabled, outside, first, agreed, lead, due, early, none. -/
theorem test_hyp_partWakes :
    (∃ (s : State), (s.part.pln.stage = .running) ∧ (s.part.pwu.power = .waking ∧ 4 ≤ s.part.pwu.settle)) ∧
    (∃ (q : Port) (s : State), (s.part.pln.stage = .running ∧ s.part.pwu.power = .standby) ∧ (FreePort s.part q)) ∧
    (∃ (readings : List Nat) (i : SeatId) (c : ChannelId) (s : State), (s.part.pln.stage = .running ∧
      s.part.pwu.power = .standby) ∧ ((c = Part.proximityChannel i ∧ (s.part.channel c).firstWake = false)) ∧
      (EntersActive s.part readings c 200) ∧ (s.part.pwu.proximityWake = true)) ∧
    (∃ (readings : List Nat) (i : SeatId) (c : ChannelId) (s : State), (s.part.pln.stage = .running ∧
      s.part.pwu.power = .standby) ∧ ((c = Part.proximityChannel i ∧ (s.part.channel c).firstWake = false)) ∧
      (EntersActive s.part readings c 200) ∧ (s.part.pwu.proximityWake = false)) ∧
    (∃ (k : SocketId) (s : State), (s.part.pln.stage = .running ∧ s.part.pwu.power = .standby) ∧ (Settled s.part) ∧
      (s.part.inMask k = false)) ∧
    (∃ (k : SocketId) (ticks : Nat) (levelHeld : Nat) (s : State), (s.part.pln.stage = .running ∧ s.part.pwu.power =
      .standby) ∧ (Settled s.part) ∧ (s.part.inMask k = true ∧ (s.part.socket k).enable = true ∧ (s.part.socket
      k).phase = .waitActive ∧ (s.part.socket k).counter + ticks < 65535 ∧ (s.part.socket k).filter ≤ levelHeld ∧
      (s.part.socket k).lastEdge ≠ some (s.part.socket k).edge ∧ (s.part.socket k).state = .none ∧ s.part.scu.agree =
      1)) ∧
    (∃ (k : SocketId) (ticks : Nat) (levelHeld : Nat) (s : State), (s.part.pln.stage = .running ∧ s.part.pwu.power =
      .standby) ∧ (Settled s.part) ∧ (s.part.inMask k = true ∧ (s.part.socket k).enable = true ∧ (s.part.socket
      k).phase = .waitActive ∧ (s.part.socket k).counter + ticks < 65535 ∧ (s.part.socket k).filter ≤ levelHeld ∧
      (s.part.socket k).lastEdge ≠ some (s.part.socket k).edge ∧ (s.part.socket k).state = .seeking ∧
      s.part.scu.agree = (s.part.socket k).agree + 1 ∧ (s.part.socket k).cls = (classify s.part.scu.rates
      (s.part.socket k).width ((s.part.socket k).counter + ticks)).1)) ∧
    (∃ (p : Part) (s : State), (s.part.pln.stage = .running ∧ s.part.pwu.power = .standby) ∧
      ((s.part.sch.clock.second = 59 ∧ s.part.staging.state ≠ .ready ∧ p = s.part.setClock (Part.tick
      s.part.sch.clock))) ∧ (p.nextStart < 1440 ∧ p.nextStart = p.sch.clock.minute + s.part.pwu.lead)) ∧
    (∃ (p : Part) (s : State), (s.part.pln.stage = .running ∧ s.part.pwu.power = .standby) ∧
      ((s.part.sch.clock.second = 59 ∧ s.part.staging.state ≠ .ready ∧ p = s.part.setClock (Part.tick
      s.part.sch.clock))) ∧ (p.dueEntry ≠ none ∧ s.part.ssu.session = none ∧ s.part.ssu.pendingStart = none)) ∧
    (∃ (p : Part) (s : State), (s.part.pln.stage = .running ∧ s.part.pwu.power = .standby) ∧
      ((s.part.sch.clock.second = 59 ∧ s.part.staging.state ≠ .ready ∧ p = s.part.setClock (Part.tick
      s.part.sch.clock))) ∧ (p.nextStart < 1440 ∧ p.sch.clock.minute + s.part.pwu.lead < p.nextStart)) ∧
    (∃ (p : Part) (s : State), (s.part.pln.stage = .running ∧ s.part.pwu.power = .standby) ∧
      ((s.part.sch.clock.second = 59 ∧ s.part.staging.state ≠ .ready ∧ p = s.part.setClock (Part.tick
      s.part.sch.clock))) ∧ (p.nextStart = 1440)) :=
  ⟨⟨⟨(ready.withPwu { ready.pwu with power := .waking, settle := 4 }), []⟩, by decide +kernel⟩,
   ⟨.av, ⟨(ready.setPower .standby), []⟩, by decide +kernel⟩,
   ⟨List.replicate 41 1475, 2, 5, ⟨(withChannel (ready.setPower .standby) 5
     { idleKey with state := .entering, lta := 25600, filtered := 23600, debounce := 3 }), []⟩, by decide +kernel⟩,
   ⟨List.replicate 41 1475, 2, 5, ⟨(withChannel ((ready.setPower .standby) |> fun p => p.withPwu
     { p.pwu with proximityWake := false }) 5
     { idleKey with state := .entering, lta := 25600, filtered := 23600, debounce := 3 }), []⟩, by decide +kernel⟩,
   ⟨0, ⟨((withSocket (ready.setPower .standby) 0 fun x =>
     { x with phase := .waitActive, counter := 10000, width := 500, lastEdge := some .rising, state := .none }) |>
     fun p => (p.withScu { p.scu with agree := 4 }).withPwu { p.pwu with mask := Vector.replicate 8 false }), []⟩, by
     decide +kernel⟩,
   ⟨0, 55534, 2, ⟨((withSocket (ready.setPower .standby) 0 fun x =>
     { x with phase := .waitActive, counter := 10000, width := 500, lastEdge := some .rising, state := .none }) |>
     fun p => (p.withScu { p.scu with agree := 1 }).withPwu { p.pwu with mask := Vector.replicate 8 true }), []⟩, by
     decide +kernel⟩,
   ⟨7, 6517, 2, ⟨((withSocket (ready.setPower .standby) 7 fun x =>
     { x with phase := .waitActive, counter := 10000, width := 500, lastEdge := some .rising, state := .seeking, agree := 3, cls := .id 1 })
     |> fun p => (p.withScu { p.scu with agree := 4 }).withPwu { p.pwu with mask := Vector.replicate 8 true }), []⟩,
     by decide +kernel⟩,
   ⟨(published [booking 5 600 660] |> fun p => (p.setPower .standby).setClock ⟨0, 590, 0, true⟩), ⟨(published
     [booking 5 600 660] |> fun p => (p.setPower .standby).setClock ⟨0, 589, 59, true⟩), []⟩, by decide +kernel⟩,
   ⟨(published [booking 5 600 660] |> fun p => (p.setPower .standby).setClock ⟨0, 600, 0, true⟩), ⟨(published
     [booking 5 600 660] |> fun p => (p.setPower .standby).setClock ⟨0, 599, 59, true⟩), []⟩, by decide +kernel⟩,
   ⟨(published [booking 5 600 660] |> fun p => (p.setPower .standby).setClock ⟨0, 589, 0, true⟩), ⟨(published
     [booking 5 600 660] |> fun p => (p.setPower .standby).setClock ⟨0, 588, 59, true⟩), []⟩, by decide +kernel⟩,
   ⟨(published [] |> fun p => (p.setPower .standby).setClock ⟨0, 601, 0, true⟩), ⟨(published [] |> fun p =>
     (p.setPower .standby).setClock ⟨0, 600, 59, true⟩), []⟩, by decide +kernel⟩⟩

/-- TransferTakesRequest: chairNone, chairTwo, av, taken, refused, long, chair, roomWaits, roomDropped. -/
theorem test_hyp_transferTakesRequest :
    (∃ (q : SerialPort) (bytes : List Byte) (s : State), (s.part.isHeld = false) ∧ (Settled s.part) ∧ ((bytes.length
      < 3 ∧ (q = .chair → bytes.head? ≠ some 0))) ∧ (bytes = [])) ∧
    (∃ (q : SerialPort) (bytes : List Byte) (s : State), (s.part.isHeld = false) ∧ (Settled s.part) ∧ ((bytes.length
      < 3 ∧ (q = .chair → bytes.head? ≠ some 0))) ∧ (bytes.length = 2)) ∧
    (∃ (q : SerialPort) (bytes : List Byte) (s : State), (s.part.isHeld = false) ∧ (Settled s.part) ∧ ((bytes.length
      < 3 ∧ (q = .chair → bytes.head? ≠ some 0))) ∧ (q = .av)) ∧
    (∃ (q : SerialPort) (code : Byte) (tag : Byte) (len : Byte) (payload : List Byte) (s : State), (Listening s.part
      (portOf q)) ∧ (Settled s.part) ∧ (q = .chair → code ≠ 0) ∧ (s.part.checkRequest (portOf q) ⟨code, tag, len,
      payload⟩ = none ∧ code ≠ 0x0C)) ∧
    (∃ (q : SerialPort) (code : Byte) (tag : Byte) (len : Byte) (payload : List Byte) (s : State), (Listening s.part
      (portOf q)) ∧ (Settled s.part) ∧ (q = .chair → code ≠ 0) ∧ (s.part.checkRequest (portOf q) ⟨code, tag, len,
      payload⟩ = some .badRequest)) ∧
    (∃ (q : SerialPort) (code : Byte) (tag : Byte) (len : Byte) (payload : List Byte) (s : State), (Listening s.part
      (portOf q)) ∧ (Settled s.part) ∧ (q = .chair → code ≠ 0) ∧ (s.part.checkRequest (portOf q) ⟨code, tag, len,
      payload⟩ = some .badRequest ∧ payload.length + 3 = 68)) ∧
    (∃ (q : SerialPort) (code : Byte) (r : Request) (s : State), (Running s.part) ∧ (Settled s.part) ∧ ((code ≠ 0x0C
      ∧ (q = .chair → code ≠ 0))) ∧ ((s.part.port (portOf q)).inService = some r)) ∧
    (∃ (q : SerialPort) (code : Byte) (r : Request) (s : State), (Running s.part) ∧ (Settled s.part) ∧ ((code ≠ 0x0C
      ∧ (q = .chair → code ≠ 0))) ∧ ((s.part.port (portOf q)).inService = some r)) ∧
    (∃ (q : SerialPort) (code : Byte) (tag : Byte) (len : Byte) (payload : List Byte) (r : Request) (s : State),
      (Running s.part) ∧ (Settled s.part) ∧ ((code ≠ 0x0C ∧ (q = .chair → code ≠ 0))) ∧ ((s.part.port
      .room).inService = some r ∧ s.part.prt.rx.phase = .hunt ∧ code ≠ 0x7E ∧ tag ≠ 0x7E ∧ len.toNat ≤ 64 ∧
      payload.length = len.toNat ∧ (s.part.port .room).waiting = none)) ∧
    (∃ (q : SerialPort) (code : Byte) (tag : Byte) (len : Byte) (payload : List Byte) (r : Request) (s : State),
      (Running s.part) ∧ (Settled s.part) ∧ ((code ≠ 0x0C ∧ (q = .chair → code ≠ 0))) ∧ ((s.part.port
      .room).inService = some r ∧ s.part.prt.rx.phase = .hunt ∧ code ≠ 0x7E ∧ tag ≠ 0x7E ∧ len.toNat ≤ 64 ∧
      payload.length = len.toNat ∧ (s.part.port .room).waiting ≠ none)) :=
  ⟨⟨.chair, [], State.reset, by decide +kernel⟩,
   ⟨.chair, [7, 0], ⟨ready, []⟩, by decide +kernel⟩,
   ⟨.av, [0, 0], ⟨ready, []⟩, by decide +kernel⟩,
   ⟨.chair, 0x20, 0, 1, [5], ⟨ready, []⟩, by decide +kernel⟩,
   ⟨.av, 0, 255, 0, [], ⟨ready, []⟩, by decide +kernel⟩,
   ⟨.av, 0x60, 255, 65, List.replicate 65 0, ⟨ready, []⟩, by decide +kernel⟩,
   ⟨.chair, 0x21, ⟨0x07, 5, 0, []⟩, ⟨(ready.setPort .chair
     { ready.port .chair with inService := some ⟨0x07, 5, 0, []⟩, waiting := some ⟨0x0A, 1, 0, []⟩ }), []⟩, by
     decide +kernel⟩,
   ⟨.av, 0, ⟨0x07, 5, 0, []⟩, ⟨(ready.setPort .av
     { ready.port .av with inService := some ⟨0x07, 5, 0, []⟩, waiting := none }), []⟩, by decide +kernel⟩,
   ⟨.av, 0x21, 0, 0, [], ⟨0x07, 5, 0, []⟩, ⟨(ready.setPort .room
     { ready.port .room with inService := some ⟨0x07, 5, 0, []⟩, waiting := none }), []⟩, by decide +kernel⟩,
   ⟨.av, 0x21, 0, 0, [], ⟨0x07, 5, 0, []⟩, ⟨(ready.setPort .room
     { ready.port .room with inService := some ⟨0x07, 5, 0, []⟩, waiting := some ⟨0x0A, 1, 0, []⟩ }), []⟩, by
     decide +kernel⟩⟩

/-- ResponseReadGivesSegment: segments, short, nothing. -/
theorem test_hyp_responseReadGivesSegment :
    (∃ (q : SerialPort) (n : Nat) (s : State), (s.part.isHeld = false) ∧ (Settled s.part) ∧ (∃ r ∈ (s.part.port
      (portOf q)).pending, 3 ≤ n ∧ 1 < r.frames.length)) ∧
    (∃ (q : SerialPort) (n : Nat) (s : State), (s.part.isHeld = false) ∧ (Settled s.part) ∧ (∃ r ∈ (s.part.port
      (portOf q)).pending, n < 3 ∧ r.frames = [[]])) ∧
    (∃ (q : SerialPort) (s : State), (s.part.isHeld = false) ∧ (Settled s.part) ∧ ((s.part.port (portOf q)).pending =
      none)) :=
  ⟨⟨.av, 3, ⟨(ready.setPort .av { ready.port .av with pending := some ⟨9, .done, [[1], [2]]⟩ }), []⟩, by
     decide +kernel⟩,
   ⟨.chair, 2, ⟨(ready.setPort .chair { ready.port .chair with pending := some ⟨9, .done, [[]]⟩ }), []⟩, by
     decide +kernel⟩,
   ⟨.chair, ⟨ready, []⟩, by decide +kernel⟩⟩

/-- RoomLinkFraming: longest, empty, all, length. -/
theorem test_hyp_roomLinkFraming :
    (∃ (code : Byte) (tag : Byte) (len : Byte) (payload : List Byte) (s : State), (Listening s.part .room) ∧ (Settled
      s.part) ∧ (s.part.prt.rx.phase = .hunt) ∧ (code ≠ 0x7E ∧ tag ≠ 0x7E ∧ code ≠ 0x0C) ∧ (len.toNat ≤ 64 ∧
      payload.length = len.toNat) ∧ (s.part.checkRequest .room ⟨code, tag, len, payload⟩ = none)) ∧
    (∃ (code : Byte) (tag : Byte) (len : Byte) (payload : List Byte) (s : State), (Listening s.part .room) ∧ (Settled
      s.part) ∧ (s.part.prt.rx.phase = .hunt) ∧ (code ≠ 0x7E ∧ tag ≠ 0x7E ∧ code ≠ 0x0C) ∧ (len.toNat ≤ 64 ∧
      payload.length = len.toNat) ∧ (s.part.checkRequest .room ⟨code, tag, len, payload⟩ = none)) ∧
    (∃ (code : Byte) (tag : Byte) (len : Byte) (sum : Byte) (payload : List Byte) (s : State), (s.part.isHeld =
      false) ∧ (Settled s.part) ∧ (s.part.prt.rx.phase = .hunt) ∧ (code ≠ 0x7E ∧ tag ≠ 0x7E) ∧ (len.toNat ≤ 64 ∧
      payload.length = len.toNat) ∧ (sum ≠ frameSum (code :: tag :: len :: payload))) ∧
    (∃ (a : Byte) (b : Byte) (len : Byte) (s : State), (s.part.isHeld = false) ∧ (Settled s.part) ∧ (s.part.prt.rx =
      ⟨.header, [a, b], []⟩ ∧ 64 < len.toNat ∧ len ≠ 0x7E)) :=
  ⟨⟨0x42, 0, 17, [0, 1, 0, 0, 5, 160, 1, 30, 20, 3, 6, 14, 16, 1, 3, 1, 20], ⟨ready, []⟩, by decide +kernel⟩,
   ⟨0x01, 0x7D, 0, [], ⟨ready, []⟩, by decide +kernel⟩,
   ⟨0, 0, 64, 0, List.replicate 64 0x7E, ⟨ready, []⟩, by decide +kernel⟩,
   ⟨1, 2, 65, ⟨(ready.setReceiver ⟨.header, [1, 2], []⟩), []⟩, by decide +kernel⟩⟩

/-- WaitingRequestEntersService: entered, refused. -/
theorem test_hyp_waitingRequestEntersService :
    (∃ (q : Port) (r : Request) (s : State), (s.part.isHeld = false) ∧ (Settled s.part) ∧ (((s.part.port q).inService
      = none ∧ (s.part.port q).waiting = some r)) ∧ (s.part.checkRequest q r = none)) ∧
    (∃ (q : Port) (r : Request) (s : State), (s.part.isHeld = false) ∧ (Settled s.part) ∧ (((s.part.port q).inService
      = none ∧ (s.part.port q).waiting = some r)) ∧ (s.part.checkRequest q r = some .notPermitted)) :=
  ⟨⟨.room, ⟨0x07, 5, 0, []⟩, ⟨(ready.setPort .room { ready.port .room with waiting := some ⟨0x07, 5, 0, []⟩ }), []⟩,
     by decide +kernel⟩,
   ⟨.chair, ⟨0x40, 5, 0, []⟩, ⟨(ready.setPort .chair { ready.port .chair with waiting := some ⟨0x40, 5, 0, []⟩ }),
     []⟩, by decide +kernel⟩⟩

/-- RightsAndStartUpAreChecked: all, end, loading, retuning. -/
theorem test_hyp_rightsAndStartUpAreChecked :
    (∃ (c : Instr) (q : Port) (r : Request) (s : State), (requestOf c = some (q, r)) ∧ (Listening s.part q) ∧
      (Settled s.part) ∧ (¬ Permitted q r.code.toNat)) ∧
    (∃ (c : Instr) (q : Port) (r : Request) (s : State), (requestOf c = some (q, r)) ∧ (Listening s.part q) ∧
      (Settled s.part) ∧ (¬ Permitted q r.code.toNat)) ∧
    (∃ (c : Instr) (q : Port) (r : Request) (s : State), (requestOf c = some (q, r)) ∧ ((s.part.pln.stage = .loading
      ∨ (s.part.pln.stage = .retuning ∧ 0x0A < r.code.toNat))) ∧ (s.part.pwu.power ≠ .standby ∧ FreePort s.part q) ∧
      (Settled s.part) ∧ (Permitted q r.code.toNat) ∧ (s.part.pln.stage = .loading)) ∧
    (∃ (c : Instr) (q : Port) (r : Request) (s : State), (requestOf c = some (q, r)) ∧ ((s.part.pln.stage = .loading
      ∨ (s.part.pln.stage = .retuning ∧ 0x0A < r.code.toNat))) ∧ (s.part.pwu.power ≠ .standby ∧ FreePort s.part q) ∧
      (Settled s.part) ∧ (Permitted q r.code.toNat) ∧ (s.part.pln.stage = .retuning)) :=
  ⟨⟨.planSave .av 1, .av, ⟨0x4D, 1, 0, []⟩, ⟨ready, []⟩, by decide +kernel⟩,
   ⟨.endSession .av 1, .av, ⟨0x2A, 1, 0, []⟩, ⟨ready, []⟩, by decide +kernel⟩,
   ⟨.ident .chair 1, .chair, ⟨0x01, 1, 0, []⟩, State.reset, by decide +kernel⟩,
   ⟨.noticeMask .room 1 511, .room, ⟨0x0B, 1, 2, [1, 255]⟩, ⟨(staged .retuning), []⟩, by decide +kernel⟩⟩

/-- IdentAndSegmentedReadsAnswer: running, startUp, sel0, sel1, sel2. -/
theorem test_hyp_identAndSegmentedReadsAnswer :
    (∃ (q : Port) (s : State), (Readable s.part q) ∧ (Settled s.part)) ∧
    (∃ (q : Port) (s : State), (Readable s.part q) ∧ (Settled s.part)) ∧
    (∃ (q : Port) (s : State), (Readable s.part q) ∧ (Settled s.part)) ∧
    (∃ (q : Port) (s : State), (Readable s.part q) ∧ (Settled s.part)) ∧
    (∃ (q : Port) (sel : Byte) (s : State), (Readable s.part q) ∧ (Settled s.part) ∧ (sel = 0)) ∧
    (∃ (q : Port) (sel : Byte) (s : State), (Readable s.part q) ∧ (Settled s.part) ∧ (sel = 1)) ∧
    (∃ (q : Port) (sel : Byte) (s : State), (Readable s.part q) ∧ (Settled s.part) ∧ (1 < sel.toNat)) :=
  ⟨⟨.room, ⟨ready, []⟩, by decide +kernel⟩,
   ⟨.av, ⟨((staged .retuning).setPower .waking), []⟩, by decide +kernel⟩,
   ⟨.room, ⟨ready, []⟩, by decide +kernel⟩,
   ⟨.av, ⟨((staged .retuning).setPower .waking), []⟩, by decide +kernel⟩,
   ⟨.chair, 0, ⟨ready, []⟩, by decide +kernel⟩,
   ⟨.chair, 1, ⟨ready, []⟩, by decide +kernel⟩,
   ⟨.chair, 2, ⟨ready, []⟩, by decide +kernel⟩⟩

/-- RecordReadsAnswer: n0, n20, n21, n40, n41, n8, n11, n32, n35, n9, n10, n0x21, n0x22, sel3part8, sel0part1,
  sel0part0, sel4part0, sel0part9, head1, head2, head3, range, empty, head, lines1, lines5. -/
theorem test_hyp_recordReadsAnswer :
    (∃ (q : Port) (n : Byte) (s : State), (Readable s.part q) ∧ (Settled s.part) ∧ (n = 0)) ∧
    (∃ (q : Port) (n : Byte) (s : State), (Readable s.part q) ∧ (Settled s.part) ∧ (∃ i : SeatId, n.toNat = i.val +
      1)) ∧
    (∃ (q : Port) (n : Byte) (s : State), (Readable s.part q) ∧ (Settled s.part) ∧ (20 < n.toNat)) ∧
    (∃ (q : Port) (n : Byte) (s : State), (Readable s.part q) ∧ (Settled s.part) ∧ (∃ c : ChannelId, n.toNat =
      c.val)) ∧
    (∃ (q : Port) (n : Byte) (s : State), (Readable s.part q) ∧ (Settled s.part) ∧ (40 < n.toNat)) ∧
    (∃ (q : Port) (n : Byte) (s : State), (Readable s.part q) ∧ (Settled s.part) ∧ (∃ k : SocketId, n.toNat = k.val +
      1)) ∧
    (∃ (q : Port) (n : Byte) (s : State), (Readable s.part q) ∧ (Settled s.part) ∧ (10 < n.toNat ∧ n.toNat < 0x20)) ∧
    (∃ (q : Port) (n : Byte) (s : State), (Readable s.part q) ∧ (Settled s.part) ∧ (n = 0x20)) ∧
    (∃ (q : Port) (n : Byte) (s : State), (Readable s.part q) ∧ (Settled s.part) ∧ (0x22 < n.toNat)) ∧
    (∃ (q : Port) (n : Byte) (s : State), (Readable s.part q) ∧ (Settled s.part) ∧ (n = 9)) ∧
    (∃ (q : Port) (n : Byte) (s : State), (Readable s.part q) ∧ (Settled s.part) ∧ (n = 10)) ∧
    (∃ (q : Port) (n : Byte) (s : State), (Readable s.part q) ∧ (Settled s.part) ∧ (n = 0x21)) ∧
    (∃ (q : Port) (n : Byte) (s : State), (Readable s.part q) ∧ (Settled s.part) ∧ (n = 0x22)) ∧
    (∃ (q : Port) (part : Byte) (s : State), (Readable s.part q) ∧ (Settled s.part) ∧ (1 ≤ part.toNat ∧ part.toNat ≤
      8)) ∧
    (∃ (q : Port) (part : Byte) (s : State), (Readable s.part q) ∧ (Settled s.part) ∧ (1 ≤ part.toNat ∧ part.toNat ≤
      8)) ∧
    (∃ (q : Port) (sel : Byte) (part : Byte) (s : State), (Readable s.part q) ∧ (Settled s.part) ∧ (sel = 0 ∧ part =
      0)) ∧
    (∃ (q : Port) (sel : Byte) (s : State), (Readable s.part q) ∧ (Settled s.part) ∧ (3 < sel.toNat)) ∧
    (∃ (q : Port) (part : Byte) (s : State), (Readable s.part q) ∧ (Settled s.part) ∧ (8 < part.toNat)) ∧
    (∃ (q : Port) (sel : Byte) (part : Byte) (s : State), (Readable s.part q) ∧ (Settled s.part) ∧ (sel = 1 ∧ part =
      0)) ∧
    (∃ (q : Port) (sel : Byte) (part : Byte) (s : State), (Readable s.part q) ∧ (Settled s.part) ∧ (sel = 2 ∧ part =
      0)) ∧
    (∃ (q : Port) (sel : Byte) (part : Byte) (s : State), (Readable s.part q) ∧ (Settled s.part) ∧ (sel = 3 ∧ part =
      0)) ∧
    (∃ (n : Byte) (s : State), (Listening s.part .room) ∧ (Settled s.part) ∧ (5 < n.toNat)) ∧
    (∃ (n : Byte) (s : State), (Listening s.part .room) ∧ (Settled s.part) ∧ (n.toNat ≤ 5 ∧ s.part.ssu.store = [])) ∧
    (∃ (n : Byte) (s : State), (Listening s.part .room) ∧ (Settled s.part) ∧ (∃ x ∈ s.part.ssu.store.head?, n = 0 ∧
      x.number = 7)) ∧
    (∃ (n : Byte) (s : State), (Listening s.part .room) ∧ (Settled s.part) ∧ (s.part.ssu.store ≠ [] ∧ 1 ≤ n.toNat ∧
      n.toNat ≤ 5)) ∧
    (∃ (n : Byte) (s : State), (Listening s.part .room) ∧ (Settled s.part) ∧ (s.part.ssu.store ≠ [] ∧ 1 ≤ n.toNat ∧
      n.toNat ≤ 5)) :=
  ⟨⟨.chair, 0, ⟨(staged .retuning), []⟩, by decide +kernel⟩,
   ⟨.chair, 20, ⟨(staged .retuning), []⟩, by decide +kernel⟩,
   ⟨.chair, 21, ⟨(staged .retuning), []⟩, by decide +kernel⟩,
   ⟨.chair, 40, ⟨(staged .retuning), []⟩, by decide +kernel⟩,
   ⟨.chair, 41, ⟨(staged .retuning), []⟩, by decide +kernel⟩,
   ⟨.chair, 8, ⟨(staged .retuning), []⟩, by decide +kernel⟩,
   ⟨.chair, 11, ⟨(staged .retuning), []⟩, by decide +kernel⟩,
   ⟨.chair, 32, ⟨(staged .retuning), []⟩, by decide +kernel⟩,
   ⟨.chair, 35, ⟨(staged .retuning), []⟩, by decide +kernel⟩,
   ⟨.av, 9, ⟨ready, []⟩, by decide +kernel⟩,
   ⟨.av, 10, ⟨ready, []⟩, by decide +kernel⟩,
   ⟨.av, 0x21, ⟨ready, []⟩, by decide +kernel⟩,
   ⟨.av, 0x22, ⟨ready, []⟩, by decide +kernel⟩,
   ⟨.av, 8, ⟨ready, []⟩, by decide +kernel⟩,
   ⟨.av, 1, ⟨ready, []⟩, by decide +kernel⟩,
   ⟨.av, 0, 0, ⟨ready, []⟩, by decide +kernel⟩,
   ⟨.av, 4, ⟨ready, []⟩, by decide +kernel⟩,
   ⟨.av, 9, ⟨ready, []⟩, by decide +kernel⟩,
   ⟨.room, 1, 0, ⟨ready, []⟩, by decide +kernel⟩,
   ⟨.room, 2, 0, ⟨ready, []⟩, by decide +kernel⟩,
   ⟨.room, 3, 0, ⟨ready, []⟩, by decide +kernel⟩,
   ⟨6, ⟨ready, []⟩, by decide +kernel⟩,
   ⟨5, ⟨ready, []⟩, by decide +kernel⟩,
   ⟨0, ⟨stored, []⟩, by decide +kernel⟩,
   ⟨1, ⟨stored, []⟩, by decide +kernel⟩,
   ⟨5, ⟨stored, []⟩, by decide +kernel⟩⟩

/-- RecordLayouts. -/
theorem test_hyp_recordLayouts :
    ∃ (p : Part), (∀ k, (p.screen k).driven = p.drivenBy k) :=
  ⟨ready, by decide +kernel⟩

/-- NoticeReadAndPortResetClear: all, chair, room, av. -/
theorem test_hyp_noticeReadAndPortResetClear :
    (∃ (q : Port) (s : State), (Readable s.part q) ∧ (Settled s.part)) ∧
    (∃ (q : Port) (s : State), (Listening s.part q) ∧ (Settled s.part)) ∧
    (∃ (q : Port) (s : State), (Listening s.part q) ∧ (Settled s.part)) ∧
    (∃ (q : Port) (s : State), (Listening s.part q) ∧ (Settled s.part)) :=
  ⟨⟨.chair, ⟨((staged .retuning).notice .floor), []⟩, by decide +kernel⟩,
   ⟨.chair, ⟨(ready.notice .power), []⟩, by decide +kernel⟩,
   ⟨.room, ⟨(ready.notice .power), []⟩, by decide +kernel⟩,
   ⟨.av, ⟨(ready.notice .power), []⟩, by decide +kernel⟩⟩

/-- NoticeMaskSets: range, set, unmask. -/
theorem test_hyp_noticeMaskSets :
    (∃ (q : Port) (mask : Half) (s : State), (Listening s.part q) ∧ (Settled s.part) ∧ (511 < mask.toNat)) ∧
    (∃ (q : Port) (mask : Half) (s : State), (Listening s.part q) ∧ (Settled s.part) ∧ (mask.toNat ≤ 511)) ∧
    (∃ (q : Port) (mask : Half) (s : State), (Listening s.part q) ∧ (Settled s.part) ∧ (mask.toNat ≤ 511)) :=
  ⟨⟨.chair, 512, ⟨ready, []⟩, by decide +kernel⟩,
   ⟨.av, 511, ⟨(ready.notice .power), []⟩, by decide +kernel⟩,
   ⟨.room, 0, ⟨(ready.notice .floor), []⟩, by decide +kernel⟩⟩

/-- GrantRequests: closed, chair, absent, holding, granted, queuedAlready, queueFull, joins, emptyQueue, full. -/
theorem test_hyp_grantRequests :
    (∃ (n : Byte) (i : SeatId) (s : State), (Listening s.part .chair) ∧ (Settled s.part) ∧ (n.toNat = i.val + 1) ∧
      (s.part.flc.isOpen = false)) ∧
    (∃ (n : Byte) (i : SeatId) (s : State), (Listening s.part .chair) ∧ (Settled s.part) ∧ (n.toNat = i.val + 1) ∧
      (s.part.isDelegate i = false)) ∧
    (∃ (n : Byte) (i : SeatId) (s : State), (Listening s.part .chair) ∧ (Settled s.part) ∧ (n.toNat = i.val + 1) ∧
      (s.part.presentForKey i = false)) ∧
    (∃ (n : Byte) (i : SeatId) (s : State), (Listening s.part .chair) ∧ (Settled s.part) ∧ (n.toNat = i.val + 1) ∧
      ((s.part.slotOf i).isSome = true)) ∧
    (∃ (n : Byte) (i : SeatId) (s : State), (Listening s.part .chair) ∧ (Settled s.part) ∧ (n.toNat = i.val + 1) ∧
      (s.part.flc.isOpen = true ∧ s.part.isDelegate i = true ∧ s.part.presentForKey i = true ∧ s.part.slotOf i = none
      ∧ s.part.available = some 1)) ∧
    (∃ (n : Byte) (i : SeatId) (s : State), (Listening s.part .chair) ∧ (Settled s.part) ∧ (n.toNat = i.val + 1) ∧
      (s.part.flc.isOpen = true ∧ s.part.isDelegate i = true ∧ s.part.presentForKey i = true ∧ s.part.slotOf i = none
      ∧ s.part.available = none ∧ s.part.isQueued i = true)) ∧
    (∃ (n : Byte) (i : SeatId) (s : State), (Listening s.part .chair) ∧ (Settled s.part) ∧ (n.toNat = i.val + 1) ∧
      (s.part.flc.isOpen = true ∧ s.part.isDelegate i = true ∧ s.part.presentForKey i = true ∧ s.part.slotOf i = none
      ∧ s.part.available = none ∧ s.part.isQueued i = false ∧ 16 ≤ s.part.flc.queue.length)) ∧
    (∃ (n : Byte) (i : SeatId) (s : State), (Listening s.part .chair) ∧ (Settled s.part) ∧ (n.toNat = i.val + 1) ∧
      (s.part.flc.isOpen = true ∧ s.part.isDelegate i = true ∧ s.part.presentForKey i = true ∧ s.part.slotOf i = none
      ∧ s.part.available = none ∧ s.part.isQueued i = false ∧ s.part.flc.queue.length = 15)) ∧
    (∃ (s : State), (Listening s.part .chair) ∧ (Settled s.part) ∧ (s.part.flc.isOpen = false)) ∧
    (∃ (s : State), (Listening s.part .chair) ∧ (Settled s.part) ∧ (s.part.flc.queue = [])) ∧
    (∃ (s : State), (Listening s.part .chair) ∧ (Settled s.part) ∧ (∃ e ∈ s.part.flc.queue.head?, s.part.flc.isOpen =
      true ∧ s.part.isDelegate e.seat = true ∧ s.part.presentForKey e.seat = true ∧ s.part.slotOf e.seat = none ∧
      s.part.available = none)) ∧
    (∃ (s : State), (Listening s.part .chair) ∧ (Settled s.part) ∧ (∃ e ∈ s.part.flc.queue.head?, s.part.flc.isOpen =
      true ∧ s.part.isDelegate e.seat = true ∧ s.part.presentForKey e.seat = true ∧ s.part.slotOf e.seat = none ∧
      s.part.available = some 1)) :=
  ⟨⟨20, 19, ⟨ready, []⟩, by decide +kernel⟩,
   ⟨1, 0, ⟨meeting, []⟩, by decide +kernel⟩,
   ⟨20, 19, ⟨(withSeat meeting 19 fun x => { x with presence := .vacant }), []⟩, by decide +kernel⟩,
   ⟨20, 19, ⟨(withSlot meeting 6 .closing 19), []⟩, by decide +kernel⟩,
   ⟨20, 19, ⟨meeting, []⟩, by decide +kernel⟩,
   ⟨20, 19, ⟨(full (withQueue meeting [entry 19])), []⟩, by decide +kernel⟩,
   ⟨20, 19, ⟨(full (withQueue meeting ((List.finRange 20).drop 3 |>.take 16 |>.map entry))), []⟩, by decide +kernel⟩,
   ⟨20, 19, ⟨(full (withQueue meeting ((List.finRange 20).drop 3 |>.take 15 |>.map entry))), []⟩, by decide +kernel⟩,
   ⟨⟨(withQueue ready [entry 3]), []⟩, by decide +kernel⟩,
   ⟨⟨meeting, []⟩, by decide +kernel⟩,
   ⟨⟨(full queued), []⟩, by decide +kernel⟩,
   ⟨⟨queued, []⟩, by decide +kernel⟩⟩

/-- CloseRequests: open, chairSlot, closing, none. -/
theorem test_hyp_closeRequests :
    (∃ (n : Byte) (i : SeatId) (s : State), (Listening s.part .chair) ∧ (Settled s.part) ∧ (n.toNat = i.val + 1) ∧ (∃
      k, s.part.slotOf i = some k ∧ Part.isOpenState (s.part.slot k).state = true)) ∧
    (∃ (n : Byte) (i : SeatId) (s : State), (Listening s.part .chair) ∧ (Settled s.part) ∧ (n.toNat = i.val + 1) ∧
      (s.part.slotOf i = some 0 ∧ Part.isOpenState (s.part.slot 0).state = true)) ∧
    (∃ (n : Byte) (i : SeatId) (s : State), (Listening s.part .chair) ∧ (Settled s.part) ∧ (n.toNat = i.val + 1) ∧
      (s.part.slotOf i = some 6 ∧ ∀ k ∈ s.part.slotOf i, Part.isOpenState (s.part.slot k).state = false)) ∧
    (∃ (n : Byte) (i : SeatId) (s : State), (Listening s.part .chair) ∧ (Settled s.part) ∧ (n.toNat = i.val + 1) ∧ (∀
      k ∈ s.part.slotOf i, Part.isOpenState (s.part.slot k).state = false)) :=
  ⟨⟨20, 19, ⟨(withSlot meeting 6 .opening 19), []⟩, by decide +kernel⟩,
   ⟨1, 0, ⟨(withSlot meeting 0 .live 0), []⟩, by decide +kernel⟩,
   ⟨20, 19, ⟨(withSlot meeting 6 .closing 19), []⟩, by decide +kernel⟩,
   ⟨20, 19, ⟨ready, []⟩, by decide +kernel⟩⟩

/-- CancelRequests: queued, absent, empty. -/
theorem test_hyp_cancelRequests :
    (∃ (n : Byte) (i : SeatId) (s : State), (Listening s.part .chair) ∧ (Settled s.part) ∧ (n.toNat = i.val + 1) ∧ (∃
      e ∈ s.part.flc.queue, e.seat = i)) ∧
    (∃ (n : Byte) (i : SeatId) (s : State), (Listening s.part .chair) ∧ (Settled s.part) ∧ (n.toNat = i.val + 1) ∧ (∀
      e ∈ s.part.flc.queue, e.seat ≠ i)) ∧
    (∃ (n : Byte) (i : SeatId) (s : State), (Listening s.part .chair) ∧ (Settled s.part) ∧ (n.toNat = i.val + 1) ∧
      (s.part.flc.queue = [])) :=
  ⟨⟨20, 19, ⟨(withQueue ready [entry 3, entry 19]), []⟩, by decide +kernel⟩,
   ⟨1, 0, ⟨queued, []⟩, by decide +kernel⟩,
   ⟨20, 19, ⟨meeting, []⟩, by decide +kernel⟩⟩

/-- MuteAllAndSetMode: open, none, range, closed, chair, noSlot, granted. -/
theorem test_hyp_muteAllAndSetMode :
    (∃ (s : State), (Listening s.part .chair) ∧ (Settled s.part) ∧ (Part.isOpenState (s.part.slot 1).state = true ∧
      Part.isOpenState (s.part.slot 0).state = true ∧ Part.isOpenState (s.part.slot 6).state = false)) ∧
    (∃ (s : State), (Listening s.part .chair) ∧ (Settled s.part) ∧ (s.part.openCount = 0)) ∧
    (∃ (n : Byte) (s : State), (Listening s.part .chair) ∧ (Settled s.part) ∧ (3 < n.toNat)) ∧
    (∃ (n : Byte) (s : State), (Listening s.part .chair) ∧ (Settled s.part) ∧ (floorModeOf n.toNat = some .direct ∧
      s.part.flc.isOpen = false)) ∧
    (∃ (n : Byte) (s : State), (Listening s.part .chair) ∧ (Settled s.part) ∧ (floorModeOf n.toNat = some .chair ∧
      s.part.flc.isOpen = true)) ∧
    (∃ (n : Byte) (s : State), (Listening s.part .chair) ∧ (Settled s.part) ∧ (floorModeOf n.toNat = some .override ∧
      s.part.available = none)) ∧
    (∃ (n : Byte) (s : State), (Listening s.part .chair) ∧ (Settled s.part) ∧ (∃ m ∈ floorModeOf n.toNat, ∃ k, ∃ e ∈
      s.part.flc.queue.head?, s.part.flc.isOpen = true ∧ m ≠ .chair ∧ s.part.available = some k)) :=
  ⟨⟨⟨(full (withSlot meeting 0 .live 0)), []⟩, by decide +kernel⟩,
   ⟨⟨(withSlot meeting 0 .live 0), []⟩, by decide +kernel⟩,
   ⟨4, ⟨ready, []⟩, by decide +kernel⟩,
   ⟨0, ⟨ready, []⟩, by decide +kernel⟩,
   ⟨3, ⟨queued, []⟩, by decide +kernel⟩,
   ⟨2, ⟨(full queued), []⟩, by decide +kernel⟩,
   ⟨1, ⟨queued, []⟩, by decide +kernel⟩⟩

/-- SetLimitAndSpeakLimit: lower, same, above, raised, raisedQuiet, range, mark, over, warn, short. -/
theorem test_hyp_setLimitAndSpeakLimit :
    (∃ (n : Byte) (s : State), (Listening s.part .chair) ∧ (Settled s.part) ∧ (max 1 (min 6 n.toNat) <
      s.part.openCount)) ∧
    (∃ (n : Byte) (s : State), (Listening s.part .chair) ∧ (Settled s.part) ∧ (max 1 (min 6 n.toNat) =
      s.part.flc.limit ∧ s.part.openCount ≤ max 1 (min 6 n.toNat))) ∧
    (∃ (n : Byte) (s : State), (Listening s.part .chair) ∧ (Settled s.part) ∧ (s.part.openCount ≤ max 1 (min 6
      n.toNat))) ∧
    (∃ (n : Byte) (s : State), (Listening s.part .chair) ∧ (Settled s.part) ∧ (s.part.flc.limit < max 1 (min 6
      n.toNat) ∧ s.part.flc.isOpen = true ∧ s.part.flc.mode ≠ .chair ∧ s.part.openCount < max 1 (min 6 n.toNat) ∧
      s.part.freeSlot = some 3 ∧ s.part.flc.queue ≠ [])) ∧
    (∃ (n : Byte) (s : State), (Listening s.part .chair) ∧ (Settled s.part) ∧ (s.part.flc.limit < max 1 (min 6
      n.toNat) ∧ s.part.openCount ≤ max 1 (min 6 n.toNat) ∧ s.part.flc.queue = [])) ∧
    (∃ (e : Byte) (n : Half) (s : State), (Listening s.part .chair) ∧ (Settled s.part) ∧ (3600 < n.toNat ∨ 1 <
      e.toNat)) ∧
    (∃ (e : Byte) (n : Half) (s : State), (Listening s.part .chair) ∧ (Settled s.part) ∧ (n.toNat ≤ 3600 ∧ 1 <
      e.toNat)) ∧
    (∃ (e : Byte) (n : Half) (s : State), (Listening s.part .chair) ∧ (Settled s.part) ∧ (n.toNat ≤ 3600 ∧ e.toNat ≤
      1 ∧ Part.isOpenState (s.part.slot 1).state = true ∧ n.toNat = (s.part.slot 1).elapsed)) ∧
    (∃ (e : Byte) (n : Half) (s : State), (Listening s.part .chair) ∧ (Settled s.part) ∧ (n.toNat ≤ 3600 ∧ e.toNat ≤
      1 ∧ Part.isOpenState (s.part.slot 1).state = true ∧ (s.part.slot 1).elapsed < n.toNat ∧ n.toNat = (s.part.slot
      1).elapsed + min s.part.flc.lead (n.toNat / 2))) ∧
    (∃ (e : Byte) (n : Half) (s : State), (Listening s.part .chair) ∧ (Settled s.part) ∧ (1 ≤ n.toNat ∧ n.toNat < 10
      ∧ e.toNat ≤ 1)) :=
  ⟨⟨0, ⟨(full meeting), []⟩, by decide +kernel⟩,
   ⟨2, ⟨meeting, []⟩, by decide +kernel⟩,
   ⟨255, ⟨meeting, []⟩, by decide +kernel⟩,
   ⟨3, ⟨(full queued), []⟩, by decide +kernel⟩,
   ⟨6, ⟨meeting, []⟩, by decide +kernel⟩,
   ⟨0, 3601, ⟨ready, []⟩, by decide +kernel⟩,
   ⟨2, 3600, ⟨ready, []⟩, by decide +kernel⟩,
   ⟨1, 60, ⟨(full meeting |> fun p => p.setSlot 1 { p.slot 1 with elapsed := 60 }), []⟩, by decide +kernel⟩,
   ⟨0, 60, ⟨(full meeting |> fun p => p.setSlot 1 { p.slot 1 with elapsed := 30 }), []⟩, by decide +kernel⟩,
   ⟨0, 1, ⟨(full meeting |> fun p => p.setSlot 1 { p.slot 1 with elapsed := 0 }), []⟩, by decide +kernel⟩⟩

/-- PressActsAsKey: notInstalled, closed, queued, open, joins, closing, vacant, queueFull, grantedDirect,
  grantedQueue, grantedOverride, joinsDirect, joinsQueue, joinsOverride, overrides, overridesAfter, overridesWaits,
  queuedBehind, queuedAhead, zero, above, top, grant, close, free. -/
theorem test_hyp_pressActsAsKey :
    (∃ (n : Byte) (i : SeatId) (s : State), (Listening s.part .chair) ∧ (Settled s.part) ∧ (n.toNat = i.val + 1) ∧ (i
      ≠ s.part.chairSeat) ∧ ((s.part.seat i).installed = false)) ∧
    (∃ (n : Byte) (i : SeatId) (s : State), (Listening s.part .chair) ∧ (Settled s.part) ∧ (n.toNat = i.val + 1) ∧ (i
      ≠ s.part.chairSeat) ∧ ((s.part.seat i).installed = true ∧ s.part.flc.isOpen = false)) ∧
    (∃ (n : Byte) (i : SeatId) (s : State), (Listening s.part .chair) ∧ (Settled s.part) ∧ (n.toNat = i.val + 1) ∧ (i
      ≠ s.part.chairSeat) ∧ ((s.part.seat i).installed = true ∧ s.part.flc.isOpen = true ∧ s.part.isQueued i = true)) ∧
    (∃ (n : Byte) (i : SeatId) (s : State), (Listening s.part .chair) ∧ (Settled s.part) ∧ (n.toNat = i.val + 1) ∧ (i
      ≠ s.part.chairSeat) ∧ ((s.part.seat i).installed = true ∧ s.part.flc.isOpen = true ∧ s.part.isQueued i = false
      ∧ s.part.slotOf i = some 1 ∧ Part.isOpenState (s.part.slot 1).state = true)) ∧
    (∃ (n : Byte) (i : SeatId) (s : State), (Listening s.part .chair) ∧ (Settled s.part) ∧ (n.toNat = i.val + 1) ∧ (i
      ≠ s.part.chairSeat) ∧ ((s.part.seat i).installed = true ∧ s.part.flc.isOpen = true ∧ s.part.isQueued i = false
      ∧ s.part.slotOf i = none ∧ s.part.presentForKey i = true ∧ s.part.flc.mode = .chair ∧ s.part.flc.queue.length <
      16)) ∧
    (∃ (n : Byte) (i : SeatId) (s : State), (Listening s.part .chair) ∧ (Settled s.part) ∧ (n.toNat = i.val + 1) ∧ (i
      ≠ s.part.chairSeat) ∧ ((s.part.seat i).installed = true ∧ s.part.flc.isOpen = true ∧ s.part.isQueued i = false
      ∧ s.part.slotOf i = some 6 ∧ (s.part.slot 6).state = .closing)) ∧
    (∃ (n : Byte) (i : SeatId) (s : State), (Listening s.part .chair) ∧ (Settled s.part) ∧ (n.toNat = i.val + 1) ∧ (i
      ≠ s.part.chairSeat) ∧ ((s.part.seat i).installed = true ∧ s.part.flc.isOpen = true ∧ s.part.isQueued i = false
      ∧ s.part.slotOf i = none ∧ (s.part.seat i).presence = .vacant ∧ (s.part.seat i).presenceRequired = true)) ∧
    (∃ (n : Byte) (i : SeatId) (s : State), (Listening s.part .chair) ∧ (Settled s.part) ∧ (n.toNat = i.val + 1) ∧ (i
      ≠ s.part.chairSeat) ∧ ((s.part.seat i).installed = true ∧ s.part.flc.isOpen = true ∧ s.part.isQueued i = false
      ∧ s.part.slotOf i = none ∧ s.part.presentForKey i = true ∧ s.part.flc.mode = .queue ∧ s.part.flc.queue.length =
      16)) ∧
    (∃ (n : Byte) (i : SeatId) (s : State), (Listening s.part .chair) ∧ (Settled s.part) ∧ (n.toNat = i.val + 1 ∧ i ≠
      s.part.chairSeat) ∧ (((s.part.seat i).installed = true ∧ s.part.flc.isOpen = true ∧ s.part.isQueued i = false ∧
      s.part.slotOf i = none ∧ s.part.presentForKey i = true)) ∧ (s.part.available = some 1 ∧ s.part.flc.mode =
      .direct ∧ s.part.flc.queue = [])) ∧
    (∃ (n : Byte) (i : SeatId) (s : State), (Listening s.part .chair) ∧ (Settled s.part) ∧ (n.toNat = i.val + 1 ∧ i ≠
      s.part.chairSeat) ∧ (((s.part.seat i).installed = true ∧ s.part.flc.isOpen = true ∧ s.part.isQueued i = false ∧
      s.part.slotOf i = none ∧ s.part.presentForKey i = true)) ∧ (s.part.available = some 1 ∧ s.part.flc.mode =
      .queue ∧ s.part.flc.queue = [])) ∧
    (∃ (n : Byte) (i : SeatId) (s : State), (Listening s.part .chair) ∧ (Settled s.part) ∧ (n.toNat = i.val + 1 ∧ i ≠
      s.part.chairSeat) ∧ (((s.part.seat i).installed = true ∧ s.part.flc.isOpen = true ∧ s.part.isQueued i = false ∧
      s.part.slotOf i = none ∧ s.part.presentForKey i = true)) ∧ (s.part.available = some 1 ∧ s.part.flc.mode =
      .override ∧ s.part.flc.queue = [])) ∧
    (∃ (n : Byte) (i : SeatId) (s : State), (Listening s.part .chair) ∧ (Settled s.part) ∧ (n.toNat = i.val + 1 ∧ i ≠
      s.part.chairSeat) ∧ (((s.part.seat i).installed = true ∧ s.part.flc.isOpen = true ∧ s.part.isQueued i = false ∧
      s.part.slotOf i = none ∧ s.part.presentForKey i = true)) ∧ (s.part.available = none ∧ s.part.flc.queue.length =
      15 ∧ s.part.flc.mode = .direct)) ∧
    (∃ (n : Byte) (i : SeatId) (s : State), (Listening s.part .chair) ∧ (Settled s.part) ∧ (n.toNat = i.val + 1 ∧ i ≠
      s.part.chairSeat) ∧ (((s.part.seat i).installed = true ∧ s.part.flc.isOpen = true ∧ s.part.isQueued i = false ∧
      s.part.slotOf i = none ∧ s.part.presentForKey i = true)) ∧ (s.part.available = none ∧ s.part.flc.queue.length =
      15 ∧ s.part.flc.mode = .queue)) ∧
    (∃ (n : Byte) (i : SeatId) (s : State), (Listening s.part .chair) ∧ (Settled s.part) ∧ (n.toNat = i.val + 1 ∧ i ≠
      s.part.chairSeat) ∧ (((s.part.seat i).installed = true ∧ s.part.flc.isOpen = true ∧ s.part.isQueued i = false ∧
      s.part.slotOf i = none ∧ s.part.presentForKey i = true)) ∧ (s.part.available = none ∧ s.part.flc.queue.length <
      16 ∧ s.part.flc.mode = .override ∧ ∀ k ∈ s.part.flc.openOrder, (s.part.slot k).state ≠ .live)) ∧
    (∃ (n : Byte) (i : SeatId) (s : State), (Listening s.part .chair) ∧ (Settled s.part) ∧ (n.toNat = i.val + 1 ∧ i ≠
      s.part.chairSeat) ∧ (((s.part.seat i).installed = true ∧ s.part.flc.isOpen = true ∧ s.part.isQueued i = false ∧
      s.part.slotOf i = none ∧ s.part.presentForKey i = true)) ∧ (∃ k, s.part.flc.mode = .override ∧ s.part.available
      = none ∧ s.part.flc.queue.length < 16 ∧ s.part.flc.openOrder.find? (fun j => (s.part.slot j).state = .live) =
      some k ∧ k ≠ 0 ∧ s.part.openCount ≤ s.part.flc.limit ∧ s.part.freeSlot = some 3 ∧ ∀ e ∈ s.part.flc.queue,
      e.override = false)) ∧
    (∃ (n : Byte) (i : SeatId) (s : State), (Listening s.part .chair) ∧ (Settled s.part) ∧ (n.toNat = i.val + 1 ∧ i ≠
      s.part.chairSeat) ∧ (((s.part.seat i).installed = true ∧ s.part.flc.isOpen = true ∧ s.part.isQueued i = false ∧
      s.part.slotOf i = none ∧ s.part.presentForKey i = true)) ∧ (∃ k, s.part.flc.mode = .override ∧ s.part.available
      = none ∧ s.part.flc.queue.length < 16 ∧ s.part.flc.openOrder.find? (fun j => (s.part.slot j).state = .live) =
      some k ∧ k ≠ 0 ∧ s.part.openCount ≤ s.part.flc.limit ∧ s.part.freeSlot = some 3 ∧ ∃ e ∈ s.part.flc.queue.head?,
      e.override = true)) ∧
    (∃ (n : Byte) (i : SeatId) (s : State), (Listening s.part .chair) ∧ (Settled s.part) ∧ (n.toNat = i.val + 1 ∧ i ≠
      s.part.chairSeat) ∧ (((s.part.seat i).installed = true ∧ s.part.flc.isOpen = true ∧ s.part.isQueued i = false ∧
      s.part.slotOf i = none ∧ s.part.presentForKey i = true)) ∧ (∃ k, s.part.flc.mode = .override ∧ s.part.available
      = none ∧ s.part.flc.queue.length < 16 ∧ s.part.flc.openOrder.find? (fun j => (s.part.slot j).state = .live) =
      some k ∧ k ≠ 0 ∧ s.part.openCount ≤ s.part.flc.limit ∧ s.part.freeSlot = none)) ∧
    (∃ (n : Byte) (i : SeatId) (s : State), (Listening s.part .chair) ∧ (Settled s.part) ∧ (n.toNat = i.val + 1 ∧ i ≠
      s.part.chairSeat) ∧ (((s.part.seat i).installed = true ∧ s.part.flc.isOpen = true ∧ s.part.isQueued i = false ∧
      s.part.slotOf i = none ∧ s.part.presentForKey i = true)) ∧ (s.part.flc.mode = .queue ∧ s.part.available = some
      1 ∧ s.part.openCount + 1 = s.part.flc.limit ∧ s.part.flc.queue.length < 16 ∧ s.part.flc.queue ≠ [] ∧ ∃ e ∈
      (Part.insertEntry ⟨i, (s.part.seat i).priority, false, s.part.flc.nextNumber, s.part.flc.seconds⟩
      s.part.flc.queue).head?, e.seat ≠ i)) ∧
    (∃ (n : Byte) (i : SeatId) (s : State), (Listening s.part .chair) ∧ (Settled s.part) ∧ (n.toNat = i.val + 1 ∧ i ≠
      s.part.chairSeat) ∧ (((s.part.seat i).installed = true ∧ s.part.flc.isOpen = true ∧ s.part.isQueued i = false ∧
      s.part.slotOf i = none ∧ s.part.presentForKey i = true)) ∧ (s.part.flc.mode = .queue ∧ s.part.available = some
      1 ∧ s.part.openCount + 1 = s.part.flc.limit ∧ s.part.flc.queue.length < 16 ∧ s.part.flc.queue ≠ [] ∧ ∃ e ∈
      (Part.insertEntry ⟨i, (s.part.seat i).priority, false, s.part.flc.nextNumber, s.part.flc.seconds⟩
      s.part.flc.queue).head?, e.seat = i)) ∧
    (∃ (tag : Byte) (n : Byte) (c : Instr) (s : State), (Listening s.part .chair) ∧ (Settled s.part) ∧ (n = 0 ∨ 20 <
      n.toNat) ∧ (c ∈ [Instr.grant .chair tag n, .close .chair tag n, .cancel .chair tag n, .press .chair tag n]) ∧
      (n = 0)) ∧
    (∃ (tag : Byte) (n : Byte) (c : Instr) (s : State), (Listening s.part .chair) ∧ (Settled s.part) ∧ (n = 0 ∨ 20 <
      n.toNat) ∧ (c ∈ [Instr.grant .chair tag n, .close .chair tag n, .cancel .chair tag n, .press .chair tag n]) ∧
      (n = 21)) ∧
    (∃ (tag : Byte) (n : Byte) (c : Instr) (s : State), (Listening s.part .chair) ∧ (Settled s.part) ∧ (n = 0 ∨ 20 <
      n.toNat) ∧ (c ∈ [Instr.grant .chair tag n, .close .chair tag n, .cancel .chair tag n, .press .chair tag n]) ∧
      (n = 255)) ∧
    (∃ (tag : Byte) (n : Byte) (c : Instr) (s : State), (Listening s.part .chair) ∧ (Settled s.part) ∧ (n = 0 ∨ 20 <
      n.toNat) ∧ (c ∈ [Instr.grant .chair tag n, .close .chair tag n, .cancel .chair tag n, .press .chair tag n]) ∧
      (n = 21)) ∧
    (∃ (tag : Byte) (n : Byte) (c : Instr) (s : State), (Listening s.part .chair) ∧ (Settled s.part) ∧ (n = 0 ∨ 20 <
      n.toNat) ∧ (c ∈ [Instr.grant .chair tag n, .close .chair tag n, .cancel .chair tag n, .press .chair tag n]) ∧
      (n = 21)) ∧
    (∃ (n : Byte) (s : State), (Listening s.part .chair) ∧ (Settled s.part) ∧ ((n.toNat = s.part.chairSeat.val + 1 ∧
      (s.part.seat s.part.chairSeat).installed = true)) ∧ (s.part.flc.isOpen = false)) ∧
    (∃ (n : Byte) (s : State), (Listening s.part .chair) ∧ (Settled s.part) ∧ ((n.toNat = s.part.chairSeat.val + 1 ∧
      (s.part.seat s.part.chairSeat).installed = true)) ∧ (s.part.flc.isOpen = true ∧ Part.isOpenState (s.part.slot
      0).state = true)) ∧
    (∃ (n : Byte) (s : State), (Listening s.part .chair) ∧ (Settled s.part) ∧ ((n.toNat = s.part.chairSeat.val + 1 ∧
      (s.part.seat s.part.chairSeat).installed = true)) ∧ (s.part.flc.isOpen = true ∧ Part.isOpenState (s.part.slot
      0).state = false)) :=
  ⟨⟨20, 19, ⟨(withSeat ready 19 fun x => { x with installed := false }), []⟩, by decide +kernel⟩,
   ⟨20, 19, ⟨ready, []⟩, by decide +kernel⟩,
   ⟨20, 19, ⟨(withQueue meeting [entry 19]), []⟩, by decide +kernel⟩,
   ⟨20, 19, ⟨(withSlot meeting 1 .live 19), []⟩, by decide +kernel⟩,
   ⟨2, 1, ⟨(meeting.withFlc { meeting.flc with mode := .chair }), []⟩, by decide +kernel⟩,
   ⟨20, 19, ⟨(withSlot meeting 6 .closing 19), []⟩, by decide +kernel⟩,
   ⟨20, 19, ⟨(withSeat meeting 19 fun x => { x with presence := .vacant }), []⟩, by decide +kernel⟩,
   ⟨20, 19, ⟨(full (withQueue meeting ((List.finRange 20).drop 3 |>.take 16 |>.map entry))), []⟩, by decide +kernel⟩,
   ⟨20, 19, ⟨(meeting |> fun p => p.withFlc { p.flc with mode := .direct, openOrder := [], limit := 2 }), []⟩, by
     decide +kernel⟩,
   ⟨20, 19, ⟨(meeting |> fun p => p.withFlc { p.flc with mode := .queue, openOrder := [], limit := 2 }), []⟩, by
     decide +kernel⟩,
   ⟨20, 19, ⟨(meeting |> fun p => p.withFlc { p.flc with mode := .override, openOrder := [], limit := 2 }), []⟩, by
     decide +kernel⟩,
   ⟨20, 19, ⟨((withQueue (full meeting) ((List.finRange 20).drop 3 |>.take 15 |>.map entry)) |> fun p => p.withFlc
     { p.flc with mode := .direct, openOrder := [], limit := 2 }), []⟩, by decide +kernel⟩,
   ⟨20, 19, ⟨((withQueue (full meeting) ((List.finRange 20).drop 3 |>.take 15 |>.map entry)) |> fun p => p.withFlc
     { p.flc with mode := .queue, openOrder := [], limit := 2 }), []⟩, by decide +kernel⟩,
   ⟨20, 19, ⟨((withSlot (withSlot meeting 1 .opening 1) 2 .opening 2) |> fun p => p.withFlc
     { p.flc with mode := .override, openOrder := [1, 2], limit := 2 }), []⟩, by decide +kernel⟩,
   ⟨20, 19, ⟨((full meeting) |> fun p => p.withFlc
     { p.flc with mode := .override, openOrder := [2, 1], limit := 2 }), []⟩, by decide +kernel⟩,
   ⟨20, 19, ⟨((full (withQueue meeting [{ entry 3 with override := true }])) |> fun p => p.withFlc
     { p.flc with mode := .override, openOrder := [2, 1], limit := 2 }), []⟩, by decide +kernel⟩,
   ⟨20, 19, ⟨(([1, 2, 3, 4, 5, 6].foldl (fun p k => withSlot p k .live (Fin.ofNat 20 k.val)) meeting) |> fun p =>
     p.withFlc { p.flc with mode := .override, openOrder := [6, 5, 4, 3, 2, 1], limit := 6 }), []⟩, by
     decide +kernel⟩,
   ⟨20, 19, ⟨((withQueue meeting [entry 3]) |> fun p => p.withFlc { p.flc with mode := .queue, limit := 1 }), []⟩, by
     decide +kernel⟩,
   ⟨20, 19, ⟨((withSeat (withQueue meeting ((List.finRange 20).drop 3 |>.take 15 |>.map entry)) 19 fun x =>
     { x with priority := true }) |> fun p => p.withFlc { p.flc with mode := .queue, limit := 1 }), []⟩, by
     decide +kernel⟩,
   ⟨1, 0, .press .chair 1 0, ⟨meeting, []⟩, by decide +kernel⟩,
   ⟨1, 21, .press .chair 1 21, ⟨meeting, []⟩, by decide +kernel⟩,
   ⟨255, 255, .cancel .chair 255 255, ⟨ready, []⟩, by decide +kernel⟩,
   ⟨1, 21, .grant .chair 1 21, ⟨ready, []⟩, by decide +kernel⟩,
   ⟨1, 21, .close .chair 1 21, ⟨ready, []⟩, by decide +kernel⟩,
   ⟨1, ⟨ready, []⟩, by decide +kernel⟩,
   ⟨1, ⟨(withSlot meeting 0 .opening 0), []⟩, by decide +kernel⟩,
   ⟨1, ⟨meeting, []⟩, by decide +kernel⟩⟩

/-- EndStartsWindup: none, windup, open, closes. -/
theorem test_hyp_endStartsWindup :
    (∃ (q : Port) (s : State), (Listening s.part q) ∧ (Settled s.part) ∧ (q ≠ .av) ∧ (∀ x ∈ s.part.ssu.session,
      x.state = .windup)) ∧
    (∃ (q : Port) (s : State), (Listening s.part q) ∧ (Settled s.part) ∧ (q ≠ .av) ∧ (s.part.ssu.session ≠ none ∧ ∀ x
      ∈ s.part.ssu.session, x.state = .windup)) ∧
    (∃ (q : Port) (s : State), (Listening s.part q) ∧ (Settled s.part) ∧ (q ≠ .av) ∧ (∃ x ∈ s.part.ssu.session,
      x.state ≠ .windup ∧ s.part.allFree = false)) ∧
    (∃ (q : Port) (s : State), (Listening s.part q) ∧ (Settled s.part) ∧ (q ≠ .av) ∧ ((∃ x ∈ s.part.ssu.session,
      x.state = .awaiting) ∧ s.part.allFree = true ∧ s.part.ssu.pendingStart = none ∧ s.part.ssu.params.dwell ≠ 0)) :=
  ⟨⟨.chair, ⟨ready, []⟩, by decide +kernel⟩,
   ⟨.room, ⟨(withSession ready { openSession with state := .windup, reason := some .ended }), []⟩, by decide +kernel⟩,
   ⟨.room, ⟨(withSlot (withSession meeting openSession) 1 .live 3), []⟩, by decide +kernel⟩,
   ⟨.chair, ⟨(withSession ready { openSession with state := .awaiting }), []⟩, by decide +kernel⟩⟩

/-- ClockSetSets: minute, second, set, all, today, later, before, notReady, dropped, kept, early, plain, waking,
  awaiting, checksIn, back, ending, overtime, windup, closes, awaits, released, preempts. -/
theorem test_hyp_clockSetSets :
    (∃ (minute : Half) (s : State), (Listening s.part .room) ∧ (Settled s.part) ∧ (1439 < minute.toNat)) ∧
    (∃ (sec : Byte) (s : State), (Listening s.part .room) ∧ (Settled s.part) ∧ (59 < sec.toNat)) ∧
    (∃ (sec : Byte) (minute : Half) (s : State), (Listening s.part .room) ∧ (Settled s.part) ∧ (minute.toNat ≤ 1439 ∧
      sec.toNat ≤ 59)) ∧
    (∃ (sec : Byte) (day : Half) (minute : Half) (p : Part) (s : State), (Listening s.part .room) ∧ (Settled s.part)
      ∧ (minute.toNat ≤ 1439 ∧ sec.toNat ≤ 59 ∧ p = s.part.setClock ⟨day.toNat, minute.toNat, sec.toNat, true⟩) ∧
      (s.part.staging.state ≠ .ready ∨ day.toNat < s.part.staging.day) ∧ (s.part.published.state = .published) ∧ (∃ y
      ∈ s.part.published.entries, ∃ z ∈ s.part.published.entries, y.status = .pending ∧ z.status = .pending ∧
      s.part.published.day * 1440 + y.booking.stop = p.now ∧ p.now + 1 = s.part.published.day * 1440 +
      z.booking.stop)) ∧
    (∃ (sec : Byte) (day : Half) (minute : Half) (p : Part) (s : State), (Listening s.part .room) ∧ (Settled s.part)
      ∧ (minute.toNat ≤ 1439 ∧ sec.toNat ≤ 59 ∧ p = s.part.setClock ⟨day.toNat, minute.toNat, sec.toNat, true⟩) ∧
      (s.part.sch.bankA.role ≠ s.part.sch.bankB.role) ∧ (s.part.staging.state = .ready ∧ s.part.staging.day =
      day.toNat ∧ s.part.ssu.session = none ∧ (∀ e ∈ s.part.staging.entries, e.status = .pending) ∧ ∃ e ∈
      s.part.staging.entries, s.part.staging.day * 1440 + e.booking.stop = p.now)) ∧
    (∃ (sec : Byte) (day : Half) (minute : Half) (p : Part) (s : State), (Listening s.part .room) ∧ (Settled s.part)
      ∧ (minute.toNat ≤ 1439 ∧ sec.toNat ≤ 59 ∧ p = s.part.setClock ⟨day.toNat, minute.toNat, sec.toNat, true⟩) ∧
      (s.part.sch.bankA.role ≠ s.part.sch.bankB.role) ∧ (s.part.staging.state = .ready ∧ s.part.staging.day <
      day.toNat)) ∧
    (∃ (sec : Byte) (day : Half) (minute : Half) (p : Part) (s : State), (Listening s.part .room) ∧ (Settled s.part)
      ∧ (minute.toNat ≤ 1439 ∧ sec.toNat ≤ 59 ∧ p = s.part.setClock ⟨day.toNat, minute.toNat, sec.toNat, true⟩) ∧
      (s.part.sch.bankA.role ≠ s.part.sch.bankB.role) ∧ (s.part.staging.state = .ready ∧ day.toNat + 1 =
      s.part.staging.day)) ∧
    (∃ (sec : Byte) (day : Half) (minute : Half) (p : Part) (s : State), (Listening s.part .room) ∧ (Settled s.part)
      ∧ (minute.toNat ≤ 1439 ∧ sec.toNat ≤ 59 ∧ p = s.part.setClock ⟨day.toNat, minute.toNat, sec.toNat, true⟩) ∧
      (s.part.sch.bankA.role ≠ s.part.sch.bankB.role) ∧ (s.part.staging.state ≠ .ready)) ∧
    (∃ (sec : Byte) (day : Half) (minute : Half) (id : Nat) (p : Part) (s : State), (Listening s.part .room) ∧
      (Settled s.part) ∧ (minute.toNat ≤ 1439 ∧ sec.toNat ≤ 59 ∧ p = s.part.setClock ⟨day.toNat, minute.toNat,
      sec.toNat, true⟩) ∧ (s.part.staging.state ≠ .ready ∨ day.toNat < s.part.staging.day) ∧ (s.part.published.state
      = .published) ∧ (s.part.ssu.pendingStart = some id ∧ s.part.ssu.session = none ∧ s.part.ssu.params.dwell ≠ 0) ∧
      (p.dueEntry = none ∧ ∀ e ∈ s.part.published.entries, e.booking.id = id → e.status = .pending →
      s.part.published.day * 1440 + e.booking.stop ≤ p.now)) ∧
    (∃ (sec : Byte) (day : Half) (minute : Half) (id : Nat) (p : Part) (s : State), (Listening s.part .room) ∧
      (Settled s.part) ∧ (minute.toNat ≤ 1439 ∧ sec.toNat ≤ 59 ∧ p = s.part.setClock ⟨day.toNat, minute.toNat,
      sec.toNat, true⟩) ∧ (s.part.staging.state ≠ .ready ∨ day.toNat < s.part.staging.day) ∧ (s.part.published.state
      = .published) ∧ (s.part.ssu.pendingStart = some id ∧ s.part.ssu.session = none ∧ s.part.ssu.params.dwell ≠ 0) ∧
      ((∃ e ∈ p.dueEntry, e.booking.id = id) ∧ ∃ e ∈ s.part.published.entries, e.booking.id = id ∧ e.status =
      .pending ∧ p.now + 1 = s.part.published.day * 1440 + e.booking.stop)) ∧
    (∃ (sec : Byte) (day : Half) (minute : Half) (id : Nat) (p : Part) (s : State), (Listening s.part .room) ∧
      (Settled s.part) ∧ (minute.toNat ≤ 1439 ∧ sec.toNat ≤ 59 ∧ p = s.part.setClock ⟨day.toNat, minute.toNat,
      sec.toNat, true⟩) ∧ (s.part.staging.state ≠ .ready ∨ day.toNat < s.part.staging.day) ∧ (s.part.published.state
      = .published) ∧ (s.part.ssu.pendingStart = some id ∧ s.part.ssu.session = none ∧ s.part.ssu.params.dwell ≠ 0) ∧
      (p.dueEntry = none ∧ ∃ e ∈ s.part.published.entries, e.booking.id = id ∧ e.status = .pending ∧ p.now <
      s.part.published.day * 1440 + e.booking.stop)) ∧
    (∃ (sec : Byte) (day : Half) (minute : Half) (e : Entry) (p : Part) (s : State), (Listening s.part .room) ∧
      (Settled s.part) ∧ (minute.toNat ≤ 1439 ∧ sec.toNat ≤ 59 ∧ p = s.part.setClock ⟨day.toNat, minute.toNat,
      sec.toNat, true⟩) ∧ (s.part.staging.state ≠ .ready ∨ day.toNat < s.part.staging.day) ∧ (s.part.published.state
      = .published ∧ s.part.published.day = day.toNat) ∧ (s.part.published.entries.find? (fun x => x.status =
      .pending ∧ x.booking.start ≤ minute.toNat ∧ minute.toNat < x.booking.stop) = some e) ∧ (s.part.ssu.session =
      none ∧ s.part.ssu.pendingStart = none ∧ minute.toNat + s.part.ssu.params.warning < e.booking.stop) ∧
      (s.part.pwu.power = .active ∧ e.booking.checkIn = false ∧ minute.toNat + s.part.ssu.params.warning + 1 =
      e.booking.stop)) ∧
    (∃ (sec : Byte) (day : Half) (minute : Half) (e : Entry) (p : Part) (s : State), (Listening s.part .room) ∧
      (Settled s.part) ∧ (minute.toNat ≤ 1439 ∧ sec.toNat ≤ 59 ∧ p = s.part.setClock ⟨day.toNat, minute.toNat,
      sec.toNat, true⟩) ∧ (s.part.staging.state ≠ .ready ∨ day.toNat < s.part.staging.day) ∧ (s.part.published.state
      = .published ∧ s.part.published.day = day.toNat) ∧ (s.part.published.entries.find? (fun x => x.status =
      .pending ∧ x.booking.start ≤ minute.toNat ∧ minute.toNat < x.booking.stop) = some e) ∧ (s.part.ssu.session =
      none ∧ s.part.ssu.pendingStart = none ∧ minute.toNat + s.part.ssu.params.warning < e.booking.stop) ∧
      (s.part.pwu.power = .waking ∧ minute.toNat = e.booking.start)) ∧
    (∃ (sec : Byte) (day : Half) (minute : Half) (e : Entry) (p : Part) (s : State), (Listening s.part .room) ∧
      (Settled s.part) ∧ (minute.toNat ≤ 1439 ∧ sec.toNat ≤ 59 ∧ p = s.part.setClock ⟨day.toNat, minute.toNat,
      sec.toNat, true⟩) ∧ (s.part.staging.state ≠ .ready ∨ day.toNat < s.part.staging.day) ∧ (s.part.published.state
      = .published ∧ s.part.published.day = day.toNat) ∧ (s.part.published.entries.find? (fun x => x.status =
      .pending ∧ x.booking.start ≤ minute.toNat ∧ minute.toNat < x.booking.stop) = some e) ∧ (s.part.ssu.session =
      none ∧ s.part.ssu.pendingStart = none ∧ minute.toNat + s.part.ssu.params.warning < e.booking.stop) ∧
      (s.part.pwu.power = .active ∧ e.booking.checkIn = true ∧ s.part.smn.occupied < e.booking.quorum)) ∧
    (∃ (sec : Byte) (day : Half) (minute : Half) (e : Entry) (p : Part) (s : State), (Listening s.part .room) ∧
      (Settled s.part) ∧ (minute.toNat ≤ 1439 ∧ sec.toNat ≤ 59 ∧ p = s.part.setClock ⟨day.toNat, minute.toNat,
      sec.toNat, true⟩) ∧ (s.part.staging.state ≠ .ready ∨ day.toNat < s.part.staging.day) ∧ (s.part.published.state
      = .published ∧ s.part.published.day = day.toNat) ∧ (s.part.published.entries.find? (fun x => x.status =
      .pending ∧ x.booking.start ≤ minute.toNat ∧ minute.toNat < x.booking.stop) = some e) ∧ (s.part.ssu.session =
      none ∧ s.part.ssu.pendingStart = none ∧ minute.toNat + s.part.ssu.params.warning < e.booking.stop) ∧
      (s.part.pwu.power = .active ∧ e.booking.checkIn = true ∧ e.booking.quorum = s.part.smn.occupied)) ∧
    (∃ (sec : Byte) (day : Half) (minute : Half) (x : Session) (graceEnd : Nat) (p : Part) (s : State), (Listening
      s.part .room) ∧ (Settled s.part) ∧ (minute.toNat ≤ 1439 ∧ sec.toNat ≤ 59 ∧ p = s.part.setClock ⟨day.toNat,
      minute.toNat, sec.toNat, true⟩) ∧ (s.part.staging.state ≠ .ready ∨ day.toNat < s.part.staging.day) ∧
      (s.part.ssu.session = some x ∧ s.part.ssu.pendingStart = none ∧ s.part.ssu.params.dwell ≠ 0) ∧ (graceEnd = (if
      p.nextStart < 1440 then min (x.effEnd + s.part.ssu.params.overtime) (p.sch.clock.day * 1440 + p.nextStart) else
      x.effEnd + s.part.ssu.params.overtime)) ∧ (p.dueEntry = none ∧ Part.runningState x.state = true ∧ x.state =
      .overtime ∧ p.now + s.part.ssu.params.warning + 1 = x.effEnd)) ∧
    (∃ (sec : Byte) (day : Half) (minute : Half) (x : Session) (graceEnd : Nat) (p : Part) (s : State), (Listening
      s.part .room) ∧ (Settled s.part) ∧ (minute.toNat ≤ 1439 ∧ sec.toNat ≤ 59 ∧ p = s.part.setClock ⟨day.toNat,
      minute.toNat, sec.toNat, true⟩) ∧ (s.part.staging.state ≠ .ready ∨ day.toNat < s.part.staging.day) ∧
      (s.part.ssu.session = some x ∧ s.part.ssu.pendingStart = none ∧ s.part.ssu.params.dwell ≠ 0) ∧ (graceEnd = (if
      p.nextStart < 1440 then min (x.effEnd + s.part.ssu.params.overtime) (p.sch.clock.day * 1440 + p.nextStart) else
      x.effEnd + s.part.ssu.params.overtime)) ∧ (p.dueEntry = none ∧ Part.runningState x.state = true ∧ p.now +
      s.part.ssu.params.warning = x.effEnd)) ∧
    (∃ (sec : Byte) (day : Half) (minute : Half) (x : Session) (graceEnd : Nat) (p : Part) (s : State), (Listening
      s.part .room) ∧ (Settled s.part) ∧ (minute.toNat ≤ 1439 ∧ sec.toNat ≤ 59 ∧ p = s.part.setClock ⟨day.toNat,
      minute.toNat, sec.toNat, true⟩) ∧ (s.part.staging.state ≠ .ready ∨ day.toNat < s.part.staging.day) ∧
      (s.part.ssu.session = some x ∧ s.part.ssu.pendingStart = none ∧ s.part.ssu.params.dwell ≠ 0) ∧ (graceEnd = (if
      p.nextStart < 1440 then min (x.effEnd + s.part.ssu.params.overtime) (p.sch.clock.day * 1440 + p.nextStart) else
      x.effEnd + s.part.ssu.params.overtime)) ∧ (p.dueEntry = none ∧ Part.runningState x.state = true ∧ x.effEnd =
      p.now ∧ p.now < graceEnd)) ∧
    (∃ (sec : Byte) (day : Half) (minute : Half) (x : Session) (graceEnd : Nat) (p : Part) (s : State), (Listening
      s.part .room) ∧ (Settled s.part) ∧ (minute.toNat ≤ 1439 ∧ sec.toNat ≤ 59 ∧ p = s.part.setClock ⟨day.toNat,
      minute.toNat, sec.toNat, true⟩) ∧ (s.part.staging.state ≠ .ready ∨ day.toNat < s.part.staging.day) ∧
      (s.part.ssu.session = some x ∧ s.part.ssu.pendingStart = none ∧ s.part.ssu.params.dwell ≠ 0) ∧ (graceEnd = (if
      p.nextStart < 1440 then min (x.effEnd + s.part.ssu.params.overtime) (p.sch.clock.day * 1440 + p.nextStart) else
      x.effEnd + s.part.ssu.params.overtime)) ∧ (p.dueEntry = none ∧ Part.runningState x.state = true ∧ graceEnd =
      p.now ∧ s.part.allFree = false)) ∧
    (∃ (sec : Byte) (day : Half) (minute : Half) (x : Session) (graceEnd : Nat) (p : Part) (s : State), (Listening
      s.part .room) ∧ (Settled s.part) ∧ (minute.toNat ≤ 1439 ∧ sec.toNat ≤ 59 ∧ p = s.part.setClock ⟨day.toNat,
      minute.toNat, sec.toNat, true⟩) ∧ (s.part.staging.state ≠ .ready ∨ day.toNat < s.part.staging.day) ∧
      (s.part.ssu.session = some x ∧ s.part.ssu.pendingStart = none ∧ s.part.ssu.params.dwell ≠ 0) ∧ (graceEnd = (if
      p.nextStart < 1440 then min (x.effEnd + s.part.ssu.params.overtime) (p.sch.clock.day * 1440 + p.nextStart) else
      x.effEnd + s.part.ssu.params.overtime)) ∧ (p.dueEntry = none ∧ Part.runningState x.state = true ∧ graceEnd =
      p.now ∧ s.part.allFree = true)) ∧
    (∃ (sec : Byte) (day : Half) (minute : Half) (x : Session) (graceEnd : Nat) (p : Part) (s : State), (Listening
      s.part .room) ∧ (Settled s.part) ∧ (minute.toNat ≤ 1439 ∧ sec.toNat ≤ 59 ∧ p = s.part.setClock ⟨day.toNat,
      minute.toNat, sec.toNat, true⟩) ∧ (s.part.staging.state ≠ .ready ∨ day.toNat < s.part.staging.day) ∧
      (s.part.ssu.session = some x ∧ s.part.ssu.pendingStart = none ∧ s.part.ssu.params.dwell ≠ 0) ∧ (graceEnd = (if
      p.nextStart < 1440 then min (x.effEnd + s.part.ssu.params.overtime) (p.sch.clock.day * 1440 + p.nextStart) else
      x.effEnd + s.part.ssu.params.overtime)) ∧ (p.dueEntry = none ∧ x.state = .awaiting ∧ p.now + 1 = x.effEnd)) ∧
    (∃ (sec : Byte) (day : Half) (minute : Half) (x : Session) (graceEnd : Nat) (p : Part) (s : State), (Listening
      s.part .room) ∧ (Settled s.part) ∧ (minute.toNat ≤ 1439 ∧ sec.toNat ≤ 59 ∧ p = s.part.setClock ⟨day.toNat,
      minute.toNat, sec.toNat, true⟩) ∧ (s.part.staging.state ≠ .ready ∨ day.toNat < s.part.staging.day) ∧
      (s.part.ssu.session = some x ∧ s.part.ssu.pendingStart = none ∧ s.part.ssu.params.dwell ≠ 0) ∧ (graceEnd = (if
      p.nextStart < 1440 then min (x.effEnd + s.part.ssu.params.overtime) (p.sch.clock.day * 1440 + p.nextStart) else
      x.effEnd + s.part.ssu.params.overtime)) ∧ (p.dueEntry = none ∧ x.state = .awaiting ∧ p.now = x.effEnd)) ∧
    (∃ (sec : Byte) (day : Half) (minute : Half) (x : Session) (graceEnd : Nat) (p : Part) (s : State), (Listening
      s.part .room) ∧ (Settled s.part) ∧ (minute.toNat ≤ 1439 ∧ sec.toNat ≤ 59 ∧ p = s.part.setClock ⟨day.toNat,
      minute.toNat, sec.toNat, true⟩) ∧ (s.part.staging.state ≠ .ready ∨ day.toNat < s.part.staging.day) ∧
      (s.part.ssu.session = some x ∧ s.part.ssu.pendingStart = none ∧ s.part.ssu.params.dwell ≠ 0) ∧ (graceEnd = (if
      p.nextStart < 1440 then min (x.effEnd + s.part.ssu.params.overtime) (p.sch.clock.day * 1440 + p.nextStart) else
      x.effEnd + s.part.ssu.params.overtime)) ∧ (Part.runningState x.state = true ∧ (∃ e ∈ p.dueEntry,
      s.part.published.day * 1440 + e.booking.start = p.now) ∧ p.now < x.effEnd ∧ s.part.allFree = false)) :=
  ⟨⟨1440, ⟨ready, []⟩, by decide +kernel⟩,
   ⟨60, ⟨ready, []⟩, by decide +kernel⟩,
   ⟨59, 1439, ⟨ready, []⟩, by decide +kernel⟩,
   ⟨0, 0, 660, ((published [booking 4 600 660, booking 5 600 661]).setClock ⟨0, 660, 0, true⟩), ⟨(published [booking
     4 600 660, booking 5 600 661]), []⟩, by decide +kernel⟩,
   ⟨59, 3, 660, ((staging .ready 3 1 1 [booking 5 600 660]).setClock ⟨3, 660, 59, true⟩), ⟨(staging .ready 3 1 1
     [booking 5 600 660]), []⟩, by decide +kernel⟩,
   ⟨0, 4, 0, ((staging .ready 3 1 1 [booking 5 600 660]).setClock ⟨4, 0, 0, true⟩), ⟨(staging .ready 3 1 1 [booking 5
     600 660]), []⟩, by decide +kernel⟩,
   ⟨0, 2, 1439, ((staging .ready 3 1 1 [booking 5 600 660]).setClock ⟨2, 1439, 0, true⟩), ⟨(staging .ready 3 1 1
     [booking 5 600 660]), []⟩, by decide +kernel⟩,
   ⟨0, 3, 0, ((staging .faulty 3 1 1 [booking 5 600 660]).setClock ⟨3, 0, 0, true⟩), ⟨(staging .faulty 3 1 1 [booking
     5 600 660]), []⟩, by decide +kernel⟩,
   ⟨0, 0, 660, 5, ((published [booking 5 600 660] |> fun (p : Part) => (p.setPower .waking).withSsu
     { p.ssu with pendingStart := some 5 }).setClock ⟨0, 660, 0, true⟩), ⟨(published [booking 5 600 660] |> fun (p :
     Part) => (p.setPower .waking).withSsu { p.ssu with pendingStart := some 5 }), []⟩, by decide +kernel⟩,
   ⟨0, 0, 659, 5, ((published [booking 5 600 660] |> fun (p : Part) => (p.setPower .waking).withSsu
     { p.ssu with pendingStart := some 5 }).setClock ⟨0, 659, 0, true⟩), ⟨(published [booking 5 600 660] |> fun (p :
     Part) => (p.setPower .waking).withSsu { p.ssu with pendingStart := some 5 }), []⟩, by decide +kernel⟩,
   ⟨0, 0, 599, 5, ((published [booking 5 600 660] |> fun (p : Part) => (p.setPower .active).withSsu
     { p.ssu with pendingStart := some 5 }).setClock ⟨0, 599, 0, true⟩), ⟨(published [booking 5 600 660] |> fun (p :
     Part) => (p.setPower .active).withSsu { p.ssu with pendingStart := some 5 }), []⟩, by decide +kernel⟩,
   ⟨0, 0, 654, booking 5 600 660, ((published [booking 5 600 660] |> fun (p : Part) => p.setPower .active).setClock
     ⟨0, 654, 0, true⟩), ⟨(published [booking 5 600 660] |> fun (p : Part) => p.setPower .active), []⟩, by
     decide +kernel⟩,
   ⟨0, 0, 600, booking 5 600 660, ((published [booking 5 600 660] |> fun (p : Part) => p.setPower .waking).setClock
     ⟨0, 600, 0, true⟩), ⟨(published [booking 5 600 660] |> fun (p : Part) => p.setPower .waking), []⟩, by
     decide +kernel⟩,
   ⟨0, 0, 600, { booking 5 600 660 with booking := { aBooking with id := 5, checkIn := true, window := some 5 } },
     ((published [{ booking 5 600 660 with booking := { aBooking with id := 5, checkIn := true, window := some 5 } }]
     |> fun (p : Part) => p.setPower .active).setClock ⟨0, 600, 0, true⟩), ⟨(published
     [{ booking 5 600 660 with booking := { aBooking with id := 5, checkIn := true, window := some 5 } }] |> fun (p :
     Part) => p.setPower .active), []⟩, by decide +kernel⟩,
   ⟨0, 0, 600, { booking 5 600 660 with booking := { aBooking with id := 5, checkIn := true, window := some 5 } },
     (((published
     [{ booking 5 600 660 with booking := { aBooking with id := 5, checkIn := true, window := some 5 } }] |> fun (p :
     Part) => p.setPower .active) |> fun (p : Part) => p.withSmn { p.smn with occupied := 2 }).setClock ⟨0, 600, 0,
     true⟩), ⟨((published
     [{ booking 5 600 660 with booking := { aBooking with id := 5, checkIn := true, window := some 5 } }] |> fun (p :
     Part) => p.setPower .active) |> fun (p : Part) => p.withSmn { p.smn with occupied := 2 }), []⟩, by
     decide +kernel⟩,
   ⟨0, 0, 101, { openSession with state := .overtime, effEnd := 107, vacancy := 7 }, 112, ((withSession meeting
     { openSession with state := .overtime, effEnd := 107, vacancy := 7 }).setClock ⟨0, 101, 0, true⟩), ⟨(withSession
     meeting { openSession with state := .overtime, effEnd := 107, vacancy := 7 }), []⟩, by decide +kernel⟩,
   ⟨0, 0, 101, { openSession with state := .inSession, effEnd := 106, vacancy := 7 }, 111, ((withSession meeting
     { openSession with state := .inSession, effEnd := 106, vacancy := 7 }).setClock ⟨0, 101, 0, true⟩),
     ⟨(withSession meeting { openSession with state := .inSession, effEnd := 106, vacancy := 7 }), []⟩, by
     decide +kernel⟩,
   ⟨0, 0, 101, { openSession with state := .ending, effEnd := 101, vacancy := 7 }, 106, ((withSession meeting
     { openSession with state := .ending, effEnd := 101, vacancy := 7 }).setClock ⟨0, 101, 0, true⟩), ⟨(withSession
     meeting { openSession with state := .ending, effEnd := 101, vacancy := 7 }), []⟩, by decide +kernel⟩,
   ⟨0, 0, 101, { openSession with state := .inSession, effEnd := 96, vacancy := 7 }, 101, ((withSession (withSlot
     meeting 6 .live 5) { openSession with state := .inSession, effEnd := 96, vacancy := 7 }).setClock ⟨0, 101, 0,
     true⟩), ⟨(withSession (withSlot meeting 6 .live 5)
     { openSession with state := .inSession, effEnd := 96, vacancy := 7 }), []⟩, by decide +kernel⟩,
   ⟨0, 0, 101, { openSession with state := .inSession, effEnd := 96, vacancy := 7 }, 101, ((withSession meeting
     { openSession with state := .inSession, effEnd := 96, vacancy := 7 }).setClock ⟨0, 101, 0, true⟩), ⟨(withSession
     meeting { openSession with state := .inSession, effEnd := 96, vacancy := 7 }), []⟩, by decide +kernel⟩,
   ⟨0, 0, 101, { openSession with state := .awaiting, effEnd := 102, vacancy := 7 }, 107, ((withSession meeting
     { openSession with state := .awaiting, effEnd := 102, vacancy := 7 }).setClock ⟨0, 101, 0, true⟩), ⟨(withSession
     meeting { openSession with state := .awaiting, effEnd := 102, vacancy := 7 }), []⟩, by decide +kernel⟩,
   ⟨0, 0, 101, { openSession with state := .awaiting, effEnd := 101, vacancy := 7 }, 106, ((withSession meeting
     { openSession with state := .awaiting, effEnd := 101, vacancy := 7 }).setClock ⟨0, 101, 0, true⟩), ⟨(withSession
     meeting { openSession with state := .awaiting, effEnd := 101, vacancy := 7 }), []⟩, by decide +kernel⟩,
   ⟨0, 0, 600, { openSession with state := .inSession, effEnd := 602, vacancy := 7 }, 600, ((withSession (withSlot
     (published [booking 5 600 660] |> fun (p : Part) => p.withFlc { p.flc with isOpen := true }) 1 .live 3)
     { openSession with state := .inSession, effEnd := 602, vacancy := 7 }).setClock ⟨0, 600, 0, true⟩),
     ⟨(withSession (withSlot (published [booking 5 600 660] |> fun (p : Part) => p.withFlc
     { p.flc with isOpen := true }) 1 .live 3)
     { openSession with state := .inSession, effEnd := 602, vacancy := 7 }), []⟩, by decide +kernel⟩⟩

/-- BankOpenAndEntriesFill: checking, count, mark, opened, emptyAuto, notFilling, beyond, range, good. -/
theorem test_hyp_bankOpenAndEntriesFill :
    (∃ (s : State), (Listening s.part .room) ∧ (Settled s.part) ∧ (s.part.sch.bankA.role ≠ s.part.sch.bankB.role) ∧
      (s.part.staging.state = .checking)) ∧
    (∃ (count : Byte) (s : State), (Listening s.part .room) ∧ (Settled s.part) ∧ (s.part.sch.bankA.role ≠
      s.part.sch.bankB.role) ∧ (s.part.staging.state ≠ .checking ∧ 32 < count.toNat)) ∧
    (∃ (auto : Byte) (s : State), (Listening s.part .room) ∧ (Settled s.part) ∧ (s.part.sch.bankA.role ≠
      s.part.sch.bankB.role) ∧ (s.part.staging.state ≠ .checking ∧ 1 < auto.toNat)) ∧
    (∃ (count : Byte) (auto : Byte) (s : State), (Listening s.part .room) ∧ (Settled s.part) ∧ (s.part.sch.bankA.role
      ≠ s.part.sch.bankB.role) ∧ (s.part.staging.state ≠ .checking ∧ count.toNat ≤ 32 ∧ auto.toNat ≤ 1)) ∧
    (∃ (count : Byte) (auto : Byte) (s : State), (Listening s.part .room) ∧ (Settled s.part) ∧ (s.part.sch.bankA.role
      ≠ s.part.sch.bankB.role) ∧ (s.part.staging.state ≠ .checking ∧ count = 0 ∧ auto = 1)) ∧
    (∃ (s : State), (Listening s.part .room) ∧ (Settled s.part) ∧ (s.part.sch.bankA.role ≠ s.part.sch.bankB.role) ∧
      (s.part.staging.state = .checking)) ∧
    (∃ (s : State), (Listening s.part .room) ∧ (Settled s.part) ∧ (s.part.sch.bankA.role ≠ s.part.sch.bankB.role) ∧
      (s.part.staging.state ≠ .checking ∧ s.part.staging.state ≠ .filling)) ∧
    (∃ (s : State), (Listening s.part .room) ∧ (Settled s.part) ∧ (s.part.sch.bankA.role ≠ s.part.sch.bankB.role) ∧
      (s.part.staging.state = .filling ∧ s.part.staging.declared ≤ s.part.staging.received)) ∧
    (∃ (e : BookingPayload) (s : State), (Listening s.part .room) ∧ (Settled s.part) ∧ (s.part.sch.bankA.role ≠
      s.part.sch.bankB.role) ∧ (s.part.staging.state = .filling ∧ s.part.staging.received < s.part.staging.declared ∧
      s.part.correctBooking (bookingPayloadBytes e) = none)) ∧
    (∃ (e : BookingPayload) (s : State), (Listening s.part .room) ∧ (Settled s.part) ∧ (s.part.sch.bankA.role ≠
      s.part.sch.bankB.role) ∧ (s.part.staging.state = .filling ∧ s.part.staging.received + 1 =
      s.part.staging.declared ∧ (s.part.correctBooking (bookingPayloadBytes e)).isSome = true)) :=
  ⟨⟨⟨(staging .checking 1 0 0 []), []⟩, by decide +kernel⟩,
   ⟨33, ⟨ready, []⟩, by decide +kernel⟩,
   ⟨2, ⟨ready, []⟩, by decide +kernel⟩,
   ⟨32, 1, ⟨ready, []⟩, by decide +kernel⟩,
   ⟨0, 1, ⟨ready, []⟩, by decide +kernel⟩,
   ⟨⟨(staging .checking 1 0 0 []), []⟩, by decide +kernel⟩,
   ⟨⟨ready, []⟩, by decide +kernel⟩,
   ⟨⟨(staging .filling 1 0 0 []), []⟩, by decide +kernel⟩,
   ⟨{ payload with id := 0 }, ⟨(staging .filling 1 1 0 []), []⟩, by decide +kernel⟩,
   ⟨payload, ⟨(staging .filling 1 1 0 []), []⟩, by decide +kernel⟩⟩

/-- BankPublishChecksOrSwaps: checking, short, complete, early, swap. -/
theorem test_hyp_bankPublishChecksOrSwaps :
    (∃ (s : State), (Listening s.part .room) ∧ (Settled s.part) ∧ (s.part.sch.bankA.role ≠ s.part.sch.bankB.role) ∧
      (s.part.staging.state = .checking)) ∧
    (∃ (s : State), (Listening s.part .room) ∧ (Settled s.part) ∧ (s.part.sch.bankA.role ≠ s.part.sch.bankB.role) ∧
      (s.part.staging.state = .filling ∧ s.part.staging.received < s.part.staging.declared)) ∧
    (∃ (s : State), (Listening s.part .room) ∧ (Settled s.part) ∧ (s.part.sch.bankA.role ≠ s.part.sch.bankB.role) ∧
      (s.part.staging.state = .filling ∧ s.part.staging.declared ≤ s.part.staging.received)) ∧
    (∃ (s : State), (Listening s.part .room) ∧ (Settled s.part) ∧ (s.part.sch.bankA.role ≠ s.part.sch.bankB.role) ∧
      (s.part.staging.state = .ready ∧ s.part.sch.clock.valid = true ∧ s.part.sch.clock.day < s.part.staging.day)) ∧
    (∃ (s : State), (Listening s.part .room) ∧ (Settled s.part) ∧ (s.part.sch.bankA.role ≠ s.part.sch.bankB.role) ∧
      (s.part.staging.state = .ready ∧ s.part.sch.clock.valid = true ∧ s.part.staging.day ≤ s.part.sch.clock.day)) :=
  ⟨⟨⟨(staging .checking 1 0 0 []), []⟩, by decide +kernel⟩,
   ⟨⟨(staging .filling 1 1 0 []), []⟩, by decide +kernel⟩,
   ⟨⟨(staging .filling 1 0 0 []), []⟩, by decide +kernel⟩,
   ⟨⟨(staging .ready 1 0 0 [] |> fun p => p.setClock ⟨0, 1439, 59, true⟩), []⟩, by decide +kernel⟩,
   ⟨⟨(staging .ready 1 1 1 [booking 5 600 660] |> fun p => p.setClock ⟨1, 0, 0, true⟩), []⟩, by decide +kernel⟩⟩

/-- BankAbandonEmpties: checking, filling, empty. -/
theorem test_hyp_bankAbandonEmpties :
    (∃ (s : State), (Listening s.part .room) ∧ (Settled s.part) ∧ (BanksSound s.part) ∧ (s.part.staging.state =
      .checking)) ∧
    (∃ (s : State), (Listening s.part .room) ∧ (Settled s.part) ∧ (BanksSound s.part) ∧ (s.part.staging.state ≠
      .checking)) ∧
    (∃ (s : State), (Listening s.part .room) ∧ (Settled s.part) ∧ (BanksSound s.part) ∧ (s.part.staging.state =
      .empty)) :=
  ⟨⟨⟨(staging .checking 1 0 0 []), []⟩, by decide +kernel⟩,
   ⟨⟨(staging .filling 1 2 1 [booking 5 600 660]), []⟩, by decide +kernel⟩,
   ⟨⟨ready, []⟩, by decide +kernel⟩⟩

/-- BookingCancelAndExtend: zero, checking, absent, pending, final, zeroDwell, activeWindup, activeOpen,
  activeCloses, noSession, past, blocked, moved, high, windup, awaiting. -/
theorem test_hyp_bookingCancelAndExtend :
    (∃ (id : Half) (s : State), (Listening s.part .room) ∧ (Settled s.part) ∧ (id = 0)) ∧
    (∃ (id : Half) (s : State), (Listening s.part .room) ∧ (Settled s.part) ∧ (id ≠ 0 ∧ s.part.staging.state =
      .checking)) ∧
    (∃ (id : Half) (s : State), (Listening s.part .room) ∧ (Settled s.part) ∧ (id ≠ 0 ∧ s.part.staging.state ≠
      .checking ∧ s.part.findEntry id.toNat = none)) ∧
    (∃ (id : Half) (s : State), (Listening s.part .room) ∧ (Settled s.part) ∧ (id ≠ 0 ∧ s.part.staging.state ≠
      .checking ∧ (∃ e ∈ s.part.findEntry id.toNat, e.status = .pending) ∧ s.part.ssu.pendingStart = some id.toNat ∧
      s.part.ssu.params.dwell ≠ 0)) ∧
    (∃ (id : Half) (s : State), (Listening s.part .room) ∧ (Settled s.part) ∧ (id ≠ 0 ∧ s.part.staging.state ≠
      .checking ∧ (∃ e ∈ s.part.findEntry id.toNat, e.status = .missed))) ∧
    (∃ (id : Half) (s : State), (Listening s.part .room) ∧ (Settled s.part) ∧ (id ≠ 0 ∧ s.part.staging.state ≠
      .checking ∧ (∃ e ∈ s.part.findEntry id.toNat, e.status = .pending) ∧ s.part.ssu.params.dwell = 0 ∧
      s.part.ssu.session ≠ none ∧ s.part.ssu.pendingStart = some id.toNat)) ∧
    (∃ (id : Half) (s : State), (Listening s.part .room) ∧ (Settled s.part) ∧ (id ≠ 0 ∧ s.part.staging.state ≠
      .checking ∧ (∃ e ∈ s.part.findEntry id.toNat, e.status = .active) ∧ ∃ x ∈ s.part.ssu.session, x.state =
      .windup)) ∧
    (∃ (id : Half) (s : State), (Listening s.part .room) ∧ (Settled s.part) ∧ (id ≠ 0 ∧ s.part.staging.state ≠
      .checking ∧ (∃ e ∈ s.part.findEntry id.toNat, e.status = .active) ∧ s.part.allFree = false ∧ ∃ x ∈
      s.part.ssu.session, x.state ≠ .windup)) ∧
    (∃ (id : Half) (s : State), (Listening s.part .room) ∧ (Settled s.part) ∧ (id ≠ 0 ∧ s.part.staging.state ≠
      .checking ∧ (∃ e ∈ s.part.findEntry id.toNat, e.status = .active) ∧ s.part.allFree = true ∧
      s.part.ssu.pendingStart = none ∧ s.part.ssu.params.dwell ≠ 0 ∧ ∃ x ∈ s.part.ssu.session, x.state ≠ .windup ∧
      x.booking = some id.toNat)) ∧
    (∃ (s : State), (Listening s.part .room) ∧ (Settled s.part) ∧ (s.part.ssu.session = none)) ∧
    (∃ (m : Half) (s : State), (Listening s.part .room) ∧ (Settled s.part) ∧ (∃ x ∈ s.part.ssu.session, x.state ≠
      .windup ∧ m.toNat ≤ s.part.sch.clock.minute)) ∧
    (∃ (m : Half) (s : State), (Listening s.part .room) ∧ (Settled s.part) ∧ (∃ x ∈ s.part.ssu.session, x.state ≠
      .windup ∧ s.part.nextStart < m.toNat)) ∧
    (∃ (m : Half) (s : State), (Listening s.part .room) ∧ (Settled s.part) ∧ (∃ x ∈ s.part.ssu.session,
      Part.runningState x.state = true ∧ s.part.sch.clock.minute < m.toNat ∧ m.toNat = s.part.nextStart)) ∧
    (∃ (m : Half) (s : State), (Listening s.part .room) ∧ (Settled s.part) ∧ (m.toNat = 0)) ∧
    (∃ (m : Half) (s : State), (Listening s.part .room) ∧ (Settled s.part) ∧ (1440 < m.toNat)) ∧
    (∃ (m : Half) (s : State), (Listening s.part .room) ∧ (Settled s.part) ∧ (1 ≤ m.toNat ∧ m.toNat ≤ 1440 ∧
      s.part.staging.state = .checking)) ∧
    (∃ (s : State), (Listening s.part .room) ∧ (Settled s.part) ∧ (s.part.staging.state ≠ .checking ∧ ∃ x ∈
      s.part.ssu.session, x.state = .windup)) ∧
    (∃ (m : Half) (s : State), (Listening s.part .room) ∧ (Settled s.part) ∧ (s.part.staging.state ≠ .checking ∧ (∃ x
      ∈ s.part.ssu.session, x.state = .awaiting ∧ ∀ c ∈ x.copy, ∀ w ∈ c.window, x.await < w) ∧
      s.part.sch.clock.minute + 1 = m.toNat ∧ m.toNat ≤ s.part.nextStart)) :=
  ⟨⟨0, ⟨(published [booking 5 600 660]), []⟩, by decide +kernel⟩,
   ⟨5, ⟨(staging .checking 1 0 0 []), []⟩, by decide +kernel⟩,
   ⟨6, ⟨(published [booking 5 600 660]), []⟩, by decide +kernel⟩,
   ⟨5, ⟨((published [booking 5 600 660]) |> fun p => p.withSsu { p.ssu with pendingStart := some 5 }), []⟩, by
     decide +kernel⟩,
   ⟨5, ⟨(listed .missed .inSession), []⟩, by decide +kernel⟩,
   ⟨5, ⟨((listed .pending .inSession) |> fun p => p.withSsu
     { p.ssu with pendingStart := some 5, params := { p.ssu.params with dwell := 0 } }), []⟩, by decide +kernel⟩,
   ⟨5, ⟨(listed .active .windup), []⟩, by decide +kernel⟩,
   ⟨5, ⟨(withSlot (listed .active .inSession) 1 .live 3), []⟩, by decide +kernel⟩,
   ⟨5, ⟨(listed .active .awaiting), []⟩, by decide +kernel⟩,
   ⟨⟨ready, []⟩, by decide +kernel⟩,
   ⟨1, ⟨(withSession (ready.setClock ⟨0, 1, 0, true⟩) openSession), []⟩, by decide +kernel⟩,
   ⟨601, ⟨(withSession ((published [booking 5 600 660]) |> fun p => p.setClock ⟨0, 1, 0, true⟩) openSession), []⟩, by
     decide +kernel⟩,
   ⟨600, ⟨(withSession ((published [booking 5 600 660]) |> fun p => p.setClock ⟨0, 1, 0, true⟩) openSession), []⟩, by
     decide +kernel⟩,
   ⟨0, ⟨ready, []⟩, by decide +kernel⟩,
   ⟨1441, ⟨ready, []⟩, by decide +kernel⟩,
   ⟨1440, ⟨(staging .checking 1 0 0 []), []⟩, by decide +kernel⟩,
   ⟨⟨(listed .active .windup), []⟩, by decide +kernel⟩,
   ⟨1440, ⟨((listed .active .awaiting).setClock ⟨0, 1439, 0, true⟩), []⟩, by decide +kernel⟩⟩

/-- SummaryReleaseFrees: empty, other, freed, otherPort. -/
theorem test_hyp_summaryReleaseFrees :
    (∃ (n : Half) (s : State), (Settled s.part) ∧ (Listening s.part .room ∧ ∀ x ∈ s.part.ssu.store.head?, x.number ≠
      n.toNat)) ∧
    (∃ (n : Half) (s : State), (Settled s.part) ∧ (Listening s.part .room ∧ s.part.ssu.store ≠ [] ∧ ∀ x ∈
      s.part.ssu.store.head?, x.number ≠ n.toNat)) ∧
    (∃ (n : Half) (s : State), (Settled s.part) ∧ (Listening s.part .room ∧ ∃ x ∈ s.part.ssu.store.head?, x.number =
      n.toNat)) ∧
    (∃ (s : State), (Settled s.part) ∧ (Listening s.part .av)) :=
  ⟨⟨0, ⟨ready, []⟩, by decide +kernel⟩,
   ⟨8, ⟨stored, []⟩, by decide +kernel⟩,
   ⟨7, ⟨stored, []⟩, by decide +kernel⟩,
   ⟨⟨stored, []⟩, by decide +kernel⟩⟩

/-- ProfileSetReplaces: saving, range, kind, taken, key, proximity, reference. -/
theorem test_hyp_profileSetReplaces :
    (∃ (s : State), (Listening s.part .room) ∧ (Settled s.part) ∧ (s.part.pln.saving = true)) ∧
    (∃ (f : ProfilePayload) (s : State), (Listening s.part .room) ∧ (Settled s.part) ∧ (s.part.pln.saving = false ∧
      127 < f.tracking.toNat)) ∧
    (∃ (n : Byte) (s : State), (Listening s.part .room) ∧ (Settled s.part) ∧ (s.part.pln.saving = false ∧ 2 <
      n.toNat)) ∧
    (∃ (n : Byte) (f : ProfilePayload) (k : ProfileKind) (s : State), (Listening s.part .room) ∧ (Settled s.part) ∧
      (s.part.pln.saving = false ∧ profileKindOf n.toNat = some k ∧ directionOf f.direction.toNat = some
      (s.part.profileOf k).direction ∧ f.sign.toNat ≤ 1 ∧ f.countBeta.toNat = 7 ∧ f.activeBeta.toNat = 15 ∧
      f.standbyBeta.toNat = 15 ∧ f.enter.toNat = 15 ∧ f.exit.toNat = 15 ∧ f.tracking.toNat = 127)) ∧
    (∃ (n : Byte) (f : ProfilePayload) (k : ProfileKind) (d : Direction) (s : State), (Listening s.part .room) ∧
      (Settled s.part) ∧ (s.part.pln.saving = false) ∧ ((profileKindOf n.toNat = some k ∧ directionOf
      f.direction.toNat = some d ∧ d ≠ (s.part.profileOf k).direction)) ∧ (((f.sign.toNat ≤ 1 ∧ f.countBeta.toNat ≤ 7
      ∧ f.activeBeta.toNat ≤ 15 ∧ f.standbyBeta.toNat ≤ 15) ∧ (f.enter.toNat ≤ 15 ∧ f.exit.toNat ≤ 15 ∧
      f.tracking.toNat ≤ 127))) ∧ ((s.part.channel (Part.keyChannel 0)).state = .active ∧ (s.part.channel 2).pending
      = true ∧ RunningChannel (s.part.channel 2))) ∧
    (∃ (n : Byte) (f : ProfilePayload) (k : ProfileKind) (d : Direction) (s : State), (Listening s.part .room) ∧
      (Settled s.part) ∧ (s.part.pln.saving = false) ∧ ((profileKindOf n.toNat = some k ∧ directionOf
      f.direction.toNat = some d ∧ d ≠ (s.part.profileOf k).direction)) ∧ (((f.sign.toNat ≤ 1 ∧ f.countBeta.toNat ≤ 7
      ∧ f.activeBeta.toNat ≤ 15 ∧ f.standbyBeta.toNat ≤ 15) ∧ (f.enter.toNat ≤ 15 ∧ f.exit.toNat ≤ 15 ∧
      f.tracking.toNat ≤ 127))) ∧ ((s.part.channel 39).state = .leaving ∧ (s.part.seat 19).presence = .occupied ∧ ¬
      RunningChannel (s.part.channel 1))) ∧
    (∃ (n : Byte) (f : ProfilePayload) (k : ProfileKind) (d : Direction) (s : State), (Listening s.part .room) ∧
      (Settled s.part) ∧ (s.part.pln.saving = false) ∧ ((profileKindOf n.toNat = some k ∧ directionOf
      f.direction.toNat = some d ∧ d ≠ (s.part.profileOf k).direction)) ∧ (((f.sign.toNat ≤ 1 ∧ f.countBeta.toNat ≤ 7
      ∧ f.activeBeta.toNat ≤ 15 ∧ f.standbyBeta.toNat ≤ 15) ∧ (f.enter.toNat ≤ 15 ∧ f.exit.toNat ≤ 15 ∧
      f.tracking.toNat ≤ 127))) ∧ (RunningChannel (s.part.channel 40))) :=
  ⟨⟨⟨saving, []⟩, by decide +kernel⟩,
   ⟨{ profileFields with tracking := 128 }, ⟨ready, []⟩, by decide +kernel⟩,
   ⟨3, ⟨ready, []⟩, by decide +kernel⟩,
   ⟨1, profileFields, .proximity, ⟨ready, []⟩, by decide +kernel⟩,
   ⟨0, { profileFields with direction := 1 }, .key, .rise, ⟨(withSeat (withChannel (withChannel ready 0
     { idleKey with state := .active }) 2 { idleKey with state := .entering, pending := true }) 0 fun x =>
     { x with key := .down, mark := .accepted }), []⟩, by decide +kernel⟩,
   ⟨1, { profileFields with direction := 1 }, .proximity, .rise, ⟨(withChannel (withChannel meeting 39
     { idleKey with state := .leaving }) 1 { idleKey with state := .fault }), []⟩, by decide +kernel⟩,
   ⟨2, { profileFields with direction := 1 }, .reference, .rise, ⟨(withChannel ready 40 idleKey), []⟩, by
     decide +kernel⟩⟩

/-- PatternAndPolaritySet: taken, range, saving. -/
theorem test_hyp_patternAndPolaritySet :
    (∃ (n : Byte) (r : Byte) (g : Byte) (l : Byte) (i : Fin 12) (s : State), (Listening s.part .room) ∧ (Settled
      s.part) ∧ (n.toNat = i.val) ∧ (s.part.pln.saving = false ∧ r.toNat ≤ 1 ∧ g.toNat ≤ 1 ∧ l.toNat ≤ 1)) ∧
    (∃ (n : Byte) (r : Byte) (l : Byte) (i : Fin 12) (s : State), (Listening s.part .room) ∧ (Settled s.part) ∧
      (n.toNat = i.val) ∧ (s.part.pln.saving = false ∧ r.toNat = 3 ∧ 3 < l.toNat)) ∧
    (∃ (n : Byte) (i : Fin 12) (s : State), (Listening s.part .room) ∧ (Settled s.part) ∧ (n.toNat = i.val) ∧
      (s.part.pln.saving = true)) :=
  ⟨⟨11, 1, 0, 1, 11, ⟨ready, []⟩, by decide +kernel⟩,
   ⟨0, 3, 4, 0, ⟨ready, []⟩, by decide +kernel⟩,
   ⟨0, 0, ⟨saving, []⟩, by decide +kernel⟩⟩

/-- RetuneStartsSearch: off, idle, fault, entering, active, leaving, tuning. -/
theorem test_hyp_retuneStartsSearch :
    (∃ (n : Byte) (f : Byte) (c : ChannelId) (s : State), (Listening s.part .room) ∧ (Settled s.part) ∧ (n.toNat =
      c.val ∧ f.toNat ≤ 1) ∧ ((s.part.channel c).state = .off)) ∧
    (∃ (n : Byte) (f : Byte) (c : ChannelId) (s : State), (Listening s.part .room) ∧ (Settled s.part) ∧ (n.toNat =
      c.val ∧ f.toNat ≤ 1) ∧ ((s.part.channel c).state = .idle)) ∧
    (∃ (n : Byte) (f : Byte) (c : ChannelId) (s : State), (Listening s.part .room) ∧ (Settled s.part) ∧ (n.toNat =
      c.val ∧ f.toNat ≤ 1) ∧ ((s.part.channel c).state = .fault)) ∧
    (∃ (n : Byte) (f : Byte) (c : ChannelId) (s : State), (Listening s.part .room) ∧ (Settled s.part) ∧ (n.toNat =
      c.val ∧ f.toNat ≤ 1) ∧ ((s.part.channel c).state = .entering)) ∧
    (∃ (n : Byte) (f : Byte) (c : ChannelId) (s : State), (Listening s.part .room) ∧ (Settled s.part) ∧ (n.toNat =
      c.val ∧ f.toNat ≤ 1) ∧ ((s.part.channel c).state = .active)) ∧
    (∃ (n : Byte) (f : Byte) (c : ChannelId) (s : State), (Listening s.part .room) ∧ (Settled s.part) ∧ (n.toNat =
      c.val ∧ f.toNat ≤ 1) ∧ ((s.part.channel c).state = .leaving)) ∧
    (∃ (n : Byte) (f : Byte) (c : ChannelId) (s : State), (Listening s.part .room) ∧ (Settled s.part) ∧ (n.toNat =
      c.val ∧ f.toNat ≤ 1) ∧ ((s.part.channel c).state = .tuning)) :=
  ⟨⟨40, 0, 40, ⟨(withChannel ready 40 { idleKey with state := .off }), []⟩, by decide +kernel⟩,
   ⟨0, 0, 0, ⟨(withChannel ready 0 { idleKey with state := .idle }), []⟩, by decide +kernel⟩,
   ⟨39, 1, 39, ⟨(withChannel ready 39 { idleKey with state := .fault }), []⟩, by decide +kernel⟩,
   ⟨0, 0, 0, ⟨(withChannel ready 0 { idleKey with state := .entering }), []⟩, by decide +kernel⟩,
   ⟨1, 1, 1, ⟨(withChannel ready 1 { idleKey with state := .active }), []⟩, by decide +kernel⟩,
   ⟨2, 0, 2, ⟨(withChannel ready 2 { idleKey with state := .leaving }), []⟩, by decide +kernel⟩,
   ⟨40, 1, 40, ⟨(withChannel ready 40 { idleKey with state := .tuning }), []⟩, by decide +kernel⟩⟩

/-- TableResetClears: all, opens, dropped, noSession. -/
theorem test_hyp_tableResetClears :
    (∃ (s : State), (Listening s.part .room) ∧ (Settled s.part) ∧ (s.part.ssu.params.dwell ≠ 0)) ∧
    (∃ (s : State), (Listening s.part .room) ∧ (Settled s.part) ∧ (s.part.ssu.params.dwell ≠ 0) ∧ ((∃ id ∈
      s.part.ssu.pendingStart, ∃ e ∈ s.part.comingEntries.find? (fun x => x.booking.id = id), e.booking.checkIn =
      true ∧ s.part.smn.occupied < e.booking.quorum) ∧ s.part.pwu.power = .waking ∧ s.part.ssu.session = none ∧
      s.part.isCurrent = true)) ∧
    (∃ (s : State), (Listening s.part .room) ∧ (Settled s.part) ∧ (s.part.ssu.params.dwell ≠ 0) ∧
      (s.part.ssu.pendingStart ≠ none ∧ s.part.isCurrent = false)) ∧
    (∃ (s : State), (Listening s.part .room) ∧ (Settled s.part) ∧ (s.part.ssu.params.dwell ≠ 0) ∧ (s.part.ssu.session
      = none ∧ s.part.ssu.pendingStart = none ∧ s.part.pwu.power ≠ .active)) :=
  ⟨⟨⟨(withSlot (withSession meeting openSession) 1 .live 3), []⟩, by decide +kernel⟩,
   ⟨⟨(published
     [⟨{ aBooking with id := 5, start := 600, stop := 606, checkIn := true, window := some 1, quorum := 1 },
     .pending⟩] |> fun p => ((p.setPower .waking).setClock ⟨0, 600, 0, true⟩).withSsu
     { p.ssu with pendingStart := some 5 }), []⟩, by decide +kernel⟩,
   ⟨⟨(published
     [⟨{ aBooking with id := 5, start := 600, stop := 606, checkIn := true, window := some 1, quorum := 1 },
     .pending⟩] |> fun p => ((p.setPower .waking).setClock ⟨0, 600, 0, false⟩).withSsu
     { p.ssu with pendingStart := some 5 }), []⟩, by decide +kernel⟩,
   ⟨⟨(ready.setPower .waking), []⟩, by decide +kernel⟩⟩

/-- RouteSetActs: fixed, blank, speaker, kept, fallback, screen, mode, source, screenLow, screenHigh, privacy,
  itself, follower, followed. -/
theorem test_hyp_routeSetActs :
    (∃ (n : Byte) (m : Byte) (a : Byte) (b : Byte) (c : Byte) (d : Byte) (k : ScreenId) (i : Input) (j : Input) (f :
      ScreenId) (s : State), (Listening s.part .av) ∧ (Settled s.part) ∧ (n.toNat = k.val + 1 ∧ a.toNat = i.val ∧
      b.toNat = f.val + 1 ∧ c.toNat = j.val ∧ d.toNat ≤ 1) ∧ (m = 0 ∨ m = 3) ∧ (s.part.rtu.override = false) ∧
      ((s.part.screen k).driven ≠ i)) ∧
    (∃ (n : Byte) (m : Byte) (a : Byte) (b : Byte) (c : Byte) (d : Byte) (k : ScreenId) (i : Input) (j : Input) (f :
      ScreenId) (s : State), (Listening s.part .av) ∧ (Settled s.part) ∧ (n.toNat = k.val + 1 ∧ a.toNat = i.val ∧
      b.toNat = f.val + 1 ∧ c.toNat = j.val ∧ d.toNat ≤ 1) ∧ (m = 0 ∨ m = 3) ∧ (s.part.rtu.override = false)) ∧
    (∃ (n : Byte) (m : Byte) (a : Byte) (b : Byte) (c : Byte) (d : Byte) (k : ScreenId) (i : Input) (j : Input) (f :
      ScreenId) (s : State), (Listening s.part .av) ∧ (Settled s.part) ∧ (n.toNat = k.val + 1 ∧ a.toNat = i.val ∧
      b.toNat = f.val + 1 ∧ c.toNat = j.val ∧ d.toNat ≤ 1) ∧ (s.part.rtu.override = false) ∧ (m = 1 ∧
      s.part.rtu.speakers.find? (fun y => (s.part.seat y).socket.any fun l => s.part.isRoutable (Part.socketInput l))
      = some 4 ∧ (s.part.screen 3).set.mode = .followScreen ∧ (s.part.screen 3).set.followed = k)) ∧
    (∃ (n : Byte) (m : Byte) (a : Byte) (b : Byte) (c : Byte) (d : Byte) (k : ScreenId) (i : Input) (j : Input) (f :
      ScreenId) (s : State), (Listening s.part .av) ∧ (Settled s.part) ∧ (n.toNat = k.val + 1 ∧ a.toNat = i.val ∧
      b.toNat = f.val + 1 ∧ c.toNat = j.val ∧ d.toNat ≤ 1) ∧ (s.part.rtu.override = false) ∧ (m = 1 ∧
      s.part.rtu.speakers.find? (fun y => (s.part.seat y).socket.any fun l => s.part.isRoutable (Part.socketInput l))
      = none ∧ s.part.isRoutable (s.part.screen k).shown = true)) ∧
    (∃ (n : Byte) (m : Byte) (a : Byte) (b : Byte) (c : Byte) (d : Byte) (k : ScreenId) (i : Input) (j : Input) (f :
      ScreenId) (s : State), (Listening s.part .av) ∧ (Settled s.part) ∧ (n.toNat = k.val + 1 ∧ a.toNat = i.val ∧
      b.toNat = f.val + 1 ∧ c.toNat = j.val ∧ d.toNat ≤ 1) ∧ (s.part.rtu.override = false) ∧ (m = 1 ∧
      s.part.rtu.speakers.find? (fun y => (s.part.seat y).socket.any fun l => s.part.isRoutable (Part.socketInput l))
      = none ∧ s.part.isRoutable (s.part.screen k).shown = false)) ∧
    (∃ (n : Byte) (m : Byte) (a : Byte) (b : Byte) (c : Byte) (d : Byte) (k : ScreenId) (i : Input) (j : Input) (f :
      ScreenId) (s : State), (Listening s.part .av) ∧ (Settled s.part) ∧ (n.toNat = k.val + 1 ∧ a.toNat = i.val ∧
      b.toNat = f.val + 1 ∧ c.toNat = j.val ∧ d.toNat ≤ 1) ∧ (s.part.rtu.override = false) ∧ (m = 2 ∧ f ≠ k ∧
      (s.part.screen f).set.mode ≠ .followScreen ∧ ∀ l, l ≠ k → (s.part.screen l).set.mode = .followScreen →
      (s.part.screen l).set.followed ≠ k)) ∧
    (∃ (n : Byte) (m : Byte) (a : Byte) (b : Byte) (c : Byte) (d : Byte) (k : ScreenId) (i : Input) (j : Input) (f :
      ScreenId) (s : State), (s.part.pln.stage = .running ∧ s.part.pwu.power = .standby) ∧ (FreePort s.part .av) ∧
      (n.toNat = k.val + 1 ∧ a.toNat = i.val ∧ b.toNat = f.val + 1 ∧ c.toNat = j.val ∧ d.toNat ≤ 1) ∧ (m = 0 ∨ m = 3)
      ∧ (m = 0)) ∧
    (∃ (n : Byte) (m : Byte) (a : Byte) (b : Byte) (c : Byte) (d : Byte) (k : ScreenId) (i : Input) (j : Input) (f :
      ScreenId) (s : State), (s.part.pln.stage = .running ∧ s.part.pwu.power = .standby) ∧ (FreePort s.part .av) ∧
      (n.toNat = k.val + 1 ∧ a.toNat = i.val ∧ b.toNat = f.val + 1 ∧ c.toNat = j.val ∧ d.toNat ≤ 1) ∧ (m = 0 ∨ m = 3)
      ∧ (m = 3 ∧ (s.part.screen 1).shown ≠ 0)) ∧
    (∃ (n : Byte) (m : Byte) (k : ScreenId) (s : State), (Listening s.part .av) ∧ (Settled s.part) ∧ (n.toNat = k.val
      + 1) ∧ (3 < m.toNat)) ∧
    (∃ (n : Byte) (a : Byte) (k : ScreenId) (s : State), (Listening s.part .av) ∧ (Settled s.part) ∧ (n.toNat = k.val
      + 1) ∧ (10 < a.toNat)) ∧
    (∃ (n : Byte) (b : Byte) (k : ScreenId) (s : State), (Listening s.part .av) ∧ (Settled s.part) ∧ (n.toNat = k.val
      + 1) ∧ (b = 0)) ∧
    (∃ (n : Byte) (b : Byte) (k : ScreenId) (s : State), (Listening s.part .av) ∧ (Settled s.part) ∧ (n.toNat = k.val
      + 1) ∧ (4 < b.toNat)) ∧
    (∃ (n : Byte) (c : Byte) (k : ScreenId) (s : State), (Listening s.part .av) ∧ (Settled s.part) ∧ (n.toNat = k.val
      + 1) ∧ (10 < c.toNat)) ∧
    (∃ (n : Byte) (d : Byte) (k : ScreenId) (s : State), (Listening s.part .av) ∧ (Settled s.part) ∧ (n.toNat = k.val
      + 1) ∧ (1 < d.toNat)) ∧
    (∃ (n : Byte) (m : Byte) (a : Byte) (b : Byte) (c : Byte) (d : Byte) (k : ScreenId) (s : State), (Listening
      s.part .av) ∧ (Settled s.part) ∧ (n.toNat = k.val + 1) ∧ (∃ f : ScreenId, m = 2 ∧ b.toNat = f.val + 1 ∧ a.toNat
      ≤ 10 ∧ c.toNat ≤ 10 ∧ d.toNat ≤ 1 ∧ f = k)) ∧
    (∃ (n : Byte) (m : Byte) (a : Byte) (b : Byte) (c : Byte) (d : Byte) (k : ScreenId) (s : State), (Listening
      s.part .av) ∧ (Settled s.part) ∧ (n.toNat = k.val + 1) ∧ (∃ f : ScreenId, m = 2 ∧ b.toNat = f.val + 1 ∧ a.toNat
      ≤ 10 ∧ c.toNat ≤ 10 ∧ d.toNat ≤ 1 ∧ (s.part.screen f).set.mode = .followScreen)) ∧
    (∃ (n : Byte) (m : Byte) (a : Byte) (b : Byte) (c : Byte) (d : Byte) (k : ScreenId) (s : State), (Listening
      s.part .av) ∧ (Settled s.part) ∧ (n.toNat = k.val + 1) ∧ (∃ f : ScreenId, m = 2 ∧ b.toNat = f.val + 1 ∧ a.toNat
      ≤ 10 ∧ c.toNat ≤ 10 ∧ d.toNat ≤ 1 ∧ ∃ j, j ≠ k ∧ (s.part.screen j).set.mode = .followScreen ∧ (s.part.screen
      j).set.followed = k)) :=
  ⟨⟨4, 0, 10, 1, 0, 1, 3, 10, 0, 0, ⟨ready, []⟩, by decide +kernel⟩,
   ⟨1, 3, 0, 1, 10, 0, 0, 0, 10, 0, ⟨ready, []⟩, by decide +kernel⟩,
   ⟨1, 1, 10, 1, 9, 1, 0, 10, 9, 0, ⟨((withScreen (withSeat (withScreen meeting 3 fun x =>
     { x with set := { x.set with mode := .followScreen, followed := 0 } }) 4 fun x => { x with socket := some 7 }) 1
     fun x => { x with set := { x.set with mode := .fixed, fixed := 9 }, shown := 9, driven := 9 }) |> fun p =>
     p.withRtu { p.rtu with speakers := [0, 4], routable := Vector.ofFn fun i => i.val = 7 }), []⟩, by
     decide +kernel⟩,
   ⟨2, 1, 10, 1, 9, 1, 1, 10, 9, 0, ⟨((withScreen (withSeat (withScreen meeting 3 fun x =>
     { x with set := { x.set with mode := .followScreen, followed := 0 } }) 4 fun x => { x with socket := some 7 }) 1
     fun x => { x with set := { x.set with mode := .fixed, fixed := 9 }, shown := 9, driven := 9 }) |> fun p =>
     p.withRtu { p.rtu with speakers := [0, 4], routable := Vector.ofFn fun i => i.val = 8 }), []⟩, by
     decide +kernel⟩,
   ⟨1, 1, 10, 4, 9, 1, 0, 10, 9, 3, ⟨((withScreen (withSeat (withScreen meeting 3 fun x =>
     { x with set := { x.set with mode := .followScreen, followed := 0 } }) 4 fun x => { x with socket := some 7 }) 1
     fun x => { x with set := { x.set with mode := .fixed, fixed := 9 }, shown := 9, driven := 9 }) |> fun p =>
     p.withRtu { p.rtu with speakers := [0, 4], routable := Vector.ofFn fun i => i.val = 10 }), []⟩, by
     decide +kernel⟩,
   ⟨3, 2, 10, 2, 9, 1, 2, 10, 9, 1, ⟨((withScreen (withSeat (withScreen meeting 3 fun x =>
     { x with set := { x.set with mode := .followScreen, followed := 0 } }) 4 fun x => { x with socket := some 7 }) 1
     fun x => { x with set := { x.set with mode := .fixed, fixed := 9 }, shown := 9, driven := 9 }) |> fun p =>
     p.withRtu { p.rtu with speakers := [0, 4], routable := Vector.ofFn fun i => i.val = 8 }), []⟩, by
     decide +kernel⟩,
   ⟨4, 0, 10, 1, 0, 1, 3, 10, 0, 0, ⟨(ready |> fun p => (p.setPower .standby).withRtu
     { p.rtu with override := true }), []⟩, by decide +kernel⟩,
   ⟨1, 3, 0, 1, 10, 0, 0, 0, 10, 0, ⟨((withScreen ready 1 fun x =>
     { x with set := { x.set with mode := .fixed, fixed := 9 }, shown := 9 }) |> fun p => (p.setPower
     .standby).withRtu { p.rtu with override := true }), []⟩, by decide +kernel⟩,
   ⟨1, 4, 0, ⟨ready, []⟩, by decide +kernel⟩,
   ⟨1, 11, 0, ⟨ready, []⟩, by decide +kernel⟩,
   ⟨1, 0, 0, ⟨ready, []⟩, by decide +kernel⟩,
   ⟨1, 5, 0, ⟨ready, []⟩, by decide +kernel⟩,
   ⟨1, 11, 0, ⟨ready, []⟩, by decide +kernel⟩,
   ⟨1, 2, 0, ⟨ready, []⟩, by decide +kernel⟩,
   ⟨1, 2, 0, 1, 0, 0, 0, ⟨ready, []⟩, by decide +kernel⟩,
   ⟨1, 2, 0, 4, 0, 0, 0, ⟨(follows 3 1), []⟩, by decide +kernel⟩,
   ⟨1, 2, 0, 3, 0, 0, 0, ⟨(follows 3 0), []⟩, by decide +kernel⟩⟩

/-- RateCountAndGainSet: top, unused, range, saving, zero, high, rise, fall, mark, taken, lowest. -/
theorem test_hyp_rateCountAndGainSet :
    (∃ (n : Byte) (cls : Byte) (nom : Half) (tol : Half) (w : Half) (x : Half) (i : Fin 8) (s : State), (Listening
      s.part .av) ∧ (Settled s.part) ∧ (n.toNat = i.val + 1) ∧ (s.part.pln.saving = false ∧ (nom = 0 ∨ 1000 ≤
      nom.toNat) ∧ nom.toNat ≤ 65000 ∧ tol.toNat ≤ 2000 ∧ 1 ≤ cls.toNat ∧ cls.toNat ≤ 8 ∧ w.toNat ≤ x.toNat)) ∧
    (∃ (n : Byte) (cls : Byte) (nom : Half) (tol : Half) (w : Half) (x : Half) (i : Fin 8) (s : State), (Listening
      s.part .av) ∧ (Settled s.part) ∧ (n.toNat = i.val + 1) ∧ (s.part.pln.saving = false ∧ (nom = 0 ∨ 1000 ≤
      nom.toNat) ∧ nom.toNat ≤ 65000 ∧ tol.toNat ≤ 2000 ∧ 1 ≤ cls.toNat ∧ cls.toNat ≤ 8 ∧ w.toNat ≤ x.toNat)) ∧
    (∃ (n : Byte) (cls : Byte) (nom : Half) (tol : Half) (w : Half) (x : Half) (i : Fin 8) (s : State), (Listening
      s.part .av) ∧ (Settled s.part) ∧ (n.toNat = i.val + 1) ∧ (s.part.pln.saving = false ∧ ¬ ((nom = 0 ∨ 1000 ≤
      nom.toNat) ∧ nom.toNat ≤ 65000 ∧ tol.toNat ≤ 2000 ∧ 1 ≤ cls.toNat ∧ cls.toNat ≤ 8 ∧ w.toNat ≤ x.toNat))) ∧
    (∃ (n : Byte) (i : Fin 8) (s : State), (Listening s.part .av) ∧ (Settled s.part) ∧ (n.toNat = i.val + 1) ∧
      (s.part.pln.saving = true)) ∧
    (∃ (s : State), (Listening s.part .av) ∧ (Settled s.part) ∧ (s.part.pln.saving = true)) ∧
    (∃ (g : Half) (s : State), (Listening s.part .av) ∧ (Settled s.part) ∧ (g = 0)) ∧
    (∃ (g : Half) (s : State), (Listening s.part .av) ∧ (Settled s.part) ∧ (1023 < g.toNat)) ∧
    (∃ (rise : Byte) (s : State), (Listening s.part .av) ∧ (Settled s.part) ∧ (rise = 0)) ∧
    (∃ (fall : Byte) (s : State), (Listening s.part .av) ∧ (Settled s.part) ∧ (fall = 0)) ∧
    (∃ (on : Byte) (s : State), (Listening s.part .av) ∧ (Settled s.part) ∧ (1 < on.toNat)) ∧
    (∃ (rise : Byte) (fall : Byte) (on : Byte) (g : Half) (s : State), (Listening s.part .av) ∧ (Settled s.part) ∧
      (s.part.pln.saving = false ∧ 1 ≤ g.toNat ∧ g.toNat ≤ 1023 ∧ rise ≠ 0 ∧ fall ≠ 0 ∧ on.toNat ≤ 1)) ∧
    (∃ (rise : Byte) (fall : Byte) (on : Byte) (g : Half) (s : State), (Listening s.part .av) ∧ (Settled s.part) ∧
      (s.part.pln.saving = false ∧ 1 ≤ g.toNat ∧ g.toNat ≤ 1023 ∧ rise ≠ 0 ∧ fall ≠ 0 ∧ on.toNat ≤ 1)) :=
  ⟨⟨8, 8, 65000, 2000, 65535, 65535, 7, ⟨ready, []⟩, by decide +kernel⟩,
   ⟨1, 1, 0, 0, 0, 0, 0, ⟨ready, []⟩, by decide +kernel⟩,
   ⟨8, 8, 999, 2000, 65535, 65535, 7, ⟨ready, []⟩, by decide +kernel⟩,
   ⟨8, 7, ⟨saving, []⟩, by decide +kernel⟩,
   ⟨⟨saving, []⟩, by decide +kernel⟩,
   ⟨0, ⟨ready, []⟩, by decide +kernel⟩,
   ⟨1024, ⟨ready, []⟩, by decide +kernel⟩,
   ⟨0, ⟨ready, []⟩, by decide +kernel⟩,
   ⟨0, ⟨ready, []⟩, by decide +kernel⟩,
   ⟨2, ⟨ready, []⟩, by decide +kernel⟩,
   ⟨255, 1, 1, 1023, ⟨(full (withSlot meeting 0 .live 0)), []⟩, by decide +kernel⟩,
   ⟨1, 255, 0, 1, ⟨(full meeting), []⟩, by decide +kernel⟩⟩

/-- CaptureSetAndInputPresent: saving, stops, starts, input, inputHigh, value, pc, codec. -/
theorem test_hyp_captureSetAndInputPresent :
    (∃ (n : Byte) (b : Byte) (f : Byte) (k : SocketId) (s : State), (Listening s.part .av) ∧ (Settled s.part) ∧
      ((n.toNat = k.val + 1 ∧ b.toNat ≤ 1 ∧ (f = 0 ∨ f = 2 ∨ f = 4 ∨ f = 8))) ∧ (s.part.pln.saving = true)) ∧
    (∃ (n : Byte) (a : Byte) (b : Byte) (f : Byte) (k : SocketId) (s : State), (Listening s.part .av) ∧ (Settled
      s.part) ∧ ((n.toNat = k.val + 1 ∧ b.toNat ≤ 1 ∧ (f = 0 ∨ f = 2 ∨ f = 4 ∨ f = 8))) ∧ (s.part.pln.saving = false
      ∧ a.toNat ≤ 1 ∧ (s.part.socket k).enable = true ∧ a = 0 ∧ (s.part.socket k).state ≠ .none)) ∧
    (∃ (n : Byte) (a : Byte) (b : Byte) (f : Byte) (k : SocketId) (s : State), (Listening s.part .av) ∧ (Settled
      s.part) ∧ ((n.toNat = k.val + 1 ∧ b.toNat ≤ 1 ∧ (f = 0 ∨ f = 2 ∨ f = 4 ∨ f = 8))) ∧ (s.part.pln.saving = false
      ∧ a.toNat ≤ 1 ∧ (s.part.socket k).enable = false ∧ a = 1)) ∧
    (∃ (n : Byte) (s : State), (Listening s.part .av) ∧ (Settled s.part) ∧ (n ≠ 9 ∧ n ≠ 10)) ∧
    (∃ (n : Byte) (s : State), (Listening s.part .av) ∧ (Settled s.part) ∧ (n ≠ 9 ∧ n ≠ 10)) ∧
    (∃ (v : Byte) (s : State), (Listening s.part .av) ∧ (Settled s.part) ∧ (1 < v.toNat)) ∧
    (∃ (n : Byte) (v : Byte) (s : State), (Listening s.part .av) ∧ (Settled s.part) ∧ (n = 9 ∧ v.toNat ≤ 1 ∧
      s.part.scu.pc = false)) ∧
    (∃ (n : Byte) (v : Byte) (s : State), (Listening s.part .av) ∧ (Settled s.part) ∧ (n = 10 ∧ v.toNat ≤ 1 ∧
      s.part.scu.codec = false)) :=
  ⟨⟨8, 1, 8, 7, ⟨saving, []⟩, by decide +kernel⟩,
   ⟨8, 0, 1, 8, 7, ⟨(withSocket ready 7 fun x => { x with state := .live }), []⟩, by decide +kernel⟩,
   ⟨8, 1, 1, 8, 7, ⟨(withSocket ready 7 fun x => { x with enable := false }), []⟩, by decide +kernel⟩,
   ⟨8, ⟨ready, []⟩, by decide +kernel⟩,
   ⟨11, ⟨ready, []⟩, by decide +kernel⟩,
   ⟨2, ⟨ready, []⟩, by decide +kernel⟩,
   ⟨9, 1, ⟨ready, []⟩, by decide +kernel⟩,
   ⟨10, 1, ⟨ready, []⟩, by decide +kernel⟩⟩

end Sys2Proof.Tests
end

section
/-! The range of a channel's counts under each operation of a sensing frame, and the one invariant of SFE that every step
keeps (R17, R29). -/

namespace Sys2Proof.Machine

/-! ### The arithmetic of the counts -/

theorem quotient_le_max_zero (a : Int) (b : Nat) : quotient a b ≤ max a 0 := by
  rcases le_total 0 a with ha | ha
  · exact (Int.tdiv_le_self (Int.ofNat b) ha).trans (le_max_left a 0)
  · have hneg : 0 ≤ (-a).tdiv (Int.ofNat b) := Int.tdiv_nonneg (by omega) (Int.natCast_nonneg b)
    rw [Int.neg_tdiv] at hneg
    exact (Int.nonpos_of_neg_nonneg hneg).trans (le_max_right a 0)

/-- A value that moves toward a goal stays under any bound that both lie under (R22, R26). -/
theorem approach_le {old goal bound : Nat} (beta : Nat) (ho : old ≤ bound) (hg : goal ≤ bound) :
    approach old goal beta ≤ bound := by
  have hq := quotient_le_max_zero (Int.ofNat goal - Int.ofNat old) (2 ^ beta)
  simp only [approach, Int.ofNat_eq_natCast] at hq ⊢
  omega

theorem followLta_le {l f bound : Nat} (beta : Nat) (hl : l ≤ bound) (hf : f ≤ bound) : followLta l f beta ≤ bound := by
  have ha := approach_le beta hl hf
  simp only [followLta]
  (repeat' split) <;> omega

theorem trackLta_le (pr : Profile) (l : Nat) (change : Int) : trackLta pr l change ≤ Config.maxCount :=
  Nat.min_le_right _ _

theorem sixteenths_le {n : Nat} (h : n ≤ Config.maxRaw) : 16 * n ≤ Config.maxCount := Nat.mul_le_mul_left 16 h

theorem clamp_le {lo hi : Nat} (h : lo ≤ hi) (n : Nat) : clamp lo hi n ≤ hi := by
  simp only [clamp]
  (repeat' split) <;> omega

/-- A threshold value of at most 255 makes a level that does not exceed the long-term average (R23, R29). -/
theorem takeLevels_level_le {pr : Profile} (h : pr.threshold ≤ 255) (x : Channel) : (takeLevels pr x).level ≤ x.lta :=
  calc x.lta * pr.threshold / 256
    _ ≤ x.lta * 256 / 256 := Nat.div_le_div_right (Nat.mul_le_mul_left _ (by omega))
    _ = x.lta := Nat.mul_div_cancel _ (by decide)

/-! ### The stages of a channel's frame -/

section
variable {x : Channel}

theorem takeRaw_countsInRange (h : CountsInRange x) (reading : Nat) : CountsInRange (takeRaw x reading) := by
  obtain ⟨-, hfiltered, hlta, hbest⟩ := h
  exact ⟨Nat.min_le_right _ _, hfiltered, hlta, hbest⟩

theorem filterCount_countsInRange (h : CountsInRange x) (beta : Nat) : CountsInRange (filterCount x beta) := by
  obtain ⟨hraw, hfiltered, hlta, hbest⟩ := h
  exact ⟨hraw, approach_le beta hfiltered (sixteenths_le hraw), hlta, hbest⟩

theorem startRetune_countsInRange (h : CountsInRange x) : CountsInRange (startRetune x) := by
  obtain ⟨hraw, hfiltered, hlta, -⟩ := h
  exact ⟨hraw, hfiltered, hlta, nofun⟩

theorem restartRetune_countsInRange (h : CountsInRange x) : CountsInRange (restartRetune x) := by
  obtain ⟨hraw, hfiltered, hlta, -⟩ := h
  exact ⟨hraw, hfiltered, hlta, nofun⟩

theorem startPending_countsInRange {r : ChanResult} (h : CountsInRange r.1) : CountsInRange (startPending r).1 := by
  unfold startPending
  split
  · exact startRetune_countsInRange h
  · exact h

/-- The better of two trials has the raw count of one of them. -/
theorem betterTrial_le {best : Option (Nat × Nat)} {r bound : Nat} (target v : Nat) (hb : ∀ b ∈ best, b.2 ≤ bound)
    (hr : r ≤ bound) : (betterTrial target best v r).2 ≤ bound := by
  cases best with
  | none => exact hr
  | some b =>
    have hb' : b.2 ≤ bound := hb b rfl
    simp only [betterTrial]
    (repeat' split) <;> assumption

theorem searchStep_countsInRange (h : CountsInRange x) (pr : Profile) (reading : Nat) :
    CountsInRange (searchStep pr x reading) := by
  obtain ⟨hraw, hfiltered, hlta, hbest⟩ := takeRaw_countsInRange h reading
  refine ⟨hraw, hfiltered, hlta, fun b hb => ?_⟩
  obtain rfl := Option.some.inj hb
  exact betterTrial_le _ _ hbest hraw

/-- The completion of a retune takes the raw count of the best trial, and in band sixteen times it for both counts (R33). -/
theorem completeRetune_countsInRange (h : CountsInRange x) (pr : Profile) : CountsInRange (completeRetune pr x).1 := by
  obtain ⟨hraw, hfiltered, hlta, hbest⟩ := h
  have hb : (x.best.getD (x.tune, x.raw)).2 ≤ Config.maxRaw := by
    cases hx : x.best with
    | none => exact hraw
    | some b => exact hbest b hx
  simp only [completeRetune]
  split
  · exact startPending_countsInRange ⟨hb, sixteenths_le hb, sixteenths_le hb, nofun⟩
  · exact ⟨hb, hfiltered, hlta, nofun⟩

theorem tuningFrame_countsInRange (h : CountsInRange x) (pr : Profile) (reading : Nat) :
    CountsInRange (tuningFrame pr x reading).1 := by
  have hs := searchStep_countsInRange h pr reading
  simp only [tuningFrame]
  split
  · exact completeRetune_countsInRange hs pr
  · exact hs

theorem stageFive_countsInRange (h : CountsInRange x) (pr : Profile) : CountsInRange (stageFive pr x).1 := by
  simp only [stageFive]
  split
  · exact startPending_countsInRange h
  · exact h

theorem reseed_countsInRange (h : CountsInRange x) (notices : List SfeOut) : CountsInRange (reseed x notices).1 := by
  obtain ⟨hraw, hfiltered, -, hbest⟩ := h
  exact startPending_countsInRange ⟨hraw, hfiltered, hfiltered, hbest⟩

theorem stagesSixToEight_countsInRange (h : CountsInRange x) (pr : Profile) (beta period : Nat) (change : Int) :
    CountsInRange (stagesSixToEight pr beta period change x).1 := by
  obtain ⟨hraw, hfiltered, hlta, hbest⟩ := h
  have htracked : (if pr.tracking = 0 then x.lta else trackLta pr x.lta change) ≤ Config.maxCount := by
    split
    · exact hlta
    · exact trackLta_le pr _ _
  simp only [stagesSixToEight]
  split
  · exact ⟨hraw, hfiltered, followLta_le beta hlta hfiltered, hbest⟩
  · generalize (if pr.tracking = 0 then x.lta else trackLta pr x.lta change) = l at htracked ⊢
    split
    · apply reseed_countsInRange
      exact ⟨hraw, hfiltered, htracked, hbest⟩
    · exact ⟨hraw, hfiltered, htracked, hbest⟩

theorem bandCheck_countsInRange (h : CountsInRange x) (pr : Profile) (zeroLevel : Bool) :
    CountsInRange (bandCheck pr zeroLevel x) := by
  simp only [bandCheck]
  split
  · exact h
  · split
    · split
      · exact startRetune_countsInRange h
      · exact h
    · exact h

theorem faultFrame_countsInRange (h : CountsInRange x) (pr : Profile) (reading : Nat) :
    CountsInRange (faultFrame pr x reading) :=
  filterCount_countsInRange (takeRaw_countsInRange h reading) _

theorem takeLevels_countsInRange (h : CountsInRange x) (pr : Profile) : CountsInRange (takeLevels pr x) := h

theorem runFrame_countsInRange (h : CountsInRange x) (pr : Profile) (beta period : Nat) (change : Int) (reading : Nat) :
    CountsInRange (runFrame pr beta period change x reading).1 := by
  have hfive := stageFive_countsInRange
    (takeLevels_countsInRange (filterCount_countsInRange (takeRaw_countsInRange h reading) pr.countBeta) pr) pr
  simp only [runFrame]
  split
  · exact hfive
  · exact bandCheck_countsInRange (stagesSixToEight_countsInRange hfive pr beta period change) pr _

theorem firstWakeFrame_countsInRange (h : CountsInRange x) {pr : Profile} {reading : Nat} {r : ChanResult}
    (hr : firstWakeFrame pr x reading = some r) : CountsInRange r.1 := by
  have hretune := tuningFrame_countsInRange (startRetune_countsInRange h) pr reading
  obtain ⟨hraw, -, -, hbest⟩ := takeRaw_countsInRange h reading
  simp only [firstWakeFrame] at hr
  split at hr
  · split at hr <;> obtain rfl := Option.some.inj hr
    · exact hretune
    · exact ⟨hraw, sixteenths_le hraw, sixteenths_le hraw, hbest⟩
  · split at hr
    · obtain rfl := Option.some.inj hr
      exact hretune
    · contradiction
  · contradiction

theorem updateChannel_countsInRange (h : CountsInRange x) (pr : Profile) (beta period : Nat) (change : Int)
    (reading : Nat) : CountsInRange (updateChannel pr beta period change x reading).1 := by
  have hz : CountsInRange { x with firstWake := false } := h
  simp only [updateChannel]
  split
  next r hr =>
    split at hr
    · exact firstWakeFrame_countsInRange hz hr
    · contradiction
  next =>
    split
    · exact h
    · exact tuningFrame_countsInRange hz pr reading
    · exact faultFrame_countsInRange hz pr reading
    · exact runFrame_countsInRange hz pr beta period change reading

theorem updateReference_countsInRange (h : CountsInRange x) (pr : Profile) (beta reading : Nat) :
    CountsInRange (updateReference pr beta x reading).1.1 := by
  simp only [updateReference]
  split
  · exact h
  · exact tuningFrame_countsInRange h pr reading
  · exact faultFrame_countsInRange h pr reading
  · obtain ⟨hraw, hfiltered, hlta, hbest⟩ := faultFrame_countsInRange h pr reading
    apply bandCheck_countsInRange
    exact ⟨hraw, hfiltered, followLta_le beta hlta hfiltered, hbest⟩

theorem standbyChannel_countsInRange (h : CountsInRange x) : CountsInRange (Part.standbyChannel x).1 := by
  obtain ⟨hraw, hfiltered, hlta, hbest⟩ := h
  unfold Part.standbyChannel
  split
  · exact ⟨hraw, hfiltered, hlta, hbest⟩
  · exact ⟨hraw, hfiltered, hlta, hbest⟩
  · exact ⟨hraw, hfiltered, hlta, nofun⟩
  · exact ⟨hraw, hfiltered, hlta, hbest⟩

end

end Sys2Proof.Machine
end

section
/-! SFE's range invariant under every operation of the part, and from it under every step. -/

namespace Sys2Proof.Machine

/-- Every channel's counts lie in their ranges, and every profile's threshold value fits the byte that holds it (R16, R29). -/
structure SenseSound (x : Sfe) : Prop where
  counts    : ∀ c, CountsInRange (x.channels.get c)
  key       : x.key.threshold ≤ 255
  proximity : x.proximity.threshold ≤ 255
  reference : x.reference.threshold ≤ 255

namespace Part

/-- The invariant in the words of the obligation. -/
theorem senseSound_iff (p : Part) :
    SenseSound p.sfe ↔ (∀ c, CountsInRange (p.channel c)) ∧ ∀ k, (p.profileOf k).threshold ≤ 255 := by
  constructor
  · intro h
    exact ⟨h.counts, fun k => by cases k; exacts [h.key, h.proximity, h.reference]⟩
  · rintro ⟨hcounts, hprofiles⟩
    exact ⟨hcounts, hprofiles .key, hprofiles .proximity, hprofiles .reference⟩

section
variable {p : Part}

/-! ### Channels and reports -/

theorem senseSound_foldl {f : Part → α → Part} (hf : ∀ q a, SenseSound q.sfe → SenseSound (f q a).sfe) (l : List α)
    (h : SenseSound p.sfe) : SenseSound (l.foldl f p).sfe :=
  foldl_invariant (P := fun q : Part => SenseSound q.sfe) hf l p h

/-- A change of every channel that keeps its counts in range. -/
theorem senseSound_mapTable {x : Sfe} (h : SenseSound x) {f : ChannelId → Channel → Channel}
    (hf : ∀ c y, CountsInRange y → CountsInRange (f c y)) : SenseSound { x with channels := mapTable f x.channels } :=
  { h with counts := fun c => by simpa only [get_mapTable] using hf c _ (h.counts c) }

theorem senseSound_setChannel (h : SenseSound p.sfe) (c : ChannelId) {x : Channel} (hx : CountsInRange x) :
    SenseSound (p.setChannel c x).sfe := by
  refine ⟨fun d => ?_, h.key, h.proximity, h.reference⟩
  change CountsInRange ((p.setChannel c x).channel d)
  rw [setChannel_channel]
  split
  · exact hx
  · exact h.counts d

@[simp] theorem senseSound_wake (h : SenseSound p.sfe) : SenseSound p.wake.sfe := by
  unfold wake
  split
  · have hmap : SenseSound ((p.changePower .waking).withPwu
        { p.pwu with power := .waking, settle := 0, quiet := 0 }).wakeChannels.sfe := by
      refine senseSound_mapTable (by simpa using h) fun c y hy => ?_
      split <;> exact hy
    simpa using hmap
  · exact h

@[simp] theorem senseSound_preWake (h : SenseSound p.sfe) : SenseSound p.preWake.sfe := by
  unfold preWake
  split
  · exact senseSound_wake h
  · exact h

/-- Of all reports, a proximity channel's change to active alone reaches SFE, by the wake that it may cause (R201). -/
theorem senseSound_report (h : SenseSound p.sfe) (c : ChannelId) (o : Sensed) (cause : ReportCause) :
    SenseSound (p.report c o cause).sfe := by
  unfold report
  split
  · simpa using h
  · dsimp only
    split
    · exact senseSound_wake (by simpa using h)
    · simpa using h
  · exact h

theorem senseSound_sendOut (h : SenseSound p.sfe) (c : ChannelId) (out : List SfeOut) :
    SenseSound (p.sendOut c out).sfe := by
  refine senseSound_foldl (fun q o hq => ?_) out h
  cases o with
  | report s cause => exact senseSound_report hq c s cause
  | notice m => simpa [sendOne] using hq

theorem senseSound_putChannel (h : SenseSound p.sfe) (c : ChannelId) {r : ChanResult} (hr : CountsInRange r.1) :
    SenseSound (p.putChannel c r).sfe :=
  senseSound_sendOut (senseSound_setChannel h c hr) c r.2

/-! ### The sensing frame and the single events of a channel -/

theorem senseSound_channelFrame (h : SenseSound p.sfe) (standby : Bool) (change : Int) (readings : List Nat)
    (c : ChannelId) : SenseSound (channelFrame standby change readings p c).sfe := by
  unfold channelFrame
  split
  · exact senseSound_putChannel h c (updateChannel_countsInRange (h.counts c) _ _ _ _ _)
  · exact h

theorem senseSound_sensingFrame (h : SenseSound p.sfe) (readings : List Nat) (first : List ChannelId)
    (timersFirst : Bool) : SenseSound (p.sensingFrame readings first timersFirst).sfe := by
  have href : ∀ beta, SenseSound
      (p.putChannel 40 (updateReference p.sfe.reference beta (p.channel 40) (readings.getD 40 0)).1).sfe :=
    fun beta => senseSound_putChannel h 40 (updateReference_countsInRange (h.counts 40) _ beta _)
  have hrun : ∀ (standby : Bool) (change : Int) (l : List ChannelId) {q : Part}, SenseSound q.sfe →
      SenseSound (l.foldl (channelFrame standby change readings) q).sfe :=
    fun standby change l _ => senseSound_foldl (fun _ c hs => senseSound_channelFrame hs standby change readings c) l
  cases timersFirst
  · simpa [sensingFrame] using hrun _ _ _ (href _)
  · simpa [sensingFrame] using hrun _ _ _ (by simpa using href _)

theorem senseSound_haltReseed (h : SenseSound p.sfe) (c : ChannelId) : SenseSound (p.haltReseed c).sfe := by
  simp only [haltReseed]
  split
  · exact senseSound_putChannel h c (reseed_countsInRange (h.counts c) _)
  · exact h

theorem senseSound_bandRetune (h : SenseSound p.sfe) (c : ChannelId) : SenseSound (p.bandRetune c).sfe := by
  simp only [bandRetune]
  split
  · exact senseSound_setChannel h c (startRetune_countsInRange (h.counts c))
  · exact h

theorem senseSound_retuneDone (h : SenseSound p.sfe) (c : ChannelId) : SenseSound (p.retuneDone c).sfe := by
  simp only [retuneDone]
  split
  · rw [(startUpTest_frame _).1]
    exact senseSound_putChannel h c (completeRetune_countsInRange (h.counts c) _)
  · exact h

/-! ### The requests that reach SFE: RETUNE and PROFILE SET -/

theorem senseSound_retuneChannel (h : SenseSound p.sfe) (force : Bool) (c : ChannelId) :
    SenseSound (retuneChannel force p c).sfe := by
  have hc : CountsInRange (p.channel c) := h.counts c
  simp only [retuneChannel]
  split
  · exact h
  · exact senseSound_setChannel h c (restartRetune_countsInRange hc)
  · exact senseSound_setChannel h c (startRetune_countsInRange hc)
  · exact senseSound_setChannel h c (startRetune_countsInRange hc)
  · refine senseSound_setChannel h c ?_
    split
    · exact startRetune_countsInRange hc
    · exact hc

@[simp] theorem senseSound_retuneRequest (h : SenseSound p.sfe) (scope force : Nat) :
    SenseSound (p.retuneRequest scope force).1.sfe := by
  simp only [retuneRequest]
  split
  · split
    · exact h
    · exact senseSound_foldl (fun _ c hq => senseSound_retuneChannel hq _ c) _ h
  · exact h

theorem senseSound_directionReseed (h : SenseSound p.sfe) (c : ChannelId) : SenseSound (p.directionReseed c).sfe := by
  have hc : CountsInRange { p.channel c with bandCount := 0 } := h.counts c
  simp only [directionReseed]
  split
  · exact senseSound_putChannel h c (reseed_countsInRange hc _)
  · exact h

theorem senseSound_putProfile (h : SenseSound p.sfe) (k : ProfileKind) {x : Profile} (hx : x.threshold ≤ 255) :
    SenseSound (p.putProfile k x).sfe := by
  cases k with
  | key => exact { h with key := hx }
  | proximity => exact { h with proximity := hx }
  | reference => exact { h with reference := hx }

theorem senseSound_setProfile (h : SenseSound p.sfe) (k : ProfileKind) {x : Profile} (hx : x.threshold ≤ 255) :
    SenseSound (p.setProfile k x).sfe := by
  have hq := senseSound_putProfile h k hx
  have hcleared := senseSound_mapTable (f := fun c y => if kindOf c = k then { y with bandCount := 0 } else y) hq
    fun c y hy => by split <;> exact hy
  have hfold : ∀ (l : List ChannelId) {q : Part}, SenseSound q.sfe → SenseSound (l.foldl directionReseed q).sfe :=
    fun l _ => senseSound_foldl (fun _ c hr => senseSound_directionReseed hr c) l
  simp only [setProfile]
  split <;> split
  · exact hfold _ hcleared
  · exact hfold _ hq
  · exact hcleared
  · exact hq

/-- PROFILE SET clamps the threshold value to 1 to 255 (R18). -/
theorem requestProfile_threshold_le {l : List Byte} {x : Profile} (h : requestProfile l = some x) :
    x.threshold ≤ 255 := by
  simp only [requestProfile, Option.bind_eq_bind, Option.bind_eq_some_iff] at h
  obtain ⟨direction, -, sign, -, h⟩ := h
  split at h
  · simp at h
  · obtain rfl := by simpa using h
    exact clamp_le (by decide) _

@[simp] theorem senseSound_profileRequest (h : SenseSound p.sfe) (l : List Byte) :
    SenseSound (p.profileRequest l).1.sfe := by
  simp only [profileRequest]
  split
  · exact h
  · split
    next k x _ hx => exact senseSound_setProfile h k (requestProfile_threshold_le hx)
    next => exact h

/-! ### Sources, which may wake the part -/

theorem senseSound_handSource (h : SenseSound p.sfe) (k : SocketId) (old new : Socket) :
    SenseSound (p.handSource k old new).sfe := by
  simp only [handSource]
  split
  · exact h
  · split
    · split
      · exact senseSound_wake (by simpa [clearQuiet] using h)
      · simpa [clearQuiet] using h
    · simpa using h

@[simp] theorem senseSound_putSocket (h : SenseSound p.sfe) (k : SocketId) (x : Socket) :
    SenseSound (p.putSocket k x).sfe :=
  senseSound_handSource (by simpa using h) k _ x

@[simp] theorem senseSound_overflow (h : SenseSound p.sfe) (k : SocketId) : SenseSound (p.overflow k).sfe := by
  unfold overflow
  split
  · exact senseSound_putSocket h k _
  · exact h

theorem senseSound_overflows (k : SocketId) (n : Nat) (h : SenseSound p.sfe) : SenseSound (overflows k n p).sfe := by
  induction n generalizing p with
  | zero => exact h
  | succ n ih => exact ih (senseSound_overflow h k)

theorem senseSound_passTicks (h : SenseSound p.sfe) (k : SocketId) (ticks : Nat) (last : Bool) :
    SenseSound (p.passTicks k ticks last).sfe :=
  senseSound_overflows k _ h

theorem senseSound_captureTick (h : SenseSound p.sfe) : SenseSound p.captureTick.sfe := by
  refine senseSound_foldl (fun q k hq => ?_) _ h
  unfold tickSocket
  split
  · exact senseSound_passTicks hq k _ _
  · exact hq

theorem senseSound_edgeActs (h : SenseSound p.sfe) (k : SocketId) (isActive : Bool) :
    SenseSound (p.edgeActs k isActive).sfe := by
  simp only [edgeActs]
  split
  · exact h
  · exact h
  · exact senseSound_putSocket h k _
  · exact h

theorem senseSound_lateOverflow (h : SenseSound p.sfe) (k : SocketId) : SenseSound (p.lateOverflow k).sfe := by
  unfold lateOverflow
  split
  · exact senseSound_overflow h k
  · exact h

theorem senseSound_takeEdge (h : SenseSound p.sfe) (k : SocketId) (e : Edge) (ticks levelHeld : Nat)
    (overflowFirst : Bool) : SenseSound (p.takeEdge k e ticks levelHeld overflowFirst).sfe := by
  have hq := senseSound_passTicks h k ticks overflowFirst
  simp only [takeEdge]
  split
  · split
    · exact senseSound_lateOverflow (senseSound_edgeActs (by simpa using hq) k _) k
    · exact senseSound_lateOverflow (by simpa using hq) k
  · exact h

@[simp] theorem senseSound_captureRequest (h : SenseSound p.sfe) (l : List Byte) :
    SenseSound (p.captureRequest l).1.sfe := by
  simp only [captureRequest, setCapture]
  (repeat' split) <;> simp [h]

/-! ### Standby -/

@[simp] theorem senseSound_standbyEntry (h : SenseSound p.sfe) : SenseSound p.standbyEntry.sfe := by
  have hkey : ∀ (q : Part) (s : SeatId), SenseSound q.sfe → SenseSound (q.standbyKey s).sfe :=
    fun q s hq => senseSound_putChannel hq _ (standbyChannel_countsInRange (hq.counts _))
  have hsocket : ∀ (q : Part) (k : SocketId), SenseSound q.sfe → SenseSound (q.standbySocket k).sfe := by
    intro q k hq
    unfold standbySocket
    split
    · exact hq
    · exact senseSound_putSocket hq k _
  simp only [standbyEntry, setOverride_frame]
  refine senseSound_foldl hsocket _ ?_
  rw [(standbySlots_frame _).1]
  exact senseSound_foldl hkey _ (by simpa using h)

@[simp] theorem senseSound_standbyTest (h : SenseSound p.sfe) : SenseSound p.standbyTest.sfe := by
  unfold standbyTest
  split
  · exact senseSound_standbyEntry h
  · exact h

theorem senseSound_powerSecond (h : SenseSound p.sfe) (minute : Bool) : SenseSound (p.powerSecond minute).sfe := by
  refine senseSound_standbyTest ?_
  split
  · exact senseSound_preWake (by simpa using h)
  · simpa using h

@[simp] theorem senseSound_standbyEnter (h : SenseSound p.sfe) : SenseSound p.standbyEnter.1.sfe := by
  unfold standbyEnter
  split
  · exact h
  · exact senseSound_standbyEntry h

/-! ### The clock and the banks, whose opening test may wake the part -/

@[simp] theorem senseSound_openingTest (h : SenseSound p.sfe) : SenseSound p.openingTest.sfe := by
  unfold openingTest
  (repeat' split) <;> simp [h]

@[simp] theorem senseSound_swap (h : SenseSound p.sfe) : SenseSound p.swap.sfe := by
  simp [swap, h]

theorem senseSound_secondFor (h : SenseSound p.sfe) (before : Part) (minute : Bool) (u : ClockUser) :
    SenseSound (secondFor before minute p u).sfe := by
  cases u with
  | flc => simpa [secondFor] using h
  | smn => simpa [secondFor] using h
  | ssu => cases minute <;> simp [secondFor, sessionMinute, h]
  | pwu => exact senseSound_powerSecond h minute

theorem senseSound_midnight (h : SenseSound p.sfe) : SenseSound p.midnight.sfe := by
  unfold midnight
  split <;> simp [h]

theorem senseSound_secondEvent (h : SenseSound p.sfe) (first : List ClockUser) :
    SenseSound (p.secondEvent first).sfe := by
  refine senseSound_foldl (fun _ u hq => senseSound_secondFor hq p _ u) _ ?_
  split
  · refine senseSound_midnight ?_
    split <;> simpa using h
  · split <;> simpa using h

@[simp] theorem senseSound_clockSet (h : SenseSound p.sfe) (day minute second : Nat) :
    SenseSound (p.clockSet day minute second).1.sfe := by
  simp only [clockSet, sessionJump]
  (repeat' split) <;> simp [h]

@[simp] theorem senseSound_bankPublish (h : SenseSound p.sfe) : SenseSound p.bankPublish.1.sfe := by
  simp only [bankPublish]
  (repeat' split) <;> simp [h]

theorem senseSound_checkCompletion (h : SenseSound p.sfe) : SenseSound p.checkCompletion.sfe := by
  simp only [checkCompletion]
  (repeat' split) <;> simp [h]

/-! ### Start-up -/

theorem storedProfile_threshold_le (img : List Byte) (i : Nat) (default : Profile) :
    (storedProfile img i default).1.threshold ≤ 255 :=
  clamp_le (by decide) _

/-- R8 clamps the threshold values of an image to 1 to 255. -/
theorem readSettings_threshold_le (straps : StrapPins) (img : List Byte) :
    (readSettings straps img).1.key.threshold ≤ 255 ∧ (readSettings straps img).1.proximity.threshold ≤ 255 ∧
      (readSettings straps img).1.reference.threshold ≤ 255 := by
  simp only [readSettings, storedProfile_threshold_le, and_self]

/-- The handing out leaves every channel but its enable mark, and takes the profiles of the settings (R10). -/
theorem handOut_sfe (p : Part) (s : Settings) :
    (p.handOut s).sfe =
      { channels := mapTable (fun c (x : Channel) => { x with enabled := s.enables.get c }) p.sfe.channels
        key := s.key, proximity := s.proximity, reference := s.reference, frame := s.frame } := by
  simp only [handOut, applyPreset_frame, applyFloorPreset_frame]

theorem senseSound_startUpRetunes (h : SenseSound p.sfe) : SenseSound p.startUpRetunes.sfe := by
  refine senseSound_mapTable h fun c y hy => ?_
  split
  · exact startRetune_countsInRange hy
  · exact hy

theorem senseSound_handOut (h : SenseSound p.sfe) {s : Settings}
    (hs : s.key.threshold ≤ 255 ∧ s.proximity.threshold ≤ 255 ∧ s.reference.threshold ≤ 255) :
    SenseSound (p.handOut s).sfe := by
  obtain ⟨hkey, hproximity, hreference⟩ := hs
  rw [handOut_sfe]
  refine ⟨fun c => ?_, hkey, hproximity, hreference⟩
  rw [get_mapTable]
  exact h.counts c

theorem senseSound_loadEnd (h : SenseSound p.sfe) (e : EepromRead) : SenseSound (p.loadEnd e).sfe := by
  have hload : ∀ {q : Part} (img : List Byte), SenseSound q.sfe →
      SenseSound (q.handOut (readSettings p.pln.straps img).1).startUpRetunes.sfe :=
    fun img hq => senseSound_startUpRetunes (senseSound_handOut hq (readSettings_threshold_le _ img))
  unfold loadEnd
  split
  · split
    next img _ =>
      refine hload img ?_
      split <;> simpa using h
    next => exact hload _ (by simpa using h)
  · exact h

theorem atReset_sfe (straps : StrapPins) (stage : Stage) : (atReset straps stage).sfe =
    ⟨Vector.replicate 41 Channel.reset, Profile.key, Profile.proximity, Profile.reference, 10⟩ := rfl

theorem senseSound_start (straps : StrapPins) (stage : Stage) : SenseSound (start straps stage).sfe := by
  have hcounts : ∀ c, CountsInRange ((Vector.replicate 41 Channel.reset).get c) := fun c => by
    rw [Vector.get_eq_getElem, Vector.getElem_replicate]
    exact ⟨Nat.zero_le _, Nat.zero_le _, Nat.zero_le _, fun _ hb => absurd hb (Option.not_mem_none _)⟩
  rw [start, (drivePins_frame _).1, atReset_sfe]
  exact ⟨hcounts, by decide, by decide, by decide⟩

theorem senseSound_holdReset (h : SenseSound p.sfe) : SenseSound p.holdReset.sfe := by
  unfold holdReset
  split
  · exact h
  · exact senseSound_start _ _

theorem senseSound_leaveReset (h : SenseSound p.sfe) (pins : StrapPins) : SenseSound (p.leaveReset pins).sfe := by
  unfold leaveReset
  split
  · exact h
  · exact senseSound_start _ _

/-! ### The ports -/

theorem senseSound_serveRoom (h : SenseSound p.sfe) (r : Request) : SenseSound (p.serveRoom r).1.sfe := by
  simp only [serveRoom]
  split <;> simp [plain, h]

theorem senseSound_serveAv (h : SenseSound p.sfe) (r : Request) : SenseSound (p.serveAv r).1.sfe := by
  simp only [serveAv]
  split <;> simp [h]

theorem senseSound_serveOwner (h : SenseSound p.sfe) (q : Port) (r : Request) :
    SenseSound (p.serveOwner q r).1.sfe := by
  unfold serveOwner
  split
  · simpa using h
  · split
    · simpa using h
    · split
      · exact senseSound_serveRoom h r
      · exact senseSound_serveAv h r

theorem senseSound_serveCurrent (h : SenseSound p.sfe) (q : Port) : SenseSound (p.serveCurrent q).sfe := by
  unfold serveCurrent
  split
  · simpa using senseSound_serveOwner (senseSound_wake h) q _
  · exact h

theorem senseSound_takeRequest (h : SenseSound p.sfe) (q : Port) (r : Request) :
    SenseSound (p.takeRequest q r).sfe := by
  unfold takeRequest
  split
  · simpa using senseSound_wake h
  · split
    · exact h
    · split
      · exact senseSound_serveCurrent (senseSound_serveCurrent (by simpa using senseSound_wake h) q) q
      · simpa using h

theorem senseSound_requestRow (h : SenseSound p.sfe) (q : Port) (r : Request) : SenseSound (p.requestRow q r).sfe := by
  have hx : SenseSound (p.clearSent q).sfe := by simpa using h
  have hy := senseSound_takeRequest hx q r
  simp only [requestRow]
  split
  · exact senseSound_serveCurrent hx q
  · split
    · exact senseSound_serveCurrent hy q
    · exact hy

theorem senseSound_requestTransfer (h : SenseSound p.sfe) (q : SerialPort) (bytes : List Byte) :
    SenseSound (p.requestTransfer q bytes).sfe := by
  unfold requestTransfer
  split
  · simpa using h
  · unfold transfer
    split
    · exact senseSound_takeRequest (by simpa using h) _ _
    · simpa using h

theorem senseSound_roomByte (h : SenseSound p.sfe) (b : Byte) : SenseSound (p.roomByte b).sfe := by
  simp only [roomByte]
  split
  · exact senseSound_takeRequest (by simpa using h) _ _
  · simpa using h

theorem senseSound_roomBytes (h : SenseSound p.sfe) (l : List Byte) : SenseSound (p.roomBytes l).sfe :=
  senseSound_foldl (fun _ b hq => senseSound_roomByte hq b) l h

end

end Part

/-! ### Steps -/

theorem onPart_senseSound {s t : State} {f : Part → Part} (ht : s.onPart f = .next t) (hf : SenseSound (f s.part).sfe) :
    SenseSound t.part.sfe := by
  obtain rfl := Host.Outcome.next.inj ht
  exact hf

/-- An event keeps the invariant when what it does to the part keeps it: its conclusion leaves SFE as it is. -/
theorem onEvent_senseSound {s t : State} {f : Part → Part} (ht : s.onEvent f = .next t)
    (h : SenseSound s.part.sfe) (hf : SenseSound (f s.part).sfe) : SenseSound t.part.sfe := by
  refine onPart_senseSound ht ?_
  unfold Part.event
  split
  · exact h
  · simpa using hf

/-- The commands that are no request row stand by name; each of the others is a request taken or served on a port. -/
theorem exec_senseSound {i : Instr} {s t : State} (h : SenseSound s.part.sfe) (ht : exec i s = .next t) :
    SenseSound t.part.sfe := by
  cases i with
  | powerOnResetRelease pins => exact onPart_senseSound (f := fun _ => Part.start pins .loading) ht (Part.senseSound_start _ _)
  | powerOnResetAssert =>
    exact onPart_senseSound (f := fun p => Part.start p.pln.straps .unpowered) ht (Part.senseSound_start _ _)
  | resetPinAssert => exact onPart_senseSound ht (Part.senseSound_holdReset h)
  | resetPinRelease pins => exact onPart_senseSound (f := fun p => p.leaveReset pins) ht (Part.senseSound_leaveReset h pins)
  | loadEnd e => exact onEvent_senseSound ht h (Part.senseSound_loadEnd h e)
  | saveReadBackMatch => exact onEvent_senseSound ht h (by simpa using h)
  | saveWriteFailure => exact onEvent_senseSound ht h (by simpa using h)
  | sensingFrame readings first timersFirst => exact onEvent_senseSound ht h (Part.senseSound_sensingFrame h _ _ _)
  | haltLimitReseed c => exact onEvent_senseSound ht h (Part.senseSound_haltReseed h c)
  | bandCheckRetuneStart c => exact onEvent_senseSound ht h (Part.senseSound_bandRetune h c)
  | retuneCompletion c => exact onEvent_senseSound ht h (Part.senseSound_retuneDone h c)
  | absenceGraceExpiry seat => exact onEvent_senseSound ht h (by simpa using h)
  | chairNext => exact onEvent_senseSound ht h (by simpa using h)
  | gainFrame first settlesLast => exact onEvent_senseSound ht h (by simpa using h)
  | refusedTimerExpiry seat => exact onEvent_senseSound ht h h
  | edgeTaken k e ticks levelHeld overflowFirst =>
    exact onEvent_senseSound ht h (Part.senseSound_takeEdge h k e ticks levelHeld overflowFirst)
  | captureOverflow k => exact onEvent_senseSound ht h (Part.senseSound_overflow h k)
  | settleEnd k => exact onEvent_senseSound ht h (by simpa using h)
  | secondEvent first => exact onEvent_senseSound ht h (Part.senseSound_secondEvent h first)
  | checkCompletion => exact onEvent_senseSound ht h (Part.senseSound_checkCompletion h)
  | awaitWindowExpiry => exact onEvent_senseSound ht h (by simpa using h)
  | vacancyTimeout => exact onEvent_senseSound ht h (by simpa using h)
  | walkInDwellExpiry => exact onEvent_senseSound ht h (by simpa using h)
  | quietTimerExpiry => exact onEvent_senseSound ht h (Part.senseSound_standbyTest h)
  | settleComplete => exact onEvent_senseSound ht h (by simpa using h)
  | requestTransfer q bytes => exact onEvent_senseSound ht h (Part.senseSound_requestTransfer h q bytes)
  | responseRead q count => exact onEvent_senseSound ht h (by simpa using h)
  | roomLinkFrame bytes => exact onEvent_senseSound ht h (Part.senseSound_roomBytes (by simpa using h) bytes)
  | roomLinkLengthAbove64 length => exact onEvent_senseSound ht h (Part.senseSound_roomByte (by simpa using h) length)
  | roomLinkGapTimeout => exact onEvent_senseSound ht h (by simpa using h)
  | roomLinkFramingError => exact onEvent_senseSound ht h (by simpa using h)
  | requestEntersService q => exact onEvent_senseSound ht h (by simpa using h)
  | _ => exact onEvent_senseSound ht h (Part.senseSound_requestRow h _ _)

/-- With nothing waiting the step is a capture tick; otherwise it is the front command's. -/
theorem step_senseSound {s t : State} (h : SenseSound s.part.sfe) (ht : step s = .next t) : SenseSound t.part.sfe := by
  unfold step at ht
  split at ht
  next => exact onEvent_senseSound ht h (Part.senseSound_captureTick h)
  next c rest _ => exact exec_senseSound (s := ⟨s.part, rest⟩) h ht

/-- Settles O59: the ranges are SFE's part of an invariant that every step keeps, and stage 4 takes at most 255/256 of the
average. -/
theorem countsStayInRange : Obligations.CountsStayInRange := by
  unfold Obligations.CountsStayInRange
  constructor
  · intro s t h ht
    exact (Part.senseSound_iff t.part).mp (step_senseSound ((Part.senseSound_iff s.part).mpr h) ht)
  · intro c s h
    exact takeLevels_level_le (h _) _

end Sys2Proof.Machine
end

section
/-! What a request comes to on a port that listens: the answer stands in the port's record, and of the pieces of the state
the event leaves what the owner leaves. -/

namespace Sys2Proof.Machine

/-! ### Frames -/

theorem Completes.mono {c : Instr} {s : State} {post post' : Part → Prop} (h : Completes c s post)
    (himp : ∀ t, post t → post' t) : Completes c s post' := by
  obtain ⟨t, hexec, hpending, hpost⟩ := h
  exact ⟨t, hexec, hpending, himp _ hpost⟩

theorem Piece.Same.trans {b : Piece} {p t u : Part} (h : b.Same p t) (h' : b.Same t u) : b.Same p u := by
  cases b <;> simp_all [Piece.Same]

namespace SameBut

variable {bs cs : List Piece} {p t u : Part}

theorem refl (bs : List Piece) (p : Part) : SameBut bs p p := by
  intro b _
  cases b <;> simp [Piece.Same]

theorem trans (h : SameBut bs p t) (h' : SameBut bs t u) : SameBut bs p u :=
  fun b hb => (h b hb).trans (h' b hb)

theorem mono (h : SameBut bs p t) (hsub : bs ⊆ cs) : SameBut cs p t := fun b hb => h b fun hmem => hb (hsub hmem)

end SameBut

namespace Part

/-! ### The frames of what serves and ends a request -/

theorem sameBut_taken (p : Part) (q : Port) (r : Request) : SameBut [.requests q] p (p.taken q r) := by
  intro b hb
  cases b with
  | requests a => simp_all [Piece.Same, taken, setPort_line]
  | _ => simp [Piece.Same]

theorem sameBut_replied (p : Part) (q : Port) (r : Response) : SameBut [.requests q] p (p.replied q r) := by
  intro b hb
  cases b with
  | requests a => cases q <;> simp_all [Piece.Same, replied, deliver, sendRoom, setPort_line]
  | _ => simp [Piece.Same]

theorem sameBut_drivePins (p : Part) : SameBut [] p p.drivePins := by
  intro b _
  cases b <;> simp [Piece.Same]

theorem sameBut_concludeRouting (before p : Part) : SameBut [.screens, .notices] p (concludeRouting before p) := by
  intro b hb
  cases b <;> simp_all [Piece.Same]

/-- An event that leaves SSU, the occupied count and RTU ends with the indication and the outputs alone. -/
theorem sameBut_conclude_settled {p t : Part} (h : Settled p) (hssu : t.ssu = p.ssu)
    (hocc : t.smn.occupied = p.smn.occupied) (hrtu : t.rtu = p.rtu) : SameBut [] t (conclude p t) := by
  rw [conclude_settled h hssu hocc hrtu]
  exact sameBut_drivePins t

/-- An event that leaves SSU and the occupied count ends with the drive of the screens and its notice besides. -/
theorem sameBut_conclude_quiet {p t : Part} (h : Settled p) (hssu : t.ssu = p.ssu)
    (hocc : t.smn.occupied = p.smn.occupied) : SameBut [.screens, .notices] t (conclude p t) := by
  rw [conclude_quiet h hssu hocc]
  exact (sameBut_concludeRouting p t).trans ((sameBut_drivePins _).mono (List.nil_subset _))

/-! ### What the taking of a request leaves to be asked -/

@[simp] theorem taken_slot (p : Part) (q : Port) (r : Request) (k : SlotId) : (p.taken q r).slot k = p.slot k := rfl

@[simp] theorem taken_slotOf (p : Part) (q : Port) (r : Request) (i : SeatId) : (p.taken q r).slotOf i = p.slotOf i := rfl

@[simp] theorem taken_isQueued (p : Part) (q : Port) (r : Request) (i : SeatId) :
    (p.taken q r).isQueued i = p.isQueued i := rfl

/-! ### The answer -/

/-- Whether a port has answered is read from its requests and responses alone. -/
theorem answered_of_line {p t : Part} {q : Port} {tag : Byte} {st : Status} {frames : List (List Byte)}
    (h : t.line q = p.line q) (ha : Answered p q tag st frames) : Answered t q tag st frames := by
  cases q <;> simp_all [line, Answered]

/-- An owner that leaves the ports as the taking left them has its reply given as the answer. -/
theorem answered_replied {p x : Part} {q : Port} {r : Request} {tag : Byte} {st : Status} {frames : List (List Byte)}
    (h : x.line = (p.taken q r).line) : Answered (x.replied q ⟨tag, st, frames⟩) q tag st frames := by
  have hq : (x.port q).sent = [] := by
    have hline := congrFun h q
    simp only [line, taken_port, Prod.mk.injEq] at hline
    tauto
  cases q <;> simp [Answered, replied, deliver, sendRoom, hq]

/-- A request that a right, a length and the stage let through fails no check (R186). -/
theorem checkRequest_running {p : Part} {q : Port} {r : Request} {c : CatalogueRow} (h : p.pln.stage = .running)
    (hrow : catalogueRow r.code = some c) (hright : holds q c.group = true) (hlen : r.length.toNat = c.length)
    (hpay : r.payload.length = r.length.toNat) : p.checkRequest q r = none := by
  simp [checkRequest, stageAnswer, h, hrow, hright, hpay, hlen]

end Part

/-! ### Request rows -/

/-- A request row is one event: the taking and serving of the request that it carries (assumption 2). -/
theorem exec_requestOf {c : Instr} {q : Port} {r : Request} (h : requestOf c = some (q, r)) (s : State) :
    exec c s = s.onEvent fun p => p.requestRow q r := by
  cases c <;> cases h <;> rfl

/-- A request that a listening port takes is answered with the owner's reply. What the owner leaves stands, but for the
port's requests and for what the event's end changes (`es`). -/
theorem completes_request {c : Instr} {q : Port} {r : Request} {s : State} {x : Part} {st : Status} {l : List Byte}
    {es bs : List Piece} (hreq : requestOf c = some (q, r)) (hport : Listening s.part q)
    (hcheck : s.part.checkRequest q r = none) (hcode : r.code ≠ portResetCode)
    (hserve : (s.part.taken q r).serveOwner q r = (x, st, l)) (hline : x.line = (s.part.taken q r).line)
    (hend : ∀ a, SameBut es (x.replied q a) (Part.conclude s.part (x.replied q a)))
    (hx : SameBut bs (s.part.taken q r) x) (hbs : .requests q :: es ⊆ bs) :
    Completes c s fun t =>
      Answered t q r.tag st (framesOf r.code l) ∧ SameBut (.requests q :: es) x t ∧ SameBut bs s.part t := by
  have hrow : s.part.requestRow q r = x.replied q ⟨r.tag, st, framesOf r.code l⟩ := by
    obtain ⟨-, hwaiting, hdrop, hheld⟩ := hport.2
    have hq : x.line q = (s.part.taken q r).line q := congrFun hline q
    simp only [Part.line, Part.taken_port, hwaiting, hdrop, hheld, Prod.mk.injEq] at hq
    obtain ⟨-, hw, -, hd, hh, -⟩ := hq
    rw [Part.requestRow_listening hport hcheck hcode (by rwa [hserve]) (by rwa [hserve]) (by rwa [hserve]), hserve]
  have hown : SameBut (.requests q :: es) x (Part.conclude s.part (x.replied q ⟨r.tag, st, framesOf r.code l⟩)) :=
    ((Part.sameBut_replied x q _).mono (by simp)).trans ((hend _).mono (by simp))
  refine ⟨_, exec_requestOf hreq s, rfl, ?_⟩
  simp only [Part.event_running hport.1.1, hrow]
  exact ⟨Part.answered_of_line (by simp) (Part.answered_replied hline), hown,
    (((Part.sameBut_taken s.part q r).mono (by simp_all)).trans hx).trans (hown.mono hbs)⟩

/-- A request whose owner leaves the part is answered, and nothing but the port's requests changes. -/
theorem completes_unchanged {c : Instr} {q : Port} {r : Request} {s : State} {st : Status} {l : List Byte}
    (hreq : requestOf c = some (q, r)) (hport : Listening s.part q) (hset : Settled s.part)
    (hcheck : s.part.checkRequest q r = none) (hcode : r.code ≠ portResetCode)
    (hserve : (s.part.taken q r).serveOwner q r = (s.part.taken q r, st, l)) :
    Completes c s fun t => Answered t q r.tag st (framesOf r.code l) ∧ SameBut [.requests q] s.part t := by
  have hend (a : Response) : SameBut [] ((s.part.taken q r).replied q a)
      (Part.conclude s.part ((s.part.taken q r).replied q a)) :=
    Part.sameBut_conclude_settled hset (by simp) (by simp) (by simp)
  refine (completes_request hreq hport hcheck hcode hserve rfl hend (SameBut.refl [.requests q] _) (by simp)).mono ?_
  rintro t ⟨hans, -, hbut⟩
  exact ⟨hans, hbut⟩

end Sys2Proof.Machine
end

section
/-! CLOSE, CANCEL and CANCEL ALL (R79, R80). -/

namespace Sys2Proof.Machine

namespace Part

/-! ### The floor's operations -/

/-- What the close of an open slot makes of its record (R69, R94). -/
theorem close_slot {p : Part} {k : SlotId} (h : isOpenState (p.slot k).state = true) (r : SlotReason) :
    (p.close k r).slot k = { p.slot k with state := .closing, reason := some r, target := 0 } := by
  have hreport (q : Part) (x : Slot) : (q.reportLeft x).slot k = q.slot k := by simp [slot]
  have hnotice (q : Part) : (q.notice .floor).slot k = q.slot k := by simp [slot]
  simp only [close, h, if_true, hnotice, closeSlot, hreport]
  simp [slot, retarget, targetOf, isOpenState, setSlot]

theorem close_openOrder {p : Part} {k : SlotId} (h : isOpenState (p.slot k).state = true) (r : SlotReason) :
    (p.close k r).flc.openOrder = p.flc.openOrder.filter (· ≠ k) := by
  simp [close, h]

/-- A close leaves the queue, every counter and every setting (R69, R98). -/
theorem sameBut_close (p : Part) (k : SlotId) (r : SlotReason) :
    SameBut [.slots, .openOrder, .screens, .speakers, .notices] p (p.close k r) := by
  intro b hb
  cases b <;> simp_all [Piece.Same]

@[simp] theorem setQueue_queue (p : Part) (l : List QueueEntry) : (p.setQueue l).flc.queue = l := by
  simp [setQueue]

/-- A queue that does not change raises no notice (R62). -/
theorem setQueue_self (p : Part) : p.setQueue p.flc.queue = p := by
  simp [setQueue, noticeIf]
  rfl

theorem sameBut_setQueue (p : Part) (l : List QueueEntry) : SameBut [.queue, .notices] p (p.setQueue l) := by
  intro b hb
  cases b <;> simp_all [Piece.Same]

/-! ### The holder of a slot and the entry of a seat -/

theorem slotOf_holder {p : Part} {i : SeatId} {k : SlotId} (h : p.slotOf i = some k) : (p.slot k).holder = some i := by
  have hk := List.find?_some h
  simp only [Bool.and_eq_true, decide_eq_true_eq] at hk
  exact hk.2

theorem isQueued_iff {p : Part} {i : SeatId} : p.isQueued i = true ↔ ∃ e ∈ p.flc.queue, e.seat = i := by
  simp [isQueued]

/-! ### The owners' answers -/

theorem closeRequest_open {p : Part} {i : SeatId} {k : SlotId} (h : p.slotOf i = some k)
    (hopen : isOpenState (p.slot k).state = true) : p.closeRequest i = (p.close k .chair, .done) := by
  simp [closeRequest, h, hopen]

theorem closeRequest_state {p : Part} {i : SeatId} (h : ∀ k ∈ p.slotOf i, isOpenState (p.slot k).state = false) :
    p.closeRequest i = (p, .state) := by
  unfold closeRequest
  split
  next k hk => simp [h k hk]
  next => rfl

theorem cancelRequest_queued {p : Part} {i : SeatId} (h : p.isQueued i = true) :
    p.cancelRequest i = (p.setQueue (p.flc.queue.filter fun e => e.seat ≠ i), .done) := by
  simp [cancelRequest, leaveQueue, h]

theorem cancelRequest_absent {p : Part} {i : SeatId} (h : p.isQueued i = false) : p.cancelRequest i = (p, .state) := by
  simp [cancelRequest, h]

theorem seatOfNumber_eq {n : Nat} {i : SeatId} (h : n = i.val + 1) : seatOfNumber n = some i := by
  simp [seatOfNumber, h]

variable {n : Byte} {i : SeatId}

theorem checkRequest_close {p : Part} (h : p.pln.stage = .running) (tag : Byte) :
    p.checkRequest .chair ⟨0x22, tag, 1, [n]⟩ = none :=
  checkRequest_running (c := ⟨0x22, .floor, 1⟩) h rfl rfl rfl rfl

theorem checkRequest_cancel {p : Part} (h : p.pln.stage = .running) (tag : Byte) :
    p.checkRequest .chair ⟨0x23, tag, 1, [n]⟩ = none :=
  checkRequest_running (c := ⟨0x23, .floor, 1⟩) h rfl rfl rfl rfl

theorem checkRequest_cancelAll {p : Part} (h : p.pln.stage = .running) (tag : Byte) :
    p.checkRequest .chair ⟨0x24, tag, 0, []⟩ = none :=
  checkRequest_running (c := ⟨0x24, .floor, 0⟩) h rfl rfl rfl rfl

theorem serveOwner_close (p : Part) (tag : Byte) (h : n.toNat = i.val + 1) :
    p.serveOwner .chair ⟨0x22, tag, 1, [n]⟩ = plain (p.closeRequest i) := by
  simp [serveOwner, serveFloor, onSeat, byteAt, seatOfNumber_eq h]

theorem serveOwner_cancel (p : Part) (tag : Byte) (h : n.toNat = i.val + 1) :
    p.serveOwner .chair ⟨0x23, tag, 1, [n]⟩ = plain (p.cancelRequest i) := by
  simp [serveOwner, serveFloor, onSeat, byteAt, seatOfNumber_eq h]

theorem serveOwner_cancelAll (p : Part) (tag : Byte) :
    p.serveOwner .chair ⟨0x24, tag, 0, []⟩ = plain p.cancelAll := rfl

end Part

/-! ### The rows -/

/-- A row of the chair port whose owner closes an open slot (R69). -/
theorem completes_close {c : Instr} {r : Request} {s : State} {k : SlotId} {m : SlotReason}
    (hreq : requestOf c = some (.chair, r)) (hport : Listening s.part .chair) (hset : Settled s.part)
    (hcheck : s.part.checkRequest .chair r = none) (hcode : r.code ≠ portResetCode)
    (hopen : Part.isOpenState (s.part.slot k).state = true)
    (hserve : (s.part.taken .chair r).serveOwner .chair r = ((s.part.taken .chair r).close k m, .done, [])) :
    Completes c s fun t =>
      Answered t .chair r.tag .done (framesOf r.code []) ∧
        t.slot k = { s.part.slot k with state := .closing, reason := some m, target := 0 } ∧
        t.flc.openOrder = s.part.flc.openOrder.filter (· ≠ k) ∧
        SameBut [.requests .chair, .slots, .openOrder, .screens, .speakers, .notices] s.part t := by
  have hend (a : Response) : SameBut [.screens, .notices] (((s.part.taken .chair r).close k m).replied .chair a)
      (Part.conclude s.part (((s.part.taken .chair r).close k m).replied .chair a)) :=
    Part.sameBut_conclude_quiet hset (by simp) (by simp)
  refine (completes_request hreq hport hcheck hcode hserve (by simp) hend
    ((Part.sameBut_close _ k m).mono (List.subset_cons_self (.requests .chair) _)) (by decide)).mono ?_
  rintro t ⟨hans, hown, hbut⟩
  have hslots : t.sgu.slots = ((s.part.taken .chair r).close k m).sgu.slots := hown .slots (by decide)
  have horder : t.flc.openOrder = ((s.part.taken .chair r).close k m).flc.openOrder := hown .openOrder (by decide)
  refine ⟨hans, ?_, ?_, hbut⟩
  · calc t.slot k
      _ = ((s.part.taken .chair r).close k m).slot k := congrArg (·.get k) hslots
      _ = _ := by rw [Part.close_slot (by simpa using hopen), Part.taken_slot]
  · rw [horder, Part.close_openOrder (by simpa using hopen)]
    simp

/-- A row of the chair port whose owner replaces the queue (R62). -/
theorem completes_setQueue {c : Instr} {r : Request} {s : State} {l : List QueueEntry}
    (hreq : requestOf c = some (.chair, r)) (hport : Listening s.part .chair) (hset : Settled s.part)
    (hcheck : s.part.checkRequest .chair r = none) (hcode : r.code ≠ portResetCode)
    (hserve : (s.part.taken .chair r).serveOwner .chair r = ((s.part.taken .chair r).setQueue l, .done, [])) :
    Completes c s fun t =>
      Answered t .chair r.tag .done (framesOf r.code []) ∧ t.flc.queue = l ∧
        SameBut [.requests .chair, .queue, .notices] s.part t ∧
        (s.part.flc.queue = l → SameBut [.requests .chair] s.part t) := by
  have hend (a : Response) : SameBut [] (((s.part.taken .chair r).setQueue l).replied .chair a)
      (Part.conclude s.part (((s.part.taken .chair r).setQueue l).replied .chair a)) :=
    Part.sameBut_conclude_settled hset (by simp) (by simp) (by simp)
  refine (completes_request hreq hport hcheck hcode hserve (by simp) hend
    ((Part.sameBut_setQueue _ l).mono (List.subset_cons_self (.requests .chair) _)) (by decide)).mono ?_
  rintro t ⟨hans, hown, hbut⟩
  refine ⟨hans, Eq.trans (hown .queue (by decide)) (Part.setQueue_queue _ l), hbut, ?_⟩
  rintro rfl
  have hsame : (s.part.taken .chair r).setQueue s.part.flc.queue = s.part.taken .chair r :=
    Part.setQueue_self (s.part.taken .chair r)
  rw [hsame] at hown
  exact (Part.sameBut_taken s.part .chair r).trans hown

/-- Settles O39: the slot closes by the operation that every close goes through, or the part is left as it is. -/
theorem closeRequests : Obligations.CloseRequests := by
  unfold Obligations.CloseRequests
  intro tag n i s hport hset hn
  have hrunning : s.part.pln.stage = .running := hport.1.1
  have hcheck := Part.checkRequest_close (n := n) hrunning tag
  constructor
  · intro k hk hopen
    refine (completes_close (m := .chair) rfl hport hset hcheck (by simp [portResetCode]) hopen ?_).mono ?_
    · rw [Part.serveOwner_close _ tag hn, Part.closeRequest_open (by simpa using hk) (by simpa using hopen)]
      rfl
    · rintro t ⟨hans, hslot, horder, hbut⟩
      rw [hslot]
      exact ⟨hans, rfl, rfl, Part.slotOf_holder hk, rfl, rfl, horder, hbut⟩
  · intro hclosed
    refine completes_unchanged rfl hport hset hcheck (by simp [portResetCode]) ?_
    rw [Part.serveOwner_close _ tag hn, Part.closeRequest_state (by simpa using hclosed)]
    rfl

/-- Settles O40: each of the two requests replaces the queue and does no more, or the part is left as it is. -/
theorem cancelRequests : Obligations.CancelRequests := by
  unfold Obligations.CancelRequests
  intro tag n i s hport hset hn
  have hrunning : s.part.pln.stage = .running := hport.1.1
  have hcheck := Part.checkRequest_cancel (n := n) hrunning tag
  refine ⟨?_, ?_, ?_⟩
  · intro hqueued
    refine (completes_setQueue (l := s.part.flc.queue.filter fun e => e.seat ≠ i) rfl hport hset hcheck
      (by simp [portResetCode]) ?_).mono fun t ⟨hans, hqueue, hbut, _⟩ => ⟨hans, hqueue, hbut⟩
    rw [Part.serveOwner_cancel _ tag hn, Part.cancelRequest_queued (by simpa using Part.isQueued_iff.mpr hqueued)]
    rfl
  · intro habsent
    have hqueued : s.part.isQueued i = false := by simpa [Part.isQueued] using habsent
    refine completes_unchanged rfl hport hset hcheck (by simp [portResetCode]) ?_
    rw [Part.serveOwner_cancel _ tag hn, Part.cancelRequest_absent (by simpa using hqueued)]
    rfl
  · exact completes_setQueue rfl hport hset (Part.checkRequest_cancelAll hrunning tag) (by simp [portResetCode])
      (Part.serveOwner_cancelAll _ tag)

end Sys2Proof.Machine
end

section
/-! BANK ABANDON (R154). -/

namespace Sys2Proof.Machine

namespace Part

variable {p t : Part}

/-! ### The banks by their roles -/

/-- The two banks and their roles say which one is published. -/
theorem published_of_banks (h : Piece.banks.Same p t) : t.published = p.published := by
  obtain ⟨hA, hB⟩ := h
  simp [published, publishedIsA, hA, hB]

theorem staging_of_banks (h : Piece.banks.Same p t) : t.staging = p.staging := by
  obtain ⟨hA, hB⟩ := h
  simp [staging, publishedIsA, hA, hB]

@[simp] theorem taken_staging (p : Part) (q : Port) (r : Request) : (p.taken q r).staging = p.staging := rfl

@[simp] theorem taken_published (p : Part) (q : Port) (r : Request) : (p.taken q r).published = p.published := rfl

/-- A write to the staging bank that keeps its role leaves the roles of the two banks (R150). -/
theorem setStaging_publishedIsA {b : Bank} (h : b.role = .staging) :
    (p.setStaging b).publishedIsA = p.publishedIsA := by
  by_cases hA : p.publishedIsA = true
  · rw [setStaging, if_pos hA]
    rfl
  · rw [setStaging, if_neg hA]
    simp_all [publishedIsA]

theorem setStaging_staging {b : Bank} (h : b.role = .staging) : (p.setStaging b).staging = b := by
  rw [staging, setStaging_publishedIsA h]
  cases hA : p.publishedIsA <;> simp [setStaging, hA]

theorem setStaging_published {b : Bank} (h : b.role = .staging) : (p.setStaging b).published = p.published := by
  rw [published, setStaging_publishedIsA h]
  cases hA : p.publishedIsA <;> simp [setStaging, published, hA]

theorem setStaging_self (p : Part) : p.setStaging p.staging = p := by
  cases hA : p.publishedIsA <;> simp only [setStaging, staging, hA] <;> rfl

/-- Of two banks with different roles, the one that is not published is the staging bank (R150). -/
theorem staging_role (h : BanksSound p) : p.staging.role = .staging := by
  obtain ⟨hroles, -, -⟩ := h
  cases hA : p.sch.bankA.role <;> cases hB : p.sch.bankB.role <;> simp_all [staging, publishedIsA]

theorem bankSound_staging (h : BanksSound p) : BankSound p.staging := by
  obtain ⟨-, hA, hB⟩ := h
  unfold staging
  split
  · exact hB
  · exact hA

/-- An EMPTY staging bank holds nothing that an emptying could discard (R150). -/
theorem emptied_staging (h : BanksSound p) (hempty : p.staging.state = .empty) : emptied p.staging = p.staging := by
  obtain ⟨-, -, hnothing⟩ := bankSound_staging h
  rw [hnothing hempty, ← staging_role h]

/-! ### The owner's answer -/

theorem bankAbandon_checking (h : p.staging.state = .checking) : p.bankAbandon = (p, .busy) := by
  simp [bankAbandon, h]

theorem bankAbandon_done (h : p.staging.state ≠ .checking) :
    p.bankAbandon =
      ((p.setStaging (emptied p.staging)).noticeIf (p.staging.state ≠ .empty) .schedule, .done) := by
  simp [bankAbandon, h]

theorem bankAbandon_empty (h : BanksSound p) (hempty : p.staging.state = .empty) : p.bankAbandon = (p, .done) := by
  rw [bankAbandon_done (by simp [hempty]), emptied_staging h hempty, setStaging_self]
  simp [hempty, noticeIf]

theorem bankAbandon_staging (h : p.staging.state ≠ .checking) : p.bankAbandon.1.staging = emptied p.staging := by
  rw [bankAbandon_done h]
  calc _ = (p.setStaging (emptied p.staging)).staging := staging_of_banks (by simp [Piece.Same])
    _ = emptied p.staging := setStaging_staging rfl

/-- The abandonment does not touch the published bank, whatever the staging bank's state (R154). -/
theorem bankAbandon_published (p : Part) : p.bankAbandon.1.published = p.published := by
  by_cases h : p.staging.state = .checking
  · rw [bankAbandon_checking h]
  · rw [bankAbandon_done h]
    calc _ = (p.setStaging (emptied p.staging)).published := published_of_banks (by simp [Piece.Same])
      _ = p.published := setStaging_published rfl

/-- The abandonment reaches the banks and the notices alone. -/
theorem sameBut_bankAbandon (p : Part) : SameBut [.banks, .notices] p p.bankAbandon.1 := by
  intro b hb
  cases b <;> simp_all [Piece.Same]

theorem checkRequest_bankAbandon (h : p.pln.stage = .running) (tag : Byte) :
    p.checkRequest .room ⟨0x44, tag, 0, []⟩ = none :=
  checkRequest_running (c := ⟨0x44, .schedule, 0⟩) h rfl rfl rfl rfl

theorem serveOwner_bankAbandon (p : Part) (tag : Byte) :
    p.serveOwner .room ⟨0x44, tag, 0, []⟩ = plain p.bankAbandon := rfl

theorem serveOwner_bankAbandon_done (h : p.staging.state ≠ .checking) (tag : Byte) :
    p.serveOwner .room ⟨0x44, tag, 0, []⟩ = (p.bankAbandon.1, .done, []) := by
  rw [serveOwner_bankAbandon, bankAbandon_done h]
  rfl

end Part

/-! ### The row -/

variable {tag : Byte} {s : State}

/-- An abandonment that the owner answers without a change of the part. -/
theorem completes_bankAbandon_unchanged {st : Status} (hport : Listening s.part .room) (hset : Settled s.part)
    (hown : (s.part.taken .room ⟨0x44, tag, 0, []⟩).bankAbandon = (s.part.taken .room ⟨0x44, tag, 0, []⟩, st)) :
    Completes (.bankAbandon .room tag) s fun t =>
      Answered t .room tag st [[]] ∧ SameBut [.requests .room] s.part t := by
  refine completes_unchanged rfl hport hset (Part.checkRequest_bankAbandon hport.1.1 tag) (by simp [portResetCode]) ?_
  rw [Part.serveOwner_bankAbandon, hown]
  rfl

/-- A request whose owner changes the banks and raises notices at most: the banks that stand afterwards are the ones that
the owner leaves (R150). -/
theorem completes_banks {c : Instr} {q : Port} {r : Request} {x : Part} {st : Status} {l : List Byte}
    (hreq : requestOf c = some (q, r)) (hport : Listening s.part q) (hset : Settled s.part)
    (hcheck : s.part.checkRequest q r = none) (hcode : r.code ≠ portResetCode)
    (hserve : (s.part.taken q r).serveOwner q r = (x, st, l)) (hline : x.line = (s.part.taken q r).line)
    (hssu : x.ssu = s.part.ssu) (hrtu : x.rtu = s.part.rtu)
    (hx : SameBut [.banks, .notices] (s.part.taken q r) x) :
    Completes c s fun t =>
      Answered t q r.tag st (framesOf r.code l) ∧ t.published = x.published ∧ t.staging = x.staging ∧
        SameBut [.requests q, .banks, .notices] s.part t := by
  have hocc : x.smn.occupied = (s.part.taken q r).smn.occupied := hx .occupied (by decide)
  have hend (a : Response) : SameBut [] (x.replied q a) (Part.conclude s.part (x.replied q a)) :=
    Part.sameBut_conclude_settled hset (by simpa using hssu) (by simpa using hocc) (by simpa using hrtu)
  refine (completes_request hreq hport hcheck hcode hserve hline hend
    (hx.mono (List.subset_cons_self (.requests q) _)) (by simp)).mono ?_
  rintro t ⟨hans, hown, hbut⟩
  have hbanks : Piece.banks.Same x t := hown .banks (by simp)
  exact ⟨hans, Part.published_of_banks hbanks, Part.staging_of_banks hbanks, hbut⟩

/-- An abandonment with no check in progress empties the staging bank (R154). -/
theorem completes_bankAbandon_done (hport : Listening s.part .room) (hset : Settled s.part)
    (hstate : s.part.staging.state ≠ .checking) :
    Completes (.bankAbandon .room tag) s fun t =>
      Answered t .room tag .done [[]] ∧ t.published = s.part.published ∧ t.staging = Part.emptied s.part.staging ∧
        SameBut [.requests .room, .banks, .notices] s.part t := by
  refine (completes_banks rfl hport hset (Part.checkRequest_bankAbandon hport.1.1 tag) (by simp [portResetCode])
    (Part.serveOwner_bankAbandon_done (by simpa using hstate) tag) (by simp) (by simp) (by simp)
    (Part.sameBut_bankAbandon _)).mono ?_
  rintro t ⟨hans, hpublished, hstaging, hbut⟩
  refine ⟨hans, ?_, ?_, hbut⟩
  · rw [hpublished, Part.bankAbandon_published, Part.taken_published]
  · rw [hstaging, Part.bankAbandon_staging (by simpa using hstate), Part.taken_staging]

/-- Settles O48: the owner refuses while the check runs and else writes an emptied bank in the staging role, which for a
bank that was EMPTY is the bank itself. -/
theorem bankAbandonEmpties : Obligations.BankAbandonEmpties := by
  unfold Obligations.BankAbandonEmpties
  intro tag s hport hset hbanks
  refine ⟨?_, ?_, ?_⟩
  · intro hchecking
    exact completes_bankAbandon_unchanged hport hset (Part.bankAbandon_checking hchecking)
  · intro hstate
    exact completes_bankAbandon_done hport hset hstate
  · intro hempty
    exact (completes_bankAbandon_unchanged hport hset (Part.bankAbandon_empty hbanks hempty)).mono
      fun _ ⟨_, hbut⟩ => hbut

end Sys2Proof.Machine
end

section
/-! SUMMARY RELEASE (R180). -/

namespace Sys2Proof.Machine

/-! ### A number in a payload -/

/-- The low byte of a number is its remainder. -/
theorem byteOf_toNat (n : Nat) : (byteOf n).toNat = n % 256 := BitVec.toNat_ofNat n 8

/-- A two-byte number is read back from a payload that begins with it (R197). -/
theorem halfAt_b2 (n : Half) (l : List Byte) : halfAt (b2 n.toNat ++ l) 0 = n.toNat := by
  have hn : n.toNat < 65536 := n.isLt
  simp only [halfAt, byteAt, b2, List.cons_append, List.getD_cons_zero, List.getD_cons_succ, byteOf_toNat]
  omega

namespace Part

variable {p t : Part} {n : Nat}

/-! ### The end of an event that leaves the session -/

/-- The conditions of the walk-in dwell ask nothing of the summary store (R170). -/
theorem walkInReady_of_session (hsession : t.ssu.session = p.ssu.session)
    (hpending : t.ssu.pendingStart = p.ssu.pendingStart) (hparams : t.ssu.params = p.ssu.params)
    (hocc : t.smn.occupied = p.smn.occupied) : t.walkInReady = p.walkInReady := by
  simp [walkInReady, sessionOpen, hsession, hpending, hparams, hocc]

/-- A dwell timer that stands as its conditions require is left at the end of an event that leaves these conditions as they
were (R170). -/
theorem concludeDwell_of_dwell (hready : t.walkInReady = p.walkInReady)
    (hdwell : t.walkInReady = true ∨ t.ssu.dwell = 0) : concludeDwell p t = t := by
  cases hw : t.walkInReady with
  | true => simp [concludeDwell, hw, ← hready]
  | false =>
    have hzero : t.ssu.dwell = 0 := hdwell.resolve_left (by simp [hw])
    have hssu : ({ t.ssu with dwell := 0 } : Ssu) = t.ssu := by rw [← hzero]
    simp only [concludeDwell, hw, hssu]
    rfl

/-- An event that leaves the session, the pending start, the dwell timer, the occupied count and RTU ends with the
indication and the outputs alone, whatever it does to the summary store. -/
theorem sameBut_conclude_session (h : Settled p) (hsession : t.ssu.session = p.ssu.session)
    (hpending : t.ssu.pendingStart = p.ssu.pendingStart) (hparams : t.ssu.params = p.ssu.params)
    (hdwell : t.ssu.dwell = p.ssu.dwell) (hocc : t.smn.occupied = p.smn.occupied) (hrtu : t.rtu = p.rtu) :
    SameBut [] t (conclude p t) := by
  have hready := walkInReady_of_session hsession hpending hparams hocc
  have hkept : concludeDwell p t = t := by
    apply concludeDwell_of_dwell hready
    rw [hready, hdwell]
    exact h.2
  rw [conclude, hkept, concludeRouting_settled h hrtu]
  exact sameBut_drivePins t

/-! ### A request that a check turns away -/

/-- A request that needs a right which the port does not hold fails the check of rights (R186, R188). -/
theorem checkRequest_noRight {q : Port} {r : Request} {c : CatalogueRow} (hrow : catalogueRow r.code = some c)
    (hright : holds q c.group = false) : p.checkRequest q r = some .notPermitted := by
  simp [checkRequest, hrow, hright]

/-- A request that fails a check as a listening port takes it is answered at once with the check's status (R186). -/
theorem requestRow_refused {q : Port} {r : Request} {st : Status} (h : Listening p q)
    (hcheck : p.checkRequest q r = some st) (hcode : r.code ≠ portResetCode) :
    p.requestRow q r = (p.taken q r).replied q (checkResponse r st) := by
  obtain ⟨⟨-, hawake⟩, hservice, -⟩ := h
  have hclear : ((p.clearSent q).port q).inService = none := by simp [clearSent, hservice]
  have hroom : (p.clearSent q).roomFull q = false := by simp [roomFull, hclear]
  have hpower : (p.clearSent q).pwu.power ≠ .standby := by simpa using hawake
  have htake : (p.clearSent q).takeRequest q r = (p.taken q r).replied q (checkResponse r st) := by
    simp only [takeRequest, hcode, hroom, hpower, Bool.false_eq_true, if_false]
    simp [placeRequest, hservice, enterService, hcheck, setPort_setPort, taken, replied, discardPending, clearSent]
  have hdone : (((p.taken q r).replied q (checkResponse r st)).port q).inService = none := by
    cases q <;> simp [replied, deliver, sendRoom]
  simp only [requestRow, hclear, htake, hdone, reduceCtorEq, if_false]

/-! ### The owner's answer -/

/-- The release of the oldest summary (R180). -/
theorem summaryRelease_oldest {x : Summary} (hx : p.ssu.store.head? = some x) (hn : x.number = n) :
    p.summaryRelease n = (p.withSsu { p.ssu with store := p.ssu.store.tail, lost := false }, .done) := by
  obtain ⟨rest, hstore⟩ := List.head?_eq_some_iff.mp hx
  simp [summaryRelease, hstore, hn]

/-- A release that does not name the oldest summary (R180). -/
theorem summaryRelease_state (h : ∀ x ∈ p.ssu.store.head?, x.number ≠ n) : p.summaryRelease n = (p, .state) := by
  cases hstore : p.ssu.store with
  | nil => simp [summaryRelease, hstore]
  | cons x rest =>
    have hx : x.number ≠ n := h x (by simp [hstore])
    simp [summaryRelease, hstore, hx]

/-- The release of a summary reaches the summary store alone: it raises no notice (R180). -/
theorem sameBut_freed (p : Part) (l : List Summary) :
    SameBut [.store] p (p.withSsu { p.ssu with store := l, lost := false }) := by
  intro b hb
  cases b <;> simp_all [Piece.Same]

theorem checkRequest_summaryRelease (h : p.pln.stage = .running) (tag : Byte) :
    p.checkRequest .room ⟨0x48, tag, 2, b2 n⟩ = none :=
  checkRequest_running (c := ⟨0x48, .summary, 2⟩) h rfl rfl rfl rfl

/-- Of the three ports the room link alone holds the SUMMARY right (R188). -/
theorem holds_summary {q : Port} (h : q ≠ .room) : holds q .summary = false := by
  cases q with
  | room => exact absurd rfl h
  | chair => rfl
  | av => rfl

theorem serveOwner_summaryRelease (p : Part) (tag : Byte) (n : Half) :
    p.serveOwner .room ⟨0x48, tag, 2, b2 n.toNat⟩ = plain (p.summaryRelease n.toNat) :=
  congrArg (fun k => plain (p.summaryRelease k)) (halfAt_b2 n [])

theorem serveOwner_summaryRelease_oldest {x : Summary} {n : Half} (hx : p.ssu.store.head? = some x)
    (hn : x.number = n.toNat) (tag : Byte) :
    p.serveOwner .room ⟨0x48, tag, 2, b2 n.toNat⟩ =
      (p.withSsu { p.ssu with store := p.ssu.store.tail, lost := false }, .done, []) := by
  rw [serveOwner_summaryRelease, summaryRelease_oldest hx hn, plain]

end Part

/-! ### The rows -/

/-- A request that fails a check is answered with the check's status and no contents, and nothing but the port's
requests changes (R186). -/
theorem completes_refused {c : Instr} {q : Port} {r : Request} {s : State} {st : Status}
    (hreq : requestOf c = some (q, r)) (hport : Listening s.part q) (hset : Settled s.part)
    (hcheck : s.part.checkRequest q r = some st) (hcode : r.code ≠ portResetCode) :
    Completes c s fun t => Answered t q r.tag st [[]] ∧ SameBut [.requests q] s.part t := by
  refine ⟨_, exec_requestOf hreq s, rfl, ?_⟩
  simp only [Part.event_running hport.1.1, Part.requestRow_refused hport hcheck hcode]
  have hend : SameBut [] ((s.part.taken q r).replied q (checkResponse r st))
      (Part.conclude s.part ((s.part.taken q r).replied q (checkResponse r st))) :=
    Part.sameBut_conclude_settled hset (by simp) (by simp) (by simp)
  have hline : (Part.conclude s.part ((s.part.taken q r).replied q (checkResponse r st))).line q =
      ((s.part.taken q r).replied q (checkResponse r st)).line q := by simp
  exact ⟨Part.answered_of_line hline (Part.answered_replied rfl),
    ((Part.sameBut_taken s.part q r).trans (Part.sameBut_replied _ q _)).trans (hend.mono (List.nil_subset _))⟩

variable {tag : Byte} {n : Half} {s : State}

/-- A release that names the oldest summary frees it and clears the lost mark (R180). -/
theorem completes_summaryRelease_oldest {x : Summary} (hport : Listening s.part .room) (hset : Settled s.part)
    (hx : s.part.ssu.store.head? = some x) (hn : x.number = n.toNat) :
    Completes (.summaryRelease .room tag n) s fun t =>
      Answered t .room tag .done [[]] ∧ t.ssu.store = s.part.ssu.store.tail ∧ t.ssu.lost = false ∧
        t.ssu.nextSummary = s.part.ssu.nextSummary ∧ SameBut [.requests .room, .store] s.part t := by
  refine (completes_request (es := []) rfl hport (Part.checkRequest_summaryRelease hport.1.1 tag)
    (by simp [portResetCode]) (Part.serveOwner_summaryRelease_oldest (by simpa using hx) hn tag) (by simp) ?_
    ((Part.sameBut_freed _ _).mono (List.subset_cons_self (.requests .room) _)) (by simp)).mono ?_
  · intro a
    exact Part.sameBut_conclude_session hset (by simp) (by simp) (by simp) (by simp) (by simp) (by simp)
  · rintro t ⟨hans, hown, hbut⟩
    obtain ⟨hstore, hlost, hnext⟩ := hown .store (by simp)
    exact ⟨hans, by simpa using hstore, by simpa using hlost, by simpa using hnext, hbut⟩

/-- Settles O50: the owner frees the head of the store or leaves the part, and a port other than the room link fails the
check of rights. -/
theorem summaryReleaseFrees : Obligations.SummaryReleaseFrees := by
  unfold Obligations.SummaryReleaseFrees
  intro tag n s hset
  refine ⟨?_, ?_, ?_⟩
  · intro hport hother
    refine completes_unchanged rfl hport hset (Part.checkRequest_summaryRelease hport.1.1 tag)
      (by simp [portResetCode]) ?_
    rw [Part.serveOwner_summaryRelease, Part.summaryRelease_state (by simpa using hother)]
    rfl
  · intro x hx hport hn
    exact completes_summaryRelease_oldest hport hset hx hn
  · intro q hq hport
    have hcheck : s.part.checkRequest q ⟨0x48, tag, 2, b2 n.toNat⟩ = some .notPermitted :=
      Part.checkRequest_noRight (c := ⟨0x48, .summary, 2⟩) rfl (Part.holds_summary hq)
    exact completes_refused rfl hport hset hcheck (by simp [portResetCode])

end Sys2Proof.Machine
end

section
/-! NOTICE MASK (R192). -/

namespace Sys2Proof.Machine

namespace Part

variable {p : Part} {n : Nat}

/-! ### The attention lines -/

/-- After an event each attention line stands at the level that the port's flags and mask then give (R190). -/
theorem conclude_attention (before after : Part) (q : Port) :
    ((conclude before after).port q).attention = attentionOf ((conclude before after).port q) := by
  simp only [conclude, drivePins, driveAttention, onPorts_port]
  rfl

/-! ### The mask of a port -/

/-- A payload with a mark set outside the nine (R192). -/
theorem setMask_range (h : 511 < n) (q : Port) : p.setMask q n = (p, .range) := if_pos h

theorem setMask_status (h : n ≤ 511) (q : Port) : (p.setMask q n).2 = .done := by
  simp [setMask, Nat.not_lt.mpr h]

/-- A mask of the nine marks is the mask of its port, and the other ports keep theirs (R192). -/
theorem setMask_maskOf (h : n ≤ 511) (q a : Port) :
    (p.setMask q n).1.maskOf a = if a = q then BitVec.ofNat 9 n else p.maskOf a := by
  simp only [setMask, Nat.not_lt.mpr h, if_false, maskOf, setPort_port]
  split <;> rfl

theorem setMask_maskOf_toNat (h : n ≤ 511) (q : Port) : ((p.setMask q n).1.maskOf q).toNat = n := by
  rw [setMask_maskOf h, if_pos rfl, BitVec.toNat_ofNat]
  omega

/-- The replacement of a mask leaves the flags and all that is no mask (R192). -/
theorem sameBut_setMask (p : Part) (q : Port) (n : Nat) : SameBut [.masks] p (p.setMask q n).1 := by
  intro b hb
  cases b <;> simp_all [Piece.Same]

/-! ### The owner's answer -/

theorem maskRequest_range (h : 511 < n) (q : Port) : p.maskRequest q n = (p, .range, b2 (p.maskOf q).toNat) := by
  rw [maskRequest, setMask_range h]
  rfl

theorem maskRequest_done (h : n ≤ 511) (q : Port) : p.maskRequest q n = ((p.setMask q n).1, .done, b2 n) := by
  calc p.maskRequest q n
    _ = ((p.setMask q n).1, (p.setMask q n).2, b2 ((p.setMask q n).1.maskOf q).toNat) := rfl
    _ = _ := by rw [setMask_status h, setMask_maskOf_toNat h]

/-- Every port holds the READ right, under which a port's own requests stand (R188). -/
theorem holds_read (q : Port) : holds q .read = true := by cases q <;> rfl

theorem checkRequest_noticeMask (h : p.pln.stage = .running) (q : Port) (tag : Byte) :
    p.checkRequest q ⟨0x0B, tag, 2, b2 n⟩ = none :=
  checkRequest_running (c := ⟨0x0B, .read, 2⟩) h rfl (holds_read q) rfl rfl

theorem serveOwner_noticeMask (p : Part) (q : Port) (tag : Byte) (mask : Half) :
    p.serveOwner q ⟨0x0B, tag, 2, b2 mask.toNat⟩ = p.maskRequest q mask.toNat :=
  congrArg (p.maskRequest q) (halfAt_b2 mask [])

end Part

/-! ### The row -/

variable {q : Port} {tag : Byte} {mask : Half} {s : State}

/-- A request row ends as an event does: with every attention line tested afresh (R190). -/
theorem Completes.attention {c : Instr} {r : Request} {post : Part → Prop} (h : Completes c s post)
    (hreq : requestOf c = some (q, r)) (hrun : s.part.pln.stage = .running) :
    Completes c s fun t => post t ∧ ∀ a, (t.port a).attention = attentionOf (t.port a) := by
  obtain ⟨t, hexec, hpending, hpost⟩ := h
  refine ⟨t, hexec, hpending, hpost, fun a => ?_⟩
  have ht : s.onEvent (fun p => p.requestRow q r) = .next t := (exec_requestOf hreq s).symm.trans hexec
  cases ht
  simp only [Part.event_running hrun]
  exact Part.conclude_attention _ _ a

/-- A mask with a mark outside the nine is answered with the mask that stands (R192). -/
theorem completes_noticeMask_range (hport : Listening s.part q) (hset : Settled s.part) (hmask : 511 < mask.toNat) :
    Completes (.noticeMask q tag mask) s fun t =>
      Answered t q tag .range [b2 (s.part.port q).mask.toNat] ∧ SameBut [.requests q] s.part t := by
  refine completes_unchanged rfl hport hset (Part.checkRequest_noticeMask hport.1.1 q tag) (by simp [portResetCode]) ?_
  rw [Part.serveOwner_noticeMask, Part.maskRequest_range hmask]
  simp [Part.maskOf, Part.taken_port]

/-- A mask of the nine marks comes into force at its port alone (R192). -/
theorem completes_noticeMask_done (hport : Listening s.part q) (hset : Settled s.part) (hmask : mask.toNat ≤ 511) :
    Completes (.noticeMask q tag mask) s fun t =>
      Answered t q tag .done [b2 mask.toNat] ∧ (t.maskOf q).toNat = mask.toNat ∧
        (∀ a, a ≠ q → t.maskOf a = s.part.maskOf a) ∧ SameBut [.requests q, .masks] s.part t := by
  have hserve := (Part.serveOwner_noticeMask (s.part.taken q ⟨0x0B, tag, 2, b2 mask.toNat⟩) q tag mask).trans
    (Part.maskRequest_done hmask q)
  refine (completes_request (es := []) rfl hport (Part.checkRequest_noticeMask hport.1.1 q tag)
    (by simp [portResetCode]) hserve (by simp) ?_
    ((Part.sameBut_setMask _ q _).mono (List.subset_cons_self (.requests q) _)) (by simp)).mono ?_
  · intro a
    exact Part.sameBut_conclude_settled hset (by simp) (by simp) (by simp)
  · rintro t ⟨hans, hown, hbut⟩
    have hmasks : t.maskOf = _ := hown .masks (by simp)
    refine ⟨hans, ?_, ?_, hbut⟩
    · rw [hmasks, Part.setMask_maskOf_toNat hmask]
    · intro a ha
      rw [hmasks, Part.setMask_maskOf hmask, if_neg ha]
      simp

/-- Settles O37: the owner leaves the part, or replaces the port's mask and no flag, and the event's end tests the
attention line with the flags that stand. -/
theorem noticeMaskSets : Obligations.NoticeMaskSets := by
  unfold Obligations.NoticeMaskSets
  intro q tag mask s hport hset
  constructor
  · intro hmask
    exact completes_noticeMask_range hport hset hmask
  · intro hmask
    refine ((completes_noticeMask_done hport hset hmask).attention rfl hport.1.1).mono ?_
    rintro t ⟨⟨hans, hnew, hothers, hbut⟩, hattention⟩
    have hnotices : t.notices q = s.part.notices q := congrFun (hbut .notices (by simp)) q
    have hflags : (t.port q).flags = (s.part.port q).flags := congrArg Prod.fst hnotices
    refine ⟨hans, hnew, ?_, hothers, hbut⟩
    rw [hattention, attentionOf, hflags]

end Sys2Proof.Machine
end

section
/-! What every event ends with leaves the outputs true and the part settled (R102, R103, R132, R133, R170, R190). -/

namespace Sys2Proof.Machine

namespace Part

/-! ### What a question reads -/

section
variable {p t : Part}

theorem seat_eq (h : t.smn.seats = p.smn.seats) : t.seat = p.seat := by
  funext i
  simp only [seat, h]

theorem slot_eq (h : t.sgu.slots = p.sgu.slots) : t.slot = p.slot := by
  funext k
  simp only [slot, h]

theorem screen_eq (h : t.rtu.screens = p.rtu.screens) : t.screen = p.screen := by
  funext k
  simp only [screen, h]

theorem slotOf_eq (h : t.sgu.slots = p.sgu.slots) : t.slotOf = p.slotOf := by
  funext i
  unfold slotOf
  rw [slot_eq h]

theorem isQueued_eq (h : t.flc.queue = p.flc.queue) : t.isQueued = p.isQueued := by
  funext i
  simp only [isQueued, h]

theorem micEnableOf_eq (h : t.sgu.slots = p.sgu.slots) : t.micEnableOf = p.micEnableOf := by
  funext i
  simp only [micEnableOf, slotOf_eq h]

/-- The indication follows from the seats, the floor, the power state, the slots and the refused timers (R103). -/
theorem indicationOf_eq (hsmn : t.smn = p.smn) (hflc : t.flc = p.flc) (hpwu : t.pwu = p.pwu)
    (hslots : t.sgu.slots = p.sgu.slots) (hrefused : t.sgu.refused = p.sgu.refused) : t.indicationOf = p.indicationOf := by
  funext i
  unfold indicationOf
  rw [seat_eq (congrArg _ hsmn), hflc, hpwu, hrefused, slotOf_eq hslots, slot_eq hslots, isQueued_eq (congrArg _ hflc)]

theorem indicatorOf_eq (hsmn : t.smn = p.smn) (hflc : t.flc = p.flc) (hpwu : t.pwu = p.pwu)
    (hslots : t.sgu.slots = p.sgu.slots) (hrefused : t.sgu.refused = p.sgu.refused)
    (hpatterns : t.sgu.patterns = p.sgu.patterns) (hpolarity : t.sgu.polarity = p.sgu.polarity)
    (hblink : t.sgu.blink = p.sgu.blink) : t.indicatorOf = p.indicatorOf := by
  funext i
  unfold indicatorOf
  rw [seat_eq (congrArg _ hsmn), hpwu, indicationOf_eq hsmn hflc hpwu hslots hrefused, hpatterns, hpolarity, hblink]

end

/-! ### The outputs -/

/-- The attention lines at their levels stay there. -/
theorem driveAttention_driveAttention (p : Part) : p.driveAttention.driveAttention = p.driveAttention := by
  simp [driveAttention, onPorts, mapTable, attentionOf]
  rfl

theorem drivePins_sgu (p : Part) :
    p.drivePins.sgu = { p.sgu with indication := Vector.ofFn fun i => p.indicationOf i } := by
  simp [drivePins]

theorem drivePins_pins (p : Part) : p.drivePins.pins =
    { indicators := Vector.ofFn fun i => p.indicatorOf i, micEnable := Vector.ofFn fun i => p.micEnableOf i
      select := Vector.ofFn fun k => BitVec.ofNat 4 (p.screen k).driven.val
      blank := Vector.ofFn fun k => (p.screen k).settle = .settling } := by
  simp [drivePins]

theorem drivePins_prt (p : Part) : p.drivePins.prt = p.driveAttention.prt := by
  simp [drivePins, driveAttention, onPorts]

/-- No rule of an output reads the indication, an output level or an attention line. -/
theorem outputsTrue_drivePins (p : Part) : OutputsTrue p.drivePins := by
  have hsmn : p.drivePins.smn = p.smn := by simp
  have hflc : p.drivePins.flc = p.flc := by simp
  have hpwu : p.drivePins.pwu = p.pwu := by simp
  have hslots : p.drivePins.sgu.slots = p.sgu.slots := by simp
  have hrefused : p.drivePins.sgu.refused = p.sgu.refused := by simp
  have hscreen : p.drivePins.screen = p.screen := screen_eq (by simp)
  have hsgu : p.drivePins.drivePins.sgu = p.drivePins.sgu := by
    rw [drivePins_sgu, indicationOf_eq hsmn hflc hpwu hslots hrefused, drivePins_sgu]
  have hpins : p.drivePins.drivePins.pins = p.drivePins.pins := by
    rw [drivePins_pins, indicatorOf_eq hsmn hflc hpwu hslots hrefused (by simp) (by simp) (by simp),
      micEnableOf_eq hslots, hscreen, drivePins_pins]
  have hports : p.drivePins.drivePins.prt = p.drivePins.prt := by
    have h := congrArg (·.prt) (driveAttention_driveAttention p)
    simp only [drivePins_prt, driveAttention, onPorts, withPrt_prt] at h ⊢
    exact h
  apply ext_blocks
  case h4 => exact hsgu
  case h9 => exact hports
  case h12 => exact hpins
  all_goals simp

theorem outputsTrue_conclude (before after : Part) : OutputsTrue (conclude before after) := outputsTrue_drivePins _

/-! ### The drive of the screens -/

/-- The drive leaves what every screen shows, and so what it is driven by. -/
theorem driveScreens_drivenBy (p : Part) (k : ScreenId) : p.driveScreens.drivenBy k = p.drivenBy k := by
  have hshown : (p.driveScreens.screen k).shown = (p.screen k).shown := by
    rw [driveScreens_screen]
    split <;> rfl
  simp [drivenBy, hshown]

theorem driveScreens_driven (p : Part) (k : ScreenId) : (p.driveScreens.screen k).driven = p.driveScreens.drivenBy k := by
  rw [driveScreens_drivenBy, driveScreens_screen]
  split
  next h => exact h.symm
  next => rfl

/-! ### The dwell timer -/

/-- An opening sets the dwell timer to 0 (R165, R172), and no other step of an opening or a close changes it. -/
theorem openBooked_dwell (p : Part) (b : Booking) : (p.openBooked b).ssu.dwell = 0 := by
  simp only [openBooked]
  split <;> simp

theorem openWalkIn_dwell (p : Part) : p.openWalkIn.ssu.dwell = 0 := by simp [openWalkIn]

theorem openPending_dwell {p : Part} (h : p.ssu.dwell = 0) : p.openPending.ssu.dwell = 0 := by
  unfold openPending
  (repeat' split) <;> simp [h, openBooked_dwell]

theorem completeWindup_dwell {p : Part} (h : p.ssu.dwell = 0) : p.completeWindup.ssu.dwell = 0 := by
  unfold completeWindup
  (repeat' split) <;> simp [h, openPending_dwell]

theorem walkInTest_eq_or_dwell (p : Part) : p.walkInTest = p ∨ p.walkInTest.ssu.dwell = 0 := by
  unfold walkInTest
  split
  · exact .inr (completeWindup_dwell (openWalkIn_dwell p))
  · exact .inl rfl

/-- The end of an event leaves the dwell timer above 0 only with its conditions (R170). -/
theorem concludeDwell_settles (before after : Part) :
    (concludeDwell before after).walkInReady = true ∨ (concludeDwell before after).ssu.dwell = 0 := by
  unfold concludeDwell
  split
  · exact .inr rfl
  next hready =>
    have hready : after.walkInReady = true := by simpa using hready
    split
    · rcases walkInTest_eq_or_dwell after with h | h
      · exact .inl (by rw [h, hready])
      · exact .inr h
    · exact .inl hready

/-! ### Events and resets -/

theorem settled_conclude (before after : Part) : Settled (conclude before after) := by
  constructor
  · intro k
    have hrtu : (conclude before after).rtu =
        ((concludeDwell before after).noticeIf (routeChanged before (concludeDwell before after)) .route).driveScreens.rtu :=
      (drivePins_frame _).2.2.2.2.1
    rw [drivenBy_eq hrtu, screen, hrtu]
    exact driveScreens_driven _ k
  · have hssu : (conclude before after).ssu = (concludeDwell before after).ssu := by simp [conclude]
    have hocc : (conclude before after).smn.occupied = (concludeDwell before after).smn.occupied := by simp [conclude]
    rw [walkInReady_eq hssu hocc, hssu]
    exact concludeDwell_settles before after

theorem outputsTrue_event {p : Part} (h : OutputsTrue p) (f : Part → Part) : OutputsTrue (event f p) := by
  unfold event
  split
  · exact h
  · exact outputsTrue_conclude _ _

theorem settled_event {p : Part} (h : Settled p) (f : Part → Part) : Settled (event f p) := by
  unfold event
  split
  · exact h
  · exact settled_conclude _ _

theorem outputsTrue_start (straps : StrapPins) (stage : Stage) : OutputsTrue (start straps stage) :=
  outputsTrue_drivePins _

theorem settled_start (straps : StrapPins) (stage : Stage) : Settled (start straps stage) :=
  ⟨fun k => by fin_cases k <;> rfl, .inr rfl⟩

end Part

/-! ### Steps -/

/-- The four commands of the resets (R11, R14), the only ones that are no event. -/
def isReset : Instr → Bool
  | .powerOnResetRelease _ => true
  | .powerOnResetAssert => true
  | .resetPinAssert => true
  | .resetPinRelease _ => true
  | _ => false

/-- Every other command is one event of the part. -/
theorem exec_event {c : Instr} (h : isReset c = false) : ∃ f : Part → Part, ∀ s, exec c s = s.onEvent f := by
  cases c with
  | powerOnResetRelease pins => cases h
  | powerOnResetAssert => cases h
  | resetPinAssert => cases h
  | resetPinRelease pins => cases h
  | _ => exact ⟨_, fun _ => rfl⟩

/-- A reset leaves a part that has no supply, or leaves the part at its reset values (R11). -/
theorem exec_reset {c : Instr} (h : isReset c = true) (s : State) :
    exec c s = .next s ∨ ∃ straps stage, exec c s = .next { s with part := Part.start straps stage } := by
  cases c with
  | powerOnResetRelease pins => exact .inr ⟨_, _, rfl⟩
  | powerOnResetAssert => exact .inr ⟨_, _, rfl⟩
  | resetPinAssert =>
    simp only [exec, execResetPinAssert, State.onPart, Part.holdReset]
    split
    · exact .inl rfl
    · exact .inr ⟨_, _, rfl⟩
  | resetPinRelease pins =>
    simp only [exec, execResetPinRelease, State.onPart, Part.leaveReset]
    split
    · exact .inl rfl
    · exact .inr ⟨_, _, rfl⟩
  | _ => cases h

/-- A step keeps what every event and the start after a reset keep. -/
theorem step_keeps {P : Part → Prop} (hevent : ∀ f p, P p → P (Part.event f p))
    (hstart : ∀ straps stage, P (Part.start straps stage)) {s t : State} (h : P s.part) (ht : step s = .next t) :
    P t.part := by
  unfold step at ht
  split at ht
  next =>
    obtain rfl := Host.Outcome.next.inj ht
    exact hevent _ _ h
  next c rest _ =>
    cases hreset : isReset c with
    | false =>
      obtain ⟨f, hf⟩ := exec_event hreset
      rw [hf] at ht
      obtain rfl := Host.Outcome.next.inj ht
      exact hevent _ _ h
    | true =>
      rcases exec_reset hreset { s with pending := rest } with hsame | ⟨straps, stage, hsame⟩
      · rw [hsame] at ht
        obtain rfl := Host.Outcome.next.inj ht
        exact h
      · rw [hsame] at ht
        obtain rfl := Host.Outcome.next.inj ht
        exact hstart _ _

/-- Settles O58: an event ends with the drive of every output and of every screen, after the test of the dwell timer's
conditions; and a reset leaves values that meet both. -/
theorem stepKeepsOutputsTrue : Obligations.StepKeepsOutputsTrue := by
  unfold Obligations.StepKeepsOutputsTrue
  constructor
  · intro s t h ht
    exact step_keeps (P := OutputsTrue) (fun f _ hp => Part.outputsTrue_event hp f) Part.outputsTrue_start h ht
  · intro s t h ht
    exact step_keeps (P := Settled) (fun f _ hp => Part.settled_event hp f) Part.settled_start h ht

end Sys2Proof.Machine
end

section
/-! The banks, the request queue, the FREE slots and the summary store under every operation, and from it under every
step: no operation takes the soundness of one of the four from a part that has it (R65, R69, R91, R97, R150, R178). -/

namespace Sys2Proof.Machine

/-- What is sound in one part of the banks, the queue, the slots and the store is sound in another, each on its own. -/
structure KeepsRecords (p t : Part) : Prop where
  banks : BanksSound p → BanksSound t
  queue : QueueSound p.flc → QueueSound t.flc
  slots : (∀ k, SlotSound (p.slot k)) → ∀ k, SlotSound (t.slot k)
  store : p.ssu.store.length ≤ 2 → t.ssu.store.length ≤ 2

namespace Part

/-- The records that the four conditions are about. -/
def records (p : Part) : (Bank × Bank) × List QueueEntry × Vector Slot 7 × List Summary :=
  ((p.sch.bankA, p.sch.bankB), p.flc.queue, p.sgu.slots, p.ssu.store)

/-- The records of a part after a change of some of them. -/
theorem records_eq_iff {p t : Part} : t.records = p.records ↔
    (t.sch.bankA = p.sch.bankA ∧ t.sch.bankB = p.sch.bankB) ∧ t.flc.queue = p.flc.queue ∧
      t.sgu.slots = p.sgu.slots ∧ t.ssu.store = p.ssu.store := by
  simp [records]

end Part

namespace KeepsRecords

variable {p q t : Part}

theorem refl (p : Part) : KeepsRecords p p := ⟨id, id, id, id⟩

theorem trans (h : KeepsRecords p q) (h' : KeepsRecords q t) : KeepsRecords p t :=
  ⟨h'.banks ∘ h.banks, h'.queue ∘ h.queue, h'.slots ∘ h.slots, h'.store ∘ h.store⟩

/-! ### A change of one of the four -/

theorem same (h : KeepsRecords p q) (heq : t.records = q.records) : KeepsRecords p t := by
  obtain ⟨⟨hA, hB⟩, hqueue, hslots, hstore⟩ := Part.records_eq_iff.mp heq
  refine h.trans ⟨?_, ?_, ?_, ?_⟩
  · simp [BanksSound, hA, hB]
  · simp [QueueSound, hqueue]
  · simp [Part.slot, hslots]
  · simp [hstore]

theorem ofBanks (h : KeepsRecords p q) (hbanks : BanksSound q → BanksSound t) (hqueue : t.flc.queue = q.flc.queue)
    (hslots : t.sgu.slots = q.sgu.slots) (hstore : t.ssu.store = q.ssu.store) : KeepsRecords p t := by
  refine h.trans ⟨hbanks, ?_, ?_, ?_⟩
  · simp [QueueSound, hqueue]
  · simp [Part.slot, hslots]
  · simp [hstore]

theorem ofQueue (h : KeepsRecords p q) (hqueue : QueueSound q.flc → QueueSound t.flc) (hA : t.sch.bankA = q.sch.bankA)
    (hB : t.sch.bankB = q.sch.bankB) (hslots : t.sgu.slots = q.sgu.slots) (hstore : t.ssu.store = q.ssu.store) :
    KeepsRecords p t := by
  refine h.trans ⟨?_, hqueue, ?_, ?_⟩
  · simp [BanksSound, hA, hB]
  · simp [Part.slot, hslots]
  · simp [hstore]

theorem ofSlots (h : KeepsRecords p q) (hslots : ∀ k, SlotSound (q.slot k) → SlotSound (t.slot k))
    (hA : t.sch.bankA = q.sch.bankA) (hB : t.sch.bankB = q.sch.bankB) (hqueue : t.flc.queue = q.flc.queue)
    (hstore : t.ssu.store = q.ssu.store) : KeepsRecords p t := by
  refine h.trans ⟨?_, ?_, fun hsound k => hslots k (hsound k), ?_⟩
  · simp [BanksSound, hA, hB]
  · simp [QueueSound, hqueue]
  · simp [hstore]

theorem ofStore (h : KeepsRecords p q) (hstore : q.ssu.store.length ≤ 2 → t.ssu.store.length ≤ 2)
    (hA : t.sch.bankA = q.sch.bankA) (hB : t.sch.bankB = q.sch.bankB) (hqueue : t.flc.queue = q.flc.queue)
    (hslots : t.sgu.slots = q.sgu.slots) : KeepsRecords p t := by
  refine h.trans ⟨?_, ?_, ?_, hstore⟩
  · simp [BanksSound, hA, hB]
  · simp [QueueSound, hqueue]
  · simp [Part.slot, hslots]

theorem ite {c : Prop} [Decidable c] (h : KeepsRecords p q) (h' : KeepsRecords p t) :
    KeepsRecords p (if c then q else t) := by
  split
  · exact h
  · exact h'

theorem foldl {f : Part → α → Part} (hf : ∀ s a, KeepsRecords p s → KeepsRecords p (f s a)) (l : List α)
    (h : KeepsRecords p q) : KeepsRecords p (l.foldl f q) :=
  foldl_invariant (P := fun s : Part => KeepsRecords p s) hf l q h

/-! ### What leaves the four as they are -/

@[simp] theorem notice (h : KeepsRecords p q) (c : Category) : KeepsRecords p (q.notice c) :=
  h.same (by simp [Part.records])

@[simp] theorem noticeIf (h : KeepsRecords p q) (b : Bool) (c : Category) : KeepsRecords p (q.noticeIf b c) :=
  h.same (by simp [Part.records])

@[simp] theorem noticeCause (h : KeepsRecords p q) (c : Category) (m : Cause) : KeepsRecords p (q.noticeCause c m) :=
  h.same (by simp [Part.records])

@[simp] theorem count (h : KeepsRecords p q) (i : SeatId) (f : Counters → Counters) : KeepsRecords p (q.count i f) :=
  h.same (by simp [Part.records])

@[simp] theorem showRefused (h : KeepsRecords p q) (i : SeatId) : KeepsRecords p (q.showRefused i) :=
  h.same (by simp [Part.records])

@[simp] theorem refusePress (h : KeepsRecords p q) (i : SeatId) : KeepsRecords p (q.refusePress i) :=
  h.same (by simp [Part.records])

@[simp] theorem openFloor (h : KeepsRecords p q) : KeepsRecords p q.openFloor := h.same (by simp [Part.records])

@[simp] theorem applyFloorPreset (h : KeepsRecords p q) (f : FloorPreset) : KeepsRecords p (q.applyFloorPreset f) :=
  h.same (by simp [Part.records])

@[simp] theorem applyPreset (h : KeepsRecords p q) (n : Fin 4) : KeepsRecords p (q.applyPreset n) :=
  h.same (by simp [Part.records])

@[simp] theorem routeClose (h : KeepsRecords p q) (b : Bool) : KeepsRecords p (q.routeClose b) :=
  h.same (by simp [Part.records])

@[simp] theorem setSession (h : KeepsRecords p q) (x : Option Session) : KeepsRecords p (q.setSession x) :=
  h.same (by simp [Part.records])

@[simp] theorem putSession (h : KeepsRecords p q) (x : Option Session) : KeepsRecords p (q.putSession x) :=
  h.same (by simp [Part.records])

@[simp] theorem setPendingStart (h : KeepsRecords p q) (x : Option Nat) : KeepsRecords p (q.setPendingStart x) :=
  h.same (by simp [Part.records])

@[simp] theorem clearCounters (h : KeepsRecords p q) : KeepsRecords p q.clearCounters := h.same (by simp [Part.records])

@[simp] theorem setDwell (h : KeepsRecords p q) (n : Nat) : KeepsRecords p (q.withSsu { q.ssu with dwell := n }) :=
  h.same (by simp [Part.records])

@[simp] theorem setSeat (h : KeepsRecords p q) (i : SeatId) (x : Seat) : KeepsRecords p (q.setSeat i x) :=
  h.same (by simp [Part.records])

@[simp] theorem setChannel (h : KeepsRecords p q) (c : ChannelId) (x : Channel) : KeepsRecords p (q.setChannel c x) :=
  h.same (by simp [Part.records])

@[simp] theorem withSmn (h : KeepsRecords p q) (x : Smn) : KeepsRecords p (q.withSmn x) := h.same (by simp [Part.records])

@[simp] theorem withSfe (h : KeepsRecords p q) (x : Sfe) : KeepsRecords p (q.withSfe x) := h.same (by simp [Part.records])

@[simp] theorem withPwu (h : KeepsRecords p q) (x : Pwu) : KeepsRecords p (q.withPwu x) := h.same (by simp [Part.records])

@[simp] theorem withPln (h : KeepsRecords p q) (x : Pln) : KeepsRecords p (q.withPln x) := h.same (by simp [Part.records])

@[simp] theorem setClock (h : KeepsRecords p q) (x : Clock) : KeepsRecords p (q.setClock x) :=
  h.same (by simp [Part.records])

@[simp] theorem clearQuiet (h : KeepsRecords p q) : KeepsRecords p q.clearQuiet := h.same (by simp [Part.records])

@[simp] theorem changePower (h : KeepsRecords p q) (x : PowerState) : KeepsRecords p (q.changePower x) :=
  h.same (by simp [Part.records])

@[simp] theorem wake (h : KeepsRecords p q) : KeepsRecords p q.wake := h.same (by simp [Part.records])

@[simp] theorem keyUp (h : KeepsRecords p q) (i : SeatId) : KeepsRecords p (q.keyUp i) := h.same (by simp [Part.records])

@[simp] theorem withFlc (h : KeepsRecords p q) {f : Flc} (hf : f.queue = q.flc.queue) : KeepsRecords p (q.withFlc f) :=
  h.same (by simp [Part.records, hf])

/-! ### The queue -/

/-- A queue made of some entries of a sound one, in their order. -/
theorem queueSound_sublist {f g : Flc} (h : QueueSound f) (hsub : g.queue.Sublist f.queue) : QueueSound g := by
  obtain ⟨hlength, hnodup⟩ := h
  exact ⟨hsub.length_le.trans hlength, hnodup.sublist (hsub.map _)⟩

theorem setQueue (h : KeepsRecords p q) {l : List QueueEntry} (hl : l.Sublist q.flc.queue) :
    KeepsRecords p (q.setQueue l) :=
  h.ofQueue (fun hq => queueSound_sublist hq (by simpa using hl)) (by simp) (by simp) (by simp) (by simp)

@[simp] theorem emptyQueue (h : KeepsRecords p q) : KeepsRecords p (q.setQueue []) := h.setQueue (List.nil_sublist _)

@[simp] theorem leaveQueue (h : KeepsRecords p q) (i : SeatId) : KeepsRecords p (q.leaveQueue i) :=
  h.setQueue List.filter_sublist

theorem insertEntry_perm (e : QueueEntry) (l : List QueueEntry) : (Part.insertEntry e l).Perm (e :: l) := by
  induction l with
  | nil => rfl
  | cons x xs ih =>
    simp only [Part.insertEntry]
    split
    · rfl
    · exact (ih.cons x).trans (List.Perm.swap e x xs)

/-- A seat that is not queued joins a queue that is not full (R65). -/
theorem join (h : KeepsRecords p q) {i : SeatId} (hfull : q.queueFull = false) (hqueued : q.isQueued i = false)
    (b : Bool) : KeepsRecords p (q.join i b) := by
  refine h.ofQueue (fun ⟨hlength, hnodup⟩ => ?_) (by simp) (by simp) (by simp) (by simp)
  have hperm := insertEntry_perm ⟨i, (q.seat i).priority, b, q.flc.nextNumber, q.flc.seconds⟩ q.flc.queue
  constructor
  · have hlt : q.flc.queue.length < Config.queueSize := by simpa [Part.queueFull] using hfull
    calc _ = q.flc.queue.length + 1 := hperm.length_eq
      _ ≤ Config.queueSize := hlt
  · refine (hperm.map (·.seat)).nodup_iff.mpr (List.nodup_cons.mpr ⟨?_, hnodup⟩)
    simpa [Part.isQueued] using hqueued

/-! ### The slots -/

@[simp] theorem retarget (h : KeepsRecords p q) : KeepsRecords p q.retarget :=
  h.ofSlots (fun k hk => by simpa [Part.retarget, Part.slot] using hk) (by simp) (by simp) (by simp) (by simp)

theorem setSlot (h : KeepsRecords p q) {k : SlotId} {x : Slot} (hx : SlotSound (q.slot k) → SlotSound x) :
    KeepsRecords p (q.setSlot k x) := by
  refine h.ofSlots (fun j hj => ?_) (by simp) (by simp) (by simp) (by simp)
  rw [Part.setSlot_slot]
  split
  next hjk => exact hx (hjk ▸ hj)
  next => exact hj

@[simp] theorem openSlot (h : KeepsRecords p q) (k : SlotId) (i : SeatId) : KeepsRecords p (q.openSlot k i) :=
  (h.setSlot (by simp [SlotSound])).retarget

@[simp] theorem reportLeft (h : KeepsRecords p q) (x : Slot) : KeepsRecords p (q.reportLeft x) :=
  h.same (by simp [Part.records])

@[simp] theorem closeSlot (h : KeepsRecords p q) (k : SlotId) (r : SlotReason) : KeepsRecords p (q.closeSlot k r) :=
  (h.setSlot (by simp [SlotSound])).retarget.reportLeft _

/-- A slot becomes FREE at gain 0 (R97). -/
theorem freeSlotRecord (h : KeepsRecords p q) {k : SlotId} (hgain : (q.slot k).gain = 0) :
    KeepsRecords p (q.freeSlotRecord k) := by
  have hfree : KeepsRecords p (q.setSlot k
      { q.slot k with state := .free, holder := none, warned := .none, reason := none }) :=
    h.setSlot fun _ _ => ⟨rfl, rfl, rfl, hgain⟩
  exact (hfree.same (by simp [Part.records])).retarget

@[simp] theorem cutAll (h : KeepsRecords p q) : KeepsRecords p q.cutAll := by
  refine KeepsRecords.retarget (h.foldl (fun s k hs => ?_) _)
  simp only [Part.cutSlot]
  split
  · exact hs
  · have hcut : KeepsRecords p (s.setSlot k Slot.reset) := hs.setSlot fun _ _ => ⟨rfl, rfl, rfl, rfl⟩
    exact KeepsRecords.reportLeft (hcut.same (by simp [Part.records])) _

@[simp] theorem moveGains (h : KeepsRecords p q) : KeepsRecords p q.moveGains := by
  refine h.ofSlots (fun k hk hfree => ?_) (by simp) (by simp) (by simp) (by simp)
  have hslot : q.moveGains.slot k = { q.slot k with gain := Part.nextGain q.sgu.gain (q.slot k) } := by
    simp [Part.moveGains, Part.slot]
  rw [hslot] at hfree ⊢
  obtain ⟨hholder, hreason, hwarned, hgain⟩ := hk hfree
  exact ⟨hholder, hreason, hwarned, by simpa [Part.nextGain, show (q.slot k).state = .free from hfree] using hgain⟩

@[simp] theorem enterLive (h : KeepsRecords p q) (k : SlotId) : KeepsRecords p (q.enterLive k) := by
  simp only [Part.enterLive]
  split
  · have hlive : KeepsRecords p ((q.setSlot k { q.slot k with state := .live }).notice .floor) :=
      (h.setSlot (by simp [SlotSound])).notice _
    split
    · exact hlive.same (by simp [Part.records])
    · exact hlive
  · exact h

@[simp] theorem enterLives (h : KeepsRecords p q) : KeepsRecords p q.enterLives :=
  h.foldl (fun _ k hs => hs.enterLive k) _

@[simp] theorem takeGain (h : KeepsRecords p q) (g : GainSettings) : KeepsRecords p (q.takeGain g) := by
  refine KeepsRecords.retarget (h.ofSlots (fun k hk hfree => ?_) (by simp) (by simp) (by simp) (by simp))
  simp only [Part.slot, Part.withSgu_sgu, get_mapTable] at hfree ⊢
  obtain ⟨hholder, hreason, hwarned, hgain⟩ := hk hfree
  have hzero : (q.sgu.slots.get k).gain = 0 := hgain
  exact ⟨hholder, hreason, hwarned, by simp [hzero]⟩

/-! ### The floor -/

@[simp] theorem grantSlot (h : KeepsRecords p q) (k : SlotId) (i : SeatId) : KeepsRecords p (q.grantSlot k i) := by
  simp only [Part.grantSlot, Part.countGrant]
  exact ((((h.openSlot k i).notice .floor).leaveQueue i).withFlc (by simp)).count i _

@[simp] theorem close (h : KeepsRecords p q) (k : SlotId) (r : SlotReason) : KeepsRecords p (q.close k r) := by
  unfold Part.close
  split
  · exact ((h.withFlc (by rfl)).closeSlot k r).notice .floor
  · exact h

@[simp] theorem autoAdvance (h : KeepsRecords p q) : KeepsRecords p q.autoAdvance := by
  have hadvance : ∀ n {s : Part}, KeepsRecords p s → KeepsRecords p (Part.advance n s) := by
    intro n
    induction n with
    | zero => exact fun hs => hs
    | succ n ih =>
      intro s hs
      simp only [Part.advance]
      split
      · exact ih (grantSlot hs _ _)
      · exact hs
  unfold Part.autoAdvance
  split
  · exact hadvance _ h
  · exact h

theorem takeFree (h : KeepsRecords p q) {k : SlotId} (hgain : (q.slot k).gain = 0) : KeepsRecords p (q.takeFree k) := by
  have hfree := h.freeSlotRecord hgain
  simp only [Part.takeFree]
  split <;> simp [hfree]

@[simp] theorem countRequest (h : KeepsRecords p q) (i : SeatId) : KeepsRecords p (q.countRequest i) := h.count i _

theorem newRequest (h : KeepsRecords p q) {i : SeatId} (hqueued : q.isQueued i = false) :
    KeepsRecords p (q.newRequest i).1 := by
  have hjoin (b : Bool) (hfull : ¬ q.queueFull = true) : KeepsRecords p (q.join i b) :=
    h.join (by simpa using hfull) hqueued b
  simp only [Part.newRequest]
  split
  · split
    · simp [Part.openAtOnce, h]
    · split
      · simp [Part.refuseFull, h]
      next hfull => simp [hjoin _ hfull]
  · split
    · simp [Part.refuseFull, h]
    next hfull => simp [Part.joinAndAdvance, hjoin _ hfull]
  · split
    · simp [Part.refuseFull, h]
    next hfull => simp [hjoin _ hfull]
  · split
    · simp [Part.openAtOnce, h]
    · split
      · simp [Part.refuseFull, h]
      next hfull =>
        split
        next k _ =>
          have hclosed : KeepsRecords p ((q.close k .override).join i true) :=
            (h.close k _).join (by simpa [Part.queueFull] using hfull) (by simpa [Part.isQueued] using hqueued) _
          simp [Part.joinAndAdvance, hclosed]
        next => simp [Part.joinAndAdvance, hjoin _ hfull]

@[simp] theorem delegatePress (h : KeepsRecords p q) (i : SeatId) : KeepsRecords p (q.delegatePress i).1 := by
  unfold Part.delegatePress
  split
  · simp [h]
  · split
    · simp [h]
    next hqueued =>
      split
      · split <;> simp [h]
      · exact h.newRequest (by simpa using hqueued)

@[simp] theorem chairToggle (h : KeepsRecords p q) : KeepsRecords p q.chairToggle.1 := by
  simp only [Part.chairToggle]
  (repeat' split) <;> simp [h]

@[simp] theorem grantRequest (h : KeepsRecords p q) (i : SeatId) : KeepsRecords p (q.grantRequest i).1 := by
  unfold Part.grantRequest
  (repeat' split) <;> simp_all [join]

@[simp] theorem grantNext (h : KeepsRecords p q) : KeepsRecords p q.grantNext.1 := by
  unfold Part.grantNext
  (repeat' split) <;> simp [h]

@[simp] theorem chairNext (h : KeepsRecords p q) : KeepsRecords p q.chairNext := by
  unfold Part.chairNext
  split <;> simp [h]

@[simp] theorem closeEach (h : KeepsRecords p q) (ks : List SlotId) (r : SlotReason) : KeepsRecords p (q.closeEach ks r) :=
  h.foldl (fun _ k hs => hs.close k r) _

@[simp] theorem muteAll (h : KeepsRecords p q) : KeepsRecords p q.muteAll := h.closeEach _ _

/-- SET MODE changes the marks of the entries and none of their seats (R82). -/
@[simp] theorem setMode (h : KeepsRecords p q) (m : FloorMode) : KeepsRecords p (q.setMode m) := by
  refine autoAdvance (noticeIf (h.ofQueue ?_ (by simp) (by simp) (by simp) (by simp)) _ _)
  simp only [Part.withFlc_flc, QueueSound, List.length_map, List.map_map, Function.comp_def]
  exact id

@[simp] theorem setLimit (h : KeepsRecords p q) (n : Nat) : KeepsRecords p (q.setLimit n) := by
  have hq : KeepsRecords p ((q.withFlc { q.flc with limit := n }).noticeIf (q.flc.limit ≠ n) .floor) :=
    (h.withFlc (by rfl)).noticeIf _ _
  simp only [Part.setLimit]
  split
  · exact hq.closeEach _ _
  · split
    · exact hq.autoAdvance
    · exact hq

@[simp] theorem evaluateAll (h : KeepsRecords p q) : KeepsRecords p q.evaluateAll := by
  refine h.foldl (fun s k hs => ?_) _
  simp only [Part.evaluate]
  split
  next hopen =>
    have hmark (m : Warned) : KeepsRecords p (s.setSlot k { s.slot k with warned := m }) :=
      hs.setSlot fun _ hfree => by simp [Part.isOpenState, show (s.slot k).state = .free from hfree] at hopen
    split <;> simp [hmark]
  next => exact hs

@[simp] theorem setSpeakLimit (h : KeepsRecords p q) (n : Nat) (b : Bool) : KeepsRecords p (q.setSpeakLimit n b) := by
  unfold Part.setSpeakLimit
  exact ((h.withFlc (by rfl)).noticeIf _ _).evaluateAll

@[simp] theorem floorSecond (h : KeepsRecords p q) : KeepsRecords p q.floorSecond := by
  refine evaluateAll (foldl (fun s k hs => ?_) _ (h.withFlc (by rfl)))
  simp only [Part.countSlotSecond]
  split
  next hopen =>
    have hslot : KeepsRecords p (s.setSlot k { s.slot k with elapsed := Part.bump16 (s.slot k).elapsed }) :=
      hs.setSlot fun _ hfree => by simp [Part.isOpenState, show (s.slot k).state = .free from hfree] at hopen
    split <;> simp [Part.countSpeaking, hslot]
  next => exact hs

@[simp] theorem closeFloor (h : KeepsRecords p q) : KeepsRecords p q.closeFloor := by
  have hslots : KeepsRecords p (Part.allSlots.foldl Part.floorCloseSlot (q.setQueue [])) := by
    refine h.emptyQueue.foldl (fun s k hs => ?_) _
    unfold Part.floorCloseSlot
    split
    · exact hs.close k _
    · split
      next hclosing => exact hs.setSlot fun _ hfree => by simp [hclosing] at hfree
      next => exact hs
  simp only [Part.closeFloor]
  refine noticeIf (withFlc hslots ?_) _ _
  simp only

@[simp] theorem seatVacant (h : KeepsRecords p q) (i : SeatId) : KeepsRecords p (q.seatVacant i) := by
  simp only [Part.seatVacant]
  split <;> simp [h]

@[simp] theorem resetFloor (h : KeepsRecords p q) : KeepsRecords p q.resetFloor := by
  simp only [Part.resetFloor]
  have hcut : KeepsRecords p ((q.setQueue []).cutAll.noticeIf (!q.allFree) .floor) := h.emptyQueue.cutAll.noticeIf _ _
  refine applyFloorPreset ?_ _
  refine noticeIf ?_ _ _
  refine withFlc ?_ ?_
  · exact hcut
  · simp

/-! ### The banks -/

theorem setStaging (h : KeepsRecords p q) {b : Bank} (hb : BanksSound q → b.role = .staging ∧ BankSound b) :
    KeepsRecords p (q.setStaging b) := by
  refine h.ofBanks (fun hq => ?_) (by simp) (by simp) (by simp)
  obtain ⟨hrole, hsound⟩ := hb hq
  have hstaging := Part.staging_role hq
  obtain ⟨hroles, hA, hB⟩ := hq
  cases hpub : q.publishedIsA with
  | true =>
    simp only [Part.setStaging, hpub, if_true]
    exact ⟨by simp_all [Part.publishedIsA], hA, hsound⟩
  | false =>
    simp only [Part.setStaging, Part.staging, hpub, Bool.false_eq_true, if_false] at hstaging ⊢
    exact ⟨fun heq => hroles (by simp_all), hsound, hB⟩

/-- The banks of a part after a change of the published one's entries, which an EMPTY bank does not have (R150). -/
theorem setPublishedEntries (h : KeepsRecords p q) (f : Entry → Entry) :
    KeepsRecords p (q.setPublished { q.published with entries := q.published.entries.map f }) := by
  have hbank {b : Bank} (hb : BankSound b) : BankSound { b with entries := b.entries.map f } := by
    obtain ⟨hpublished, hstaging, hempty⟩ := hb
    refine ⟨hpublished, hstaging, fun hstate => ?_⟩
    have hnothing := hempty hstate
    simp only [Part.emptied, Bank.mk.injEq, true_and] at hnothing ⊢
    obtain ⟨hst, hdeclared, hreceived, hauto, hcause, hentries⟩ := hnothing
    exact ⟨hst, hdeclared, hreceived, hauto, hcause, by rw [← hentries]; rfl⟩
  refine h.ofBanks (fun ⟨hroles, hA, hB⟩ => ?_) (by simp) (by simp) (by simp)
  cases hpub : q.publishedIsA with
  | true =>
    simp only [Part.setPublished, Part.published, hpub, if_true]
    exact ⟨hroles, hbank hA, hB⟩
  | false =>
    simp only [Part.setPublished, Part.published, hpub, Bool.false_eq_true, if_false]
    exact ⟨hroles, hA, hbank hB⟩

@[simp] theorem markEntry (h : KeepsRecords p q) (id : Nat) (old new : EntryStatus) :
    KeepsRecords p (q.markEntry id old new) :=
  (h.setPublishedEntries _).noticeIf _ _

@[simp] theorem markMissed (h : KeepsRecords p q) : KeepsRecords p q.markMissed := by
  simp only [Part.markMissed]
  split
  · exact (h.setPublishedEntries _).noticeIf _ _
  · exact h

@[simp] theorem exchangeBanks (h : KeepsRecords p q) : KeepsRecords p q.exchangeBanks := by
  refine h.ofBanks (fun hq => ?_) (by simp) (by simp) (by simp)
  have hpublished : BankSound { q.staging with role := .published, state := .published } :=
    ⟨.inl rfl, .inr (.inr rfl), nofun⟩
  have hemptied : BankSound (Part.emptied q.published) := ⟨.inr nofun, .inl rfl, fun _ => rfl⟩
  cases hpub : q.publishedIsA with
  | true =>
    simp only [Part.exchangeBanks, hpub, if_true]
    exact ⟨nofun, hemptied, hpublished⟩
  | false =>
    simp only [Part.exchangeBanks, hpub, Bool.false_eq_true, if_false]
    exact ⟨nofun, hpublished, hemptied⟩

/-- The staging bank in another state than EMPTY and PUBLISHED (R150). -/
theorem setStagingState (h : KeepsRecords p q) {b : Bank} (hrole : b.role = q.staging.role) (hempty : b.state ≠ .empty)
    (hpublished : b.state ≠ .published) : KeepsRecords p (q.setStaging b) :=
  h.setStaging fun hq =>
    have hb : b.role = .staging := hrole.trans (Part.staging_role hq)
    ⟨hb, .inr hpublished, .inl hb, fun hstate => absurd hstate hempty⟩

@[simp] theorem startCheck (h : KeepsRecords p q) : KeepsRecords p q.startCheck :=
  notice (h.setStagingState (b := { q.staging with state := .checking }) rfl nofun nofun) _

@[simp] theorem bankOpen (h : KeepsRecords p q) (day count auto : Nat) : KeepsRecords p (q.bankOpen day count auto).1 := by
  unfold Part.bankOpen
  split
  · exact h
  · split
    · exact h
    · have hopen : ∀ a, KeepsRecords p (q.setStaging ⟨.staging, .filling, day, count, 0, a, .none, []⟩) := fun a =>
        h.setStaging fun _ => ⟨rfl, .inr nofun, .inl rfl, nofun⟩
      split <;> simp [hopen]

@[simp] theorem faultBank (h : KeepsRecords p q) (c : BankFault) : KeepsRecords p (q.faultBank c) :=
  notice (h.setStagingState (b := { q.staging with state := .faulty, cause := c }) rfl nofun nofun) _

@[simp] theorem bookingEntry (h : KeepsRecords p q) (l : List Byte) : KeepsRecords p (q.bookingEntry l).1 := by
  simp only [Part.bookingEntry]
  split
  · exact h
  · split
    · exact h
    next hfilling =>
      have hstate : q.staging.state = .filling := by simpa using hfilling
      split
      · exact h.faultBank _
      · split
        · exact h.faultBank _
        next x _ =>
          have hadded : KeepsRecords p (q.setStaging { q.staging with
              entries := q.staging.entries ++ [⟨x, .pending⟩], received := q.staging.received + 1 }) :=
            h.setStagingState rfl (by simp [hstate]) (by simp [hstate])
          split
          · exact hadded.startCheck
          · exact hadded

@[simp] theorem bankAbandon (h : KeepsRecords p q) : KeepsRecords p q.bankAbandon.1 := by
  simp only [Part.bankAbandon]
  split
  · exact h
  · exact noticeIf (h.setStaging (b := Part.emptied q.staging) fun _ => ⟨rfl, .inr nofun, .inl rfl, fun _ => rfl⟩) _ _

/-! ### The store -/

@[simp] theorem writeSummary (h : KeepsRecords p q) (x : Summary) : KeepsRecords p (q.writeSummary x) := by
  unfold Part.writeSummary
  refine notice (h.ofStore (fun hq => ?_) (by rfl) (by rfl) (by rfl) (by rfl)) _
  simp only [Part.withSsu_ssu, Part.storeAfter]
  split
  · simp; omega
  · simp; omega

@[simp] theorem summaryRelease (h : KeepsRecords p q) (n : Nat) : KeepsRecords p (q.summaryRelease n).1 := by
  unfold Part.summaryRelease
  split
  · exact h
  next x rest hstore =>
    split
    · exact h.ofStore (fun hq => by simp [hstore] at hq ⊢; omega) rfl rfl rfl rfl
    · exact h

/-! ### Sessions -/

@[simp] theorem enterWindup (h : KeepsRecords p q) (r : CloseReason) : KeepsRecords p (q.enterWindup r) := by
  unfold Part.enterWindup
  split
  · exact (h.putSession _).closeFloor
  · exact h

@[simp] theorem stageStep (h : KeepsRecords p q) : KeepsRecords p q.stageStep := by
  simp only [Part.stageStep]
  (repeat' split) <;> simp [h]

@[simp] theorem enterSession (h : KeepsRecords p q) (x : Session) : KeepsRecords p (q.enterSession x) :=
  (h.putSession _).openFloor.stageStep

@[simp] theorem checkIn (h : KeepsRecords p q) : KeepsRecords p q.checkIn := by
  unfold Part.checkIn
  (repeat' split) <;> simp [h]

@[simp] theorem openBooked (h : KeepsRecords p q) (b : Booking) : KeepsRecords p (q.openBooked b) := by
  have hopened : KeepsRecords p (((((q.putSession (some (q.bookedSession b))).markEntry b.id .pending
      .active).setPendingStart none).applyFloorPreset b.floor).applyPreset b.screen) :=
    ((((h.putSession _).markEntry _ _ _).setPendingStart _).applyFloorPreset _).applyPreset _
  simp only [Part.openBooked]
  split
  · exact (hopened.setDwell 0).checkIn
  · exact (hopened.setDwell 0).enterSession _

@[simp] theorem openWalkIn (h : KeepsRecords p q) : KeepsRecords p q.openWalkIn :=
  ((((h.putSession _).applyFloorPreset _).applyPreset _).setDwell 0).enterSession _

@[simp] theorem openPending (h : KeepsRecords p q) : KeepsRecords p q.openPending := by
  unfold Part.openPending
  (repeat' split) <;> simp [h]

@[simp] theorem closeRecords (h : KeepsRecords p q) (x : Session) (r : CloseReason) :
    KeepsRecords p (q.closeRecords x r) := by
  have hwritten : KeepsRecords p (q.writeSummary (q.summaryOf x r)).clearCounters := (h.writeSummary _).clearCounters
  simp only [Part.closeRecords]
  split
  · exact hwritten.markEntry _ _ _
  · exact hwritten

@[simp] theorem closeSession (h : KeepsRecords p q) (x : Session) (r : CloseReason) :
    KeepsRecords p (q.closeSession x r) :=
  (((h.closeRecords x r).routeClose _).applyFloorPreset _).putSession _

@[simp] theorem closeWindup (h : KeepsRecords p q) : KeepsRecords p q.closeWindup := by
  unfold Part.closeWindup
  (repeat' split) <;> simp [h]

@[simp] theorem completeWindup (h : KeepsRecords p q) : KeepsRecords p q.completeWindup := by
  unfold Part.completeWindup
  split
  · split
    · exact h.closeWindup.openPending.closeWindup
    · exact h
  · exact h

@[simp] theorem windup (h : KeepsRecords p q) (r : CloseReason) : KeepsRecords p (q.windup r) :=
  (h.enterWindup r).completeWindup

@[simp] theorem stageTest (h : KeepsRecords p q) : KeepsRecords p q.stageTest := h.stageStep.completeWindup

@[simp] theorem checkInTest (h : KeepsRecords p q) : KeepsRecords p q.checkInTest := h.checkIn.completeWindup

@[simp] theorem release (h : KeepsRecords p q) (x : Session) : KeepsRecords p (q.release x) :=
  (h.closeSession x .released).openPending.closeWindup

@[simp] theorem releaseTest (h : KeepsRecords p q) (b : Bool) : KeepsRecords p (q.releaseTest b) := by
  simp only [Part.releaseTest]
  (repeat' split) <;> simp [h]

@[simp] theorem endTest (h : KeepsRecords p q) (b : Bool) : KeepsRecords p (q.endTest b) := (h.releaseTest b).stageTest

@[simp] theorem openingTest (h : KeepsRecords p q) : KeepsRecords p q.openingTest := by
  unfold Part.openingTest
  (repeat' split) <;> simp [h]

@[simp] theorem dropStalePending (h : KeepsRecords p q) : KeepsRecords p q.dropStalePending :=
  h.same (by simp [Part.records])

@[simp] theorem walkInTest (h : KeepsRecords p q) : KeepsRecords p q.walkInTest := by
  unfold Part.walkInTest
  split <;> simp [h]

@[simp] theorem repeatWalkIn (h : KeepsRecords p q) : KeepsRecords p q.repeatWalkIn := by
  unfold Part.repeatWalkIn
  split <;> simp [h]

@[simp] theorem concludeDwell (h : KeepsRecords p q) (before : Part) : KeepsRecords p (Part.concludeDwell before q) := by
  unfold Part.concludeDwell
  (repeat' split) <;> simp [h]

@[simp] theorem vacancyTest (h : KeepsRecords p q) : KeepsRecords p q.vacancyTest := by
  unfold Part.vacancyTest
  (repeat' split) <;> simp [h]

@[simp] theorem sessionSecond (h : KeepsRecords p q) : KeepsRecords p q.sessionSecond := by
  have hvacancy : KeepsRecords p q.countVacancy := by
    unfold Part.countVacancy
    (repeat' split) <;> simp [h]
  simp only [Part.sessionSecond, Part.countDwell]
  split
  · split
    · exact (hvacancy.setDwell _).walkInTest
    · exact hvacancy.setDwell _
  · exact hvacancy

@[simp] theorem countAwait (h : KeepsRecords p q) (before : Part) : KeepsRecords p (Part.countAwait before q) :=
  h.same (by simp [Part.records])

@[simp] theorem sessionMinute (h : KeepsRecords p q) (before : Part) : KeepsRecords p (Part.sessionMinute before q) :=
  ((h.dropStalePending.countAwait before).endTest true).openingTest.repeatWalkIn

@[simp] theorem sessionJump (h : KeepsRecords p q) : KeepsRecords p q.sessionJump :=
  (h.dropStalePending.endTest false).openingTest.repeatWalkIn

@[simp] theorem occupiedChanged (h : KeepsRecords p q) (old : Nat) : KeepsRecords p (q.occupiedChanged old) := by
  unfold Part.occupiedChanged
  split <;> simp [h]

@[simp] theorem enterActive (h : KeepsRecords p q) : KeepsRecords p q.enterActive :=
  (h.changePower .active).openPending.closeWindup.repeatWalkIn

@[simp] theorem endSettling (h : KeepsRecords p q) : KeepsRecords p q.endSettling := (h.withPwu _).enterActive

@[simp] theorem extendTo (h : KeepsRecords p q) (x : Session) (e : Nat) : KeepsRecords p (q.extendTo x e) :=
  (((h.setSession _).noticeIf _ _).releaseTest true).stageTest

@[simp] theorem resetSession (h : KeepsRecords p q) : KeepsRecords p q.resetSession := by
  simp only [Part.resetSession]
  split
  · exact (((h.closeRecords _ _).putSession _).setPendingStart _).setDwell 0
  · exact (h.setPendingStart _).setDwell 0

/-! ### Seats -/

@[simp] theorem updateCount (h : KeepsRecords p q) : KeepsRecords p q.updateCount := by
  have hcounted : KeepsRecords p (q.withSmn { q.smn with occupied := q.occupiedSeats }) := h.withSmn _
  simp only [Part.updateCount]
  split
  · exact hcounted
  · split
    · exact (hcounted.clearQuiet.occupiedChanged _).concludeDwell _
    · exact (hcounted.occupiedChanged _).concludeDwell _

@[simp] theorem changePresence (h : KeepsRecords p q) (i : SeatId) (y : Presence) (n : Nat) :
    KeepsRecords p (q.changePresence i y n) := by
  have hseat : KeepsRecords p (q.setSeat i { q.seat i with presence := y, absence := n }) := h.setSeat i _
  simp only [Part.changePresence]
  split
  · exact hseat
  · split
    · exact ((hseat.notice _).seatVacant i).updateCount
    · exact (hseat.notice _).updateCount

@[simp] theorem proximityReport (h : KeepsRecords p q) (i : SeatId) (o : Sensed) :
    KeepsRecords p (q.proximityReport i o) := h.changePresence i _ _

@[simp] theorem absenceExpiry (h : KeepsRecords p q) (i : SeatId) : KeepsRecords p (q.absenceExpiry i) := by
  unfold Part.absenceExpiry
  split <;> simp [h]

@[simp] theorem seatSecond (h : KeepsRecords p q) : KeepsRecords p q.seatSecond := by
  have hoccupied : KeepsRecords p ((List.finRange 20).foldl Part.countOccupied q) := h.same (by simp [Part.records])
  refine hoccupied.foldl (fun s i hs => ?_) _
  unfold Part.countAbsence
  split <;> simp [hs]

@[simp] theorem keyDown (h : KeepsRecords p q) (i : SeatId) : KeepsRecords p (q.keyDown i) := by
  simp only [Part.keyDown]
  (repeat' split) <;> simp [h, Part.countStray]

@[simp] theorem keyRelease (h : KeepsRecords p q) (i : SeatId) : KeepsRecords p (q.keyRelease i) := by
  simp only [Part.keyRelease]
  split <;> simp [h]

@[simp] theorem keyReport (h : KeepsRecords p q) (i : SeatId) (o : Sensed) (c : ReportCause) :
    KeepsRecords p (q.keyReport i o c) := by
  unfold Part.keyReport
  (repeat' split) <;> simp [h]

@[simp] theorem takeChairNext (h : KeepsRecords p q) : KeepsRecords p q.takeChairNext := by
  simp only [Part.takeChairNext]
  split <;> simp [h]

@[simp] theorem countPresses (h : KeepsRecords p q) (period : Nat) (seats : List SeatId) :
    KeepsRecords p (q.countPresses period seats) := by
  refine h.foldl (fun s i hs => ?_) _
  simp only [Part.countPress]
  (repeat' split) <;> simp [hs]

@[simp] theorem report (h : KeepsRecords p q) (c : ChannelId) (o : Sensed) (cause : ReportCause) :
    KeepsRecords p (q.report c o cause) := by
  simp only [Part.report]
  (repeat' split) <;> simp [h]

/-! ### Sensing -/

@[simp] theorem putChannel (h : KeepsRecords p q) (c : ChannelId) (r : ChanResult) : KeepsRecords p (q.putChannel c r) := by
  refine (h.setChannel c r.1).foldl (fun s o hs => ?_) _
  cases o with
  | report o cause => exact hs.report c o cause
  | notice m => exact hs.noticeCause _ m

@[simp] theorem startUpTest (h : KeepsRecords p q) : KeepsRecords p q.startUpTest := by
  unfold Part.startUpTest
  split <;> simp [h]

theorem sensingFrame (h : KeepsRecords p q) (readings : List Nat) (first : List ChannelId) (b : Bool) :
    KeepsRecords p (q.sensingFrame readings first b) := by
  have hframe : ∀ {s : Part} (standby : Bool) (change : Int) (l : List ChannelId), KeepsRecords p s →
      KeepsRecords p (l.foldl (Part.channelFrame standby change readings) s) := by
    refine fun standby change l hs => hs.foldl (fun s c hs => ?_) l
    unfold Part.channelFrame
    split <;> simp [hs]
  have hsettle : ∀ {s : Part} (counts : Bool), KeepsRecords p s → KeepsRecords p (s.settleFrame counts) := by
    intro s counts hs
    simp only [Part.settleFrame]
    (repeat' split) <;> simp [hs]
  cases b with
  | true => exact hsettle _ (hframe _ _ _ ((h.putChannel 40 _).countPresses _ _)).startUpTest
  | false => exact hsettle _ ((hframe _ _ _ (h.putChannel 40 _)).countPresses _ _).startUpTest

theorem haltReseed (h : KeepsRecords p q) (c : ChannelId) : KeepsRecords p (q.haltReseed c) := by
  simp only [Part.haltReseed]
  split <;> simp [h]

theorem bandRetune (h : KeepsRecords p q) (c : ChannelId) : KeepsRecords p (q.bandRetune c) := by
  simp only [Part.bandRetune]
  split <;> simp [h]

theorem retuneDone (h : KeepsRecords p q) (c : ChannelId) : KeepsRecords p (q.retuneDone c) := by
  simp only [Part.retuneDone]
  split <;> simp [h]

@[simp] theorem setProfile (h : KeepsRecords p q) (k : ProfileKind) (x : Profile) : KeepsRecords p (q.setProfile k x) := by
  have hfold : ∀ {s : Part} (l : List ChannelId), KeepsRecords p s → KeepsRecords p (l.foldl Part.directionReseed s) := by
    refine fun l hs => hs.foldl (fun s c hs => ?_) l
    simp only [Part.directionReseed]
    split <;> simp [hs]
  have hput : KeepsRecords p (q.putProfile k x) := h.same (by simp [Part.records])
  simp only [Part.setProfile]
  (repeat' split) <;> simp [hput, hfold]

/-! ### Sources and standby -/

@[simp] theorem putSocket (h : KeepsRecords p q) (k : SocketId) (x : Socket) : KeepsRecords p (q.putSocket k x) :=
  h.same (by simp [Part.records])

@[simp] theorem standbyKey (h : KeepsRecords p q) (i : SeatId) : KeepsRecords p (q.standbyKey i) := h.putChannel _ _

@[simp] theorem standbySlots (h : KeepsRecords p q) : KeepsRecords p q.standbySlots := h.same (by simp [Part.records])

@[simp] theorem standbySocket (h : KeepsRecords p q) (k : SocketId) : KeepsRecords p (q.standbySocket k) := by
  unfold Part.standbySocket
  split <;> simp [h]

@[simp] theorem setOverride (h : KeepsRecords p q) (b : Bool) : KeepsRecords p (q.setOverride b) :=
  h.same (by simp [Part.records])

@[simp] theorem standbyEntry (h : KeepsRecords p q) : KeepsRecords p q.standbyEntry := by
  simp only [Part.standbyEntry]
  refine setOverride (foldl (fun s k hs => hs.standbySocket k) _ (standbySlots ?_)) true
  exact foldl (fun s i hs => hs.standbyKey i) _ ((h.changePower _).withPwu _)

@[simp] theorem standbyTest (h : KeepsRecords p q) : KeepsRecords p q.standbyTest := by
  unfold Part.standbyTest
  split <;> simp [h]

@[simp] theorem powerSecond (h : KeepsRecords p q) (minute : Bool) : KeepsRecords p (q.powerSecond minute) := by
  have hquiet : KeepsRecords p q.countQuiet := h.same (by simp [Part.records])
  have hwake : KeepsRecords p q.countQuiet.preWake := hquiet.same (by simp [Part.records])
  cases minute with
  | true => exact hwake.standbyTest
  | false => exact hquiet.standbyTest

@[simp] theorem standbyEnter (h : KeepsRecords p q) : KeepsRecords p q.standbyEnter.1 := by
  unfold Part.standbyEnter
  split <;> simp [h]

/-! ### The clock and the banks' changes -/

@[simp] theorem relink (h : KeepsRecords p q) : KeepsRecords p q.relink := by
  unfold Part.relink
  split
  · split
    · split
      · exact ((h.markEntry _ _ _).setSession _).noticeIf _ _
      · exact (h.setSession _).noticeIf _ _
    · exact h
  · exact h

@[simp] theorem relinkTests (h : KeepsRecords p q) : KeepsRecords p q.relinkTests := by
  unfold Part.relinkTests
  (repeat' split) <;> simp [h]

@[simp] theorem swap (h : KeepsRecords p q) : KeepsRecords p q.swap := by
  simp only [Part.swap]
  refine repeatWalkIn (openingTest (relinkTests (notice ?_ _)))
  exact h.exchangeBanks.relink.markMissed.dropStalePending

theorem secondEvent (h : KeepsRecords p q) (first : List ClockUser) : KeepsRecords p (q.secondEvent first) := by
  have hclock : KeepsRecords p (q.setClock (Part.tick q.sch.clock)) := h.setClock _
  have hmidnight : ∀ {s : Part}, KeepsRecords p s → KeepsRecords p s.midnight := by
    intro s hs
    unfold Part.midnight
    split <;> simp [hs]
  refine foldl (fun s u hs => ?_) _ ?_
  · cases u with
    | flc => exact hs.floorSecond
    | smn => exact hs.seatSecond
    | ssu =>
      simp only [Part.secondFor]
      split <;> simp [hs]
    | pwu => exact hs.powerSecond _
  · (repeat' split) <;> simp [hclock, hmidnight]

@[simp] theorem clockSet (h : KeepsRecords p q) (day minute second : Nat) :
    KeepsRecords p (q.clockSet day minute second).1 := by
  have hmarked := (h.setClock ⟨day, minute, second, true⟩).markMissed
  simp only [Part.clockSet]
  split
  · exact h
  · have hswapped := ite (c := (q.setClock ⟨day, minute, second, true⟩).markMissed.staging.state = .ready ∧
      (q.setClock ⟨day, minute, second, true⟩).markMissed.staging.day ≤
        (q.setClock ⟨day, minute, second, true⟩).markMissed.sch.clock.day) hmarked.swap hmarked
    dsimp only
    exact (hswapped.notice .schedule).sessionJump

@[simp] theorem bankPublish (h : KeepsRecords p q) : KeepsRecords p q.bankPublish.1 := by
  simp only [Part.bankPublish]
  (repeat' split) <;> simp [h]

/-- A bank that takes the role of the staging bank takes its place (R150). -/
theorem setStaging_staging_role {b : Bank} (hrole : b.role = q.staging.role) :
    (q.setStaging b).staging.role = q.staging.role := by
  unfold Part.setStaging
  split
  next hpub => simp_all [Part.staging, Part.publishedIsA]
  next hpub => simp_all [Part.staging, Part.publishedIsA]

@[simp] theorem checkCompletion (h : KeepsRecords p q) : KeepsRecords p q.checkCompletion := by
  simp only [Part.checkCompletion]
  split
  next hchecking =>
    have hsorted : KeepsRecords p (q.setStaging
        { q.staging with entries := Part.sortEntries q.staging.entries }) :=
      h.setStagingState rfl (by simp [hchecking]) (by simp [hchecking])
    have hend (b : Bank) (hrole : b.role = q.staging.role) (hempty : b.state ≠ .empty)
        (hpublished : b.state ≠ .published) :
        KeepsRecords p ((q.setStaging { q.staging with entries := Part.sortEntries q.staging.entries }).setStaging b) :=
      hsorted.setStagingState (hrole.trans (setStaging_staging_role (by rfl)).symm) hempty hpublished
    split
    · exact noticeCause (hend { q.staging with
          entries := Part.sortEntries q.staging.entries, state := .faulty, cause := .overlap } rfl nofun nofun) _ _
    · split
      · exact notice (hend { q.staging with
          entries := Part.sortEntries q.staging.entries, state := .ready } rfl nofun nofun) _
      · exact hsorted.swap
  next => exact h

@[simp] theorem bookingCancel (h : KeepsRecords p q) (id : Nat) : KeepsRecords p (q.bookingCancel id).1 := by
  simp only [Part.bookingCancel, Part.cancelEntry]
  (repeat' split) <;> simp [h]

@[simp] theorem extend (h : KeepsRecords p q) (minute : Nat) : KeepsRecords p (q.extend minute).1 := by
  unfold Part.extend
  (repeat' split) <;> simp [h]

@[simp] theorem endSession (h : KeepsRecords p q) : KeepsRecords p q.endSession.1 := by
  unfold Part.endSession
  (repeat' split) <;> simp [h]

end KeepsRecords

end Sys2Proof.Machine
end

section
/-! The rest of the operations, the events as wholes and the step: each keeps the banks, the queue, the FREE slots and the
summary store sound. -/

namespace Sys2Proof.Machine

namespace KeepsRecords

variable {p q t : Part}

/-! ### The ports -/

@[simp] theorem withPrt (h : KeepsRecords p q) (x : Prt) : KeepsRecords p (q.withPrt x) := h.same (by simp [Part.records])

@[simp] theorem setPort (h : KeepsRecords p q) (a : Port) (x : PortRecord) : KeepsRecords p (q.setPort a x) :=
  h.same (by simp [Part.records])

@[simp] theorem onPorts (h : KeepsRecords p q) (f : PortRecord → PortRecord) : KeepsRecords p (q.onPorts f) :=
  h.same (by simp [Part.records])

@[simp] theorem deliver (h : KeepsRecords p q) (a : Port) (r : Response) : KeepsRecords p (q.deliver a r) :=
  h.same (by simp [Part.records])

@[simp] theorem placeRequest (h : KeepsRecords p q) (a : Port) (r : Request) : KeepsRecords p (q.placeRequest a r) :=
  h.same (by simp [Part.records])

@[simp] theorem enterWaiting (h : KeepsRecords p q) (a : Port) : KeepsRecords p (q.enterWaiting a) :=
  h.same (by simp [Part.records])

@[simp] theorem answer (h : KeepsRecords p q) (a : Port) (r : Request) (x : Part.Reply) : KeepsRecords p (q.answer a r x) :=
  h.same (by simp [Part.records])

@[simp] theorem takeReset (h : KeepsRecords p q) (a : Port) (r : Request) : KeepsRecords p (q.takeReset a r) :=
  h.same (by simp [Part.records])

@[simp] theorem clearSent (h : KeepsRecords p q) (a : Port) : KeepsRecords p (q.clearSent a) :=
  h.same (by simp [Part.records])

@[simp] theorem readResponse (h : KeepsRecords p q) (a : SerialPort) (n : Nat) : KeepsRecords p (q.readResponse a n) :=
  h.same (by simp [Part.records])

@[simp] theorem shiftOut (h : KeepsRecords p q) (a : SerialPort) (n : Nat) : KeepsRecords p (q.shiftOut a n) :=
  h.same (by simp [Part.records])

@[simp] theorem setReceiver (h : KeepsRecords p q) (x : Receiver) : KeepsRecords p (q.setReceiver x) :=
  h.same (by simp [Part.records])

@[simp] theorem noticeRead (h : KeepsRecords p q) (a : Port) : KeepsRecords p (q.noticeRead a).1 :=
  h.same (by simp [Part.records])

@[simp] theorem maskRequest (h : KeepsRecords p q) (a : Port) (n : Nat) : KeepsRecords p (q.maskRequest a n).1 :=
  h.same (by simp [Part.records])

/-! ### The requests that set something -/

@[simp] theorem onSeat (h : KeepsRecords p q) (n : Nat) {f : SeatId → Part.Served}
    (hf : ∀ s, KeepsRecords p (f s).1) : KeepsRecords p (q.onSeat n f).1 := by
  unfold Part.onSeat
  split
  · exact hf _
  · exact h

@[simp] theorem closeRequest (h : KeepsRecords p q) (i : SeatId) : KeepsRecords p (q.closeRequest i).1 := by
  unfold Part.closeRequest
  (repeat' split) <;> simp [h]

@[simp] theorem cancelRequest (h : KeepsRecords p q) (i : SeatId) : KeepsRecords p (q.cancelRequest i).1 := by
  unfold Part.cancelRequest
  split <;> simp [h]

@[simp] theorem cancelAll (h : KeepsRecords p q) : KeepsRecords p q.cancelAll.1 := h.emptyQueue

@[simp] theorem setModeRequest (h : KeepsRecords p q) (n : Nat) : KeepsRecords p (q.setModeRequest n).1 := by
  unfold Part.setModeRequest
  split <;> simp [h]

@[simp] theorem setSpeakRequest (h : KeepsRecords p q) (n e : Nat) : KeepsRecords p (q.setSpeakRequest n e).1 := by
  unfold Part.setSpeakRequest
  split <;> simp [h]

@[simp] theorem pressRequest (h : KeepsRecords p q) (i : SeatId) : KeepsRecords p (q.pressRequest i).1 := by
  unfold Part.pressRequest
  (repeat' split) <;> simp [h]

@[simp] theorem profileRequest (h : KeepsRecords p q) (l : List Byte) : KeepsRecords p (q.profileRequest l).1 := by
  unfold Part.profileRequest
  (repeat' split) <;> simp [h]

@[simp] theorem patternRequest (h : KeepsRecords p q) (l : List Byte) : KeepsRecords p (q.patternRequest l).1 :=
  h.same (by
    unfold Part.patternRequest Part.setPattern
    (repeat' split) <;> simp [Part.records])

@[simp] theorem polarityRequest (h : KeepsRecords p q) (l : List Byte) : KeepsRecords p (q.polarityRequest l).1 :=
  h.same (by
    unfold Part.polarityRequest Part.setPolarity
    (repeat' split) <;> simp [Part.records])

@[simp] theorem retuneRequest (h : KeepsRecords p q) (scope force : Nat) :
    KeepsRecords p (q.retuneRequest scope force).1 := by
  unfold Part.retuneRequest
  split
  · split
    · exact h
    · refine foldl (fun s c hs => ?_) _ h
      exact hs.same (by simp [Part.records])
  · exact h

@[simp] theorem planSave (h : KeepsRecords p q) : KeepsRecords p q.planSave.1 := by
  unfold Part.planSave
  split <;> simp [h]

@[simp] theorem routeRequest (h : KeepsRecords p q) (l : List Byte) : KeepsRecords p (q.routeRequest l).1 :=
  h.same (by simp [Part.records])

@[simp] theorem rateRequest (h : KeepsRecords p q) (l : List Byte) : KeepsRecords p (q.rateRequest l).1 :=
  h.same (by simp [Part.records])

@[simp] theorem countSetRequest (h : KeepsRecords p q) (k d : Nat) : KeepsRecords p (q.countSetRequest k d).1 :=
  h.same (by simp [Part.records])

@[simp] theorem captureRequest (h : KeepsRecords p q) (l : List Byte) : KeepsRecords p (q.captureRequest l).1 :=
  h.same (by simp [Part.records])

@[simp] theorem presentRequest (h : KeepsRecords p q) (i n : Nat) : KeepsRecords p (q.presentRequest i n).1 :=
  h.same (by simp [Part.records])

@[simp] theorem gainRequest (h : KeepsRecords p q) (l : List Byte) : KeepsRecords p (q.gainRequest l).1 := by
  unfold Part.gainRequest Part.setGain
  (repeat' split) <;> simp [h]

@[simp] theorem tableReset (h : KeepsRecords p q) : KeepsRecords p q.tableReset := by
  have hports : KeepsRecords p q.resetPorts := ((h.onPorts _).setPort _ _).setPort _ _
  have hreset : KeepsRecords p (((q.resetPorts).resetFloor).resetSession.applyPreset 0) :=
    (hports.resetFloor.resetSession).applyPreset 0
  have hquiet := hreset.clearQuiet
  simp only [Part.tableReset, Part.resetPower]
  split
  · exact KeepsRecords.endSettling (hquiet.same (by simp [Part.records]))
  · exact hquiet.changePower _

/-! ### Serving -/

@[simp] theorem serveRead (h : KeepsRecords p q) (a : Port) (r : Request) : KeepsRecords p (q.serveRead a r).1 := by
  unfold Part.serveRead
  split <;> simp [h]

@[simp] theorem serveFloor (h : KeepsRecords p q) (r : Request) : KeepsRecords p (q.serveFloor r).1 := by
  unfold Part.serveFloor
  split <;> simp [h, Part.plain]

@[simp] theorem serveRoom (h : KeepsRecords p q) (r : Request) : KeepsRecords p (q.serveRoom r).1 := by
  unfold Part.serveRoom
  split <;> simp [h, Part.plain]

@[simp] theorem serveAv (h : KeepsRecords p q) (r : Request) : KeepsRecords p (q.serveAv r).1 := by
  unfold Part.serveAv
  split <;> simp [h]

@[simp] theorem serveOwner (h : KeepsRecords p q) (a : Port) (r : Request) : KeepsRecords p (q.serveOwner a r).1 := by
  unfold Part.serveOwner
  (repeat' split) <;> simp [h]

@[simp] theorem serveCurrent (h : KeepsRecords p q) (a : Port) : KeepsRecords p (q.serveCurrent a) := by
  simp only [Part.serveCurrent]
  split
  · exact (h.wake.serveOwner a _).answer a _ _
  · exact h

@[simp] theorem takeRequest (h : KeepsRecords p q) (a : Port) (r : Request) : KeepsRecords p (q.takeRequest a r) := by
  unfold Part.takeRequest
  split
  · exact h.wake.takeReset a r
  · split
    · exact h
    · split
      · exact ((h.wake.placeRequest a r).serveCurrent a).serveCurrent a
      · exact h.placeRequest a r

theorem requestRow (h : KeepsRecords p q) (a : Port) (r : Request) : KeepsRecords p (q.requestRow a r) := by
  have hx := h.clearSent a
  have hy := hx.takeRequest a r
  unfold Part.requestRow
  exact ite (hx.serveCurrent a) (ite (hy.serveCurrent a) hy)

theorem requestTransfer (h : KeepsRecords p q) (a : SerialPort) (bytes : List Byte) :
    KeepsRecords p (q.requestTransfer a bytes) := by
  unfold Part.requestTransfer Part.transfer
  split
  · exact h.readResponse a _
  · split
    · exact (h.shiftOut a _).takeRequest _ _
    · exact h.shiftOut a _

theorem roomByte (h : KeepsRecords p q) (b : Byte) : KeepsRecords p (q.roomByte b) := by
  simp only [Part.roomByte]
  split <;> simp [h]

theorem roomBytes (h : KeepsRecords p q) (l : List Byte) : KeepsRecords p (q.roomBytes l) :=
  h.foldl (fun _ b hs => hs.roomByte b) l

/-! ### The plan -/

@[simp] theorem handOut (h : KeepsRecords p q) (s : Settings) : KeepsRecords p (q.handOut s) := by
  simp only [Part.handOut]
  refine applyPreset (applyFloorPreset ?_ _) _
  exact h.same (Part.records_eq_iff.mpr ⟨⟨rfl, rfl⟩, rfl, rfl, rfl⟩)

@[simp] theorem startUpRetunes (h : KeepsRecords p q) : KeepsRecords p q.startUpRetunes := h.withSfe _

@[simp] theorem loadPlan (h : KeepsRecords p q) (img : List Byte) : KeepsRecords p (q.loadPlan img) := by
  have hrecord (b : Bool) : KeepsRecords p (q.loadRecord .plan b img) := h.withPln _
  simp only [Part.loadPlan]
  split
  · exact ((hrecord _).noticeCause _ _).handOut _ |>.startUpRetunes
  · exact (hrecord _).handOut _ |>.startUpRetunes

@[simp] theorem loadDefault (h : KeepsRecords p q) : KeepsRecords p q.loadDefault := by
  have hrecord : KeepsRecords p (q.loadRecord .default false (defaultImage q.pln.straps)) := h.withPln _
  exact ((hrecord.noticeCause _ _).handOut _).startUpRetunes

theorem loadEnd (h : KeepsRecords p q) (e : EepromRead) : KeepsRecords p (q.loadEnd e) := by
  unfold Part.loadEnd
  (repeat' split) <;> simp [h]

theorem saveMatch (h : KeepsRecords p q) : KeepsRecords p q.saveMatch := h.same (by simp [Part.records])

theorem saveFailure (h : KeepsRecords p q) : KeepsRecords p q.saveFailure := h.same (by simp [Part.records])

/-! ### The gain frame -/

theorem freePhase (h : KeepsRecords p q) (k : SlotId) : KeepsRecords p (q.freePhase k) := by
  unfold Part.freePhase
  split
  next hfree => exact (h.takeFree hfree.2).completeWindup
  next => exact h

theorem gainFrame (h : KeepsRecords p q) (first : List SlotId) (settlesLast : Bool) :
    KeepsRecords p (q.gainFrame first settlesLast) := by
  have hends {s : Part} (hs : KeepsRecords p s) (b : Bool) : KeepsRecords p (s.endSettles b) :=
    hs.same (by simp [Part.records])
  have htimed : KeepsRecords p q.countGainTimers.countSettles := h.same (by simp [Part.records])
  have hfreed {s : Part} (hs : KeepsRecords p s) :
      KeepsRecords p ((takenOrder first Part.allSlots).foldl Part.freePhase s.moveGains.enterLives) :=
    hs.moveGains.enterLives.foldl (fun _ k hs => hs.freePhase k) _
  have hsend {s : Part} (hs : KeepsRecords p s) : KeepsRecords p s.sendGains := hs.same (by simp [Part.records])
  have hended := (hfreed (ite (c := settlesLast = true) htimed (hends htimed false))).concludeDwell q
  exact hsend (ite (c := settlesLast = true) (hends hended true) hended)

/-! ### Sources -/

theorem takeEdge (h : KeepsRecords p q) (k : SocketId) (e : Edge) (ticks levelHeld : Nat) (b : Bool) :
    KeepsRecords p (q.takeEdge k e ticks levelHeld b) := h.same (by simp [Part.records])

theorem overflow (h : KeepsRecords p q) (k : SocketId) : KeepsRecords p (q.overflow k) := h.same (by simp [Part.records])

theorem captureTick (h : KeepsRecords p q) : KeepsRecords p q.captureTick := h.same (by simp [Part.records])

theorem endSettle (h : KeepsRecords p q) (k : ScreenId) : KeepsRecords p (q.endSettle k) := h.same (by simp [Part.records])

end KeepsRecords

/-! ### Steps -/

/-- The values that a reset leaves are sound (R11). -/
theorem keepsRecords_start (p : Part) (straps : StrapPins) (stage : Stage) :
    KeepsRecords p (Part.start straps stage) := by
  have hrecords : (Part.start straps stage).records = (Part.atReset straps stage).records := by
    simp [Part.start, Part.records]
  have hslot (k : SlotId) : (Part.atReset straps stage).slot k = Slot.reset := by
    fin_cases k <;> rfl
  refine KeepsRecords.same ⟨fun _ => ?_, fun _ => ?_, fun _ k => ?_, fun _ => ?_⟩ hrecords
  · exact ⟨show BankRole.published ≠ .staging by decide, ⟨.inl rfl, .inr (.inl rfl), fun _ => rfl⟩, ⟨.inr nofun, .inl rfl, fun _ => rfl⟩⟩
  · exact ⟨Nat.zero_le _, List.nodup_nil⟩
  · rw [hslot]
    exact fun _ => ⟨rfl, rfl, rfl, rfl⟩
  · exact Nat.zero_le _

theorem onPart_keepsRecords {s t : State} {f : Part → Part} (ht : s.onPart f = .next t)
    (hf : KeepsRecords s.part (f s.part)) : KeepsRecords s.part t.part := by
  obtain rfl := Host.Outcome.next.inj ht
  exact hf

/-- An event keeps the records sound when what it does to the part does: its end leaves them, but for a walk-in session
that it may open. -/
theorem onEvent_keepsRecords {s t : State} {f : Part → Part} (ht : s.onEvent f = .next t)
    (hf : KeepsRecords s.part (f s.part)) : KeepsRecords s.part t.part := by
  refine onPart_keepsRecords ht ?_
  unfold Part.event
  split
  · exact .refl _
  · exact (hf.concludeDwell s.part).same (by simp [Part.conclude, Part.records])

/-- The commands that are no request row stand by name; each of the others is a request taken or served on a port. -/
theorem exec_keepsRecords {i : Instr} {s t : State} (ht : exec i s = .next t) : KeepsRecords s.part t.part := by
  have h := KeepsRecords.refl s.part
  cases i with
  | powerOnResetRelease pins =>
    exact onPart_keepsRecords (f := fun _ => Part.start pins .loading) ht (keepsRecords_start _ _ _)
  | powerOnResetAssert =>
    exact onPart_keepsRecords (f := fun p => Part.start p.pln.straps .unpowered) ht (keepsRecords_start _ _ _)
  | resetPinAssert => exact onPart_keepsRecords ht (h.ite (keepsRecords_start _ _ _))
  | resetPinRelease pins =>
    exact onPart_keepsRecords (f := fun p => p.leaveReset pins) ht (h.ite (keepsRecords_start _ _ _))
  | loadEnd e => exact onEvent_keepsRecords ht (h.loadEnd e)
  | saveReadBackMatch => exact onEvent_keepsRecords ht h.saveMatch
  | saveWriteFailure => exact onEvent_keepsRecords ht h.saveFailure
  | sensingFrame readings first timersFirst => exact onEvent_keepsRecords ht (h.sensingFrame _ _ _)
  | haltLimitReseed c => exact onEvent_keepsRecords ht (h.haltReseed c)
  | bandCheckRetuneStart c => exact onEvent_keepsRecords ht (h.bandRetune c)
  | retuneCompletion c => exact onEvent_keepsRecords ht (h.retuneDone c)
  | absenceGraceExpiry seat => exact onEvent_keepsRecords ht (h.absenceExpiry seat)
  | chairNext => exact onEvent_keepsRecords ht h.takeChairNext
  | gainFrame first settlesLast => exact onEvent_keepsRecords ht (h.gainFrame _ _)
  | refusedTimerExpiry seat => exact onEvent_keepsRecords ht h
  | edgeTaken k e ticks levelHeld overflowFirst => exact onEvent_keepsRecords ht (h.takeEdge _ _ _ _ _)
  | captureOverflow k => exact onEvent_keepsRecords ht (h.overflow k)
  | settleEnd k => exact onEvent_keepsRecords ht (h.endSettle k)
  | secondEvent first => exact onEvent_keepsRecords ht (h.secondEvent first)
  | checkCompletion => exact onEvent_keepsRecords ht h.checkCompletion
  | awaitWindowExpiry => exact onEvent_keepsRecords ht (h.releaseTest true)
  | vacancyTimeout => exact onEvent_keepsRecords ht h.vacancyTest
  | walkInDwellExpiry => exact onEvent_keepsRecords ht h.repeatWalkIn
  | quietTimerExpiry => exact onEvent_keepsRecords ht h.standbyTest
  | settleComplete => exact onEvent_keepsRecords ht (KeepsRecords.ite h.endSettling h)
  | requestTransfer q bytes => exact onEvent_keepsRecords ht (h.requestTransfer q bytes)
  | responseRead q count => exact onEvent_keepsRecords ht (h.readResponse q count)
  | roomLinkFrame bytes => exact onEvent_keepsRecords ht ((h.clearSent .room).roomBytes bytes)
  | roomLinkLengthAbove64 length => exact onEvent_keepsRecords ht ((h.clearSent .room).roomByte length)
  | roomLinkGapTimeout => exact onEvent_keepsRecords ht (h.setReceiver _)
  | roomLinkFramingError => exact onEvent_keepsRecords ht (h.setReceiver _)
  | requestEntersService q => exact onEvent_keepsRecords ht ((h.clearSent q).enterWaiting q)
  | _ => exact onEvent_keepsRecords ht (h.requestRow _ _)

theorem step_keepsRecords {s t : State} (ht : step s = .next t) : KeepsRecords s.part t.part := by
  unfold step at ht
  split at ht
  next => exact onEvent_keepsRecords ht (KeepsRecords.refl _).captureTick
  next c rest _ => exact exec_keepsRecords (s := ⟨s.part, rest⟩) ht

/-- Settles O60: every operation that writes a bank, the queue, a slot or the store keeps it sound, and the others leave
the four. -/
theorem stepKeepsRecordsSound : Obligations.StepKeepsRecordsSound := by
  unfold Obligations.StepKeepsRecordsSound
  exact ⟨fun _ _ h ht => (step_keepsRecords ht).banks h, fun _ _ h ht => (step_keepsRecords ht).queue h,
    fun _ _ h ht => (step_keepsRecords ht).slots h, fun _ _ h ht => (step_keepsRecords ht).store h⟩

end Sys2Proof.Machine
end

section
/-! What a command that is one event of the part comes to, and the sources between the events that change their state: the
ticks that pass, the overflows on the way, and what the routing table is told. -/

namespace Sys2Proof.Machine

/-! ### Commands that are one event -/

/-- A command that is one event completes with what the event makes of the part. -/
theorem completes_onEvent {c : Instr} {s : State} {f : Part → Part} {post : Part → Prop}
    (hexec : exec c s = s.onEvent f) (hpost : post (Part.event f s.part)) : Completes c s post :=
  ⟨_, hexec, rfl, hpost⟩

namespace Part

variable {p : Part}

/-- A part that is not held takes the event (R11). -/
theorem event_unheld (h : p.isHeld = false) (f : Part → Part) : event f p = conclude p (f p) := by
  simp [event, h]

theorem event_held (h : p.isHeld = true) (f : Part → Part) : event f p = p := by
  simp [event, h]

/-! ### A socket's record -/

/-- The wake starts the captures outside the wake mask again, and leaves those inside it (R125). -/
theorem wake_socket (p : Part) (k : SocketId) :
    p.wake.socket k = if p.pwu.power = .standby ∧ (p.socket k).enable = true ∧ p.inMask k = false then
      { p.socket k with phase := .waitFirst, counter := 0, lastEdge := none } else p.socket k := by
  by_cases hpower : p.pwu.power = .standby <;> by_cases hout : (p.socket k).enable = true ∧ p.inMask k = false <;>
    simp_all [wake, wakeSockets, socket, inMask]

/-- What is handed on leaves the socket's own record: only a socket inside the wake mask wakes the part. -/
@[simp] theorem handSource_socket_self (p : Part) (k : SocketId) (old new : Socket) :
    (p.handSource k old new).socket k = p.socket k := by
  simp only [handSource]
  split
  · rfl
  · split
    · split
      next hmask =>
        rw [wake_socket, hmask]
        simp [socket]
      next => simp [socket]
    · simp [socket]

@[simp] theorem putSocket_socket_self (p : Part) (k : SocketId) (x : Socket) : (p.putSocket k x).socket k = x := by
  simp [putSocket]

/-- A change that takes no socket live wakes nothing, and so leaves the other sockets. -/
theorem handSource_socket {k : SocketId} {old new : Socket} (h : (socketLive new && !socketLive old) = false)
    (j : SocketId) : (p.handSource k old new).socket j = p.socket j := by
  simp only [handSource, h]
  split <;> simp [socket]

theorem putSocket_socket_ne {k j : SocketId} {x : Socket} (h : (socketLive x && !socketLive (p.socket k)) = false)
    (hj : j ≠ k) : (p.putSocket k x).socket j = p.socket j := by
  simp [putSocket, handSource_socket h, hj]

/-- A change that takes no socket live leaves the quiet timer and wakes nothing (R199, R201). -/
theorem handSource_pwu {k : SocketId} {old new : Socket} (h : (socketLive new && !socketLive old) = false) :
    (p.handSource k old new).pwu = p.pwu := by
  simp only [handSource, h]
  split <;> simp

/-- RTU is its five pieces. -/
theorem rtu_eq {t : Part} (hscreens : t.rtu.screens = p.rtu.screens) (hpresets : t.rtu.presets = p.rtu.presets)
    (hspeakers : t.rtu.speakers = p.rtu.speakers) (hroutable : t.rtu.routable = p.rtu.routable)
    (hoverride : t.rtu.override = p.rtu.override) : t.rtu = p.rtu := by
  cases ht : t.rtu
  cases hp : p.rtu
  simp_all

/-! ### Overflows (R115, R119) -/

/-- A socket's record after an overflow of its running capture. -/
def overflowed (p : Part) (k : SocketId) : Socket :=
  sourceStep p.scu.agree p.scu.drop { p.socket k with counter := 0, phase := .waitFirst } .overflow

theorem overflow_eq {k : SocketId} (h : p.capturing k = true) : p.overflow k = p.putSocket k (p.overflowed k) := by
  simp [overflow, h, captureEvent, overflowed]

/-- An overflow moves the state and its counters; the phase starts again, and what was measured is kept. -/
theorem sourceStep_overflow_keeps (n m : Nat) (x : Socket) :
    (sourceStep n m x .overflow).counter = x.counter ∧ (sourceStep n m x .overflow).phase = x.phase ∧
      (sourceStep n m x .overflow).width = x.width ∧ (sourceStep n m x .overflow).period = x.period ∧
      (sourceStep n m x .overflow).entry = x.entry ∧ (sourceStep n m x .overflow).enable = x.enable := by
  simp only [sourceStep]
  (repeat' split) <;> simp [lose]

theorem overflowed_keeps (p : Part) (k : SocketId) :
    (p.overflowed k).counter = 0 ∧ (p.overflowed k).phase = .waitFirst ∧ (p.overflowed k).width = (p.socket k).width ∧
      (p.overflowed k).period = (p.socket k).period ∧ (p.overflowed k).entry = (p.socket k).entry ∧
      (p.overflowed k).enable = (p.socket k).enable :=
  sourceStep_overflow_keeps _ _ _

/-- No socket goes live by an overflow. -/
theorem overflowed_live (p : Part) (k : SocketId) :
    (socketLive (p.overflowed k) && !socketLive (p.socket k)) = false := by
  cases hstate : (p.socket k).state <;> simp only [overflowed, sourceStep, hstate] <;> (repeat' split) <;>
    simp [socketLive, lose, hstate]

@[simp] theorem overflow_pwu (p : Part) (k : SocketId) : (p.overflow k).pwu = p.pwu := by
  cases h : p.capturing k with
  | true => simp [overflow_eq h, putSocket, handSource_pwu (overflowed_live p k)]
  | false => simp [overflow, h]

@[simp] theorem overflow_socket_ne (p : Part) {k j : SocketId} (h : j ≠ k) : (p.overflow k).socket j = p.socket j := by
  cases hk : p.capturing k with
  | true => rw [overflow_eq hk, putSocket_socket_ne (overflowed_live p k) h]
  | false => simp [overflow, hk]

/-- What an overflow keeps of its own socket, counter and phase aside. -/
theorem overflow_socket_self (p : Part) (k : SocketId) :
    ((p.overflow k).socket k).width = (p.socket k).width ∧ ((p.overflow k).socket k).period = (p.socket k).period ∧
      ((p.overflow k).socket k).entry = (p.socket k).entry ∧ ((p.overflow k).socket k).enable = (p.socket k).enable := by
  cases hk : p.capturing k with
  | true =>
    obtain ⟨-, -, hwidth, hperiod, hentry, henable⟩ := overflowed_keeps p k
    simp [overflow_eq hk, hwidth, hperiod, hentry, henable]
  | false => simp [overflow, hk]

/-- Whether a capture runs is read from the enable mark, the stage and the power state. -/
theorem capturing_eq {t : Part} {k : SocketId} (henable : (t.socket k).enable = (p.socket k).enable)
    (hpln : t.pln = p.pln) (hpwu : t.pwu = p.pwu) : t.capturing k = p.capturing k := by
  simp [capturing, inMask, henable, hpln, hpwu]

@[simp] theorem overflow_capturing (p : Part) (k j : SocketId) : (p.overflow k).capturing j = p.capturing j := by
  refine capturing_eq ?_ (by simp) (by simp)
  by_cases h : j = k
  · subst h
    exact (overflow_socket_self p j).2.2.2
  · rw [overflow_socket_ne p h]

/-! ### The ticks that pass (R114) -/

@[simp] theorem overflows_pwu (k : SocketId) (n : Nat) (p : Part) : (overflows k n p).pwu = p.pwu := by
  induction n generalizing p with
  | zero => rfl
  | succ n ih => simp [overflows, ih]

@[simp] theorem overflows_socket_ne (n : Nat) (p : Part) {k j : SocketId} (h : j ≠ k) :
    (overflows k n p).socket j = p.socket j := by
  induction n generalizing p with
  | zero => rfl
  | succ n ih => simp [overflows, ih, h]

@[simp] theorem passTicks_pwu (p : Part) (k : SocketId) (n : Nat) (b : Bool) : (p.passTicks k n b).pwu = p.pwu := by
  simp [passTicks]

@[simp] theorem passTicks_socket_ne (p : Part) {k j : SocketId} (h : j ≠ k) (n : Nat) (b : Bool) :
    (p.passTicks k n b).socket j = p.socket j := by
  simp [passTicks, h]

theorem overflows_enable (k : SocketId) (n : Nat) (p : Part) :
    ((overflows k n p).socket k).enable = (p.socket k).enable := by
  induction n generalizing p with
  | zero => rfl
  | succ n ih => rw [overflows, ih, (overflow_socket_self p k).2.2.2]

@[simp] theorem tickSocket_socket_ne (p : Part) {k j : SocketId} (h : j ≠ k) : (p.tickSocket k).socket j = p.socket j := by
  unfold tickSocket
  split <;> simp [h]

@[simp] theorem tickSocket_pwu (p : Part) (k : SocketId) : (p.tickSocket k).pwu = p.pwu := by
  unfold tickSocket
  split <;> simp

/-- What the passing of ticks at a socket is read from. -/
def captureView (p : Part) (k : SocketId) : Socket × Nat × Nat × Bool :=
  (p.socket k, p.scu.agree, p.scu.drop, p.capturing k)

theorem overflow_captureView {t : Part} {k : SocketId} (h : t.captureView k = p.captureView k) :
    (t.overflow k).captureView k = (p.overflow k).captureView k := by
  simp only [captureView, Prod.mk.injEq] at h
  obtain ⟨hsocket, hagree, hdrop, hcapturing⟩ := h
  cases hk : p.capturing k with
  | true =>
    have ht : t.capturing k = true := hcapturing.trans hk
    have hsame : (t.overflow k).socket k = (p.overflow k).socket k := by
      simp [overflow_eq, ht, hk, overflowed, hsocket, hagree, hdrop]
    simp [captureView, hsame, hagree, hdrop, hcapturing]
  | false => simp [captureView, overflow, hsocket, hagree, hdrop, hcapturing, hk]

theorem overflows_captureView (n : Nat) {p t : Part} {k : SocketId} (h : t.captureView k = p.captureView k) :
    (overflows k n t).captureView k = (overflows k n p).captureView k := by
  induction n generalizing p t with
  | zero => exact h
  | succ n ih => exact ih (overflow_captureView h)

theorem tickSocket_socket_congr {t : Part} {k : SocketId} (h : t.captureView k = p.captureView k) :
    (t.tickSocket k).socket k = (p.tickSocket k).socket k := by
  have hn (n : Nat) : (overflows k n t).socket k = (overflows k n p).socket k :=
    congrArg Prod.fst (overflows_captureView n h)
  simp only [captureView, Prod.mk.injEq] at h
  obtain ⟨hsocket, -, -, hcapturing⟩ := h
  simp only [tickSocket, hcapturing, passTicks, hsocket]
  split <;> simp [hn, hsocket]

/-- Of the sockets that a tick reaches one after the other, each takes it as the tick found it. -/
theorem ticks_socket {l : List SocketId} (hl : l.Nodup) (p : Part) (k : SocketId) :
    (l.foldl tickSocket p).socket k = if k ∈ l then (p.tickSocket k).socket k else p.socket k := by
  induction l generalizing p with
  | nil => rfl
  | cons a l ih =>
    obtain ⟨hnotin, hl⟩ := List.nodup_cons.mp hl
    rw [List.foldl_cons, ih hl]
    by_cases hka : k = a
    · subst hka
      simp [hnotin]
    · have hview : (p.tickSocket a).captureView k = p.captureView k := by
        have hcapturing : (p.tickSocket a).capturing k = p.capturing k := capturing_eq (by simp [hka]) (by simp) (by simp)
        simp [captureView, hka, hcapturing]
      simp [hka, tickSocket_socket_congr hview]

theorem captureTick_socket (p : Part) (k : SocketId) : p.captureTick.socket k = (p.tickSocket k).socket k := by
  simp [captureTick, ticks_socket (List.nodup_finRange 8)]

/-- One tick at a running capture: the counter adds 1 or becomes 0, and an overflow starts the capture again. -/
theorem tickSocket_counter {k : SocketId} (h : p.capturing k = true) :
    ((p.tickSocket k).socket k).counter = ((p.socket k).counter + 1) % 65535 := by
  simp [tickSocket, h, passTicks, Config.overflowTicks]

theorem tickSocket_counts {k : SocketId} (h : p.capturing k = true) (hcounter : (p.socket k).counter + 1 < 65535) :
    p.tickSocket k = p.setSocket k { p.socket k with counter := (p.socket k).counter + 1 } := by
  simp only [tickSocket, h, if_true]
  exact passTicks_counts p k 1 true hcounter

theorem tickSocket_overflows {k : SocketId} (h : p.capturing k = true) (hcounter : (p.socket k).counter + 1 = 65535) :
    (p.tickSocket k).socket k = { p.overflowed k with counter := 0 } := by
  simp [tickSocket, h, passTicks, Config.overflowTicks, hcounter, overflows, overflow_eq h]

theorem tickSocket_capturing_ne {k j : SocketId} (h : j ≠ k) : (p.tickSocket k).capturing j = p.capturing j :=
  capturing_eq (by simp [h]) (by simp) (by simp)

theorem sameBut_setSocket (p : Part) (k : SocketId) (x : Socket) : SameBut [.sockets] p (p.setSocket k x) := by
  intro b hb
  cases b <;> simp_all [Piece.Same]

/-- Ticks short of every overflow change the sockets' counters alone. -/
theorem sameBut_ticks {l : List SocketId} (hl : l.Nodup)
    (h : ∀ k ∈ l, p.capturing k = true → (p.socket k).counter + 1 < 65535) :
    SameBut [.sockets] p (l.foldl tickSocket p) := by
  induction l generalizing p with
  | nil => exact .refl _ _
  | cons a l ih =>
    obtain ⟨hnotin, hl⟩ := List.nodup_cons.mp hl
    have hfirst : SameBut [.sockets] p (p.tickSocket a) := by
      cases ha : p.capturing a with
      | true =>
        rw [tickSocket_counts ha (h a (by simp) ha)]
        exact sameBut_setSocket _ _ _
      | false =>
        rw [tickSocket, ha]
        exact .refl _ _
    refine hfirst.trans (ih hl fun k hk hcapturing => ?_)
    have hka : k ≠ a := fun heq => hnotin (heq ▸ hk)
    rw [tickSocket_capturing_ne hka] at hcapturing
    rw [tickSocket_socket_ne p hka]
    exact h k (by simp [hk]) hcapturing

theorem sameBut_captureTick (h : ∀ k, p.capturing k = true → (p.socket k).counter + 1 < 65535) :
    SameBut [.sockets] p p.captureTick :=
  sameBut_ticks (List.nodup_finRange 8) fun k _ => h k

@[simp] theorem conclude_socket (before after : Part) (k : SocketId) : (conclude before after).socket k = after.socket k := by
  simp [socket]

end Part

end Sys2Proof.Machine
end

section
/-! The steps as such: the front command, the tick that passes when none waits, and the resets. -/

namespace Sys2Proof.Machine

/-- Settles O1. -/
theorem stepRunsFrontCommand : Obligations.StepRunsFrontCommand := fun _ _ => rfl

/-- A reset completes as every event does. -/
theorem completes_true (c : Instr) (s : State) : Completes c s fun _ => True := by
  cases hreset : isReset c with
  | false =>
    obtain ⟨f, hf⟩ := exec_event hreset
    exact completes_onEvent (hf s) trivial
  | true =>
    rcases exec_reset hreset s with hsame | ⟨straps, stage, hstart⟩
    · exact ⟨_, hsame, rfl, trivial⟩
    · exact ⟨_, hstart, rfl, trivial⟩

/-- Settles O2: with no command waiting the step is the event of one tick, and each capture takes its tick on its own. -/
theorem emptyQueueTicksAndEveryCommandAnswers : Obligations.EmptyQueueTicksAndEveryCommandAnswers := by
  unfold Obligations.EmptyQueueTicksAndEveryCommandAnswers
  refine ⟨fun s hpending hsettled => ?_, completes_true⟩
  have hstep : step s = .next { s with part := Part.event Part.captureTick s.part } := by
    simp only [step, hpending, idle, State.onEvent, State.onPart]
  refine ⟨_, hstep, hpending, ?_⟩
  cases hheld : s.part.isHeld with
  | true =>
    have hcapturing (k : SocketId) : s.part.capturing k = false := by
      simp only [Part.isHeld, Bool.or_eq_true, decide_eq_true_eq] at hheld
      rcases hheld with hstage | hstage <;> simp [Part.capturing, hstage]
    rw [Part.event_held hheld]
    exact ⟨fun _ _ => rfl, fun k hk => absurd hk (by simp [hcapturing]), fun _ => .refl _ _⟩
  | false =>
    rw [Part.event_unheld hheld]
    refine ⟨fun k hk => ?_, fun k hk => ⟨?_, fun hcounter => ?_, fun hcounter => ?_⟩, fun hcounters => ?_⟩
    · simp [Part.captureTick_socket, Part.tickSocket, hk]
    · simp [Part.captureTick_socket, Part.tickSocket_counter hk]
    · simp [Part.captureTick_socket, Part.tickSocket_counts hk hcounter]
    · obtain ⟨-, hphase, hwidth, hperiod, hentry, -⟩ := Part.overflowed_keeps s.part k
      simp [Part.captureTick_socket, Part.tickSocket_overflows hk hcounter, hphase, hwidth, hperiod, hentry]
    · have htick := Part.sameBut_captureTick hcounters
      have hrtu := Part.rtu_eq (htick .screens (by simp)) (htick .presets (by simp)) (htick .speakers (by simp))
        (htick .routable (by simp)) (htick .override (by simp))
      rw [Part.conclude_settled hsettled (by simp) (by simp) hrtu]
      exact htick.trans ((Part.sameBut_drivePins _).mono (by simp))

/-! ### Resets -/

/-- Settles O3. -/
theorem resetsRestoreEveryBlock : Obligations.ResetsRestoreEveryBlock := by
  unfold Obligations.ResetsRestoreEveryBlock
  have hstart (straps : StrapPins) (stage : Stage) :
      SameBut [] (Part.atReset straps stage) (Part.start straps stage) ∧ OutputsTrue (Part.start straps stage) :=
    ⟨Part.sameBut_drivePins _, Part.outputsTrue_start straps stage⟩
  refine ⟨fun pins s => ⟨⟨_, rfl, rfl, hstart _ _⟩, ⟨_, rfl, rfl, hstart _ _⟩, fun hpower => ?_, fun hpower => ?_⟩, ?_⟩
  · constructor
    · exact ⟨_, rfl, rfl, by simpa only [Part.leaveReset, if_neg hpower] using hstart _ _⟩
    · exact ⟨_, rfl, rfl, by simpa only [Part.holdReset, if_neg hpower] using hstart _ _⟩
  · constructor
    · exact ⟨_, rfl, rfl, by simp only [Part.leaveReset, if_pos hpower]⟩
    · exact ⟨_, rfl, rfl, by simp only [Part.holdReset, if_pos hpower]⟩
  · rintro c s hheld ⟨hassert, hpowerOff⟩ hrelease
    have hreset : isReset c = false := by
      cases c with
      | resetPinAssert => exact absurd rfl hassert
      | powerOnResetAssert => exact absurd rfl hpowerOff
      | powerOnResetRelease pins => exact absurd rfl (hrelease pins).1
      | resetPinRelease pins => exact absurd rfl (hrelease pins).2
      | _ => rfl
    obtain ⟨f, hf⟩ := exec_event hreset
    rw [hf, State.onEvent, State.onPart, Part.event_held hheld]

/-! ### The values of a reset -/

theorem reset_channel (c : ChannelId) : State.reset.part.channel c = Channel.reset := by
  show (Vector.replicate 41 Channel.reset).get c = _
  rw [Vector.get_eq_getElem, Vector.getElem_replicate]

theorem reset_seat (i : SeatId) : State.reset.part.seat i = Seat.reset i := by
  show (Vector.ofFn Seat.reset).get i = _
  simp

theorem reset_slot (k : SlotId) : State.reset.part.slot k = Slot.reset := by
  show (Vector.replicate 7 Slot.reset).get k = _
  rw [Vector.get_eq_getElem, Vector.getElem_replicate]

theorem reset_socket (k : SocketId) : State.reset.part.socket k = Socket.reset := by
  show (Vector.replicate 8 Socket.reset).get k = _
  rw [Vector.get_eq_getElem, Vector.getElem_replicate]

theorem reset_screen (k : ScreenId) : State.reset.part.screen k = Screen.reset := by
  show (Vector.replicate 4 Screen.reset).get k = _
  rw [Vector.get_eq_getElem, Vector.getElem_replicate]

theorem outputsTrue_reset : OutputsTrue State.reset.part := by rfl

theorem banksSound_reset : BanksSound State.reset.part := by decide

/-- Settles O4: each table holds its reset record in every place. -/
theorem resetLeavesSoundValues : Obligations.ResetLeavesSoundValues := by
  unfold Obligations.ResetLeavesSoundValues
  refine ⟨fun c => ?_, fun i => ?_, rfl, rfl, rfl, rfl, rfl, fun k => ?_, fun k => ?_, fun k => ?_, rfl, rfl, rfl, rfl,
    rfl, rfl, rfl, rfl, rfl, rfl, outputsTrue_reset, ⟨fun k => ?_, .inr rfl⟩, fun c => ?_, fun k => ?_, banksSound_reset,
    ⟨Nat.zero_le _, List.nodup_nil⟩, fun k => ?_, Nat.zero_le _⟩
  · simp [reset_channel, Channel.reset]
  · simp [reset_seat, Seat.reset, Counters.zero]
  · simp [reset_slot, Slot.reset]
  · simp [reset_socket, Socket.reset]
  · simp [reset_screen, Screen.reset, ScreenSettings.reset]
  · fin_cases k <;> rfl
  · rw [reset_channel]
    exact ⟨Nat.zero_le _, Nat.zero_le _, Nat.zero_le _, nofun⟩
  · cases k <;> decide
  · simp [reset_slot, Slot.reset]

end Sys2Proof.Machine
end

section
/-! The bytes of the records that the READ requests give, record by record (R197). -/

namespace Sys2Proof.Machine

/-! ### The parts that records are made of -/

theorem bool_eq (b : Bool) : bool b = [if b then 1 else 0] := by cases b <;> rfl

theorem bool_decide (c : Prop) [Decidable c] : bool (decide c) = [if c then 1 else 0] := by
  by_cases h : c <;> simp [h] <;> rfl

theorem opt2_eq (x : Option Nat) : opt2 x = [byteOf (x.getD 0 / 256), byteOf (x.getD 0)] := rfl

theorem mark2_eq (x : Option Nat) :
    mark2 x = [if x.isSome then 1 else 0, byteOf (x.getD 0 / 256), byteOf (x.getD 0)] := by
  cases x <;> rfl

/-- A list after its count. -/
theorem listed_eq (l : List α) (f : α → List Byte) : listed l f = byteOf l.length :: l.flatMap f := rfl

namespace Part

/-! ### The records (R43, R61, R90, R126, R127, R141) -/

theorem outcomeBytes_eq (x : Channel) :
    outcomeBytes x = [byteOf (if x.state = .off then 3 else (outcomeOf x).code)] := rfl

theorem counterBytes_eq (c : Counters) :
    counterBytes c =
      [byteOf (c.occupied / 65536), byteOf (c.occupied / 256), byteOf c.occupied,
       byteOf (c.speaking / 65536), byteOf (c.speaking / 256), byteOf c.speaking,
       byteOf (c.requests / 256), byteOf c.requests, byteOf (c.grants / 256), byteOf c.grants,
       byteOf (c.refused / 256), byteOf c.refused, byteOf (c.stray / 256), byteOf c.stray] := rfl

theorem seatContents_eq (p : Part) (i : SeatId) :
    p.seatContents i =
      [byteOf (i.val + 1), if (p.seat i).installed then 1 else 0, byteOf (p.seat i).role.code,
       byteOf (socketNumber (p.seat i).socket), if (p.seat i).presenceRequired then 1 else 0,
       if (p.seat i).priority then 1 else 0, byteOf (p.seat i).presence.code, byteOf (p.seat i).absence,
       byteOf p.smn.grace, byteOf (p.seat i).key.code, byteOf ((p.seat i).press / 256), byteOf (p.seat i).press,
       byteOf (p.seat i).mark.code, if (p.seat i).nextTaken then 1 else 0,
       byteOf (if (p.channel (Part.keyChannel i)).state = .off then 3 else (Part.outcomeOf (p.channel (Part.keyChannel i))).code),
       byteOf (if (p.channel (Part.proximityChannel i)).state = .off then 3 else (Part.outcomeOf (p.channel (Part.proximityChannel i))).code),
       byteOf ((p.seat i).counters.occupied / 65536), byteOf ((p.seat i).counters.occupied / 256),
       byteOf (p.seat i).counters.occupied,
       byteOf ((p.seat i).counters.speaking / 65536), byteOf ((p.seat i).counters.speaking / 256),
       byteOf (p.seat i).counters.speaking,
       byteOf ((p.seat i).counters.requests / 256), byteOf (p.seat i).counters.requests,
       byteOf ((p.seat i).counters.grants / 256), byteOf (p.seat i).counters.grants,
       byteOf ((p.seat i).counters.refused / 256), byteOf (p.seat i).counters.refused,
       byteOf ((p.seat i).counters.stray / 256), byteOf (p.seat i).counters.stray, byteOf p.smn.occupied] := by
  simp only [seatContents, bool_eq, outcomeBytes_eq, counterBytes_eq, b1, b2, List.cons_append, List.nil_append]

theorem channelContents_eq (p : Part) (c : ChannelId) :
    p.channelContents c =
      [byteOf c.val, byteOf (Part.kindOf c).code,
       if (p.channel c).enabled ∧ (c.val = 40 ∨ (p.seat (Part.seatOf c)).installed) then 1 else 0,
       byteOf (p.channel c).state.code,
       byteOf (if (p.channel c).state = .off then 3 else (Part.outcomeOf (p.channel c)).code),
       byteOf ((if (p.channel c).state = .tuning then (p.channel c).trial else (p.channel c).tune) / 32),
       byteOf ((if (p.channel c).state = .tuning then (p.channel c).trial else (p.channel c).tune) % 32),
       byteOf (p.channel c).step, if (p.channel c).pending then 1 else 0, byteOf (p.channel c).result.code,
       byteOf ((p.channel c).raw / 256), byteOf (p.channel c).raw, if (p.channel c).saturated then 1 else 0,
       byteOf ((p.channel c).filtered / 256), byteOf (p.channel c).filtered,
       byteOf ((p.channel c).lta / 256), byteOf (p.channel c).lta,
       byteOf ((p.channel c).delta / 256), byteOf (p.channel c).delta,
       byteOf ((p.channel c).level / 256), byteOf (p.channel c).level,
       byteOf ((p.channel c).release / 256), byteOf (p.channel c).release,
       byteOf ((p.channel c).haltLevel / 256), byteOf (p.channel c).haltLevel, byteOf (p.channel c).debounce,
       byteOf ((p.channel c).haltTimer / 65536), byteOf ((p.channel c).haltTimer / 256),
       byteOf (p.channel c).haltTimer,
       byteOf (p.channel c).bandCount, byteOf (profileFor p c).direction.code, byteOf (profileFor p c).countBeta,
       byteOf (profileFor p c).activeBeta, byteOf (profileFor p c).standbyBeta, byteOf (profileFor p c).threshold,
       byteOf (profileFor p c).hysteresis, byteOf (profileFor p c).enter, byteOf (profileFor p c).exit,
       byteOf (profileFor p c).haltLimit, byteOf (profileFor p c).tracking, byteOf (profileFor p c).sign.code,
       byteOf ((profileFor p c).target / 256), byteOf (profileFor p c).target, byteOf (profileFor p c).band] := by
  have hshown : bool (p.enableShown c) =
      [if (p.channel c).enabled ∧ (c.val = 40 ∨ (p.seat (Part.seatOf c)).installed) then 1 else 0] := by
    rw [← bool_decide, enableShown, Bool.decide_and, Bool.decide_or, Bool.decide_eq_true, Bool.decide_eq_true]
  delta channelContents
  simp only [hshown, bool_eq, outcomeBytes_eq, settingBytes, profileBytes, b1, b2, b3, List.cons_append, List.nil_append]

theorem socketSupported_iff (x : Socket) : socketSupported x = true ↔
    (x.state = .live ∨ x.state = .dropping) ∧ x.cls ≠ .none ∧ x.cls ≠ .unsupported := by
  cases hcls : x.cls <;> simp [socketSupported, socketLive, hcls]

theorem socketBytes_eq (p : Part) (k : SocketId) :
    p.socketBytes k =
      [if (p.socket k).enable then 1 else 0, byteOf (if (p.socket k).edge = .rising then 0 else 1),
       byteOf (p.socket k).filter, byteOf (p.socket k).phase.code,
       byteOf ((p.socket k).counter / 256), byteOf (p.socket k).counter,
       byteOf ((p.socket k).width / 256), byteOf (p.socket k).width,
       byteOf ((p.socket k).period / 256), byteOf (p.socket k).period, byteOf (p.socket k).entry,
       byteOf (p.socket k).cls.code, byteOf (p.socket k).state.code, byteOf (p.socket k).agree,
       byteOf (p.socket k).drop, if (p.socket k).state = .live ∨ (p.socket k).state = .dropping then 1 else 0,
       if ((p.socket k).state = .live ∨ (p.socket k).state = .dropping) ∧ (p.socket k).cls ≠ .none ∧ (p.socket k).cls ≠ .unsupported then 1 else 0,
       if p.pwu.mask.get k then 1 else 0] := by
  have hedge : edgeCode (p.socket k).edge = if (p.socket k).edge = .rising then 0 else 1 := by
    cases (p.socket k).edge <;> rfl
  simp only [socketBytes, captureBytes, bool_eq, socketSupported_iff, socketLive, inMask, hedge, b1, b2, List.cons_append,
    List.nil_append, Bool.or_eq_true, decide_eq_true_eq]

theorem allSources_eq (p : Part) :
    p.allSources =
      ((List.finRange 8).flatMap fun j => [byteOf (p.socket j).state.code, byteOf (p.socket j).cls.code]) ++
        [if p.scu.pc then 1 else 0, if p.scu.codec then 1 else 0] := by
  simp only [allSources, bool_eq, b1, List.cons_append, List.nil_append, List.append_assoc]

theorem slotBytes_eq (x : Slot) :
    slotBytes x =
      [byteOf x.state.code, byteOf (seatNumber x.holder), byteOf (x.gain / 256), byteOf x.gain,
       byteOf (x.elapsed / 256), byteOf x.elapsed, byteOf x.warned.code,
       byteOf (if x.state = .closing then slotReasonCode x.reason else 8)] := by
  by_cases hclosing : x.state = .closing <;> simp [slotBytes, hclosing, b1, b2, slotReasonCode]

theorem queueBytes_eq (e : QueueEntry) :
    queueBytes e =
      [byteOf (e.seat.val + 1), if e.priority then 1 else 0, if e.override then 1 else 0,
       byteOf (e.number.toNat / 256), byteOf e.number.toNat, byteOf (e.second.toNat / 256), byteOf e.second.toNat] := by
  simp only [queueBytes, bool_eq, b1, b2, List.cons_append, List.nil_append]

theorem floorContents_eq (p : Part) :
    p.floorContents =
      [byteOf p.flc.mode.code, byteOf p.flc.limit, byteOf (p.flc.speak / 256), byteOf p.flc.speak,
       if p.flc.enforce then 1 else 0, byteOf p.flc.lead, byteOf (min p.flc.lead (p.flc.speak / 2)),
       if p.flc.isOpen then 1 else 0, byteOf (p.flc.seconds.toNat / 256), byteOf p.flc.seconds.toNat,
       byteOf (p.flc.nextNumber.toNat / 256), byteOf p.flc.nextNumber.toNat, byteOf p.flc.queue.length] ++
        (p.flc.queue.flatMap fun e =>
          [byteOf (e.seat.val + 1), if e.priority then 1 else 0, if e.override then 1 else 0,
           byteOf (e.number.toNat / 256), byteOf e.number.toNat,
           byteOf (e.second.toNat / 256), byteOf e.second.toNat]) ++
        (([0, 1, 2, 3, 4, 5, 6] : List SlotId).flatMap fun k =>
          [byteOf (p.slot k).state.code, byteOf (seatNumber (p.slot k).holder),
           byteOf ((p.slot k).gain / 256), byteOf (p.slot k).gain,
           byteOf ((p.slot k).elapsed / 256), byteOf (p.slot k).elapsed, byteOf (p.slot k).warned.code,
           byteOf (if (p.slot k).state = .closing then slotReasonCode (p.slot k).reason else 8)]) ++
        byteOf p.flc.openOrder.length :: (p.flc.openOrder.map (fun k => byteOf k.val) ++
          (List.finRange 20).map fun s => byteOf (p.indicationOf s).code) := by
  have hqueue : queueBytes = fun e => [byteOf (e.seat.val + 1), if e.priority then 1 else 0,
      if e.override then 1 else 0, byteOf (e.number.toNat / 256), byteOf e.number.toNat,
      byteOf (e.second.toNat / 256), byteOf e.second.toNat] := funext queueBytes_eq
  simp only [floorContents, listed_eq, hqueue, slotBytes_eq, List.map_eq_flatMap, effectiveLead, allSlots, bool_eq, b1, b2,
    List.cons_append, List.nil_append, List.append_assoc]

theorem screensContents_eq {p : Part} (h : ∀ k, (p.screen k).driven = p.drivenBy k) :
    p.screensContents =
      (([0, 1, 2, 3] : List ScreenId).flatMap fun k =>
          [byteOf (p.screen k).set.mode.code, byteOf (p.screen k).set.fixed.val,
           byteOf ((p.screen k).set.followed.val + 1), byteOf (p.screen k).set.fallback.val,
           if (p.screen k).set.privacy then 1 else 0, byteOf (p.screen k).shown.val,
           byteOf (p.screen k).driven.val, byteOf (p.screen k).settle.code, byteOf (p.screen k).timer]) ++
        (if p.rtu.override then 1 else 0) :: byteOf p.rtu.speakers.length ::
          (p.rtu.speakers.map (fun s => byteOf (s.val + 1)) ++
            p.rtu.routable.toList.map fun b => if b then 1 else 0) := by
  have hdriven (k : ScreenId) : p.drivenRecord k = p.screen k := by
    rw [drivenRecord, driveScreens_settled h]
  have hbools : p.rtu.routable.toList.flatMap bool = p.rtu.routable.toList.flatMap fun b => [if b then 1 else 0] :=
    congrArg (List.flatMap · _) (funext bool_eq)
  have hrange : List.finRange 4 = [0, 1, 2, 3] := by decide
  simp only [screensContents, hdriven, hrange, screenBytes, settingsBytes, listed_eq, List.map_eq_flatMap, hbools, bool_eq,
    b1, List.cons_append, List.nil_append, List.append_assoc]

theorem settingsBytes_eq (x : ScreenSettings) :
    settingsBytes x =
      [byteOf x.mode.code, byteOf x.fixed.val, byteOf (x.followed.val + 1), byteOf x.fallback.val,
       if x.privacy then 1 else 0] := by
  simp only [settingsBytes, bool_eq, b1, List.cons_append, List.nil_append]

theorem presetsContents_eq (p : Part) :
    p.presetsContents =
      p.rtu.presets.toList.flatMap fun v => v.toList.flatMap fun x =>
        [byteOf x.mode.code, byteOf x.fixed.val, byteOf (x.followed.val + 1), byteOf x.fallback.val,
         if x.privacy then 1 else 0] := by
  rw [presetsContents, funext settingsBytes_eq]

/-! ### The records of banks, sessions and summaries (R148, R160, R161, R177, R179, R181) -/

theorem bankHead_eq (p : Part) (isA : Bool) (b : Bank) :
    p.bankHead isA b =
      [if isA then 0 else 1, byteOf b.role.code, byteOf b.state.code, byteOf (b.day / 256), byteOf b.day,
       byteOf b.declared, byteOf b.received, if b.auto then 1 else 0, byteOf b.cause.code,
       if b.role = .published ∧ p.isCurrent = true then 1 else 0,
       byteOf (p.sch.clock.day / 256), byteOf p.sch.clock.day,
       byteOf (p.sch.clock.minute / 256), byteOf p.sch.clock.minute, if p.sch.clock.valid then 1 else 0,
       byteOf (p.nextStart / 256), byteOf p.nextStart] := by
  have hisA : byteOf (if isA then 0 else 1) = if isA then 0 else 1 := by cases isA <;> rfl
  simp only [bankHead, hisA, bool_eq, b1, b2, List.cons_append, List.nil_append, Bool.and_eq_true, decide_eq_true_eq]

theorem bookingBytes_eq (g : Booking) :
    bookingBytes g =
      [byteOf (g.id / 256), byteOf g.id, byteOf (g.start / 256), byteOf g.start, byteOf (g.stop / 256), byteOf g.stop,
       if g.checkIn then 1 else 0, byteOf (g.window.getD 0), byteOf g.quorum, byteOf g.floor.mode.code,
       byteOf g.floor.limit, byteOf (g.floor.speak / 256), byteOf g.floor.speak, if g.floor.enforce then 1 else 0,
       byteOf g.screen.val, if g.privacy then 1 else 0, byteOf (seatNumber g.organiser)] := by
  simp only [bookingBytes, bool_eq, opt1, b1, b2, List.cons_append, List.nil_append]

theorem entryBytes_eq (e : Entry) :
    entryBytes e =
      [byteOf (e.booking.id / 256), byteOf e.booking.id, byteOf (e.booking.start / 256), byteOf e.booking.start,
       byteOf (e.booking.stop / 256), byteOf e.booking.stop, if e.booking.checkIn then 1 else 0,
       byteOf (e.booking.window.getD 0), byteOf e.booking.quorum, byteOf e.booking.floor.mode.code,
       byteOf e.booking.floor.limit, byteOf (e.booking.floor.speak / 256), byteOf e.booking.floor.speak,
       if e.booking.floor.enforce then 1 else 0,
       byteOf e.booking.screen.val, if e.booking.privacy then 1 else 0,
       byteOf (seatNumber e.booking.organiser)] ++ [byteOf e.status.code] := by
  rw [entryBytes, bookingBytes_eq, b1]

theorem summaryHead_eq (y : Summary) :
    summaryHead y =
      [byteOf (y.number / 256), byteOf y.number, byteOf y.kind.code,
       byteOf ((y.booking.getD 0) / 256), byteOf (y.booking.getD 0),
       byteOf (seatNumber y.organiser), byteOf (y.openDay / 256), byteOf y.openDay,
       byteOf (y.openMinute / 256), byteOf y.openMinute, byteOf (y.closeDay / 256), byteOf y.closeDay,
       byteOf (y.closeMinute / 256), byteOf y.closeMinute, byteOf y.reason.code,
       if y.checkedIn.isSome then 1 else 0,
       byteOf ((y.checkedIn.getD 0) / 256), byteOf (y.checkedIn.getD 0),
       byteOf y.peak, if y.unlisted then 1 else 0, byteOf y.lines.length] := by
  simp only [summaryHead, bool_eq, opt2_eq, mark2_eq, b1, b2, List.cons_append, List.nil_append]

theorem lineBytes_eq (l : SeatLine) :
    lineBytes l =
      [byteOf (l.seat.val + 1),
       byteOf (l.counters.occupied / 65536), byteOf (l.counters.occupied / 256), byteOf l.counters.occupied,
       byteOf (l.counters.speaking / 65536), byteOf (l.counters.speaking / 256), byteOf l.counters.speaking,
       byteOf (l.counters.requests / 256), byteOf l.counters.requests,
       byteOf (l.counters.grants / 256), byteOf l.counters.grants,
       byteOf (l.counters.refused / 256), byteOf l.counters.refused,
       byteOf (l.counters.stray / 256), byteOf l.counters.stray] := by
  rw [lineBytes, counterBytes_eq, b1, List.singleton_append]

theorem sessionContents_eq (p : Part) :
    p.sessionContents =
      (match p.ssu.session with
        | none => [0]
        | some x =>
            [1, byteOf x.kind.code,
             byteOf ((x.booking.getD 0) / 256), byteOf (x.booking.getD 0)] ++
              (match x.copy with
                | some g => 1 ::
                  [byteOf (g.id / 256), byteOf g.id, byteOf (g.start / 256), byteOf g.start,
                   byteOf (g.stop / 256), byteOf g.stop, if g.checkIn then 1 else 0,
                   byteOf (g.window.getD 0), byteOf g.quorum, byteOf g.floor.mode.code,
                   byteOf g.floor.limit, byteOf (g.floor.speak / 256), byteOf g.floor.speak,
                   if g.floor.enforce then 1 else 0, byteOf g.screen.val, if g.privacy then 1 else 0,
                   byteOf (seatNumber g.organiser)]
                | none => List.replicate 18 0) ++
              [byteOf x.state.code, byteOf (x.openDay / 256), byteOf x.openDay,
               byteOf (x.openMinute / 256), byteOf x.openMinute, if x.checkedIn.isSome then 1 else 0,
               byteOf ((x.checkedIn.getD 0) / 256), byteOf (x.checkedIn.getD 0),
               byteOf ((x.effEnd / 1440) / 256), byteOf (x.effEnd / 1440),
               byteOf ((x.effEnd % 1440) / 256), byteOf (x.effEnd % 1440), if x.unlisted then 1 else 0, byteOf x.peak,
               if x.reason.isSome then 1 else 0, byteOf (match x.reason with | some r => r.code | none => 0),
               byteOf x.await, byteOf (x.vacancy / 256), byteOf x.vacancy]) ++
        [byteOf ((p.ssu.pendingStart.getD 0) / 256), byteOf (p.ssu.pendingStart.getD 0),
         byteOf (p.ssu.dwell / 256), byteOf p.ssu.dwell, byteOf p.ssu.store.length] ++
        p.ssu.store.flatMap (fun z => [byteOf (z.number / 256), byteOf z.number]) ++
        [if p.ssu.lost then 1 else 0, byteOf (p.nextStart / 256), byteOf p.nextStart] := by
  have hcopy (x : Session) : copyBytes x.copy =
      (match x.copy with
        | some g => 1 ::
          [byteOf (g.id / 256), byteOf g.id, byteOf (g.start / 256), byteOf g.start, byteOf (g.stop / 256), byteOf g.stop,
           if g.checkIn then 1 else 0, byteOf (g.window.getD 0), byteOf g.quorum, byteOf g.floor.mode.code,
           byteOf g.floor.limit, byteOf (g.floor.speak / 256), byteOf g.floor.speak, if g.floor.enforce then 1 else 0,
           byteOf g.screen.val, if g.privacy then 1 else 0, byteOf (seatNumber g.organiser)]
        | none => List.replicate 18 0) := by
    cases x.copy with
    | none => rfl
    | some g => simp only [copyBytes, bookingBytes_eq]; rfl
  have hclose (x : Session) : closeBytes x.reason = [if x.reason.isSome then 1 else 0,
      byteOf (match x.reason with | some r => r.code | none => 0)] := by
    cases x.reason <;> rfl
  cases hsession : p.ssu.session with
  | none =>
    simp only [sessionContents, hsession, listed_eq, bool_eq, opt2_eq, b2, List.cons_append, List.nil_append,
      List.append_assoc]
    simp
  | some x =>
    simp only [sessionContents, sessionBytes, hsession, hcopy, hclose, timeBytes, listed_eq, bool_eq, opt2_eq, mark2_eq, b1,
      b2, List.cons_append, List.nil_append, List.append_assoc]
    simp

end Part

/-- Settles O35, record by record. -/
theorem recordLayouts : Obligations.RecordLayouts := by
  unfold Obligations.RecordLayouts
  refine ⟨fun i c k p => ⟨p.seatContents_eq i, p.channelContents_eq c, p.socketBytes_eq k, p.allSources_eq⟩,
    fun p => ⟨p.floorContents_eq, Part.screensContents_eq, p.presetsContents_eq⟩,
    fun isA b e y l p => ⟨p.bankHead_eq isA b, Part.entryBytes_eq e, Part.summaryHead_eq y, Part.lineBytes_eq l,
      p.sessionContents_eq⟩, by decide⟩

end Sys2Proof.Machine
end

section
/-! Request rows on a port that has nothing in hand, in any stage of start-up that takes events: what the taking, the serving
and the answer come to. -/

namespace Sys2Proof.Machine

/-- A port with nothing in hand, of a part that is neither held nor in STANDBY: it takes a request at once. -/
structure Idle (p : Part) (q : Port) : Prop where
  unheld : p.isHeld = false
  awake : p.pwu.power ≠ .standby
  free : FreePort p q

namespace Part

variable {p : Part} {q : Port} {r : Request}

theorem isHeld_running (h : p.pln.stage = .running) : p.isHeld = false := by simp [isHeld, h]

theorem idle_listening (h : Listening p q) : Idle p q := ⟨isHeld_running h.1.1, h.1.2, h.2⟩

theorem idle_readable (h : Readable p q) : Idle p q := by
  obtain ⟨hstage, hawake, hfree⟩ := h
  refine ⟨?_, hawake, hfree⟩
  rcases hstage with hstage | hstage <;> simp [isHeld, hstage]

/-! ### The checks -/

/-- The rights that the catalogue's groups give are those of R188. -/
theorem holds_catalogue (q : Port) : ∀ row ∈ catalogueLow ++ catalogueHigh, holds q row.group = true ↔ Permitted q row.code := by
  cases q <;> decide

theorem catalogueRow_mem {code : Byte} {row : CatalogueRow} (h : catalogueRow code = some row) :
    row ∈ catalogueLow ++ catalogueHigh ∧ row.code = code.toNat :=
  ⟨List.mem_of_find?_eq_some h, by simpa using List.find?_some h⟩

/-- Every request row carries a request of the catalogue, with the length that R188 gives it, and its rights are those of
R188. -/
theorem requestOf_row {c : Instr} (h : requestOf c = some (q, r)) : ∃ row, catalogueRow r.code = some row ∧
    row.length = r.length.toNat ∧ r.payload.length = r.length.toNat ∧
      (holds q row.group = true ↔ Permitted q r.code.toNat) := by
  obtain ⟨row, hrow, hlength, hpayload⟩ : ∃ row, catalogueRow r.code = some row ∧ row.length = r.length.toNat ∧
      r.payload.length = r.length.toNat := by
    cases c <;> cases h <;> exact ⟨_, rfl, rfl, rfl⟩
  obtain ⟨hmem, hcode⟩ := catalogueRow_mem hrow
  exact ⟨row, hrow, hlength, hpayload, hcode ▸ holds_catalogue q row hmem⟩

/-- The row of PORT RESET is the only one with its code. -/
theorem requestOf_portReset {c : Instr} (h : requestOf c = some (q, r)) (hcode : r.code = portResetCode) :
    ∃ tag, c = .portReset q tag ∧ r = ⟨0x0C, tag, 0, []⟩ := by
  cases c with
  | portReset a tag =>
    cases h
    exact ⟨tag, rfl, rfl⟩
  | _ => cases h <;> exact absurd hcode (by simp [portResetCode])

/-- What a row's request is told by the checks, with its right (R186). -/
theorem checkRequest_permitted {c : Instr} (h : requestOf c = some (q, r)) (hright : Permitted q r.code.toNat) :
    p.checkRequest q r = p.stageAnswer r.code := by
  obtain ⟨row, hrow, hlength, hpayload, hholds⟩ := requestOf_row h
  simp [checkRequest, hrow, hholds.mpr hright, hlength, hpayload]

theorem checkRequest_notPermitted {c : Instr} (h : requestOf c = some (q, r)) (hright : ¬ Permitted q r.code.toNat) :
    p.checkRequest q r = some .notPermitted := by
  obtain ⟨row, hrow, -, -, hholds⟩ := requestOf_row h
  exact checkRequest_noRight hrow (by simpa using mt hholds.mp hright)

/-- A running part lets every permitted row through. -/
theorem checkRequest_run {c : Instr} (h : requestOf c = some (q, r)) (hright : Permitted q r.code.toNat)
    (hrun : p.pln.stage = .running) : p.checkRequest q r = none := by
  rw [checkRequest_permitted h hright, stageAnswer, hrun]

/-- From the handing out of settings on a READ row passes (R12). -/
theorem checkRequest_read {c : Instr} (h : requestOf c = some (q, r)) (hread : isRead r.code = true)
    (hstage : p.pln.stage = .retuning ∨ p.pln.stage = .running) : p.checkRequest q r = none := by
  have hlow : r.code.toNat < 0x20 := by
    simp only [isRead, Bool.and_eq_true, decide_eq_true_eq] at hread
    omega
  rw [checkRequest_permitted h (.inl hlow)]
  rcases hstage with hstage | hstage <;> simp [stageAnswer, hstage, hread]

/-! ### The row -/

/-- The port takes the request, or answers with the check that it fails. -/
theorem takeRequest_idle (h : Idle p q) (hcode : r.code ≠ portResetCode) :
    (p.clearSent q).takeRequest q r = match p.checkRequest q r with
      | none => p.taken q r
      | some st => (p.taken q r).replied q (checkResponse r st) := by
  obtain ⟨hservice, -⟩ := h.free
  have hclear : ((p.clearSent q).port q).inService = none := by simp [clearSent, hservice]
  have hroom : (p.clearSent q).roomFull q = false := by simp [roomFull, hclear]
  have hpower : (p.clearSent q).pwu.power ≠ .standby := by simpa using h.awake
  simp only [takeRequest, hcode, hroom, hpower, Bool.false_eq_true, if_false]
  cases hcheck : p.checkRequest q r <;>
    simp [placeRequest, hservice, enterService, hcheck, setPort_setPort, taken, replied, discardPending, clearSent]

theorem requestRow_refused_idle {st : Status} (h : Idle p q) (hcheck : p.checkRequest q r = some st)
    (hcode : r.code ≠ portResetCode) : p.requestRow q r = (p.taken q r).replied q (checkResponse r st) := by
  have hclear : ((p.clearSent q).port q).inService = none := by simp [clearSent, h.free.1]
  have hdone : (((p.taken q r).replied q (checkResponse r st)).port q).inService = none := by
    cases q <;> simp [replied, deliver, sendRoom]
  simp only [requestRow, hclear, takeRequest_idle h hcode, hcheck, hdone, reduceCtorEq, if_false]

theorem requestRow_served {x : Part} {st : Status} {l : List Byte} (h : Idle p q) (hcheck : p.checkRequest q r = none)
    (hcode : r.code ≠ portResetCode) (hserve : (p.taken q r).serveOwner q r = (x, st, l))
    (hline : x.line q = (p.taken q r).line q) : p.requestRow q r = x.replied q ⟨r.tag, st, framesOf r.code l⟩ := by
  obtain ⟨hservice, hwaiting, hdrop, hheld⟩ := h.free
  have hclear : ((p.clearSent q).port q).inService = none := by simp [clearSent, hservice]
  have htaken : ((p.taken q r).port q).inService = some r := by simp [taken_port]
  have hwake : (p.taken q r).wake = p.taken q r := wake_running (by simpa using h.awake)
  simp only [line, taken_port, hwaiting, hdrop, hheld, Prod.mk.injEq] at hline
  obtain ⟨-, hw, -, hd, hh, -⟩ := hline
  simp only [requestRow, hclear, takeRequest_idle h hcode, hcheck, htaken, reduceCtorEq, if_false, if_true, serveCurrent,
    hwake, hserve]
  exact answer_listening hw hd hh

theorem answered_served {x : Part} {st : Status} {l : List Byte} (before : Part) (hline : x.line q = (p.taken q r).line q) :
    Answered (conclude before (x.replied q ⟨r.tag, st, framesOf r.code l⟩)) q r.tag st (framesOf r.code l) := by
  have hq : (x.port q).sent = [] := by
    simp only [line, taken_port, Prod.mk.injEq] at hline
    tauto
  refine answered_of_line (p := x.replied q ⟨r.tag, st, framesOf r.code l⟩) (by simp) ?_
  cases q <;> simp [Answered, replied, deliver, sendRoom, hq]

end Part

variable {c : Instr} {q : Port} {r : Request} {s : State} {x : Part} {st : Status} {l : List Byte}

/-- A request row on an idle port: the owner's reply is given, and the event ends. -/
theorem completes_served {post : Part → Prop} (hreq : requestOf c = some (q, r)) (hport : Idle s.part q)
    (hcheck : s.part.checkRequest q r = none) (hcode : r.code ≠ portResetCode)
    (hserve : (s.part.taken q r).serveOwner q r = (x, st, l)) (hline : x.line q = (s.part.taken q r).line q)
    (hpost : ∀ t, t = Part.conclude s.part (x.replied q ⟨r.tag, st, framesOf r.code l⟩) →
      Answered t q r.tag st (framesOf r.code l) → post t) : Completes c s post := by
  refine completes_onEvent (exec_requestOf hreq s) ?_
  rw [Part.event_unheld hport.unheld, Part.requestRow_served hport hcheck hcode hserve hline]
  exact hpost _ rfl (Part.answered_served _ hline)

/-- A request whose owner leaves the part: nothing but the port's requests changes. -/
theorem completes_idle_unchanged (hreq : requestOf c = some (q, r)) (hport : Idle s.part q) (hset : Settled s.part)
    (hcheck : s.part.checkRequest q r = none) (hcode : r.code ≠ portResetCode)
    (hserve : (s.part.taken q r).serveOwner q r = (s.part.taken q r, st, l)) :
    Completes c s fun t => Answered t q r.tag st (framesOf r.code l) ∧ SameBut [.requests q] s.part t := by
  refine completes_served hreq hport hcheck hcode hserve rfl fun t ht hans => ⟨hans, ?_⟩
  rw [ht]
  have hend : SameBut [] _ (Part.conclude s.part ((s.part.taken q r).replied q ⟨r.tag, st, framesOf r.code l⟩)) :=
    Part.sameBut_conclude_settled hset (by simp) (by simp) (by simp)
  exact ((Part.sameBut_taken s.part q r).trans (Part.sameBut_replied _ q _)).trans (hend.mono (List.nil_subset _))

/-- A request that fails a check on an idle port. -/
theorem completes_idle_refused (hreq : requestOf c = some (q, r)) (hport : Idle s.part q) (hset : Settled s.part)
    (hcheck : s.part.checkRequest q r = some st) (hcode : r.code ≠ portResetCode) :
    Completes c s fun t => Answered t q r.tag st [[]] ∧ SameBut [.requests q] s.part t := by
  refine completes_onEvent (exec_requestOf hreq s) ?_
  rw [Part.event_unheld hport.unheld, Part.requestRow_refused_idle hport hcheck hcode]
  have hend : SameBut [] _ (Part.conclude s.part ((s.part.taken q r).replied q (checkResponse r st))) :=
    Part.sameBut_conclude_settled hset (by simp) (by simp) (by simp)
  have hline : (Part.conclude s.part ((s.part.taken q r).replied q (checkResponse r st))).line q =
      ((s.part.taken q r).replied q (checkResponse r st)).line q := by simp
  exact ⟨Part.answered_of_line hline (Part.answered_replied rfl),
    ((Part.sameBut_taken s.part q r).trans (Part.sameBut_replied _ q _)).trans (hend.mono (List.nil_subset _))⟩

/-! ### PORT RESET -/

/-- What a port's own records keep stands through the end of an event that leaves the rest settled. -/
theorem sameBut_conclude_port {p t : Part} {bs : List Piece} (hset : Settled p) (h : SameBut bs p t)
    (hssu : t.ssu = p.ssu) (hocc : t.smn.occupied = p.smn.occupied) (hrtu : t.rtu = p.rtu) :
    SameBut bs p (Part.conclude p t) :=
  h.trans ((Part.sameBut_conclude_settled hset hssu hocc hrtu).mono (List.nil_subset _))

/-- A PORT RESET that a check turns away is answered with its status and has no other effect (R186, R193). -/
theorem completes_reset_refused {tag : Byte} (hport : Idle s.part q) (hset : Settled s.part)
    (hcheck : s.part.checkRequest q ⟨0x0C, tag, 0, []⟩ = some st) :
    Completes (.portReset q tag) s fun t => Answered t q tag st [[]] ∧ SameBut [.requests q] s.part t := by
  refine completes_onEvent (exec_requestOf rfl s) ?_
  obtain ⟨hservice, -⟩ := hport.free
  have hclear : ((s.part.clearSent q).port q).inService = none := by simp [Part.clearSent, hservice]
  have hwake : (s.part.clearSent q).wake = s.part.clearSent q := Part.wake_running (by simpa using hport.awake)
  have hcheck' : (s.part.clearSent q).checkRequest q ⟨0x0C, tag, 0, []⟩ = some st := by
    rw [Part.clearSent, Part.setPort_checkRequest, hcheck]
  have htake : (s.part.clearSent q).takeRequest q ⟨0x0C, tag, 0, []⟩ = (s.part.clearSent q).deliver q ⟨tag, st, [[]]⟩ := by
    simp only [Part.takeRequest, portResetCode, if_true, hwake, Part.takeReset, hcheck', Part.refuseReset, checkResponse]
    cases q <;> simp [Part.clearSent, hservice, Part.deliver]
  have hdone : (((s.part.clearSent q).deliver q ⟨tag, st, [[]]⟩).port q).inService = none := by
    cases q <;> simp [Part.deliver, Part.sendRoom, hclear]
  have hrow : s.part.requestRow q ⟨0x0C, tag, 0, []⟩ = (s.part.clearSent q).deliver q ⟨tag, st, [[]]⟩ := by
    simp only [Part.requestRow, hclear, htake, hdone, reduceCtorEq, if_false]
  rw [Part.event_unheld hport.unheld, hrow]
  constructor
  · refine Part.answered_of_line (p := (s.part.clearSent q).deliver q ⟨tag, st, [[]]⟩) (by simp) ?_
    cases q <;> simp [Answered, Part.deliver, Part.sendRoom, Part.clearSent, hservice]
  · refine sameBut_conclude_port hset ?_ (by simp) (by simp) (by simp)
    intro b hb
    cases b with
    | requests a => cases q <;> simp_all [Piece.Same, Part.deliver, Part.sendRoom, Part.clearSent, Part.setPort_line]
    | _ => cases q <;> simp [Piece.Same, Part.deliver, Part.sendRoom, Part.clearSent]

/-- Settles O32: the rights are the first check, and the stage is the last. -/
theorem rightsAndStartUpAreChecked : Obligations.RightsAndStartUpAreChecked := by
  unfold Obligations.RightsAndStartUpAreChecked
  constructor
  · intro c q r s hreq hport hset hright
    have hcode : r.code ≠ portResetCode := by
      rintro hcode
      simp [hcode, portResetCode] at hright
    exact completes_idle_refused hreq (Part.idle_listening hport) hset (Part.checkRequest_notPermitted hreq hright) hcode
  · intro c q r s hreq hstage ⟨hawake, hfree⟩ hset hright
    have hport : Idle s.part q := by
      refine ⟨?_, hawake, hfree⟩
      rcases hstage with hstage | ⟨hstage, -⟩ <;> simp [Part.isHeld, hstage]
    have hcheck : s.part.checkRequest q r = some .busy := by
      rw [Part.checkRequest_permitted hreq hright]
      rcases hstage with hstage | ⟨hstage, hcode⟩
      · simp [Part.stageAnswer, hstage]
      · have hread : isRead r.code = false := by
          simp only [isRead, Bool.and_eq_false_iff, decide_eq_false_iff_not]
          omega
        simp [Part.stageAnswer, hstage, hread]
    by_cases hcode : r.code = portResetCode
    · obtain ⟨tag, rfl, rfl⟩ := Part.requestOf_portReset hreq hcode
      exact completes_reset_refused hport hset hcheck
    · exact completes_idle_refused hreq hport hset hcheck hcode

end Sys2Proof.Machine
end

section
/-! The READ requests, IDENT and the notices: the contents of the answer are read from the part as it stands, and the part
is left (R43, R61, R90, R126, R141, R146, R160, R179, R181, R187, R195). -/

namespace Sys2Proof.Machine

variable {c : Instr} {q : Port} {tag : Byte} {s : State}

theorem framesOf_segmented {code : Byte} (h : isSegmented code = true) (l : List Byte) : framesOf code l = segments l :=
  if_pos h

theorem framesOf_plain {code : Byte} (h : isSegmented code = false) (l : List Byte) : framesOf code l = [l] := by
  simp [framesOf, h]

/-- A READ request whose owner leaves the part is answered with what the owner gives. -/
theorem completes_read {r : Request} {x : Part.Reply} (hreq : requestOf c = some (q, r)) (hport : Readable s.part q)
    (hset : Settled s.part) (hread : isRead r.code = true) (hsegmented : isSegmented r.code = false)
    (hserve : (s.part.taken q r).serveOwner q r = (s.part.taken q r, x)) :
    Completes c s fun t => Answered t q r.tag x.1 [x.2] ∧ SameBut [.requests q] s.part t := by
  rw [← framesOf_plain hsegmented]
  exact completes_idle_unchanged hreq (Part.idle_readable hport) hset (Part.checkRequest_read hreq hread hport.1)
    (by rintro hcode; simp [hcode, isRead, portResetCode] at hread) hserve

theorem completes_read_segmented {r : Request} {x : Part.Reply} (hreq : requestOf c = some (q, r))
    (hport : Readable s.part q) (hset : Settled s.part) (hread : isRead r.code = true)
    (hsegmented : isSegmented r.code = true)
    (hserve : (s.part.taken q r).serveOwner q r = (s.part.taken q r, x)) :
    Completes c s fun t => Answered t q r.tag x.1 (segments x.2) ∧ SameBut [.requests q] s.part t := by
  rw [← framesOf_segmented hsegmented]
  exact completes_idle_unchanged hreq (Part.idle_readable hport) hset (Part.checkRequest_read hreq hread hport.1)
    (by rintro hcode; simp [hcode, isRead, portResetCode] at hread) hserve

/-! ### IDENT, the clock and the segmented records -/

theorem Part.identContents_eq (p : Part) :
    p.identContents =
      ([0x1D, 0x6A, 0x0C, 0x14, 1] : List Byte) ++ b2 p.prt.roomId ++ p.prt.tableName ++
        [byteOf (8 + 4 * p.pln.straps.seatCount.toNat), byteOf p.pln.straps.linkRate.toNat,
          if p.pln.straps.indStyle then 2 else 1,
          match p.pln.outcome with
          | .none => 0
          | .plan => 1
          | .default => 2,
          if p.pln.corrected then 1 else 0, if p.pln.saving then 1 else 0,
          match p.pln.result with
          | .none => 0
          | .saved => 1
          | .writeFailed => 2] := by
  have hstyle : b1 (if p.pln.straps.indStyle then 2 else 1) = [if p.pln.straps.indStyle then 2 else 1] := by
    cases p.pln.straps.indStyle <;> rfl
  have houtcome : b1 p.pln.outcome.code = [match p.pln.outcome with | .none => 0 | .plan => 1 | .default => 2] := by
    cases p.pln.outcome <;> rfl
  have hresult : b1 p.pln.result.code = [match p.pln.result with | .none => 0 | .saved => 1 | .writeFailed => 2] := by
    cases p.pln.result <;> rfl
  have hcodes : b2 Config.vendorCode ++ b2 Config.partCode ++ b1 Config.revision =
      ([0x1D, 0x6A, 0x0C, 0x14, 1] : List Byte) := by decide
  delta identContents
  rw [hcodes, hstyle, houtcome, hresult]
  simp only [strapCount, bool_eq, List.append_assoc, List.cons_append, List.nil_append]
  rfl

theorem Part.clockContents_eq (p : Part) :
    p.clockContents =
      [byteOf (p.sch.clock.day / 256), byteOf p.sch.clock.day, byteOf (p.sch.clock.minute / 256),
        byteOf p.sch.clock.minute, byteOf p.sch.clock.second, if p.sch.clock.valid then 1 else 0] := by
  simp only [clockContents, bool_eq, b1, b2, List.cons_append, List.nil_append]

theorem Part.taken_floorContents (p : Part) (q : Port) (r : Request) : (p.taken q r).floorContents = p.floorContents := by
  have hindication := Part.indicationOf_eq (p := p) (t := p.taken q r) (by simp) (by simp) (by simp) (by simp)
  simp only [floorContents, hindication, Part.taken_blocks, Part.taken_slot]

theorem Part.serveOwner_floorRead (p : Part) (q : Port) (tag : Byte) :
    (p.taken q ⟨0x02, tag, 0, []⟩).serveOwner q ⟨0x02, tag, 0, []⟩ =
      (p.taken q ⟨0x02, tag, 0, []⟩, .done, p.floorContents) := by
  rw [← p.taken_floorContents q ⟨0x02, tag, 0, []⟩]
  rfl

theorem segments_nil : segments [] = [[0x10]] := by decide

/-- A selector above 1 names no table of ROUTE READ (R141). -/
theorem Part.routeRead_range {p : Part} {n : Nat} (h : 1 < n) : p.routeRead n = (.range, []) := by
  have h0 : n ≠ 0 := by omega
  have h1 : n ≠ 1 := by omega
  simp [routeRead, h0, h1]

/-- Settles O33: the owner gives the contents and leaves the part. -/
theorem identAndSegmentedReadsAnswer : Obligations.IdentAndSegmentedReadsAnswer := by
  unfold Obligations.IdentAndSegmentedReadsAnswer
  refine ⟨fun q tag s hport hset => ?_, fun q tag s hport hset => ?_, fun q tag sel s hport hset => ⟨?_, ?_, ?_⟩⟩
  · have h := completes_read (c := .ident q tag) (x := (.done, s.part.identContents)) rfl hport hset rfl rfl rfl
    rw [Part.identContents_eq] at h
    exact h
  · have h := completes_read (c := .clockRead q tag) (x := (.done, s.part.clockContents)) rfl hport hset rfl rfl rfl
    rw [Part.clockContents_eq] at h
    exact h
  · have h := completes_read_segmented (c := .floorRead q tag) rfl hport hset rfl rfl (Part.serveOwner_floorRead s.part q tag)
    exact h
  · have h := completes_read_segmented (c := .sessionRead q tag) (x := (.done, s.part.sessionContents)) rfl hport hset rfl
      rfl rfl
    exact h
  · refine (completes_read_segmented (c := .routeRead q tag sel) (x := s.part.routeRead sel.toNat) rfl hport hset rfl rfl rfl).mono ?_
    rintro t ⟨hans, hbut⟩
    refine ⟨fun hsel => ?_, fun hsel => ?_, fun hsel => ?_, hbut⟩
    · subst hsel
      exact hans
    · subst hsel
      exact hans
    · rw [Part.routeRead_range hsel] at hans
      rw [← segments_nil]
      exact hans

/-! ### The records of SEAT READ, CHANNEL READ and SOURCE READ -/

theorem seatOfNumber_none {n : Nat} (h : n = 0 ∨ 20 < n) : seatOfNumber n = none := by
  unfold seatOfNumber
  split
  · omega
  · rfl

theorem channelOfNumber_eq {n : Nat} {k : ChannelId} (h : n = k.val) : channelOfNumber n = some k := by
  have hk : k.val ≤ 40 := by omega
  simp [channelOfNumber, h, hk]

theorem channelOfNumber_none {n : Nat} (h : 40 < n) : channelOfNumber n = none := by
  unfold channelOfNumber
  split
  · omega
  · rfl

theorem socketOfNumber_eq {n : Nat} {k : SocketId} (h : n = k.val + 1) : socketOfNumber n = some k := by
  simp [socketOfNumber, h]

theorem socketOfNumber_none {n : Nat} (h : n = 0 ∨ 8 < n) : socketOfNumber n = none := by
  unfold socketOfNumber
  split
  · omega
  · rfl

/-- The selectors that SOURCE READ does not know (R197). -/
theorem Part.sourceRead_range {p : Part} {n : Nat} (h : n = 0 ∨ (10 < n ∧ n < 0x20) ∨ 0x22 < n) :
    p.sourceRead n = (.range, []) := by
  have hsocket : socketOfNumber n = none := socketOfNumber_none (by omega)
  simp only [sourceRead, hsocket]
  repeat rw [if_neg (by omega)]

/-! ### The banks -/

/-- A bank selector above 3 or a part above 8 (R197). -/
theorem Part.bankRead_range {p : Part} {bank part : Nat} (h : 3 < bank ∨ 8 < part) :
    p.bankRead bank part = (.range, []) := by
  unfold bankRead
  split
  · rfl
  next b hbank =>
    have hpart : 8 < part := by
      refine h.resolve_left fun hhigh => ?_
      unfold bankOf at hbank
      repeat rw [if_neg (by omega)] at hbank
      cases hbank
    rw [if_pos hpart]

/-- The entries of a bank, four to a part. -/
theorem Part.bankRead_entries {p : Part} {bank part : Nat} {b : Bool × Bank} (hbank : p.bankOf bank = some b)
    (hlow : 1 ≤ part) (hhigh : part ≤ 8) :
    p.bankRead bank part = (.done, byteOf ((b.2.entries.drop (4 * part - 4)).take 4).length ::
      ((b.2.entries.drop (4 * part - 4)).take 4).flatMap Part.entryBytes) := by
  simp only [bankRead, hbank]
  rw [if_neg (by omega), if_neg (by omega)]
  rfl

/-! ### The summaries -/

theorem Part.summaryRead_range {p : Part} {n : Nat} (h : 5 < n) : p.summaryRead n = (.range, []) := if_pos h

theorem Part.summaryRead_empty {p : Part} {n : Nat} (h : n ≤ 5) (hstore : p.ssu.store = []) :
    p.summaryRead n = (.state, []) := by
  rw [summaryRead, if_neg (by omega), hstore]

theorem Part.summaryRead_oldest {p : Part} {n : Nat} {x : Summary} (h : n ≤ 5) (hx : p.ssu.store.head? = some x) :
    p.summaryRead n = (.done, b2 x.number ++ [if p.ssu.lost then 1 else 0, byteOf p.ssu.store.length] ++
      (if n = 0 then summaryHead x else listed (fourOf x.lines n) lineBytes)) := by
  obtain ⟨rest, hstore⟩ := List.head?_eq_some_iff.mp hx
  simp only [summaryRead, if_neg (Nat.not_lt.mpr h), hstore, bool_eq, b1, List.append_assoc]
  rfl

/-- Settles O34: the owner gives the record named or RANGE, and leaves the part. -/
theorem recordReadsAnswer : Obligations.RecordReadsAnswer := by
  unfold Obligations.RecordReadsAnswer
  refine ⟨fun q tag n s hport hset => ⟨?_, ?_, ?_⟩, fun q tag sel part s hport hset => ?_, fun tag n s hport hset => ?_⟩
  · refine (completes_read (c := .seatRead q tag n) (x := s.part.seatRead n.toNat) rfl hport hset rfl rfl rfl).mono ?_
    rintro t ⟨hans, hbut⟩
    refine ⟨fun i hi => ?_, fun hn => ?_, hbut⟩
    · rw [Part.seatRead, Part.seatOfNumber_eq hi] at hans
      exact hans
    · rw [Part.seatRead, seatOfNumber_none (hn.imp_left (congrArg BitVec.toNat))] at hans
      exact hans
  · refine (completes_read (c := .channelRead q tag n) (x := s.part.channelRead n.toNat) rfl hport hset rfl rfl rfl).mono ?_
    rintro t ⟨hans, hbut⟩
    refine ⟨fun k hk => ?_, fun hn => ?_, hbut⟩
    · rw [Part.channelRead, channelOfNumber_eq hk] at hans
      exact hans
    · rw [Part.channelRead, channelOfNumber_none hn] at hans
      exact hans
  · refine (completes_read (c := .sourceRead q tag n) (x := s.part.sourceRead n.toNat) rfl hport hset rfl rfl rfl).mono ?_
    rintro t ⟨hans, hbut⟩
    refine ⟨fun k hk => ?_, fun hn => ?_, fun hn => ?_, fun hn => ?_, fun hn => ?_, fun hn => ?_, fun hn => ?_, hbut⟩
    · rw [Part.sourceRead, socketOfNumber_eq hk] at hans
      exact hans
    · subst hn
      rw [← bool_eq]
      exact hans
    · subst hn
      rw [← bool_eq]
      exact hans
    · subst hn
      exact hans
    · subst hn
      exact hans
    · subst hn
      exact hans
    · rw [Part.sourceRead_range (hn.imp_left (congrArg BitVec.toNat))] at hans
      exact hans
  · refine (completes_read_segmented (c := .bankRead q tag sel part) (x := s.part.bankRead sel.toNat part.toNat) rfl hport hset rfl
      rfl rfl).mono ?_
    rintro t ⟨hans, hbut⟩
    refine ⟨?_, ?_, ?_, ?_, ?_, fun hn => ?_, hbut⟩
    · intro x hx hsel hlow hhigh
      simp only [List.mem_cons, List.not_mem_nil, or_false] at hx
      obtain ⟨isA, hbank⟩ : ∃ isA, s.part.bankOf sel.toNat = some (isA, x.2) := by
        rcases hx with rfl | rfl | rfl | rfl <;> exact ⟨_, by subst hsel; rfl⟩
      rw [Part.bankRead_entries hbank hlow hhigh] at hans
      exact hans
    · rintro rfl rfl
      exact hans
    · rintro rfl rfl
      exact hans
    · rintro rfl rfl
      exact hans
    · rintro rfl rfl
      exact hans
    · rw [Part.bankRead_range hn] at hans
      rw [← segments_nil]
      exact hans
  · have hserve : (s.part.taken .room ⟨0x47, tag, 1, [n]⟩).serveOwner .room ⟨0x47, tag, 1, [n]⟩ =
        (s.part.taken .room ⟨0x47, tag, 1, [n]⟩, s.part.summaryRead n.toNat) := rfl
    refine (completes_idle_unchanged (c := .summaryRead .room tag n) (st := (s.part.summaryRead n.toNat).1)
      (l := (s.part.summaryRead n.toNat).2) rfl (Part.idle_listening hport) hset
      (Part.checkRequest_run (c := .summaryRead .room tag n) rfl (.inr (.inr (.inr (.inl ⟨?_, ?_, rfl⟩)))) hport.1.1)
      (by simp [portResetCode]) hserve).mono ?_
    · exact (by decide : 64 ≤ (0x47 : Byte).toNat)
    · exact (by decide : (0x47 : Byte).toNat < 80)
    rintro t ⟨hans, hbut⟩
    refine ⟨hbut, fun hn => ?_, fun hn hstore => ?_, fun x hx hn => ?_, fun x hx hlow hhigh => ?_⟩
    all_goals rw [framesOf_segmented rfl] at hans
    · rw [Part.summaryRead_range hn] at hans
      rw [← segments_nil]
      exact hans
    · rw [Part.summaryRead_empty hn hstore] at hans
      rw [← segments_nil]
      exact hans
    · have hzero : n.toNat = 0 := congrArg BitVec.toNat hn
      rw [Part.summaryRead_oldest (by omega) hx, hzero, if_pos rfl] at hans
      exact hans
    · have hpart : n.toNat ≠ 0 := by omega
      rw [Part.summaryRead_oldest hhigh hx] at hans
      simp only [hpart, if_false] at hans
      exact hans

end Sys2Proof.Machine
end

section
/-! NOTICE READ and PORT RESET (R190, R191, R193). -/

namespace Sys2Proof.Machine

variable {q : Port} {tag : Byte} {s : State}

namespace Part

theorem replied_notices (p : Part) (q : Port) (r : Response) : (p.replied q r).notices = p.notices := by simp

/-! ### NOTICE READ -/

theorem noticeContents_eq (p : Part) (q : Port) :
    p.noticeContents q = b2 (p.port q).flags.toNat ++ [(p.port q).causes] ++ b2 (p.port q).mask.toNat := by
  rw [noticeContents, b1, byteOf, BitVec.ofNat_toNat, BitVec.setWidth_eq]

/-- The flags and cause marks of one port are cleared, and nothing else changes (R191). -/
theorem sameBut_clearNotices (p : Part) (q : Port) :
    SameBut [.notices] p (p.setPort q { p.port q with flags := 0, causes := 0 }) := by
  intro b hb
  cases b <;> simp_all [Piece.Same]

theorem notices_of_cleared {p : Part} {q a : Port} {x : PortRecord} (hflags : x.flags = 0) (hcauses : x.causes = 0) :
    (p.setPort q x).notices a = if a = q then (0, 0) else p.notices a := by
  simp only [notices, setPort_port]
  split <;> simp [hflags, hcauses]

/-- With no flag set the attention line is released (R190). -/
theorem attention_of_notices {p : Part} {q : Port} (before : Part) (h : (conclude before p).notices q = (0, 0)) :
    ((conclude before p).port q).attention = false := by
  have hflags : ((conclude before p).port q).flags = 0 := congrArg Prod.fst h
  rw [conclude_attention, attentionOf, hflags]
  simp

/-! ### PORT RESET -/

/-- The record of a port with nothing in service after a PORT RESET, its lines aside (R193). -/
theorem requestRow_portReset {p : Part} (h : Listening p q) (tag : Byte) :
    p.requestRow q ⟨0x0C, tag, 0, []⟩ = (p.clearSent q).portReset q tag := by
  obtain ⟨hrunning, hservice, hwaiting, hdrop, hheld⟩ := h
  have hclear : ((p.clearSent q).port q).inService = none := by simp [clearSent, hservice]
  have hwake : (p.clearSent q).wake = p.clearSent q := wake_running (by simpa using hrunning.2)
  have hcheck : (p.clearSent q).checkRequest q ⟨0x0C, tag, 0, []⟩ = none := by
    rw [clearSent, setPort_checkRequest]
    exact checkRequest_run (c := .portReset q tag) rfl (.inl (by simp)) hrunning.1
  have htake : (p.clearSent q).takeRequest q ⟨0x0C, tag, 0, []⟩ = (p.clearSent q).portReset q tag := by
    simp only [takeRequest, portResetCode, if_true, hwake, takeReset, hcheck]
  have hdone : (((p.clearSent q).portReset q tag).port q).inService = none := by
    cases q <;> simp [portReset, hclear, sendRoom]
  simp only [requestRow, hclear, htake, hdone, reduceCtorEq, if_false]

/-- A PORT RESET on a port with nothing in service touches this port's record alone. -/
theorem sameBut_portReset (p : Part) (q : Port) (tag : Byte) :
    SameBut [.requests q, .notices, .masks] p ((p.clearSent q).portReset q tag) := by
  intro b hb
  cases b with
  | requests a =>
    cases q <;> simp_all [Piece.Same, portReset, clearSent, sendRoom, setPort_line]
    split <;> simp_all [setPort_line]
  | _ => simp_all [Piece.Same]

/-- The port's record after a PORT RESET with nothing in service (R193). -/
theorem portReset_record {p : Part} (hservice : (p.port q).inService = none) (tag : Byte) :
    ∃ x : PortRecord, (p.clearSent q).portReset q tag = p.setPort q x ∧ Answered (p.setPort q x) q tag .done [[]] ∧
      x.flags = 0 ∧ x.causes = 0 ∧ x.mask = defaultMask q := by
  cases q <;>
  · simp only [portReset, clearSent, sendRoom, setPort_setPort, setPort_port_self, hservice, Option.isSome_none,
      Bool.false_eq_true, if_false]
    exact ⟨_, rfl, by simp [Answered], rfl, rfl, rfl⟩

end Part

/-- The owner clears the notices of the port that asks, and the answer carries them as they stood (R191). -/
theorem completes_noticeRead (hport : Readable s.part q) (hset : Settled s.part) :
    Completes (.noticeRead q tag) s fun t =>
      Answered t q tag .done [s.part.noticeContents q] ∧ (t.port q).attention = false ∧
        (∀ a, t.notices a = if a = q then (0, 0) else s.part.notices a) ∧ SameBut [.requests q, .notices] s.part t := by
  have hserve : (s.part.taken q ⟨0x0A, tag, 0, []⟩).serveOwner q ⟨0x0A, tag, 0, []⟩ =
      (s.part.taken q ⟨0x0A, tag, 0, []⟩).noticeRead q := rfl
  have hcontents : (s.part.taken q ⟨0x0A, tag, 0, []⟩).noticeContents q = s.part.noticeContents q := by
    simp [Part.noticeContents_eq, Part.taken_port]
  refine completes_served (c := .noticeRead q tag) rfl (Part.idle_readable hport)
    (Part.checkRequest_read (c := .noticeRead q tag) rfl rfl hport.1) (by simp [portResetCode]) hserve (by simp) ?_
  rintro t ht hans
  rw [hcontents] at hans
  have hend := Part.sameBut_conclude_settled (t := ((s.part.taken q ⟨0x0A, tag, 0, []⟩).noticeRead q).1.replied q
    ⟨tag, .done, framesOf 0x0A ((s.part.taken q ⟨0x0A, tag, 0, []⟩).noticeContents q)⟩) hset (by simp) (by simp) (by simp)
  have hnotices (a : Port) : t.notices a = if a = q then (0, 0) else s.part.notices a := by
    have hsame : t.notices = _ := ht ▸ hend .notices (by simp)
    rw [hsame, Part.replied_notices, Part.noticeRead, Part.notices_of_cleared rfl rfl]
    simp
  refine ⟨hans, ?_, hnotices, ?_⟩
  · rw [ht]
    exact Part.attention_of_notices _ (by simpa [ht] using hnotices q)
  · rw [ht]
    exact ((Part.sameBut_taken s.part q _).mono (by simp)).trans (((Part.sameBut_clearNotices _ q).mono (by simp)).trans
      (((Part.sameBut_replied _ q _).mono (by simp)).trans (hend.mono (List.nil_subset _))))

/-- Settles O36: a port's own requests write the record of this port alone. -/
theorem noticeReadAndPortResetClear : Obligations.NoticeReadAndPortResetClear := by
  unfold Obligations.NoticeReadAndPortResetClear
  constructor
  · intro q tag s hport hset
    refine (completes_noticeRead hport hset).mono ?_
    rintro t ⟨hans, hattention, hnotices, hbut⟩
    rw [Part.noticeContents_eq] at hans
    exact ⟨hans, by simp [hnotices], hattention, fun a ha => by simp [hnotices, ha], hbut⟩
  · intro q tag s hport hset
    refine completes_onEvent (exec_requestOf (c := .portReset q tag) rfl s) ?_
    rw [Part.event_running hport.1.1, Part.requestRow_portReset hport]
    have hbut := Part.sameBut_portReset s.part q tag
    obtain ⟨x, hx, hans, hflags, hcauses, hmask⟩ := Part.portReset_record hport.2.1 tag
    rw [hx] at hbut ⊢
    have hend := Part.sameBut_conclude_settled (t := s.part.setPort q x) hset rfl rfl rfl
    have hnotices (a : Port) : (Part.conclude s.part (s.part.setPort q x)).notices a =
        if a = q then (0, 0) else s.part.notices a := by
      rw [show (Part.conclude s.part (s.part.setPort q x)).notices = _ from hend .notices (by simp)]
      exact Part.notices_of_cleared hflags hcauses
    have hmasks (a : Port) : (Part.conclude s.part (s.part.setPort q x)).maskOf a =
        if a = q then defaultMask q else s.part.maskOf a := by
      rw [show (Part.conclude s.part (s.part.setPort q x)).maskOf = _ from hend .masks (by simp)]
      simp only [Part.maskOf, Part.setPort_port]
      split <;> simp [hmask]
    refine ⟨Part.answered_of_line (by simp) hans, by simp [hnotices], ?_, fun a ha => ?_,
      hbut.trans (hend.mono (List.nil_subset _))⟩
    · have hq := hmasks q
      rw [if_pos rfl] at hq
      exact hq.trans (by cases q <;> rfl)
    · simp [hnotices, hmasks, ha]

end Sys2Proof.Machine
end

section
/-! The lines of the ports: transfers, response reads, the request that waits, and the room link's receiver (R183 to R187). -/

namespace Sys2Proof.Machine

namespace Part

variable {p : Part} {q : Port}

/-- A port's record is replaced, its notices and its mask kept. -/
theorem sameBut_setPort {x : PortRecord} (hflags : x.flags = (p.port q).flags) (hcauses : x.causes = (p.port q).causes)
    (hmask : x.mask = (p.port q).mask) : SameBut [.requests q] p (p.setPort q x) := by
  intro b hb
  cases b with
  | requests a => simp_all [Piece.Same, setPort_line]
  | _ => simp_all [Piece.Same]

theorem sameBut_deliver (p : Part) (q : Port) (r : Response) : SameBut [.requests q] p (p.deliver q r) := by
  cases q <;> exact sameBut_setPort rfl rfl rfl

theorem clearSent_port (p : Part) (q : Port) : (p.clearSent q).port q = { p.port q with sent := [], acks := [] } := by
  simp [clearSent]

theorem clearSent_checkRequest (p : Part) (q a : Port) (r : Request) :
    (p.clearSent q).checkRequest a r = p.checkRequest a r := setPort_checkRequest _ _ _ _ _

/-- The end of an event keeps what a port holds of its requests and responses. -/
theorem port_of_line {t : Part} (h : t.line q = p.line q) :
    (t.port q).inService = (p.port q).inService ∧ (t.port q).waiting = (p.port q).waiting ∧
      (t.port q).pending = (p.port q).pending ∧ (t.port q).sent = (p.port q).sent ∧ (t.port q).acks = (p.port q).acks := by
  simp only [line, Prod.mk.injEq] at h
  tauto

end Part

/-- A command that touches the ports' records and the receiver alone. -/
theorem completes_ports {c : Instr} {s : State} {f : Part → Part} {bs : List Piece} {post : Part → Prop}
    (hexec : exec c s = s.onEvent f) (hheld : s.part.isHeld = false) (hset : Settled s.part)
    (hsame : SameBut bs s.part (f s.part)) (hssu : (f s.part).ssu = s.part.ssu) (hsmn : (f s.part).smn = s.part.smn)
    (hrtu : (f s.part).rtu = s.part.rtu)
    (hpost : ∀ t : Part, t.line = (f s.part).line → t.prt.rx = (f s.part).prt.rx → SameBut bs s.part t → post t) :
    Completes c s post := by
  refine completes_onEvent hexec ?_
  rw [Part.event_unheld hheld]
  exact hpost _ (by simp) (by simp) (sameBut_conclude_port hset hsame hssu (by rw [hsmn]) hrtu)

/-! ### The request that waits (R185) -/

namespace Part

variable {p : Part} {q : Port} {r : Request}

theorem enterWaiting_passes (hservice : (p.port q).inService = none) (hwaiting : (p.port q).waiting = some r)
    (hcheck : p.checkRequest q r = none) :
    (p.clearSent q).enterWaiting q =
      p.setPort q { p.port q with sent := [], acks := [], waiting := none, inService := some r } := by
  simp [enterWaiting, clearSent, hservice, hwaiting, enterService, hcheck, setPort_setPort]

theorem enterWaiting_refused {st : Status} (hservice : (p.port q).inService = none)
    (hwaiting : (p.port q).waiting = some r) (hcheck : p.checkRequest q r = some st) :
    (p.clearSent q).enterWaiting q =
      (p.setPort q { p.port q with sent := [], acks := [], waiting := none }).deliver q (checkResponse r st) := by
  simp [enterWaiting, clearSent, hservice, hwaiting, enterService, hcheck, setPort_setPort]

end Part

/-- Settles O31: the port's record is all that the entry into service touches. -/
theorem waitingRequestEntersService : Obligations.WaitingRequestEntersService := by
  unfold Obligations.WaitingRequestEntersService
  rintro q r s hheld hset ⟨hservice, hwaiting⟩
  constructor
  · intro hcheck
    have hrow := Part.enterWaiting_passes hservice hwaiting hcheck
    have hsame : SameBut [.requests q] s.part ((s.part.clearSent q).enterWaiting q) := by
      rw [hrow]
      exact Part.sameBut_setPort rfl rfl rfl
    refine completes_ports (f := fun p => (p.clearSent q).enterWaiting q) rfl hheld hset hsame (by simp) (by simp)
      (by simp) ?_
    rintro t hline - hbut
    obtain ⟨h1, h2, -⟩ := Part.port_of_line (congrFun hline q)
    rw [hrow] at h1 h2
    exact ⟨by simpa using h1, by simpa using h2, hbut⟩
  · intro st hcheck
    have hrow := Part.enterWaiting_refused hservice hwaiting hcheck
    have hsame : SameBut [.requests q] s.part ((s.part.clearSent q).enterWaiting q) := by
      rw [hrow]
      refine SameBut.trans ?_ (Part.sameBut_deliver _ q _)
      exact Part.sameBut_setPort rfl rfl rfl
    refine completes_ports (f := fun p => (p.clearSent q).enterWaiting q) rfl hheld hset hsame (by simp) (by simp)
      (by simp) ?_
    rintro t hline - hbut
    have hq := congrFun hline q
    rw [hrow] at hq
    refine ⟨Part.answered_of_line hq ?_, ?_, hbut⟩
    · cases q <;> simp [Answered, Part.deliver, Part.sendRoom, checkResponse, hservice]
    · rw [(Part.port_of_line hq).2.1]
      cases q <;> simp [Part.deliver, Part.sendRoom]

/-! ### Response reads (R183, R187) -/

/-- A frame followed by 00h as far as the read goes. -/
theorem shifted_eq (l : List Byte) (n : Nat) :
    ((List.range n).map fun i => l.getD i 0) = (l ++ List.replicate n 0).take n := by
  refine List.ext_getElem (by simp) fun i h1 h2 => ?_
  have hi : i < n := by simpa using h1
  by_cases hl : i < l.length
  · simp [List.getElem_append_left hl, hl]
  · simp [List.getElem_append_right (Nat.le_of_not_lt hl), Nat.le_of_not_lt hl]

/-- Settles O29. -/
theorem responseReadGivesSegment : Obligations.ResponseReadGivesSegment := by
  unfold Obligations.ResponseReadGivesSegment
  intro q n s hheld hset
  have hread : s.part.readResponse q n = s.part.setPort (portOf q) { s.part.port (portOf q) with
      sent := [(Part.readFrame (s.part.port (portOf q)) ++ List.replicate n 0).take n], acks := Part.readAcks q
      pending := if 3 ≤ n then Part.afterRead (s.part.port (portOf q)) else (s.part.port (portOf q)).pending } := by
    simp only [Part.readResponse, shifted_eq]
  have hrow {post : Part → Prop} (hpost : ∀ t : Part,
      (t.port (portOf q)).sent = [(Part.readFrame (s.part.port (portOf q)) ++ List.replicate n 0).take n] →
      (t.port (portOf q)).pending = (if 3 ≤ n then Part.afterRead (s.part.port (portOf q)) else
        (s.part.port (portOf q)).pending) → SameBut [.requests (portOf q)] s.part t → post t) :
      Completes (.responseRead q n) s post := by
    have hsame : SameBut [.requests (portOf q)] s.part (s.part.readResponse q n) := by
      rw [hread]
      exact Part.sameBut_setPort rfl rfl rfl
    refine completes_ports (f := fun p => p.readResponse q n) rfl hheld hset hsame (by simp) (by simp) (by simp) ?_
    rintro t hline - hbut
    obtain ⟨-, -, hpending, hsent, -⟩ := Part.port_of_line (congrFun hline (portOf q))
    rw [hread] at hpending hsent
    exact hpost t (by simpa using hsent) (by simpa using hpending) hbut
  constructor
  · intro r hr
    have hr' : (s.part.port (portOf q)).pending = some r := hr
    refine hrow fun t hsent hpending hbut => ⟨?_, ?_, hbut⟩
    · simpa [Part.readFrame, hr'] using hsent
    · rw [hpending, hr']
      by_cases hn : 3 ≤ n
      · simp [Part.afterRead, hr', hn, Nat.not_lt.mpr hn]
      · simp [hn, Nat.lt_of_not_le hn]
  · intro hnone
    refine hrow fun t hsent hpending hbut => ⟨?_, ?_, hbut⟩
    · rw [hsent]
      cases hservice : (s.part.port (portOf q)).inService <;> cases hwaiting : (s.part.port (portOf q)).waiting <;>
        simp [Part.readFrame, hnone, hservice, hwaiting]
    · simpa [Part.afterRead, hnone] using hpending

/-! ### Transfers (R183, R185, R186) -/

namespace Part

variable {p : Part} {q : SerialPort}

/-- What the part gives out in a transfer aside, the port's record is as it was (R183). -/
theorem shiftOut_eq (p : Part) (q : SerialPort) (n : Nat) :
    p.shiftOut q n = p.setPort (portOf q) { p.port (portOf q) with
      sent := if q = .chair then [List.replicate n 0] else [], acks := if q = .chair then [] else writeAcks n } := by
  cases q <;> simp [shiftOut, portOf]

theorem shiftOut_checkRequest (p : Part) (q : SerialPort) (n : Nat) (a : Port) (r : Request) :
    (p.shiftOut q n).checkRequest a r = p.checkRequest a r := by
  rw [shiftOut_eq, setPort_checkRequest]

theorem roomFull_serial (p : Part) (q : SerialPort) : p.roomFull (portOf q) = false := by
  cases q <;> simp [roomFull, portOf]

/-- A transfer that does not begin with 00h on the chair port is a request transfer (R183). -/
theorem requestTransfer_eq {bytes : List Byte} (h : q = .chair → bytes.head? ≠ some 0) :
    p.requestTransfer q bytes = (p.shiftOut q bytes.length).transfer q bytes :=
  if_neg fun hread => h hread.1 hread.2

theorem writeAcks_short {n : Nat} (h : n < 3) : writeAcks n = List.replicate (n + 1) true := by
  interval_cases n <;> decide

/-- A request taken by a free port enters service, or is answered with the check that it fails, PORT RESET among them. -/
theorem takeRequest_passes {q : Port} {r : Request} (hawake : p.pwu.power ≠ .standby) (hroom : p.roomFull q = false)
    (hservice : (p.port q).inService = none) (hcode : r.code ≠ portResetCode) (hcheck : p.checkRequest q r = none) :
    p.takeRequest q r = p.setPort q { p.port q with pending := none, inService := some r } := by
  simp [takeRequest, hcode, hroom, hawake, placeRequest, discardPending, hservice, enterService, hcheck, setPort_setPort]

theorem takeRequest_fails {r : Request} {st : Status} (hawake : p.pwu.power ≠ .standby)
    (hservice : (p.port (portOf q)).inService = none) (hcheck : p.checkRequest (portOf q) r = some st) :
    p.takeRequest (portOf q) r =
      p.setPort (portOf q) { p.port (portOf q) with pending := some (checkResponse r st) } := by
  by_cases hcode : r.code = portResetCode
  · simp only [takeRequest, hcode, if_true, wake_running hawake, takeReset, hcheck]
    cases q <;> rfl
  · simp only [takeRequest, hcode, if_false, roomFull_serial, hawake, Bool.false_eq_true]
    cases q <;> simp_all [placeRequest, discardPending, enterService, deliver, setPort_setPort, portOf]

theorem takeRequest_busy {q : Port} {r x : Request} (hawake : p.pwu.power ≠ .standby) (hroom : p.roomFull q = false)
    (hservice : (p.port q).inService = some x) (hcode : r.code ≠ portResetCode) :
    p.takeRequest q r = p.setPort q { p.port q with pending := none, waiting := some r } := by
  simp only [takeRequest, hcode, hroom, hawake, if_false, Bool.false_eq_true]
  exact placeRequest_busy (by simp [hservice]) r

theorem takeRequest_full {q : Port} {r : Request} (hroom : p.roomFull q = true) (hcode : r.code ≠ portResetCode) :
    p.takeRequest q r = p := by
  rw [takeRequest, if_neg hcode, if_pos hroom]

end Part

/-! ### The room link's receiver (R184) -/

namespace Part

variable {p : Part}

theorem setReceiver_setReceiver (p : Part) (x y : Receiver) : (p.setReceiver x).setReceiver y = p.setReceiver y := rfl

theorem setReceiver_rx (p : Part) (x : Receiver) : (p.setReceiver x).prt.rx = x := rfl

theorem roomByte_receives {x : Receiver} {b : Byte} (h : receive p.prt.rx b = (x, none)) :
    p.roomByte b = p.setReceiver x := by
  simp [roomByte, h]

/-- The payload bytes of a frame reach the receiver, none of them a mark (R184). -/
theorem roomBytes_payload {code tag len : Byte} (l acc : List Byte) (hl : l ≠ []) (hlen : acc.length + l.length = len.toNat)
    (p : Part) : (p.setReceiver ⟨.payload, [code, tag, len], acc⟩).roomBytes l =
      p.setReceiver ⟨.sum, [code, tag, len], acc ++ l⟩ := by
  induction l generalizing acc with
  | nil => exact absurd rfl hl
  | cons b l ih =>
    have hbyte (x : Receiver) (hx : payloadByte ⟨.payload, [code, tag, len], acc⟩ b = x) :
        (p.setReceiver ⟨.payload, [code, tag, len], acc⟩).roomByte b = p.setReceiver x := by
      rw [roomByte_receives (x := x) (by rw [setReceiver_rx]; simp [receive, hx]), setReceiver_setReceiver]
    simp only [List.length_cons] at hlen
    by_cases hlast : l = []
    · subst hlast
      exact hbyte _ (by simp [payloadByte]; simp at hlen; omega)
    · have hmore := List.length_pos_of_ne_nil hlast
      simp only [roomBytes, List.foldl_cons]
      rw [hbyte ⟨.payload, [code, tag, len], acc ++ [b]⟩ (by simp [payloadByte]; omega)]
      have hrest := ih (acc ++ [b]) hlast (by simp; omega)
      rw [roomBytes] at hrest
      simpa using hrest

/-- A frame of the length that its header says takes a receiver in HUNT through the frame and back (R184). -/
theorem roomBytes_wire {code tag len sum : Byte} {payload : List Byte} (hphase : p.prt.rx.phase = .hunt)
    (hcode : code ≠ 0x7E) (htag : tag ≠ 0x7E) (hlen : len.toNat ≤ 64) (hpayload : payload.length = len.toNat) :
    p.roomBytes (0x7E :: code :: tag :: len :: payload ++ [sum]) =
      if sum = frameSum (code :: tag :: len :: payload) then
        (p.setReceiver hunting).takeRequest .room ⟨code, tag, len, payload⟩
      else p.setReceiver hunting := by
  have hlenmark : len ≠ 0x7E := by
    rintro rfl
    simp at hlen
  have hheader : p.roomBytes [0x7E, code, tag] = p.setReceiver ⟨.header, [code, tag], []⟩ := by
    have hmark : p.roomByte 0x7E = p.setReceiver ⟨.header, [], []⟩ :=
      roomByte_receives (by simp only [receive, hphase, if_true])
    have hfirst : (p.setReceiver ⟨.header, [], []⟩).roomByte code = p.setReceiver ⟨.header, [code], []⟩ :=
      roomByte_receives (by simp only [receive, setReceiver_rx, if_neg hcode]; rfl)
    have hsecond : (p.setReceiver ⟨.header, [code], []⟩).roomByte tag = p.setReceiver ⟨.header, [code, tag], []⟩ :=
      roomByte_receives (by simp only [receive, setReceiver_rx, if_neg htag]; rfl)
    simp only [roomBytes, List.foldl_cons, List.foldl_nil, hmark, hfirst, hsecond]
  have hsum (q : Part) (hq : q.prt.rx = ⟨.sum, [code, tag, len], payload⟩) : q.roomByte sum =
      if sum = frameSum (code :: tag :: len :: payload) then
        (q.setReceiver hunting).takeRequest .room ⟨code, tag, len, payload⟩
      else q.setReceiver hunting := by
    by_cases hmatch : sum = frameSum (code :: tag :: len :: payload) <;>
      simp [roomByte, receive, hq, frameRequest, hmatch]
  have hlength : (p.setReceiver ⟨.header, [code, tag], []⟩).roomByte len =
      p.setReceiver (if len.toNat = 0 then ⟨.sum, [code, tag, len], []⟩ else ⟨.payload, [code, tag, len], []⟩) := by
    rw [roomByte_receives (x := if len.toNat = 0 then ⟨.sum, [code, tag, len], []⟩ else ⟨.payload, [code, tag, len], []⟩),
      setReceiver_setReceiver]
    have hlong : ¬ ([code, tag] ++ [len]).length < 3 := by simp
    simp only [receive, setReceiver_rx, if_neg hlenmark, headerByte, Config.maxPayload, hlong, Nat.not_lt.mpr hlen,
      if_false]
    rfl
  have hbody : (p.setReceiver ⟨.header, [code, tag], []⟩).roomBytes (len :: payload) =
      p.setReceiver ⟨.sum, [code, tag, len], payload⟩ := by
    by_cases hnil : payload = []
    · subst hnil
      have hzero : len.toNat = 0 := hpayload.symm
      rw [if_pos hzero] at hlength
      exact hlength
    · have hpos : len.toNat ≠ 0 := fun hzero => hnil (List.length_eq_zero_iff.mp (hpayload.trans hzero))
      have hrest := roomBytes_payload (code := code) (tag := tag) payload [] hnil (by simpa using hpayload) p
      rw [if_neg hpos] at hlength
      rw [roomBytes, List.foldl_cons, hlength]
      exact hrest
  have hsplit (q : Part) (l m : List Byte) : q.roomBytes (l ++ m) = (q.roomBytes l).roomBytes m := List.foldl_append
  have hlast : (p.setReceiver ⟨.sum, [code, tag, len], payload⟩).roomBytes [sum] = _ := hsum _ rfl
  rw [show (0x7E :: code :: tag :: len :: payload ++ [sum] : List Byte) =
    [0x7E, code, tag] ++ (len :: payload) ++ [sum] by simp, hsplit, hsplit, hheader, hbody, hlast]
  rfl

end Part

/-! ### The rows of the lines -/

variable {q : SerialPort} {code tag len : Byte} {payload : List Byte} {r x : Request} {st : Status} {s : State}

theorem exec_requestTransfer (q : SerialPort) (bytes : List Byte) (s : State) :
    exec (.requestTransfer q bytes) s = s.onEvent fun p => p.requestTransfer q bytes := rfl

theorem exec_roomLinkFrame (bytes : List Byte) (s : State) :
    exec (.roomLinkFrame bytes) s = s.onEvent fun p => (p.clearSent .room).roomBytes bytes := rfl

/-- What a request transfer comes to, when it leaves the port with the record `x`. -/
theorem completes_transfer {bytes : List Byte} {x : PortRecord} {post : Part → Prop} (hheld : s.part.isHeld = false)
    (hset : Settled s.part) (hrow : s.part.requestTransfer q bytes = s.part.setPort (portOf q) x)
    (hflags : x.flags = (s.part.port (portOf q)).flags) (hcauses : x.causes = (s.part.port (portOf q)).causes)
    (hmask : x.mask = (s.part.port (portOf q)).mask)
    (hpost : ∀ t : Part, t.line (portOf q) = (s.part.setPort (portOf q) x).line (portOf q) →
      SameBut [.requests (portOf q)] s.part t → post t) : Completes (.requestTransfer q bytes) s post := by
  refine completes_ports (exec_requestTransfer q bytes s) hheld hset (hrow ▸ Part.sameBut_setPort hflags hcauses hmask)
    (by rw [hrow]; rfl) (by rw [hrow]; rfl) (by rw [hrow]; rfl) fun t hline _ hbut => hpost t ?_ hbut
  rw [hline, hrow]

theorem Part.requestTransfer_long {p : Part} (hcode : q = .chair → code ≠ 0) :
    p.requestTransfer q (code :: tag :: len :: payload) =
      (p.shiftOut q (payload.length + 3)).takeRequest (portOf q) ⟨code, tag, len, payload⟩ :=
  requestTransfer_eq fun hq => by simpa using hcode hq

/-- A request that passes the checks enters service in place of the pending response. -/
theorem completes_transfer_passes (hport : Listening s.part (portOf q)) (hset : Settled s.part)
    (hchair : q = .chair → code ≠ 0) (hcheck : s.part.checkRequest (portOf q) ⟨code, tag, len, payload⟩ = none)
    (hcode : code ≠ 0x0C) :
    Completes (.requestTransfer q (code :: tag :: len :: payload)) s fun t =>
      (t.port (portOf q)).inService = some ⟨code, tag, len, payload⟩ ∧ (t.port (portOf q)).pending = none ∧
        (t.port (portOf q)).waiting = none ∧
        (t.port (portOf q)).sent = (if q = .chair then [List.replicate (payload.length + 3) 0] else []) ∧
        (t.port (portOf q)).acks = (if q = .chair then [] else Part.writeAcks (payload.length + 3)) ∧
        SameBut [.requests (portOf q)] s.part t := by
  obtain ⟨hrunning, hservice, hwaiting, -⟩ := hport
  have htake := Part.takeRequest_passes (p := s.part.shiftOut q (payload.length + 3)) (q := portOf q)
    (r := ⟨code, tag, len, payload⟩) (by simpa using hrunning.2) (Part.roomFull_serial _ q)
    (by simp [Part.shiftOut_port, hservice]) hcode (by rw [Part.shiftOut_checkRequest, hcheck])
  have hrow := (Part.requestTransfer_long hchair).trans htake
  rw [Part.shiftOut_eq, Part.setPort_setPort, Part.setPort_port_self] at hrow
  refine completes_transfer (Part.isHeld_running hrunning.1) hset hrow rfl rfl rfl fun t hline hbut => ?_
  obtain ⟨h1, h2, h3, h4, h5⟩ := Part.port_of_line hline
  simp only [Part.setPort_port_self] at h1 h2 h3 h4 h5
  exact ⟨h1, h3, h2.trans hwaiting, h4, h5, hbut⟩

/-- A request that fails a check is answered with the check's status. -/
theorem completes_transfer_fails (hport : Listening s.part (portOf q)) (hset : Settled s.part)
    (hchair : q = .chair → code ≠ 0) (hcheck : s.part.checkRequest (portOf q) ⟨code, tag, len, payload⟩ = some st) :
    Completes (.requestTransfer q (code :: tag :: len :: payload)) s fun t =>
      (t.port (portOf q)).inService = none ∧ (t.port (portOf q)).pending = some ⟨tag, st, [[]]⟩ ∧
        (t.port (portOf q)).waiting = none ∧
        (t.port (portOf q)).sent = (if q = .chair then [List.replicate (payload.length + 3) 0] else []) ∧
        (t.port (portOf q)).acks = (if q = .chair then [] else Part.writeAcks (payload.length + 3)) ∧
        SameBut [.requests (portOf q)] s.part t := by
  obtain ⟨hrunning, hservice, hwaiting, -⟩ := hport
  have htake := Part.takeRequest_fails (p := s.part.shiftOut q (payload.length + 3)) (q := q)
    (r := ⟨code, tag, len, payload⟩) (by simpa using hrunning.2) (by simp [Part.shiftOut_port, hservice])
    (by rw [Part.shiftOut_checkRequest, hcheck])
  have hrow := (Part.requestTransfer_long hchair).trans htake
  rw [Part.shiftOut_eq, Part.setPort_setPort, Part.setPort_port_self] at hrow
  refine completes_transfer (Part.isHeld_running hrunning.1) hset hrow rfl rfl rfl fun t hline hbut => ?_
  obtain ⟨h1, h2, h3, h4, h5⟩ := Part.port_of_line hline
  simp only [Part.setPort_port_self] at h1 h2 h3 h4 h5
  exact ⟨h1.trans hservice, h3, h2.trans hwaiting, h4, h5, hbut⟩

/-- A request taken while one is in service waits. -/
theorem completes_transfer_waits (hrunning : Running s.part) (hset : Settled s.part) (hchair : q = .chair → code ≠ 0)
    (hcode : code ≠ 0x0C) (hservice : (s.part.port (portOf q)).inService = some r) :
    Completes (.requestTransfer q (code :: tag :: len :: payload)) s fun t =>
      (t.port (portOf q)).inService = some r ∧ (t.port (portOf q)).waiting = some ⟨code, tag, len, payload⟩ ∧
        (t.port (portOf q)).pending = none ∧ SameBut [.requests (portOf q)] s.part t := by
  have htake := Part.takeRequest_busy (p := s.part.shiftOut q (payload.length + 3)) (q := portOf q)
    (r := ⟨code, tag, len, payload⟩) (x := r) (by simpa using hrunning.2) (Part.roomFull_serial _ q)
    (by simp [Part.shiftOut_port, hservice]) hcode
  have hrow := (Part.requestTransfer_long hchair).trans htake
  rw [Part.shiftOut_eq, Part.setPort_setPort, Part.setPort_port_self] at hrow
  refine completes_transfer (Part.isHeld_running hrunning.1) hset hrow rfl rfl rfl fun t hline hbut => ?_
  obtain ⟨h1, h2, h3, h4, h5⟩ := Part.port_of_line hline
  simp only [Part.setPort_port_self] at h1 h2 h3
  exact ⟨h1.trans hservice, h2, h3, hbut⟩

/-- What a frame on the room link comes to, when it leaves the port and the receiver as given. -/
theorem completes_roomLink {bytes : List Byte} {x : PortRecord} {post : Part → Prop} (hheld : s.part.isHeld = false)
    (hset : Settled s.part)
    (hrow : (s.part.clearSent .room).roomBytes bytes = (s.part.setPort .room x).setReceiver Part.hunting)
    (hflags : x.flags = (s.part.port .room).flags) (hcauses : x.causes = (s.part.port .room).causes)
    (hmask : x.mask = (s.part.port .room).mask)
    (hpost : ∀ t : Part, t.line .room = (s.part.setPort .room x).line .room → t.prt.rx = ⟨.hunt, [], []⟩ →
      SameBut [.requests .room, .receiver] s.part t → post t) : Completes (.roomLinkFrame bytes) s post := by
  have hsame : SameBut [.requests .room, .receiver] s.part ((s.part.clearSent .room).roomBytes bytes) := by
    rw [hrow]
    refine ((Part.sameBut_setPort hflags hcauses hmask).mono (by simp)).trans ?_
    intro b hb
    cases b <;> simp_all [Piece.Same]
  refine completes_ports (exec_roomLinkFrame bytes s) hheld hset hsame (by simp [hrow]) (by simp [hrow]) (by simp [hrow])
    fun t hline hrx hbut => hpost t ?_ ?_ hbut
  · rw [hline, hrow]
    simp
  · rw [hrx, hrow]
    rfl

/-- A request that the room link completes is taken from a port whose lines are clear. -/
theorem Part.roomBytes_request {p : Part} (hphase : p.prt.rx.phase = .hunt) (hmark : code ≠ 0x7E) (htag : tag ≠ 0x7E)
    (hlen : len.toNat ≤ 64) (hpayload : payload.length = len.toNat) :
    (p.clearSent .room).roomBytes (wireFrame (code :: tag :: len :: payload)) =
      ((p.clearSent .room).setReceiver hunting).takeRequest .room ⟨code, tag, len, payload⟩ :=
  (roomBytes_wire (p := p.clearSent .room) (sum := frameSum (code :: tag :: len :: payload)) (by simpa using hphase) hmark
    htag hlen hpayload).trans (if_pos rfl)

/-- The port's record and the receiver are replaced each on its own. -/
theorem Part.setReceiver_setPort (p : Part) (q : Port) (x : PortRecord) (y : Receiver) :
    (p.setReceiver y).setPort q x = (p.setPort q x).setReceiver y := rfl

theorem Part.setReceiver_port (p : Part) (q : Port) (y : Receiver) : (p.setReceiver y).port q = p.port q := rfl

theorem Part.setReceiver_checkRequest (p : Part) (q : Port) (r : Request) (y : Receiver) :
    (p.setReceiver y).checkRequest q r = p.checkRequest q r := rfl

/-- Settles O28: a request that a port takes stands in the port's record alone. -/
theorem transferTakesRequest : Obligations.TransferTakesRequest := by
  unfold Obligations.TransferTakesRequest
  refine ⟨?_, ?_, ?_⟩
  · rintro q bytes s hheld hset ⟨hshort, hchair⟩
    have hrow := (Part.requestTransfer_eq (p := s.part) hchair).trans (Part.transfer_short hshort)
    rw [Part.shiftOut_eq] at hrow
    refine completes_transfer hheld hset hrow rfl rfl rfl fun t hline hbut => ⟨?_, hbut⟩
    rw [hline, Part.writeAcks_short hshort]
    simp [Part.line]
  · intro q code tag len payload s hport hset hchair
    exact ⟨fun hcheck hcode => completes_transfer_passes hport hset hchair hcheck hcode,
      fun st hcheck => completes_transfer_fails hport hset hchair hcheck⟩
  · rintro q code tag len payload r s hrunning hset ⟨hcode, hchair⟩
    refine ⟨completes_transfer_waits hrunning hset hchair hcode, fun hservice hphase hmark htag hlen hpayload => ?_⟩
    have hrow := Part.roomBytes_request hphase hmark htag hlen hpayload
    have hawake : ((s.part.clearSent .room).setReceiver Part.hunting).pwu.power ≠ .standby := by simpa using hrunning.2
    have hbusy : (((s.part.clearSent .room).setReceiver Part.hunting).port .room).inService = some r := by
      simp [Part.setReceiver_port, Part.clearSent, hservice]
    cases hwaiting : (s.part.port .room).waiting with
    | none =>
      have hroom : ((s.part.clearSent .room).setReceiver Part.hunting).roomFull .room = false := by
        simp [Part.roomFull, Part.setReceiver_port, Part.clearSent, hwaiting]
      rw [Part.takeRequest_busy hawake hroom hbusy hcode, Part.setReceiver_port, Part.clearSent_port, Part.setReceiver_setPort,
        Part.clearSent, Part.setPort_setPort] at hrow
      refine completes_roomLink (Part.isHeld_running hrunning.1) hset hrow rfl rfl rfl fun t hline hrx hbut => ?_
      obtain ⟨h1, h2, -, h4, -⟩ := Part.port_of_line hline
      simp only [Part.setPort_port_self] at h1 h2 h4
      exact ⟨h1.trans hservice, by simpa using h2, h4, hrx, hbut⟩
    | some x =>
      have hroom : ((s.part.clearSent .room).setReceiver Part.hunting).roomFull .room = true := by
        simp [Part.roomFull, Part.setReceiver_port, Part.clearSent, hwaiting, hservice]
      rw [Part.takeRequest_full hroom hcode, Part.clearSent] at hrow
      refine completes_roomLink (Part.isHeld_running hrunning.1) hset hrow rfl rfl rfl fun t hline hrx hbut => ?_
      obtain ⟨h1, h2, -, h4, -⟩ := Part.port_of_line hline
      simp only [Part.setPort_port_self] at h1 h2 h4
      exact ⟨h1.trans hservice, by simpa [hwaiting] using h2, h4, hrx, hbut⟩

/-- Settles O30: a frame takes the receiver through its phases to the sum, where its request is taken or dropped; and each
fault leaves it in HUNT. -/
theorem roomLinkFraming : Obligations.RoomLinkFraming := by
  unfold Obligations.RoomLinkFraming
  refine ⟨?_, ?_, ?_⟩
  · rintro code tag len payload s hport hset hphase ⟨hmark, htag, hcode⟩ ⟨hlen, hpayload⟩ hcheck
    obtain ⟨hrunning, hservice, hwaiting, -⟩ := hport
    have hrow := Part.roomBytes_request hphase hmark htag hlen hpayload
    have hroom : ((s.part.clearSent .room).setReceiver Part.hunting).roomFull .room = false := by
      simp [Part.roomFull, Part.setReceiver_port, Part.clearSent, hwaiting]
    rw [Part.takeRequest_passes (by simpa using hrunning.2) hroom
      (by simp [Part.setReceiver_port, Part.clearSent, hservice]) hcode
      (by rw [Part.setReceiver_checkRequest, Part.clearSent_checkRequest, hcheck]), Part.setReceiver_port,
      Part.clearSent_port, Part.setReceiver_setPort, Part.clearSent, Part.setPort_setPort] at hrow
    refine completes_roomLink (Part.isHeld_running hrunning.1) hset hrow rfl rfl rfl fun t hline hrx hbut => ?_
    obtain ⟨h1, -⟩ := Part.port_of_line hline
    exact ⟨by simpa using h1, hrx, hbut⟩
  · rintro code tag len sum payload s hheld hset hphase ⟨hmark, htag⟩ ⟨hlen, hpayload⟩ hsum
    have hrow := (Part.roomBytes_wire (p := s.part.clearSent .room) (by simpa using hphase) hmark htag hlen
      hpayload).trans (if_neg hsum)
    rw [Part.clearSent] at hrow
    refine completes_roomLink hheld hset hrow rfl rfl rfl fun t hline hrx hbut => ?_
    obtain ⟨h1, -, -, h4, -⟩ := Part.port_of_line hline
    simp only [Part.setPort_port_self] at h1 h4
    exact ⟨hrx, h1, h4, hbut⟩
  · intro a b len s hheld hset
    have hdrop : SameBut [.receiver] s.part s.part.dropFrame := by
      intro b hb
      cases b <;> simp_all [Piece.Same]
    refine ⟨completes_ports rfl hheld hset hdrop (by simp) (by simp) (by simp) fun t _ hrx hbut => ⟨hrx, hbut⟩,
      completes_ports rfl hheld hset hdrop (by simp) (by simp) (by simp) fun t _ hrx hbut => ⟨hrx, hbut⟩,
      fun hrx hlong hmark => ?_⟩
    have hrow : (s.part.clearSent .room).roomByte len = (s.part.clearSent .room).setReceiver Part.hunting := by
      refine Part.roomByte_receives ?_
      have hclear : (s.part.clearSent .room).prt.rx = ⟨.header, [a, b], []⟩ := by simpa using hrx
      have hheader : ¬ ([a, b] ++ [len]).length < 3 := by simp
      simp only [Part.receive, hclear, if_neg hmark, Part.headerByte, Config.maxPayload, hheader, hlong, if_false, if_true]
    have hput : SameBut [.receiver, .requests .room] s.part ((s.part.clearSent .room).setReceiver Part.hunting) := by
      have hcleared : SameBut [.requests .room] s.part (s.part.clearSent .room) := Part.sameBut_setPort rfl rfl rfl
      refine (hcleared.mono (by simp)).trans ?_
      intro b hb
      cases b <;> simp_all [Piece.Same]
    refine completes_ports (f := fun p => (p.clearSent .room).roomByte len) rfl hheld hset (bs := [.receiver, .requests .room])
      ?_ ?_ ?_ ?_ fun t _ hrx hbut => ⟨?_, hbut⟩
    · exact hrow ▸ hput
    · exact (congrArg Part.ssu hrow).trans rfl
    · exact (congrArg Part.smn hrow).trans rfl
    · exact (congrArg Part.rtu hrow).trans rfl
    · exact hrx.trans ((congrArg (·.prt.rx) hrow).trans rfl)

end Sys2Proof.Machine
end

section
/-! The requests that replace a setting: PATTERN SET, POLARITY SET, RATE SET, COUNT SET and GAIN SET (R92, R93, R108, R109,
R117, R118). -/

namespace Sys2Proof.Machine

variable {s : State}

namespace Part

@[simp] theorem taken_channel (p : Part) (q : Port) (r : Request) (c : ChannelId) : (p.taken q r).channel c = p.channel c := rfl

@[simp] theorem taken_seat (p : Part) (q : Port) (r : Request) (i : SeatId) : (p.taken q r).seat i = p.seat i := rfl

@[simp] theorem taken_socket (p : Part) (q : Port) (r : Request) (k : SocketId) : (p.taken q r).socket k = p.socket k := rfl

@[simp] theorem taken_screen (p : Part) (q : Port) (r : Request) (k : ScreenId) : (p.taken q r).screen k = p.screen k := rfl

theorem isSaving_taken (p : Part) (q : Port) (r : Request) : (p.taken q r).isSaving = p.pln.saving := rfl

end Part

/-- A row whose owner leaves the session, the occupied count and RTU: what the owner leaves stands. -/
theorem completes_owner {c : Instr} {q : Port} {code tag len : Byte} {payload : List Byte} {y : Part.Served} {bs : List Piece}
    (hreq : requestOf c = some (q, ⟨code, tag, len, payload⟩)) (hport : Listening s.part q) (hset : Settled s.part)
    (hright : Permitted q code.toNat) (hcode : code ≠ portResetCode)
    (hserve : (s.part.taken q ⟨code, tag, len, payload⟩).serveOwner q ⟨code, tag, len, payload⟩ = y)
    (hx : SameBut bs (s.part.taken q ⟨code, tag, len, payload⟩) y.1) (hssu : y.1.ssu = s.part.ssu)
    (hocc : y.1.smn.occupied = s.part.smn.occupied) (hrtu : y.1.rtu = s.part.rtu)
    (hline : y.1.line q = (s.part.taken q ⟨code, tag, len, payload⟩).line q) :
    Completes c s fun t => Answered t q tag y.2.1 (framesOf code y.2.2) ∧ SameBut [.requests q] y.1 t ∧
      SameBut (.requests q :: bs) s.part t ∧ OutputsTrue t := by
  refine completes_served hreq (Part.idle_listening hport) (Part.checkRequest_run hreq hright hport.1.1) hcode hserve hline ?_
  rintro t ht hans
  have hend : SameBut [] (y.1.replied q ⟨tag, y.2.1, framesOf code y.2.2⟩) t := by
    rw [ht]
    exact Part.sameBut_conclude_settled hset (by simpa using hssu) (by simpa using hocc) (by simpa using hrtu)
  have hown : SameBut [.requests q] y.1 t := (Part.sameBut_replied _ q _).trans (hend.mono (List.nil_subset _))
  refine ⟨hans, hown, ?_, ?_⟩
  · exact ((Part.sameBut_taken s.part q _).mono (by simp)).trans ((hx.mono (by simp)).trans (hown.mono (by simp)))
  · rw [ht]
    exact Part.outputsTrue_conclude _ _

/-! ### Named values -/

theorem patternOf_le {n : Nat} (h : n ≤ 3) : ∃ x, patternOf n = some x ∧ x.code = n := by
  interval_cases n <;> exact ⟨_, rfl, rfl⟩

theorem patternOf_gt {n : Nat} (h : 3 < n) : patternOf n = none := by
  obtain ⟨m, rfl⟩ : ∃ m, n = m + 4 := ⟨n - 4, by omega⟩
  rfl

theorem polarityOf_le {n : Nat} (h : n ≤ 1) : ∃ x, polarityOf n = some x ∧ x.code = n := by
  interval_cases n <;> exact ⟨_, rfl, rfl⟩

theorem polarityOf_gt {n : Nat} (h : 1 < n) : polarityOf n = none := by
  obtain ⟨m, rfl⟩ : ∃ m, n = m + 2 := ⟨n - 2, by omega⟩
  rfl

namespace Part

variable {p : Part}

/-! ### PATTERN SET -/

theorem requestPatterns_some {n r g l : Byte} (h : r.toNat ≤ 3 ∧ g.toNat ≤ 3 ∧ l.toNat ≤ 3) :
    ∃ x, requestPatterns [n, r, g, l] = some x ∧
      (x.red.code, x.green.code, x.light.code) = (r.toNat, g.toNat, l.toNat) := by
  obtain ⟨hr, hg, hl⟩ := h
  obtain ⟨red, hred, hredCode⟩ := patternOf_le hr
  obtain ⟨green, hgreen, hgreenCode⟩ := patternOf_le hg
  obtain ⟨light, hlight, hlightCode⟩ := patternOf_le hl
  exact ⟨⟨red, green, light⟩, by simp [requestPatterns, byteAt, hred, hgreen, hlight],
    by simp [hredCode, hgreenCode, hlightCode]⟩

theorem requestPatterns_none {n r g l : Byte} (h : ¬ (r.toNat ≤ 3 ∧ g.toNat ≤ 3 ∧ l.toNat ≤ 3)) :
    requestPatterns [n, r, g, l] = none := by
  by_cases hr : r.toNat ≤ 3
  · by_cases hg : g.toNat ≤ 3
    · have hl : patternOf l.toNat = none := patternOf_gt (by omega)
      simp [requestPatterns, byteAt, hl]
    · have hg : patternOf g.toNat = none := patternOf_gt (by omega)
      simp [requestPatterns, byteAt, hg]
  · have hr : patternOf r.toNat = none := patternOf_gt (by omega)
    simp [requestPatterns, byteAt, hr]

theorem sameBut_setPattern (p : Part) (i : Fin 12) (l : List Byte) : SameBut [.patterns] p (p.setPattern i l).1 := by
  intro b hb
  cases b <;> simp_all [Piece.Same]

theorem setPattern_refused {i : Fin 12} {n r g l : Byte}
    (h : ¬ (p.pln.saving = false ∧ r.toNat ≤ 3 ∧ g.toNat ≤ 3 ∧ l.toNat ≤ 3)) :
    p.setPattern i [n, r, g, l] = (p, if p.pln.saving then .busy else .range) := by
  cases hsaving : p.pln.saving with
  | true => simp [setPattern, isSaving, hsaving]
  | false => simp [setPattern, isSaving, hsaving, requestPatterns_none (fun hle => h ⟨hsaving, hle⟩)]

theorem setPattern_done {i : Fin 12} {n r g l : Byte} (hsaving : p.pln.saving = false)
    (h : r.toNat ≤ 3 ∧ g.toNat ≤ 3 ∧ l.toNat ≤ 3) :
    ∃ x : PatternEntry, (x.red.code, x.green.code, x.light.code) = (r.toNat, g.toNat, l.toNat) ∧
      p.setPattern i [n, r, g, l] = (p.withSgu { p.sgu with patterns := setEntry p.sgu.patterns i x }, .done) := by
  obtain ⟨x, hx, hcode⟩ := requestPatterns_some (n := n) h
  exact ⟨x, hcode, by simp [setPattern, isSaving, hsaving, hx]⟩

theorem finOf_eq {m n : Nat} {i : Fin m} (h : n = i.val) : finOf m n = some i := by
  subst h
  simp [finOf]

theorem patternRequest_eq {i : Fin 12} {n r g l : Byte} (h : n.toNat = i.val) :
    p.patternRequest [n, r, g, l] = ((p.setPattern i [n, r, g, l]).1, (p.setPattern i [n, r, g, l]).2,
      patternBytes ((p.setPattern i [n, r, g, l]).1.sgu.patterns.get i)) := by
  simp [patternRequest, byteAt, finOf_eq h]

/-! ### POLARITY SET -/

theorem requestPolarities_some {r g l : Byte} (h : r.toNat ≤ 1 ∧ g.toNat ≤ 1 ∧ l.toNat ≤ 1) :
    ∃ x, requestPolarities [r, g, l] = some x ∧
      (x.red.code, x.green.code, x.light.code) = (r.toNat, g.toNat, l.toNat) := by
  obtain ⟨hr, hg, hl⟩ := h
  obtain ⟨red, hred, hredCode⟩ := polarityOf_le hr
  obtain ⟨green, hgreen, hgreenCode⟩ := polarityOf_le hg
  obtain ⟨light, hlight, hlightCode⟩ := polarityOf_le hl
  exact ⟨⟨red, green, light⟩, by simp [requestPolarities, byteAt, hred, hgreen, hlight],
    by simp [hredCode, hgreenCode, hlightCode]⟩

theorem requestPolarities_none {r g l : Byte} (h : ¬ (r.toNat ≤ 1 ∧ g.toNat ≤ 1 ∧ l.toNat ≤ 1)) :
    requestPolarities [r, g, l] = none := by
  by_cases hr : r.toNat ≤ 1
  · by_cases hg : g.toNat ≤ 1
    · have hl : polarityOf l.toNat = none := polarityOf_gt (by omega)
      simp [requestPolarities, byteAt, hl]
    · have hg : polarityOf g.toNat = none := polarityOf_gt (by omega)
      simp [requestPolarities, byteAt, hg]
  · have hr : polarityOf r.toNat = none := polarityOf_gt (by omega)
    simp [requestPolarities, byteAt, hr]

theorem sameBut_setPolarity (p : Part) (l : List Byte) : SameBut [.polarity] p (p.setPolarity l).1 := by
  intro b hb
  cases b <;> simp_all [Piece.Same]

theorem setPolarity_refused {r g l : Byte}
    (h : ¬ (p.pln.saving = false ∧ r.toNat ≤ 1 ∧ g.toNat ≤ 1 ∧ l.toNat ≤ 1)) :
    p.setPolarity [r, g, l] = (p, if p.pln.saving then .busy else .range) := by
  cases hsaving : p.pln.saving with
  | true => simp [setPolarity, isSaving, hsaving]
  | false => simp [setPolarity, isSaving, hsaving, requestPolarities_none (fun hle => h ⟨hsaving, hle⟩)]

theorem setPolarity_done {r g l : Byte} (hsaving : p.pln.saving = false) (h : r.toNat ≤ 1 ∧ g.toNat ≤ 1 ∧ l.toNat ≤ 1) :
    ∃ x : Polarities, (x.red.code, x.green.code, x.light.code) = (r.toNat, g.toNat, l.toNat) ∧
      p.setPolarity [r, g, l] = (p.withSgu { p.sgu with polarity := x }, .done) := by
  obtain ⟨x, hx, hcode⟩ := requestPolarities_some h
  exact ⟨x, hcode, by simp [setPolarity, isSaving, hsaving, hx]⟩

end Part

/-- Settles O52: the entry or the polarities that the payload gives come into force, or the part is left. -/
theorem patternAndPolaritySet : Obligations.PatternAndPolaritySet := by
  unfold Obligations.PatternAndPolaritySet
  intro tag n r g l i s hport hset hn
  constructor
  · refine (completes_owner (c := .patternSet .room tag n r g l) rfl hport hset (by decide) (by decide)
      (Part.patternRequest_eq hn) (Part.sameBut_setPattern _ _ _) (by simp) (by simp) (by simp) (by simp)).mono ?_
    rintro t ⟨hans, hown, hbut, houtputs⟩
    have hpatterns : t.sgu.patterns = _ := hown .patterns (by simp)
    rw [framesOf_plain rfl] at hans
    rw [hpatterns]
    dsimp only at hans ⊢
    by_cases h : s.part.pln.saving = false ∧ r.toNat ≤ 3 ∧ g.toNat ≤ 3 ∧ l.toNat ≤ 3
    · obtain ⟨hsaving, hle⟩ := h
      obtain ⟨x, hcode, hdone⟩ := Part.setPattern_done (p := s.part.taken .room ⟨0x4A, tag, 4, [n, r, g, l]⟩) (i := i) (n := n)
        (by simpa using hsaving) hle
      rw [hdone] at hans ⊢
      refine ⟨by simpa [hsaving, hle] using hcode, by simpa [hsaving, hle, Part.patternBytes, b1] using hans, ?_, houtputs, hbut⟩
      intro j hj
      simp [hj]
    · rw [Part.setPattern_refused (p := s.part.taken .room ⟨0x4A, tag, 4, [n, r, g, l]⟩) (by simpa using h)] at hans ⊢
      refine ⟨by simp [h], ?_, by simp, houtputs, hbut⟩
      cases hsaving : s.part.pln.saving with
      | true => simpa [hsaving, Part.patternBytes, b1] using hans
      | false =>
        have hle : ¬ (r.toNat ≤ 3 ∧ g.toNat ≤ 3 ∧ l.toNat ≤ 3) := fun hle => h ⟨hsaving, hle⟩
        simpa [hsaving, hle, Part.patternBytes, b1] using hans
  · refine (completes_owner (c := .polaritySet .room tag r g l)
      (y := (s.part.taken .room ⟨0x4B, tag, 3, [r, g, l]⟩).polarityRequest [r, g, l]) rfl hport hset (by decide) (by decide)
      rfl (Part.sameBut_setPolarity _ _) (by simp) (by simp) (by simp) (by simp)).mono ?_
    rintro t ⟨hans, hown, hbut, houtputs⟩
    have hpolarity : t.sgu.polarity = _ := hown .polarity (by simp)
    rw [framesOf_plain rfl] at hans
    rw [hpolarity]
    dsimp only [Part.polarityRequest] at hans ⊢
    by_cases h : s.part.pln.saving = false ∧ r.toNat ≤ 1 ∧ g.toNat ≤ 1 ∧ l.toNat ≤ 1
    · obtain ⟨hsaving, hle⟩ := h
      obtain ⟨x, hcode, hdone⟩ := Part.setPolarity_done (p := s.part.taken .room ⟨0x4B, tag, 3, [r, g, l]⟩)
        (by simpa using hsaving) hle
      rw [hdone] at hans ⊢
      exact ⟨by simpa [hsaving, hle] using hcode, by simpa [hsaving, hle, b1] using hans, houtputs, hbut⟩
    · rw [Part.setPolarity_refused (p := s.part.taken .room ⟨0x4B, tag, 3, [r, g, l]⟩) (by simpa using h)] at hans ⊢
      refine ⟨by simp [h], ?_, houtputs, hbut⟩
      cases hsaving : s.part.pln.saving with
      | true => simpa [hsaving, b1] using hans
      | false =>
        have hle : ¬ (r.toNat ≤ 1 ∧ g.toNat ≤ 1 ∧ l.toNat ≤ 1) := fun hle => h ⟨hsaving, hle⟩
        simpa [hsaving, hle, b1] using hans

end Sys2Proof.Machine
end

section
/-! RATE SET, COUNT SET and GAIN SET (R92, R93, R117, R118). -/

namespace Sys2Proof.Machine

theorem rateOfNumber_eq {n : Nat} {i : Fin 8} (h : n = i.val + 1) : rateOfNumber n = some i := by
  simp [rateOfNumber, h]

/-- The two bytes of a number read back. -/
theorem half_bytes (n : Half) : (byteOf (n.toNat / 256)).toNat * 256 + (byteOf n.toNat).toNat = n.toNat := by
  have hn : n.toNat < 65536 := n.isLt
  simp only [byteOf_toNat]
  omega

theorem yesNoOf_le {n : Nat} (h : n ≤ 1) : yesNoOf n = some (decide (n = 1)) := by
  interval_cases n <;> rfl

theorem yesNoOf_gt {n : Nat} (h : 1 < n) : yesNoOf n = none := by
  rw [yesNoOf, if_neg (by omega), if_neg (by omega)]

theorem byteOf_of_toNat (x : Byte) : byteOf x.toNat = x := by simp [byteOf]

/-- A mark of 0 or 1 is sent back as it came. -/
theorem bool_mark {x : Byte} (h : x.toNat ≤ 1) : bool (decide (x.toNat = 1)) = [x] := by
  have hmark : byteOf (yesNo (decide (x.toNat = 1))) = x := by
    apply BitVec.eq_of_toNat_eq
    rw [byteOf_toNat]
    by_cases hone : x.toNat = 1
    · simp [yesNo, hone]
    · have hzero : x.toNat = 0 := by omega
      simp [yesNo, hzero]
  simp [bool, b1, hmark]

theorem toNat_eq_one_iff {x : Byte} : x.toNat = 1 ↔ x = 1 := by
  rw [← BitVec.toNat_inj]
  rfl

theorem toNat_eq_zero_iff {x : Byte} : x.toNat = 0 ↔ x = 0 := by
  rw [← BitVec.toNat_inj]
  rfl

/-- The gain settings that GAIN SET takes are sent back as they came. -/
theorem gainBytes_payload {n : Nat} {rise fall duck on : Byte} (hon : on.toNat ≤ 1) :
    gainBytes ⟨n, rise.toNat, fall.toNat, duck.toNat, decide (on.toNat = 1)⟩ = b2 n ++ [rise, fall, duck, on] := by
  simp [gainBytes, b1, bool_mark hon, byteOf_of_toNat]

namespace Part

variable {p : Part}

/-! ### RATE SET -/


/-- The payload of RATE SET (R117). -/
def ratePayload (n cls : Byte) (nom tol w x : Half) : List Byte :=
  [n] ++ b2 nom.toNat ++ b2 tol.toNat ++ [cls] ++ b2 w.toNat ++ b2 x.toNat

theorem requestRate_payload (n cls : Byte) (nom tol w x : Half) :
    requestRate (ratePayload n cls nom tol w x) =
      if (nom = 0 ∨ 1000 ≤ nom.toNat) ∧ nom.toNat ≤ 65000 ∧ tol.toNat ≤ 2000 ∧ 1 ≤ cls.toNat ∧ cls.toNat ≤ 8 ∧ w.toNat ≤ x.toNat
      then some ⟨nom.toNat, tol.toNat, cls.toNat, w.toNat, x.toNat⟩ else none := by
  have hzero : nom = 0 ↔ nom.toNat = 0 := by
    rw [← BitVec.toNat_inj]
    rfl
  simp only [ratePayload, requestRate, halfAt, byteAt, b2, List.cons_append, List.nil_append, List.getD_cons_zero,
    List.getD_cons_succ, half_bytes, hzero]
  split
  · rw [if_neg (by omega)]
  · rw [if_pos (by omega)]

theorem sameBut_setRate (p : Part) (i : Fin 8) (l : List Byte) : SameBut [.rates] p (p.setRate i l).1 := by
  intro b hb
  cases b <;> simp_all [Piece.Same]

theorem sameBut_setCounts (p : Part) (k d : Nat) : SameBut [.counts] p (p.setCounts k d).1 := by
  intro b hb
  cases b <;> simp_all [Piece.Same]

theorem rateRequest_eq {i : Fin 8} {l : List Byte} (h : byteAt l 0 = i.val + 1) :
    p.rateRequest l = ((p.setRate i l).1, (p.setRate i l).2, rateBytes ((p.setRate i l).1.scu.rates.get i)) := by
  simp [rateRequest, rateOfNumber_eq h]

theorem setRate_done {i : Fin 8} {l : List Byte} {x : Rate} (hsaving : p.pln.saving = false) (hx : requestRate l = some x) :
    p.setRate i l = (p.withScu { p.scu with rates := setEntry p.scu.rates i x }, .done) := by
  simp [setRate, isSaving, hsaving, hx]

theorem setRate_refused {i : Fin 8} {l : List Byte} (h : p.pln.saving = true ∨ requestRate l = none) :
    p.setRate i l = (p, if p.pln.saving then .busy else .range) := by
  cases hsaving : p.pln.saving with
  | true => simp [setRate, isSaving, hsaving]
  | false => simp [setRate, isSaving, hsaving, h.resolve_left (by simp [hsaving])]

/-! ### COUNT SET -/

theorem setCounts_done {k d : Nat} (hsaving : p.pln.saving = false) (h : 1 ≤ k ∧ k ≤ 15 ∧ 1 ≤ d ∧ d ≤ 15) :
    p.setCounts k d = (p.withScu { p.scu with agree := k, drop := d }, .done) := by
  simp only [setCounts, isSaving, hsaving, Bool.false_eq_true, if_false]
  rw [if_neg (by omega)]

theorem setCounts_refused {k d : Nat} (h : ¬ (p.pln.saving = false ∧ 1 ≤ k ∧ k ≤ 15 ∧ 1 ≤ d ∧ d ≤ 15)) :
    p.setCounts k d = (p, if p.pln.saving then .busy else .range) := by
  cases hsaving : p.pln.saving with
  | true => simp [setCounts, isSaving, hsaving]
  | false =>
    simp only [hsaving, true_and] at h
    simp only [setCounts, isSaving, hsaving, Bool.false_eq_true, if_false]
    rw [if_pos (by omega)]

/-! ### GAIN SET -/

theorem requestGain_some {g : Half} {rise fall duck on : Byte} (hlow : 1 ≤ g.toNat) (hhigh : g.toNat ≤ 1023) (hrise : rise ≠ 0)
    (hfall : fall ≠ 0) (hon : on.toNat ≤ 1) :
    requestGain (b2 g.toNat ++ [rise, fall, duck, on]) =
      some ⟨g.toNat, rise.toNat, fall.toNat, duck.toNat, decide (on.toNat = 1)⟩ := by
  have hzero : ¬ (g.toNat = 0 ∨ 1023 < g.toNat ∨ rise.toNat = 0 ∨ fall.toNat = 0) := by
    have hr : rise.toNat ≠ 0 := fun h => hrise (BitVec.toNat_inj.mp h)
    have hf : fall.toNat ≠ 0 := fun h => hfall (BitVec.toNat_inj.mp h)
    omega
  simp only [requestGain, halfAt, byteAt, b2, List.cons_append, List.nil_append, List.getD_cons_zero, List.getD_cons_succ,
    half_bytes, yesNoOf_le hon, if_neg hzero, Option.bind_eq_bind, Option.bind_some]
  rfl

theorem requestGain_none {g : Half} {rise fall duck on : Byte}
    (h : g = 0 ∨ 1023 < g.toNat ∨ rise = 0 ∨ fall = 0 ∨ 1 < on.toNat) :
    requestGain (b2 g.toNat ++ [rise, fall, duck, on]) = none := by
  by_cases hon : on.toNat ≤ 1
  · have hzero : g.toNat = 0 ∨ 1023 < g.toNat ∨ rise.toNat = 0 ∨ fall.toNat = 0 := by
      rcases h with rfl | h | rfl | rfl | h
      · exact .inl rfl
      · exact .inr (.inl h)
      · exact .inr (.inr (.inl rfl))
      · exact .inr (.inr (.inr rfl))
      · omega
    simp only [requestGain, halfAt, byteAt, b2, List.cons_append, List.nil_append, List.getD_cons_zero, List.getD_cons_succ,
      half_bytes, yesNoOf_le hon, if_pos hzero, Option.bind_eq_bind, Option.bind_some]
    rfl
  · simp [requestGain, byteAt, b2, yesNoOf_gt (Nat.lt_of_not_le hon)]

/-- The targets are recomputed from the states, which a retarget leaves (R94). -/
theorem retarget_slot (p : Part) (k : SlotId) : p.retarget.slot k = { p.slot k with target := p.targetOf k } := by
  simp [retarget, slot]

/-- What new gain settings make of a slot (R93, R94). -/
theorem takeGain_slot (p : Part) (g : GainSettings) (k : SlotId) :
    (p.takeGain g).slot k = { p.slot k with
      gain := min (p.slot k).gain g.ceiling
      target := if isOpenState (p.slot k).state then
          if k ≠ 0 ∧ g.ducking ∧ (p.slot 0).state ≠ .free then duckedLevel g else g.ceiling
        else 0 } := by
  rw [takeGain, retarget_slot]
  simp [targetOf, slot]
  rfl

theorem takeGain_gain (p : Part) (g : GainSettings) : (p.takeGain g).sgu.gain = g := by
  simp [takeGain]

theorem sameBut_takeGain (p : Part) (g : GainSettings) : SameBut [.gain, .slots] p (p.takeGain g) := by
  intro b hb
  cases b <;> simp_all [Piece.Same]

theorem setGain_refused {g : Half} {rise fall duck on : Byte}
    (h : p.pln.saving = true ∨ g = 0 ∨ 1023 < g.toNat ∨ rise = 0 ∨ fall = 0 ∨ 1 < on.toNat) :
    p.setGain (b2 g.toNat ++ [rise, fall, duck, on]) = (p, if p.pln.saving then .busy else .range) := by
  cases hsaving : p.pln.saving with
  | true => simp [setGain, isSaving, hsaving]
  | false =>
    have hnone := requestGain_none (g := g) (rise := rise) (fall := fall) (duck := duck) (on := on)
      (by simpa [hsaving] using h)
    simp [setGain, isSaving, hsaving, hnone]

end Part

variable {s : State}

/-- RATE SET on a named entry (R117). -/
theorem completes_rateSet {tag n cls : Byte} {nom tol w x : Half} {i : Fin 8} (hport : Listening s.part .av)
    (hset : Settled s.part) (hn : n.toNat = i.val + 1) :
    Completes (.rateSet .av tag n nom tol cls w x) s (fun t =>
      t.scu.rates.get i =
        (if s.part.pln.saving = false ∧ (nom = 0 ∨ 1000 ≤ nom.toNat) ∧ nom.toNat ≤ 65000 ∧ tol.toNat ≤ 2000 ∧
            1 ≤ cls.toNat ∧ cls.toNat ≤ 8 ∧ w.toNat ≤ x.toNat then
          ⟨nom.toNat, tol.toNat, cls.toNat, w.toNat, x.toNat⟩ else s.part.scu.rates.get i) ∧
      Answered t .av tag
        (if s.part.pln.saving then .busy
        else if (nom = 0 ∨ 1000 ≤ nom.toNat) ∧ nom.toNat ≤ 65000 ∧ tol.toNat ≤ 2000 ∧ 1 ≤ cls.toNat ∧ cls.toNat ≤ 8 ∧
          w.toNat ≤ x.toNat then .done else .range) [rateBytes (t.scu.rates.get i)] ∧
      (∀ j, j ≠ i → t.scu.rates.get j = s.part.scu.rates.get j) ∧ SameBut [.requests .av, .rates] s.part t) := by
  have hpayload := Part.requestRate_payload n cls nom tol w x
  refine (completes_owner (c := .rateSet .av tag n nom tol cls w x) (payload := Part.ratePayload n cls nom tol w x) rfl hport
    hset (by decide) (by decide) (Part.rateRequest_eq hn) (Part.sameBut_setRate _ _ _) (by simp) (by simp) (by simp)
    (by simp)).mono ?_
  rintro t ⟨hans, hown, hbut, -⟩
  have hrates : t.scu.rates = _ := hown .rates (by simp)
  rw [framesOf_plain rfl] at hans
  rw [hrates]
  dsimp only at hans ⊢
  by_cases h : s.part.pln.saving = false ∧ (nom = 0 ∨ 1000 ≤ nom.toNat) ∧ nom.toNat ≤ 65000 ∧ tol.toNat ≤ 2000 ∧
      1 ≤ cls.toNat ∧ cls.toNat ≤ 8 ∧ w.toNat ≤ x.toNat
  · obtain ⟨hsaving, hrange⟩ := h
    rw [if_pos hrange] at hpayload
    rw [Part.setRate_done (p := s.part.taken .av _) (by simpa using hsaving) hpayload] at hans ⊢
    refine ⟨?_, ?_, fun j hj => by simp [hj], hbut⟩
    · rw [if_pos ⟨hsaving, hrange⟩]
      simp
    · rw [if_neg (by simp [hsaving]), if_pos hrange]
      exact hans
  · have hrefused : ¬ s.part.pln.saving = true → ¬ ((nom = 0 ∨ 1000 ≤ nom.toNat) ∧ nom.toNat ≤ 65000 ∧ tol.toNat ≤ 2000 ∧
        1 ≤ cls.toNat ∧ cls.toNat ≤ 8 ∧ w.toNat ≤ x.toNat) := fun hsaving hrange => h ⟨by simpa using hsaving, hrange⟩
    have hnone : s.part.pln.saving = true ∨ Part.requestRate (Part.ratePayload n cls nom tol w x) = none :=
      or_iff_not_imp_left.mpr fun hsaving => by rw [hpayload, if_neg (hrefused hsaving)]
    rw [Part.setRate_refused (p := s.part.taken .av _) (by simpa using hnone)] at hans ⊢
    refine ⟨?_, ?_, fun j hj => by simp, hbut⟩
    · rw [if_neg h]
      simp
    · by_cases hsaving : s.part.pln.saving = true
      · simpa [hsaving] using hans
      · rw [if_neg hsaving, if_neg (hrefused hsaving)]
        simpa [hsaving] using hans

/-- COUNT SET (R118). -/
theorem completes_countSet {tag kk dd : Byte} (hport : Listening s.part .av) (hset : Settled s.part) :
    Completes (.countSet .av tag kk dd) s (fun t =>
      (t.scu.agree, t.scu.drop) =
        (if s.part.pln.saving = false ∧ 1 ≤ kk.toNat ∧ kk.toNat ≤ 15 ∧ 1 ≤ dd.toNat ∧ dd.toNat ≤ 15 then
          (kk.toNat, dd.toNat) else (s.part.scu.agree, s.part.scu.drop)) ∧
      Answered t .av tag
        (if s.part.pln.saving then .busy
        else if 1 ≤ kk.toNat ∧ kk.toNat ≤ 15 ∧ 1 ≤ dd.toNat ∧ dd.toNat ≤ 15 then .done else .range)
        [[byteOf t.scu.agree, byteOf t.scu.drop]] ∧
      SameBut [.requests .av, .counts] s.part t) := by
  refine (completes_owner (c := .countSet .av tag kk dd)
    (y := (s.part.taken .av ⟨0x62, tag, 2, [kk, dd]⟩).countSetRequest kk.toNat dd.toNat) rfl hport hset (by decide) (by decide)
    rfl (Part.sameBut_setCounts _ _ _) (by simp) (by simp) (by simp) (by simp)).mono ?_
  rintro t ⟨hans, hown, hbut, -⟩
  obtain ⟨hagree, hdrop⟩ := hown .counts (by simp)
  rw [framesOf_plain rfl] at hans
  rw [hagree, hdrop]
  dsimp only [Part.countSetRequest] at hans ⊢
  by_cases h : s.part.pln.saving = false ∧ 1 ≤ kk.toNat ∧ kk.toNat ≤ 15 ∧ 1 ≤ dd.toNat ∧ dd.toNat ≤ 15
  · obtain ⟨hsaving, hrange⟩ := h
    rw [Part.setCounts_done (p := s.part.taken .av _) (by simpa using hsaving) hrange] at hans ⊢
    refine ⟨?_, ?_, hbut⟩
    · rw [if_pos ⟨hsaving, hrange⟩]
      rfl
    · rw [if_neg (by simp [hsaving]), if_pos hrange]
      exact hans
  · have hrefused : ¬ s.part.pln.saving = true → ¬ (1 ≤ kk.toNat ∧ kk.toNat ≤ 15 ∧ 1 ≤ dd.toNat ∧ dd.toNat ≤ 15) :=
      fun hsaving hrange => h ⟨by simpa using hsaving, hrange⟩
    rw [Part.setCounts_refused (p := s.part.taken .av _) (by simpa using h)] at hans ⊢
    refine ⟨?_, ?_, hbut⟩
    · rw [if_neg h]
      simp
    · by_cases hsaving : s.part.pln.saving = true
      · simpa [hsaving, b1] using hans
      · rw [if_neg hsaving, if_neg (hrefused hsaving)]
        simpa [hsaving, b1] using hans

/-- GAIN SET during a save or out of range (R92). -/
theorem completes_gainSet_refused {tag rise fall duck on : Byte} {g : Half} (hport : Listening s.part .av)
    (hset : Settled s.part)
    (h : s.part.pln.saving = true ∨ g = 0 ∨ 1023 < g.toNat ∨ rise = 0 ∨ fall = 0 ∨ 1 < on.toNat) :
    Completes (.gainSet .av tag g rise fall duck on) s fun t =>
      Answered t .av tag (if s.part.pln.saving then .busy else .range) [gainBytes s.part.sgu.gain] ∧
        SameBut [.requests .av] s.part t := by
  refine (completes_unchanged (c := .gainSet .av tag g rise fall duck on)
    (r := ⟨0x65, tag, 6, b2 g.toNat ++ [rise, fall, duck, on]⟩) (st := if s.part.pln.saving then .busy else .range)
    (l := gainBytes s.part.sgu.gain) rfl hport hset
    (Part.checkRequest_run (c := .gainSet .av tag g rise fall duck on) rfl (by decide : Permitted .av (0x65 : Byte).toNat)
      hport.1.1) (by simp [portResetCode]) ?_)
  have hserve (p : Part) : p.serveOwner .av ⟨0x65, tag, 6, b2 g.toNat ++ [rise, fall, duck, on]⟩ =
      p.gainRequest (b2 g.toNat ++ [rise, fall, duck, on]) := rfl
  rw [hserve, Part.gainRequest, Part.setGain_refused (p := s.part.taken .av _) (by simpa using h)]
  simp

/-- GAIN SET (R92, R93). -/
theorem completes_gainSet {tag rise fall duck on : Byte} {g : Half} (hport : Listening s.part .av) (hset : Settled s.part)
    (hsaving : s.part.pln.saving = false) (hlow : 1 ≤ g.toNat) (hhigh : g.toNat ≤ 1023) (hrise : rise ≠ 0) (hfall : fall ≠ 0)
    (hon : on.toNat ≤ 1) :
    Completes (.gainSet .av tag g rise fall duck on) s fun t =>
      Answered t .av tag .done [b2 g.toNat ++ [rise, fall, duck, on]] ∧
      t.sgu.gain = ⟨g.toNat, rise.toNat, fall.toNat, duck.toNat, decide (on = 1)⟩ ∧
      (∀ k : SlotId, (t.slot k).gain = min (s.part.slot k).gain g.toNat ∧ (t.slot k).state = (s.part.slot k).state ∧
        (t.slot k).target =
          (if Part.isOpenState (s.part.slot k).state = false then 0
          else if k ≠ 0 ∧ on = 1 ∧ (s.part.slot 0).state ≠ .free then g.toNat - g.toNat * duck.toNat / 256
          else g.toNat)) ∧
      SameBut [.requests .av, .gain, .slots] s.part t := by
  have hdone : (s.part.taken .av ⟨0x65, tag, 6, b2 g.toNat ++ [rise, fall, duck, on]⟩).gainRequest
      (b2 g.toNat ++ [rise, fall, duck, on]) =
      ((s.part.taken .av ⟨0x65, tag, 6, b2 g.toNat ++ [rise, fall, duck, on]⟩).takeGain
        ⟨g.toNat, rise.toNat, fall.toNat, duck.toNat, decide (on.toNat = 1)⟩, .done,
        gainBytes ⟨g.toNat, rise.toNat, fall.toNat, duck.toNat, decide (on.toNat = 1)⟩) := by
    simp only [Part.gainRequest, Part.setGain, Part.isSaving_taken, hsaving, Bool.false_eq_true, if_false,
      Part.requestGain_some hlow hhigh hrise hfall hon, Part.takeGain_gain]
  refine (completes_owner (c := .gainSet .av tag g rise fall duck on) rfl hport hset (by decide) (by decide)
    (Eq.trans (by rfl) hdone) (Part.sameBut_takeGain _ _) (by simp) (by simp) (by simp) (by simp)).mono ?_
  rintro t ⟨hans, hown, hbut, -⟩
  have hone : (on.toNat = 1) = (on = 1) := propext toNat_eq_one_iff
  have hgain : t.sgu.gain = _ := hown .gain (by simp)
  have hslots : t.sgu.slots = _ := hown .slots (by simp)
  have hslot := Part.slot_eq hslots
  rw [framesOf_plain rfl] at hans
  refine ⟨?_, ?_, fun k => ?_, hbut⟩
  · rw [gainBytes_payload hon] at hans
    exact hans
  · rw [hgain, Part.takeGain_gain]
    simp only [hone]
  · rw [hslot, Part.takeGain_slot]
    refine ⟨rfl, rfl, ?_⟩
    cases hopen : Part.isOpenState (s.part.slot k).state with
    | true => simp [hopen, Part.duckedLevel, hone]
    | false => simp [hopen]

/-- Settles O56. -/
theorem rateCountAndGainSet : Obligations.RateCountAndGainSet := by
  unfold Obligations.RateCountAndGainSet
  refine ⟨fun tag n cls kk dd nom tol w x i s hport hset hn => ⟨?_, ?_⟩, fun tag rise fall duck on g s hport hset => ⟨?_, ?_⟩⟩
  · exact completes_rateSet hport hset hn
  · exact completes_countSet hport hset
  · exact completes_gainSet_refused hport hset
  · exact completes_gainSet hport hset

end Sys2Proof.Machine
end

section
/-! Rows whose owner reaches RTU, and the notices at the end of an event. -/

namespace Sys2Proof.Machine

namespace Part

variable {p t : Part}

/-! ### Notices -/

theorem notice_notices (p : Part) (c : Category) (q : Port) :
    (p.notice c).notices q = ((p.notices q).1 ||| c.bit, (p.notices q).2) := by
  simp [notice, notices]

theorem noticeCause_notices (p : Part) (c : Category) (m : Cause) (q : Port) :
    (p.noticeCause c m).notices q = ((p.notices q).1 ||| c.bit, (p.notices q).2 ||| m.bit) := by
  simp [noticeCause, notices]

theorem noticeIf_notices (p : Part) (b : Bool) (c : Category) (q : Port) :
    (p.noticeIf b c).notices q = ((p.notices q).1 ||| (if b then c.bit else 0), (p.notices q).2) := by
  cases b <;> simp [noticeIf, notice_notices]

/-- The end of an event that leaves SSU and the occupied count raises ROUTE or nothing. -/
theorem conclude_quiet_notices (h : Settled p) (hssu : t.ssu = p.ssu) (hocc : t.smn.occupied = p.smn.occupied) (q : Port) :
    (conclude p t).notices q = ((t.notices q).1 ||| (if routeChanged p t then Category.route.bit else 0), (t.notices q).2) := by
  rw [conclude_quiet h hssu hocc]
  have hdrive : ∀ u : Part, u.drivePins.notices = u.notices := fun u => by simp
  rw [hdrive, concludeRouting]
  simpa using noticeIf_notices t (routeChanged p t) .route q

/-- Whether a route changed is read from RTU alone. -/
theorem routeChanged_eq {u : Part} (before : Part) (h : u.rtu = t.rtu) : routeChanged before u = routeChanged before t := by
  simp only [routeChanged, screen, drivenBy, h]
  rfl

/-- A mark that is set stays set under further marks. -/
theorem mark_or {w : Nat} {x y m : BitVec w} (h : x &&& m ≠ 0) : (x ||| y) &&& m ≠ 0 := by
  intro hzero
  apply h
  have hsplit : (x ||| y) &&& m = (x &&& m) ||| (y &&& m) := by
    ext i
    simp [Bool.and_or_distrib_right]
  rw [hsplit] at hzero
  exact (BitVec.or_eq_zero_iff.mp hzero).1

/-- A mark that is raised is set. -/
theorem mark_raised {w : Nat} (x : BitVec w) {m : BitVec w} (h : m ≠ 0) : (x ||| m) &&& m ≠ 0 := by
  rw [BitVec.or_comm]
  exact mark_or (by rwa [BitVec.and_self])

end Part

/-- A row whose owner leaves the session and the occupied count: what the owner leaves stands, but for the drive of the
screens and its notice. -/
theorem completes_routing {s : State} {c : Instr} {q : Port} {code tag len : Byte} {payload : List Byte} {y : Part.Served}
    (hreq : requestOf c = some (q, ⟨code, tag, len, payload⟩)) (hport : Listening s.part q) (hset : Settled s.part)
    (hright : Permitted q code.toNat) (hcode : code ≠ portResetCode)
    (hserve : (s.part.taken q ⟨code, tag, len, payload⟩).serveOwner q ⟨code, tag, len, payload⟩ = y)
    (hssu : y.1.ssu = s.part.ssu) (hocc : y.1.smn.occupied = s.part.smn.occupied)
    (hline : y.1.line q = (s.part.taken q ⟨code, tag, len, payload⟩).line q) :
    Completes c s fun t => Answered t q tag y.2.1 (framesOf code y.2.2) ∧ SameBut [.requests q, .screens, .notices] y.1 t ∧
      ∀ a, t.notices a = ((y.1.notices a).1 ||| (if Part.routeChanged s.part y.1 then Category.route.bit else 0),
        (y.1.notices a).2) := by
  refine completes_served hreq (Part.idle_listening hport) (Part.checkRequest_run hreq hright hport.1.1) hcode hserve hline ?_
  rintro t rfl hans
  have hssu' : (y.1.replied q ⟨tag, y.2.1, framesOf code y.2.2⟩).ssu = s.part.ssu := by simpa using hssu
  have hocc' : (y.1.replied q ⟨tag, y.2.1, framesOf code y.2.2⟩).smn.occupied = s.part.smn.occupied := by simpa using hocc
  refine ⟨hans, ?_, fun a => ?_⟩
  · exact ((Part.sameBut_replied _ q _).mono (by simp)).trans
      ((Part.sameBut_conclude_quiet hset hssu' hocc').mono (by simp))
  · rw [Part.conclude_quiet_notices hset hssu' hocc']
    rw [Part.routeChanged_eq (t := y.1) _ (by simp)]
    simp

namespace Part

variable {p : Part}

/-! ### Routable marks -/

theorem setRoutable_mark (p : Part) (i : Fin 10) (b : Bool) (j : Fin 10) :
    (p.setRoutable i b).rtu.routable.get j = if j = i then b else p.rtu.routable.get j := by
  unfold setRoutable
  split
  next h =>
    split
    next hj => rw [hj, h]
    next => rfl
  next => simp [get_setEntry]

/-- A socket that comes to NONE from another state is not routable (R128). -/
theorem putSocket_none {k : SocketId} {x : Socket} (hnone : x.state = .none) (hold : (p.socket k).state ≠ .none) :
    (p.putSocket k x).isRoutable (socketInput k) = false := by
  have hlive : socketLive x = false := by simp [socketLive, hnone]
  have hput : p.putSocket k x = ((p.setSocket k x).notice .source).setRoutable (markIndex k) false := by
    simp [putSocket, handSource, hnone, hold, hlive, routableAfter]
  rw [hput]
  simp [isRoutable, socketInput, setRoutable_mark, markIndex]

/-! ### CAPTURE SET -/

theorem edgeOf_le {n : Byte} (h : n.toNat ≤ 1) : edgeOf n.toNat = some (if n = 0 then .rising else .falling) := by
  by_cases hn : n = 0
  · subst hn
    rfl
  · have hzero : n.toNat ≠ 0 := mt toNat_eq_zero_iff.mp hn
    have hone : n.toNat = 1 := by omega
    simp only [hone, if_neg hn, edgeOf]

theorem edgeCode_of_mark {n : Byte} (h : n.toNat ≤ 1) : byteOf (edgeCode (if n = 0 then .rising else .falling)) = n := by
  by_cases hn : n = 0
  · subst hn
    rfl
  · have hzero : n.toNat ≠ 0 := mt toNat_eq_zero_iff.mp hn
    have hone : n = 1 := toNat_eq_one_iff.mp (by omega)
    subst hone
    rfl

theorem filterOf_mem {n : Byte} (h : n = 0 ∨ n = 2 ∨ n = 4 ∨ n = 8) : filterOf n.toNat = some n.toNat := by
  rcases h with rfl | rfl | rfl | rfl <;> rfl

theorem captureRequest_eq {k : SocketId} {l : List Byte} (h : byteAt l 0 = k.val + 1) :
    p.captureRequest l = ((p.setCapture k l).1, (p.setCapture k l).2, captureBytes ((p.setCapture k l).1.socket k)) := by
  simp [captureRequest, socketOfNumber_eq h]

theorem setCapture_busy {k : SocketId} {l : List Byte} (h : p.pln.saving = true) : p.setCapture k l = (p, .busy) := by
  simp [setCapture, isSaving, h]

theorem setCapture_done {k : SocketId} {n a b f : Byte} (hsaving : p.pln.saving = false) (ha : a.toNat ≤ 1)
    (hb : b.toNat ≤ 1) (hf : f = 0 ∨ f = 2 ∨ f = 4 ∨ f = 8) :
    p.setCapture k [n, a, b, f] = (p.putSocket k (captureAfter (p.socket k) (decide (a.toNat = 1))
      (if b = 0 then .rising else .falling) f.toNat), .done) := by
  simp [setCapture, isSaving, hsaving, byteAt, yesNoOf_le ha, edgeOf_le hb, filterOf_mem hf]

/-- What CAPTURE SET sets, and what of a measurement it keeps (R112). -/
theorem captureAfter_keeps (x : Socket) (a : Bool) (e : Edge) (f : Nat) :
    (captureAfter x a e f).enable = a ∧ (captureAfter x a e f).edge = e ∧ (captureAfter x a e f).filter = f ∧
      (captureAfter x a e f).width = x.width ∧ (captureAfter x a e f).period = x.period := by
  simp only [captureAfter]
  (repeat' split) <;> simp [stopped]

theorem captureAfter_stops {x : Socket} (h : x.enable = true) (e : Edge) (f : Nat) :
    captureAfter x false e f = stopped { x with enable := false, edge := e, filter := f } := by
  simp [captureAfter, h]

theorem captureAfter_starts {x : Socket} (h : x.enable = false) (e : Edge) (f : Nat) :
    captureAfter x true e f =
      { x with enable := true, edge := e, filter := f, phase := .waitFirst, counter := 0, state := .none, lastEdge := none } := by
  simp [captureAfter, h]

/-- No socket goes live by CAPTURE SET. -/
theorem captureAfter_live (x : Socket) (a : Bool) (e : Edge) (f : Nat) :
    (socketLive (captureAfter x a e f) && !socketLive x) = false := by
  simp only [captureAfter]
  (repeat' split) <;> cases hx : x.state <;> simp [socketLive, stopped, hx]

/-! ### INPUT PRESENT -/

theorem allSources_flags (p : Part) : p.allSources.drop 16 = bool p.scu.pc ++ bool p.scu.codec := rfl

theorem setFixedInput_same {codec b : Bool} (h : (if codec then p.scu.codec else p.scu.pc) = b) :
    p.setFixedInput codec b = p := by
  simp [setFixedInput, h]

theorem setFixedInput_change {codec b : Bool} (h : (if codec then p.scu.codec else p.scu.pc) ≠ b) :
    p.setFixedInput codec b =
      ((if codec then p.withScu { p.scu with codec := b } else p.withScu { p.scu with pc := b }).notice .source).setRoutable
        (if codec then 9 else 8) b := by
  simp [setFixedInput, h]

theorem setFixedInput_flags (p : Part) (codec b : Bool) :
    (p.setFixedInput codec b).scu.pc = (if codec then p.scu.pc else b) ∧
      (p.setFixedInput codec b).scu.codec = (if codec then b else p.scu.codec) := by
  by_cases h : (if codec then p.scu.codec else p.scu.pc) = b
  · rw [setFixedInput_same h]
    cases codec <;> simp_all
  · rw [setFixedInput_change h]
    cases codec <;> simp

/-- A presence flag that changes carries its routable mark with it, and raises a SOURCE notice (R122, R128). -/
theorem setFixedInput_raises {codec b : Bool} (h : (if codec then p.scu.codec else p.scu.pc) ≠ b) :
    (p.setFixedInput codec b).rtu.routable.get (if codec then 9 else 8) = b ∧
      ∀ q, ((p.setFixedInput codec b).notices q).1 &&& Category.source.bit ≠ 0 := by
  rw [setFixedInput_change h]
  refine ⟨by simp [setRoutable_mark], fun q => ?_⟩
  simp only [setRoutable_keeps, notice_notices]
  exact mark_raised _ (by decide)

theorem sameBut_setFixedInput (p : Part) (codec b : Bool) :
    SameBut [.fixedInputs, .routable, .screens, .notices] p (p.setFixedInput codec b) := by
  intro b hb
  cases b <;> simp_all [Piece.Same]

theorem setPresent_range {n v : Byte} (h : (n ≠ 9 ∧ n ≠ 10) ∨ 1 < v.toNat) : p.setPresent n.toNat v.toNat = (p, .range) := by
  by_cases hv : v.toNat ≤ 1
  · obtain ⟨hnine, hten⟩ := h.resolve_right (by omega)
    have hpc : n.toNat ≠ 9 := fun hn => hnine (BitVec.eq_of_toNat_eq hn)
    have hcodec : n.toNat ≠ 10 := fun hn => hten (BitVec.eq_of_toNat_eq hn)
    simp [setPresent, yesNoOf_le hv, hpc, hcodec]
  · simp [setPresent, yesNoOf_gt (Nat.lt_of_not_le hv)]

theorem setPresent_done {codec : Bool} {v : Byte} (hv : v.toNat ≤ 1) :
    p.setPresent (if codec then 10 else 9) v.toNat = (p.setFixedInput codec (decide (v.toNat = 1)), .done) := by
  cases codec <;> simp [setPresent, yesNoOf_le hv]

end Part

variable {s : State}

/-- CAPTURE SET on a named socket outside a save (R112). -/
theorem completes_captureSet {tag n a b f : Byte} {k : SocketId} (hport : Listening s.part .av) (hset : Settled s.part)
    (hn : n.toNat = k.val + 1) (hb : b.toNat ≤ 1) (hf : f = 0 ∨ f = 2 ∨ f = 4 ∨ f = 8) (hsaving : s.part.pln.saving = false)
    (ha : a.toNat ≤ 1) :
    Completes (.captureSet .av tag n a b f) s fun t =>
      Answered t .av tag .done [[a, b, f]] ∧ (t.socket k).enable = decide (a.toNat = 1) ∧
      (t.socket k).edge = (if b = 0 then .rising else .falling) ∧ (t.socket k).filter = f.toNat ∧
      (t.socket k).width = (s.part.socket k).width ∧ (t.socket k).period = (s.part.socket k).period ∧
      ((s.part.socket k).enable = true → a = 0 →
        (t.socket k).state = .none ∧ (t.socket k).phase = .waitFirst ∧ (t.socket k).cls = .none ∧
        (t.socket k).counter = 0) ∧
      ((s.part.socket k).enable = true → a = 0 → (s.part.socket k).state ≠ .none →
        t.isRoutable (Part.socketInput k) = false) ∧
      ((s.part.socket k).enable = false → a = 1 → (t.socket k).phase = .waitFirst ∧ (t.socket k).counter = 0) ∧
      (∀ j, j ≠ k → t.socket j = s.part.socket j) := by
  have hserve : (s.part.taken .av ⟨0x63, tag, 4, [n, a, b, f]⟩).serveOwner .av ⟨0x63, tag, 4, [n, a, b, f]⟩ =
      ((s.part.taken .av ⟨0x63, tag, 4, [n, a, b, f]⟩).putSocket k (Part.captureAfter (s.part.socket k)
        (decide (a.toNat = 1)) (if b = 0 then .rising else .falling) f.toNat), .done, [a, b, f]) := by
    refine (Part.captureRequest_eq (p := s.part.taken .av ⟨0x63, tag, 4, [n, a, b, f]⟩) (l := [n, a, b, f]) hn).trans ?_
    obtain ⟨henable, hedge, hfilter, -⟩ := Part.captureAfter_keeps (s.part.socket k) (decide (a.toNat = 1))
      (if b = 0 then .rising else .falling) f.toNat
    rw [Part.setCapture_done (by simpa using hsaving) ha hb hf]
    simp only [Part.taken_socket, Part.putSocket_socket_self, Part.captureBytes, henable, hedge, hfilter, b1, bool_mark ha,
      Part.edgeCode_of_mark hb, byteOf_of_toNat]
    rfl
  refine (completes_routing (c := .captureSet .av tag n a b f) rfl hport hset (by decide) (by decide) hserve (by simp) (by simp)
    (by simp)).mono ?_
  rintro t ⟨hans, hown, -⟩
  have hsockets : t.scu.sockets = _ := hown .sockets (by simp)
  have hroutable : t.rtu.routable = _ := hown .routable (by simp)
  have hsocket (j : SocketId) : t.socket j = _ := congrArg (·.get j) hsockets
  obtain ⟨henable, hedge, hfilter, hwidth, hperiod⟩ := Part.captureAfter_keeps (s.part.socket k) (decide (a.toNat = 1))
    (if b = 0 then .rising else .falling) f.toNat
  have hself : t.socket k = Part.captureAfter (s.part.socket k) (decide (a.toNat = 1)) (if b = 0 then .rising else .falling)
      f.toNat := (hsocket k).trans (Part.putSocket_socket_self _ _ _)
  rw [framesOf_plain rfl] at hans
  rw [hself]
  refine ⟨hans, henable, hedge, hfilter, hwidth, hperiod, ?_, ?_, ?_, fun j hj => ?_⟩
  · rintro hon rfl
    simp [Part.captureAfter_stops hon, Part.stopped]
  · rintro hon rfl hstate
    have hnone : (Part.captureAfter (s.part.socket k) (decide ((0 : Byte).toNat = 1)) (if b = 0 then .rising else .falling)
        f.toNat).state = .none := by
      simp [Part.captureAfter_stops hon, Part.stopped]
    have hmark := Part.putSocket_none (p := s.part.taken .av ⟨0x63, tag, 4, [n, 0, b, f]⟩) hnone hstate
    simp only [Part.isRoutable, hroutable] at hmark ⊢
    exact hmark
  · rintro hoff rfl
    simp [Part.captureAfter_starts hoff]
  · exact (hsocket j).trans (Part.putSocket_socket_ne (p := s.part.taken .av ⟨0x63, tag, 4, [n, a, b, f]⟩)
      (Part.captureAfter_live _ _ _ _) hj)

/-- CAPTURE SET during a save (R112). -/
theorem completes_captureSet_busy {tag n a b f : Byte} {k : SocketId} (hport : Listening s.part .av) (hset : Settled s.part)
    (hn : n.toNat = k.val + 1) (hsaving : s.part.pln.saving = true) :
    Completes (.captureSet .av tag n a b f) s fun t =>
      Answered t .av tag .busy [Part.captureBytes (s.part.socket k)] ∧ SameBut [.requests .av] s.part t := by
  refine completes_unchanged (c := .captureSet .av tag n a b f) (r := ⟨0x63, tag, 4, [n, a, b, f]⟩)
    (l := Part.captureBytes (s.part.socket k)) rfl hport hset
    (Part.checkRequest_run (c := .captureSet .av tag n a b f) rfl (by decide : Permitted .av (0x63 : Byte).toNat) hport.1.1)
    (by simp [portResetCode]) ?_
  refine (Part.captureRequest_eq (p := s.part.taken .av ⟨0x63, tag, 4, [n, a, b, f]⟩) (l := [n, a, b, f]) hn).trans ?_
  rw [Part.setCapture_busy (by simpa using hsaving)]
  rfl

/-- INPUT PRESENT with another input or value (R122). -/
theorem completes_inputPresent_range {tag n v : Byte} (hport : Listening s.part .av) (hset : Settled s.part)
    (h : (n ≠ 9 ∧ n ≠ 10) ∨ 1 < v.toNat) :
    Completes (.inputPresent .av tag n v) s fun t =>
      Answered t .av tag .range [s.part.allSources.drop 16] ∧ SameBut [.requests .av] s.part t := by
  refine completes_unchanged (c := .inputPresent .av tag n v) (r := ⟨0x64, tag, 2, [n, v]⟩) (l := s.part.allSources.drop 16)
    rfl hport hset
    (Part.checkRequest_run (c := .inputPresent .av tag n v) rfl (by decide : Permitted .av (0x64 : Byte).toNat) hport.1.1)
    (by simp [portResetCode]) ?_
  have hrequest (p : Part) : p.serveOwner .av ⟨0x64, tag, 2, [n, v]⟩ = p.presentRequest n.toNat v.toNat := rfl
  rw [hrequest, Part.presentRequest, Part.setPresent_range h]
  rfl

/-- INPUT PRESENT for a fixed input (R122). -/
theorem completes_inputPresent {tag n v : Byte} {codec : Bool} (hport : Listening s.part .av) (hset : Settled s.part)
    (hn : n.toNat = if codec then 10 else 9) (hv : v.toNat ≤ 1) :
    Completes (.inputPresent .av tag n v) s fun t =>
      Answered t .av tag .done [bool t.scu.pc ++ bool t.scu.codec] ∧
        t.scu.pc = (if codec then s.part.scu.pc else decide (v = 1)) ∧
        t.scu.codec = (if codec then decide (v = 1) else s.part.scu.codec) ∧
        ((if codec then s.part.scu.codec else s.part.scu.pc) ≠ decide (v = 1) →
          t.rtu.routable.get (if codec then 9 else 8) = decide (v = 1) ∧ ∀ q, (t.port q).flags &&& 8 ≠ 0) ∧
        SameBut [.requests .av, .fixedInputs, .routable, .screens, .notices] s.part t := by
  have hone : decide (v.toNat = 1) = decide (v = 1) := decide_eq_decide.mpr toNat_eq_one_iff
  have hserve : (s.part.taken .av ⟨0x64, tag, 2, [n, v]⟩).serveOwner .av ⟨0x64, tag, 2, [n, v]⟩ =
      ((s.part.taken .av ⟨0x64, tag, 2, [n, v]⟩).setFixedInput codec (decide (v = 1)), .done,
        bool ((s.part.taken .av ⟨0x64, tag, 2, [n, v]⟩).setFixedInput codec (decide (v = 1))).scu.pc ++
          bool ((s.part.taken .av ⟨0x64, tag, 2, [n, v]⟩).setFixedInput codec (decide (v = 1))).scu.codec) := by
    have hrequest (p : Part) : p.serveOwner .av ⟨0x64, tag, 2, [n, v]⟩ = p.presentRequest n.toNat v.toNat := rfl
    rw [hrequest, Part.presentRequest, hn, Part.setPresent_done hv, hone]
  refine (completes_routing (c := .inputPresent .av tag n v) rfl hport hset (by decide) (by decide) hserve (by simp) (by simp)
    (by simp)).mono ?_
  rintro t ⟨hans, hown, hnotices⟩
  have hroutable : t.rtu.routable = _ := hown .routable (by simp)
  obtain ⟨hpc, hcodec⟩ := hown .fixedInputs (by simp)
  obtain ⟨hpcSet, hcodecSet⟩ := Part.setFixedInput_flags (s.part.taken .av ⟨0x64, tag, 2, [n, v]⟩) codec (decide (v = 1))
  rw [framesOf_plain rfl, ← hpc, ← hcodec] at hans
  refine ⟨hans, hpc.trans hpcSet, hcodec.trans hcodecSet, fun hchange => ?_, ?_⟩
  · obtain ⟨hmark, hraised⟩ := Part.setFixedInput_raises (p := s.part.taken .av ⟨0x64, tag, 2, [n, v]⟩) hchange
    refine ⟨hroutable ▸ hmark, fun q => ?_⟩
    have hflags : (t.port q).flags = _ := congrArg Prod.fst (hnotices q)
    rw [hflags]
    exact Part.mark_or (hraised q)
  · exact ((Part.sameBut_taken s.part .av _).mono (by simp)).trans
      (((Part.sameBut_setFixedInput _ _ _).mono (by simp)).trans (hown.mono (by simp)))

/-- Settles O57. -/
theorem captureSetAndInputPresent : Obligations.CaptureSetAndInputPresent := by
  unfold Obligations.CaptureSetAndInputPresent
  have hone (v : Byte) : decide (v.toNat = 1) = decide (v = 1) := decide_eq_decide.mpr toNat_eq_one_iff
  refine ⟨fun tag n a b f k s hport hset ⟨hn, hb, hf⟩ => ⟨fun hsaving => ?_, fun hsaving ha => ?_⟩,
    fun tag n v s hport hset => ⟨fun h => ?_, fun hn hv => ?_, fun hn hv => ?_⟩⟩
  · exact completes_captureSet_busy hport hset hn hsaving
  · exact completes_captureSet hport hset hn hb hf hsaving ha
  · exact completes_inputPresent_range hport hset h
  · refine (completes_inputPresent (codec := false) hport hset (congrArg BitVec.toNat hn) hv).mono ?_
    rintro t ⟨hans, hpc, hcodec, hchange, hbut⟩
    rw [if_neg (by simp)] at hpc hcodec
    refine ⟨?_, hpc, hcodec, fun hne => ?_, hbut⟩
    · rw [hpc, hcodec, ← hone v, bool_mark hv, bool_eq] at hans
      exact hans
    · rw [hpc] at hne ⊢
      exact hchange (Ne.symm hne)
  · refine (completes_inputPresent (codec := true) hport hset (congrArg BitVec.toNat hn) hv).mono ?_
    rintro t ⟨hans, hpc, hcodec, hchange, hbut⟩
    rw [if_pos rfl] at hpc hcodec
    refine ⟨?_, hcodec, hpc, fun hne => ?_, hbut⟩
    · rw [hpc, hcodec, ← hone v, bool_mark hv, bool_eq] at hans
      exact hans
    · rw [hcodec] at hne ⊢
      exact hchange (Ne.symm hne)

end Sys2Proof.Machine
end

section
/-! RETUNE of one channel (R36, R37). -/

namespace Sys2Proof.Machine

namespace Part

variable {p : Part}

theorem sameBut_setChannel (p : Part) (c : ChannelId) (x : Channel) : SameBut [.sensing] p (p.setChannel c x) := by
  intro b hb
  cases b <;> simp_all [Piece.Same]

theorem channel_eq {t : Part} (h : t.sfe = p.sfe) : t.channel = p.channel := by
  funext c
  rw [channel, channel, h]

/-- What a RETUNE makes of the channel that it names (R37). -/
def retuned (force : Bool) (x : Channel) : Channel :=
  match x.state with
  | .off => x
  | .tuning => restartRetune x
  | .idle => startRetune x
  | .fault => startRetune x
  | _ => if force then startRetune x else { x with pending := true }

theorem setChannel_self (p : Part) (c : ChannelId) : p.setChannel c (p.channel c) = p := by
  have htable : setEntry p.sfe.channels c (p.sfe.channels.get c) = p.sfe.channels := by
    apply Vector.ext
    intro i hi
    simp only [setEntry, Vector.getElem_set, Vector.get_eq_getElem]
    split
    next h => subst h; rfl
    next => rfl
  simp only [setChannel, channel, htable]
  rfl

theorem retuneChannel_eq (force : Bool) (p : Part) (c : ChannelId) :
    retuneChannel force p c = p.setChannel c (retuned force (p.channel c)) := by
  cases hstate : (p.channel c).state <;> simp only [retuneChannel, retuned, hstate, setChannel_self]

theorem retuneScope_channel {n : Nat} {c : ChannelId} (h : n = c.val) : retuneScope n = some [c] := by
  have hc := c.isLt
  rw [retuneScope, if_neg (by omega), if_neg (by omega), if_neg (by omega), channelOfNumber_eq h]
  rfl

/-- RETUNE of one channel is STATE for a channel that is OFF, which it leaves, and DONE for another (R36). -/
theorem retuneRequest_channel {n f : Nat} {c : ChannelId} (hn : n = c.val) (hf : f ≤ 1) :
    p.retuneRequest n f = (p.setChannel c (retuned (decide (f = 1)) (p.channel c)),
      if (p.channel c).state = .off then .state else .done) := by
  simp only [retuneRequest, retuneScope_channel hn, yesNoOf_le hf]
  by_cases hoff : (p.channel c).state = .off
  · have hleft : retuned (decide (f = 1)) (p.channel c) = p.channel c := by simp only [retuned, hoff]
    simp [hoff, hleft, setChannel_self]
  · simp [hoff, retuneChannel_eq]

end Part

/-- Settles O53: the channel named is the one that changes, as R37 says for its state. -/
theorem retuneStartsSearch : Obligations.RetuneStartsSearch := by
  unfold Obligations.RetuneStartsSearch
  intro tag n f c s hport hset ⟨hn, hf⟩
  refine (completes_owner (c := .retune .room tag n f)
    (y := Part.plain ((s.part.taken .room ⟨0x4C, tag, 2, [n, f]⟩).retuneRequest n.toNat f.toNat)) (bs := [.sensing])
    rfl hport hset (by decide) (by decide) rfl ?_ ?_ ?_ ?_ ?_).mono ?_
  all_goals rw [Part.retuneRequest_channel hn hf]
  · exact Part.sameBut_setChannel _ _ _
  · simp [Part.plain]
  · simp [Part.plain]
  · simp [Part.plain]
  · simp [Part.plain]
  rintro t ⟨hans, hown, hbut, -⟩
  have hchannel (d : ChannelId) : t.channel d = _ := congrFun (Part.channel_eq (hown .sensing (by simp))) d
  have hself : t.channel c = Part.retuned (decide (f.toNat = 1)) (s.part.channel c) := by
    rw [hchannel]
    simp [Part.plain]
  rw [framesOf_plain rfl] at hans
  refine ⟨hbut, fun d hd => ?_, fun hoff => ⟨?_, ?_⟩, fun hon => ?_, fun hstate => ?_, fun hstate => ⟨?_, ?_⟩, fun htuning => ?_⟩
  · rw [hchannel]
    simp [Part.plain, hd]
  · simpa [Part.plain, hoff] using hans
  · rw [hself, Part.retuned, hoff]
  · simpa [Part.plain, hon] using hans
  · rw [hself]
    rcases hstate with hstate | hstate <;> simp [Part.retuned, hstate, startRetune, Part.outcomeOf, Part.outcomeOfState]
  · rintro rfl
    rw [hself]
    rcases hstate with hstate | hstate | hstate <;> simp [Part.retuned, hstate]
  · rintro rfl
    rw [hself]
    rcases hstate with hstate | hstate | hstate <;> simp [Part.retuned, hstate, startRetune]
  · rw [hself]
    simp [Part.retuned, htuning, restartRetune]

end Sys2Proof.Machine
end

section
/-! What is set of the notices stays set: every operation outside NOTICE READ, PORT RESET and TABLE RESET only adds flags and
cause marks (R189). -/

namespace Sys2Proof.Machine

/-- Notices that only add flags and cause marks. -/
structure NoticesGrow (a b : Port → BitVec 9 × BitVec 8) : Prop where
  grows : ∀ q, ∃ m n, b q = ((a q).1 ||| m, (a q).2 ||| n)

namespace NoticesGrow

variable {a b c : Port → BitVec 9 × BitVec 8}

@[simp] theorem refl (a : Port → BitVec 9 × BitVec 8) : NoticesGrow a a :=
  ⟨fun q => ⟨0, 0, by simp⟩⟩

theorem trans (h : NoticesGrow a b) (h' : NoticesGrow b c) : NoticesGrow a c := by
  refine ⟨fun q => ?_⟩
  obtain ⟨m, n, hb⟩ := h.grows q
  obtain ⟨m', n', hc⟩ := h'.grows q
  exact ⟨m ||| m', n ||| n', by simp [hc, hb, BitVec.or_assoc]⟩

theorem flag (h : NoticesGrow a b) {q : Port} {m : BitVec 9} (hset : (a q).1 &&& m ≠ 0) : (b q).1 &&& m ≠ 0 := by
  obtain ⟨m', n', hb⟩ := h.grows q
  rw [hb]
  exact Part.mark_or hset

/-- A cause mark that is set stays set. -/
theorem cause (h : NoticesGrow a b) {q : Port} {m : BitVec 8} (hset : (a q).2 &&& m ≠ 0) : (b q).2 &&& m ≠ 0 := by
  obtain ⟨m', n', hb⟩ := h.grows q
  rw [hb]
  exact Part.mark_or hset

end NoticesGrow

namespace Part

variable {a : Port → BitVec 9 × BitVec 8}

@[simp] theorem notice_grows {p : Part} (h : NoticesGrow a p.notices) (c : Category) : NoticesGrow a (p.notice c).notices :=
  h.trans ⟨fun q => ⟨c.bit, 0, by simp [notice_notices]⟩⟩

@[simp] theorem noticeCause_grows {p : Part} (h : NoticesGrow a p.notices) (c : Category) (m : Cause) :
    NoticesGrow a (p.noticeCause c m).notices :=
  h.trans ⟨fun q => ⟨c.bit, m.bit, noticeCause_notices p c m q⟩⟩

@[simp] theorem noticeIf_grows {p : Part} (h : NoticesGrow a p.notices) (b : Bool) (c : Category) :
    NoticesGrow a (p.noticeIf b c).notices := by
  cases b <;> simp [noticeIf, h]

theorem foldl_grows {f : Part → α → Part} (hf : ∀ q x, NoticesGrow a q.notices → NoticesGrow a (f q x).notices) (l : List α)
    {p : Part} (h : NoticesGrow a p.notices) : NoticesGrow a (l.foldl f p).notices :=
  foldl_invariant (P := fun q : Part => NoticesGrow a q.notices) hf l p h

@[simp] theorem concludeRouting_grows {after : Part} (h : NoticesGrow a after.notices) (before : Part) :
    NoticesGrow a (concludeRouting before after).notices := by
  simp -implicitDefEqProofs [concludeRouting, h]

@[simp] theorem countSettles_grows {p : Part} (h : NoticesGrow a p.notices) :
    NoticesGrow a (countSettles p).notices := by
  simp -implicitDefEqProofs [countSettles, h]

@[simp] theorem endSettle_grows {p : Part} (h : NoticesGrow a p.notices) (k : ScreenId) :
    NoticesGrow a (endSettle p k).notices := by
  simp only [endSettle]
  (repeat' split) <;> simp -implicitDefEqProofs [h]

@[simp] theorem settleStep_grows {p : Part} (h : NoticesGrow a p.notices) (changing : Bool) (k : ScreenId) :
    NoticesGrow a (settleStep changing p k).notices := by
  simp only [settleStep]
  (repeat' split) <;> simp -implicitDefEqProofs [h]

@[simp] theorem endSettles_grows {p : Part} (h : NoticesGrow a p.notices) (changing : Bool) :
    NoticesGrow a (endSettles p changing).notices := by
  exact foldl_grows (fun _ x hq => settleStep_grows hq changing x) _ (h)

@[simp] theorem enterLive_grows {p : Part} (h : NoticesGrow a p.notices) (k : SlotId) :
    NoticesGrow a (enterLive p k).notices := by
  simp only [enterLive]
  (repeat' split) <;> simp -implicitDefEqProofs [h]

@[simp] theorem enterLives_grows {p : Part} (h : NoticesGrow a p.notices) :
    NoticesGrow a (enterLives p).notices := by
  exact foldl_grows (fun _ x hq => enterLive_grows hq x) _ (h)

@[simp] theorem markEntry_grows {p : Part} (h : NoticesGrow a p.notices) (id : Nat) (old new : EntryStatus) :
    NoticesGrow a (markEntry p id old new).notices := by
  simp -implicitDefEqProofs [markEntry, h]

@[simp] theorem markMissed_grows {p : Part} (h : NoticesGrow a p.notices) :
    NoticesGrow a (markMissed p).notices := by
  simp only [markMissed]
  (repeat' split) <;> simp -implicitDefEqProofs [h]

@[simp] theorem changePower_grows {p : Part} (h : NoticesGrow a p.notices) (x : PowerState) :
    NoticesGrow a (changePower p x).notices := by
  simp -implicitDefEqProofs [changePower, h]

@[simp] theorem wake_grows {p : Part} (h : NoticesGrow a p.notices) :
    NoticesGrow a (wake p).notices := by
  simp only [wake]
  (repeat' split) <;> simp -implicitDefEqProofs [h]

@[simp] theorem preWake_grows {p : Part} (h : NoticesGrow a p.notices) :
    NoticesGrow a (preWake p).notices := by
  simp only [preWake]
  (repeat' split) <;> simp -implicitDefEqProofs [h]

@[simp] theorem setQueue_grows {p : Part} (h : NoticesGrow a p.notices) (q : List QueueEntry) :
    NoticesGrow a (setQueue p q).notices := by
  simp -implicitDefEqProofs [setQueue, h]

@[simp] theorem join_grows {p : Part} (h : NoticesGrow a p.notices) (s : SeatId) (override : Bool) :
    NoticesGrow a (join p s override).notices := by
  simp -implicitDefEqProofs [join, h]

@[simp] theorem leaveQueue_grows {p : Part} (h : NoticesGrow a p.notices) (s : SeatId) :
    NoticesGrow a (leaveQueue p s).notices := by
  simp -implicitDefEqProofs [leaveQueue, h]

@[simp] theorem grantSlot_grows {p : Part} (h : NoticesGrow a p.notices) (k : SlotId) (s : SeatId) :
    NoticesGrow a (grantSlot p k s).notices := by
  simp -implicitDefEqProofs [grantSlot, h]

@[simp] theorem grant_grows {p : Part} (h : NoticesGrow a p.notices) (s : SeatId) :
    NoticesGrow a (grant p s).notices := by
  simp only [grant]
  (repeat' split) <;> simp -implicitDefEqProofs [h]

@[simp] theorem close_grows {p : Part} (h : NoticesGrow a p.notices) (k : SlotId) (r : SlotReason) :
    NoticesGrow a (close p k r).notices := by
  simp only [close]
  (repeat' split) <;> simp -implicitDefEqProofs [h]

@[simp] theorem advance_grows {p : Part} (h : NoticesGrow a p.notices) (n : Nat) :
    NoticesGrow a (advance n p).notices := by
  induction n generalizing p with
  | zero => exact h
  | succ n ih =>
    simp only [advance]
    split
    · exact ih (grantSlot_grows h _ _)
    · exact h

@[simp] theorem autoAdvance_grows {p : Part} (h : NoticesGrow a p.notices) :
    NoticesGrow a (autoAdvance p).notices := by
  simp only [autoAdvance]
  (repeat' split) <;> simp -implicitDefEqProofs [h]

@[simp] theorem takeFree_grows {p : Part} (h : NoticesGrow a p.notices) (k : SlotId) :
    NoticesGrow a (takeFree p k).notices := by
  simp only [takeFree]
  (repeat' split) <;> simp -implicitDefEqProofs [h]

@[simp] theorem joinAndAdvance_grows {p : Part} (h : NoticesGrow a p.notices) (s : SeatId) (override : Bool) :
    NoticesGrow a (joinAndAdvance p s override).1.notices := by
  simp -implicitDefEqProofs [joinAndAdvance, h]

@[simp] theorem openAtOnce_grows {p : Part} (h : NoticesGrow a p.notices) (k : SlotId) (s : SeatId) :
    NoticesGrow a (openAtOnce p k s).1.notices := by
  simp -implicitDefEqProofs [openAtOnce, h]

@[simp] theorem newRequest_grows {p : Part} (h : NoticesGrow a p.notices) (s : SeatId) :
    NoticesGrow a (newRequest p s).1.notices := by
  simp only [newRequest]
  (repeat' split) <;> simp -implicitDefEqProofs [h]

@[simp] theorem delegatePress_grows {p : Part} (h : NoticesGrow a p.notices) (s : SeatId) :
    NoticesGrow a (delegatePress p s).1.notices := by
  simp only [delegatePress]
  (repeat' split) <;> simp -implicitDefEqProofs [h]

@[simp] theorem chairToggle_grows {p : Part} (h : NoticesGrow a p.notices) :
    NoticesGrow a (chairToggle p).1.notices := by
  simp only [chairToggle]
  (repeat' split) <;> simp -implicitDefEqProofs [h]

@[simp] theorem grantRequest_grows {p : Part} (h : NoticesGrow a p.notices) (s : SeatId) :
    NoticesGrow a (grantRequest p s).1.notices := by
  simp only [grantRequest]
  (repeat' split) <;> simp -implicitDefEqProofs [h]

@[simp] theorem grantNext_grows {p : Part} (h : NoticesGrow a p.notices) :
    NoticesGrow a (grantNext p).1.notices := by
  simp only [grantNext]
  (repeat' split) <;> simp -implicitDefEqProofs [h]

@[simp] theorem chairNext_grows {p : Part} (h : NoticesGrow a p.notices) :
    NoticesGrow a (chairNext p).notices := by
  simp only [chairNext]
  (repeat' split) <;> simp -implicitDefEqProofs [h]

@[simp] theorem closeEach_grows {p : Part} (h : NoticesGrow a p.notices) (ks : List SlotId) (r : SlotReason) :
    NoticesGrow a (closeEach p ks r).notices := by
  exact foldl_grows (fun _ x hq => close_grows hq x r) _ (h)

@[simp] theorem muteAll_grows {p : Part} (h : NoticesGrow a p.notices) :
    NoticesGrow a (muteAll p).notices := by
  simp -implicitDefEqProofs [muteAll, h]

@[simp] theorem setMode_grows {p : Part} (h : NoticesGrow a p.notices) (m : FloorMode) :
    NoticesGrow a (setMode p m).notices := by
  exact autoAdvance_grows (by simp -implicitDefEqProofs [h])

@[simp] theorem setLimit_grows {p : Part} (h : NoticesGrow a p.notices) (n : Nat) :
    NoticesGrow a (setLimit p n).notices := by
  simp only [setLimit]
  (repeat' split) <;> simp -implicitDefEqProofs [h]

@[simp] theorem evaluate_grows {p : Part} (h : NoticesGrow a p.notices) (k : SlotId) :
    NoticesGrow a (evaluate p k).notices := by
  simp only [evaluate]
  (repeat' split) <;> simp -implicitDefEqProofs [h]

@[simp] theorem evaluateAll_grows {p : Part} (h : NoticesGrow a p.notices) :
    NoticesGrow a (evaluateAll p).notices := by
  exact foldl_grows (fun _ x hq => evaluate_grows hq x) _ (h)

@[simp] theorem setSpeakLimit_grows {p : Part} (h : NoticesGrow a p.notices) (n : Nat) (enforce : Bool) :
    NoticesGrow a (setSpeakLimit p n enforce).notices := by
  simp -implicitDefEqProofs [setSpeakLimit, h]

@[simp] theorem floorSecond_grows {p : Part} (h : NoticesGrow a p.notices) :
    NoticesGrow a (floorSecond p).notices := by
  simp -implicitDefEqProofs [floorSecond, h]

@[simp] theorem openFloor_grows {p : Part} (h : NoticesGrow a p.notices) :
    NoticesGrow a (openFloor p).notices := by
  simp -implicitDefEqProofs [openFloor, h]

@[simp] theorem floorCloseSlot_grows {p : Part} (h : NoticesGrow a p.notices) (k : SlotId) :
    NoticesGrow a (floorCloseSlot p k).notices := by
  simp only [floorCloseSlot]
  (repeat' split) <;> simp -implicitDefEqProofs [h]

@[simp] theorem closeFloor_grows {p : Part} (h : NoticesGrow a p.notices) :
    NoticesGrow a (closeFloor p).notices := by
  have hcut : NoticesGrow a (allSlots.foldl floorCloseSlot (p.setQueue [])).notices :=
    foldl_grows (fun _ k hq => floorCloseSlot_grows hq k) _ (setQueue_grows h [])
  simp -implicitDefEqProofs [closeFloor, hcut]

@[simp] theorem applyFloorPreset_grows {p : Part} (h : NoticesGrow a p.notices) (f : FloorPreset) :
    NoticesGrow a (applyFloorPreset p f).notices := by
  simp -implicitDefEqProofs [applyFloorPreset, h]

@[simp] theorem seatVacant_grows {p : Part} (h : NoticesGrow a p.notices) (s : SeatId) :
    NoticesGrow a (seatVacant p s).notices := by
  simp only [seatVacant]
  (repeat' split) <;> simp -implicitDefEqProofs [h]

@[simp] theorem resetFloor_grows {p : Part} (h : NoticesGrow a p.notices) :
    NoticesGrow a (resetFloor p).notices := by
  have hcut : NoticesGrow a ((p.setQueue []).cutAll.noticeIf (!p.allFree) .floor).notices :=
    noticeIf_grows (by simp -implicitDefEqProofs [h]) _ _
  exact applyFloorPreset_grows (by simp -implicitDefEqProofs [hcut]) _

@[simp] theorem putSession_grows {p : Part} (h : NoticesGrow a p.notices) (x : Option Session) :
    NoticesGrow a (putSession p x).notices := by
  simp -implicitDefEqProofs [putSession, h]

@[simp] theorem setPendingStart_grows {p : Part} (h : NoticesGrow a p.notices) (x : Option Nat) :
    NoticesGrow a (setPendingStart p x).notices := by
  simp -implicitDefEqProofs [setPendingStart, h]

@[simp] theorem enterWindup_grows {p : Part} (h : NoticesGrow a p.notices) (r : CloseReason) :
    NoticesGrow a (enterWindup p r).notices := by
  simp only [enterWindup]
  (repeat' split) <;> simp -implicitDefEqProofs [h]

@[simp] theorem stageStep_grows {p : Part} (h : NoticesGrow a p.notices) :
    NoticesGrow a (stageStep p).notices := by
  simp only [stageStep]
  (repeat' split) <;> simp -implicitDefEqProofs [h]

@[simp] theorem enterSession_grows {p : Part} (h : NoticesGrow a p.notices) (x : Session) :
    NoticesGrow a (enterSession p x).notices := by
  exact stageStep_grows (by simp -implicitDefEqProofs [h])

@[simp] theorem checkIn_grows {p : Part} (h : NoticesGrow a p.notices) :
    NoticesGrow a (checkIn p).notices := by
  simp only [checkIn]
  (repeat' split) <;> simp -implicitDefEqProofs [h]

@[simp] theorem openBooked_grows {p : Part} (h : NoticesGrow a p.notices) (b : Booking) :
    NoticesGrow a (openBooked p b).notices := by
  have hpreset : NoticesGrow a (((((p.putSession (some (p.bookedSession b))).markEntry b.id .pending .active).setPendingStart
      none).applyFloorPreset b.floor).applyPreset b.screen).notices := by
    have hput := putSession_grows h (some (p.bookedSession b))
    have hmark := markEntry_grows hput b.id .pending .active
    simp -implicitDefEqProofs [hmark]
  simp only [openBooked]
  split
  · exact checkIn_grows (by simpa using hpreset)
  · exact enterSession_grows (by simpa using hpreset) _

@[simp] theorem openWalkIn_grows {p : Part} (h : NoticesGrow a p.notices) :
    NoticesGrow a (openWalkIn p).notices := by
  exact enterSession_grows (by simp -implicitDefEqProofs [h]) _

@[simp] theorem openPending_grows {p : Part} (h : NoticesGrow a p.notices) :
    NoticesGrow a (openPending p).notices := by
  simp only [openPending]
  (repeat' split) <;> simp -implicitDefEqProofs [h]

@[simp] theorem writeSummary_grows {p : Part} (h : NoticesGrow a p.notices) (x : Summary) :
    NoticesGrow a (writeSummary p x).notices := by
  simp only [writeSummary]
  (repeat' split) <;> simp -implicitDefEqProofs [h]

@[simp] theorem closeRecords_grows {p : Part} (h : NoticesGrow a p.notices) (x : Session) (r : CloseReason) :
    NoticesGrow a (closeRecords p x r).notices := by
  simp only [closeRecords]
  (repeat' split) <;> simp -implicitDefEqProofs [h]

@[simp] theorem closeSession_grows {p : Part} (h : NoticesGrow a p.notices) (x : Session) (r : CloseReason) :
    NoticesGrow a (closeSession p x r).notices := by
  have hrecords := closeRecords_grows h x r
  simp -implicitDefEqProofs [closeSession, hrecords]

@[simp] theorem closeWindup_grows {p : Part} (h : NoticesGrow a p.notices) :
    NoticesGrow a (closeWindup p).notices := by
  simp only [closeWindup]
  (repeat' split) <;> simp -implicitDefEqProofs [h]

@[simp] theorem completeWindup_grows {p : Part} (h : NoticesGrow a p.notices) :
    NoticesGrow a (completeWindup p).notices := by
  simp only [completeWindup]
  split
  · split
    · exact closeWindup_grows (openPending_grows (closeWindup_grows h))
    · exact h
  · exact h

@[simp] theorem windup_grows {p : Part} (h : NoticesGrow a p.notices) (r : CloseReason) :
    NoticesGrow a (windup p r).notices := by
  simp -implicitDefEqProofs [windup, h]

@[simp] theorem stageTest_grows {p : Part} (h : NoticesGrow a p.notices) :
    NoticesGrow a (stageTest p).notices := by
  simp -implicitDefEqProofs [stageTest, h]

@[simp] theorem checkInTest_grows {p : Part} (h : NoticesGrow a p.notices) :
    NoticesGrow a (checkInTest p).notices := by
  simp -implicitDefEqProofs [checkInTest, h]

@[simp] theorem release_grows {p : Part} (h : NoticesGrow a p.notices) (x : Session) :
    NoticesGrow a (release p x).notices := by
  exact closeWindup_grows (openPending_grows (closeSession_grows h x .released))

@[simp] theorem releaseTest_grows {p : Part} (h : NoticesGrow a p.notices) (window : Bool) :
    NoticesGrow a (releaseTest p window).notices := by
  simp only [releaseTest]
  (repeat' split) <;> simp -implicitDefEqProofs [h]

@[simp] theorem endTest_grows {p : Part} (h : NoticesGrow a p.notices) (window : Bool) :
    NoticesGrow a (endTest p window).notices := by
  simp -implicitDefEqProofs [endTest, h]

@[simp] theorem openingTest_grows {p : Part} (h : NoticesGrow a p.notices) :
    NoticesGrow a (openingTest p).notices := by
  simp only [openingTest]
  (repeat' split) <;> simp -implicitDefEqProofs [h]

@[simp] theorem dropStalePending_grows {p : Part} (h : NoticesGrow a p.notices) :
    NoticesGrow a (dropStalePending p).notices := by
  simp only [dropStalePending]
  (repeat' split) <;> simp -implicitDefEqProofs [h]

@[simp] theorem walkInTest_grows {p : Part} (h : NoticesGrow a p.notices) :
    NoticesGrow a (walkInTest p).notices := by
  simp only [walkInTest]
  (repeat' split) <;> simp -implicitDefEqProofs [h]

@[simp] theorem repeatWalkIn_grows {p : Part} (h : NoticesGrow a p.notices) :
    NoticesGrow a (repeatWalkIn p).notices := by
  simp only [repeatWalkIn]
  (repeat' split) <;> simp -implicitDefEqProofs [h]

@[simp] theorem countDwell_grows {p : Part} (h : NoticesGrow a p.notices) :
    NoticesGrow a (countDwell p).notices := by
  simp only [countDwell]
  (repeat' split) <;> simp -implicitDefEqProofs [h]

@[simp] theorem concludeDwell_grows {after : Part} (h : NoticesGrow a after.notices) (before : Part) :
    NoticesGrow a (concludeDwell before after).notices := by
  simp only [concludeDwell]
  (repeat' split) <;> simp -implicitDefEqProofs [h]

@[simp] theorem vacancyTest_grows {p : Part} (h : NoticesGrow a p.notices) :
    NoticesGrow a (vacancyTest p).notices := by
  simp only [vacancyTest]
  (repeat' split) <;> simp -implicitDefEqProofs [h]

@[simp] theorem countVacancy_grows {p : Part} (h : NoticesGrow a p.notices) :
    NoticesGrow a (countVacancy p).notices := by
  simp only [countVacancy]
  (repeat' split) <;> simp -implicitDefEqProofs [h]

@[simp] theorem sessionSecond_grows {p : Part} (h : NoticesGrow a p.notices) :
    NoticesGrow a (sessionSecond p).notices := by
  simp -implicitDefEqProofs [sessionSecond, h]

@[simp] theorem sessionMinute_grows {p : Part} (h : NoticesGrow a p.notices) (b : Part) :
    NoticesGrow a (sessionMinute b p).notices := by
  have hawait : NoticesGrow a (countAwait b p.dropStalePending).notices := by simp -implicitDefEqProofs [h]
  exact repeatWalkIn_grows (openingTest_grows (endTest_grows hawait true))

@[simp] theorem sessionJump_grows {p : Part} (h : NoticesGrow a p.notices) :
    NoticesGrow a (sessionJump p).notices := by
  exact repeatWalkIn_grows (openingTest_grows (endTest_grows (dropStalePending_grows h) false))

@[simp] theorem occupiedChanged_grows {p : Part} (h : NoticesGrow a p.notices) (old : Nat) :
    NoticesGrow a (occupiedChanged p old).notices := by
  simp only [occupiedChanged]
  (repeat' split) <;> simp -implicitDefEqProofs [h]

@[simp] theorem enterActive_grows {p : Part} (h : NoticesGrow a p.notices) :
    NoticesGrow a (enterActive p).notices := by
  exact repeatWalkIn_grows (closeWindup_grows (openPending_grows (changePower_grows h .active)))

@[simp] theorem endSettling_grows {p : Part} (h : NoticesGrow a p.notices) :
    NoticesGrow a (endSettling p).notices := by
  simp -implicitDefEqProofs [endSettling, h]

@[simp] theorem extendTo_grows {p : Part} (h : NoticesGrow a p.notices) (x : Session) (e : Nat) :
    NoticesGrow a (extendTo p x e).notices := by
  exact stageTest_grows (releaseTest_grows (by simp -implicitDefEqProofs [h]) true)

@[simp] theorem resetSession_grows {p : Part} (h : NoticesGrow a p.notices) :
    NoticesGrow a (resetSession p).notices := by
  simp only [resetSession]
  split
  next x _ =>
    have hrecords := closeRecords_grows h x .reset
    simp -implicitDefEqProofs [hrecords]
  · simp -implicitDefEqProofs [h]

@[simp] theorem updateCount_grows {p : Part} (h : NoticesGrow a p.notices) :
    NoticesGrow a (updateCount p).notices := by
  simp only [updateCount]
  (repeat' split) <;> simp -implicitDefEqProofs [h]

@[simp] theorem changePresence_grows {p : Part} (h : NoticesGrow a p.notices) (s : SeatId) (y : Presence) (timer : Nat) :
    NoticesGrow a (changePresence p s y timer).notices := by
  have hseat : NoticesGrow a ((p.setSeat s { p.seat s with presence := y, absence := timer }).notice .seat).notices :=
    notice_grows (by simpa using h) _
  simp only [changePresence]
  split
  · simpa using h
  · split
    · exact updateCount_grows (seatVacant_grows hseat s)
    · exact updateCount_grows hseat

@[simp] theorem proximityReport_grows {p : Part} (h : NoticesGrow a p.notices) (s : SeatId) (o : Sensed) :
    NoticesGrow a (proximityReport p s o).notices := by
  simp -implicitDefEqProofs [proximityReport, h]

@[simp] theorem absenceExpiry_grows {p : Part} (h : NoticesGrow a p.notices) (s : SeatId) :
    NoticesGrow a (absenceExpiry p s).notices := by
  simp only [absenceExpiry]
  (repeat' split) <;> simp -implicitDefEqProofs [h]

@[simp] theorem countAbsence_grows {p : Part} (h : NoticesGrow a p.notices) (s : SeatId) :
    NoticesGrow a (countAbsence p s).notices := by
  simp only [countAbsence]
  (repeat' split) <;> simp -implicitDefEqProofs [h]

@[simp] theorem seatSecond_grows {p : Part} (h : NoticesGrow a p.notices) :
    NoticesGrow a (seatSecond p).notices := by
  exact foldl_grows (fun _ x hq => countAbsence_grows hq x) _ (by simp -implicitDefEqProofs [h])

@[simp] theorem keyDown_grows {p : Part} (h : NoticesGrow a p.notices) (s : SeatId) :
    NoticesGrow a (keyDown p s).notices := by
  simp only [keyDown]
  (repeat' split) <;> simp -implicitDefEqProofs [h]

@[simp] theorem keyRelease_grows {p : Part} (h : NoticesGrow a p.notices) (s : SeatId) :
    NoticesGrow a (keyRelease p s).notices := by
  simp only [keyRelease]
  (repeat' split) <;> simp -implicitDefEqProofs [h]

@[simp] theorem keyReport_grows {p : Part} (h : NoticesGrow a p.notices) (s : SeatId) (o : Sensed) (c : ReportCause) :
    NoticesGrow a (keyReport p s o c).notices := by
  simp only [keyReport]
  (repeat' split) <;> simp -implicitDefEqProofs [h]

@[simp] theorem takeChairNext_grows {p : Part} (h : NoticesGrow a p.notices) :
    NoticesGrow a (takeChairNext p).notices := by
  simp only [takeChairNext]
  (repeat' split) <;> simp -implicitDefEqProofs [h]

@[simp] theorem countPress_grows {p : Part} (h : NoticesGrow a p.notices) (period : Nat) (s : SeatId) :
    NoticesGrow a (countPress p period s).notices := by
  simp only [countPress]
  (repeat' split) <;> simp -implicitDefEqProofs [h]

@[simp] theorem report_grows {p : Part} (h : NoticesGrow a p.notices) (c : ChannelId) (o : Sensed) (cause : ReportCause) :
    NoticesGrow a (report p c o cause).notices := by
  simp only [report]
  (repeat' split) <;> simp -implicitDefEqProofs [h]

@[simp] theorem handSource_grows {p : Part} (h : NoticesGrow a p.notices) (k : SocketId) (old new : Socket) :
    NoticesGrow a (handSource p k old new).notices := by
  simp only [handSource]
  (repeat' split) <;> simp -implicitDefEqProofs [h]

@[simp] theorem putSocket_grows {p : Part} (h : NoticesGrow a p.notices) (k : SocketId) (x : Socket) :
    NoticesGrow a (putSocket p k x).notices := by
  simp -implicitDefEqProofs [putSocket, h]

@[simp] theorem captureEvent_grows {p : Part} (h : NoticesGrow a p.notices) (k : SocketId) (x : Socket) (e : CaptureEvent) :
    NoticesGrow a (captureEvent p k x e).notices := by
  simp -implicitDefEqProofs [captureEvent, h]

@[simp] theorem overflow_grows {p : Part} (h : NoticesGrow a p.notices) (k : SocketId) :
    NoticesGrow a (overflow p k).notices := by
  simp only [overflow]
  (repeat' split) <;> simp -implicitDefEqProofs [h]

@[simp] theorem overflows_grows {p : Part} (h : NoticesGrow a p.notices) (k : SocketId) (n : Nat) :
    NoticesGrow a (overflows k n p).notices := by
  induction n generalizing p with
  | zero => exact h
  | succ n ih => exact ih (overflow_grows h k)

@[simp] theorem passTicks_grows {p : Part} (h : NoticesGrow a p.notices) (k : SocketId) (ticks : Nat) (last : Bool) :
    NoticesGrow a (passTicks p k ticks last).notices := by
  simp only [passTicks]
  (repeat' split) <;> simp -implicitDefEqProofs [h]

@[simp] theorem tickSocket_grows {p : Part} (h : NoticesGrow a p.notices) (k : SocketId) :
    NoticesGrow a (tickSocket p k).notices := by
  simp only [tickSocket]
  (repeat' split) <;> simp -implicitDefEqProofs [h]

@[simp] theorem captureTick_grows {p : Part} (h : NoticesGrow a p.notices) :
    NoticesGrow a (captureTick p).notices := by
  exact foldl_grows (fun _ x hq => tickSocket_grows hq x) _ (h)

@[simp] theorem measure_grows {p : Part} (h : NoticesGrow a p.notices) (k : SocketId) (x : Socket) :
    NoticesGrow a (measure p k x).notices := by
  simp -implicitDefEqProofs [measure, h]

@[simp] theorem edgeActs_grows {p : Part} (h : NoticesGrow a p.notices) (k : SocketId) (isActive : Bool) :
    NoticesGrow a (edgeActs p k isActive).notices := by
  simp only [edgeActs]
  (repeat' split) <;> simp -implicitDefEqProofs [h]

@[simp] theorem lateOverflow_grows {p : Part} (h : NoticesGrow a p.notices) (k : SocketId) :
    NoticesGrow a (lateOverflow p k).notices := by
  simp only [lateOverflow]
  (repeat' split) <;> simp -implicitDefEqProofs [h]

@[simp] theorem takeEdge_grows {p : Part} (h : NoticesGrow a p.notices) (k : SocketId) (e : Edge) (ticks levelHeld : Nat) (overflowFirst : Bool) :
    NoticesGrow a (takeEdge p k e ticks levelHeld overflowFirst).notices := by
  have hticks := passTicks_grows h k ticks overflowFirst
  simp only [takeEdge]
  split
  · split
    · exact lateOverflow_grows (edgeActs_grows (by simpa using hticks) k _) k
    · exact lateOverflow_grows (by simpa using hticks) k
  · exact h

@[simp] theorem standbySocket_grows {p : Part} (h : NoticesGrow a p.notices) (k : SocketId) :
    NoticesGrow a (standbySocket p k).notices := by
  simp only [standbySocket]
  (repeat' split) <;> simp -implicitDefEqProofs [h]

@[simp] theorem setFixedInput_grows {p : Part} (h : NoticesGrow a p.notices) (codec present : Bool) :
    NoticesGrow a (setFixedInput p codec present).notices := by
  simp only [setFixedInput]
  (repeat' split) <;> simp -implicitDefEqProofs [h]

@[simp] theorem sendOne_grows {p : Part} (h : NoticesGrow a p.notices) (c : ChannelId) (o : SfeOut) :
    NoticesGrow a (sendOne c p o).notices := by
  simp only [sendOne]
  (repeat' split) <;> simp -implicitDefEqProofs [h]

@[simp] theorem sendOut_grows {p : Part} (h : NoticesGrow a p.notices) (c : ChannelId) (out : List SfeOut) :
    NoticesGrow a (sendOut p c out).notices := by
  exact foldl_grows (fun _ x hq => sendOne_grows hq c x) _ (h)

@[simp] theorem putChannel_grows {p : Part} (h : NoticesGrow a p.notices) (c : ChannelId) (r : ChanResult) :
    NoticesGrow a (putChannel p c r).notices := by
  simp -implicitDefEqProofs [putChannel, h]

@[simp] theorem channelFrame_grows {p : Part} (h : NoticesGrow a p.notices) (standby : Bool) (change : Int) (readings : List Nat) (c : ChannelId) :
    NoticesGrow a (channelFrame standby change readings p c).notices := by
  simp only [channelFrame]
  (repeat' split) <;> simp -implicitDefEqProofs [h]

@[simp] theorem countPresses_grows {p : Part} (h : NoticesGrow a p.notices) (period : Nat) (seats : List SeatId) :
    NoticesGrow a (countPresses p period seats).notices := by
  exact foldl_grows (fun _ x hq => countPress_grows hq period x) _ (h)

@[simp] theorem startUpTest_grows {p : Part} (h : NoticesGrow a p.notices) :
    NoticesGrow a (startUpTest p).notices := by
  simp only [startUpTest]
  (repeat' split) <;> simp -implicitDefEqProofs [h]

@[simp] theorem settleFrame_grows {p : Part} (h : NoticesGrow a p.notices) (counts : Bool) :
    NoticesGrow a (settleFrame p counts).notices := by
  simp only [settleFrame]
  (repeat' split) <;> simp -implicitDefEqProofs [h]

@[simp] theorem sensingFrame_grows {p : Part} (h : NoticesGrow a p.notices) (readings : List Nat) (first : List ChannelId) (timersFirst : Bool) :
    NoticesGrow a (sensingFrame p readings first timersFirst).notices := by
  have hchannels (l : List ChannelId) (standby : Bool) (change : Int) {q : Part} (hq : NoticesGrow a q.notices) :
      NoticesGrow a (l.foldl (channelFrame standby change readings) q).notices :=
    foldl_grows (fun _ c hr => channelFrame_grows hr standby change readings c) _ hq
  simp only [sensingFrame]
  refine settleFrame_grows (startUpTest_grows ?_) _
  cases timersFirst with
  | true => exact hchannels _ _ _ (countPresses_grows (putChannel_grows h _ _) _ _)
  | false => exact countPresses_grows (hchannels _ _ _ (putChannel_grows h _ _)) _ _

@[simp] theorem haltReseed_grows {p : Part} (h : NoticesGrow a p.notices) (c : ChannelId) :
    NoticesGrow a (haltReseed p c).notices := by
  simp only [haltReseed]
  (repeat' split) <;> simp -implicitDefEqProofs [h]

@[simp] theorem retuneDone_grows {p : Part} (h : NoticesGrow a p.notices) (c : ChannelId) :
    NoticesGrow a (retuneDone p c).notices := by
  simp only [retuneDone]
  (repeat' split) <;> simp -implicitDefEqProofs [h]

@[simp] theorem directionReseed_grows {p : Part} (h : NoticesGrow a p.notices) (c : ChannelId) :
    NoticesGrow a (directionReseed p c).notices := by
  simp only [directionReseed]
  (repeat' split) <;> simp -implicitDefEqProofs [h]

@[simp] theorem setProfile_grows {p : Part} (h : NoticesGrow a p.notices) (k : ProfileKind) (x : Profile) :
    NoticesGrow a (setProfile p k x).notices := by
  have hput : NoticesGrow a (p.putProfile k x).notices := by simpa using h
  have hfold (l : List ChannelId) {q : Part} (hq : NoticesGrow a q.notices) :
      NoticesGrow a (l.foldl directionReseed q).notices :=
    foldl_grows (fun _ c hr => directionReseed_grows hr c) _ hq
  simp only [setProfile]
  split <;> split
  · exact hfold _ (by simpa using hput)
  · exact hfold _ hput
  · simpa using hput
  · exact hput

@[simp] theorem standbyKey_grows {p : Part} (h : NoticesGrow a p.notices) (s : SeatId) :
    NoticesGrow a (standbyKey p s).notices := by
  simp -implicitDefEqProofs [standbyKey, h]

@[simp] theorem standbyEntry_grows {p : Part} (h : NoticesGrow a p.notices) :
    NoticesGrow a (standbyEntry p).notices := by
  have hkeys : NoticesGrow a (((List.finRange 20).foldl standbyKey ((p.changePower .standby).withPwu
      { (p.changePower .standby).pwu with settle := 0 })).standbySlots).notices := by
    have hpower := changePower_grows h .standby
    have hfold := foldl_grows (fun q i (hq : NoticesGrow a q.notices) => standbyKey_grows hq i) (List.finRange 20)
      (p := (p.changePower .standby).withPwu { (p.changePower .standby).pwu with settle := 0 }) (by simpa using hpower)
    simpa using hfold
  have hsockets := foldl_grows (fun q k (hq : NoticesGrow a q.notices) => standbySocket_grows hq k) (List.finRange 8) hkeys
  simpa [standbyEntry] using hsockets

@[simp] theorem standbyTest_grows {p : Part} (h : NoticesGrow a p.notices) :
    NoticesGrow a (standbyTest p).notices := by
  simp only [standbyTest]
  (repeat' split) <;> simp -implicitDefEqProofs [h]

@[simp] theorem powerSecond_grows {p : Part} (h : NoticesGrow a p.notices) (minute : Bool) :
    NoticesGrow a (powerSecond p minute).notices := by
  simp only [powerSecond]
  (repeat' split) <;> simp -implicitDefEqProofs [h]

@[simp] theorem standbyEnter_grows {p : Part} (h : NoticesGrow a p.notices) :
    NoticesGrow a (standbyEnter p).1.notices := by
  simp only [standbyEnter]
  (repeat' split) <;> simp -implicitDefEqProofs [h]

@[simp] theorem relink_grows {p : Part} (h : NoticesGrow a p.notices) :
    NoticesGrow a (relink p).notices := by
  simp only [relink]
  (repeat' split) <;> simp -implicitDefEqProofs [h]

@[simp] theorem relinkTests_grows {p : Part} (h : NoticesGrow a p.notices) :
    NoticesGrow a (relinkTests p).notices := by
  simp only [relinkTests]
  (repeat' split) <;> simp -implicitDefEqProofs [h]

@[simp] theorem swapPending_grows {p : Part} (h : NoticesGrow a p.notices) :
    NoticesGrow a (swapPending p).notices := by
  simp -implicitDefEqProofs [swapPending, h]

@[simp] theorem swap_grows {p : Part} (h : NoticesGrow a p.notices) :
    NoticesGrow a (swap p).notices := by
  have hpending := dropStalePending_grows (markMissed_grows (relink_grows (p := p.exchangeBanks) (by simpa using h)))
  exact repeatWalkIn_grows (openingTest_grows (relinkTests_grows (notice_grows hpending .schedule)))

@[simp] theorem midnight_grows {p : Part} (h : NoticesGrow a p.notices) :
    NoticesGrow a (midnight p).notices := by
  simp only [midnight]
  (repeat' split) <;> simp -implicitDefEqProofs [h]

@[simp] theorem secondFor_grows {p : Part} (h : NoticesGrow a p.notices) (b : Part) (minute : Bool) (u : ClockUser) :
    NoticesGrow a (secondFor b minute p u).notices := by
  simp only [secondFor]
  (repeat' split) <;> simp -implicitDefEqProofs [h]

@[simp] theorem secondEvent_grows {p : Part} (h : NoticesGrow a p.notices) (first : List ClockUser) :
    NoticesGrow a (secondEvent p first).notices := by
  have hclock : NoticesGrow a (p.setClock (tick p.sch.clock)).notices := by simpa using h
  simp only [secondEvent]
  refine foldl_grows (fun _ u hq => secondFor_grows hq p _ u) _ ?_
  split
  · refine midnight_grows ?_
    split
    · exact markMissed_grows hclock
    · exact hclock
  · split
    · exact markMissed_grows hclock
    · exact hclock

@[simp] theorem clockSet_grows {p : Part} (h : NoticesGrow a p.notices) (day minute second : Nat) :
    NoticesGrow a (clockSet p day minute second).1.notices := by
  have hmissed : NoticesGrow a ((p.setClock ⟨day, minute, second, true⟩).markMissed).notices :=
    markMissed_grows (by simpa using h)
  simp only [clockSet]
  split
  · exact h
  · dsimp only
    refine sessionJump_grows (notice_grows ?_ .schedule)
    split
    · exact swap_grows hmissed
    · exact hmissed

@[simp] theorem startCheck_grows {p : Part} (h : NoticesGrow a p.notices) :
    NoticesGrow a (startCheck p).notices := by
  simp -implicitDefEqProofs [startCheck, h]

@[simp] theorem bankOpen_grows {p : Part} (h : NoticesGrow a p.notices) (day count auto : Nat) :
    NoticesGrow a (bankOpen p day count auto).1.notices := by
  simp only [bankOpen]
  (repeat' split) <;> simp -implicitDefEqProofs [h]

@[simp] theorem faultBank_grows {p : Part} (h : NoticesGrow a p.notices) (c : BankFault) :
    NoticesGrow a (faultBank p c).notices := by
  simp -implicitDefEqProofs [faultBank, h]

@[simp] theorem bookingEntry_grows {p : Part} (h : NoticesGrow a p.notices) (l : List Byte) :
    NoticesGrow a (bookingEntry p l).1.notices := by
  simp only [bookingEntry]
  (repeat' split) <;> simp -implicitDefEqProofs [h]

@[simp] theorem bankPublish_grows {p : Part} (h : NoticesGrow a p.notices) :
    NoticesGrow a (bankPublish p).1.notices := by
  simp only [bankPublish]
  (repeat' split) <;> simp -implicitDefEqProofs [h]

@[simp] theorem bankAbandon_grows {p : Part} (h : NoticesGrow a p.notices) :
    NoticesGrow a (bankAbandon p).1.notices := by
  simp only [bankAbandon]
  (repeat' split) <;> simp -implicitDefEqProofs [h]

@[simp] theorem checkCompletion_grows {p : Part} (h : NoticesGrow a p.notices) :
    NoticesGrow a (checkCompletion p).notices := by
  simp only [checkCompletion]
  (repeat' split) <;> simp -implicitDefEqProofs [h]

@[simp] theorem cancelEntry_grows {p : Part} (h : NoticesGrow a p.notices) (id : Nat) (s : EntryStatus) :
    NoticesGrow a (cancelEntry p id s).1.notices := by
  simp only [cancelEntry]
  (repeat' split) <;> simp -implicitDefEqProofs [h]

@[simp] theorem bookingCancel_grows {p : Part} (h : NoticesGrow a p.notices) (id : Nat) :
    NoticesGrow a (bookingCancel p id).1.notices := by
  simp only [bookingCancel]
  (repeat' split) <;> simp -implicitDefEqProofs [h]

@[simp] theorem extend_grows {p : Part} (h : NoticesGrow a p.notices) (minute : Nat) :
    NoticesGrow a (extend p minute).1.notices := by
  simp only [extend]
  (repeat' split) <;> simp -implicitDefEqProofs [h]

@[simp] theorem endSession_grows {p : Part} (h : NoticesGrow a p.notices) :
    NoticesGrow a (endSession p).1.notices := by
  simp only [endSession]
  (repeat' split) <;> simp -implicitDefEqProofs [h]

@[simp] theorem saveMatch_grows {p : Part} (h : NoticesGrow a p.notices) :
    NoticesGrow a (saveMatch p).notices := by
  simp only [saveMatch]
  (repeat' split) <;> simp -implicitDefEqProofs [h]

@[simp] theorem saveFailure_grows {p : Part} (h : NoticesGrow a p.notices) :
    NoticesGrow a (saveFailure p).notices := by
  simp only [saveFailure]
  (repeat' split) <;> simp -implicitDefEqProofs [h]

@[simp] theorem freePhase_grows {p : Part} (h : NoticesGrow a p.notices) (k : SlotId) :
    NoticesGrow a (freePhase p k).notices := by
  simp only [freePhase]
  (repeat' split) <;> simp -implicitDefEqProofs [h]

@[simp] theorem gainFrame_grows {p : Part} (h : NoticesGrow a p.notices) (first : List SlotId) (settlesLast : Bool) :
    NoticesGrow a (gainFrame p first settlesLast).notices := by
  have hslots (l : List SlotId) {q : Part} (hq : NoticesGrow a q.notices) :
      NoticesGrow a (concludeDwell p (l.foldl freePhase q)).notices :=
    concludeDwell_grows (foldl_grows (fun _ k hr => freePhase_grows hr k) _ hq) p
  cases settlesLast with
  | true =>
    have hmoved : NoticesGrow a p.countGainTimers.countSettles.moveGains.enterLives.notices :=
      enterLives_grows (by simpa using countSettles_grows (p := p.countGainTimers) (by simpa using h))
    have hended := endSettles_grows (hslots (takenOrder first allSlots) hmoved) true
    simp only [gainFrame, if_true]
    simpa using hended
  | false =>
    have hsettled := endSettles_grows (countSettles_grows (p := p.countGainTimers) (by simpa using h)) false
    have hmoved : NoticesGrow a (p.countGainTimers.countSettles.endSettles false).moveGains.enterLives.notices :=
      enterLives_grows (by simpa using hsettled)
    have hended := hslots (takenOrder first allSlots) hmoved
    simp only [gainFrame, Bool.false_eq_true, if_false]
    simpa using hended

@[simp] theorem settleComplete_grows {p : Part} (h : NoticesGrow a p.notices) :
    NoticesGrow a (settleComplete p).notices := by
  simp only [settleComplete]
  (repeat' split) <;> simp -implicitDefEqProofs [h]

/-- The end of an event clears no notice. -/
theorem conclude_grows {after : Part} (h : NoticesGrow a after.notices) (before : Part) :
    NoticesGrow a (conclude before after).notices := by
  have hdrive := concludeRouting_grows (concludeDwell_grows h before) before
  simpa [conclude] using hdrive

/-- A flag that an event has set is set at its end. -/
theorem conclude_flag {before after : Part} {m : BitVec 9} {q : Port} (h : (after.notices q).1 &&& m ≠ 0) :
    ((conclude before after).port q).flags &&& m ≠ 0 :=
  (conclude_grows (.refl _) before).flag h

end Part

end Sys2Proof.Machine
end

section
/-! The single events of a channel: the halt limit's reseed, the band check's retune, and the completion of a retune
(R28, R33, R35, R38). -/

namespace Sys2Proof.Machine

namespace Part

variable {p : Part}

/-! ### What the reports of a channel leave -/

/-- Of all reports a proximity channel's change to active alone may reach SFE, by the wake (R201). -/
theorem report_sfe {o : Sensed} (h : o ≠ .active) (c : ChannelId) (cause : ReportCause) :
    (p.report c o cause).sfe = p.sfe := by
  simp only [report]
  split <;> simp [h]

theorem sendOne_sfe {o : SfeOut} (h : ∀ cause, o ≠ .report .active cause) (c : ChannelId) :
    (sendOne c p o).sfe = p.sfe := by
  cases o with
  | notice m => simp [sendOne]
  | report s cause => exact report_sfe (fun hs => h cause (by rw [hs])) c cause

theorem sendOut_sfe {out : List SfeOut} (h : ∀ o ∈ out, ∀ cause, o ≠ .report .active cause) (c : ChannelId) :
    (p.sendOut c out).sfe = p.sfe := by
  induction out generalizing p with
  | nil => rfl
  | cons o out ih =>
    have htail : (p.sendOut c (o :: out)).sfe = ((sendOne c p o).sendOut c out).sfe := rfl
    rw [htail, ih fun x hx => h x (by simp [hx]), sendOne_sfe (h o (by simp))]

/-- The power state moves with the wake alone. -/
theorem report_power {o : Sensed} (h : o ≠ .active) (c : ChannelId) (cause : ReportCause) :
    (p.report c o cause).pwu.power = p.pwu.power := by
  simp only [report]
  split <;> simp [h]

theorem sendOut_power {out : List SfeOut} (h : ∀ o ∈ out, ∀ cause, o ≠ .report .active cause) (c : ChannelId) :
    (p.sendOut c out).pwu.power = p.pwu.power := by
  induction out generalizing p with
  | nil => rfl
  | cons o out ih =>
    have htail : (p.sendOut c (o :: out)).pwu.power = ((sendOne c p o).sendOut c out).pwu.power := rfl
    rw [htail, ih fun x hx => h x (by simp [hx])]
    cases o with
    | notice m => simp [sendOne]
    | report s cause => exact report_power (fun hs => h (.report s cause) (by simp) cause (by rw [hs])) c cause

/-- A channel whose update reports no change to active is the one channel that changes. -/
theorem putChannel_channel {c : ChannelId} {r : ChanResult} (h : ∀ o ∈ r.2, ∀ cause, o ≠ .report .active cause)
    (d : ChannelId) : (p.putChannel c r).channel d = if d = c then r.1 else p.channel d := by
  rw [putChannel, channel_eq (sendOut_sfe h c), setChannel_channel]

/-- What an update sends out raises its notices, and none is cleared. -/
theorem putChannel_notice {c : ChannelId} {r : ChanResult} {m : Cause} (h : .notice m ∈ r.2) (q : Port) :
    ((p.putChannel c r).notices q).1 &&& 4 ≠ 0 ∧ ((p.putChannel c r).notices q).2 &&& m.bit ≠ 0 := by
  obtain ⟨before, after, hout⟩ := List.append_of_mem h
  have hsplit : p.putChannel c r = ((((p.setChannel c r.1).sendOut c before).noticeCause .sense m).sendOut c after) := by
    rw [putChannel, hout]
    simp [sendOut, sendOne]
  have hgrows := sendOut_grows (a := (((p.setChannel c r.1).sendOut c before).noticeCause .sense m).notices) (.refl _) c after
  rw [hsplit]
  refine ⟨hgrows.flag ?_, hgrows.cause ?_⟩
  · rw [noticeCause_notices]
    exact mark_raised _ (by decide)
  · rw [noticeCause_notices]
    exact mark_raised _ (by cases m <;> decide)

@[simp] theorem conclude_channel (before after : Part) (c : ChannelId) :
    (conclude before after).channel c = after.channel c := by
  simp [channel]

/-! ### The reseed (R28) -/

theorem startPending_eq (r : ChanResult) : startPending r = (if r.1.pending then startRetune r.1 else r.1, r.2) := by
  simp only [startPending]
  split <;> rfl

/-- What a reseed sends out, besides the notices given with it: the release of an active outcome. -/
theorem reseed_out (x : Channel) (l : List SfeOut) :
    (reseed x l).2 = l ∨ (reseed x l).2 = l ++ [.report .inactive .reseed] := by
  simp only [reseed, startPending_eq]
  split
  · exact .inr rfl
  · exact .inl rfl

theorem reseed_reports {x : Channel} {l : List SfeOut} (h : ∀ o ∈ l, ∀ cause, o ≠ .report .active cause) :
    ∀ o ∈ (reseed x l).2, ∀ cause, o ≠ .report .active cause := by
  intro o ho cause
  rcases reseed_out x l with hout | hout <;> rw [hout] at ho
  · exact h o ho cause
  · rcases List.mem_append.mp ho with ho | ho
    · exact h o ho cause
    · simp_all

/-- A channel after a reseed (R28, R37). -/
theorem reseed_channel (x : Channel) (l : List SfeOut) :
    (reseed x l).1.lta = x.filtered ∧ (reseed x l).1.filtered = x.filtered ∧ (reseed x l).1.debounce = 0 ∧
      (reseed x l).1.haltTimer = 0 ∧ (reseed x l).1.state = (if x.pending then .tuning else .idle) ∧
      (reseed x l).1.pending = false := by
  cases hpending : x.pending <;> simp [reseed, startPending_eq, hpending, startRetune]

theorem haltReseed_eq {c : ChannelId} (hkind : kindOf c ≠ .reference)
    (hstate : (p.channel c).state = .idle ∨ (p.channel c).state = .entering ∨ (p.channel c).state = .active ∨
      (p.channel c).state = .leaving)
    (hlimit : (p.profileOf (kindOf c)).haltLimit ≠ 0 ∧ (p.profileOf (kindOf c)).haltLimit * 1000 ≤ (p.channel c).haltTimer)
    (htested : (p.channel c).haltTested = (p.profileOf (kindOf c)).haltLimit) :
    p.haltReseed c = p.putChannel c (reseed (p.channel c) [.notice .stuckChannel]) := by
  simp [haltReseed, hkind, hstate, htested, haltReached, hlimit]

theorem haltReseed_waits {c : ChannelId} (htested : (p.channel c).haltTested ≠ (p.profileOf (kindOf c)).haltLimit) :
    p.haltReseed c = p := by
  simp [haltReseed, htested]

/-! ### The band check's retune (R35) -/

theorem bandRetune_eq {c : ChannelId}
    (hstate : (p.channel c).state ≠ .off ∧ (p.channel c).state ≠ .tuning ∧ (p.channel c).state ≠ .fault)
    (hcount : 50 ≤ (p.channel c).bandCount) : p.bandRetune c = p.setChannel c (startRetune (p.channel c)) := by
  simp [bandRetune, hstate, Config.bandFrames, hcount]

/-- The outcome that a running channel holds through its retune. -/
theorem outcomeOf_running {x : Channel} (hstate : x.state ≠ .off ∧ x.state ≠ .tuning ∧ x.state ≠ .fault) :
    outcomeOf x = if x.state = .active ∨ x.state = .leaving then .active else .inactive := by
  obtain ⟨hoff, htuning, hfault⟩ := hstate
  cases hx : x.state <;> simp_all [outcomeOf, outcomeOfState]

end Part

/-- Settles O12. -/
theorem reseedAndBandCheck : Obligations.ReseedAndBandCheck := by
  unfold Obligations.ReseedAndBandCheck
  constructor
  · intro c s hheld hkind hstate hlimit
    refine ⟨fun htested hset => ?_, fun htested => ?_⟩
    · refine completes_onEvent (f := fun p => p.haltReseed c) rfl ?_
      rw [Part.event_unheld hheld, Part.haltReseed_waits htested]
      exact Part.sameBut_conclude_settled hset rfl rfl rfl
    · refine completes_onEvent (f := fun p => p.haltReseed c) rfl ?_
      rw [Part.event_unheld hheld, Part.haltReseed_eq hkind hstate hlimit htested]
      have hchannel (d : ChannelId) := Part.putChannel_channel (p := s.part) (c := c)
        (Part.reseed_reports (x := s.part.channel c) (l := [.notice .stuckChannel]) (by simp)) d
      obtain ⟨hlta, -, hdebounce, htimer, hnew, hpending⟩ := Part.reseed_channel (s.part.channel c) [.notice .stuckChannel]
      have hstuck (q : Port) := Part.putChannel_notice (p := s.part) (c := c) (m := .stuckChannel)
        (r := reseed (s.part.channel c) [.notice .stuckChannel])
        (by rcases Part.reseed_out (s.part.channel c) [.notice .stuckChannel] with hout | hout <;> simp [hout]) q
      simp only [Part.conclude_channel, hchannel, if_true]
      refine ⟨hlta, hdebounce, htimer, hnew, hpending, fun d hd => if_neg hd, fun q => ⟨?_, ?_⟩⟩
      · exact Part.conclude_flag (hstuck q).1
      · exact (Part.conclude_grows (.refl _) _).cause (hstuck q).2
  · intro c s hheld hset hstate hcount
    refine completes_onEvent (f := fun p => p.bandRetune c) rfl ?_
    rw [Part.event_unheld hheld, Part.bandRetune_eq hstate hcount]
    refine ⟨?_, fun d hd => ?_, ?_⟩
    · simp [startRetune, Part.outcomeOf_running hstate]
    · simp [hd]
    · exact (Part.sameBut_setChannel s.part c _).trans
        ((Part.sameBut_conclude_settled hset (by simp) (by simp) (by simp)).mono (List.nil_subset _))

namespace Part

variable {p : Part}

/-! ### The completion of a retune (R33) -/

/-- A count is in band when its distance from the target is within the band width (R16). -/
theorem inBand_iff {pr : Profile} {count : Nat} :
    inBand pr count = true ↔ distance count pr.target ≤ pr.target * pr.band / 256 := by
  rw [inBand, Bool.and_eq_true, decide_eq_true_iff, decide_eq_true_iff, bandWidth, distance]
  omega

theorem completeRetune_good {pr : Profile} {x : Channel} {v r : Nat} (hbest : x.best = some (v, r))
    (hpending : x.pending = false) (hband : distance r pr.target ≤ pr.target * pr.band / 256) :
    (completeRetune pr x).1 = { x with
      tune := v, raw := r, step := 0, kept := 0, trial := v, best := none, filtered := 16 * r, lta := 16 * r
      state := .idle, debounce := 0, result := .good } := by
  simp [completeRetune, hbest, inBand_iff.mpr hband, startPending_eq, hpending]

theorem completeRetune_fault {pr : Profile} {x : Channel} {v r : Nat} (hbest : x.best = some (v, r))
    (hband : pr.target * pr.band / 256 < distance r pr.target) :
    (completeRetune pr x).1 = { x with
      tune := v, raw := r, step := 0, kept := 0, trial := v, best := none, state := .fault, result := .outOfBand } ∧
      .notice .retuneFailed ∈ (completeRetune pr x).2 := by
  have hout : inBand pr r = false := by
    rw [← Bool.not_eq_true, inBand_iff]
    omega
  simp only [completeRetune, hbest, Option.getD_some, hout, Bool.false_eq_true, if_false]
  refine ⟨trivial, ?_⟩
  split <;> simp

/-- No completion reports a change to active. -/
theorem completeRetune_reports (pr : Profile) (x : Channel) :
    ∀ o ∈ (completeRetune pr x).2, ∀ cause, o ≠ .report .active cause := by
  rintro o ho cause rfl
  cases hband : inBand pr (x.best.getD (x.tune, x.raw)).2 <;> cases hheld : x.held <;>
    simp [completeRetune, startPending_eq, hband, hheld] at ho

/-- A retune that completes leaves TUNING, unless a pending one starts. -/
theorem completeRetune_state {pr : Profile} {x : Channel} (hpending : x.pending = false) :
    (completeRetune pr x).1.state ≠ .tuning := by
  simp only [completeRetune, startPending_eq]
  split <;> simp [hpending]

theorem retuneDone_eq {c : ChannelId} (h : (p.channel c).state = .tuning ∧ 8 ≤ (p.channel c).step) :
    p.retuneDone c = (p.putChannel c (completeRetune (p.profileOf (kindOf c)) (p.channel c))).startUpTest := by
  simp [retuneDone, h]

theorem startUpTest_running (h : p.pln.stage = .running) : p.startUpTest = p := by simp [startUpTest, h]

theorem startUpTest_ends (hstage : p.pln.stage = .retuning) (hdone : ∀ c, (p.channel c).state ≠ .tuning) :
    p.startUpTest = (p.withPln { p.pln with stage := .running }).enterActive := by
  simp [startUpTest, hstage, hdone]

/-- PWU enters ACTIVE, with a notice when it was not there (R198). -/
theorem enterActive_power (p : Part) : p.enterActive.pwu.power = .active := by simp [enterActive, changePower]

theorem enterActive_flag (h : p.pwu.power ≠ .active) (q : Port) : (p.enterActive.notices q).1 &&& 256 ≠ 0 := by
  have hraised : ((p.changePower .active).notices q).1 &&& 256 ≠ 0 := by
    have hchange : p.changePower .active = (p.setPower .active).notice .power := by simp [changePower, noticeIf, h]
    rw [hchange, notice_notices]
    exact mark_raised _ (by decide)
  have hgrows : NoticesGrow (p.changePower .active).notices p.enterActive.notices :=
    repeatWalkIn_grows (closeWindup_grows (openPending_grows (.refl _)))
  exact hgrows.flag hraised

end Part

/-- Settles O13. -/
theorem retuneCompletes : Obligations.RetuneCompletes := by
  unfold Obligations.RetuneCompletes
  constructor
  · rintro c v r s hstage ⟨htuning, hstep, hpending⟩ hbest
    have hheld := Part.isHeld_running hstage
    refine completes_onEvent (f := fun p => p.retuneDone c) rfl ?_
    rw [Part.event_unheld hheld, Part.retuneDone_eq ⟨htuning, hstep⟩, Part.startUpTest_running (by simpa using hstage)]
    have hchannel := Part.putChannel_channel (p := s.part) (c := c)
      (Part.completeRetune_reports (s.part.profileOf (Part.kindOf c)) (s.part.channel c)) c
    rw [if_pos rfl] at hchannel
    simp only [Part.conclude_channel, hchannel]
    rcases Nat.lt_or_ge ((s.part.profileOf (Part.kindOf c)).target * (s.part.profileOf (Part.kindOf c)).band / 256)
      (distance r (s.part.profileOf (Part.kindOf c)).target) with hband | hband
    · obtain ⟨hnew, hfailed⟩ := Part.completeRetune_fault hbest hband
      have hraised (q : Port) := Part.putChannel_notice (p := s.part) (c := c) hfailed q
      rw [hnew]
      refine ⟨rfl, rfl, rfl, fun hin => absurd hin (by omega), fun _ => ⟨rfl, rfl, rfl, fun q => ⟨?_, ?_⟩⟩⟩
      · exact Part.conclude_flag (hraised q).1
      · exact (Part.conclude_grows (.refl _) _).cause (hraised q).2
    · rw [Part.completeRetune_good hbest hpending hband]
      exact ⟨rfl, rfl, rfl, fun _ => ⟨rfl, rfl, rfl, rfl⟩, fun hout => absurd hout (by omega)⟩
  · rintro c s hstage ⟨htuning, hstep, hpending⟩ hothers
    have hheld : s.part.isHeld = false := by simp [Part.isHeld, hstage]
    refine completes_onEvent (f := fun p => p.retuneDone c) rfl ?_
    rw [Part.event_unheld hheld, Part.retuneDone_eq ⟨htuning, hstep⟩]
    have hdone (d : ChannelId) : ((s.part.putChannel c (completeRetune (s.part.profileOf (Part.kindOf c))
        (s.part.channel c))).channel d).state ≠ .tuning := by
      rw [Part.putChannel_channel (Part.completeRetune_reports _ _)]
      split
      · exact Part.completeRetune_state hpending
      next hd => exact hothers d hd
    rw [Part.startUpTest_ends (by simpa using hstage) hdone]
    refine ⟨by simp, by simpa using Part.enterActive_power _, fun hpower q => ?_⟩
    refine Part.conclude_flag (Part.enterActive_flag ?_ q)
    have hkept := Part.sendOut_power (p := s.part.setChannel c (completeRetune (s.part.profileOf (Part.kindOf c))
      (s.part.channel c)).1) (Part.completeRetune_reports (s.part.profileOf (Part.kindOf c)) (s.part.channel c)) c
    simpa [Part.putChannel, hkept] using hpower

end Sys2Proof.Machine
end

section
/-! The plan image by sections, and PLAN SAVE (R3, R13, R14). -/

namespace Sys2Proof.Machine

/-! ### Reading sections of a list of bytes -/

theorem byteAt_lt (l : List Byte) (i : Nat) : byteAt l i < 256 := (l.getD i 0).isLt

@[simp] theorem byteAt_cons_zero (x : Byte) (l : List Byte) : byteAt (x :: l) 0 = x.toNat := rfl

@[simp] theorem byteAt_cons_succ (x : Byte) (l : List Byte) (i : Nat) : byteAt (x :: l) (i + 1) = byteAt l i := rfl

@[simp] theorem toNat_byteOf_byteAt (l : List Byte) (i : Nat) : (byteOf (byteAt l i)).toNat = byteAt l i := by
  rw [byteOf_toNat, Nat.mod_eq_of_lt (byteAt_lt l i)]

@[simp] theorem toNat_byteOf_mod (l : List Byte) (i m : Nat) : (byteOf (byteAt l i % m)).toNat = byteAt l i % m := by
  rw [byteOf_toNat, Nat.mod_eq_of_lt ((Nat.mod_le _ _).trans_lt (byteAt_lt l i))]

/-- A byte of a section is the byte at its place in the whole. -/
theorem byteAt_drop_take {l : List Byte} {o n j : Nat} (h : j < n) :
    byteAt ((l.drop o).take n) j = byteAt l (o + j) := by
  simp [byteAt, List.getD, List.getElem?_drop, h]

theorem halfAt_drop_take {l : List Byte} {o n j : Nat} (h : j + 1 < n) :
    halfAt ((l.drop o).take n) j = halfAt l (o + j) := by
  rw [halfAt, halfAt, byteAt_drop_take (by omega), byteAt_drop_take h, Nat.add_assoc]

theorem byteAt_append_right {a b : List Byte} {o j : Nat} (ha : a.length = o) : byteAt (a ++ b) (o + j) = byteAt b j := by
  subst ha
  simp [byteAt, List.getD, List.getElem?_append_right]

theorem byteAt_append_left {a b : List Byte} {j : Nat} (h : j < a.length) : byteAt (a ++ b) j = byteAt a j := by
  simp [byteAt, List.getD, List.getElem?_append_left h]

/-- The bytes of records of one width, one record after the other. -/
theorem byteAt_flatMap {α : Type} {f : α → List Byte} {w : Nat} (hw : ∀ x, (f x).length = w) {l : List α} {i j : Nat}
    (hi : i < l.length) (hj : j < w) : byteAt (l.flatMap f) (w * i + j) = byteAt (f l[i]) j := by
  induction l generalizing i with
  | nil => exact absurd hi (Nat.not_lt_zero i)
  | cons x xs ih =>
    rw [List.flatMap_cons]
    cases i with
    | zero => simpa using byteAt_append_left (by rw [hw]; exact hj)
    | succ i =>
      rw [show w * (i + 1) + j = w + (w * i + j) by ring, byteAt_append_right (hw x)]
      simpa using ih (by simpa using hi)

theorem length_flatMap_of {α : Type} {f : α → List Byte} {w : Nat} (hw : ∀ x, (f x).length = w) (l : List α) :
    (l.flatMap f).length = w * l.length := by
  induction l with
  | nil => rfl
  | cons x xs ih => rw [List.flatMap_cons, List.length_append, ih, hw, List.length_cons, Nat.mul_succ, Nat.add_comm]

/-- A section that stands in its place in a list of sections. -/
theorem section_flatten {L : List (List Byte)} {lengths : List Nat} (hlen : L.map List.length = lengths) {i : Nat}
    (hi : i < L.length) (b : List Byte) :
    ((L.flatten ++ b).drop (lengths.take i).sum).take (L[i]).length = L[i] := by
  subst hlen
  have hbefore : ((L.map List.length).take i).sum ≤ L.flatten.length := by
    rw [List.length_flatten]
    exact List.Sublist.sum_le_sum (List.take_sublist _ _) (by simp)
  rw [List.drop_append_of_le_length hbefore, List.drop_sum_flatten, List.drop_eq_getElem_cons hi, List.flatten_cons,
    List.append_assoc]
  exact List.take_left' rfl

namespace Part

variable {p : Part}

/-! ### The sections of the image that PLAN SAVE writes -/

/-- The sections of the image composed, in the order of R3. -/
def imageSections (p : Part) : List (List Byte) :=
  let c := p.pln.image
  [c.take 2, b1 1, (c.drop 3).take 18, (List.finRange 20).flatMap (seatImage c), (c.drop 61).take 5, b1 (byteAt c 66 % 2),
    profileImage p.sfe.key ++ profileImage p.sfe.proximity ++ profileImage p.sfe.reference,
    patternImage 1 p.sgu.patterns p.sgu.polarity, (List.finRange 16).flatMap (entryCopy c), sourcesImage p.scu,
    gainBytes p.sgu.gain, (c.drop 256).take 19, b1 (byteAt c 275 % 2), List.replicate 234 0]

theorem composeImage_eq (p : Part) : p.composeImage = withSum p.imageSections.flatten := by
  simp [composeImage, imageSections, -List.reduceReplicate]

theorem length_profileImage (x : Profile) : (profileImage x).length = 13 := rfl

theorem length_patternImage (n : Nat) (v : Vector PatternEntry 12) (x : Polarities) : (patternImage n v x).length = 14 := by
  simp [patternImage, length_flatMap_of (w := 1) (f := entryImage) fun _ => rfl, b1]

theorem length_sourcesImage (s : Scu) : (sourcesImage s).length = 82 := by
  simp [sourcesImage, length_flatMap_of (w := 9) (f := rateBytes) fun _ => rfl,
    length_flatMap_of (w := 1) (f := captureImage) fun _ => rfl, b1]

/-- The lengths of the sections (R3). -/
def sectionLengths : List Nat := [2, 1, 18, 40, 5, 1, 39, 14, 48, 82, 6, 19, 1, 234]

theorem map_length_imageSections (h : p.pln.image.length = 512) : p.imageSections.map List.length = sectionLengths := by
  simp [imageSections, sectionLengths, h, length_flatMap_of (w := 2) (f := seatImage p.pln.image) fun _ => rfl,
    length_flatMap_of (w := 3) (f := entryCopy p.pln.image) fun _ => rfl, length_profileImage, length_patternImage,
    length_sourcesImage, b1, gainBytes, b2, bool, -List.reduceReplicate]

theorem length_body (h : p.pln.image.length = 512) : p.imageSections.flatten.length = 510 := by
  rw [List.length_flatten, map_length_imageSections h]
  rfl

theorem length_composeImage (h : p.pln.image.length = 512) : p.composeImage.length = 512 := by
  rw [composeImage_eq, withSum, List.length_append, length_body h]
  rfl

/-- A section of the image composed, at its offset and with its length. -/
theorem composed_section (h : p.pln.image.length = 512) {i o n : Nat} {b : List Byte} (hb : p.imageSections[i]? = some b)
    (ho : (sectionLengths.take i).sum = o) (hn : b.length = n) : (p.composeImage.drop o).take n = b := by
  obtain ⟨hi, rfl⟩ := List.getElem?_eq_some_iff.mp hb
  subst ho hn
  rw [composeImage_eq, withSum]
  exact section_flatten (map_length_imageSections h) hi _

theorem composeImage_sum (h : p.pln.image.length = 512) :
    p.composeImage.take 510 = p.imageSections.flatten ∧ halfAt p.composeImage 510 = planSum (p.composeImage.take 510) := by
  have htake : p.composeImage.take 510 = p.imageSections.flatten := by
    rw [composeImage_eq, withSum]
    exact List.take_left' (length_body h)
  have hlt : planSum p.imageSections.flatten < 65536 := Nat.mod_lt _ (by decide)
  refine ⟨htake, ?_⟩
  have hhigh := byteAt_append_right (b := b2 (planSum p.imageSections.flatten)) (j := 0) (length_body h)
  have hlow := byteAt_append_right (b := b2 (planSum p.imageSections.flatten)) (j := 1) (length_body h)
  rw [htake, composeImage_eq, withSum, halfAt, hhigh, hlow]
  simp only [byteAt, b2, List.getD_cons_zero, List.getD_cons_succ, byteOf_toNat]
  omega

/-! #### The sections, one by one -/

section

variable (h : p.pln.image.length = 512)
include h

theorem composed_mark : p.composeImage.take 2 = p.pln.image.take 2 :=
  composed_section h (i := 0) (o := 0) rfl rfl (by simp [h])

theorem composed_version : byteAt p.composeImage 2 = 1 := by
  have hsection := composed_section h (i := 1) (o := 2) (n := 1) rfl rfl rfl
  have hbyte := byteAt_drop_take (l := p.composeImage) (o := 2) (n := 1) (j := 0) (by decide)
  exact hbyte.symm.trans (congrArg (byteAt · 0) hsection)

theorem composed_name : (p.composeImage.drop 3).take 18 = (p.pln.image.drop 3).take 18 :=
  composed_section h (i := 2) rfl rfl (by simp [h])

theorem composed_seat (i : SeatId) :
    byteAt p.composeImage (21 + 2 * i.val) = byteAt p.pln.image (21 + 2 * i.val) % 16 ∧
      byteAt p.composeImage (22 + 2 * i.val) = byteAt p.pln.image (22 + 2 * i.val) := by
  have hsection := composed_section h (i := 3) (o := 21) (n := 40) rfl rfl
    (length_flatMap_of (w := 2) (f := seatImage p.pln.image) (fun _ => rfl) _)
  have hbyte (j : Nat) (hj : j < 2) :
      byteAt p.composeImage (21 + (2 * i.val + j)) = byteAt (seatImage p.pln.image i) j := by
    rw [← byteAt_drop_take (n := 40) (by omega), hsection, byteAt_flatMap (w := 2) (fun _ => rfl) (by simp) hj]
    simp
  refine ⟨(hbyte 0 (by decide)).trans (by simp [seatImage, b1]), ?_⟩
  have hplace : 22 + 2 * i.val = 21 + (2 * i.val + 1) := by omega
  rw [hplace, hbyte 1 (by decide), ← hplace]
  simp [seatImage, b1]

theorem composed_enables : (p.composeImage.drop 61).take 5 = (p.pln.image.drop 61).take 5 :=
  composed_section h (i := 4) rfl rfl (by simp [h])

theorem composed_lastEnable : byteAt p.composeImage 66 = byteAt p.pln.image 66 % 2 := by
  have hsection := composed_section h (i := 5) (o := 66) (n := 1) rfl rfl rfl
  have hbyte := byteAt_drop_take (l := p.composeImage) (o := 66) (n := 1) (j := 0) (by decide)
  rw [hsection] at hbyte
  exact hbyte.symm.trans (by simp [b1])

theorem composed_profiles : (p.composeImage.drop 67).take 39 =
    profileImage p.sfe.key ++ profileImage p.sfe.proximity ++ profileImage p.sfe.reference :=
  composed_section h (i := 6) rfl rfl rfl

theorem composed_patterns : (p.composeImage.drop 106).take 14 = patternImage 1 p.sgu.patterns p.sgu.polarity :=
  composed_section h (i := 7) rfl rfl (length_patternImage _ _ _)

theorem composed_screen (i : Fin 16) :
    byteAt p.composeImage (120 + 3 * i.val) = byteAt p.pln.image (120 + 3 * i.val) % 64 ∧
      byteAt p.composeImage (121 + 3 * i.val) = byteAt p.pln.image (121 + 3 * i.val) ∧
      byteAt p.composeImage (122 + 3 * i.val) = byteAt p.pln.image (122 + 3 * i.val) := by
  have hsection := composed_section h (i := 8) (o := 120) (n := 48) rfl rfl
    (length_flatMap_of (w := 3) (f := entryCopy p.pln.image) (fun _ => rfl) _)
  have hbyte (j : Nat) (hj : j < 3) :
      byteAt p.composeImage (120 + (3 * i.val + j)) = byteAt (entryCopy p.pln.image i) j := by
    rw [← byteAt_drop_take (n := 48) (by omega), hsection, byteAt_flatMap (w := 3) (fun _ => rfl) (by simp) hj]
    simp
  refine ⟨(hbyte 0 (by decide)).trans (by simp [entryCopy, b1]), ?_, ?_⟩
  · have hplace : 121 + 3 * i.val = 120 + (3 * i.val + 1) := by omega
    rw [hplace, hbyte 1 (by decide), ← hplace]
    simp [entryCopy, b1]
  · have hplace : 122 + 3 * i.val = 120 + (3 * i.val + 2) := by omega
    rw [hplace, hbyte 2 (by decide), ← hplace]
    simp [entryCopy, b1]

theorem composed_sources : (p.composeImage.drop 168).take 82 = sourcesImage p.scu :=
  composed_section h (i := 9) rfl rfl (length_sourcesImage _)

theorem composed_gain : (p.composeImage.drop 250).take 6 = gainBytes p.sgu.gain :=
  composed_section h (i := 10) rfl rfl rfl

theorem composed_timings : (p.composeImage.drop 256).take 19 = (p.pln.image.drop 256).take 19 :=
  composed_section h (i := 11) rfl rfl (by simp [h])

theorem composed_wake : byteAt p.composeImage 275 = byteAt p.pln.image 275 % 2 := by
  have hsection := composed_section h (i := 12) (o := 275) (n := 1) rfl rfl rfl
  have hbyte := byteAt_drop_take (l := p.composeImage) (o := 275) (n := 1) (j := 0) (by decide)
  rw [hsection] at hbyte
  exact hbyte.symm.trans (by simp [b1])

theorem composed_rest : (p.composeImage.drop 276).take 234 = List.replicate 234 0 :=
  composed_section h (i := 13) rfl rfl List.length_replicate

end

/-! ### PLAN SAVE and its ends -/

theorem planSave_busy (h : p.pln.saving = true) : p.planSave = (p, .busy) := by simp [planSave, isSaving, h]

theorem planSave_done (h : p.pln.saving = false) :
    p.planSave = (p.withPln { p.pln with saving := true, composed := p.composeImage }, .done) := by
  simp [planSave, isSaving, h]

theorem sameBut_planSave (p : Part) : SameBut [.plan] p p.planSave.1 := by
  intro b hb
  cases b <;> simp_all [Piece.Same]

theorem sameBut_saveMatch (p : Part) : SameBut [.plan, .notices] p p.saveMatch := by
  intro b hb
  cases b <;> simp_all [Piece.Same]

theorem sameBut_saveFailure (p : Part) : SameBut [.plan, .notices] p p.saveFailure := by
  intro b hb
  cases b <;> simp_all [Piece.Same]

end Part

variable {s : State}

/-- The end of a save is an event of PLN alone: PLN and the notices stand as the owner leaves them. -/
theorem completes_saveEnd {c : Instr} {f : Part → Part} {post : Part → Prop} (hheld : s.part.isHeld = false)
    (hset : Settled s.part) (hexec : exec c s = s.onEvent f) (hssu : (f s.part).ssu = s.part.ssu)
    (hocc : (f s.part).smn.occupied = s.part.smn.occupied) (hrtu : (f s.part).rtu = s.part.rtu)
    (hpost : ∀ t : Part, SameBut [] (f s.part) t → post t) : Completes c s post := by
  refine completes_onEvent hexec ?_
  rw [Part.event_unheld hheld]
  exact hpost _ (Part.sameBut_conclude_settled hset hssu hocc hrtu)

theorem completes_saveReadBackMatch (hheld : s.part.isHeld = false) (hset : Settled s.part)
    (hsaving : s.part.pln.saving = true) : Completes .saveReadBackMatch s fun t =>
      t.pln = { s.part.pln with saving := false, result := .saved, image := s.part.pln.composed, composed := [] } ∧
      (∀ q, t.notices q = ((s.part.port q).flags ||| 4, (s.part.port q).causes ||| 32)) ∧
      SameBut [.plan, .notices] s.part t := by
  have hmatch : s.part.saveMatch = (s.part.withPln { s.part.pln with
      saving := false, result := .saved, image := s.part.pln.composed, composed := [] }).noticeCause .sense .saved := by
    simp [Part.saveMatch, Part.isSaving, hsaving]
  refine completes_saveEnd hheld hset rfl (by simp) (by simp) (by simp) fun t hend => ⟨?_, fun q => ?_, ?_⟩
  · have hpln : t.pln = s.part.saveMatch.pln := hend .plan (by decide)
    rw [hpln, hmatch]
    simp
  · exact (congrFun (hend .notices (by decide)) q).trans (by rw [hmatch, Part.noticeCause_notices]; rfl)
  · exact (Part.sameBut_saveMatch s.part).trans (hend.mono (List.nil_subset _))

theorem completes_saveWriteFailure (hheld : s.part.isHeld = false) (hset : Settled s.part)
    (hsaving : s.part.pln.saving = true) : Completes .saveWriteFailure s fun t =>
      t.pln = { s.part.pln with saving := false, result := .writeFailed, composed := [] } ∧
      (∀ q, t.notices q = ((s.part.port q).flags ||| 4, (s.part.port q).causes ||| 64)) ∧
      SameBut [.plan, .notices] s.part t := by
  have hfailure : s.part.saveFailure = (s.part.withPln { s.part.pln with
      saving := false, result := .writeFailed, composed := [] }).noticeCause .sense .writeFailed := by
    simp [Part.saveFailure, Part.isSaving, hsaving]
  refine completes_saveEnd hheld hset rfl (by simp) (by simp) (by simp) fun t hend => ⟨?_, fun q => ?_, ?_⟩
  · have hpln : t.pln = s.part.saveFailure.pln := hend .plan (by decide)
    rw [hpln, hfailure]
    simp
  · exact (congrFun (hend .notices (by decide)) q).trans (by rw [hfailure, Part.noticeCause_notices]; rfl)
  · exact (Part.sameBut_saveFailure s.part).trans (hend.mono (List.nil_subset _))

/-- PLAN SAVE is answered as the owner says, and leaves what the owner leaves. -/
theorem completes_planSave {tag : Byte} (hport : Listening s.part .room) (hset : Settled s.part) :
    Completes (.planSave .room tag) s fun t =>
      Answered t .room tag (s.part.taken .room ⟨0x4D, tag, 0, []⟩).planSave.2 [[]] ∧
        SameBut [.requests .room] (s.part.taken .room ⟨0x4D, tag, 0, []⟩).planSave.1 t ∧
        SameBut [.requests .room, .plan] s.part t :=
  (completes_owner (y := ((s.part.taken .room ⟨0x4D, tag, 0, []⟩).planSave.1,
      (s.part.taken .room ⟨0x4D, tag, 0, []⟩).planSave.2, [])) rfl hport hset
    (by decide : Permitted .room (0x4D : Byte).toNat) (by decide) rfl (Part.sameBut_planSave _) (by simp) (by simp) (by simp)
    (by simp)).mono fun _ ⟨hans, hown, hbut, _⟩ => ⟨hans, hown, hbut⟩

/-- Settles O8: the owner's answer at the two values of *saving*, the image composed read section by section, and each
end of a save with what it makes of PLN and the notices. -/
theorem planSaveComposesAndEnds : Obligations.PlanSaveComposesAndEnds := by
  unfold Obligations.PlanSaveComposesAndEnds
  refine ⟨fun tag s hport hset hlen => ⟨fun hsaving => ?_, fun hsaving => ?_⟩, fun s hheld hset =>
    ⟨fun hsaving => ⟨completes_saveReadBackMatch hheld hset hsaving, completes_saveWriteFailure hheld hset hsaving⟩,
      fun hsaving => ⟨?_, ?_⟩⟩⟩
  · refine (completes_planSave hport hset).mono ?_
    rw [Part.planSave_busy (p := s.part.taken .room _) hsaving]
    rintro t ⟨hans, hown, -⟩
    exact ⟨hans, (Part.sameBut_taken s.part .room _).trans hown⟩
  · refine (completes_planSave hport hset).mono ?_
    rw [Part.planSave_done (p := s.part.taken .room _) hsaving]
    rintro t ⟨hans, hown, hbut⟩
    have hpln : t.pln = { s.part.pln with saving := true, composed := s.part.composeImage } := hown .plan (by decide)
    have hcomposed : t.pln.composed = s.part.composeImage := by rw [hpln]
    rw [hcomposed]
    exact ⟨hans, hpln, Part.length_composeImage hlen, Part.composed_mark hlen, Part.composed_version hlen,
      Part.composed_name hlen, Part.composed_seat hlen, Part.composed_enables hlen, Part.composed_lastEnable hlen,
      Part.composed_profiles hlen, Part.composed_patterns hlen, Part.composed_screen hlen, Part.composed_sources hlen,
      Part.composed_gain hlen, Part.composed_timings hlen, Part.composed_wake hlen, Part.composed_rest hlen,
      (Part.composeImage_sum hlen).2, hbut⟩
  · have hmatch : s.part.saveMatch = s.part := by simp [Part.saveMatch, Part.isSaving, hsaving]
    exact completes_saveEnd hheld hset rfl (by simp) (by simp) (by simp) fun t hend => by rwa [hmatch] at hend
  · have hfailure : s.part.saveFailure = s.part := by simp [Part.saveFailure, Part.isSaving, hsaving]
    exact completes_saveEnd hheld hset rfl (by simp) (by simp) (by simp) fun t hend => by rwa [hfailure] at hend

end Sys2Proof.Machine
end

section
/-! What PLAN SAVE writes is read back by a load (R3, R8, R13). -/

namespace Sys2Proof.Machine

/-! ### Values in range are not moved (R8) -/

theorem fixNumber_of_mem {lo hi n : Nat} (hlo : lo ≤ n) (hhi : n ≤ hi) : fixNumber lo hi n = (n, false) := by
  have hclamp : clamp lo hi n = n := by rw [clamp, if_neg (by omega), if_neg (by omega)]
  simp [fixNumber, hclamp]

theorem fixNominal_of_mem {n : Nat} (h : n = 0 ∨ 1000 ≤ n) (hhi : n ≤ 65000) : fixNominal n = (n, false) := by
  unfold fixNominal
  split
  · rename_i hzero
    rw [hzero]
  · exact fixNumber_of_mem (by omega) hhi

theorem fixTable_fst {n : Nat} {α : Type} {f : Fin n → Fixed α} {v : Vector α n} (h : ∀ i, (f i).1 = v.get i) :
    (fixTable f).1 = v := by
  ext i hi
  simp only [fixTable, Vector.getElem_ofFn]
  exact h ⟨i, hi⟩

theorem directionOf_code (x : Direction) : directionOf x.code = some x := by cases x <;> rfl

theorem signOf_code (x : Sign) : signOf x.code = some x := by cases x <;> rfl

theorem patternOf_code (x : Pattern) : patternOf x.code = some x := by cases x <;> rfl

theorem edgeOf_code (x : Edge) : edgeOf (edgeCode x) = some x := by cases x <;> rfl

theorem Direction.code_le (x : Direction) : x.code ≤ 1 := by cases x <;> decide

theorem Sign.code_le (x : Sign) : x.code ≤ 1 := by cases x <;> decide

theorem Pattern.code_le (x : Pattern) : x.code ≤ 3 := by cases x <;> decide

theorem Polarity.code_le (x : Polarity) : x.code ≤ 1 := by cases x <;> decide

theorem edgeCode_le (x : Edge) : edgeCode x ≤ 1 := by cases x <;> decide

/-! ### Records that are read back -/

/-- A profile in range is read back from its image. -/
theorem storedProfile_image {l : List Byte} {o : Nat} {x : Profile} (default : Profile) (hx : ProfileInRange x)
    (hread : ∀ j, j < 13 → byteAt l (o + j) = byteAt (profileImage x) j) : (storedProfile l o default).1 = x := by
  obtain ⟨⟨hbc, hbl, hsb, ht, ht', hh⟩, ⟨hde, hdx, hhalt, hk⟩, htarget, htarget', hband, hband'⟩ := hx
  have hdir := x.direction.code_le
  have hsign := x.sign.code_le
  have h0 : byteAt l o = x.direction.code + 16 * x.sign.code := by
    rw [← Nat.add_zero o, hread 0 (by decide)]
    simp only [profileImage, b1, List.cons_append, byteAt_cons_zero, byteOf_toNat]
    omega
  have h10 : halfAt l (o + 10) = x.target := by
    rw [halfAt, Nat.add_assoc, hread 10 (by decide), hread 11 (by decide)]
    simp only [profileImage, b1, b2, List.cons_append, List.nil_append, byteAt_cons_succ, byteAt_cons_zero, byteOf_toNat]
    omega
  have hbyte {j n : Nat} (hj : j < 13) (hn : n < 256) (hat : byteAt (profileImage x) j = n % 256) :
      byteAt l (o + j) = n := by rw [hread j hj, hat, Nat.mod_eq_of_lt hn]
  have h1 : byteAt l (o + 1) = x.countBeta := hbyte (by decide) (by omega) rfl
  have h2 : byteAt l (o + 2) = x.activeBeta := hbyte (by decide) (by omega) rfl
  have h3 : byteAt l (o + 3) = x.standbyBeta := hbyte (by decide) (by omega) rfl
  have h4 : byteAt l (o + 4) = x.threshold := hbyte (by decide) (by omega) rfl
  have h5 : byteAt l (o + 5) = x.hysteresis := hbyte (by decide) (by omega) rfl
  have h6 : byteAt l (o + 6) = x.enter := hbyte (by decide) (by omega) rfl
  have h7 : byteAt l (o + 7) = x.exit := hbyte (by decide) (by omega) rfl
  have h8 : byteAt l (o + 8) = x.haltLimit := hbyte (by decide) (by omega) rfl
  have h9 : byteAt l (o + 9) = x.tracking := hbyte (by decide) (by omega) rfl
  have h12 : byteAt l (o + 12) = x.band := hbyte (by decide) (by omega) rfl
  have hlow : byteAt l o % 16 = x.direction.code := by omega
  have hhigh : byteAt l o / 16 = x.sign.code := by omega
  simp only [storedProfile, hlow, hhigh, h1, h2, h3, h4, h5, h6, h7, h8, h9, h10, h12, directionOf_code, signOf_code,
    fixNamed, fixNumber_of_mem (Nat.zero_le _) hbc, fixNumber_of_mem (Nat.zero_le _) hbl,
    fixNumber_of_mem (Nat.zero_le _) hsb, fixNumber_of_mem ht ht', fixNumber_of_mem (Nat.zero_le _) hde,
    fixNumber_of_mem (Nat.zero_le _) hdx, fixNumber_of_mem (Nat.zero_le _) hk, fixNumber_of_mem htarget htarget',
    fixNumber_of_mem hband hband']

theorem polarityBit_eq {n : Nat} {x : Polarity} (h : n % 2 = x.code) : polarityBit (n.testBit 0) = x := by
  rw [Nat.testBit_zero, h]
  cases x <;> rfl

theorem patternBits_eq {n : Nat} {x : Pattern} (h : n % 4 = x.code) : patternBits n = x := by
  simp [patternBits, h, patternOf_code]

/-- A pattern entry is read back from its image. -/
theorem storedEntry_image {l : List Byte} {i : Fin 12} {x : PatternEntry}
    (hread : byteAt l (107 + i.val) = byteAt (entryImage x) 0) : storedEntry l i = x := by
  have hred := x.red.code_le
  have hgreen := x.green.code_le
  have hlight := x.light.code_le
  have hcode : byteAt l (107 + i.val) = x.red.code + 4 * x.green.code + 16 * x.light.code := by
    rw [hread]
    simp only [entryImage, b1, byteAt_cons_zero, byteOf_toNat]
    omega
  simp only [storedEntry, hcode]
  rw [patternBits_eq (x := x.red) (by omega), patternBits_eq (x := x.green) (by omega),
    patternBits_eq (x := x.light) (by omega)]

/-- A rate table entry in range is read back from its image. -/
theorem storedRate_image {l : List Byte} {i : Fin 8} {x : Rate} (hx : RateInRange x)
    (hread : ∀ j, j < 9 → byteAt l (168 + 9 * i.val + j) = byteAt (rateBytes x) j) : (storedRate l i).1 = x := by
  obtain ⟨hnominal, hnominal', htolerance, hcls, hcls', hwidth, hmax⟩ := hx
  have hhalf {j n : Nat} (hj : j + 1 < 9) (hn : n < 65536) (hhi : byteAt (rateBytes x) j = n / 256 % 256)
      (hlo : byteAt (rateBytes x) (j + 1) = n % 256) : halfAt l (168 + 9 * i.val + j) = n := by
    rw [halfAt, Nat.add_assoc (168 + 9 * i.val), hread j (by omega), hread (j + 1) hj, hhi, hlo]
    omega
  have h0 : halfAt l (168 + 9 * i.val) = x.nominal := hhalf (j := 0) (by decide) (by omega) rfl rfl
  have h2 : halfAt l (168 + 9 * i.val + 2) = x.tolerance := hhalf (by decide) (by omega) rfl rfl
  have h5 : halfAt l (168 + 9 * i.val + 5) = x.minWidth := hhalf (by decide) (by omega) rfl rfl
  have h7 : halfAt l (168 + 9 * i.val + 7) = x.maxWidth := hhalf (by decide) (by omega) rfl rfl
  have h4 : byteAt l (168 + 9 * i.val + 4) = x.cls := by
    rw [hread 4 (by decide)]
    exact Nat.mod_eq_of_lt (by omega)
  simp only [storedRate, h0, h2, h4, h5, h7, fixNominal_of_mem hnominal hnominal',
    fixNumber_of_mem (Nat.zero_le _) htolerance, fixNumber_of_mem hcls hcls', fixNumber_of_mem (Nat.zero_le _) hwidth]

theorem storedFilter_filterCode {n : Nat} (h : n = 0 ∨ n = 2 ∨ n = 4 ∨ n = 8) : storedFilter (filterCode n) = some n := by
  obtain rfl | rfl | rfl | rfl := h <;> rfl

/-- The capture settings of a socket are read back from its image. -/
theorem storedCapture_image {l : List Byte} {k : SocketId} {x : Socket}
    (hx : x.filter = 0 ∨ x.filter = 2 ∨ x.filter = 4 ∨ x.filter = 8)
    (hread : byteAt l (242 + k.val) = byteAt (captureImage x) 0) :
    (storedCapture l k).1 = (x.enable, x.edge, x.filter) := by
  have hedge := edgeCode_le x.edge
  have hfilter : filterCode x.filter ≤ 3 := by
    obtain h | h | h | h := hx <;> rw [h] <;> decide
  have henable : yesNo x.enable ≤ 1 := by cases x.enable <;> decide
  have hcode : byteAt l (242 + k.val) = yesNo x.enable + 2 * edgeCode x.edge + 8 * filterCode x.filter := by
    rw [hread]
    simp only [captureImage, b1, byteAt_cons_zero, byteOf_toNat]
    omega
  have hbit : (byteAt l (242 + k.val)).testBit 0 = x.enable := by
    rw [Nat.testBit_zero, hcode]
    cases x.enable <;> simp [yesNo] <;> omega
  have hmid : byteAt l (242 + k.val) / 2 % 4 = edgeCode x.edge := by omega
  have htop : byteAt l (242 + k.val) / 8 % 8 = filterCode x.filter := by omega
  simp only [storedCapture, hbit, hmid, htop, edgeOf_code, storedFilter_filterCode hx, fixNamed]

/-- The gain settings in range are read back from their bytes. -/
theorem storedGain_image {l : List Byte} {x : GainSettings} (hx : GainInRange x)
    (hread : ∀ j, j < 6 → byteAt l (250 + j) = byteAt (gainBytes x) j) : (storedGain l).1 = x := by
  obtain ⟨hceiling, hceiling', hrise, hrise', hfall, hfall', hduck⟩ := hx
  have h0 : halfAt l 250 = x.ceiling := by
    have hhi : byteAt l 250 = x.ceiling / 256 % 256 := hread 0 (by decide)
    have hlo : byteAt l 251 = x.ceiling % 256 := hread 1 (by decide)
    rw [halfAt, hhi, hlo]
    omega
  have hbyte {j n : Nat} (hj : j < 6) (hn : n < 256) (hat : byteAt (gainBytes x) j = n % 256) :
      byteAt l (250 + j) = n := by rw [hread j hj, hat, Nat.mod_eq_of_lt hn]
  have h2 : byteAt l 252 = x.rise := hbyte (j := 2) (by decide) (by omega) rfl
  have h3 : byteAt l 253 = x.fall := hbyte (j := 3) (by decide) (by omega) rfl
  have h4 : byteAt l 254 = x.duck := hbyte (j := 4) (by decide) (by omega) rfl
  have h5 : byteAt l 255 = yesNo x.ducking := hbyte (j := 5) (by decide) (by cases x.ducking <;> decide) rfl
  have hmark : yesNoOf (yesNo x.ducking) = some x.ducking := by cases x.ducking <;> rfl
  simp only [storedGain, h0, h2, h3, h4, h5, hmark, fixNamed, fixNumber_of_mem hceiling hceiling',
    fixNumber_of_mem hrise hrise', fixNumber_of_mem hfall hfall']

/-! ### Records copied from the stored image -/

theorem testBit_mod {n m i w : Nat} (h : m = n % 2 ^ w) (hi : i < w) : m.testBit i = n.testBit i := by
  rw [h, Nat.testBit_mod_two_pow]
  simp [hi]

theorem storedSeat_congr {a b : List Byte} {i : SeatId} (count : Nat)
    (hmarks : byteAt a (21 + 2 * i.val) = byteAt b (21 + 2 * i.val) % 16)
    (hsocket : byteAt a (22 + 2 * i.val) = byteAt b (22 + 2 * i.val)) : storedSeat count a i = storedSeat count b i := by
  have hbit (n : Nat) (hn : n < 4) : bitAt a (21 + 2 * i.val) n = bitAt b (21 + 2 * i.val) n :=
    testBit_mod (w := 4) hmarks hn
  have hnext : 21 + 2 * i.val + 1 = 22 + 2 * i.val := by omega
  simp only [storedSeat, hbit 0 (by decide), hbit 1 (by decide), hbit 2 (by decide), hbit 3 (by decide), hnext, hsocket]

theorem storedEnable_congr {a b : List Byte} {c : ChannelId} (count : Nat)
    (hmark : bitAt a (61 + c.val / 8) (c.val % 8) = bitAt b (61 + c.val / 8) (c.val % 8)) :
    storedEnable count a c = storedEnable count b c := by
  simp only [storedEnable, hmark]

theorem storedScreen_congr {a b : List Byte} {o : Nat} (default : ScreenSettings)
    (hmarks : byteAt a o = byteAt b o % 64) (hfixed : byteAt a (o + 1) = byteAt b (o + 1))
    (hfallback : byteAt a (o + 2) = byteAt b (o + 2)) : storedScreen a o default = storedScreen b o default := by
  have hmode : byteAt a o % 8 = byteAt b o % 8 := by omega
  have hfollowed : byteAt a o / 8 % 4 = byteAt b o / 8 % 4 := by omega
  have hprivacy : bitAt a o 5 = bitAt b o 5 := testBit_mod (w := 6) hmarks (by decide)
  simp only [storedScreen, hmode, hfollowed, hprivacy, hfixed, hfallback]

theorem storedParams_congr {a b : List Byte} (installed : Nat)
    (h : ∀ j, j < 19 → byteAt a (256 + j) = byteAt b (256 + j)) : storedParams a installed = storedParams b installed := by
  simp only [storedParams, halfAt, h 3 (by decide), h 4 (by decide), h 5 (by decide), h 6 (by decide), h 7 (by decide),
    h 8 (by decide), h 9 (by decide), h 10 (by decide)]

theorem storedFloor_congr {a b : List Byte} (h : ∀ j, j < 19 → byteAt a (256 + j) = byteAt b (256 + j)) :
    storedFloor a = storedFloor b := by
  simp only [storedFloor, halfAt, h 13 (by decide), h 14 (by decide), h 15 (by decide), h 16 (by decide), h 17 (by decide)]

namespace Part

variable {p : Part}

/-- A byte of a section that stands in its place. -/
theorem byteAt_of_section {l b : List Byte} {o n j : Nat} (h : (l.drop o).take n = b) (hj : j < n) :
    byteAt l (o + j) = byteAt b j := by
  rw [← h, byteAt_drop_take hj]

/-- A byte of a section that is the same in both images. -/
theorem byteAt_of_sections {a b : List Byte} {o n j : Nat} (h : (a.drop o).take n = (b.drop o).take n) (hj : j < n) :
    byteAt a (o + j) = byteAt b (o + j) := by
  rw [byteAt_of_section h hj, byteAt_drop_take hj]

theorem length_rates (p : Part) : (p.scu.rates.toList.flatMap rateBytes).length = 72 := by
  rw [length_flatMap_of (w := 9) fun _ => rfl, Vector.length_toList]

section

variable (h : p.pln.image.length = 512)
include h

theorem composed_copied {j : Nat} (hj : j < 19) : byteAt p.composeImage (256 + j) = byteAt p.pln.image (256 + j) :=
  byteAt_of_sections (composed_timings h) hj

/-- The image composed is good when the copy has the format mark (R4). -/
theorem goodImage_composeImage (hmark : halfAt p.pln.image 0 = 0xA51C) : goodImage p.composeImage = true := by
  have hbyte (j : Nat) (hj : j < 2) : byteAt p.composeImage j = byteAt p.pln.image j := by
    have hsection : (p.composeImage.drop 0).take 2 = (p.pln.image.drop 0).take 2 := composed_mark h
    simpa using byteAt_of_sections hsection hj
  have hformat : halfAt p.composeImage 0 = 0xA51C := by
    rw [← hmark, halfAt, halfAt, hbyte 0 (by decide), hbyte 1 (by decide)]
  simp [goodImage, length_composeImage h, hformat, composed_version h, (composeImage_sum h).2]

theorem storedSeat_composed (count : Nat) (i : SeatId) :
    storedSeat count p.composeImage i = storedSeat count p.pln.image i :=
  storedSeat_congr count (composed_seat h i).1 (composed_seat h i).2

theorem storedEnable_composed (count : Nat) (c : ChannelId) :
    storedEnable count p.composeImage c = storedEnable count p.pln.image c := by
  refine storedEnable_congr count ?_
  by_cases hlast : c.val = 40
  · simp only [hlast]
    exact testBit_mod (w := 1) (composed_lastEnable h) (by decide)
  · have hc := c.isLt
    have hbyte := byteAt_of_sections (j := c.val / 8) (composed_enables h) (by omega)
    rw [bitAt, bitAt, hbyte]

theorem storedPreset_composed (n : Fin 4) : storedPreset p.composeImage n = storedPreset p.pln.image n := by
  have hscreen (k : Fin 4) (d : ScreenSettings) :
      storedScreen p.composeImage (120 + 12 * n.val + 3 * k.val) d = storedScreen p.pln.image (120 + 12 * n.val + 3 * k.val) d := by
    obtain ⟨hmarks, hfixed, hfallback⟩ := composed_screen h ⟨4 * n.val + k.val, by omega⟩
    have hplace (j : Nat) : 120 + j + 3 * (4 * n.val + k.val) = 120 + 12 * n.val + 3 * k.val + j := by omega
    have hzero := hplace 0
    have hone := hplace 1
    have htwo := hplace 2
    simp only [Nat.reduceAdd, Nat.add_zero] at hzero hone htwo
    rw [hzero] at hmarks
    rw [hone] at hfixed
    rw [htwo] at hfallback
    exact storedScreen_congr d hmarks hfixed hfallback
  simp only [storedPreset, hscreen]

theorem profile_composed {k o : Nat} {x : Profile} (default : Profile) (hx : ProfileInRange x) (ho : o = 67 + 13 * k)
    (hk : k < 3) (hsection : ∀ j, j < 13 →
      byteAt (profileImage p.sfe.key ++ profileImage p.sfe.proximity ++ profileImage p.sfe.reference) (13 * k + j) =
        byteAt (profileImage x) j) : (storedProfile p.composeImage o default).1 = x := by
  refine storedProfile_image default hx fun j hj => ?_
  rw [ho, Nat.add_assoc, byteAt_of_section (composed_profiles h) (by omega), hsection j hj]

theorem storedPatterns_composed (straps : StrapPins) : (storedPatterns straps p.composeImage).1 = p.sgu.patterns := by
  have hselector : byteAt p.composeImage 106 = 1 := byteAt_of_section (j := 0) (composed_patterns h) (by decide)
  have hentry (i : Fin 12) : storedEntry p.composeImage i = p.sgu.patterns.get i := by
    refine storedEntry_image ?_
    rw [show 107 + i.val = 106 + (1 + (1 * i.val + 0)) by omega, byteAt_of_section (composed_patterns h) (by omega),
      patternImage, List.append_assoc, byteAt_append_right (a := b1 1) (o := 1) rfl, byteAt_append_left, byteAt_flatMap (w := 1)]
    · rfl
    · exact fun _ => rfl
    · decide
    · rw [length_flatMap_of (w := 1) fun _ => rfl]
      simp
  have hone : yesNoOf 1 = some true := rfl
  simp only [storedPatterns, hselector, hone, fixNamed]
  ext i hi
  rw [if_pos trivial, Vector.getElem_ofFn]
  exact hentry ⟨i, hi⟩

theorem polarity_composed : (⟨polarityBit (bitAt p.composeImage 119 0), polarityBit (bitAt p.composeImage 119 1),
    polarityBit (bitAt p.composeImage 119 2)⟩ : Polarities) = p.sgu.polarity := by
  have hred := p.sgu.polarity.red.code_le
  have hgreen := p.sgu.polarity.green.code_le
  have hlight := p.sgu.polarity.light.code_le
  have hcode : byteAt p.composeImage 119 =
      p.sgu.polarity.red.code + 2 * p.sgu.polarity.green.code + 4 * p.sgu.polarity.light.code := by
    have hlen : (b1 1 ++ p.sgu.patterns.toList.flatMap entryImage).length = 13 := by
      rw [List.length_append, length_flatMap_of (w := 1) (fun _ => rfl)]
      simp [b1]
    rw [byteAt_of_section (o := 106) (j := 13) (composed_patterns h) (by decide), patternImage,
      byteAt_append_right (o := 13) (j := 0) hlen, b1, byteAt_cons_zero, byteOf_toNat]
    omega
  have hbit (n : Nat) : bitAt p.composeImage 119 n = (byteAt p.composeImage 119 / 2 ^ n).testBit 0 := by
    rw [Nat.testBit_div_two_pow, Nat.zero_add, bitAt]
  rw [hbit 0, hbit 1, hbit 2, hcode, polarityBit_eq (x := p.sgu.polarity.red) (by omega),
    polarityBit_eq (x := p.sgu.polarity.green) (by omega), polarityBit_eq (x := p.sgu.polarity.light) (by omega)]

theorem storedRate_composed (i : Fin 8) (hx : RateInRange (p.scu.rates.get i)) :
    (storedRate p.composeImage i).1 = p.scu.rates.get i := by
  refine storedRate_image hx fun j hj => ?_
  rw [Nat.add_assoc, byteAt_of_section (composed_sources h) (by omega), sourcesImage, List.append_assoc, List.append_assoc,
    byteAt_append_left, byteAt_flatMap (w := 9) (fun _ => rfl) (by simp) hj]
  · rfl
  · rw [length_flatMap_of (w := 9) fun _ => rfl, Vector.length_toList]
    omega

theorem counts_composed (hx : p.scu.agree ≤ 15 ∧ p.scu.drop ≤ 15) :
    byteAt p.composeImage 240 = p.scu.agree ∧ byteAt p.composeImage 241 = p.scu.drop := by
  have hread (j : Nat) (hj : j < 10) : byteAt p.composeImage (168 + (72 + j)) =
      byteAt (b1 p.scu.agree ++ (b1 p.scu.drop ++ p.scu.sockets.toList.flatMap captureImage)) j := by
    rw [byteAt_of_section (composed_sources h) (by omega), sourcesImage, List.append_assoc, List.append_assoc,
      byteAt_append_right (length_rates p)]
  refine ⟨(hread 0 (by decide)).trans ?_, (hread 1 (by decide)).trans ?_⟩
  · exact Nat.mod_eq_of_lt (by omega)
  · exact Nat.mod_eq_of_lt (by omega)

theorem storedCapture_composed (k : SocketId)
    (hx : (p.socket k).filter = 0 ∨ (p.socket k).filter = 2 ∨ (p.socket k).filter = 4 ∨ (p.socket k).filter = 8) :
    (storedCapture p.composeImage k).1 = ((p.socket k).enable, (p.socket k).edge, (p.socket k).filter) := by
  refine storedCapture_image hx ?_
  have hlen : (p.scu.rates.toList.flatMap rateBytes ++ b1 p.scu.agree ++ b1 p.scu.drop).length = 74 := by
    rw [List.length_append, List.length_append, length_rates p]
    rfl
  rw [show 242 + k.val = 168 + (74 + (1 * k.val + 0)) by omega, byteAt_of_section (composed_sources h) (by omega),
    sourcesImage, byteAt_append_right hlen, byteAt_flatMap (w := 1) (fun _ => rfl) (by simp) (by decide)]
  rfl

end

/-- A load reads the settings in force from the image composed, and every other setting as from the copy. -/
theorem readSettings_composeImage (straps : StrapPins) (h : p.pln.image.length = 512) (hrange : SavedInRange p) :
    (readSettings straps p.composeImage).1 =
      { (readSettings straps p.pln.image).1 with
        key := p.sfe.key, proximity := p.sfe.proximity, reference := p.sfe.reference
        patterns := p.sgu.patterns, polarity := p.sgu.polarity, gain := p.sgu.gain
        rates := p.scu.rates, agree := p.scu.agree, drop := p.scu.drop
        capture := Vector.ofFn fun k => ((p.socket k).enable, (p.socket k).edge, (p.socket k).filter) } := by
  obtain ⟨hprofiles, hrates, hgain, ⟨hagree, hagree', hdrop, hdrop'⟩, hcapture⟩ := hrange
  obtain ⟨hagreeByte, hdropByte⟩ := counts_composed h ⟨hagree', hdrop'⟩
  have hseats (count : Nat) : storedSeat count p.composeImage = storedSeat count p.pln.image :=
    funext (storedSeat_composed h count)
  have henables (count : Nat) : storedEnable count p.composeImage = storedEnable count p.pln.image :=
    funext (storedEnable_composed h count)
  have hpresets : storedPreset p.composeImage = storedPreset p.pln.image := funext (storedPreset_composed h)
  have hroom : halfAt p.composeImage 3 = halfAt p.pln.image 3 := by
    rw [halfAt, halfAt, byteAt_of_sections (j := 0) (composed_name h) (by decide),
      byteAt_of_sections (j := 1) (composed_name h) (by decide)]
  have hname : (p.composeImage.drop 5).take 16 = (p.pln.image.drop 5).take 16 := by
    have hsection (l : List Byte) : (l.drop 5).take 16 = ((l.drop 3).take 18).drop 2 := by
      rw [List.drop_take, List.drop_drop]
    rw [hsection, hsection, composed_name h]
  have hcopied (j : Nat) (hj : j < 19) : byteAt p.composeImage (256 + j) = byteAt p.pln.image (256 + j) :=
    composed_copied h hj
  have hmask (k : SocketId) : bitAt p.composeImage 274 k.val = bitAt p.pln.image 274 k.val :=
    congrArg (Nat.testBit · k.val) (hcopied 18 (by decide))
  have hwake : bitAt p.composeImage 275 0 = bitAt p.pln.image 275 0 := testBit_mod (w := 1) (composed_wake h) (by decide)
  have hkey (d : Profile) : (storedProfile p.composeImage 67 d).1 = p.sfe.key :=
    profile_composed h (k := 0) d (hprofiles .key) rfl (by decide) fun j hj => by
      rw [List.append_assoc, Nat.mul_zero, Nat.zero_add]
      exact byteAt_append_left hj
  have hproximity (d : Profile) : (storedProfile p.composeImage 80 d).1 = p.sfe.proximity :=
    profile_composed h (k := 1) d (hprofiles .proximity) rfl (by decide) fun j hj => by
      rw [List.append_assoc, byteAt_append_right (length_profileImage _)]
      exact byteAt_append_left hj
  have hreference (d : Profile) : (storedProfile p.composeImage 93 d).1 = p.sfe.reference :=
    profile_composed h (k := 2) d (hprofiles .reference) rfl (by decide) fun j _ => byteAt_append_right rfl
  have hrateTable : (fixTable (storedRate p.composeImage)).1 = p.scu.rates :=
    fixTable_fst fun i => storedRate_composed h i (hrates i)
  have hcaptures : (fixTable (storedCapture p.composeImage)).1 =
      Vector.ofFn fun k => ((p.socket k).enable, (p.socket k).edge, (p.socket k).filter) :=
    fixTable_fst fun k => by simpa using storedCapture_composed h k (hcapture k)
  have hgainRead : (storedGain p.composeImage).1 = p.sgu.gain :=
    storedGain_image hgain fun j hj => byteAt_of_section (composed_gain h) hj
  simp only [readSettings, hseats, henables, hpresets, hroom, hname, hmask, hwake, hkey, hproximity, hreference, hrateTable,
    hcaptures, hgainRead, hagreeByte, hdropByte, storedPatterns_composed h, polarity_composed h,
    fixNumber_of_mem hagree hagree', fixNumber_of_mem hdrop hdrop', storedParams_congr _ hcopied, storedFloor_congr hcopied,
    hcopied 0 (by decide), hcopied 1 (by decide), hcopied 2 (by decide), hcopied 11 (by decide), hcopied 12 (by decide)]

end Part

/-- Settles O7: the image composed is good by its mark, version and sum; each section in force is read back record by
record, and the copied sections byte by byte. -/
theorem savedPlanLoadsBack : Obligations.SavedPlanLoadsBack := by
  unfold Obligations.SavedPlanLoadsBack
  intro straps p ⟨hlen, hmark⟩ hrange
  exact ⟨Part.goodImage_composeImage hlen hmark, Part.readSettings_composeImage straps hlen hrange⟩

end Sys2Proof.Machine
end

section
/-! The load (R4 to R10): the built-in defaults, and the image of preset 0 that a load need not leave applied. -/

namespace Sys2Proof.Machine

/-! ### What the default image gives (R6) -/

/-- The settings that a load without a good image hands out, as R6 lists them. -/
def BuiltInSettings (straps : StrapPins) (x : Settings) : Prop :=
  (x.key = Profile.key ∧ x.proximity = Profile.proximity ∧ x.reference = Profile.reference) ∧
    (x.frame = 10 ∧ x.grace = 8 ∧ x.lead = 30 ∧ x.floor = ⟨.queue, 2, 0, false⟩) ∧
    (x.gain = ⟨800, 8, 16, 64, true⟩ ∧ x.patterns = strapPatterns straps) ∧
    (x.rates = builtInRates ∧ x.agree = 4 ∧ x.drop = 3 ∧ x.presets = builtInPresets) ∧
    (x.params = ⟨5, 5, 10, 2, 60, 15, 60⟩ ∧ x.preWake = 10 ∧ x.delay = 5) ∧
    ∀ i : SeatId, (x.seats.get i).installed = decide (i.val < 8 + 4 * straps.seatCount.toNat)

theorem builtInSettings_of_straps : ∀ (n : BitVec 2) (b : Bool),
    BuiltInSettings ⟨n, 0, b⟩ (readSettings ⟨n, 0, b⟩ (defaultImage ⟨n, 0, b⟩)).1 := by
  unfold BuiltInSettings
  decide +kernel

/-- The link rate straps have no part in the settings. -/
theorem builtInSettings (straps : StrapPins) : BuiltInSettings straps (readSettings straps (defaultImage straps)).1 :=
  builtInSettings_of_straps straps.seatCount straps.indStyle

namespace Part

variable {p : Part} {x : Settings}

/-! ### The handing out of settings (R10) -/

@[simp] theorem handOut_smn (p : Part) (x : Settings) :
    (p.handOut x).smn.grace = x.grace ∧ (p.handOut x).smn.occupied = p.smn.occupied := by
  simp [handOut]

@[simp] theorem handOut_flc (p : Part) (x : Settings) :
    (p.handOut x).flc.lead = x.lead ∧ (p.handOut x).flc.preset = x.floor := by
  simp [handOut]

@[simp] theorem handOut_sgu (p : Part) (x : Settings) :
    (p.handOut x).sgu.gain = x.gain ∧ (p.handOut x).sgu.patterns = x.patterns ∧ (p.handOut x).sgu.polarity = x.polarity := by
  simp [handOut]

@[simp] theorem handOut_scu (p : Part) (x : Settings) :
    (p.handOut x).scu.rates = x.rates ∧ (p.handOut x).scu.agree = x.agree ∧ (p.handOut x).scu.drop = x.drop := by
  simp [handOut]

@[simp] theorem handOut_presets (p : Part) (x : Settings) : (p.handOut x).rtu.presets = x.presets := by simp [handOut]

@[simp] theorem handOut_ssu (p : Part) (x : Settings) : (p.handOut x).ssu = { p.ssu with params := x.params } := by
  simp [handOut]

@[simp] theorem handOut_pwu (p : Part) (x : Settings) : (p.handOut x).pwu =
    { p.pwu with lead := x.preWake, delay := x.delay, mask := x.mask, proximityWake := x.proximityWake } := by
  simp [handOut]

theorem handOut_seat (p : Part) (x : Settings) (i : SeatId) :
    (p.handOut x).seat i = takeFixed (x.seats.get i) (p.seat i) := by
  simp [handOut, seat, get_mapTable]

theorem handOut_grows {a : Port → BitVec 9 × BitVec 8} (h : NoticesGrow a p.notices) (x : Settings) :
    NoticesGrow a (p.handOut x).notices := by
  have hsettings (q : Part) (hq : q.prt.ports = p.prt.ports) :
      NoticesGrow a ((q.applyFloorPreset x.floor).applyPreset 0).notices := by
    rw [(applyPreset_keeps _ _).2.2.2.2.2.2]
    exact applyFloorPreset_grows (by rwa [notices_eq hq]) x.floor
  exact hsettings _ rfl

/-! ### Seats whose counters alone may change -/

/-- The seats are the same but for their counters. -/
def SeatsKept (p t : Part) : Prop := ∀ i, ∃ c, t.seat i = { p.seat i with counters := c }

theorem SeatsKept.of_eq {p t : Part} (h : t.smn.seats = p.smn.seats) : SeatsKept p t := fun i =>
  ⟨(p.seat i).counters, congrArg (·.get i) h⟩

theorem SeatsKept.trans {p q t : Part} (hpq : SeatsKept p q) (hqt : SeatsKept q t) : SeatsKept p t := fun i => by
  obtain ⟨c, hc⟩ := hpq i
  obtain ⟨d, hd⟩ := hqt i
  exact ⟨d, by rw [hd, hc]⟩

theorem seatsKept_clearCounters (p : Part) : SeatsKept p p.clearCounters := fun i =>
  ⟨Counters.zero, by simp [clearCounters, seat, get_mapTable]⟩

theorem seatsKept_closeSession (p : Part) (x : Session) (r : CloseReason) : SeatsKept p (p.closeSession x r) := by
  have hclear := seatsKept_clearCounters (p.writeSummary (p.summaryOf x r))
  have hwrite : SeatsKept p (p.writeSummary (p.summaryOf x r)) := .of_eq (by simp)
  have hend : SeatsKept (p.writeSummary (p.summaryOf x r)).clearCounters (p.closeSession x r) := .of_eq (by
    simp only [closeSession, closeRecords]
    cases x.booking <;> simp)
  exact (hwrite.trans hclear).trans hend

theorem seatsKept_closeWindup (p : Part) : SeatsKept p p.closeWindup := by
  simp only [closeWindup]
  split
  · split
    · exact seatsKept_closeSession p _ _
    · exact .of_eq rfl
  · exact .of_eq rfl

theorem seatsKept_completeWindup (p : Part) : SeatsKept p p.completeWindup := by
  simp only [completeWindup]
  split
  · split
    · have hopen : SeatsKept p.closeWindup p.closeWindup.openPending := .of_eq (by simp)
      exact ((seatsKept_closeWindup p).trans hopen).trans (seatsKept_closeWindup _)
    · exact .of_eq rfl
  · exact .of_eq rfl

theorem seatsKept_walkInTest (p : Part) : SeatsKept p p.walkInTest := by
  simp only [walkInTest]
  split
  · have hopen : SeatsKept p p.openWalkIn := .of_eq (by simp)
    exact hopen.trans (seatsKept_completeWindup _)
  · exact .of_eq rfl

/-- The end of an event leaves the seats, but for the counters that a close sets to 0. -/
theorem seatsKept_conclude (before after : Part) : SeatsKept after (conclude before after) := by
  have hdwell : SeatsKept after (concludeDwell before after) := by
    simp only [concludeDwell]
    (repeat' split)
    · exact .of_eq (by simp)
    · exact seatsKept_walkInTest after
    · exact .of_eq rfl
  exact hdwell.trans (.of_eq (by simp [conclude]))

/-! ### The load -/

/-- The end of a load hands out the settings read, once PLN's record and its notices stand. -/
theorem loadEnd_default {e : EepromRead} (hstage : p.pln.stage = .loading) (h : loadedImage e = none) :
    p.loadEnd e = (((p.loadRecord .default false (defaultImage p.pln.straps)).noticeCause .sense .planDefault).handOut
      (readSettings p.pln.straps (defaultImage p.pln.straps)).1).startUpRetunes := by
  simp only [loadEnd, hstage, h, if_true]
  rfl

/-- What the end of an event leaves of a load that hands out the built-in defaults. -/
theorem conclude_builtIn {before : Part} {straps : StrapPins} (hx : BuiltInSettings straps x) {t : Part}
    (ht : t = conclude before (p.handOut x).startUpRetunes) :
    t.sfe.key = Profile.key ∧ t.sfe.proximity = Profile.proximity ∧ t.sfe.reference = Profile.reference ∧
      t.sfe.frame = 10 ∧ t.smn.grace = 8 ∧ t.flc.lead = 30 ∧ t.flc.preset = ⟨.queue, 2, 0, false⟩ ∧
      t.sgu.gain = ⟨800, 8, 16, 64, true⟩ ∧ t.sgu.patterns = strapPatterns straps ∧
      t.scu.rates = builtInRates ∧ t.scu.agree = 4 ∧ t.scu.drop = 3 ∧ t.rtu.presets = builtInPresets ∧
      t.ssu.params = ⟨5, 5, 10, 2, 60, 15, 60⟩ ∧ t.pwu.lead = 10 ∧ t.pwu.delay = 5 ∧
      ∀ i : SeatId, (t.seat i).installed = decide (i.val < 8 + 4 * straps.seatCount.toNat) := by
  obtain ⟨⟨hkey, hproximity, hreference⟩, ⟨hframe, hgrace, hlead, hfloor⟩, ⟨hgain, hpatterns⟩,
    ⟨hrates, hagree, hdrop, hpresets⟩, ⟨hparams, hpreWake, hdelay⟩, hinstalled⟩ := hx
  subst ht
  have hseat (i : SeatId) : ((conclude before (p.handOut x).startUpRetunes).seat i).installed =
      decide (i.val < 8 + 4 * straps.seatCount.toNat) := by
    obtain ⟨c, hc⟩ := seatsKept_conclude before (p.handOut x).startUpRetunes i
    have hload : (p.handOut x).startUpRetunes.seat i = takeFixed (x.seats.get i) (p.seat i) := by
      rw [seat_eq (congrArg Smn.seats (startUpRetunes_frame _).1), handOut_seat]
    rw [hc, hload]
    exact hinstalled i
  simp [handOut_sfe, *]

end Part

theorem isHeld_loading {p : Part} (h : p.pln.stage = .loading) : p.isHeld = false := by simp [Part.isHeld, h]

/-- Settles O5: the settings of the default image are those of R6, and the end of the event changes none of them. -/
theorem loadWithoutGoodImage : Obligations.LoadWithoutGoodImage := by
  unfold Obligations.LoadWithoutGoodImage
  intro e s hstage himage
  refine completes_onEvent (f := (·.loadEnd e)) rfl ?_
  rw [Part.event_unheld (isHeld_loading hstage), Part.loadEnd_default hstage himage]
  have hsettings := builtInSettings s.part.pln.straps
  generalize (readSettings s.part.pln.straps (defaultImage s.part.pln.straps)).1 = x at hsettings ⊢
  generalize defaultImage s.part.pln.straps = img
  obtain ⟨hkey, hproximity, hreference, hframe, hgrace, hlead, hfloor, hgain, hpatterns, hrates, hagree, hdrop, hpresets,
    hparams, hpreWake, hdelay, hinstalled⟩ := Part.conclude_builtIn hsettings (before := s.part) rfl
      (p := (s.part.loadRecord .default false img).noticeCause .sense .planDefault)
  refine ⟨by simp [Part.loadRecord], by simp [Part.loadRecord], by simp [Part.loadRecord], hkey, hproximity, hreference,
    hframe, hgrace, hlead, hfloor, hgain, hpatterns, hrates, hagree, hdrop, hpresets, hparams, hpreWake, hdelay, hinstalled,
    fun q => ?_⟩
  have hraised : NoticesGrow ((s.part.loadRecord .default false img).noticeCause .sense .planDefault).notices
      (((s.part.loadRecord .default false img).noticeCause .sense .planDefault).handOut x).startUpRetunes.notices := by
    rw [(Part.startUpRetunes_keeps _).2.2.2.2.2.2]
    exact Part.handOut_grows (.refl _) x
  have hend := Part.conclude_grows hraised s.part
  exact ⟨hend.flag (by rw [Part.noticeCause_notices]; exact Part.mark_raised _ (by decide)),
    hend.cause (by rw [Part.noticeCause_notices]; exact Part.mark_raised _ (by decide))⟩

/-! ### A load that leaves preset 0 by a walk-in -/

/-- A good image whose walk-in dwell is 0 and whose preset 0 shows a fixed source on screen 1, with privacy. -/
def privateImage : List Byte := withSum ((((defaultImage ⟨0, 0, false⟩).take 510).set 120 32).set 264 0)

/-- A part in its load, ACTIVE, with five seats occupied, no walk-in quorum, and a clock that stands past the day's last
minute. -/
def lateLoading : Part :=
  let p := Part.atReset ⟨0, 0, false⟩ .loading
  { p with
    smn := { p.smn with occupied := 5 }, sch := { p.sch with clock := ⟨0, 2000, 0, true⟩ }
    pwu := { p.pwu with power := .active }, ssu := { p.ssu with params := { p.ssu.params with quorum := 0 } } }

theorem goodImage_privateImage : Part.goodImage privateImage = true := by decide +kernel

/-- The walk-in that the load lets open ends at once, past the day's last minute, and its close blanks screen 1. -/
theorem load_leaves_preset : ((Part.event (·.loadEnd (.image privateImage)) lateLoading).screen 0).set ≠
    ((readSettings ⟨0, 0, false⟩ privateImage).1.presets.get 0).get 0 := by decide +kernel

/-- Refutes O6: with the clock past minute 1439, which no condition shuts out, the walk-in that the new parameters let open
at the load goes to WINDUP at once, and its close blanks a screen whose preset asks for privacy. -/
theorem not_loadOfGoodImage : ¬ Obligations.LoadOfGoodImage := by
  unfold Obligations.LoadOfGoodImage
  rintro ⟨hload, -⟩
  obtain ⟨t, hexec, -, -, -, -, -, -, -, -, -, -, -, -, -, -, -, hscreens, -⟩ :=
    hload privateImage ⟨lateLoading, []⟩ rfl goodImage_privateImage
  have ht : ⟨Part.event (·.loadEnd (.image privateImage)) lateLoading, []⟩ = t := Host.Outcome.next.inj hexec
  subst ht
  exact load_leaves_preset (hscreens 0)

end Sys2Proof.Machine
end

section
/-! The sensing frame, channel by channel (R20, R24 to R28, R30 to R33, R39, R41, R42). -/

namespace Sys2Proof.Machine

/-! ### The order in which members are taken -/

theorem nodup_named {α : Type} [DecidableEq α] (first : List α) :
    (first.foldl (fun acc x => if x ∈ acc then acc else acc ++ [x]) []).Nodup := by
  refine foldl_invariant (P := List.Nodup) (fun acc x hacc => ?_) first [] List.nodup_nil
  split
  · exact hacc
  next hx => exact List.nodup_append.mpr ⟨hacc, List.nodup_singleton x, by simpa using fun a ha => by grind⟩

theorem nodup_takenOrder {α : Type} [DecidableEq α] (first : List α) {all : List α} (h : all.Nodup) :
    (takenOrder first all).Nodup := by
  refine List.nodup_append.mpr ⟨(nodup_named first).filter _, h.filter _, fun a ha b hb => ?_⟩
  simp only [List.mem_filter, decide_eq_true_eq] at ha hb
  rintro rfl
  exact hb.2 ha.1

theorem mem_takenOrder {α : Type} [DecidableEq α] {first all : List α} {x : α} : x ∈ takenOrder first all ↔ x ∈ all := by
  simp only [takenOrder, List.mem_append, List.mem_filter, decide_eq_true_eq]
  tauto

namespace Part

variable {p t q : Part} {c d : ChannelId}

/-! ### What the reports of other channels leave of a channel -/

/-- SFE's settings stand, and channel c stands but for the mark that a wake sets on a key channel (R42). -/
structure ChannelKept (c : ChannelId) (p t : Part) : Prop where
  settings : t.sfe.key = p.sfe.key ∧ t.sfe.proximity = p.sfe.proximity ∧ t.sfe.reference = p.sfe.reference ∧
    t.sfe.frame = p.sfe.frame
  power : p.pwu.power ≠ .standby → t.pwu.power = p.pwu.power
  channel : kindOf c ≠ .key ∨ p.pwu.power ≠ .standby → t.channel c = p.channel c
  marked : { t.channel c with firstWake := false } = { p.channel c with firstWake := false }
  off : (t.channel c).state = (p.channel c).state

theorem ChannelKept.refl (c : ChannelId) (p : Part) : ChannelKept c p p :=
  ⟨⟨rfl, rfl, rfl, rfl⟩, fun _ => rfl, fun _ => rfl, rfl, rfl⟩

theorem ChannelKept.trans (h : ChannelKept c p t) (h' : ChannelKept c t q) : ChannelKept c p q where
  settings := by
    obtain ⟨hk, hp, hr, hf⟩ := h.settings
    obtain ⟨hk', hp', hr', hf'⟩ := h'.settings
    exact ⟨hk'.trans hk, hp'.trans hp, hr'.trans hr, hf'.trans hf⟩
  power hawake := by
    have hfirst := h.power hawake
    rw [h'.power (by rwa [hfirst]), hfirst]
  channel hawake := by
    have hfirst := h.channel hawake
    rw [h'.channel (hawake.imp_right fun hp => by rwa [h.power hp]), hfirst]
  marked := h'.marked.trans h.marked
  off := h'.off.trans h.off

theorem ChannelKept.of_sfe (hsfe : t.sfe = p.sfe) (hpower : t.pwu.power = p.pwu.power) : ChannelKept c p t := by
  have hchannel := congrFun (channel_eq hsfe) c
  exact ⟨by simp [hsfe], fun _ => hpower, fun _ => hchannel, by rw [hchannel], by rw [hchannel]⟩

theorem channelKept_wake (c : ChannelId) (p : Part) : ChannelKept c p p.wake := by
  by_cases hpower : p.pwu.power = .standby
  · have hchannel : p.wake.channel c =
        if kindOf c = .key ∧ (p.channel c).state ≠ .off then { p.channel c with firstWake := true } else p.channel c := by
      simp [wake, hpower, wakeChannels, channel, get_mapTable]
      rfl
    refine ⟨by simp [wake, hpower, wakeChannels], fun hawake => absurd hpower hawake, fun hkind => ?_, ?_, ?_⟩
    · rw [hchannel, if_neg (by grind)]
    · rw [hchannel]
      split <;> rfl
    · rw [hchannel]
      split <;> rfl
  · rw [wake, if_neg hpower]
    exact .refl c p

theorem channelKept_report (c d : ChannelId) (p : Part) (o : Sensed) (cause : ReportCause) :
    ChannelKept c p (p.report d o cause) := by
  simp only [report]
  split
  · exact .of_sfe (by simp) (by simp)
  · have hreport : ChannelKept c p (p.proximityReport (seatOf d) o) := .of_sfe (by simp) (by simp)
    split
    · exact hreport.trans (channelKept_wake c _)
    · exact hreport
  · exact .refl c p

theorem channelKept_sendOut (c d : ChannelId) (p : Part) (out : List SfeOut) : ChannelKept c p (p.sendOut d out) := by
  refine foldl_invariant (P := ChannelKept c p) (fun q o hq => hq.trans ?_) out p (.refl c p)
  cases o with
  | notice m => exact .of_sfe (by simp [sendOne]) (by simp [sendOne])
  | report s cause => exact channelKept_report c d q s cause

theorem channelKept_setChannel (h : d ≠ c) (p : Part) (x : Channel) : ChannelKept c p (p.setChannel d x) := by
  have hchannel : (p.setChannel d x).channel c = p.channel c := by simp [h.symm]
  exact ⟨by simp, fun _ => by simp, fun _ => hchannel, by rw [hchannel], by rw [hchannel]⟩

theorem channelKept_putChannel (h : d ≠ c) (p : Part) (r : ChanResult) : ChannelKept c p (p.putChannel d r) :=
  (channelKept_setChannel h p r.1).trans (channelKept_sendOut c d _ r.2)

theorem channelKept_channelFrame (h : d ≠ c) (standby : Bool) (change : Int) (readings : List Nat) (p : Part) :
    ChannelKept c p (channelFrame standby change readings p d) := by
  simp only [channelFrame]
  split
  · exact channelKept_putChannel h p _
  · exact .refl c p

theorem channelKept_countPresses (c : ChannelId) (p : Part) (period : Nat) (seats : List SeatId) :
    ChannelKept c p (p.countPresses period seats) :=
  foldl_invariant (P := ChannelKept c p) (fun q s hq => hq.trans (.of_sfe (by simp) (by simp))) seats p (.refl c p)

/-! ### The frame -/

/-- The channels of seats, each once. -/
theorem mem_seatChannels : c ∈ seatChannels ↔ c.val ≠ 40 := by simp [seatChannels]

theorem nodup_seatChannels : seatChannels.Nodup := (List.nodup_finRange 41).filter _

/-- Updates of other channels only. -/
theorem channelKept_foldl {l : List ChannelId} (h : c ∉ l) (standby : Bool) (change : Int) (readings : List Nat) (p : Part) :
    ChannelKept c p (l.foldl (channelFrame standby change readings) p) := by
  induction l generalizing p with
  | nil => exact .refl c p
  | cons d l ih =>
    obtain ⟨hd, hl⟩ : c ≠ d ∧ c ∉ l := by simpa using h
    exact (channelKept_channelFrame (Ne.symm hd) standby change readings p).trans (ih hl _)

/-- The end of a frame: start-up and the settle leave SFE. -/
theorem channelKept_frameEnd (c : ChannelId) (p : Part) (settling : Bool) :
    (p.startUpTest.settleFrame settling).channel c = p.channel c :=
  congrFun (channel_eq (by simp)) c

/-- What one update makes of its channel, when the channel is measured in the frame. -/
def framed (p : Part) (readings : List Nat) (standby : Bool) (change : Int) (c : ChannelId) : ChanResult :=
  updateChannel (p.profileOf (kindOf c)) (betaOf (p.profileOf (kindOf c)) standby) (p.framePeriod standby) change (p.channel c)
    (readings.getD c.val 0)

/-- The update of the reference channel in a frame. -/
def refFramed (p : Part) (readings : List Nat) (standby : Bool) : ChanResult × Int :=
  updateReference p.sfe.reference (betaOf p.sfe.reference standby) (p.channel 40) (readings.getD 40 0)

variable (p : Part) (readings : List Nat) (first : List ChannelId) (timersFirst : Bool)

/-- A frame updates a seat's channel once: what comes before and what comes after leaves it. -/
theorem sensingFrame_split {c : ChannelId} (hc : c.val ≠ 40) :
    ∃ q u, ChannelKept c p q ∧
      ChannelKept c (channelFrame (p.pwu.power = .standby) (p.refFramed readings (p.pwu.power = .standby)).2 readings q c) u ∧
      (p.sensingFrame readings first timersFirst).channel c = u.channel c ∧
      NoticesGrow (channelFrame (p.pwu.power = .standby) (p.refFramed readings (p.pwu.power = .standby)).2 readings q c).notices
        (p.sensingFrame readings first timersFirst).notices := by
  have hmem : c ∈ takenOrder first seatChannels := mem_takenOrder.mpr (mem_seatChannels.mpr hc)
  obtain ⟨before, after, hsplit⟩ := List.append_of_mem hmem
  have hnodup := nodup_takenOrder first nodup_seatChannels
  rw [hsplit] at hnodup
  have hbefore : c ∉ before := by
    intro hin
    exact (List.nodup_append.mp hnodup).2.2 c hin c (by simp) rfl
  have hafter : c ∉ after := (List.nodup_cons.mp (List.nodup_append.mp hnodup).2.1).1
  have href : (40 : ChannelId) ≠ c := by
    rintro rfl
    exact hc rfl
  have hgrows {a : Port → BitVec 9 × BitVec 8} {change : Int} {standby : Bool} {q : Part} (hq : NoticesGrow a q.notices) :
      NoticesGrow a (after.foldl (channelFrame standby change readings) q).notices :=
    foldl_grows (fun _ c hr => channelFrame_grows hr standby change readings c) _ hq
  simp only [sensingFrame, hsplit, List.foldl_append, List.foldl_cons]
  cases timersFirst with
  | true =>
    refine ⟨_, _, ?_, channelKept_foldl hafter _ _ _ _, channelKept_frameEnd _ _ _, ?_⟩
    · exact ((channelKept_putChannel href p _).trans (channelKept_countPresses c _ _ _)).trans (channelKept_foldl hbefore _ _ _ _)
    · exact settleFrame_grows (startUpTest_grows (hgrows (.refl _))) _
  | false =>
    refine ⟨_, _, ?_, (channelKept_foldl hafter _ _ _ _).trans (channelKept_countPresses c _ _ _), channelKept_frameEnd _ _ _, ?_⟩
    · exact (channelKept_putChannel href p _).trans (channelKept_foldl hbefore _ _ _ _)
    · exact settleFrame_grows (startUpTest_grows (countPresses_grows (hgrows (.refl _)) _ _)) _

variable {p readings first timersFirst}

theorem ChannelKept.profile (h : ChannelKept c p t) (k : ProfileKind) : t.profileOf k = p.profileOf k := by
  obtain ⟨hkey, hproximity, hreference, -⟩ := h.settings
  cases k
  · exact hkey
  · exact hproximity
  · exact hreference

theorem ChannelKept.period (h : ChannelKept c p t) (standby : Bool) : t.framePeriod standby = p.framePeriod standby := by
  simp only [framePeriod, h.settings.2.2.2]

theorem ChannelKept.framed (h : ChannelKept c p t) (hawake : kindOf c ≠ .key ∨ p.pwu.power ≠ .standby) (standby : Bool)
    (change : Int) : t.framed readings standby change c = p.framed readings standby change c := by
  simp only [Part.framed, h.profile, h.period, h.channel hawake]

theorem ChannelKept.isMeasured (h : ChannelKept c p t) (standby : Bool) : t.isMeasured standby c = p.isMeasured standby c := by
  simp only [Part.isMeasured, h.off]

/-- A seat's channel that is measured ends the frame as its own update leaves it, and the notices of the update are
raised. -/
theorem sensingFrame_channel {c : ChannelId} (hc : c.val ≠ 40) (hoff : (p.channel c).state ≠ .off)
    (hawake : p.pwu.power ≠ .standby ∨ kindOf c ≠ .key) :
    let r := p.framed readings (p.pwu.power = .standby) (p.refFramed readings (p.pwu.power = .standby)).2 c
    (p.sensingFrame readings first timersFirst).channel c = r.1 ∧
      ∀ m, .notice m ∈ r.2 → ∀ q, ((p.sensingFrame readings first timersFirst).notices q).1 &&& 4 ≠ 0 ∧
        ((p.sensingFrame readings first timersFirst).notices q).2 &&& m.bit ≠ 0 := by
  intro r
  obtain ⟨q, u, hq, hu, hchannel, hnotices⟩ := sensingFrame_split p readings first timersFirst hc
  have hmeasured : q.isMeasured (p.pwu.power = .standby) c = true := by
    rw [hq.isMeasured]
    simp only [isMeasured]
    grind
  have hframe : channelFrame (p.pwu.power = .standby) (p.refFramed readings (p.pwu.power = .standby)).2 readings q c =
      q.putChannel c r := by
    rw [channelFrame, if_pos hmeasured]
    exact congrArg (q.putChannel c) (hq.framed hawake.symm _ _)
  have hput : ChannelKept c (q.setChannel c r.1) (q.putChannel c r) := channelKept_sendOut c c _ _
  rw [hframe] at hu hnotices
  have hawakeq : kindOf c ≠ .key ∨ q.pwu.power ≠ .standby := hawake.symm.imp_right fun h => by rwa [hq.power h]
  refine ⟨?_, fun m hm port => ?_⟩
  · have hset : (q.putChannel c r).channel c = r.1 := (hput.channel hawakeq).trans (setChannel_channel_self q c r.1)
    have hafter : kindOf c ≠ .key ∨ (q.putChannel c r).pwu.power ≠ .standby :=
      hawakeq.imp_right fun h => by rwa [hput.power h]
    rw [hchannel, hu.channel hafter, hset]
  · obtain ⟨hflag, hcause⟩ := putChannel_notice (p := q) hm port
    exact ⟨hnotices.flag hflag, hnotices.cause hcause⟩

/-- The reference channel ends the frame as its own update leaves it. -/
theorem sensingFrame_reference :
    (p.sensingFrame readings first timersFirst).channel 40 = (p.refFramed readings (p.pwu.power = .standby)).1.1 ∧
      ∀ m, .notice m ∈ (p.refFramed readings (p.pwu.power = .standby)).1.2 → ∀ q,
        ((p.sensingFrame readings first timersFirst).notices q).1 &&& 4 ≠ 0 ∧
        ((p.sensingFrame readings first timersFirst).notices q).2 &&& m.bit ≠ 0 := by
  have hnot : (40 : ChannelId) ∉ takenOrder first seatChannels := fun h => mem_seatChannels.mp (mem_takenOrder.mp h) rfl
  have hkind : kindOf 40 ≠ .key := by decide
  have hgrows {a : Port → BitVec 9 × BitVec 8} {change : Int} {standby : Bool} {q : Part} (hq : NoticesGrow a q.notices) :
      NoticesGrow a ((takenOrder first seatChannels).foldl (channelFrame standby change readings) q).notices :=
    foldl_grows (fun _ c hr => channelFrame_grows hr standby change readings c) _ hq
  have hput : ChannelKept 40 (p.setChannel 40 (p.refFramed readings (p.pwu.power = .standby)).1.1)
      (p.putChannel 40 (p.refFramed readings (p.pwu.power = .standby)).1) := channelKept_sendOut 40 40 _ _
  have hset := (hput.channel (.inl hkind)).trans (setChannel_channel_self p 40 _)
  have hend : ∃ u, ChannelKept 40 (p.putChannel 40 (p.refFramed readings (p.pwu.power = .standby)).1) u ∧
      (p.sensingFrame readings first timersFirst).channel 40 = u.channel 40 ∧
      NoticesGrow (p.putChannel 40 (p.refFramed readings (p.pwu.power = .standby)).1).notices
        (p.sensingFrame readings first timersFirst).notices := by
    simp only [sensingFrame]
    cases timersFirst with
    | true =>
      exact ⟨_, (channelKept_countPresses 40 _ _ _).trans (channelKept_foldl hnot _ _ _ _), channelKept_frameEnd _ _ _,
        settleFrame_grows (startUpTest_grows (hgrows (countPresses_grows (.refl _) _ _))) _⟩
    | false =>
      exact ⟨_, (channelKept_foldl hnot _ _ _ _).trans (channelKept_countPresses 40 _ _ _), channelKept_frameEnd _ _ _,
        settleFrame_grows (startUpTest_grows (countPresses_grows (hgrows (.refl _)) _ _)) _⟩
  obtain ⟨u, hu, hchannel, hnotices⟩ := hend
  refine ⟨by rw [hchannel, hu.channel (.inl hkind), hset], fun m hm port => ?_⟩
  obtain ⟨hflag, hcause⟩ := putChannel_notice (p := p) hm port
  exact ⟨hnotices.flag hflag, hnotices.cause hcause⟩

/-- A key channel is not measured in STANDBY: a wake alone may mark it (R41, R42). -/
theorem sensingFrame_standbyKey {c : ChannelId} (hkey : kindOf c = .key) (hpower : p.pwu.power = .standby) :
    { (p.sensingFrame readings first timersFirst).channel c with firstWake := false } =
      { p.channel c with firstWake := false } := by
  have hc : c.val ≠ 40 := by
    intro h
    simp [kindOf, h] at hkey
  obtain ⟨q, u, hq, hu, hchannel, -⟩ := sensingFrame_split p readings first timersFirst hc
  have hframe : channelFrame (p.pwu.power = .standby) (p.refFramed readings (p.pwu.power = .standby)).2 readings q c = q := by
    rw [channelFrame, if_neg]
    simp [isMeasured, hpower, hkey]
  rw [hframe] at hu
  rw [hchannel, hu.marked, hq.marked]

end Part

/-- A sensing frame is one event: a channel ends it as the frame leaves it. -/
theorem completes_sensingFrame {s : State} {readings : List Nat} {first : List ChannelId} {timersFirst : Bool}
    {post : Part → Prop} (hheld : s.part.isHeld = false)
    (hpost : ∀ t : Part, (∀ c, t.channel c = (s.part.sensingFrame readings first timersFirst).channel c) →
      NoticesGrow (s.part.sensingFrame readings first timersFirst).notices t.notices → post t) :
    Completes (.sensingFrame readings first timersFirst) s post := by
  refine completes_onEvent (f := fun p => p.sensingFrame readings first timersFirst) rfl ?_
  rw [Part.event_unheld hheld]
  exact hpost _ (fun c => by simp) (Part.conclude_grows (.refl _) s.part)

end Sys2Proof.Machine
end

section
/-! The frame of a running channel (R20 to R28, R31, R35). -/

namespace Sys2Proof.Machine

variable {pr : Profile} {x : Channel} {beta period reading : Nat} {change : Int}

/-! ### Stages 1 to 4 -/

/-- A channel after stages 1 to 4 of a frame (R21 to R23). -/
def measured (pr : Profile) (x : Channel) (reading : Nat) : Channel :=
  takeLevels pr (filterCount (takeRaw x reading) pr.countBeta)

theorem measured_eq (pr : Profile) (x : Channel) (reading : Nat) :
    measured pr x reading = { x with
      raw := min reading 4095, saturated := decide (4095 < reading)
      filtered := approach x.filtered (16 * min reading 4095) pr.countBeta
      delta := deltaOf pr.direction x.lta (approach x.filtered (16 * min reading 4095) pr.countBeta)
      level := x.lta * pr.threshold / 256
      release := x.lta * pr.threshold / 256 - x.lta * pr.threshold / 256 * pr.hysteresis / 256
      haltLevel := x.lta * pr.threshold / 256 / 2 } := rfl

/-! ### Stage 5 -/

/-- A running channel goes on running (R24). -/
theorem debounceStep_running (h : RunningChannel x) :
    (debounceStep pr x).1 = .idle ∨ (debounceStep pr x).1 = .entering ∨ (debounceStep pr x).1 = .active ∨
      (debounceStep pr x).1 = .leaving := by
  obtain h | h | h | h := h <;> simp only [debounceStep, h] <;> (repeat' split) <;> simp

/-- An IDLE channel below its level stays IDLE. -/
theorem debounceStep_idle (hidle : x.state = .idle) (hdelta : (measured pr x reading).delta < (measured pr x reading).level) :
    debounceStep pr (measured pr x reading) = (.idle, x.debounce) := by
  have hstate : (measured pr x reading).state = .idle := hidle
  simp only [debounceStep, hstate]
  rw [if_neg (Nat.not_le.mpr hdelta)]
  rfl

/-- A channel with no pending retune after stage 5. -/
def debounced (pr : Profile) (x : Channel) : Channel :=
  { x with state := (debounceStep pr x).1, debounce := (debounceStep pr x).2 }

theorem stageFive_channel (h : x.pending = false ∨ x.state = .idle) : (stageFive pr x).1 = debounced pr x := by
  simp only [stageFive, debounced]
  split
  next hentry =>
    have hpending : x.pending = false := h.resolve_right hentry.2
    simp [Part.startPending_eq, hpending]
  next => rfl

/-! ### Stages 6 to 8 -/

/-- A frame that is not halted (R26, R28). -/
theorem stagesSixToEight_free (h : x.state = .idle ∧ x.delta < x.haltLevel) :
    stagesSixToEight pr beta period change x = ({ x with lta := followLta x.lta x.filtered beta, haltTimer := 0 }, []) := by
  simp [stagesSixToEight, h]

/-- A halted frame of a channel, before the test of the halt limit (R26 to R28). -/
def halted (pr : Profile) (period : Nat) (change : Int) (x : Channel) : Channel :=
  { x with
    lta := if pr.tracking = 0 then x.lta else trackLta pr x.lta change
    haltTimer := min (x.haltTimer + period) 255000, haltTested := pr.haltLimit }

theorem stagesSixToEight_halted (h : ¬ (x.state = .idle ∧ x.delta < x.haltLevel)) :
    stagesSixToEight pr beta period change x =
      if haltReached pr (halted pr period change x) then reseed (halted pr period change x) [.notice .stuckChannel]
      else (halted pr period change x, []) := by
  simp only [stagesSixToEight, h, if_false]
  rfl

/-! ### The band check -/

/-- A channel whose band counter stands below 49 starts no retune in the frame: its counter alone changes. -/
theorem bandCheck_few (h : x.bandCount < 49) (zero : Bool) : ∃ n, bandCheck pr zero x = { x with bandCount := n } := by
  simp only [bandCheck]
  split
  · exact ⟨x.bandCount, rfl⟩
  · split
    · exact ⟨x.bandCount + 1, by rw [if_neg (by simp [Config.bandFrames]; omega)]⟩
    · exact ⟨0, rfl⟩

/-! ### The frame of a running channel -/

theorem updateChannel_running (hrun : RunningChannel x) (hwake : x.firstWake = false) :
    updateChannel pr beta period change x reading = runFrame pr beta period change x reading := by
  have hsame : { x with firstWake := false } = x := by rw [← hwake]
  simp only [updateChannel, hsame, hwake, Bool.false_eq_true, if_false]
  obtain h | h | h | h := hrun <;> simp only [h]

/-- A running channel with no pending retune, or one in IDLE, goes through every stage. -/
theorem runFrame_eq (hrun : RunningChannel x) (hpending : x.pending = false ∨ x.state = .idle) :
    runFrame pr beta period change x reading =
      (bandCheck pr (decide ((measured pr x reading).level = 0))
          (stagesSixToEight pr beta period change (debounced pr (measured pr x reading))).1,
        (stageFive pr (measured pr x reading)).2 ++
          (stagesSixToEight pr beta period change (debounced pr (measured pr x reading))).2) := by
  have hmeasured : RunningChannel (measured pr x reading) := hrun
  have hfive : (stageFive pr (measured pr x reading)).1 = debounced pr (measured pr x reading) := stageFive_channel hpending
  have hstate : (debounced pr (measured pr x reading)).state ≠ .tuning := by
    have hrunning := debounceStep_running (pr := pr) hmeasured
    simp only [debounced]
    grind
  simp only [runFrame, ← measured.eq_1, hfive, hstate, if_false]

/-- A frame that is not halted, of a channel whose band counter starts no retune. -/
theorem runFrame_free (hrun : RunningChannel x) (hpending : x.pending = false ∨ x.state = .idle) (hband : x.bandCount < 49)
    (hidle : (debounceStep pr (measured pr x reading)).1 = .idle)
    (hdelta : (measured pr x reading).delta < (measured pr x reading).haltLevel) :
    ∃ n, (runFrame pr beta period change x reading).1 = { debounced pr (measured pr x reading) with
      lta := followLta x.lta (measured pr x reading).filtered beta, haltTimer := 0, bandCount := n } := by
  have hfree := stagesSixToEight_free (pr := pr) (beta := beta) (period := period) (change := change)
    (x := debounced pr (measured pr x reading)) ⟨hidle, hdelta⟩
  rw [runFrame_eq hrun hpending, hfree]
  refine bandCheck_few ?_ _
  exact hband

/-- A halted frame that does not take the channel to its halt limit, of a channel whose band counter starts no retune. -/
theorem runFrame_halted (hrun : RunningChannel x) (hpending : x.pending = false ∨ x.state = .idle) (hband : x.bandCount < 49)
    (hhalted : (debounceStep pr (measured pr x reading)).1 ≠ .idle ∨
      (measured pr x reading).haltLevel ≤ (measured pr x reading).delta)
    (hlimit : ¬ (pr.haltLimit ≠ 0 ∧ pr.haltLimit * 1000 ≤ x.haltTimer + period)) :
    ∃ n, (runFrame pr beta period change x reading).1 =
      { halted pr period change (debounced pr (measured pr x reading)) with bandCount := n } := by
  have hreached : haltReached pr (halted pr period change (debounced pr (measured pr x reading))) = false := by
    have htimer : (halted pr period change (debounced pr (measured pr x reading))).haltTimer =
        min (x.haltTimer + period) 255000 := rfl
    rw [← Bool.not_eq_true]
    intro h
    simp only [haltReached, htimer, Bool.and_eq_true, decide_eq_true_eq] at h
    exact hlimit ⟨h.1, h.2.trans (Nat.min_le_left _ _)⟩
  have hnot : ¬ ((debounced pr (measured pr x reading)).state = .idle ∧
      (debounced pr (measured pr x reading)).delta < (debounced pr (measured pr x reading)).haltLevel) := by
    rintro ⟨hidle, hdelta⟩
    rcases hhalted with hstate | hle
    · exact hstate hidle
    · exact absurd hdelta (Nat.not_lt.mpr hle)
  rw [runFrame_eq hrun hpending, stagesSixToEight_halted hnot, hreached]
  refine bandCheck_few ?_ _
  exact hband

/-- A channel after a reseed with no pending retune (R28). -/
def reseeded (x : Channel) : Channel := { x with lta := x.filtered, state := .idle, debounce := 0, haltTimer := 0 }

theorem reseed_reseeded (hpending : x.pending = false) (l : List SfeOut) : (reseed x l).1 = reseeded x := by
  have hmark : (reseeded x).pending ≠ true := by simp [reseeded, hpending]
  rw [reseed, Part.startPending_eq]
  exact if_neg hmark

/-- A halted frame that takes the channel to its halt limit reseeds it. -/
theorem runFrame_reseeded (hrun : RunningChannel x) (hpending : x.pending = false) (hband : x.bandCount < 49)
    (hhalted : (measured pr x reading).haltLevel ≤ (measured pr x reading).delta)
    (hlimit : pr.haltLimit ≠ 0 ∧ pr.haltLimit * 1000 ≤ x.haltTimer + period ∧ pr.haltLimit ≤ 255) :
    (∃ n, (runFrame pr beta period change x reading).1 =
        { reseeded (halted pr period change (debounced pr (measured pr x reading))) with bandCount := n }) ∧
      .notice .stuckChannel ∈ (runFrame pr beta period change x reading).2 := by
  obtain ⟨hzero, hle, hmax⟩ := hlimit
  have hreached : haltReached pr (halted pr period change (debounced pr (measured pr x reading))) = true := by
    have htimer : (halted pr period change (debounced pr (measured pr x reading))).haltTimer =
        min (x.haltTimer + period) 255000 := rfl
    simp only [haltReached, htimer, Bool.and_eq_true, decide_eq_true_eq]
    omega
  have hnot : ¬ ((debounced pr (measured pr x reading)).state = .idle ∧
      (debounced pr (measured pr x reading)).delta < (debounced pr (measured pr x reading)).haltLevel) :=
    fun h => absurd h.2 (Nat.not_lt.mpr hhalted)
  rw [runFrame_eq hrun (.inl hpending), stagesSixToEight_halted hnot, hreached, if_pos rfl]
  refine ⟨?_, ?_⟩
  · have hmark : (halted pr period change (debounced pr (measured pr x reading))).pending = false := hpending
    obtain ⟨n, hn⟩ := bandCheck_few (pr := pr) (x := reseeded (halted pr period change (debounced pr (measured pr x reading))))
      hband (decide ((measured pr x reading).level = 0))
    exact ⟨n, by rw [reseed_reseeded hmark, hn]⟩
  · refine List.mem_append_right _ ?_
    rcases Part.reseed_out (halted pr period change (debounced pr (measured pr x reading))) [.notice .stuckChannel] with h | h
    · rw [h]
      simp
    · rw [h]
      simp

/-! ### The filter (R22) -/

theorem approach_up {old goal : Nat} (beta : Nat) (h : old ≤ goal) :
    approach old goal beta = old + (goal - old) / 2 ^ beta := by
  have hdistance : (Int.ofNat goal - Int.ofNat old) = ((goal - old : Nat) : Int) := by
    simp only [Int.ofNat_eq_natCast]
    omega
  rw [approach, quotient, hdistance, Int.ofNat_eq_natCast, Int.ofNat_eq_natCast, ← Int.ofNat_tdiv, ← Int.natCast_add,
    Int.toNat_natCast]

theorem approach_down {old goal : Nat} (beta : Nat) (h : goal ≤ old) :
    approach old goal beta = old - (old - goal) / 2 ^ beta := by
  have hdistance : (Int.ofNat goal - Int.ofNat old) = -((old - goal : Nat) : Int) := by
    simp only [Int.ofNat_eq_natCast]
    omega
  have hle : (old - goal) / 2 ^ beta ≤ old := (Nat.div_le_self _ _).trans (Nat.sub_le _ _)
  rw [approach, quotient, hdistance, Int.neg_tdiv, Int.ofNat_eq_natCast, Int.ofNat_eq_natCast, ← Int.ofNat_tdiv]
  omega

/-- The filter stays between the count and its goal. -/
theorem approach_between (f g beta : Nat) : min f g ≤ approach f g beta ∧ approach f g beta ≤ max f g := by
  rcases Nat.le_total f g with h | h
  · have hle : (g - f) / 2 ^ beta ≤ g - f := Nat.div_le_self _ _
    rw [approach_up beta h, Nat.min_eq_left h, Nat.max_eq_right h]
    generalize (g - f) / 2 ^ beta = n at hle
    omega
  · have hle : (f - g) / 2 ^ beta ≤ f - g := Nat.div_le_self _ _
    rw [approach_down beta h, Nat.min_eq_right h, Nat.max_eq_left h]
    generalize (f - g) / 2 ^ beta = n at hle
    omega

/-- The filter stands still exactly when its goal is nearer than one step. -/
theorem approach_eq_iff (f g beta : Nat) : approach f g beta = f ↔ distance f g < 2 ^ beta := by
  have hpos : 0 < 2 ^ beta := Nat.two_pow_pos beta
  rcases Nat.le_total f g with h | h
  · have hzero : (g - f) / 2 ^ beta = 0 ↔ g - f < 2 ^ beta := by rw [Nat.div_eq_zero_iff_lt hpos]
    rw [approach_up beta h, distance]
    omega
  · have hzero : (f - g) / 2 ^ beta = 0 ↔ f - g < 2 ^ beta := by rw [Nat.div_eq_zero_iff_lt hpos]
    have hle : (f - g) / 2 ^ beta ≤ f - g := Nat.div_le_self _ _
    rw [approach_down beta h, distance]
    omega

/-! ### A seat's channel in ACTIVE -/

namespace Part

variable {p : Part} {readings : List Nat} {c : ChannelId} {change : Int}

theorem framed_running (hrun : RunningChannel (p.channel c)) (hwake : (p.channel c).firstWake = false) (standby : Bool) :
    p.framed readings standby change c = runFrame (profileFor p c) (betaOf (profileFor p c) standby) (p.framePeriod standby)
      change (p.channel c) (readings.getD c.val 0) := updateChannel_running hrun hwake

theorem runningChannel_on (h : RunningChannel (p.channel c)) : (p.channel c).state ≠ .off := by
  obtain h | h | h | h := h <;> rw [h] <;> decide

end Part

/-- A sensing frame in ACTIVE takes a running seat's channel through the stages of its own frame. -/
theorem completes_runningFrame {s : State} {readings : List Nat} {first : List ChannelId} {timersFirst : Bool}
    {c : ChannelId} {post : Part → Prop} (hactive : s.part.pln.stage = .running ∧ s.part.pwu.power = .active)
    (hc : c.val ≠ 40) (hrun : RunningChannel (s.part.channel c)) (hwake : (s.part.channel c).firstWake = false)
    (hpost : ∀ (t : Part) (r : ChanResult), r = runFrame (profileFor s.part c) (profileFor s.part c).activeBeta
        s.part.sfe.frame (s.part.refFramed readings false).2 (s.part.channel c) (readings.getD c.val 0) →
      t.channel c = r.1 → t.channel 40 = (s.part.refFramed readings false).1.1 →
      (∀ m, .notice m ∈ r.2 → ∀ q, (t.port q).flags &&& 4 ≠ 0 ∧ (t.port q).causes &&& m.bit ≠ 0) → post t) :
    Completes (.sensingFrame readings first timersFirst) s post := by
  obtain ⟨hstage, hpower⟩ := hactive
  refine completes_sensingFrame (Part.isHeld_running hstage) fun t ht hnotices => ?_
  have hstandby : decide (s.part.pwu.power = .standby) = false := by simp [hpower]
  have hframe := Part.sensingFrame_channel (p := s.part) (readings := readings) (first := first) (timersFirst := timersFirst)
    hc (Part.runningChannel_on hrun) (.inl (by simp [hpower]))
  have hreference := Part.sensingFrame_reference (p := s.part) (readings := readings) (first := first)
    (timersFirst := timersFirst)
  rw [hstandby] at hframe hreference
  rw [Part.framed_running hrun hwake] at hframe
  obtain ⟨hchannel, hraised⟩ := hframe
  refine hpost t _ rfl ((ht c).trans hchannel) ((ht 40).trans hreference.1) fun m hm q => ?_
  obtain ⟨hflag, hcause⟩ := hraised m hm q
  exact ⟨hnotices.flag hflag, hnotices.cause hcause⟩

/-- Settles O9: an IDLE channel below its halt level stays IDLE through stage 5, follows in stage 6, and its band counter
starts no retune; the filter is truncated division. -/
theorem sensingFrameOfIdleChannel : Obligations.SensingFrameOfIdleChannel := by
  unfold Obligations.SensingFrameOfIdleChannel
  refine ⟨fun readings first timersFirst c s hactive hc ⟨hidle, hwake, hband⟩ hdelta => ?_, fun f r bc =>
    ⟨approach_between f (16 * r) bc, approach_eq_iff f (16 * r) bc⟩⟩
  refine completes_runningFrame hactive hc (.inl hidle) hwake fun t r hr hchannel _ _ => ?_
  have hstay : debounceStep (profileFor s.part c) (measured (profileFor s.part c) (s.part.channel c) (readings.getD c.val 0)) =
      (.idle, (s.part.channel c).debounce) := debounceStep_idle hidle (hdelta.trans_le (Nat.div_le_self _ _))
  obtain ⟨n, hframe⟩ := runFrame_free (beta := (profileFor s.part c).activeBeta) (period := s.part.sfe.frame)
    (change := (s.part.refFramed readings false).2) (.inl hidle) (.inr hidle) hband (by rw [hstay]) hdelta
  rw [hchannel, hr, hframe, debounced, hstay]
  exact ⟨rfl, rfl, rfl, rfl, rfl, rfl, rfl, rfl, rfl⟩

end Sys2Proof.Machine
end

section
/-! The moves of a running channel in a sensing frame of ACTIVE (R24 to R28, R31, R35). -/

namespace Sys2Proof.Machine

variable {pr : Profile} {x : Channel} {beta period reading : Nat} {change : Int}

/-! ### The table of R24 -/

theorem debounceOf_le_succ (n d : Nat) : debounceOf n ≤ d + 1 ↔ n ≤ d + 1 := by
  rw [debounceOf]
  omega

theorem debounceStep_of_idle (h : x.state = .idle) : debounceStep pr x =
    if x.level ≤ x.delta then (if pr.enter ≤ 1 then (.active, 0) else (.entering, 1)) else (.idle, x.debounce) := by
  simp only [debounceStep, h, debounceOf_le_succ pr.enter 0]

theorem debounceStep_of_entering (h : x.state = .entering) : debounceStep pr x =
    if x.level ≤ x.delta then (if pr.enter ≤ x.debounce + 1 then (.active, 0) else (.entering, x.debounce + 1))
    else (.idle, 0) := by
  simp only [debounceStep, h, debounceOf_le_succ]

theorem debounceStep_of_active (h : x.state = .active) : debounceStep pr x =
    if x.delta < x.release then (if pr.exit ≤ 1 then (.idle, 0) else (.leaving, 1)) else (.active, x.debounce) := by
  simp only [debounceStep, h, debounceOf_le_succ pr.exit 0]

theorem debounceStep_of_leaving (h : x.state = .leaving) : debounceStep pr x =
    if x.delta < x.release then (if pr.exit ≤ x.debounce + 1 then (.idle, 0) else (.leaving, x.debounce + 1))
    else (.active, 0) := by
  simp only [debounceStep, h, debounceOf_le_succ]

/-! ### Reference tracking (R27) -/

theorem trackLta_zero (pr : Profile) (l : Nat) : trackLta pr l 0 = min l 65520 := by
  have hzero : quotient (0 * Int.ofNat pr.tracking) 64 = 0 := by simp [quotient]
  rw [trackLta, hzero]
  cases pr.sign <;> simp [Config.maxCount]

theorem trackLta_eq (pr : Profile) (l : Nat) (change : Int) : trackLta pr l change = min
    (match pr.sign with
      | .same => (l : Int) + Int.tdiv (change * pr.tracking) 64
      | .opposite => (l : Int) - Int.tdiv (change * pr.tracking) 64).toNat 65520 := by
  rw [trackLta]
  cases pr.sign <;> simp [quotient, Config.maxCount]

/-! ### The reference channel (R27, R30) -/

theorem updateReference_idle (h : x.state = .idle) : updateReference pr beta x reading =
    ((bandCheck pr false { x with
        raw := min reading 4095, saturated := decide (4095 < reading)
        filtered := approach x.filtered (16 * min reading 4095) pr.countBeta
        lta := followLta x.lta (approach x.filtered (16 * min reading 4095) pr.countBeta) beta }, []),
      (approach x.filtered (16 * min reading 4095) pr.countBeta : Int) - x.filtered) := by
  unfold updateReference
  split
  next hoff => simp [h] at hoff
  next htuning => simp [h] at htuning
  next hfault => simp [h] at hfault
  next => rfl

namespace Part

variable {p : Part} {readings : List Nat} {standby : Bool}

/-- The reference channel's change of F is 0 in a frame in which it does not run (R27). -/
theorem refFramed_change_zero
    (h : (p.channel 40).state = .off ∨ (p.channel 40).state = .tuning ∨ (p.channel 40).state = .fault) :
    (p.refFramed readings standby).2 = 0 := by
  obtain h | h | h := h <;> simp only [refFramed, updateReference, h]

/-- An idle reference channel whose band counter starts no retune passes on its change of F (R27, R30). -/
theorem refFramed_idle (h : (p.channel 40).state = .idle) :
    (p.refFramed readings standby).2 = (nextFiltered p readings 40 : Int) - (p.channel 40).filtered ∧
      (p.refFramed readings standby).1 = (bandCheck p.sfe.reference false
        { p.channel 40 with
          raw := frameCount readings 40, saturated := decide (4095 < readings.getD 40 0)
          filtered := nextFiltered p readings 40
          lta := followLta (p.channel 40).lta (nextFiltered p readings 40) (betaOf p.sfe.reference standby) }, []) := by
  rw [refFramed, updateReference_idle h]
  exact ⟨rfl, rfl⟩

end Part

/-- What a frame makes of a running channel that it neither reseeds nor takes into a retune, by the value of the halted
test. -/
theorem runFrame_moves (hrun : RunningChannel x) (hpending : x.pending = false) (hband : x.bandCount < 49)
    (hlimit : ¬ (pr.haltLimit ≠ 0 ∧ pr.haltLimit * 1000 ≤ x.haltTimer + period)) :
    ((debounceStep pr (measured pr x reading)).1 = .idle ∧
        (measured pr x reading).delta < (measured pr x reading).haltLevel ∧
        ∃ n, (runFrame pr beta period change x reading).1 = { debounced pr (measured pr x reading) with
          lta := followLta x.lta (measured pr x reading).filtered beta, haltTimer := 0, bandCount := n }) ∨
      (((debounceStep pr (measured pr x reading)).1 ≠ .idle ∨
          (measured pr x reading).haltLevel ≤ (measured pr x reading).delta) ∧
        ∃ n, (runFrame pr beta period change x reading).1 =
          { halted pr period change (debounced pr (measured pr x reading)) with bandCount := n }) := by
  by_cases hfree : (debounceStep pr (measured pr x reading)).1 = .idle ∧
      (measured pr x reading).delta < (measured pr x reading).haltLevel
  · exact .inl ⟨hfree.1, hfree.2, runFrame_free hrun (.inl hpending) hband hfree.1 hfree.2⟩
  · have hhalted : (debounceStep pr (measured pr x reading)).1 ≠ .idle ∨
        (measured pr x reading).haltLevel ≤ (measured pr x reading).delta := by
      by_contra h
      exact hfree ⟨by tauto, by omega⟩
    exact .inr ⟨hhalted, runFrame_halted hrun (.inl hpending) hband hhalted hlimit⟩

/-- The halted frame's long-term average, by the profile and the reference channel's change (R27). -/
theorem halted_lta (pr : Profile) (period : Nat) (change : Int) (x : Channel) :
    (halted pr period change x).lta = if pr.tracking = 0 then x.lta else trackLta pr x.lta change := rfl

variable {s : State} {readings : List Nat} {first : List ChannelId} {timersFirst : Bool} {c : ChannelId}

/-- What a frame in ACTIVE makes of a running channel, measured as y, that it neither reseeds nor takes into a retune: free,
or halted. -/
def ChannelMoves (p : Part) (readings : List Nat) (c : ChannelId) (y t : Channel) : Prop :=
  ((debounceStep (profileFor p c) y).1 = .idle ∧ y.delta < y.haltLevel ∧
      ∃ n, t = { debounced (profileFor p c) y with
        lta := followLta (p.channel c).lta y.filtered (profileFor p c).activeBeta, haltTimer := 0, bandCount := n }) ∨
    (((debounceStep (profileFor p c) y).1 ≠ .idle ∨ y.haltLevel ≤ y.delta) ∧
      ∃ n, t = { halted (profileFor p c) p.sfe.frame (p.refFramed readings false).2 (debounced (profileFor p c) y) with
        bandCount := n })

theorem completes_channelMoves (hactive : s.part.pln.stage = .running ∧ s.part.pwu.power = .active) (hc : c.val ≠ 40)
    (hrun : RunningChannel (s.part.channel c)) (hwake : (s.part.channel c).firstWake = false)
    (hpending : (s.part.channel c).pending = false) (hband : (s.part.channel c).bandCount < 49)
    (hlimit : ¬ ReachesHaltLimit s.part c s.part.sfe.frame) :
    Completes (.sensingFrame readings first timersFirst) s fun t =>
      ∃ y, y = measured (profileFor s.part c) (s.part.channel c) (readings.getD c.val 0) ∧
        ChannelMoves s.part readings c y (t.channel c) ∧
        t.channel 40 = (s.part.refFramed readings false).1.1 := by
  refine completes_runningFrame hactive hc hrun hwake fun t r hr hchannel href _ => ⟨_, rfl, ?_, href⟩
  rw [hchannel, hr]
  exact runFrame_moves hrun hpending hband hlimit

/-- What a frame makes of the channel's records, given the two outcomes of the halted test. -/
theorem channelMoves_post {t : Part} {y : Channel}
    (hy : y = measured (profileFor s.part c) (s.part.channel c) (readings.getD c.val 0))
    (hmoves : ChannelMoves s.part readings c y (t.channel c)) :
    ((t.channel c).raw = frameCount readings c ∧ (t.channel c).saturated = decide (4095 < readings.getD c.val 0) ∧
        (t.channel c).filtered = nextFiltered s.part readings c ∧ (t.channel c).delta = nextDelta s.part readings c ∧
        (t.channel c).level = thresholdOf s.part c ∧ (t.channel c).release = releaseOf s.part c ∧
        (t.channel c).haltLevel = thresholdOf s.part c / 2) ∧
      (t.channel c).state = (debounceStep (profileFor s.part c) y).1 ∧
      (t.channel c).debounce = (debounceStep (profileFor s.part c) y).2 := by
  subst hy
  obtain ⟨-, -, n, h⟩ | ⟨-, n, h⟩ := hmoves
  · rw [h]
    exact ⟨⟨rfl, rfl, rfl, rfl, rfl, rfl, rfl⟩, rfl, rfl⟩
  · rw [h]
    exact ⟨⟨rfl, rfl, rfl, rfl, rfl, rfl, rfl⟩, rfl, rfl⟩

theorem channelMoves_free {t : Part} {y : Channel}
    (hy : y = measured (profileFor s.part c) (s.part.channel c) (readings.getD c.val 0))
    (hmoves : ChannelMoves s.part readings c y (t.channel c))
    (hidle : (t.channel c).state = .idle) (hdelta : nextDelta s.part readings c < thresholdOf s.part c / 2) :
    (t.channel c).haltTimer = 0 ∧
      (t.channel c).lta = followLta (s.part.channel c).lta (t.channel c).filtered (profileFor s.part c).activeBeta := by
  have hstate := (channelMoves_post hy hmoves).2.1
  subst hy
  obtain ⟨-, -, n, h⟩ | ⟨hhalted, -⟩ := hmoves
  · rw [h]
    exact ⟨rfl, rfl⟩
  · rcases hhalted with hleft | hle
    · exact absurd (hstate.symm.trans hidle) hleft
    · exact absurd hdelta (Nat.not_lt.mpr hle)

theorem channelMoves_halted {t : Part} {y : Channel}
    (hy : y = measured (profileFor s.part c) (s.part.channel c) (readings.getD c.val 0))
    (hmoves : ChannelMoves s.part readings c y (t.channel c))
    (hhalted : (t.channel c).state ≠ .idle ∨ thresholdOf s.part c / 2 ≤ nextDelta s.part readings c) :
    (t.channel c).haltTimer = min ((s.part.channel c).haltTimer + s.part.sfe.frame) 255000 ∧
      (t.channel c).lta = if (profileFor s.part c).tracking = 0 then (s.part.channel c).lta
        else trackLta (profileFor s.part c) (s.part.channel c).lta (s.part.refFramed readings false).2 := by
  have hstate := (channelMoves_post hy hmoves).2.1
  subst hy
  obtain ⟨hidle, hdelta, -⟩ | ⟨-, n, h⟩ := hmoves
  · rcases hhalted with hleft | hle
    · exact absurd (hstate.trans hidle) hleft
    · exact absurd hdelta (Nat.not_lt.mpr hle)
  · rw [h]
    exact ⟨rfl, rfl⟩

/-! ### The band check (R31, R35) -/

/-- A channel after its band counter has counted a frame: at 50 its retune starts. -/
def bandCounted (x : Channel) : Channel :=
  if 49 ≤ x.bandCount then startRetune { x with bandCount := x.bandCount + 1 } else { x with bandCount := x.bandCount + 1 }

theorem bandCheck_counts (hrun : RunningChannel x) {zero : Bool}
    (h : zero = true ∨ (x.state = .idle ∧ ¬ InBand pr (x.lta / 16))) : bandCheck pr zero x = bandCounted x := by
  have hstate : ¬ (x.state = .off ∨ x.state = .tuning ∨ x.state = .fault) := by
    obtain h | h | h | h := hrun <;> simp [h]
  have hcounts : zero = true ∨ (x.state = .idle ∧ inBand pr (x.lta / 16) = false) :=
    h.imp_right fun ⟨hidle, hband⟩ => ⟨hidle, by rw [← Bool.not_eq_true, Part.inBand_iff]; exact hband⟩
  simp only [bandCheck, bandCounted, hstate, if_false, hcounts, if_true, Config.bandFrames]
  have hlimit : 50 ≤ x.bandCount + 1 ↔ 49 ≤ x.bandCount := by omega
  simp only [hlimit]

theorem bandCheck_clears (hrun : RunningChannel x) {zero : Bool}
    (h : zero = false ∧ (x.state ≠ .idle ∨ InBand pr (x.lta / 16))) : bandCheck pr zero x = { x with bandCount := 0 } := by
  have hstate : ¬ (x.state = .off ∨ x.state = .tuning ∨ x.state = .fault) := by
    obtain h | h | h | h := hrun <;> simp [h]
  have hcounts : ¬ (zero = true ∨ (x.state = .idle ∧ inBand pr (x.lta / 16) = false)) := by
    obtain ⟨hzero, hidle | hband⟩ := h
    · simp [hzero, hidle]
    · simp [hzero, Part.inBand_iff.mpr hband]
  simp only [bandCheck, hstate, if_false, hcounts]

theorem bandCounted_few (h : x.bandCount < 49) : bandCounted x = { x with bandCount := x.bandCount + 1 } :=
  if_neg (Nat.not_le.mpr h)

theorem bandCounted_full (h : 49 ≤ x.bandCount) :
    bandCounted x = startRetune { x with bandCount := x.bandCount + 1 } := if_pos h

/-- Stages 6 to 8 leave the band counter, and a channel with no pending retune runs on. -/
theorem stagesSixToEight_running (hrun : RunningChannel x) (hpending : x.pending = false) :
    RunningChannel (stagesSixToEight pr beta period change x).1 ∧
      (stagesSixToEight pr beta period change x).1.bandCount = x.bandCount := by
  by_cases hfree : x.state = .idle ∧ x.delta < x.haltLevel
  · rw [stagesSixToEight_free hfree]
    exact ⟨hrun, rfl⟩
  · rw [stagesSixToEight_halted hfree]
    split
    · rw [reseed_reseeded (x := halted pr period change x) hpending]
      exact ⟨.inl rfl, rfl⟩
    · exact ⟨hrun, rfl⟩

/-- The frame of a running channel ends with the band check of a channel that runs on, at the band counter found. -/
theorem runFrame_bandCheck (hrun : RunningChannel x) (hpending : x.pending = false) :
    ∃ z, RunningChannel z ∧ z.bandCount = x.bandCount ∧ (runFrame pr beta period change x reading).1 =
      bandCheck pr (decide (x.lta * pr.threshold / 256 = 0)) z := by
  have hdebounced : RunningChannel (debounced pr (measured pr x reading)) := debounceStep_running hrun
  obtain ⟨hz, hcount⟩ := stagesSixToEight_running (pr := pr) (beta := beta) (period := period) (change := change)
    hdebounced hpending
  exact ⟨_, hz, hcount, by rw [runFrame_eq hrun (.inl hpending)]; rfl⟩

/-- A running channel after its band check, by the state that it ends the frame in. -/
theorem bandCheck_post {z : Channel} (hz : RunningChannel z) {t : Channel} {n : Nat} (ht : t = bandCheck pr (decide (n = 0)) z) :
    (n = 0 → (z.bandCount < 49 → t.bandCount = z.bandCount + 1) ∧
        (49 ≤ z.bandCount → t.state = .tuning ∧ t.step = 0 ∧ t.bandCount = 0)) ∧
      (n ≠ 0 → t.state = .idle → t.bandCount = if InBand pr (t.lta / 16) then 0 else z.bandCount + 1) ∧
      (n ≠ 0 → (t.state = .entering ∨ t.state = .active ∨ t.state = .leaving) → t.bandCount = 0) := by
  subst ht
  refine ⟨fun hzero => ?_, fun hlevel => ?_, fun hlevel => ?_⟩
  · rw [bandCheck_counts hz (.inl (decide_eq_true hzero))]
    refine ⟨fun hfew => by rw [bandCounted_few hfew], fun hfull => ?_⟩
    rw [bandCounted_full hfull]
    exact ⟨rfl, rfl, rfl⟩
  · by_cases hclear : z.state ≠ .idle ∨ InBand pr (z.lta / 16)
    · rw [bandCheck_clears hz ⟨decide_eq_false hlevel, hclear⟩]
      exact fun hidle => (if_pos (hclear.resolve_left (not_not_intro hidle))).symm
    · rw [not_or, not_not] at hclear
      rw [bandCheck_counts hz (.inr hclear)]
      by_cases hfew : z.bandCount < 49
      · rw [bandCounted_few hfew]
        exact fun _ => (if_neg hclear.2).symm
      · rw [bandCounted_full (Nat.not_lt.mp hfew)]
        exact fun hidle => nomatch hidle
  · by_cases hclear : z.state ≠ .idle ∨ InBand pr (z.lta / 16)
    · rw [bandCheck_clears hz ⟨decide_eq_false hlevel, hclear⟩]
      exact fun _ => rfl
    · rw [not_or, not_not] at hclear
      rw [bandCheck_counts hz (.inr hclear)]
      by_cases hfew : z.bandCount < 49
      · rw [bandCounted_few hfew]
        intro hstate
        simp [hclear.1] at hstate
      · rw [bandCounted_full (Nat.not_lt.mp hfew)]
        intro hstate
        simp [startRetune] at hstate

/-- An IDLE channel below its halt level whose average leaves the band for the 50th time starts its retune. -/
theorem runFrame_retune (hidle : x.state = .idle)
    (hdelta : (measured pr x reading).delta < (measured pr x reading).haltLevel)
    (hband : ¬ InBand pr (followLta x.lta (measured pr x reading).filtered beta / 16)) (hfull : 49 ≤ x.bandCount) :
    (runFrame pr beta period change x reading).1.state = .tuning ∧
      (runFrame pr beta period change x reading).1.held = .inactive ∧
      (runFrame pr beta period change x reading).1.step = 0 ∧ (runFrame pr beta period change x reading).1.bandCount = 0 := by
  have hstay := debounceStep_idle (pr := pr) (reading := reading) hidle (hdelta.trans_le (Nat.div_le_self _ _))
  have hstate : (debounced pr (measured pr x reading)).state = .idle := by rw [debounced, hstay]
  have hfree := stagesSixToEight_free (pr := pr) (beta := beta) (period := period) (change := change)
    (x := debounced pr (measured pr x reading)) ⟨hstate, hdelta⟩
  have hcounts := bandCheck_counts (pr := pr) (zero := decide ((measured pr x reading).level = 0))
    (x := { debounced pr (measured pr x reading) with
      lta := followLta x.lta (measured pr x reading).filtered beta, haltTimer := 0 }) (.inl hstate) (.inr ⟨hstate, hband⟩)
  rw [runFrame_eq (.inl hidle) (.inr hidle), hfree]
  have hcheck : (bandCheck pr (decide ((measured pr x reading).level = 0)) { debounced pr (measured pr x reading) with
      lta := followLta x.lta (measured pr x reading).filtered beta, haltTimer := 0 }) = _ :=
    hcounts.trans (bandCounted_full hfull)
  have hheld : Part.outcomeOf (debounced pr (measured pr x reading)) = .inactive := by
    rw [Part.outcomeOf, hstate]
    rfl
  exact ⟨congrArg Channel.state hcheck, (congrArg Channel.held hcheck).trans hheld, congrArg Channel.step hcheck,
    congrArg Channel.bandCount hcheck⟩

/-- Settles O10: the stages of a running channel one by one, with the table of R24 by state, the halted test, the halt
limit's reseed, and the band check last. -/
theorem sensingFrameMovesChannel : Obligations.SensingFrameMovesChannel := by
  unfold Obligations.SensingFrameMovesChannel
  refine ⟨fun readings first timersFirst c s hactive hc hrun ⟨hwake, hpending, hband⟩ hlimit => ?_,
    fun readings first timersFirst c s hactive hc hrun ⟨hwake, hpending, hband⟩ ⟨hlimit, hmax⟩ hhalted => ?_,
    fun readings first timersFirst c s hactive hc hrun ⟨hwake, hpending⟩ => ?_⟩
  · refine (completes_channelMoves hactive hc hrun hwake hpending hband hlimit).mono ?_
    rintro t ⟨y, hy, hmoves, href⟩
    obtain ⟨hrecords, hstate, hdebounce⟩ := channelMoves_post hy hmoves
    refine ⟨hrecords, fun h => ?_, fun h => ?_, fun h => ?_, fun h => ?_, fun hidle hdelta => ?_, fun hhalted => ?_⟩
    · rw [hstate, hdebounce, debounceStep_of_idle (by rw [hy]; exact h), hy]
      rfl
    · rw [hstate, hdebounce, debounceStep_of_entering (by rw [hy]; exact h), hy]
      rfl
    · rw [hstate, hdebounce, debounceStep_of_active (by rw [hy]; exact h), hy]
      rfl
    · rw [hstate, hdebounce, debounceStep_of_leaving (by rw [hy]; exact h), hy]
      rfl
    · exact channelMoves_free hy hmoves hidle hdelta
    · obtain ⟨htimer, hlta⟩ := channelMoves_halted hy hmoves hhalted
      refine ⟨htimer, fun hnone => by rw [hlta, if_pos hnone], fun htracks hoff => ?_, fun htracks hridle hrfew => ?_⟩
      · rw [hlta, if_neg htracks, Part.refFramed_change_zero hoff, trackLta_zero]
      · obtain ⟨n, hcheck⟩ := bandCheck_few (pr := s.part.sfe.reference) (x := { s.part.channel 40 with
          raw := frameCount readings 40, saturated := decide (4095 < readings.getD 40 0)
          filtered := nextFiltered s.part readings 40
          lta := followLta (s.part.channel 40).lta (nextFiltered s.part readings 40)
            (Part.betaOf s.part.sfe.reference false) }) hrfew false
        obtain ⟨hchange, hresult⟩ := Part.refFramed_idle (readings := readings) (standby := false) hridle
        have hfiltered : (t.channel 40).filtered = nextFiltered s.part readings 40 := by
          rw [href, hresult, hcheck]
        rw [hlta, if_neg htracks, hchange, hfiltered]
        exact trackLta_eq _ _ _
  · refine completes_runningFrame hactive hc hrun hwake fun t r hr hchannel _ hnotices => ?_
    obtain ⟨⟨n, hframe⟩, hnotice⟩ := runFrame_reseeded (beta := (profileFor s.part c).activeBeta)
      (period := s.part.sfe.frame) (change := (s.part.refFramed readings false).2) hrun hpending hband hhalted
      ⟨hlimit.1, hlimit.2, hmax⟩
    rw [← hr] at hnotice
    refine ⟨?_, ?_, ?_, ?_, ?_, hnotices _ hnotice⟩ <;> rw [hchannel, hr, hframe] <;> rfl
  · refine completes_runningFrame hactive hc hrun hwake fun t r hr hchannel _ _ => ?_
    obtain ⟨z, hz, hcount, hframe⟩ := runFrame_bandCheck (pr := profileFor s.part c)
      (beta := (profileFor s.part c).activeBeta) (period := s.part.sfe.frame)
      (change := (s.part.refFramed readings false).2) (reading := readings.getD c.val 0) hrun hpending
    obtain ⟨hzero, hidle, hother⟩ := bandCheck_post hz ((hchannel.trans (congrArg Prod.fst hr)).trans hframe)
    rw [hcount] at hzero hidle
    refine ⟨hzero, hidle, hother, fun _ hstate hdelta hout hfull => ?_⟩
    rw [hchannel, hr]
    exact runFrame_retune hstate hdelta hout hfull

end Sys2Proof.Machine
end

section
/-! The frame of a channel that does not run: the reference channel, a search, FAULT, STANDBY and the first WAKING frame
(R20, R30 to R33, R39, R41, R42). -/

namespace Sys2Proof.Machine

variable {pr : Profile} {x : Channel} {beta period reading : Nat} {change : Int}

/-! ### The update of a channel by its state -/

theorem updateChannel_tuning (h : x.state = .tuning) :
    updateChannel pr beta period change x reading = tuningFrame pr { x with firstWake := false } reading := by
  have hnone : firstWakeFrame pr { x with firstWake := false } reading = none := by simp only [firstWakeFrame, h]
  simp only [updateChannel, hnone, ite_self]
  simp only [h]

theorem updateChannel_fault (h : x.state = .fault) (hwake : x.firstWake = false) :
    updateChannel pr beta period change x reading = (faultFrame pr x reading, []) := by
  have hsame : { x with firstWake := false } = x := by rw [← hwake]
  simp only [updateChannel, hwake, hsame, Bool.false_eq_true, if_false]
  simp only [h]

/-- The first WAKING frame of an IDLE key channel (R42). -/
theorem updateChannel_firstWake (h : x.state = .idle) (hwake : x.firstWake = true) (hpending : x.pending = false) :
    updateChannel pr beta period change x reading = ({ x with
      raw := min reading 4095, saturated := decide (4095 < reading)
      filtered := 16 * min reading 4095, lta := 16 * min reading 4095
      debounce := 0, haltTimer := 0, bandCount := 0, firstWake := false }, []) := by
  have hframe : firstWakeFrame pr { x with firstWake := false } reading = some ({ x with
      raw := min reading 4095, saturated := decide (4095 < reading)
      filtered := 16 * min reading 4095, lta := 16 * min reading 4095
      debounce := 0, haltTimer := 0, bandCount := 0, firstWake := false }, []) := by
    unfold firstWakeFrame
    split
    next =>
      rw [if_neg (by simp [hpending])]
      rfl
    next hfault => simp [h] at hfault
    next hidle _ => exact absurd h hidle
  simp only [updateChannel, hwake, if_true, hframe]

/-- The first WAKING frame of a key channel with its pending mark (R42). -/
theorem updateChannel_firstWake_pending (h : x.state = .idle ∨ x.state = .fault) (hwake : x.firstWake = true)
    (hpending : x.pending = true) : updateChannel pr beta period change x reading =
      tuningFrame pr (startRetune { x with firstWake := false }) reading := by
  have hframe : firstWakeFrame pr { x with firstWake := false } reading =
      some (tuningFrame pr (startRetune { x with firstWake := false }) reading) := by
    obtain h | h := h <;> simp only [firstWakeFrame, h, hpending, if_true]
  simp only [updateChannel, hwake, if_true, hframe]

/-! ### A search step (R32) -/

/-- The step of a search, with the best trial after it. -/
theorem betterTrial_eq (target : Nat) (best : Option (Nat × Nat)) (v r : Nat) : betterTrial target best v r =
    match best with
    | none => (v, r)
    | some a =>
      if distance r target < distance a.2 target ∨ (distance r target = distance a.2 target ∧ v < a.1) then (v, r) else a := by
  cases best with
  | none => rfl
  | some a =>
    simp only [betterTrial]
    by_cases hnear : distance r target < distance a.2 target
    · simp [hnear]
    · simp [hnear]

theorem tuningFrame_searches (h : x.step < 7) : tuningFrame pr x reading = (searchStep pr x reading, []) := by
  have hstep : (searchStep pr x reading).step = x.step + 1 := rfl
  simp only [tuningFrame, hstep]
  rw [if_neg (by omega)]

theorem tuningFrame_completes (h : x.step = 7) :
    tuningFrame pr x reading = completeRetune pr (searchStep pr x reading) := by
  have hstep : (searchStep pr x reading).step = x.step + 1 := rfl
  simp only [tuningFrame, hstep]
  rw [if_pos (by omega)]

theorem searchStep_eq (pr : Profile) (x : Channel) (reading : Nat) {v : Nat} (hv : v = x.kept + 2 ^ (7 - x.step)) :
    searchStep pr x reading = { x with
      raw := min reading 4095, saturated := decide (4095 < reading), step := x.step + 1, trial := v
      kept := if pr.target < min reading 4095 then x.kept else v
      best := some (betterTrial pr.target x.best v (min reading 4095)) } := by
  have hweight : stepWeight (x.step + 1) = 2 ^ (7 - x.step) := by
    rw [stepWeight]
    congr 1
    omega
  simp only [searchStep, hweight, ← hv]
  rfl

theorem tuningFrame_steps {t : Channel} {v : Nat} {b : Nat × Nat} (ht : t = (tuningFrame pr x reading).1)
    (hstep : x.step < 7) (htuning : x.state = .tuning) (hv : v = x.kept + 2 ^ (7 - x.step))
    (hb : b = betterTrial pr.target x.best v (min reading 4095)) :
    t.state = .tuning ∧ t.step = x.step + 1 ∧ t.trial = v ∧ t.raw = min reading 4095 ∧ t.best = some b ∧
      t.kept = (if pr.target < min reading 4095 then x.kept else v) ∧ t.filtered = x.filtered ∧ t.lta = x.lta ∧
      t.held = x.held := by
  rw [ht, tuningFrame_searches hstep, searchStep_eq _ _ _ hv, hb]
  exact ⟨htuning, rfl, rfl, rfl, rfl, rfl, rfl, rfl, rfl⟩

theorem tuningFrame_ends {t : Channel} {v : Nat} {b : Nat × Nat} (ht : t = (tuningFrame pr x reading).1)
    (hstep : x.step = 7) (hpending : x.pending = false) (hv : v = x.kept + 2 ^ (7 - x.step))
    (hb : b = betterTrial pr.target x.best v (min reading 4095)) :
    t.tune = b.1 ∧ t.raw = b.2 ∧ t.step = 0 ∧
      (InBand pr b.2 → t.state = .idle ∧ t.result = .good ∧ t.filtered = 16 * b.2 ∧ t.lta = 16 * b.2) ∧
      (¬ InBand pr b.2 → t.state = .fault ∧ t.result = .outOfBand ∧ t.filtered = x.filtered ∧ t.lta = x.lta ∧
        .notice .retuneFailed ∈ (tuningFrame pr x reading).2) := by
  have hbest : (searchStep pr x reading).best = some (b.1, b.2) := by
    rw [searchStep_eq _ _ _ hv, hb]
  rw [ht, tuningFrame_completes hstep]
  by_cases hin : InBand pr b.2
  · rw [Part.completeRetune_good hbest hpending hin]
    exact ⟨rfl, rfl, rfl, fun _ => ⟨rfl, rfl, rfl, rfl⟩, fun hout => absurd hin hout⟩
  · obtain ⟨hnew, hnotice⟩ := Part.completeRetune_fault hbest (Nat.lt_of_not_le hin)
    rw [hnew]
    exact ⟨rfl, rfl, rfl, fun h => absurd h hin, fun _ => ⟨rfl, rfl, rfl, rfl, hnotice⟩⟩

namespace Part

variable {p : Part} {readings : List Nat} {c : ChannelId} {standby : Bool}

theorem kindOf_keyChannel : ∀ i, kindOf (keyChannel i) = .key := by decide

theorem kindOf_proximityChannel : ∀ i, kindOf (proximityChannel i) = .proximity := by decide

theorem refFramed_tuning (h : (p.channel 40).state = .tuning) :
    (p.refFramed readings standby).1 = tuningFrame p.sfe.reference (p.channel 40) (readings.getD 40 0) := by
  unfold refFramed updateReference
  split
  next hoff => simp [h] at hoff
  next => rfl
  next hfault => simp [h] at hfault
  next _ htuning _ => exact absurd h htuning

theorem refFramed_fault (h : (p.channel 40).state = .fault) :
    (p.refFramed readings standby).1 = (faultFrame p.sfe.reference (p.channel 40) (readings.getD 40 0), []) := by
  unfold refFramed updateReference
  split
  next hoff => simp [h] at hoff
  next htuning => simp [h] at htuning
  next => rfl
  next _ _ hfault => exact absurd h hfault

end Part

variable {s : State} {readings : List Nat} {first : List ChannelId} {timersFirst : Bool} {c : ChannelId}

/-- A measured channel in TUNING takes one frame of its search, the reference channel included. -/
theorem completes_tuningFrame {post : Part → Prop} (hheld : s.part.isHeld = false)
    (htuning : (s.part.channel c).state = .tuning) (hawake : s.part.pwu.power ≠ .standby ∨ Part.kindOf c ≠ .key)
    (hpost : ∀ (t : Part) (w : Bool) (r : ChanResult),
      r = tuningFrame (profileFor s.part c) { s.part.channel c with firstWake := w } (readings.getD c.val 0) →
      t.channel c = r.1 →
      (∀ m, .notice m ∈ r.2 → ∀ q, (t.port q).flags &&& 4 ≠ 0 ∧ (t.port q).causes &&& m.bit ≠ 0) → post t) :
    Completes (.sensingFrame readings first timersFirst) s post := by
  refine completes_sensingFrame hheld fun t ht hnotices => ?_
  by_cases hc : c.val = 40
  · obtain rfl : c = 40 := Fin.ext hc
    obtain ⟨hchannel, hraised⟩ := Part.sensingFrame_reference (p := s.part) (readings := readings) (first := first)
      (timersFirst := timersFirst)
    rw [Part.refFramed_tuning htuning] at hchannel hraised
    refine hpost t (s.part.channel 40).firstWake _ rfl ((ht 40).trans hchannel) fun m hm q => ?_
    obtain ⟨hflag, hcause⟩ := hraised m hm q
    exact ⟨hnotices.flag hflag, hnotices.cause hcause⟩
  · have hframe := Part.sensingFrame_channel (p := s.part) (readings := readings) (first := first)
      (timersFirst := timersFirst) hc (by rw [htuning]; decide) hawake
    rw [Part.framed, updateChannel_tuning htuning] at hframe
    obtain ⟨hchannel, hraised⟩ := hframe
    refine hpost t false _ rfl ((ht c).trans hchannel) fun m hm q => ?_
    obtain ⟨hflag, hcause⟩ := hraised m hm q
    exact ⟨hnotices.flag hflag, hnotices.cause hcause⟩

/-- The reference channel in IDLE (R30, R35, R41). -/
theorem completes_referenceFrame (hheld : s.part.isHeld = false) (hidle : (s.part.channel 40).state = .idle)
    (hband : (s.part.channel 40).bandCount < 49) :
    Completes (.sensingFrame readings first timersFirst) s fun t =>
      t.channel 40 = { s.part.channel 40 with
        raw := frameCount readings 40, saturated := decide (4095 < readings.getD 40 0)
        filtered := nextFiltered s.part readings 40
        lta := followLta (s.part.channel 40).lta (nextFiltered s.part readings 40)
          (if s.part.pwu.power = .standby then s.part.sfe.reference.standbyBeta else s.part.sfe.reference.activeBeta)
        bandCount := if InBand s.part.sfe.reference
            (followLta (s.part.channel 40).lta (nextFiltered s.part readings 40)
              (if s.part.pwu.power = .standby then s.part.sfe.reference.standbyBeta
              else s.part.sfe.reference.activeBeta) / 16) then 0 else (s.part.channel 40).bandCount + 1 } := by
  refine completes_sensingFrame hheld fun t ht _ => ?_
  have hbeta : Part.betaOf s.part.sfe.reference (decide (s.part.pwu.power = .standby)) =
      if s.part.pwu.power = .standby then s.part.sfe.reference.standbyBeta else s.part.sfe.reference.activeBeta := by
    simp [Part.betaOf]
  rw [ht 40, (Part.sensingFrame_reference (p := s.part)).1, (Part.refFramed_idle hidle).2, hbeta]
  generalize (if s.part.pwu.power = .standby then s.part.sfe.reference.standbyBeta
    else s.part.sfe.reference.activeBeta) = beta
  by_cases hin : InBand s.part.sfe.reference (followLta (s.part.channel 40).lta (nextFiltered s.part readings 40) beta / 16)
  · rw [if_pos hin]
    refine bandCheck_clears ?_ ⟨rfl, .inr ?_⟩
    · exact .inl hidle
    · exact hin
  · rw [if_neg hin]
    refine (bandCheck_counts ?_ (.inr ⟨?_, ?_⟩)).trans (bandCounted_few ?_)
    · exact .inl hidle
    · exact hidle
    · exact hin
    · exact hband

/-- A measured channel in FAULT runs stages 1 and 2, the reference channel included (R39). -/
theorem completes_faultFrame (hheld : s.part.isHeld = false) (hfault : (s.part.channel c).state = .fault)
    (hwake : (s.part.channel c).firstWake = false) (hawake : s.part.pwu.power ≠ .standby ∨ Part.kindOf c ≠ .key) :
    Completes (.sensingFrame readings first timersFirst) s fun t =>
      t.channel c = { s.part.channel c with
        raw := frameCount readings c, saturated := decide (4095 < readings.getD c.val 0)
        filtered := nextFiltered s.part readings c } := by
  refine completes_sensingFrame hheld fun t ht _ => ?_
  by_cases hc : c.val = 40
  · obtain rfl : c = 40 := Fin.ext hc
    rw [ht 40, (Part.sensingFrame_reference (p := s.part)).1, Part.refFramed_fault hfault]
    rfl
  · have hframe := Part.sensingFrame_channel (p := s.part) (readings := readings) (first := first)
      (timersFirst := timersFirst) hc (by rw [hfault]; decide) hawake
    rw [Part.framed, updateChannel_fault hfault hwake] at hframe
    rw [ht c, hframe.1]
    rfl

/-- A proximity channel runs in STANDBY, with the standby beta and frames of 200 ms (R20, R41). -/
theorem sensingFrame_standbyProximity (hpower : s.part.pwu.power = .standby) {i : SeatId} (hc : c = Part.proximityChannel i)
    (hidle : (s.part.channel c).state = .idle) (hwake : (s.part.channel c).firstWake = false) :
    ∃ change, (s.part.sensingFrame readings first timersFirst).channel c =
      (runFrame (profileFor s.part c) (profileFor s.part c).standbyBeta 200 change (s.part.channel c)
        (readings.getD c.val 0)).1 := by
  have hnot : c.val ≠ 40 := by
    subst hc
    simp only [Part.proximityChannel]
    omega
  have hkind : Part.kindOf c ≠ .key := by
    rw [hc, Part.kindOf_proximityChannel]
    decide
  have hframe := Part.sensingFrame_channel (p := s.part) (readings := readings) (first := first)
    (timersFirst := timersFirst) hnot (by rw [hidle]; decide) (.inr hkind)
  rw [Part.framed_running (.inl hidle) hwake, decide_eq_true hpower] at hframe
  exact ⟨_, hframe.1⟩

/-- A key channel in a WAKING frame takes its own update (R42). -/
theorem sensingFrame_wakingKey (hpower : s.part.pwu.power = .waking) {i : SeatId} (hc : c = Part.keyChannel i)
    (hoff : (s.part.channel c).state ≠ .off) :
    ∃ change, (s.part.sensingFrame readings first timersFirst).channel c = (updateChannel (profileFor s.part c)
      (Part.betaOf (profileFor s.part c) false) (s.part.framePeriod false) change (s.part.channel c)
        (readings.getD c.val 0)).1 := by
  have hnot : c.val ≠ 40 := by
    subst hc
    simp only [Part.keyChannel]
    omega
  have hstandby : decide (s.part.pwu.power = .standby) = false := by simp [hpower]
  have hframe := Part.sensingFrame_channel (p := s.part) (readings := readings) (first := first)
    (timersFirst := timersFirst) hnot hoff (.inl (by simp [hpower]))
  rw [hstandby] at hframe
  exact ⟨_, hframe.1⟩

/-- Settles O11: each kind of channel that does not run, by the update of its state. -/
theorem sensingFrameOfOtherChannels : Obligations.SensingFrameOfOtherChannels := by
  unfold Obligations.SensingFrameOfOtherChannels
  refine ⟨fun readings first timersFirst s hheld ⟨hidle, hband⟩ => completes_referenceFrame hheld hidle hband,
    fun readings first timersFirst c v b s hheld ⟨htuning, hpending⟩ hawake hv hb => ?_,
    fun readings first timersFirst c s hheld ⟨hfault, hwake⟩ hawake => completes_faultFrame hheld hfault hwake hawake,
    fun readings first timersFirst i s ⟨hstage, hpower⟩ => ?_,
    fun readings first timersFirst i c s ⟨hstage, hpower⟩ hc hwake => ?_⟩
  · refine completes_tuningFrame hheld htuning hawake fun t w r hr hchannel hnotices => ?_
    have hbest : b = betterTrial (profileFor s.part c).target (s.part.channel c).best v (frameCount readings c) :=
      hb.trans (betterTrial_eq _ _ _ _).symm
    refine ⟨fun hstep => ?_, fun hstep => ?_⟩
    · exact tuningFrame_steps (x := { s.part.channel c with firstWake := w }) (hchannel.trans (congrArg Prod.fst hr)) hstep
        htuning hv hbest
    · obtain ⟨htune, hraw, hzero, hgood, hfailed⟩ := tuningFrame_ends (x := { s.part.channel c with firstWake := w })
        (hchannel.trans (congrArg Prod.fst hr)) hstep hpending hv hbest
      refine ⟨htune, hraw, hzero, hgood, fun hout => ?_⟩
      obtain ⟨hstate, hresult, hfiltered, hlta, hnotice⟩ := hfailed hout
      exact ⟨hstate, hresult, hfiltered, hlta, hnotices .retuneFailed (by rw [hr]; exact hnotice)⟩
  · obtain ⟨u, hexec, hqueue, hkey⟩ : Completes (.sensingFrame readings first timersFirst) s fun t =>
        ({ t.channel (Part.keyChannel i) with firstWake := false } =
          { s.part.channel (Part.keyChannel i) with firstWake := false }) ∧ ∀ d, t.channel d =
            (s.part.sensingFrame readings first timersFirst).channel d :=
      completes_sensingFrame (Part.isHeld_running hstage) fun t ht _ => ⟨by
        rw [ht]
        exact Part.sensingFrame_standbyKey (Part.kindOf_keyChannel i) hpower, ht⟩
    refine ⟨u, hexec, hqueue, hkey.1, fun c hc hidle hwake hpending hband hlimit => ?_⟩
    obtain ⟨change, hchannel⟩ := sensingFrame_standbyProximity (readings := readings) (first := first)
      (timersFirst := timersFirst) hpower hc hidle hwake
    rw [hkey.2 c, hchannel]
    refine ⟨fun hdelta => ?_, fun hle => ?_⟩
    · have hstay := debounceStep_idle (pr := profileFor s.part c) (reading := readings.getD c.val 0) hidle
        (hdelta.trans_le (Nat.div_le_self _ _))
      obtain ⟨n, hframe⟩ := runFrame_free (beta := (profileFor s.part c).standbyBeta) (period := 200) (change := change)
        (.inl hidle) (.inl hpending) hband (by rw [hstay]) hdelta
      rw [hframe, debounced, hstay]
      exact ⟨rfl, rfl, rfl, rfl⟩
    · obtain ⟨n, hframe⟩ := runFrame_halted (beta := (profileFor s.part c).standbyBeta) (period := 200) (change := change)
        (.inl hidle) (.inl hpending) hband (.inr hle) hlimit
      rw [hframe]
      rfl
  · refine completes_sensingFrame (Part.isHeld_running hstage) fun t ht _ => ⟨fun hidle hpending => ?_,
      fun hstate hpending => ?_⟩
    · obtain ⟨change, hchannel⟩ := sensingFrame_wakingKey (readings := readings) (first := first)
        (timersFirst := timersFirst) hpower hc (by rw [hidle]; decide)
      rw [ht c, hchannel, updateChannel_firstWake hidle hwake hpending]
    · have hoff : (s.part.channel c).state ≠ .off := by
        obtain h | h := hstate <;> rw [h] <;> decide
      obtain ⟨change, hchannel⟩ := sensingFrame_wakingKey (readings := readings) (first := first)
        (timersFirst := timersFirst) hpower hc hoff
      rw [updateChannel_firstWake_pending hstate hwake hpending] at hchannel
      obtain ⟨htuning, hstep, htrial, hraw, hbest, hkept, -⟩ := tuningFrame_steps ((ht c).trans hchannel)
        (v := 128) (by decide : (0 : Nat) < 7) rfl rfl rfl
      have hframe := ((ht c).trans hchannel).trans (congrArg Prod.fst (tuningFrame_searches (by decide : (0 : Nat) < 7)))
      refine ⟨htuning, hstep, htrial, hraw, hbest, hkept, by rw [hframe]; rfl, by rw [hframe]; rfl, ?_⟩
      have hheld : (t.channel c).held = Part.outcomeOf (s.part.channel c) := by
        rw [hframe]
        rfl
      rw [hheld, Part.outcomeOf]
      obtain h | h := hstate <;> rw [h] <;> rfl

end Sys2Proof.Machine
end

section
/-! The floor's operations: what an open, a close, a grant and a run of auto-advance make of the slots, the queue and the
counters (chapter 4). -/

namespace Sys2Proof.Machine.Part

variable {p t : Part} {i j k : SlotId} {s : SeatId}

/-! ### The slots but for their targets -/

/-- A slot as FLC sees it: without the target that SGU computes (R94). -/
def slotData (p : Part) (k : SlotId) : Slot := { p.slot k with target := 0 }

@[simp] theorem slotData_state (p : Part) (k : SlotId) : (p.slotData k).state = (p.slot k).state := rfl
@[simp] theorem slotData_holder (p : Part) (k : SlotId) : (p.slotData k).holder = (p.slot k).holder := rfl
@[simp] theorem slotData_elapsed (p : Part) (k : SlotId) : (p.slotData k).elapsed = (p.slot k).elapsed := rfl
@[simp] theorem slotData_warned (p : Part) (k : SlotId) : (p.slotData k).warned = (p.slot k).warned := rfl
@[simp] theorem slotData_reason (p : Part) (k : SlotId) : (p.slotData k).reason = (p.slot k).reason := rfl
@[simp] theorem slotData_gain (p : Part) (k : SlotId) : (p.slotData k).gain = (p.slot k).gain := rfl

theorem slotData_of_slots (h : t.sgu.slots = p.sgu.slots) : t.slotData = p.slotData := by
  funext k
  simp only [slotData, slot, h]

theorem state_of_data (h : t.slotData k = p.slotData k) : (t.slot k).state = (p.slot k).state := by
  simpa using congrArg Slot.state h
theorem holder_of_data (h : t.slotData k = p.slotData k) : (t.slot k).holder = (p.slot k).holder := by
  simpa using congrArg Slot.holder h
theorem warned_of_data (h : t.slotData k = p.slotData k) : (t.slot k).warned = (p.slot k).warned := by
  simpa using congrArg Slot.warned h
theorem reason_of_data (h : t.slotData k = p.slotData k) : (t.slot k).reason = (p.slot k).reason := by
  simpa using congrArg Slot.reason h
theorem elapsed_of_data (h : t.slotData k = p.slotData k) : (t.slot k).elapsed = (p.slot k).elapsed := by
  simpa using congrArg Slot.elapsed h

theorem openCount_of_states (h : ∀ k, (t.slot k).state = (p.slot k).state) : t.openCount = p.openCount := by
  simp only [openCount, h]

theorem freeSlot_of_states (h : ∀ k, (t.slot k).state = (p.slot k).state) : t.freeSlot = p.freeSlot := by
  simp only [freeSlot, h]

theorem slotOf_of_data (h : t.slotData = p.slotData) : t.slotOf s = p.slotOf s := by
  have hstate (k : SlotId) : (t.slot k).state = (p.slot k).state := state_of_data (congrFun h k)
  have hholder (k : SlotId) : (t.slot k).holder = (p.slot k).holder := holder_of_data (congrFun h k)
  simp only [slotOf, hstate, hholder]

theorem available_of_data (h : t.slotData = p.slotData) (hlimit : t.flc.limit = p.flc.limit) : t.available = p.available := by
  have hstate (k : SlotId) : (t.slot k).state = (p.slot k).state := state_of_data (congrFun h k)
  simp only [available, openCount_of_states hstate, freeSlot_of_states hstate, hlimit]

theorem retarget_data (p : Part) : p.retarget.slotData = p.slotData := by
  funext k
  simp only [slotData, retarget_slot]

theorem setSlot_data (p : Part) (k : SlotId) (x : Slot) (j : SlotId) :
    (p.setSlot k x).slotData j = if j = k then { x with target := 0 } else p.slotData j := by
  simp only [slotData, setSlot_slot]
  split <;> rfl

/-- An operation that changes the record of its slot alone, done on the slots of a list one after another. -/
theorem foldl_data {op : Part → SlotId → Part} {F : Slot → Slot} {P : Part → Prop} (hP : ∀ q k, P q → P (op q k))
    (hop : ∀ q k, P q → ∀ j, (op q k).slotData j = if j = k then F (q.slotData j) else q.slotData j) {l : List SlotId}
    (hl : l.Nodup) (hp : P p) (j : SlotId) :
    (l.foldl op p).slotData j = if j ∈ l then F (p.slotData j) else p.slotData j := by
  induction l generalizing p with
  | nil => simp
  | cons k l ih =>
    obtain ⟨hk, hl⟩ := List.nodup_cons.mp hl
    rw [List.foldl_cons, ih hl (hP p k hp), hop p k hp]
    by_cases hj : j = k
    · subst hj
      simp [hk]
    · simp [hj]

/-! ### The slot that the arbiter hands out (R67) -/

theorem freeSlot_free (h : p.freeSlot = some k) : (p.slot k).state = .free := by
  simpa using List.find?_some h

theorem freeSlot_mem (h : p.freeSlot = some k) : k ∈ delegateSlots := List.mem_of_find?_eq_some h

theorem freeSlot_ne (h : p.freeSlot = some k) : k ≠ 0 := by
  rintro rfl
  exact absurd (freeSlot_mem h) (by decide)

theorem available_eq_some : p.available = some k ↔ p.openCount < p.flc.limit ∧ p.freeSlot = some k := by
  simp [available]

theorem available_eq_none : p.available = none ↔ p.flc.limit ≤ p.openCount ∨ p.freeSlot = none := by
  simp only [available, ite_eq_right_iff]
  by_cases h : p.openCount < p.flc.limit
  · simp [h, Nat.not_le.mpr h]
  · simp [h, Nat.not_lt.mp h]

theorem available_free (h : p.available = some k) : (p.slot k).state = .free := freeSlot_free (available_eq_some.mp h).2

theorem available_ne (h : p.available = some k) : k ≠ 0 := freeSlot_ne (available_eq_some.mp h).2

/-- One more element passes a test that changes at one place of a list. -/
theorem length_filter_change {α : Type} [DecidableEq α] {l : List α} {f g : α → Bool} {a : α} (hl : l.Nodup) (ha : a ∈ l)
    (hf : f a = false) (hg : g a = true) (hother : ∀ b ∈ l, b ≠ a → g b = f b) :
    (l.filter g).length = (l.filter f).length + 1 := by
  induction l with
  | nil => simp at ha
  | cons b l ih =>
    obtain ⟨hb, hl⟩ := List.nodup_cons.mp hl
    by_cases hab : a = b
    · subst hab
      have hsame : l.filter g = l.filter f :=
        List.filter_congr fun c hc => hother c (List.mem_cons_of_mem _ hc) (fun h => hb (h ▸ hc))
      simp [hf, hg, hsame]
    · have hrest := ih hl ((List.mem_cons.mp ha).resolve_left hab) fun c hc => hother c (List.mem_cons_of_mem _ hc)
      have hhead : g b = f b := hother b (by simp) (Ne.symm hab)
      simp only [List.filter_cons, hhead]
      split <;> simp [hrest]

theorem mem_delegateSlots (h : k ≠ 0) : k ∈ delegateSlots := by
  revert h
  revert k
  decide

/-- A delegate slot goes from not open to open: one more is open (R67). -/
theorem openCount_opened (hk : k ≠ 0) (hp : isOpenState (p.slot k).state = false) (ht : isOpenState (t.slot k).state = true)
    (hother : ∀ j, j ≠ k → (t.slot j).state = (p.slot j).state) : t.openCount = p.openCount + 1 := by
  refine length_filter_change (a := k) (by decide) (mem_delegateSlots hk) hp ht fun j _ hj => by rw [hother j hj]

/-! ### An open and a close on the slots -/

/-- The record of a slot that goes OPENING for a seat (R68, R75). -/
def openedFor (s : SeatId) (x : Slot) : Slot :=
  { x with state := .opening, holder := some s, elapsed := 0, warned := .none, reason := none }

theorem openSlot_data (p : Part) (k : SlotId) (s : SeatId) (j : SlotId) :
    (p.openSlot k s).slotData j = if j = k then openedFor s (p.slotData k) else p.slotData j := by
  rw [openSlot, retarget_data, setSlot_data]
  rfl

/-- The record of an open slot that closes (R69). -/
def closedFor (r : SlotReason) (x : Slot) : Slot := { x with state := .closing, reason := some r }

theorem close_data (h : isOpenState (p.slot k).state = true) (r : SlotReason) (j : SlotId) :
    (p.close k r).slotData j =
      if j = k then closedFor r (p.slotData k) else p.slotData j := by
  have hreport (q : Part) (x : Slot) : (q.reportLeft x).slotData = q.slotData := slotData_of_slots (by simp)
  have hnotice (q : Part) : (q.notice .floor).slotData = q.slotData := slotData_of_slots (by simp)
  simp only [close, h, if_true, hnotice, closeSlot, hreport, retarget_data, setSlot_data]
  rfl

theorem close_closed (h : isOpenState (p.slot k).state = false) (r : SlotReason) : p.close k r = p := by
  simp [close, h]

/-! ### Counters (R59) -/

theorem count_seat (p : Part) (s : SeatId) (f : Counters → Counters) (i : SeatId) :
    (p.count s f).seat i =
      if i = s ∧ p.sessionOpen = true then { p.seat i with counters := f (p.seat i).counters } else p.seat i := by
  unfold count
  by_cases hs : p.sessionOpen = true
  · by_cases hi : i = s
    · subst hi
      simp [hs]
    · simp [hs, hi]
  · simp [hs]

theorem sameBut_count (p : Part) (s : SeatId) (f : Counters → Counters) : SameBut [.seats] p (p.count s f) := by
  intro b hb
  cases b <;> simp_all [Piece.Same]

/-! ### A grant (R68) -/

theorem grantSlot_data (p : Part) (k : SlotId) (s : SeatId) (j : SlotId) :
    (p.grantSlot k s).slotData j = if j = k then openedFor s (p.slotData k) else p.slotData j := by
  rw [← openSlot_data]
  exact congrFun (slotData_of_slots (by simp [grantSlot, countGrant])) j

theorem grantSlot_queue (p : Part) (k : SlotId) (s : SeatId) :
    (p.grantSlot k s).flc.queue = p.flc.queue.filter fun e => e.seat ≠ s := by
  simp [grantSlot, countGrant, leaveQueue]

theorem grantSlot_openOrder (p : Part) (k : SlotId) (s : SeatId) :
    (p.grantSlot k s).flc.openOrder = p.flc.openOrder ++ [k] := by
  simp [grantSlot, countGrant, leaveQueue]

theorem grantSlot_seat (p : Part) (k : SlotId) (s i : SeatId) :
    (p.grantSlot k s).seat i =
      if i = s ∧ p.sessionOpen = true then
        { p.seat i with counters := { (p.seat i).counters with grants := bump16 (p.seat i).counters.grants } }
      else p.seat i := by
  have hseat (q : Part) (h : q.smn = p.smn) : q.seat i = p.seat i := by simp only [seat, h]
  rw [grantSlot, countGrant, count_seat, hseat _ (by simp)]
  simp [sessionOpen]
  rfl

theorem sameBut_grantSlot (p : Part) (k : SlotId) (s : SeatId) :
    SameBut [.seats, .slots, .queue, .openOrder, .notices] p (p.grantSlot k s) := by
  intro b hb
  cases b <;> simp_all [Piece.Same]

theorem openCount_grantSlot (h : p.available = some k) : (p.grantSlot k s).openCount = p.openCount + 1 := by
  refine openCount_opened (available_ne h) (by simp [available_free h, isOpenState]) ?_ fun j hj => ?_
  · have hk := grantSlot_data p k s k
    rw [if_pos rfl] at hk
    have hstate : ((p.grantSlot k s).slot k).state = .opening := congrArg Slot.state hk
    simp [hstate, isOpenState]
  · have hj' := grantSlot_data p k s j
    rw [if_neg hj] at hj'
    exact state_of_data hj'

/-! ### Auto-advance (R70) -/

/-- What every grant of an available slot to a waiting seat keeps, a run of auto-advance keeps. -/
theorem advance_keeps_of {P : Part → Prop}
    (hstep : ∀ q k, ∀ e ∈ q.flc.queue, q.available = some k → P q → P (q.grantSlot k e.seat)) (n : Nat) (hp : P p) :
    P (advance n p) := by
  induction n generalizing p with
  | zero => exact hp
  | succ n ih =>
    unfold advance
    split
    next k e l hk hq => exact ih (hstep p k e (by simp [hq]) hk hp)
    next => exact hp

theorem advance_idle (h : p.available = none ∨ p.flc.queue = []) (n : Nat) : advance n p = p := by
  cases n with
  | zero => rfl
  | succ n =>
    unfold advance
    split
    next k e l hk hq => simp [hk, hq] at h
    next => rfl

/-- A run of auto-advance leaves every slot that is not FREE (R67, R70). -/
theorem advance_data (h : (p.slot k).state ≠ .free) (n : Nat) : (advance n p).slotData k = p.slotData k := by
  refine advance_keeps_of (P := fun q => q.slotData k = p.slotData k) (fun q j e _ hj hq => ?_) n rfl
  have hne : k ≠ j := by
    rintro rfl
    exact h ((state_of_data hq).symm.trans (available_free hj))
  rw [grantSlot_data, if_neg hne, hq]

theorem advance_queue (n : Nat) : (advance n p).flc.queue ⊆ p.flc.queue := by
  refine advance_keeps_of (P := fun q => q.flc.queue ⊆ p.flc.queue) (fun q k e _ _ hq => ?_) n (List.Subset.refl _)
  rw [grantSlot_queue]
  exact fun x hx => hq (List.mem_of_mem_filter hx)

theorem sameBut_autoAdvance (p : Part) :
    SameBut [.seats, .slots, .queue, .openOrder, .notices] p p.autoAdvance := by
  intro b hb
  cases b <;> simp_all [Piece.Same]

theorem autoAdvance_closed (h : p.flc.isOpen = false ∨ p.flc.mode = .chair ∨ p.available = none ∨ p.flc.queue = []) :
    p.autoAdvance = p := by
  unfold autoAdvance
  split
  next hrun =>
    obtain ⟨hopen, hmode⟩ := hrun
    exact advance_idle (by simp_all) _
  next => rfl

/-- Auto-advance grants the head of the queue first, and goes on from there (R70). -/
theorem autoAdvance_grants {e : QueueEntry} (hopen : p.flc.isOpen = true) (hmode : p.flc.mode ≠ .chair)
    (hk : p.available = some k) (he : e ∈ p.flc.queue.head?) : ∃ n, p.autoAdvance = advance n (p.grantSlot k e.seat) := by
  obtain ⟨l, hl⟩ := List.head?_eq_some_iff.mp he
  refine ⟨l.length, ?_⟩
  rw [autoAdvance, if_pos ⟨hopen, hmode⟩, hl, List.length_cons, advance]
  simp [hk, hl]

/-- The head of the queue holds the slot that the arbiter hands out, and no seat of it waits any more (R70). -/
theorem autoAdvance_head {e : QueueEntry} (hopen : p.flc.isOpen = true) (hmode : p.flc.mode ≠ .chair)
    (hk : p.available = some k) (he : e ∈ p.flc.queue.head?) :
    p.autoAdvance.slotData k = openedFor e.seat (p.slotData k) ∧
      p.autoAdvance.flc.queue ⊆ p.flc.queue.filter fun x => x.seat ≠ e.seat := by
  obtain ⟨n, hn⟩ := autoAdvance_grants hopen hmode hk he
  have hslot : (p.grantSlot k e.seat).slotData k = openedFor e.seat (p.slotData k) := by
    rw [grantSlot_data, if_pos rfl]
  rw [hn]
  constructor
  · rw [advance_data ?_, hslot]
    have hstate : ((p.grantSlot k e.seat).slot k).state = .opening := congrArg Slot.state hslot
    simp [hstate]
  · rw [← grantSlot_queue p k e.seat]
    exact advance_queue n

/-- With one place left under the limit, auto-advance grants the head of the queue and no one else (R67, R70). -/
theorem autoAdvance_once {e : QueueEntry} (hopen : p.flc.isOpen = true) (hmode : p.flc.mode ≠ .chair)
    (hk : p.available = some k) (he : e ∈ p.flc.queue.head?) (hlast : p.openCount + 1 = p.flc.limit) :
    p.autoAdvance = p.grantSlot k e.seat := by
  obtain ⟨n, hn⟩ := autoAdvance_grants hopen hmode hk he
  rw [hn]
  refine advance_idle (Or.inl (available_eq_none.mpr (Or.inl ?_))) n
  rw [openCount_grantSlot hk]
  simp [hlast]

/-! ### The queue (R65) -/

theorem join_queue (p : Part) (s : SeatId) (o : Bool) :
    (p.join s o).flc.queue = insertEntry ⟨s, (p.seat s).priority, o, p.flc.nextNumber, p.flc.seconds⟩ p.flc.queue := rfl

theorem join_nextNumber (p : Part) (s : SeatId) (o : Bool) : (p.join s o).flc.nextNumber = p.flc.nextNumber + 1 := rfl

theorem join_data (p : Part) (s : SeatId) (o : Bool) : (p.join s o).slotData = p.slotData := slotData_of_slots (by simp)

theorem sameBut_join (p : Part) (s : SeatId) (o : Bool) : SameBut [.queue, .nextNumber, .notices] p (p.join s o) := by
  intro b hb
  cases b <;> simp_all [Piece.Same]

/-- A new entry stands behind those of its class or a higher one, and before the first of a lower class (R65). -/
theorem insertEntry_split (e : QueueEntry) (l : List QueueEntry) :
    ∃ a b : List QueueEntry, l = a ++ b ∧ insertEntry e l = a ++ e :: b ∧ (∀ x ∈ a, classRank x ≤ classRank e) ∧
      ∀ x ∈ b.head?, classRank e < classRank x := by
  induction l with
  | nil => exact ⟨[], [], by simp [insertEntry]⟩
  | cons x l ih =>
    by_cases h : classRank e < classRank x
    · exact ⟨[], x :: l, by simp [insertEntry, h]⟩
    · obtain ⟨a, b, hl, hi, ha, hb⟩ := ih
      refine ⟨x :: a, b, by simp [hl], by simp [insertEntry, h, hi], ?_, hb⟩
      simp only [List.mem_cons, forall_eq_or_imp]
      exact ⟨Nat.le_of_not_lt h, ha⟩

end Sys2Proof.Machine.Part
end

section
/-! GRANT and GRANT NEXT (R77, R78). -/

namespace Sys2Proof.Machine

namespace Part

variable {p : Part} {i : SeatId} {k : SlotId} {n : Byte}

/-! ### The owners' answers -/

theorem grantRequest_state
    (h : p.flc.isOpen = false ∨ p.isDelegate i = false ∨ p.presentForKey i = false ∨ (p.slotOf i).isSome = true) :
    p.grantRequest i = (p, .state) := by
  unfold grantRequest
  (repeat' split) <;> simp_all

/-- A seat that GRANT may grant a slot (R77). -/
def eligible (p : Part) (i : SeatId) : Prop :=
  p.flc.isOpen = true ∧ p.isDelegate i = true ∧ p.presentForKey i = true ∧ p.slotOf i = none

theorem grantRequest_done (h : p.eligible i) (hk : p.available = some k) : p.grantRequest i = (p.grantSlot k i, .done) := by
  obtain ⟨hopen, hdelegate, hpresent, hslot⟩ := h
  simp [grantRequest, hopen, hdelegate, hpresent, hslot, hk]

theorem grantRequest_full (h : p.eligible i) (hk : p.available = none)
    (hqueue : p.isQueued i = true ∨ 16 ≤ p.flc.queue.length) : p.grantRequest i = (p, .full) := by
  obtain ⟨hopen, hdelegate, hpresent, hslot⟩ := h
  cases hq : p.isQueued i with
  | true => simp [grantRequest, hopen, hdelegate, hpresent, hslot, hk, hq]
  | false =>
    have hfull : p.queueFull = true := decide_eq_true (hqueue.resolve_left (by simp [hq]))
    simp [grantRequest, hopen, hdelegate, hpresent, hslot, hk, hq, hfull]

theorem grantRequest_join (h : p.eligible i) (hk : p.available = none) (hqueued : p.isQueued i = false)
    (hlength : p.flc.queue.length < 16) : p.grantRequest i = (p.join i false, .full) := by
  obtain ⟨hopen, hdelegate, hpresent, hslot⟩ := h
  have hfull : p.queueFull = false := decide_eq_false (Nat.not_le.mpr hlength)
  simp [grantRequest, hopen, hdelegate, hpresent, hslot, hk, hqueued, hfull]

theorem grantNext_state (h : p.flc.isOpen = false ∨ p.flc.queue = []) : p.grantNext = (p, .state) := by
  unfold grantNext
  split
  · rfl
  · split
    · rfl
    next hopen e l hq => simp_all

/-- GRANT NEXT is GRANT of the head (R78). -/
theorem grantNext_head {e : QueueEntry} (hopen : p.flc.isOpen = true) (he : e ∈ p.flc.queue.head?) :
    p.grantNext = p.grantRequest e.seat := by
  obtain ⟨l, hl⟩ := List.head?_eq_some_iff.mp he
  simp [grantNext, hopen, hl]

/-- The head of the queue is queued. -/
theorem isQueued_head {e : QueueEntry} (he : e ∈ p.flc.queue.head?) : p.isQueued e.seat = true :=
  isQueued_iff.mpr ⟨e, List.mem_of_head? he, rfl⟩

theorem serveOwner_grant (p : Part) (tag : Byte) (h : n.toNat = i.val + 1) :
    p.serveOwner .chair ⟨0x20, tag, 1, [n]⟩ = plain (p.grantRequest i) := by
  simp [serveOwner, serveFloor, onSeat, byteAt, seatOfNumber_eq h]

theorem serveOwner_grantNext (p : Part) (tag : Byte) :
    p.serveOwner .chair ⟨0x21, tag, 0, []⟩ = plain p.grantNext := rfl

end Part

variable {tag n : Byte} {i : SeatId} {k : SlotId} {s : State} {c : Instr} {r : Request}

/-! ### Rows of the chair port -/

/-- What a row's owner and the end of its event leave, seen from the part before the request. -/
theorem SameBut.row {p x t : Part} {q : Port} {bs cs ds : List Piece} (hx : SameBut bs (p.taken q r) x) (ht : SameBut cs x t)
    (hsub : .requests q :: (bs ++ cs) ⊆ ds) : SameBut ds p t := by
  obtain ⟨hq, hsub⟩ := List.cons_subset.mp hsub
  obtain ⟨hbs, hcs⟩ := List.append_subset.mp hsub
  exact ((Part.sameBut_taken p q r).mono (by simpa using hq)).trans ((hx.mono hbs).trans (ht.mono hcs))

/-- A row whose owner answers without a change of the part. -/
theorem completes_kept {q : Port} {code len : Byte} {payload l : List Byte} {st : Status}
    (hreq : requestOf c = some (q, ⟨code, tag, len, payload⟩)) (hport : Listening s.part q) (hset : Settled s.part)
    (hright : Permitted q code.toNat) (hcode : code ≠ portResetCode)
    (hserve : (s.part.taken q ⟨code, tag, len, payload⟩).serveOwner q ⟨code, tag, len, payload⟩ =
      (s.part.taken q ⟨code, tag, len, payload⟩, st, l)) :
    Completes c s fun t => Answered t q tag st (framesOf code l) ∧ SameBut [.requests q] s.part t :=
  completes_unchanged hreq hport hset (Part.checkRequest_run hreq hright hport.1.1) hcode hserve

/-- A row of the chair port, served by an owner that grants slot k to a seat and does no more: the seat's counter of grants,
the slot, the queue and the open order follow (R68). -/
theorem completes_grantSlot {code len : Byte} {payload : List Byte} (hreq : requestOf c = some (.chair, ⟨code, tag, len, payload⟩))
    (hport : Listening s.part .chair) (hset : Settled s.part) (hright : Permitted .chair code.toNat) (hcode : code ≠ portResetCode)
    (hserve : (s.part.taken .chair ⟨code, tag, len, payload⟩).serveOwner .chair ⟨code, tag, len, payload⟩ =
      ((s.part.taken .chair ⟨code, tag, len, payload⟩).grantSlot k i, .done, [])) :
    Completes c s fun t =>
      Answered t .chair tag .done (framesOf code []) ∧
        (∀ j, t.slotData j = if j = k then Part.openedFor i (s.part.slotData k) else s.part.slotData j) ∧
        t.flc.queue = s.part.flc.queue.filter (fun e => e.seat ≠ i) ∧
        t.flc.openOrder = s.part.flc.openOrder ++ [k] ∧
        (∀ j, t.seat j = if j = i ∧ s.part.sessionOpen = true then
          { s.part.seat j with counters :=
            { (s.part.seat j).counters with grants := Part.bump16 (s.part.seat j).counters.grants } }
          else s.part.seat j) ∧
        SameBut [.requests .chair, .seats, .slots, .queue, .openOrder, .notices] s.part t := by
  refine (completes_owner hreq hport hset hright hcode hserve (Part.sameBut_grantSlot _ k i) (by simp) (by simp) (by simp)
    (by simp)).mono ?_
  rintro t ⟨hans, hown, hbut, -⟩
  have hslots := Part.slotData_of_slots (hown .slots (by simp))
  have hqueue := hown .queue (by simp)
  have horder := hown .openOrder (by simp)
  refine ⟨hans, fun j => ?_, ?_, ?_, fun j => ?_, hbut⟩
  · rw [hslots]
    exact Part.grantSlot_data _ k i j
  · exact Eq.trans hqueue (Part.grantSlot_queue _ k i)
  · exact Eq.trans horder (Part.grantSlot_openOrder _ k i)
  · rw [Part.seat_eq (hown .seats (by simp))]
    exact Part.grantSlot_seat _ k i j

/-- A counter of a seat with its one more, which an open session alone gives it (R59). -/
theorem sessionOpen_none {p : Part} : p.sessionOpen = true ↔ p.ssu.session ≠ none := by
  simp [Part.sessionOpen, Option.isSome_iff_ne_none]

/-- GRANT of an eligible seat with a slot available (R77). -/
theorem completes_grant_done (hport : Listening s.part .chair) (hset : Settled s.part) (hn : n.toNat = i.val + 1)
    (h : s.part.eligible i) (hk : s.part.available = some k) :
    Completes (.grant .chair tag n) s fun t =>
      Answered t .chair tag .done [[]] ∧ (t.slot k).state = .opening ∧ (t.slot k).holder = some i ∧
      (t.slot k).elapsed = 0 ∧ (t.slot k).warned = .none ∧ (t.slot k).reason = none ∧
      (t.slot k).gain = (s.part.slot k).gain ∧ t.flc.queue = s.part.flc.queue.filter (fun e => e.seat ≠ i) ∧
      t.flc.openOrder = s.part.flc.openOrder ++ [k] ∧
      (t.seat i).counters.grants = (if s.part.ssu.session = none then (s.part.seat i).counters.grants
        else min ((s.part.seat i).counters.grants + 1) 65535) ∧
      (t.seat i).counters.requests = (s.part.seat i).counters.requests ∧
      (∀ j, j ≠ k → (t.slot j).state = (s.part.slot j).state ∧ (t.slot j).holder = (s.part.slot j).holder) ∧
      SameBut [.requests .chair, .seats, .slots, .queue, .openOrder, .notices] s.part t := by
  have hserve : (s.part.taken .chair ⟨0x20, tag, 1, [n]⟩).serveOwner .chair ⟨0x20, tag, 1, [n]⟩ =
      ((s.part.taken .chair ⟨0x20, tag, 1, [n]⟩).grantSlot k i, .done, []) := by
    rw [Part.serveOwner_grant _ tag hn]
    exact congrArg Part.plain (Part.grantRequest_done (p := s.part.taken .chair ⟨0x20, tag, 1, [n]⟩) h hk)
  refine (completes_grantSlot rfl hport hset (by decide) (by decide) hserve).mono ?_
  rintro t ⟨hans, hslots, hqueue, horder, hseats, hbut⟩
  have hslot : t.slotData k = Part.openedFor i (s.part.slotData k) := by rw [hslots, if_pos rfl]
  refine ⟨hans, congrArg Slot.state hslot, congrArg Slot.holder hslot, congrArg Slot.elapsed hslot,
    congrArg Slot.warned hslot, congrArg Slot.reason hslot, by simpa [Part.openedFor] using congrArg Slot.gain hslot, hqueue, horder, ?_, ?_, ?_, hbut⟩
  · rw [hseats i]
    simp only [true_and, sessionOpen_none]
    by_cases hsession : s.part.ssu.session = none <;> simp [hsession, Part.bump16]
  · rw [hseats i]
    split <;> rfl
  · intro j hj
    have hother : t.slotData j = s.part.slotData j := by rw [hslots, if_neg hj]
    exact ⟨Part.state_of_data hother, Part.holder_of_data hother⟩

/-- GRANT of an eligible seat that may join the queue, with no slot available (R77). -/
theorem completes_grant_join (hport : Listening s.part .chair) (hset : Settled s.part) (hn : n.toNat = i.val + 1)
    (h : s.part.eligible i) (hk : s.part.available = none) (hqueued : s.part.isQueued i = false)
    (hlength : s.part.flc.queue.length < 16) :
    Completes (.grant .chair tag n) s fun t =>
      Answered t .chair tag .full [[]] ∧
      t.flc.queue = Part.insertEntry
        ⟨i, (s.part.seat i).priority, false, s.part.flc.nextNumber, s.part.flc.seconds⟩ s.part.flc.queue ∧
      t.flc.nextNumber = s.part.flc.nextNumber + 1 ∧
      SameBut [.requests .chair, .queue, .nextNumber, .notices] s.part t := by
  have hserve : (s.part.taken .chair ⟨0x20, tag, 1, [n]⟩).serveOwner .chair ⟨0x20, tag, 1, [n]⟩ =
      ((s.part.taken .chair ⟨0x20, tag, 1, [n]⟩).join i false, .full, []) := by
    rw [Part.serveOwner_grant _ tag hn]
    exact congrArg Part.plain (Part.grantRequest_join (p := s.part.taken .chair ⟨0x20, tag, 1, [n]⟩) h hk hqueued hlength)
  refine (completes_owner (c := .grant .chair tag n) rfl hport hset (by decide) (by decide) hserve (Part.sameBut_join _ i false)
    (by simp) (by simp) (by simp) (by simp)).mono ?_
  rintro t ⟨hans, hown, hbut, -⟩
  exact ⟨hans, hown .queue (by simp), hown .nextNumber (by simp), hbut⟩

/-- A GRANT that the owner answers without a change of the part. -/
theorem completes_grant_unchanged {st : Status} (hport : Listening s.part .chair) (hset : Settled s.part)
    (hn : n.toNat = i.val + 1) (h : ∀ r, (s.part.taken .chair r).grantRequest i = (s.part.taken .chair r, st)) :
    Completes (.grant .chair tag n) s fun t => Answered t .chair tag st [[]] ∧ SameBut [.requests .chair] s.part t := by
  refine completes_kept (c := .grant .chair tag n) rfl hport hset (by decide) (by decide) ?_
  rw [Part.serveOwner_grant _ tag hn, h]
  rfl

theorem completes_grantNext_unchanged {st : Status} (hport : Listening s.part .chair) (hset : Settled s.part)
    (h : ∀ r, (s.part.taken .chair r).grantNext = (s.part.taken .chair r, st)) :
    Completes (.grantNext .chair tag) s fun t => Answered t .chair tag st [[]] ∧ SameBut [.requests .chair] s.part t := by
  refine completes_kept (c := .grantNext .chair tag) rfl hport hset (by decide) (by decide) ?_
  rw [Part.serveOwner_grantNext, h]
  rfl

/-- GRANT NEXT with an eligible head and a slot available (R78). -/
theorem completes_grantNext_done {e : QueueEntry} (hport : Listening s.part .chair) (hset : Settled s.part)
    (he : e ∈ s.part.flc.queue.head?) (h : s.part.eligible e.seat) (hk : s.part.available = some k) :
    Completes (.grantNext .chair tag) s fun t =>
      Answered t .chair tag .done [[]] ∧ (t.slot k).state = .opening ∧ (t.slot k).holder = some e.seat ∧
      t.flc.queue = s.part.flc.queue.filter (fun x => x.seat ≠ e.seat) ∧
      SameBut [.requests .chair, .seats, .slots, .queue, .openOrder, .notices] s.part t := by
  have hserve : (s.part.taken .chair ⟨0x21, tag, 0, []⟩).serveOwner .chair ⟨0x21, tag, 0, []⟩ =
      ((s.part.taken .chair ⟨0x21, tag, 0, []⟩).grantSlot k e.seat, .done, []) := by
    rw [Part.serveOwner_grantNext, Part.grantNext_head (p := s.part.taken .chair ⟨0x21, tag, 0, []⟩) h.1 he]
    exact congrArg Part.plain (Part.grantRequest_done (p := s.part.taken .chair ⟨0x21, tag, 0, []⟩) h hk)
  refine (completes_grantSlot rfl hport hset (by decide) (by decide) hserve).mono ?_
  rintro t ⟨hans, hslots, hqueue, -, -, hbut⟩
  have hslot : t.slotData k = Part.openedFor e.seat (s.part.slotData k) := by rw [hslots, if_pos rfl]
  exact ⟨hans, congrArg Slot.state hslot, congrArg Slot.holder hslot, hqueue, hbut⟩

/-- Settles O38: GRANT leaves the part, grants one slot or joins the queue, and GRANT NEXT is GRANT of the head. -/
theorem grantRequests : Obligations.GrantRequests := by
  unfold Obligations.GrantRequests
  refine ⟨fun tag n i s hport hset hn => ⟨fun h => ?_, fun h => ⟨fun k hk => ?_, fun hk hqueue => ?_, fun hk hqueued hlength => ?_⟩⟩,
    fun tag s hport hset => ⟨fun h => ?_, fun e he hopen hdelegate hpresent hslot => ⟨fun hk => ?_, fun k hk => ?_⟩⟩,
    Part.insertEntry_split⟩
  · exact completes_grant_unchanged hport hset hn fun r => Part.grantRequest_state h
  · exact completes_grant_done hport hset hn h hk
  · exact completes_grant_unchanged hport hset hn fun r => Part.grantRequest_full h hk hqueue
  · exact completes_grant_join hport hset hn h hk hqueued hlength
  · exact completes_grantNext_unchanged hport hset fun r => Part.grantNext_state h
  · refine completes_grantNext_unchanged hport hset fun r => ?_
    exact (Part.grantNext_head (p := s.part.taken .chair r) hopen he).trans
      (Part.grantRequest_full (p := s.part.taken .chair r) ⟨hopen, hdelegate, hpresent, hslot⟩ hk
        (Or.inl (Part.isQueued_head he)))
  · exact completes_grantNext_done hport hset he ⟨hopen, hdelegate, hpresent, hslot⟩ hk

end Sys2Proof.Machine
end

section
/-! MUTE ALL, SET MODE, SET LIMIT and SET SPEAK LIMIT (R81 to R84). -/

namespace Sys2Proof.Machine

/-- A command has one outcome, which meets what is known of it under any condition. -/
theorem Completes.and {c : Instr} {s : State} {P Q : Part → Prop} (hP : Completes c s P) (hQ : Completes c s Q) :
    Completes c s fun t => P t ∧ Q t := by
  obtain ⟨t, hexec, hpending, hp⟩ := hP
  obtain ⟨u, hexec', -, hq⟩ := hQ
  obtain rfl : t = u := by
    have h := hexec.symm.trans hexec'
    simpa using h
  exact ⟨t, hexec, hpending, hp, hq⟩

theorem Completes.imp {c : Instr} {s : State} {P Q : Part → Prop} {a : Prop} (hP : Completes c s P)
    (hQ : a → Completes c s Q) : Completes c s fun t => P t ∧ (a → Q t) := by
  by_cases h : a
  · exact (hP.and (hQ h)).mono fun t ⟨hp, hq⟩ => ⟨hp, fun _ => hq⟩
  · exact hP.mono fun t hp => ⟨hp, fun ha => absurd ha h⟩

namespace Part

variable {p : Part} {k : SlotId} {m : FloorMode}

/-! ### The closes of one event -/

theorem closeEach_cons (p : Part) (k : SlotId) (ks : List SlotId) (r : SlotReason) :
    p.closeEach (k :: ks) r = (p.close k r).closeEach ks r := rfl

/-- Each open slot of the list closes, and no other slot changes (R69). -/
theorem closeEach_data (ks : List SlotId) (r : SlotReason) (j : SlotId) :
    (p.closeEach ks r).slotData j =
      if j ∈ ks ∧ isOpenState (p.slot j).state = true then closedFor r (p.slotData j) else p.slotData j := by
  induction ks generalizing p with
  | nil => simp [closeEach]
  | cons k ks ih =>
    rw [closeEach_cons, ih]
    cases hk : isOpenState (p.slot k).state with
    | false =>
      rw [close_closed hk]
      by_cases hj : j = k
      · subst hj
        simp [hk]
      · simp [hj]
    | true =>
      have hdata (j : SlotId) := close_data hk r j
      by_cases hj : j = k
      · subst hj
        have hself := hdata j
        rw [if_pos rfl] at hself
        have hstate : ((p.close j r).slot j).state = .closing := congrArg Slot.state hself
        rw [hself, hstate, if_neg (by simp [isOpenState]), if_pos ⟨by simp, hk⟩]
      · have hother := hdata j
        rw [if_neg hj] at hother
        simp [hj, hother, state_of_data hother]

theorem closeEach_openOrder (ks : List SlotId) (r : SlotReason) :
    (p.closeEach ks r).flc.openOrder =
      p.flc.openOrder.filter fun j => !(j ∈ ks && isOpenState (p.slot j).state) := by
  induction ks generalizing p with
  | nil => simp [closeEach]
  | cons k ks ih =>
    rw [closeEach_cons, ih]
    cases hk : isOpenState (p.slot k).state with
    | false =>
      rw [close_closed hk]
      refine List.filter_congr fun j _ => ?_
      by_cases hj : j = k
      · subst hj
        simp [hk]
      · simp [hj]
    | true =>
      rw [close_openOrder hk, List.filter_filter]
      refine List.filter_congr fun j _ => ?_
      by_cases hj : j = k
      · simp [hj, hk]
      · have hother := close_data hk r j
        rw [if_neg hj] at hother
        simp [hj, state_of_data hother]

/-- The closes of an event reach the slots, the open order, the routing and the notices (R69, R98). -/
theorem sameBut_closeEach (p : Part) (ks : List SlotId) (r : SlotReason) :
    SameBut [.slots, .openOrder, .screens, .speakers, .notices] p (p.closeEach ks r) := by
  intro b hb
  cases b <;> simp_all [Piece.Same]

theorem openCount_eq_zero : p.openCount = 0 ↔ ∀ k, k ≠ 0 → isOpenState (p.slot k).state = false := by
  rw [openCount, List.length_eq_zero_iff, List.filter_eq_nil_iff]
  constructor
  · intro h k hk
    simpa using h k (mem_delegateSlots hk)
  · intro h k hk
    have hne : k ≠ 0 := by
      rintro rfl
      exact absurd hk (by decide)
    simpa using h k hne

/-- With no delegate slot open, MUTE ALL changes nothing (R81). -/
theorem muteAll_idle (h : p.openCount = 0) : p.muteAll = p := by
  have hnone : ∀ ks : List SlotId, (∀ k ∈ ks, k ≠ 0) → p.closeEach ks .mute = p := by
    intro ks
    induction ks with
    | nil => exact fun _ => rfl
    | cons k ks ih =>
      intro hks
      rw [closeEach_cons, close_closed (openCount_eq_zero.mp h k (hks k (by simp)))]
      exact ih fun j hj => hks j (List.mem_cons_of_mem _ hj)
  exact hnone delegateSlots (by decide)

theorem muteAll_data (k : SlotId) :
    p.muteAll.slotData k =
      if k ≠ 0 ∧ isOpenState (p.slot k).state = true then closedFor .mute (p.slotData k) else p.slotData k := by
  have hmem : k ∈ delegateSlots ↔ k ≠ 0 := ⟨fun h h' => absurd (h' ▸ h) (by decide), mem_delegateSlots⟩
  rw [muteAll, closeEach_data]
  simp only [hmem]

theorem muteAll_openOrder (hk : k ≠ 0) (hopen : isOpenState (p.slot k).state = true) : k ∉ p.muteAll.flc.openOrder := by
  rw [muteAll, closeEach_openOrder]
  simp [mem_delegateSlots hk, hopen]

theorem sameBut_muteAll (p : Part) : SameBut [.slots, .openOrder, .screens, .speakers, .notices] p p.muteAll :=
  sameBut_closeEach p _ _

/-! ### SET MODE -/

/-- The floor with a new mode and every override mark cleared (R82). -/
def modeSet (p : Part) (m : FloorMode) : Part :=
  ((p.setQueue (p.flc.queue.map fun e => { e with override := false })).withFlc
    { p.flc with queue := p.flc.queue.map fun e => { e with override := false }, mode := m }).noticeIf (p.flc.mode ≠ m) .floor

theorem setMode_eq (p : Part) (m : FloorMode) : p.setMode m = (p.modeSet m).autoAdvance := rfl

theorem modeSet_mode (p : Part) (m : FloorMode) : (p.modeSet m).flc.mode = m := by simp [modeSet]

theorem modeSet_isOpen (p : Part) (m : FloorMode) : (p.modeSet m).flc.isOpen = p.flc.isOpen := by simp [modeSet]

theorem modeSet_queue (p : Part) (m : FloorMode) :
    (p.modeSet m).flc.queue = p.flc.queue.map fun e => { e with override := false } := by simp [modeSet]

theorem modeSet_data (p : Part) (m : FloorMode) : (p.modeSet m).slotData = p.slotData :=
  slotData_of_slots (by simp [modeSet])

theorem modeSet_available (p : Part) (m : FloorMode) : (p.modeSet m).available = p.available :=
  available_of_data (modeSet_data p m) (by simp [modeSet])

theorem sameBut_modeSet (p : Part) (m : FloorMode) : SameBut [.floorMode, .queue, .notices] p (p.modeSet m) := by
  intro b hb
  cases b <;> simp_all [Piece.Same, modeSet]

theorem setMode_idle (h : p.flc.isOpen = false ∨ m = .chair ∨ p.available = none) : p.setMode m = p.modeSet m := by
  rw [setMode_eq]
  refine autoAdvance_closed ?_
  rw [modeSet_isOpen, modeSet_mode, modeSet_available]
  tauto

/-- Under a mode in which auto-advance runs, the head is granted the slot available (R70, R82). -/
theorem setMode_head {e : QueueEntry} (he : e ∈ p.flc.queue.head?) (hopen : p.flc.isOpen = true) (hm : m ≠ .chair)
    (hk : p.available = some k) :
    (p.setMode m).slotData k = openedFor e.seat (p.slotData k) ∧
      ∀ x ∈ (p.setMode m).flc.queue, x.seat ≠ e.seat ∧ x.override = false := by
  have hhead : { e with override := false } ∈ (p.modeSet m).flc.queue.head? := by
    rw [modeSet_queue, List.head?_map]
    exact Option.mem_map_of_mem _ he
  obtain ⟨hslot, hqueue⟩ := autoAdvance_head (p := p.modeSet m) (by rwa [modeSet_isOpen]) (by rwa [modeSet_mode])
    (by rwa [modeSet_available]) hhead
  rw [setMode_eq, hslot, modeSet_data]
  refine ⟨rfl, fun x hx => ?_⟩
  have hmem := List.mem_filter.mp (hqueue hx)
  rw [modeSet_queue, List.mem_map] at hmem
  obtain ⟨⟨y, -, rfl⟩, hne⟩ := hmem
  exact ⟨by simpa using hne, rfl⟩

theorem sameBut_setMode (p : Part) (m : FloorMode) :
    SameBut [.floorMode, .queue, .seats, .slots, .openOrder, .notices] p (p.setMode m) := by
  rw [setMode_eq]
  exact ((sameBut_modeSet p m).mono (by simp)).trans ((sameBut_autoAdvance _).mono (by simp))

theorem floorModeOf_gt {n : Nat} (h : 3 < n) : floorModeOf n = none := by
  obtain ⟨j, rfl⟩ : ∃ j, n = j + 4 := ⟨n - 4, by omega⟩
  rfl

theorem serveOwner_muteAll (p : Part) (tag : Byte) : p.serveOwner .chair ⟨0x25, tag, 0, []⟩ = (p.muteAll, .done, []) := by
  simp [serveOwner, serveFloor, plain]

theorem serveOwner_setMode (p : Part) (tag n : Byte) :
    p.serveOwner .chair ⟨0x26, tag, 1, [n]⟩ = plain (p.setModeRequest n.toNat) := by
  simp [serveOwner, serveFloor, byteAt]

end Part

variable {tag n : Byte} {s : State} {k : SlotId} {m : FloorMode}

theorem completes_muteAll (hport : Listening s.part .chair) (hset : Settled s.part) :
    Completes (.muteAll .chair tag) s fun t =>
      Answered t .chair tag .done [[]] ∧
      (∀ k : SlotId, t.slotData k = if k ≠ 0 ∧ Part.isOpenState (s.part.slot k).state = true then
        Part.closedFor .mute (s.part.slotData k) else s.part.slotData k) ∧
      (∀ k : SlotId, k ≠ 0 → Part.isOpenState (s.part.slot k).state = true → k ∉ t.flc.openOrder) ∧
      SameBut [.requests .chair, .slots, .openOrder, .screens, .speakers, .notices] s.part t := by
  have hserve := Part.serveOwner_muteAll (s.part.taken .chair ⟨0x25, tag, 0, []⟩) tag
  refine (completes_routing (c := .muteAll .chair tag) rfl hport hset (by decide) (by decide) hserve (by simp) (by simp)
    (by simp)).mono ?_
  rintro t ⟨hans, hown, -⟩
  dsimp only at hown
  have hslots := Part.slotData_of_slots (hown .slots (by simp))
  have horder : t.flc.openOrder = (s.part.taken .chair ⟨0x25, tag, 0, []⟩).muteAll.flc.openOrder := hown .openOrder (by simp)
  refine ⟨hans, fun k => ?_, fun k hk hopen => ?_, ?_⟩
  · rw [hslots, Part.muteAll_data]
    rfl
  · rw [horder]
    exact Part.muteAll_openOrder hk (by simpa using hopen)
  · exact (Part.sameBut_muteAll _).row hown (by simp)

theorem completes_setMode (hport : Listening s.part .chair) (hset : Settled s.part) (hm : floorModeOf n.toNat = some m) :
    Completes (.setMode .chair tag n) s fun t =>
      Answered t .chair tag .done [[]] ∧ SameBut [.requests .chair] ((s.part.taken .chair ⟨0x26, tag, 1, [n]⟩).setMode m) t := by
  have hserve : (s.part.taken .chair ⟨0x26, tag, 1, [n]⟩).serveOwner .chair ⟨0x26, tag, 1, [n]⟩ =
      ((s.part.taken .chair ⟨0x26, tag, 1, [n]⟩).setMode m, .done, []) := by
    rw [Part.serveOwner_setMode, Part.setModeRequest, hm]
    rfl
  exact (completes_owner (c := .setMode .chair tag n) rfl hport hset (by decide) (by decide) hserve (Part.sameBut_setMode _ m)
    (by simp) (by simp) (by simp) (by simp)).mono fun t ⟨hans, hown, _⟩ => ⟨hans, hown⟩

/-- Settles O41: MUTE ALL closes the delegate slots one after another, and SET MODE clears the marks before auto-advance runs. -/
theorem muteAllAndSetMode : Obligations.MuteAllAndSetMode := by
  unfold Obligations.MuteAllAndSetMode
  refine ⟨fun tag s hport hset => ?_, fun tag n s hport hset => ⟨fun hn => ?_, fun m hm => ⟨fun h => ?_, ?_⟩⟩⟩
  · have hidle (h : s.part.openCount = 0) : Completes (.muteAll .chair tag) s fun t => SameBut [.requests .chair] s.part t :=
      (completes_kept (c := .muteAll .chair tag) rfl hport hset (by decide) (by decide)
        ((Part.serveOwner_muteAll _ tag).trans (by
          rw [Part.muteAll_idle (p := s.part.taken .chair ⟨0x25, tag, 0, []⟩) h]))).mono fun t ht => ht.2
    refine ((completes_muteAll hport hset).imp hidle).mono ?_
    rintro t ⟨⟨hans, hslots, horder, hbut⟩, hsame⟩
    refine ⟨hans, fun k => ⟨?_, fun ⟨hk, hopen⟩ => ?_, fun h => ?_⟩, hbut, hsame⟩
    · have hk := hslots k
      split at hk
      · simpa [Part.closedFor] using congrArg Slot.holder hk
      · exact Part.holder_of_data hk
    · have hk' := hslots k
      rw [if_pos ⟨hk, hopen⟩] at hk'
      exact ⟨congrArg Slot.state hk', congrArg Slot.reason hk', horder k hk hopen⟩
    · have hk' := hslots k
      rw [if_neg (by simp; tauto)] at hk'
      exact ⟨Part.state_of_data hk', Part.reason_of_data hk'⟩
  · refine completes_kept (c := .setMode .chair tag n) rfl hport hset (by decide) (by decide) ?_
    rw [Part.serveOwner_setMode, Part.setModeRequest, Part.floorModeOf_gt hn]
    rfl
  · refine (completes_setMode hport hset hm).mono ?_
    rintro t ⟨hans, hown⟩
    rw [Part.setMode_idle (p := s.part.taken .chair ⟨0x26, tag, 1, [n]⟩) h] at hown
    refine ⟨hans, Eq.trans (hown .floorMode (by simp)) (Part.modeSet_mode _ m), Eq.trans (hown .queue (by simp))
      (Part.modeSet_queue _ m), ?_⟩
    exact (Part.sameBut_modeSet _ m).row hown (by simp)
  · intro k e he hopen hchair hk
    refine (completes_setMode hport hset hm).mono ?_
    rintro t ⟨hans, hown⟩
    obtain ⟨hslot, hqueue⟩ := Part.setMode_head (p := s.part.taken .chair ⟨0x26, tag, 1, [n]⟩) he hopen hchair hk
    have hmode : (Part.setMode (s.part.taken .chair ⟨0x26, tag, 1, [n]⟩) m).flc.mode = m := by
      rw [Part.setMode_eq, (Part.autoAdvance_keeps _).2.2.1, Part.modeSet_mode]
    have hslot' := Eq.trans (congrFun (Part.slotData_of_slots (hown .slots (by simp))) k) hslot
    have hqueue' := hown .queue (by simp)
    refine ⟨hans, Eq.trans (hown .floorMode (by simp)) hmode, congrArg Slot.state hslot', congrArg Slot.holder hslot',
      fun x hx => hqueue x (Eq.mp (congrArg (x ∈ ·) hqueue') hx), ?_⟩
    exact (Part.sameBut_setMode _ m).row hown (by simp)

end Sys2Proof.Machine
end

section
/-! SET LIMIT and SET SPEAK LIMIT (R83, R84). -/

namespace Sys2Proof.Machine

theorem clamp_eq {a b : Nat} (h : a ≤ b) (n : Nat) : clamp a b n = max a (min b n) := by
  unfold clamp
  (repeat' split) <;> omega

namespace Part

variable {p : Part} {k : SlotId} {n : Nat}

/-! ### SET LIMIT -/

/-- The floor with a new limit (R83). -/
def limitSet (p : Part) (n : Nat) : Part := (p.withFlc { p.flc with limit := n }).noticeIf (p.flc.limit ≠ n) .floor

theorem limitSet_limit (p : Part) (n : Nat) : (p.limitSet n).flc.limit = n := by simp [limitSet]

theorem limitSet_queue (p : Part) (n : Nat) : (p.limitSet n).flc.queue = p.flc.queue := by simp [limitSet]

theorem limitSet_mode (p : Part) (n : Nat) : (p.limitSet n).flc.mode = p.flc.mode := by simp [limitSet]

theorem limitSet_isOpen (p : Part) (n : Nat) : (p.limitSet n).flc.isOpen = p.flc.isOpen := by simp [limitSet]

theorem limitSet_data (p : Part) (n : Nat) : (p.limitSet n).slotData = p.slotData := slotData_of_slots (by simp [limitSet])

theorem limitSet_state (p : Part) (n : Nat) (k : SlotId) : ((p.limitSet n).slot k).state = (p.slot k).state :=
  state_of_data (congrFun (limitSet_data p n) k)

theorem limitSet_self (p : Part) : p.limitSet p.flc.limit = p := by
  simp [limitSet, noticeIf]
  rfl

theorem limitSet_available (h : p.openCount < n) : (p.limitSet n).available = p.freeSlot := by
  rw [available, openCount_of_states (limitSet_state p n), freeSlot_of_states (limitSet_state p n), limitSet_limit, if_pos h]

theorem sameBut_limitSet (p : Part) (n : Nat) : SameBut [.floorLimit, .notices] p (p.limitSet n) := by
  intro b hb
  cases b <;> simp_all [Piece.Same, limitSet]

/-- The grants that a limit closes: the newest ones, as many as stand above it (R83). -/
def newestGrants (p : Part) (n : Nat) : List SlotId := p.flc.openOrder.reverse.take (p.openCount - n)

theorem setLimit_lower (h : n < p.openCount) : p.setLimit n = (p.limitSet n).closeEach (p.newestGrants n) .limit := by
  simp only [setLimit, h, if_true]
  rfl

theorem setLimit_raise (h : p.openCount ≤ n) (hlimit : p.flc.limit < n) : p.setLimit n = (p.limitSet n).autoAdvance := by
  simp only [setLimit, Nat.not_lt.mpr h, hlimit, if_true, if_false]
  rfl

theorem setLimit_stay (h : p.openCount ≤ n) (hlimit : n ≤ p.flc.limit) : p.setLimit n = p.limitSet n := by
  simp only [setLimit, Nat.not_lt.mpr h, Nat.not_lt.mpr hlimit, if_false]
  rfl

theorem setLimit_limit (p : Part) (n : Nat) : (p.setLimit n).flc.limit = n := by
  simp only [setLimit]
  (repeat' split) <;> simp

theorem sameBut_setLimit (p : Part) (n : Nat) :
    SameBut [.floorLimit, .queue, .seats, .slots, .openOrder, .screens, .speakers, .notices] p (p.setLimit n) := by
  intro b hb
  cases b <;> simp_all [Piece.Same]

/-- A limit below the open slots closes the newest grants and no other slot, and leaves the queue (R83). -/
theorem setLimit_closes (h : n < p.openCount) :
    (p.setLimit n).flc.queue = p.flc.queue ∧
      ∀ k, (p.setLimit n).slotData k =
        if k ∈ p.newestGrants n ∧ isOpenState (p.slot k).state = true then closedFor .limit (p.slotData k) else p.slotData k := by
  rw [setLimit_lower h]
  refine ⟨by simp [limitSet_queue], fun k => ?_⟩
  rw [closeEach_data, limitSet_data, limitSet_state]

/-- A raised limit grants the head of the queue the lowest FREE slot (R70, R83). -/
theorem setLimit_head {e : QueueEntry} (he : e ∈ p.flc.queue.head?) (hlimit : p.flc.limit < n) (hopen : p.flc.isOpen = true)
    (hmode : p.flc.mode ≠ .chair) (hcount : p.openCount < n) (hk : p.freeSlot = some k) :
    (p.setLimit n).slotData k = openedFor e.seat (p.slotData k) ∧ (p.setLimit n).isQueued e.seat = false := by
  obtain ⟨hslot, hqueue⟩ := autoAdvance_head (p := p.limitSet n) (e := e) (by rwa [limitSet_isOpen]) (by rwa [limitSet_mode])
    ((limitSet_available hcount).trans hk) (by rwa [limitSet_queue])
  rw [setLimit_raise (Nat.le_of_lt hcount) hlimit, hslot, limitSet_data]
  refine ⟨rfl, ?_⟩
  rw [← Bool.not_eq_true, isQueued_iff]
  rintro ⟨x, hx, hseat⟩
  have hne := (List.mem_filter.mp (hqueue hx)).2
  simp [hseat] at hne

/-- A raised limit on a floor with nothing to grant (R70, R83). -/
theorem setLimit_idle (hlimit : p.flc.limit < n) (hcount : p.openCount ≤ n)
    (h : p.flc.isOpen = false ∨ p.flc.mode = .chair ∨ p.flc.queue = []) : p.setLimit n = p.limitSet n := by
  rw [setLimit_raise hcount hlimit]
  refine autoAdvance_closed ?_
  rw [limitSet_isOpen, limitSet_mode, limitSet_queue]
  tauto

/-! ### SET SPEAK LIMIT -/

/-- A slot with its warned mark as tested (R87). -/
def warnedAs (m : Warned) (x : Slot) : Slot := { x with warned := m }

/-- The record of an open delegate slot as an evaluation leaves it (R87). -/
def evaluated (f : Flc) (x : Slot) : Slot :=
  if warnedMark f x.elapsed = .over ∧ f.enforce = true then closedFor .time (warnedAs (warnedMark f x.elapsed) x)
  else warnedAs (warnedMark f x.elapsed) x

/-- The slot's new mark, with its notice (R87). -/
def setWarned (p : Part) (k : SlotId) (m : Warned) : Part :=
  (p.setSlot k (warnedAs m (p.slot k))).noticeIf ((p.slot k).warned ≠ m) .floor

theorem evaluate_eq (p : Part) (k : SlotId) :
    p.evaluate k =
      if isOpenState (p.slot k).state then
        if warnedMark p.flc (p.slot k).elapsed = .over ∧ p.flc.enforce then
          (p.setWarned k (warnedMark p.flc (p.slot k).elapsed)).close k .time
        else p.setWarned k (warnedMark p.flc (p.slot k).elapsed)
      else p := rfl

theorem setWarned_data (p : Part) (k : SlotId) (m : Warned) (j : SlotId) :
    (p.setWarned k m).slotData j = if j = k then warnedAs m (p.slotData k) else p.slotData j := by
  have hnotice : (p.setWarned k m).slotData = (p.setSlot k (warnedAs m (p.slot k))).slotData :=
    slotData_of_slots (by simp [setWarned])
  rw [hnotice, setSlot_data]
  rfl

theorem evaluate_data (p : Part) (k j : SlotId) :
    (p.evaluate k).slotData j =
      if j = k then (if isOpenState (p.slot j).state = true then evaluated p.flc (p.slotData j) else p.slotData j)
      else p.slotData j := by
  have hself (m : Warned) : (p.setWarned k m).slotData k = warnedAs m (p.slotData k) := by rw [setWarned_data, if_pos rfl]
  rw [evaluate_eq]
  by_cases hj : j = k
  · subst hj
    rw [if_pos rfl]
    split
    next hopen =>
      unfold evaluated
      have hstate (m : Warned) : ((p.setWarned j m).slot j).state = (p.slot j).state := by
        rw [← slotData_state, hself]
        rfl
      split
      next hover => rw [close_data (by rwa [hstate]), if_pos rfl, hself, slotData_elapsed, if_pos hover]
      next hover => rw [hself, slotData_elapsed, if_neg hover]
    next => rfl
  · rw [if_neg hj]
    split
    next hopen =>
      have hother (m : Warned) : (p.setWarned k m).slotData j = p.slotData j := by rw [setWarned_data, if_neg hj]
      have hstate (m : Warned) : isOpenState ((p.setWarned k m).slot k).state = true := by
        rwa [← slotData_state, hself]
      split
      · rw [close_data (hstate _), if_neg hj, hother]
      · exact hother _
    next => rfl

theorem evaluated_warned (f : Flc) (x : Slot) : (evaluated f x).warned = warnedMark f x.elapsed := by
  unfold evaluated
  split <;> rfl

theorem evaluated_closing {f : Flc} {x : Slot} (hopen : isOpenState x.state = true) :
    (evaluated f x).state = .closing ↔ warnedMark f x.elapsed = .over ∧ f.enforce = true := by
  have hstate : x.state ≠ .closing := by
    intro h
    simp [h, isOpenState] at hopen
  unfold evaluated
  split
  next h => exact ⟨fun _ => h, fun _ => rfl⟩
  next h => exact ⟨fun hclosing => absurd hclosing hstate, fun h' => absurd h' h⟩

theorem evaluated_congr {f g : Flc} (hspeak : f.speak = g.speak) (henforce : f.enforce = g.enforce) (hlead : f.lead = g.lead) :
    evaluated f = evaluated g := by
  cases f
  cases g
  cases hspeak
  cases henforce
  cases hlead
  rfl

theorem evaluateAll_data (p : Part) (j : SlotId) :
    p.evaluateAll.slotData j =
      if j ≠ 0 ∧ isOpenState (p.slot j).state = true then evaluated p.flc (p.slotData j) else p.slotData j := by
  have hmem : j ∈ delegateSlots ↔ j ≠ 0 := ⟨fun h h' => absurd (h' ▸ h) (by decide), mem_delegateSlots⟩
  have hfold := foldl_data (op := evaluate) (P := fun q => q.flc.speak = p.flc.speak ∧ q.flc.enforce = p.flc.enforce ∧ q.flc.lead = p.flc.lead)
    (F := fun x => if isOpenState x.state = true then evaluated p.flc x else x) (fun q k hq => by simpa using hq)
    (fun q k hq j => by
      obtain ⟨hspeak, henforce, hlead⟩ := hq
      rw [evaluate_data, evaluated_congr hspeak henforce hlead]
      rfl)
    (l := delegateSlots) (p := p) (by decide) ⟨rfl, rfl, rfl⟩ j
  rw [evaluateAll, hfold]
  by_cases h : j ≠ 0
  · rw [if_pos (hmem.mpr h)]
    cases hopen : isOpenState (p.slot j).state <;> simp [h, hopen]
  · rw [if_neg fun hj => h (hmem.mp hj), if_neg fun hj => h hj.1]

theorem warnedMark_over {f : Flc} {n : Nat} : warnedMark f n = .over ↔ f.speak ≠ 0 ∧ f.speak ≤ n := by
  unfold warnedMark
  (repeat' split) <;> simp <;> omega

theorem warnedMark_warn {f : Flc} {n : Nat} :
    warnedMark f n = .warn ↔ f.speak ≠ 0 ∧ n < f.speak ∧ f.speak ≤ n + min f.lead (f.speak / 2) := by
  unfold warnedMark effectiveLead
  (repeat' split) <;> simp <;> omega

/-- The floor with a new speaking limit (R84). -/
def speakSet (p : Part) (n : Nat) (enforce : Bool) : Part :=
  (p.withFlc { p.flc with speak := n, enforce := enforce }).noticeIf (p.flc.speak ≠ n || p.flc.enforce ≠ enforce) .floor

theorem setSpeakLimit_eq (p : Part) (n : Nat) (b : Bool) : p.setSpeakLimit n b = (p.speakSet n b).evaluateAll := rfl

theorem speakSet_data (p : Part) (n : Nat) (b : Bool) : (p.speakSet n b).slotData = p.slotData :=
  slotData_of_slots (by simp [speakSet])

theorem setSpeakLimit_data (p : Part) (n : Nat) (b : Bool) (j : SlotId) :
    (p.setSpeakLimit n b).slotData j =
      if j ≠ 0 ∧ isOpenState (p.slot j).state = true then evaluated { p.flc with speak := n, enforce := b } (p.slotData j)
      else p.slotData j := by
  rw [setSpeakLimit_eq, evaluateAll_data, speakSet_data, state_of_data (congrFun (speakSet_data p n b) j)]
  simp [speakSet]

theorem setSpeakLimit_speak (p : Part) (n : Nat) (b : Bool) :
    (p.setSpeakLimit n b).flc.speak = n ∧ (p.setSpeakLimit n b).flc.enforce = b := by
  simp [setSpeakLimit]

theorem sameBut_setSpeakLimit (p : Part) (n : Nat) (b : Bool) :
    SameBut [.floorSpeak, .slots, .openOrder, .screens, .speakers, .notices] p (p.setSpeakLimit n b) := by
  intro c hc
  cases c <;> simp_all [Piece.Same]

theorem setSpeakRequest_range {n e : Nat} (h : 3600 < n ∨ 1 < e) : p.setSpeakRequest n e = (p, .range) := by
  unfold setSpeakRequest
  split
  next x b hx hb =>
    by_cases hn : 3600 < n
    · simp [speakLimitOf, hn] at hx
    · simp [yesNoOf_gt (h.resolve_left hn)] at hb
  next => rfl

theorem setSpeakRequest_done {n e : Nat} (hn : n ≤ 3600) (he : e ≤ 1) :
    p.setSpeakRequest n e = (p.setSpeakLimit (if n = 0 then 0 else max 10 n) (decide (e = 1)), .done) := by
  have hlimit : speakLimitOf n = some (if n = 0 then 0 else max 10 n) := by
    rw [speakLimitOf, if_neg (Nat.not_lt.mpr hn), Nat.max_comm]
    split <;> rfl
  simp only [setSpeakRequest, hlimit, yesNoOf_le he]

theorem serveOwner_setSpeakLimit (p : Part) (tag e : Byte) (n : Half) :
    p.serveOwner .chair ⟨0x28, tag, 3, b2 n.toNat ++ [e]⟩ = plain (p.setSpeakRequest n.toNat e.toNat) := by
  have hn : halfAt (b2 n.toNat ++ [e]) 0 = n.toNat := halfAt_b2 n [e]
  have he : byteAt (b2 n.toNat ++ [e]) 2 = e.toNat := rfl
  simp only [serveOwner, serveFloor, hn, he]
  rfl

/-! ### The owners' answers -/

theorem serveOwner_setLimit (p : Part) (tag n : Byte) :
    p.serveOwner .chair ⟨0x27, tag, 1, [n]⟩ = (p.setLimit (max 1 (min 6 n.toNat)), .done, []) := by
  rw [← clamp_eq (by decide)]
  simp [serveOwner, serveFloor, byteAt, plain]

end Part

variable {tag n : Byte} {s : State} {k : SlotId}

/-- SET LIMIT: the limit as clamped is the owner's (R83). -/
theorem completes_setLimit (hport : Listening s.part .chair) (hset : Settled s.part) :
    Completes (.setLimit .chair tag n) s fun t =>
      Answered t .chair tag .done [[]] ∧
      SameBut [.requests .chair, .screens, .notices]
        ((s.part.taken .chair ⟨0x27, tag, 1, [n]⟩).setLimit (max 1 (min 6 n.toNat))) t := by
  have hserve := Part.serveOwner_setLimit (s.part.taken .chair ⟨0x27, tag, 1, [n]⟩) tag n
  refine (completes_routing (c := .setLimit .chair tag n) rfl hport hset (by decide) (by decide) hserve (by simp) (by simp)
    (by simp)).mono ?_
  rintro t ⟨hans, hown, -⟩
  dsimp only at hown
  exact ⟨hans, hown⟩

/-- SET LIMIT where the limit alone changes (R83). -/
theorem completes_limitSet (hport : Listening s.part .chair) (hset : Settled s.part)
    (h : ∀ r, (s.part.taken .chair r).setLimit (max 1 (min 6 n.toNat)) = (s.part.taken .chair r).limitSet (max 1 (min 6 n.toNat))) :
    Completes (.setLimit .chair tag n) s fun t => SameBut [.requests .chair, .floorLimit, .notices] s.part t := by
  have hserve := (Part.serveOwner_setLimit (s.part.taken .chair ⟨0x27, tag, 1, [n]⟩) tag n).trans (by rw [h])
  exact (completes_owner (c := .setLimit .chair tag n) rfl hport hset (by decide) (by decide) hserve
    (Part.sameBut_limitSet _ _) (by simp [Part.limitSet]) (by simp [Part.limitSet]) (by simp [Part.limitSet])
    (by simp [Part.limitSet])).mono fun t ht => ht.2.2.1

/-- SET LIMIT with the limit in force (R83). -/
theorem completes_setLimit_same (hport : Listening s.part .chair) (hset : Settled s.part)
    (hlimit : max 1 (min 6 n.toNat) = s.part.flc.limit) (hcount : s.part.openCount ≤ max 1 (min 6 n.toNat)) :
    Completes (.setLimit .chair tag n) s fun t => SameBut [.requests .chair] s.part t := by
  refine (completes_kept (c := .setLimit .chair tag n) (st := .done) (l := []) rfl hport hset (by decide) (by decide)
    ((Part.serveOwner_setLimit _ tag n).trans ?_)).mono fun t ht => ht.2
  have hself := Part.limitSet_self (s.part.taken .chair ⟨0x27, tag, 1, [n]⟩)
  have hstay := Part.setLimit_stay (p := s.part.taken .chair ⟨0x27, tag, 1, [n]⟩) (n := max 1 (min 6 n.toNat)) hcount
    (Nat.le_of_eq hlimit)
  rw [hstay, hlimit]
  exact congrArg (·, Status.done, []) hself

theorem setLimit_acts (hport : Listening s.part .chair) (hset : Settled s.part) :
    Completes (.setLimit .chair tag n) s fun t =>
        Answered t .chair tag .done [[]] ∧ t.flc.limit = max 1 (min 6 n.toNat) ∧
        SameBut [.requests .chair, .floorLimit, .queue, .seats, .slots, .openOrder, .screens, .speakers, .notices]
          s.part t ∧
        (t.flc.limit < s.part.openCount →
          t.flc.queue = s.part.flc.queue ∧
          (∀ k ∈ s.part.flc.openOrder.reverse.take (s.part.openCount - t.flc.limit),
            Part.isOpenState (s.part.slot k).state = true →
            (t.slot k).state = .closing ∧ (t.slot k).reason = some .limit) ∧
          (∀ k, k ∉ s.part.flc.openOrder.reverse.take (s.part.openCount - t.flc.limit) →
            (t.slot k).state = (s.part.slot k).state)) ∧
        (∀ k, ∀ e ∈ s.part.flc.queue.head?, s.part.flc.limit < t.flc.limit → s.part.flc.isOpen = true →
          s.part.flc.mode ≠ .chair → s.part.openCount < t.flc.limit → s.part.freeSlot = some k →
          (t.slot k).state = .opening ∧ (t.slot k).holder = some e.seat ∧ t.isQueued e.seat = false) ∧
        (s.part.flc.limit < t.flc.limit → s.part.openCount ≤ t.flc.limit →
          (s.part.flc.isOpen = false ∨ s.part.flc.mode = .chair ∨ s.part.flc.queue = []) →
          SameBut [.requests .chair, .floorLimit, .notices] s.part t) ∧
        (t.flc.limit = s.part.flc.limit → s.part.openCount ≤ t.flc.limit → SameBut [.requests .chair] s.part t) := by
  have hidle (h : s.part.flc.limit < max 1 (min 6 n.toNat) ∧ s.part.openCount ≤ max 1 (min 6 n.toNat) ∧
      (s.part.flc.isOpen = false ∨ s.part.flc.mode = .chair ∨ s.part.flc.queue = [])) :
      Completes (.setLimit .chair tag n) s fun t => SameBut [.requests .chair, .floorLimit, .notices] s.part t :=
    completes_limitSet hport hset fun r => Part.setLimit_idle (p := s.part.taken .chair r) h.1 h.2.1 h.2.2
  have hsame (h : max 1 (min 6 n.toNat) = s.part.flc.limit ∧ s.part.openCount ≤ max 1 (min 6 n.toNat)) :=
    completes_setLimit_same (tag := tag) hport hset h.1 h.2
  refine (((completes_setLimit hport hset).imp hidle).imp hsame).mono ?_
  rintro t ⟨⟨⟨hans, hown⟩, hidle⟩, hsame⟩
  have hslots := Part.slotData_of_slots (hown .slots (by simp))
  have hqueue : t.flc.queue = _ := hown .queue (by simp)
  have hlimit : t.flc.limit = max 1 (min 6 n.toNat) := Eq.trans (hown .floorLimit (by simp)) (Part.setLimit_limit _ _)
  rw [hlimit]
  refine ⟨hans, rfl, (Part.sameBut_setLimit _ _).row hown (by simp), fun h => ?_, fun k e he hraise hopen hmode hcount hk => ?_, fun hraise hcount h => ?_, fun h hcount => ?_⟩
  · obtain ⟨hkept, hclosed⟩ := Part.setLimit_closes (p := s.part.taken .chair ⟨0x27, tag, 1, [n]⟩) h
    refine ⟨hqueue.trans hkept, fun k hk hopen => ?_, fun k hk => ?_⟩
    · have hslot := (congrFun hslots k).trans (hclosed k)
      rw [if_pos ⟨hk, hopen⟩] at hslot
      exact ⟨congrArg Slot.state hslot, congrArg Slot.reason hslot⟩
    · have hslot := (congrFun hslots k).trans (hclosed k)
      rw [if_neg fun hmem => hk hmem.1] at hslot
      exact Part.state_of_data hslot
  · obtain ⟨hslot, hleft⟩ := Part.setLimit_head (p := s.part.taken .chair ⟨0x27, tag, 1, [n]⟩) he hraise hopen hmode hcount hk
    have hslot' := (congrFun hslots k).trans hslot
    exact ⟨congrArg Slot.state hslot', congrArg Slot.holder hslot', (congrFun (Part.isQueued_eq hqueue) _).trans hleft⟩
  · exact hidle ⟨hraise, hcount, h⟩
  · exact hsame ⟨h, hcount⟩

theorem completes_setSpeakLimit {e : Byte} {n : Half} (hport : Listening s.part .chair) (hset : Settled s.part) (hn : n.toNat ≤ 3600)
    (he : e.toNat ≤ 1) :
    Completes (.setSpeakLimit .chair tag n e) s fun t =>
      Answered t .chair tag .done [[]] ∧
      SameBut [.requests .chair, .screens, .notices] ((s.part.taken .chair ⟨0x28, tag, 3, b2 n.toNat ++ [e]⟩).setSpeakLimit
        (if n.toNat = 0 then 0 else max 10 n.toNat) (decide (e.toNat = 1))) t := by
  have hserve := (Part.serveOwner_setSpeakLimit (s.part.taken .chair ⟨0x28, tag, 3, b2 n.toNat ++ [e]⟩) tag e n).trans
    (congrArg Part.plain (Part.setSpeakRequest_done hn he))
  refine (completes_routing (c := .setSpeakLimit .chair tag n e) rfl hport hset (by decide) (by decide) hserve (by simp [Part.plain])
    (by simp [Part.plain]) (by simp [Part.plain])).mono ?_
  rintro t ⟨hans, hown, -⟩
  dsimp only [Part.plain] at hown
  exact ⟨hans, hown⟩

/-- Settles O42: the limit closes the newest grants or lets auto-advance run, and the speaking limit evaluates every open
delegate slot. -/
theorem setLimitAndSpeakLimit : Obligations.SetLimitAndSpeakLimit := by
  unfold Obligations.SetLimitAndSpeakLimit
  refine ⟨fun tag n s hport hset => setLimit_acts hport hset, fun tag e n s hport hset => ⟨fun h => ?_, fun hn he => ?_⟩⟩
  · exact completes_kept (c := .setSpeakLimit .chair tag n e) (st := .range) (l := []) rfl hport hset (by decide) (by decide)
      ((Part.serveOwner_setSpeakLimit _ tag e n).trans (congrArg Part.plain (Part.setSpeakRequest_range h)))
  · refine (completes_setSpeakLimit hport hset hn he).mono ?_
    rintro t ⟨hans, hown⟩
    obtain ⟨hspeak, henforce⟩ := hown .floorSpeak (by simp)
    rw [(Part.setSpeakLimit_speak _ _ _).1] at hspeak
    rw [(Part.setSpeakLimit_speak _ _ _).2] at henforce
    have hslots (k : SlotId) := (congrFun (Part.slotData_of_slots (hown .slots (by simp))) k).trans
      (Part.setSpeakLimit_data _ _ _ k)
    refine ⟨hans, hspeak, henforce, fun k hk hopen => ?_, fun k h => ?_, ?_⟩
    · have hslot := hslots k
      rw [if_pos ⟨hk, hopen⟩] at hslot
      have hwarned : (t.slot k).warned =
          Part.warnedMark { s.part.flc with speak := t.flc.speak, enforce := t.flc.enforce } (s.part.slot k).elapsed := by
        rw [hspeak, henforce]
        exact (congrArg Slot.warned hslot).trans (Part.evaluated_warned _ _)
      rw [hwarned, Part.warnedMark_over, Part.warnedMark_warn]
      refine ⟨Iff.rfl, Iff.rfl, ?_⟩
      rw [← Part.warnedMark_over (f := { s.part.flc with speak := t.flc.speak, enforce := t.flc.enforce }), hspeak, henforce,
        ← Part.slotData_state t k, hslot]
      exact Part.evaluated_closing hopen
    · have hslot := hslots k
      rw [if_neg (by simp; tauto)] at hslot
      exact ⟨Part.state_of_data hslot, Part.warned_of_data hslot⟩
    · exact (Part.sameBut_setSpeakLimit _ _ _).row hown (by simp)

end Sys2Proof.Machine
end

section
/-! PRESS: what the floor makes of a press in each of its modes (R71 to R75, R85). -/

namespace Sys2Proof.Machine

namespace Part

variable {p q t : Part} {i : SeatId} {j k : SlotId}

/-! ### The holder of a slot -/

theorem mem_allSlots (k : SlotId) : k ∈ allSlots := by
  revert k
  decide

theorem slotOf_eq_none : p.slotOf i = none ↔ ∀ k, (p.slot k).state ≠ .free → (p.slot k).holder ≠ some i := by
  simp [slotOf, mem_allSlots]

theorem slotOf_isSome (hstate : (p.slot k).state ≠ .free) (hholder : (p.slot k).holder = some i) : (p.slotOf i).isSome = true := by
  rw [Option.isSome_iff_ne_none]
  exact fun h => slotOf_eq_none.mp h k hstate hholder

theorem slotOf_state (h : p.slotOf i = some k) : (p.slot k).state ≠ .free := by
  have hk := List.find?_some h
  simp only [Bool.and_eq_true, decide_eq_true_eq] at hk
  exact hk.1

theorem slotOf_grantSlot_self : ((p.grantSlot k i).slotOf i).isSome = true := by
  have hslot := grantSlot_data p k i k
  rw [if_pos rfl] at hslot
  have hstate : ((p.grantSlot k i).slot k).state = .opening := congrArg Slot.state hslot
  have hholder : ((p.grantSlot k i).slot k).holder = some i := congrArg Slot.holder hslot
  exact slotOf_isSome (by simp [hstate]) hholder

theorem slotOf_grantSlot_other {s : SeatId} (hs : s ≠ i) (h : p.slotOf i = none) : (p.grantSlot k s).slotOf i = none := by
  rw [slotOf_eq_none] at h ⊢
  intro j
  have hslot := grantSlot_data p k s j
  by_cases hj : j = k
  · rw [if_pos hj] at hslot
    have hholder : ((p.grantSlot k s).slot j).holder = some s := congrArg Slot.holder hslot
    rw [hholder]
    exact fun _ => by simpa using hs
  · rw [if_neg hj] at hslot
    rw [state_of_data hslot, holder_of_data hslot]
    exact h j

theorem slotOf_close (h : p.slotOf i = none) (hopen : isOpenState (p.slot k).state = true) (r : SlotReason) :
    (p.close k r).slotOf i = none := by
  rw [slotOf_eq_none] at h ⊢
  intro j
  have hslot := close_data hopen r j
  by_cases hj : j = k
  · subst hj
    rw [if_pos rfl] at hslot
    have hholder : ((p.close j r).slot j).holder = (p.slot j).holder := by
      simpa [closedFor] using congrArg Slot.holder hslot
    rw [hholder]
    exact fun _ => h j fun hfree => by simp [hfree, isOpenState] at hopen
  · rw [if_neg hj] at hslot
    rw [state_of_data hslot, holder_of_data hslot]
    exact h j

/-! ### The queue of a floor on which a seat does not wait -/

theorem filter_unqueued (h : p.isQueued i = false) : (p.flc.queue.filter fun e => e.seat ≠ i) = p.flc.queue := by
  rw [List.filter_eq_self]
  intro e he
  have hne := List.any_eq_false.mp h e he
  simpa using hne

theorem insertEntry_override {e : QueueEntry} {l : List QueueEntry} (he : e.override = true) (h : ∀ x ∈ l, x.override = false) :
    insertEntry e l = e :: l := by
  cases l with
  | nil => rfl
  | cons x l =>
    have hx : x.override = false := h x (by simp)
    rw [insertEntry, if_pos]
    simp only [classRank, he, hx, if_true, Bool.false_eq_true, if_false]
    split <;> decide

theorem insertEntry_behind {e x : QueueEntry} {l : List QueueEntry} (hx : x.override = true) :
    insertEntry e (x :: l) = x :: insertEntry e l := by
  rw [insertEntry, if_neg]
  simp [classRank, hx]

theorem mem_insertEntry {e x : QueueEntry} {l : List QueueEntry} : x ∈ insertEntry e l ↔ x = e ∨ x ∈ l := by
  rw [(KeepsRecords.insertEntry_perm e l).mem_iff, List.mem_cons]

/-! ### Refusals and counters -/

theorem refusePress_refused (p : Part) (i : SeatId) : (p.refusePress i).sgu.refused.get i = 1000 := by
  simp [refusePress, countRefused, showRefused, Config.refusedFrames]

theorem refusePress_counter (p : Part) (i : SeatId) :
    ((p.refusePress i).seat i).counters.refused =
      if p.ssu.session = none then (p.seat i).counters.refused else min ((p.seat i).counters.refused + 1) 65535 := by
  rw [refusePress, countRefused, count_seat]
  by_cases h : p.ssu.session = none
  · simp [sessionOpen, h, showRefused]
  · simp [sessionOpen, Option.isSome_iff_ne_none, h, showRefused, bump16]

theorem sameBut_refusePress (p : Part) (i : SeatId) : SameBut [.refused, .seats] p (p.refusePress i) := by
  intro b hb
  cases b <;> simp_all [Piece.Same, refusePress, countRefused, showRefused]

/-- A new request is counted in an open session (R59, R72). -/
theorem countRequest_requests (hseat : (q.seat i).counters.requests = (p.seat i).counters.requests) (hssu : q.ssu = p.ssu) :
    ((q.countRequest i).seat i).counters.requests =
      if p.ssu.session = none then (p.seat i).counters.requests else min ((p.seat i).counters.requests + 1) 65535 := by
  rw [countRequest, count_seat]
  by_cases h : p.ssu.session = none
  · simp [sessionOpen, hssu, h, hseat]
  · simp [sessionOpen, hssu, Option.isSome_iff_ne_none, h, hseat, bump16]

theorem grantSlot_requests (p : Part) (k : SlotId) (s i : SeatId) :
    ((p.grantSlot k s).seat i).counters.requests = (p.seat i).counters.requests := by
  rw [grantSlot_seat]
  split <;> rfl

theorem advance_requests (n : Nat) : ((advance n p).seat i).counters.requests = (p.seat i).counters.requests :=
  advance_keeps_of (P := fun q => (q.seat i).counters.requests = (p.seat i).counters.requests)
    (fun q k e _ _ hq => (grantSlot_requests q k e.seat i).trans hq) n rfl

theorem autoAdvance_requests : (p.autoAdvance.seat i).counters.requests = (p.seat i).counters.requests := by
  unfold autoAdvance
  split
  · exact advance_requests _
  · rfl

theorem join_requests (s : SeatId) (o : Bool) : ((p.join s o).seat i).counters.requests = (p.seat i).counters.requests := by
  simp [seat_eq (t := p.join s o) (p := p) (by simp)]

/-! ### What a delegate press comes to (R71) -/

theorem delegatePress_closed (h : p.flc.isOpen = false) : p.delegatePress i = (p.refusePress i, .refused) := by
  simp [delegatePress, h]

theorem delegatePress_queued (hopen : p.flc.isOpen = true) (h : p.isQueued i = true) :
    p.delegatePress i = (p.leaveQueue i, .withdrawn) := by
  simp [delegatePress, hopen, h]

theorem delegatePress_open (hopen : p.flc.isOpen = true) (h : p.isQueued i = false) (hk : p.slotOf i = some k)
    (hstate : isOpenState (p.slot k).state = true) : p.delegatePress i = (p.close k .self, .closed) := by
  simp [delegatePress, hopen, h, hk, hstate]

theorem delegatePress_closing (hopen : p.flc.isOpen = true) (h : p.isQueued i = false) (hk : p.slotOf i = some k)
    (hstate : isOpenState (p.slot k).state = false) : p.delegatePress i = (p.refusePress i, .refused) := by
  simp [delegatePress, hopen, h, hk, hstate]

/-- A seat that neither waits nor holds a slot, on an open floor (R72). -/
def idleSeat (p : Part) (i : SeatId) : Prop := p.flc.isOpen = true ∧ p.isQueued i = false ∧ p.slotOf i = none

theorem delegatePress_idle (h : p.idleSeat i) : p.delegatePress i = p.newRequest i := by
  obtain ⟨hopen, hqueued, hslot⟩ := h
  simp [delegatePress, hopen, hqueued, hslot]

/-! ### A new request by the floor mode (R72, R73) -/

theorem queueFull_eq : p.queueFull = decide (16 ≤ p.flc.queue.length) := rfl

theorem newRequest_full (h : p.flc.mode = .queue ∨ p.flc.mode = .chair ∨ p.available = none) (hfull : 16 ≤ p.flc.queue.length) :
    p.newRequest i = (p.refusePress i, .queueFull) := by
  have hqueue : p.queueFull = true := decide_eq_true hfull
  unfold newRequest
  cases hmode : p.flc.mode with
  | direct =>
    have hnone : p.available = none := by simpa [hmode] using h
    simp [hnone, hqueue, refuseFull]
  | queue => simp [hqueue, refuseFull]
  | chair => simp [hqueue, refuseFull]
  | override =>
    have hnone : p.available = none := by simpa [hmode] using h
    simp [hnone, hqueue, refuseFull]

theorem newRequest_chair (h : p.flc.mode = .chair) (hlength : p.flc.queue.length < 16) :
    p.newRequest i = ((p.join i false).countRequest i, .queued) := by
  have hqueue : p.queueFull = false := decide_eq_false (Nat.not_le.mpr hlength)
  simp [newRequest, h, hqueue]

/-- A seat that joined and was granted no slot. -/
theorem joinAndAdvance_queued {o : Bool} (h : (p.join i o).autoAdvance = p.join i o) (hslot : p.slotOf i = none) :
    p.joinAndAdvance i o = ((p.join i o).countRequest i, .queued) := by
  have hdata : ((p.join i o).countRequest i).slotData = p.slotData := by
    rw [← join_data p i o]
    exact slotData_of_slots (by simp)
  have hnone : ((p.join i o).countRequest i).slotOf i = none := (slotOf_of_data hdata).trans hslot
  simp [joinAndAdvance, h, joinResult, hnone]

theorem join_available (p : Part) (i : SeatId) (o : Bool) : (p.join i o).available = p.available :=
  available_of_data (join_data p i o) (by simp)

/-- With no slot available and none to close, a new request joins the queue (R72, R73). -/
theorem newRequest_waits (h : p.idleSeat i) (hnone : p.available = none) (hlength : p.flc.queue.length < 16)
    (hmode : p.flc.mode = .direct ∨ p.flc.mode = .queue ∨ p.flc.mode = .override ∧ ∀ k ∈ p.flc.openOrder, (p.slot k).state ≠ .live) :
    p.newRequest i = ((p.join i false).countRequest i, .queued) := by
  have hqueue : p.queueFull = false := decide_eq_false (Nat.not_le.mpr hlength)
  have hjoined := joinAndAdvance_queued (o := false)
    (autoAdvance_closed (p := p.join i false) (Or.inr (Or.inr (Or.inl ((join_available p i false).trans hnone))))) h.2.2
  unfold newRequest
  rcases hmode with hmode | hmode | ⟨hmode, hlive⟩
  · simp [hmode, hnone, hqueue]
  · simp [hmode, hqueue, hjoined]
  · have hfirst : p.firstLive = none := by simpa [firstLive] using hlive
    simp [hmode, hnone, hqueue, hfirst, hjoined]

/-- What a grant at the press leaves of the floor (R68, R72). -/
structure Granted (p q : Part) (k : SlotId) (s : SeatId) (l : List QueueEntry) : Prop where
  slots : ∀ j, q.slotData j = if j = k then openedFor s (p.slotData k) else p.slotData j
  queue : q.flc.queue = l.filter fun e => e.seat ≠ s
  openOrder : q.flc.openOrder = p.flc.openOrder ++ [k]
  requests : ∀ i, (q.seat i).counters.requests = (p.seat i).counters.requests
  same : SameBut [.queue, .nextNumber, .seats, .slots, .openOrder, .notices] p q
  ssu : q.ssu = p.ssu
  occupied : q.smn.occupied = p.smn.occupied
  rtu : q.rtu = p.rtu
  line : q.line = p.line

theorem granted_grantSlot (p : Part) (k : SlotId) (s : SeatId) : Granted p (p.grantSlot k s) k s p.flc.queue where
  slots := grantSlot_data p k s
  queue := grantSlot_queue p k s
  openOrder := grantSlot_openOrder p k s
  requests := grantSlot_requests p k s
  same := (sameBut_grantSlot p k s).mono (by simp)
  ssu := by simp
  occupied := by simp
  rtu := by simp
  line := by simp

theorem granted_join (p : Part) (k : SlotId) (i s : SeatId) (o : Bool) :
    Granted p ((p.join i o).grantSlot k s) k s (p.join i o).flc.queue where
  slots j := by rw [grantSlot_data, join_data]
  queue := grantSlot_queue _ k s
  openOrder := by
    rw [grantSlot_openOrder]
    rfl
  requests j := (grantSlot_requests _ k s j).trans (join_requests i o)
  same := ((sameBut_join p i o).mono (by simp)).trans ((sameBut_grantSlot _ k s).mono (by simp))
  ssu := by simp
  occupied := by simp
  rtu := by simp
  line := by simp

/-- The slot available goes to the seat that presses, when no one waits before it (R72, R73). -/
theorem newRequest_opens (h : p.idleSeat i) (hk : p.available = some k) (hmode : p.flc.mode ≠ .chair)
    (hqueue : p.flc.mode = .queue → p.flc.queue = []) :
    ∃ q, p.newRequest i = (q.countRequest i, .opened) ∧ Granted p q k i p.flc.queue := by
  have hself : ((p.grantSlot k i).countRequest i, PressResult.opened) = p.openAtOnce k i := rfl
  unfold newRequest
  cases hm : p.flc.mode with
  | direct => exact ⟨p.grantSlot k i, by simp [hk, openAtOnce], granted_grantSlot p k i⟩
  | override => exact ⟨p.grantSlot k i, by simp [hk, openAtOnce], granted_grantSlot p k i⟩
  | chair => exact absurd hm hmode
  | queue =>
    have hempty := hqueue hm
    have hjoin : (p.join i false).flc.queue = [⟨i, (p.seat i).priority, false, p.flc.nextNumber, p.flc.seconds⟩] := by
      rw [join_queue, hempty]
      rfl
    have hgranted := granted_join p k i i false
    rw [hjoin] at hgranted
    obtain ⟨n, hn⟩ := autoAdvance_grants (p := p.join i false) (k := k) (by simpa using h.1) (by simp [hm])
      ((join_available p i false).trans hk) (by rw [hjoin]; rfl)
    have hnil : ((p.join i false).grantSlot k i).flc.queue = [] := by simpa using hgranted.queue
    have hauto : (p.join i false).autoAdvance = (p.join i false).grantSlot k i := hn.trans (advance_idle (Or.inr hnil) n)
    have hslot : ((((p.join i false).grantSlot k i).countRequest i).slotOf i).isSome = true := by
      rw [slotOf_of_data (p := (p.join i false).grantSlot k i) (slotData_of_slots (by simp))]
      exact slotOf_grantSlot_self
    refine ⟨(p.join i false).grantSlot k i, ?_, ?_⟩
    · simp [queueFull_eq, hempty, joinAndAdvance, hauto, joinResult, hslot]
    · rw [hempty]
      exact { hgranted with queue := by simpa using hnil }

/-- With one place left and others waiting, the seat joins and the head of the queue is granted the slot (R72). -/
theorem newRequest_head {e : QueueEntry} (h : p.idleSeat i) (hk : p.available = some k) (hmode : p.flc.mode = .queue)
    (hlength : p.flc.queue.length < 16) (he : e ∈ (p.join i false).flc.queue.head?) (hlast : p.openCount + 1 = p.flc.limit) :
    p.newRequest i = (((p.join i false).grantSlot k e.seat).countRequest i, if e.seat = i then .opened else .queued) := by
  have hqueue : p.queueFull = false := decide_eq_false (Nat.not_le.mpr hlength)
  have hcount : (p.join i false).openCount = p.openCount :=
    openCount_of_states fun k => state_of_data (congrFun (join_data p i false) k)
  have hauto : (p.join i false).autoAdvance = (p.join i false).grantSlot k e.seat :=
    autoAdvance_once (by simpa using h.1) (by simp [hmode]) ((join_available p i false).trans hk) he (by simp [hcount, hlast])
  have hslot : (((p.join i false).grantSlot k e.seat).countRequest i).slotOf i = ((p.join i false).grantSlot k e.seat).slotOf i :=
    slotOf_of_data (slotData_of_slots (by simp))
  have hresult : (((p.join i false).grantSlot k e.seat).countRequest i).joinResult i =
      if e.seat = i then .opened else .queued := by
    rw [joinResult, hslot]
    by_cases hseat : e.seat = i
    · rw [hseat, if_pos slotOf_grantSlot_self, if_pos rfl]
    · rw [slotOf_grantSlot_other hseat ((slotOf_of_data (join_data p i false)).trans h.2.2), if_neg (by simp), if_neg hseat]
  simp [newRequest, hmode, hqueue, joinAndAdvance, hauto, hresult]

/-! ### The close that an override request makes (R73) -/

theorem advance_openOrder (n : Nat) (hstate : (p.slot k).state ≠ .free) (h : k ∉ p.flc.openOrder) :
    k ∉ (advance n p).flc.openOrder := by
  have hkept := advance_keeps_of (P := fun q => (q.slot k).state ≠ .free ∧ k ∉ q.flc.openOrder) (fun q j e _ hj hq => by
    obtain ⟨hfree, hout⟩ := hq
    have hne : k ≠ j := by
      rintro rfl
      exact hfree (available_free hj)
    have hslot := grantSlot_data q j e.seat k
    rw [if_neg hne] at hslot
    rw [state_of_data hslot, grantSlot_openOrder]
    exact ⟨hfree, by simp [hout, hne]⟩) n ⟨hstate, h⟩
  exact hkept.2

theorem autoAdvance_openOrder (hstate : (p.slot k).state ≠ .free) (h : k ∉ p.flc.openOrder) :
    k ∉ p.autoAdvance.flc.openOrder := by
  unfold autoAdvance
  split
  · exact advance_openOrder _ hstate h
  · exact h

theorem autoAdvance_data (h : (p.slot k).state ≠ .free) : p.autoAdvance.slotData k = p.slotData k := by
  unfold autoAdvance
  split
  · exact advance_data h _
  · rfl

/-- The floor after the close of slot k for an override request of seat i (R73). -/
def overridden (p : Part) (k : SlotId) (i : SeatId) : Part := (p.close k .override).join i true

theorem newRequest_overrides (hmode : p.flc.mode = .override) (hnone : p.available = none) (hlength : p.flc.queue.length < 16)
    (hk : p.firstLive = some k) :
    p.newRequest i = ((p.overridden k i).autoAdvance.countRequest i,
      ((p.overridden k i).autoAdvance.countRequest i).joinResult i) := by
  have hqueue : p.queueFull = false := decide_eq_false (Nat.not_le.mpr hlength)
  simp [newRequest, hmode, hnone, hqueue, hk, joinAndAdvance, overridden]

theorem firstLive_live (hk : p.firstLive = some k) : (p.slot k).state = .live := by
  simpa using List.find?_some hk

theorem overridden_data (hk : p.firstLive = some k) (i : SeatId) (j : SlotId) :
    (p.overridden k i).slotData j = if j = k then closedFor .override (p.slotData k) else p.slotData j := by
  rw [overridden, join_data, close_data (by simp [firstLive_live hk, isOpenState])]

theorem overridden_queue (p : Part) (k : SlotId) (i : SeatId) :
    (p.overridden k i).flc.queue =
      insertEntry ⟨i, (p.seat i).priority, true, p.flc.nextNumber, p.flc.seconds⟩ p.flc.queue := by
  rw [overridden, join_queue]
  simp [seat_eq (t := p.close k .override) (p := p) (by simp)]

theorem overridden_openOrder (hk : p.firstLive = some k) (i : SeatId) :
    (p.overridden k i).flc.openOrder = p.flc.openOrder.filter (· ≠ k) := by
  rw [← close_openOrder (r := .override) (by simp [firstLive_live hk, isOpenState])]
  rfl

theorem overridden_closed (hk : p.firstLive = some k) (i : SeatId) :
    ((p.overridden k i).slot k).state = .closing ∧ ((p.overridden k i).slot k).reason = some .override := by
  have hslot := overridden_data hk i k
  rw [if_pos rfl] at hslot
  exact ⟨congrArg Slot.state hslot, congrArg Slot.reason hslot⟩

theorem overridden_openCount (hk : p.firstLive = some k) (hne : k ≠ 0) (i : SeatId) :
    p.openCount = (p.overridden k i).openCount + 1 := by
  refine openCount_opened hne (by simp [(overridden_closed hk i).1, isOpenState]) (by simp [firstLive_live hk, isOpenState])
    fun j hj => ?_
  have hslot := overridden_data hk i j
  rw [if_neg hj] at hslot
  exact (state_of_data hslot).symm

/-- The close takes no slot to FREE and none from it (R69). -/
theorem overridden_freeSlot (hk : p.firstLive = some k) (i : SeatId) : (p.overridden k i).freeSlot = p.freeSlot := by
  unfold freeSlot
  congr 1
  funext j
  by_cases hj : j = k
  · subst hj
    simp [(overridden_closed hk i).1, firstLive_live hk]
  · have hslot := overridden_data hk i j
    rw [if_neg hj] at hslot
    rw [state_of_data hslot]

theorem overridden_available (hk : p.firstLive = some k) (hne : k ≠ 0) (hcount : p.openCount ≤ p.flc.limit) (i : SeatId) :
    (p.overridden k i).available = p.freeSlot := by
  have hlt : (p.overridden k i).openCount < p.flc.limit := by
    have hopened := overridden_openCount hk hne i
    omega
  have hlimit : (p.overridden k i).flc.limit = p.flc.limit := by simp [overridden]
  rw [available, hlimit, if_pos hlt, overridden_freeSlot hk]

theorem overridden_slotOf (hk : p.firstLive = some k) (h : p.slotOf i = none) : (p.overridden k i).slotOf i = none :=
  (slotOf_of_data (join_data _ i true)).trans (slotOf_close h (by simp [firstLive_live hk, isOpenState]) _)

/-- The slot handed out after the override goes to the head of the queue, and no other slot is granted (R70, R73). -/
theorem overridden_grants {e : QueueEntry} (hk : p.firstLive = some k) (hne : k ≠ 0) (hcount : p.openCount ≤ p.flc.limit)
    (hnone : p.available = none) (hmode : p.flc.mode = .override) (hopen : p.flc.isOpen = true) (hj : p.freeSlot = some j)
    (he : e ∈ (p.overridden k i).flc.queue.head?) : (p.overridden k i).autoAdvance = (p.overridden k i).grantSlot j e.seat := by
  have hfull : p.flc.limit ≤ p.openCount := (available_eq_none.mp hnone).resolve_right (by simp [hj])
  have hlast : (p.overridden k i).openCount + 1 = (p.overridden k i).flc.limit := by
    have hopened := overridden_openCount hk hne i
    have hlimit : (p.overridden k i).flc.limit = p.flc.limit := by simp [overridden]
    omega
  exact autoAdvance_once (by simpa [overridden] using hopen) (by simp [overridden, hmode])
    ((overridden_available hk hne hcount i).trans hj) he hlast

/-- The slot that an override request closes stays closed, whoever is granted the slot then handed out (R73). -/
theorem overridden_after (hk : p.firstLive = some k) (i : SeatId) :
    ((p.overridden k i).autoAdvance.slot k).state = .closing ∧ ((p.overridden k i).autoAdvance.slot k).reason = some .override ∧
      k ∉ (p.overridden k i).autoAdvance.flc.openOrder := by
  obtain ⟨hstate, hreason⟩ := overridden_closed hk i
  have hfree : ((p.overridden k i).slot k).state ≠ .free := by simp [hstate]
  have hdata := autoAdvance_data hfree
  refine ⟨(state_of_data hdata).trans hstate, (reason_of_data hdata).trans hreason, autoAdvance_openOrder hfree ?_⟩
  rw [overridden_openOrder hk]
  simp

/-- With no override mark in the queue, the new entry stands at its head and its seat is granted the slot (R65, R73). -/
theorem overridden_opens (h : p.idleSeat i) (hk : p.firstLive = some k) (hne : k ≠ 0) (hcount : p.openCount ≤ p.flc.limit)
    (hnone : p.available = none) (hmode : p.flc.mode = .override) (hj : p.freeSlot = some j)
    (hmarks : ∀ e ∈ p.flc.queue, e.override = false) :
    ((p.overridden k i).autoAdvance.slotOf i).isSome = true ∧ ((p.overridden k i).autoAdvance.slot j).state = .opening ∧
      ((p.overridden k i).autoAdvance.slot j).holder = some i ∧ (p.overridden k i).autoAdvance.flc.queue = p.flc.queue := by
  have hhead : (⟨i, (p.seat i).priority, true, p.flc.nextNumber, p.flc.seconds⟩ : QueueEntry) ∈ (p.overridden k i).flc.queue.head? := by
    rw [overridden_queue, insertEntry_override rfl hmarks]
    rfl
  have hslot := grantSlot_data (p.overridden k i) j i j
  rw [if_pos rfl] at hslot
  rw [overridden_grants hk hne hcount hnone hmode h.1 hj hhead]
  refine ⟨slotOf_grantSlot_self, congrArg Slot.state hslot, congrArg Slot.holder hslot, ?_⟩
  rw [grantSlot_queue, overridden_queue, insertEntry_override rfl hmarks, List.filter_cons, if_neg (by simp), filter_unqueued h.2.1]

/-- An entry with the mark at the head is granted the slot, and the new entry waits behind it (R65, R73). -/
theorem overridden_waits {e : QueueEntry} (h : p.idleSeat i) (hk : p.firstLive = some k) (hne : k ≠ 0)
    (hcount : p.openCount ≤ p.flc.limit) (hnone : p.available = none) (hmode : p.flc.mode = .override) (hj : p.freeSlot = some j)
    (he : e ∈ p.flc.queue.head?) (hmark : e.override = true) :
    (p.overridden k i).autoAdvance.slotOf i = none ∧ ((p.overridden k i).autoAdvance.slot j).state = .opening ∧
      ((p.overridden k i).autoAdvance.slot j).holder = some e.seat ∧ (p.overridden k i).autoAdvance.isQueued i = true := by
  obtain ⟨l, hl⟩ := List.head?_eq_some_iff.mp he
  have hseat : e.seat ≠ i := by
    rintro rfl
    exact Bool.false_ne_true (h.2.1.symm.trans (isQueued_head he))
  have hhead : e ∈ (p.overridden k i).flc.queue.head? := by
    rw [overridden_queue, hl, insertEntry_behind hmark]
    rfl
  have hslot := grantSlot_data (p.overridden k i) j e.seat j
  rw [if_pos rfl] at hslot
  rw [overridden_grants hk hne hcount hnone hmode h.1 hj hhead]
  refine ⟨slotOf_grantSlot_other hseat (overridden_slotOf hk h.2.2), congrArg Slot.state hslot, congrArg Slot.holder hslot, ?_⟩
  rw [isQueued_iff]
  refine ⟨⟨i, (p.seat i).priority, true, p.flc.nextNumber, p.flc.seconds⟩, ?_, rfl⟩
  rw [grantSlot_queue, overridden_queue, List.mem_filter, mem_insertEntry]
  exact ⟨Or.inl rfl, by simpa using hseat.symm⟩

/-- With no slot FREE, the new entry waits for the one that closes (R73). -/
theorem overridden_unserved (hk : p.firstLive = some k) (hne : k ≠ 0) (hcount : p.openCount ≤ p.flc.limit)
    (hfree : p.freeSlot = none) : (p.overridden k i).autoAdvance = p.overridden k i :=
  autoAdvance_closed (Or.inr (Or.inr (Or.inl ((overridden_available hk hne hcount i).trans hfree))))

theorem sameBut_overridden (p : Part) (k : SlotId) (i : SeatId) :
    SameBut [.queue, .nextNumber, .seats, .slots, .openOrder, .screens, .speakers, .notices] p
      ((p.overridden k i).autoAdvance.countRequest i) := by
  intro b hb
  cases b <;> simp_all [Piece.Same, overridden]

/-! ### The owner's answer -/

theorem pressRequest_absent (h : (p.seat i).installed = false) : p.pressRequest i = (p, .state, []) := by
  simp [pressRequest, h]

theorem pressRequest_vacant (hinstalled : (p.seat i).installed = true) (hne : i ≠ p.chairSeat) (h : p.idleSeat i)
    (hpresent : p.presentForKey i = false) : p.pressRequest i = (p, .state, []) := by
  obtain ⟨hopen, hqueued, hslot⟩ := h
  simp [pressRequest, hinstalled, hne, hopen, isIdle, hqueued, hslot, hpresent]

theorem pressRequest_delegate (hinstalled : (p.seat i).installed = true) (hne : i ≠ p.chairSeat)
    (h : p.idleSeat i → p.presentForKey i = true) :
    p.pressRequest i = ((p.delegatePress i).1, pressReply (p.delegatePress i).2) := by
  have hidle : ¬ (p.flc.isOpen && p.isIdle i && !p.presentForKey i) = true := by
    intro hall
    simp only [isIdle, Bool.and_eq_true, Bool.not_eq_true', Option.isNone_iff_eq_none] at hall
    obtain ⟨⟨hopen, hqueued, hslot⟩, hpresent⟩ := hall
    simp [h ⟨hopen, hqueued, hslot⟩] at hpresent
  simp [pressRequest, hinstalled, hne, hidle]

theorem pressRequest_chair (hinstalled : (p.seat p.chairSeat).installed = true) :
    p.pressRequest p.chairSeat = (p.chairToggle.1, pressReply p.chairToggle.2) := by
  simp [pressRequest, hinstalled]

theorem pressReply_joinResult (q : Part) (i : SeatId) :
    pressReply (q.joinResult i) = (.done, [if (q.slotOf i).isSome = true then 0 else 3]) := by
  unfold joinResult
  split <;> rfl

theorem serveOwner_press {n : Byte} (p : Part) (tag : Byte) (h : n.toNat = i.val + 1) :
    p.serveOwner .chair ⟨0x29, tag, 1, [n]⟩ = p.pressRequest i := by
  simp [serveOwner, serveFloor, onSeat, byteAt, seatOfNumber_eq h]

end Part

end Sys2Proof.Machine
end

section
/-! The rows of PRESS (R71 to R75, R85). -/

namespace Sys2Proof.Machine

variable {tag n : Byte} {i : SeatId} {j k : SlotId} {s : State} {x : Part} {st : Status} {l : List Byte}

/-- The part as it takes a PRESS into service. -/
abbrev pressTaken (p : Part) (tag n : Byte) : Part := p.taken .chair ⟨0x29, tag, 1, [n]⟩

/-- A press that leaves the routing: what the owner leaves stands. -/
theorem completes_press (hport : Listening s.part .chair) (hset : Settled s.part) (hn : n.toNat = i.val + 1)
    (h : (pressTaken s.part tag n).pressRequest i = (x, st, l)) (hssu : x.ssu = s.part.ssu)
    (hocc : x.smn.occupied = s.part.smn.occupied) (hrtu : x.rtu = s.part.rtu)
    (hline : x.line = (pressTaken s.part tag n).line) :
    Completes (.press .chair tag n) s fun t => Answered t .chair tag st [l] ∧ SameBut [.requests .chair] x t := by
  have hserve := (Part.serveOwner_press (pressTaken s.part tag n) tag hn).trans h
  have hreq : requestOf (.press .chair tag n) = some (.chair, ⟨0x29, tag, 1, [n]⟩) := rfl
  have hright : Permitted .chair (0x29 : Byte).toNat := by decide
  refine completes_served hreq (Part.idle_listening hport) (Part.checkRequest_run hreq hright hport.1.1) (by simp [portResetCode])
    hserve (congrFun hline .chair) ?_
  rintro t rfl hans
  refine ⟨hans, ?_⟩
  have hend : SameBut [] (x.replied .chair ⟨tag, st, framesOf 0x29 l⟩)
      (Part.conclude s.part (x.replied .chair ⟨tag, st, framesOf 0x29 l⟩)) :=
    Part.sameBut_conclude_settled hset (by simpa using hssu) (by simpa using hocc) (by simpa using hrtu)
  exact (Part.sameBut_replied _ .chair _).trans (hend.mono (List.nil_subset _))

/-- A press that may close a slot: what the owner leaves stands, but for the drive of the screens. -/
theorem completes_press_closing (hport : Listening s.part .chair) (hset : Settled s.part) (hn : n.toNat = i.val + 1)
    (h : (pressTaken s.part tag n).pressRequest i = (x, st, l)) (hssu : x.ssu = s.part.ssu)
    (hocc : x.smn.occupied = s.part.smn.occupied) (hline : x.line = (pressTaken s.part tag n).line) :
    Completes (.press .chair tag n) s fun t =>
      Answered t .chair tag st [l] ∧ SameBut [.requests .chair, .screens, .notices] x t := by
  have hserve := (Part.serveOwner_press (pressTaken s.part tag n) tag hn).trans h
  refine (completes_routing (c := .press .chair tag n) rfl hport hset (by decide) (by decide) hserve hssu hocc
    (congrFun hline .chair)).mono ?_
  rintro t ⟨hans, hown, -⟩
  dsimp only at hown
  exact ⟨hans, hown⟩

/-- A press that the owner answers without a change of the part. -/
theorem completes_press_kept (hport : Listening s.part .chair) (hset : Settled s.part) (hn : n.toNat = i.val + 1)
    (h : (pressTaken s.part tag n).pressRequest i = (pressTaken s.part tag n, st, [])) :
    Completes (.press .chair tag n) s fun t => Answered t .chair tag st [[]] ∧ SameBut [.requests .chair] s.part t :=
  completes_kept (c := .press .chair tag n) rfl hport hset (by decide) (by decide) ((Part.serveOwner_press _ tag hn).trans h)

/-- A refused press: the REFUSED indication and the seat's counter (R74). -/
theorem completes_press_refused (hport : Listening s.part .chair) (hset : Settled s.part) (hn : n.toNat = i.val + 1)
    (h : (pressTaken s.part tag n).pressRequest i = ((pressTaken s.part tag n).refusePress i, st, [])) :
    Completes (.press .chair tag n) s fun t =>
      Answered t .chair tag st [[]] ∧ t.sgu.refused.get i = 1000 ∧
      (t.seat i).counters.refused =
        (if s.part.ssu.session = none then (s.part.seat i).counters.refused
        else min ((s.part.seat i).counters.refused + 1) 65535) ∧
      SameBut [.requests .chair, .refused, .seats] s.part t := by
  refine (completes_press hport hset hn h (by simp [Part.refusePress]) (by simp) (by simp [Part.refusePress]) (by simp)).mono ?_
  rintro t ⟨hans, hown⟩
  have hrefused : t.sgu.refused = _ := hown .refused (by simp)
  refine ⟨hans, ?_, ?_, (Part.sameBut_refusePress _ i).row hown (by simp)⟩
  · rw [hrefused, Part.refusePress_refused]
  · rw [Part.seat_eq (hown .seats (by simp))]
    exact Part.refusePress_counter _ i

/-- A press whose seat joins the queue (R72, R73). -/
theorem completes_press_joins (hport : Listening s.part .chair) (hset : Settled s.part) (hn : n.toNat = i.val + 1)
    (h : (pressTaken s.part tag n).pressRequest i = (((pressTaken s.part tag n).join i false).countRequest i, .done, [3])) :
    Completes (.press .chair tag n) s fun t =>
      Answered t .chair tag .done [[3]] ∧
      t.flc.queue = Part.insertEntry
        ⟨i, (s.part.seat i).priority, false, s.part.flc.nextNumber, s.part.flc.seconds⟩ s.part.flc.queue ∧
      (t.seat i).counters.requests =
        (if s.part.ssu.session = none then (s.part.seat i).counters.requests
        else min ((s.part.seat i).counters.requests + 1) 65535) ∧
      SameBut [.requests .chair, .queue, .nextNumber, .seats, .notices] s.part t := by
  refine (completes_press hport hset hn h (by simp) (by simp) (by simp) (by simp)).mono ?_
  rintro t ⟨hans, hown⟩
  have hjoined : SameBut [.queue, .nextNumber, .seats, .notices] (pressTaken s.part tag n)
      (((pressTaken s.part tag n).join i false).countRequest i) :=
    ((Part.sameBut_join _ i false).mono (by simp)).trans ((Part.sameBut_count _ i _).mono (by simp))
  have hqueue : t.flc.queue = _ := hown .queue (by simp)
  refine ⟨hans, hqueue.trans ?_, ?_, hjoined.row hown (by simp)⟩
  · simp [Part.join_queue]
  · rw [Part.seat_eq (hown .seats (by simp))]
    exact Part.countRequest_requests (p := pressTaken s.part tag n) (Part.join_requests i false) (by simp)

/-- A press at which one seat, the presser or the head of the queue, is granted the slot available (R68, R72). -/
theorem completes_press_granted {q : Part} {a : SeatId} {m : Byte} {entries : List QueueEntry} (hport : Listening s.part .chair)
    (hset : Settled s.part) (hn : n.toNat = i.val + 1) (h : (pressTaken s.part tag n).pressRequest i = (q.countRequest i, .done, [m]))
    (hq : Part.Granted (pressTaken s.part tag n) q k a entries) :
    Completes (.press .chair tag n) s fun t =>
      Answered t .chair tag .done [[m]] ∧ (t.slot k).state = .opening ∧ (t.slot k).holder = some a ∧
      (t.slot k).elapsed = 0 ∧ t.flc.openOrder = s.part.flc.openOrder ++ [k] ∧
      t.flc.queue = entries.filter (fun e => e.seat ≠ a) ∧
      (t.seat i).counters.requests =
        (if s.part.ssu.session = none then (s.part.seat i).counters.requests
        else min ((s.part.seat i).counters.requests + 1) 65535) ∧
      SameBut [.requests .chair, .queue, .nextNumber, .seats, .slots, .openOrder, .notices] s.part t := by
  refine (completes_press hport hset hn h (by simpa using hq.ssu) (by simpa using hq.occupied) (by simpa using hq.rtu)
    (by simpa using hq.line)).mono ?_
  rintro t ⟨hans, hown⟩
  have hcounted : SameBut [.queue, .nextNumber, .seats, .slots, .openOrder, .notices] (pressTaken s.part tag n) (q.countRequest i) :=
    hq.same.trans ((Part.sameBut_count q i _).mono (by simp))
  have hslots : t.slotData = q.slotData :=
    (Part.slotData_of_slots (hown .slots (by simp))).trans (Part.slotData_of_slots (by simp))
  have hslot : t.slotData k = Part.openedFor a (s.part.slotData k) := by
    rw [hslots, hq.slots, if_pos rfl]
    rfl
  have hqueue : t.flc.queue = q.flc.queue := Eq.trans (hown .queue (by simp)) (by simp)
  have horder : t.flc.openOrder = q.flc.openOrder := Eq.trans (hown .openOrder (by simp)) (by simp)
  refine ⟨hans, congrArg Slot.state hslot, congrArg Slot.holder hslot, congrArg Slot.elapsed hslot, horder.trans hq.openOrder,
    hqueue.trans hq.queue, ?_, hcounted.row hown (by simp)⟩
  rw [Part.seat_eq (hown .seats (by simp))]
  exact Part.countRequest_requests (p := pressTaken s.part tag n) (hq.requests i) hq.ssu


/-! ### A delegate seat -/

/-- The press of a delegate seat, which is present or not idle on an open floor. -/
theorem pressRequest_taken (hne : i ≠ s.part.chairSeat) (hinstalled : (s.part.seat i).installed = true)
    (h : s.part.idleSeat i → s.part.presentForKey i = true) {x : Part} {a : PressResult}
    (hpress : (pressTaken s.part tag n).delegatePress i = (x, a)) :
    (pressTaken s.part tag n).pressRequest i = (x, Part.pressReply a) := by
  rw [Part.pressRequest_delegate (p := pressTaken s.part tag n) hinstalled hne h, hpress]

/-- A queued seat's press withdraws its request (R71). -/
theorem completes_press_withdraws (hport : Listening s.part .chair) (hset : Settled s.part) (hn : n.toNat = i.val + 1)
    (h : (pressTaken s.part tag n).pressRequest i = ((pressTaken s.part tag n).leaveQueue i, .done, [2])) :
    Completes (.press .chair tag n) s fun t =>
      Answered t .chair tag .done [[2]] ∧ t.flc.queue = s.part.flc.queue.filter (fun e => e.seat ≠ i) ∧
      SameBut [.requests .chair, .queue, .notices] s.part t := by
  refine (completes_press hport hset hn h (by simp) (by simp) (by simp) (by simp)).mono ?_
  rintro t ⟨hans, hown⟩
  have hqueue : t.flc.queue = _ := hown .queue (by simp)
  exact ⟨hans, hqueue.trans (by simp [Part.leaveQueue]), (Part.sameBut_setQueue _ _).row hown (by simp)⟩

/-- A press closes the open slot of its seat, or the chair toggle that of the chair seat (R69, R71, R75). -/
theorem completes_press_closes (hport : Listening s.part .chair) (hset : Settled s.part) (hn : n.toNat = i.val + 1)
    (hopen : Part.isOpenState (s.part.slot k).state = true)
    (h : (pressTaken s.part tag n).pressRequest i = ((pressTaken s.part tag n).close k .self, .done, [1])) :
    Completes (.press .chair tag n) s fun t =>
      Answered t .chair tag .done [[1]] ∧ (t.slot k).state = .closing ∧ (t.slot k).reason = some .self ∧
      SameBut [.requests .chair, .slots, .openOrder, .screens, .speakers, .notices] s.part t := by
  refine (completes_press_closing hport hset hn h (by simp) (by simp) (by simp)).mono ?_
  rintro t ⟨hans, hown⟩
  have hslot : t.slotData k = Part.closedFor .self (s.part.slotData k) := by
    rw [Part.slotData_of_slots (hown .slots (by simp)), Part.close_data (by simpa using hopen), if_pos rfl]
    rfl
  exact ⟨hans, congrArg Slot.state hslot, congrArg Slot.reason hslot, (Part.sameBut_close _ k _).row hown (by simp)⟩

/-- A new request in OVERRIDE with the limit reached and a LIVE slot (R73). -/
theorem completes_press_overrides (hport : Listening s.part .chair) (hset : Settled s.part) (hn : n.toNat = i.val + 1)
    (hne : i ≠ s.part.chairSeat) (hinstalled : (s.part.seat i).installed = true) (h : s.part.idleSeat i)
    (hpresent : s.part.presentForKey i = true) (hmode : s.part.flc.mode = .override) (hnone : s.part.available = none)
    (hlength : s.part.flc.queue.length < 16) (hk : s.part.firstLive = some k) (hk0 : k ≠ 0)
    (hcount : s.part.openCount ≤ s.part.flc.limit) :
    Completes (.press .chair tag n) s fun t =>
      (t.slot k).state = .closing ∧ (t.slot k).reason = some .override ∧ k ∉ t.flc.openOrder ∧
      (∀ j, s.part.freeSlot = some j → (∀ e ∈ s.part.flc.queue, e.override = false) →
        Answered t .chair tag .done [[0]] ∧ (t.slot j).state = .opening ∧ (t.slot j).holder = some i ∧
        t.flc.queue = s.part.flc.queue) ∧
      (∀ j, ∀ e ∈ s.part.flc.queue.head?, s.part.freeSlot = some j → e.override = true →
        Answered t .chair tag .done [[3]] ∧ (t.slot j).state = .opening ∧ (t.slot j).holder = some e.seat ∧
        t.isQueued i = true) ∧
      (s.part.freeSlot = none → Answered t .chair tag .done [[3]] ∧
        t.flc.queue = Part.insertEntry
          ⟨i, (s.part.seat i).priority, true, s.part.flc.nextNumber, s.part.flc.seconds⟩ s.part.flc.queue) ∧
      SameBut [.requests .chair, .queue, .nextNumber, .seats, .slots, .openOrder, .screens, .speakers, .notices]
        s.part t := by
  have hpress := pressRequest_taken (tag := tag) (n := n) hne hinstalled (fun _ => hpresent)
    ((Part.delegatePress_idle (p := pressTaken s.part tag n) h).trans
      (Part.newRequest_overrides (p := pressTaken s.part tag n) hmode hnone hlength hk))
  rw [Part.pressReply_joinResult] at hpress
  refine (completes_press_closing hport hset hn hpress (by simp [Part.overridden]) (by simp [Part.overridden])
    (by simp [Part.overridden])).mono ?_
  rintro t ⟨hans, hown⟩
  have hdata : (((pressTaken s.part tag n).overridden k i).autoAdvance.countRequest i).slotData =
      ((pressTaken s.part tag n).overridden k i).autoAdvance.slotData := Part.slotData_of_slots (by simp)
  have hslots : t.slotData = ((pressTaken s.part tag n).overridden k i).autoAdvance.slotData :=
    (Part.slotData_of_slots (hown .slots (by simp))).trans hdata
  have horder : t.flc.openOrder = ((pressTaken s.part tag n).overridden k i).autoAdvance.flc.openOrder :=
    Eq.trans (hown .openOrder (by simp)) (by simp)
  have hqueue : t.flc.queue = ((pressTaken s.part tag n).overridden k i).autoAdvance.flc.queue :=
    Eq.trans (hown .queue (by simp)) (by simp)
  rw [Part.slotOf_of_data hdata] at hans
  obtain ⟨hstate, hreason, hout⟩ := Part.overridden_after (p := pressTaken s.part tag n) hk i
  have hk' := congrFun hslots k
  refine ⟨(Part.state_of_data hk').trans hstate, (Part.reason_of_data hk').trans hreason, horder ▸ hout,
    fun j hj hmarks => ?_, fun j e he hj hmark => ?_, fun hfree => ?_, (Part.sameBut_overridden _ k i).row hown (by simp)⟩
  · obtain ⟨hslot, hopening, hholder, hleft⟩ :=
      Part.overridden_opens (p := pressTaken s.part tag n) h hk hk0 hcount hnone hmode hj hmarks
    have hj' := congrFun hslots j
    rw [if_pos hslot] at hans
    exact ⟨hans, (Part.state_of_data hj').trans hopening, (Part.holder_of_data hj').trans hholder, hqueue.trans hleft⟩
  · obtain ⟨hslot, hopening, hholder, hwaits⟩ :=
      Part.overridden_waits (p := pressTaken s.part tag n) h hk hk0 hcount hnone hmode hj he hmark
    have hj' := congrFun hslots j
    rw [hslot] at hans
    exact ⟨hans, (Part.state_of_data hj').trans hopening, (Part.holder_of_data hj').trans hholder,
      (congrFun (Part.isQueued_eq hqueue) i).trans hwaits⟩
  · have hauto := Part.overridden_unserved (p := pressTaken s.part tag n) (i := i) hk hk0 hcount hfree
    rw [hauto, Part.overridden_slotOf (p := pressTaken s.part tag n) hk h.2.2] at hans
    rw [hauto, Part.overridden_queue] at hqueue
    exact ⟨hans, hqueue⟩

/-! ### The chair seat -/

/-- The chair slot opens for the chair seat (R75). -/
theorem completes_press_chairOpens (hport : Listening s.part .chair) (hset : Settled s.part)
    (hn : n.toNat = s.part.chairSeat.val + 1) (hinstalled : (s.part.seat s.part.chairSeat).installed = true)
    (hopen : s.part.flc.isOpen = true) (hslot : Part.isOpenState (s.part.slot 0).state = false) :
    Completes (.press .chair tag n) s fun t =>
      (Answered t .chair tag .done [[0]] ∧ (t.slot 0).state = .opening ∧ (t.slot 0).holder = some s.part.chairSeat ∧
        (t.slot 0).elapsed = 0 ∧ (t.slot 0).reason = none ∧ (t.slot 0).gain = (s.part.slot 0).gain) ∧
      SameBut [.requests .chair, .slots, .openOrder, .screens, .speakers, .notices] s.part t := by
  have htoggle : (pressTaken s.part tag n).chairToggle =
      (((pressTaken s.part tag n).openSlot 0 s.part.chairSeat).notice .floor, .opened) := by
    have hp : (pressTaken s.part tag n).flc.isOpen = true := hopen
    have hs : Part.isOpenState ((pressTaken s.part tag n).slot 0).state = false := hslot
    simp only [Part.chairToggle, hp, hs, Bool.not_true, Bool.false_eq_true, if_false]
    rfl
  have hpress := Part.pressRequest_chair (p := pressTaken s.part tag n) hinstalled
  rw [htoggle] at hpress
  refine (completes_press hport hset hn hpress (by simp) (by simp) (by simp) (by simp)).mono ?_
  rintro t ⟨hans, hown⟩
  have hsame : SameBut [.slots, .notices] (pressTaken s.part tag n)
      (((pressTaken s.part tag n).openSlot 0 s.part.chairSeat).notice .floor) := by
    intro b hb
    cases b <;> simp_all [Piece.Same]
  have hdata : t.slotData 0 = Part.openedFor s.part.chairSeat (s.part.slotData 0) := by
    rw [Part.slotData_of_slots (hown .slots (by simp)),
      Part.slotData_of_slots (p := (pressTaken s.part tag n).openSlot 0 s.part.chairSeat) (by simp), Part.openSlot_data, if_pos rfl]
    rfl
  exact ⟨⟨hans, congrArg Slot.state hdata, congrArg Slot.holder hdata, congrArg Slot.elapsed hdata, congrArg Slot.reason hdata,
    by simpa [Part.openedFor] using congrArg Slot.gain hdata⟩, hsame.row hown (by simp)⟩

/-- A chair toggle on a closed floor (R75). -/
theorem completes_press_chairRefused (hport : Listening s.part .chair) (hset : Settled s.part)
    (hn : n.toNat = s.part.chairSeat.val + 1) (hinstalled : (s.part.seat s.part.chairSeat).installed = true)
    (hclosed : s.part.flc.isOpen = false) :
    Completes (.press .chair tag n) s fun t =>
      Answered t .chair tag .state [[]] ∧ t.sgu.refused.get s.part.chairSeat = 1000 ∧
      SameBut [.requests .chair, .refused] s.part t := by
  have htoggle : (pressTaken s.part tag n).chairToggle = ((pressTaken s.part tag n).showRefused s.part.chairSeat, .refused) := by
    have hp : (pressTaken s.part tag n).flc.isOpen = false := hclosed
    simp only [Part.chairToggle, hp, Bool.not_false, if_true]
    rfl
  have hpress := Part.pressRequest_chair (p := pressTaken s.part tag n) hinstalled
  rw [htoggle] at hpress
  refine (completes_press hport hset hn hpress (by simp) (by simp) (by simp) (by simp)).mono ?_
  rintro t ⟨hans, hown⟩
  have hsame : SameBut [.refused] (pressTaken s.part tag n) ((pressTaken s.part tag n).showRefused s.part.chairSeat) := by
    intro b hb
    cases b <;> simp_all [Piece.Same, Part.showRefused]
  have hrefused : t.sgu.refused = _ := hown .refused (by simp)
  refine ⟨hans, ?_, hsame.row hown (by simp)⟩
  rw [hrefused]
  simp [Part.showRefused, Config.refusedFrames]

/-- An open chair slot closes (R75). -/
theorem completes_press_chairCloses (hport : Listening s.part .chair) (hset : Settled s.part)
    (hn : n.toNat = s.part.chairSeat.val + 1) (hinstalled : (s.part.seat s.part.chairSeat).installed = true)
    (hopen : s.part.flc.isOpen = true) (hslot : Part.isOpenState (s.part.slot 0).state = true) :
    Completes (.press .chair tag n) s fun t =>
      Answered t .chair tag .done [[1]] ∧ (t.slot 0).state = .closing ∧ (t.slot 0).reason = some .self ∧
      SameBut [.requests .chair, .slots, .openOrder, .screens, .speakers, .notices] s.part t := by
  have htoggle : (pressTaken s.part tag n).chairToggle = ((pressTaken s.part tag n).close 0 .self, .closed) := by
    have hp : (pressTaken s.part tag n).flc.isOpen = true := hopen
    have hs : Part.isOpenState ((pressTaken s.part tag n).slot 0).state = true := hslot
    simp only [Part.chairToggle, hp, hs, Bool.not_true, Bool.false_eq_true, if_false, if_true]
  refine completes_press_closes (k := 0) hport hset hn hslot ?_
  refine (Part.pressRequest_chair (p := pressTaken s.part tag n) hinstalled).trans ?_
  rw [htoggle]
  rfl

/-! ### A number that names no seat -/

theorem completes_seat_range {c : Instr} (hport : Listening s.part .chair) (hset : Settled s.part) (hn : n = 0 ∨ 20 < n.toNat)
    (hc : c ∈ [Instr.grant .chair tag n, .close .chair tag n, .cancel .chair tag n, .press .chair tag n]) :
    Completes c s fun t => Answered t .chair tag .range [[]] ∧ SameBut [.requests .chair] s.part t := by
  have hnone : seatOfNumber n.toNat = none := seatOfNumber_none (hn.imp_left fun h => by simp [h])
  simp only [List.mem_cons, List.not_mem_nil, or_false] at hc
  have hseat (p : Part) (f : SeatId → Part.Served) : p.onSeat (byteAt [n] 0) f = (p, .range, []) := by
    simp [Part.onSeat, byteAt, hnone]
  rcases hc with rfl | rfl | rfl | rfl
  · exact completes_kept (c := .grant .chair tag n) (st := .range) (l := []) rfl hport hset (by decide) (by decide) (hseat _ _)
  · exact completes_kept (c := .close .chair tag n) (st := .range) (l := []) rfl hport hset (by decide) (by decide) (hseat _ _)
  · exact completes_kept (c := .cancel .chair tag n) (st := .range) (l := []) rfl hport hset (by decide) (by decide) (hseat _ _)
  · exact completes_kept (c := .press .chair tag n) (st := .range) (l := []) rfl hport hset (by decide) (by decide) (hseat _ _)

/-- Settles O43: the press goes through the cases of R71, a new request through the mode's row of R72 and R73, and the chair
seat's press is the chair toggle. -/
theorem pressActsAsKey : Obligations.PressActsAsKey := by
  unfold Obligations.PressActsAsKey
  refine ⟨fun tag n i s hport hset hn hne => ⟨fun habsent => ?_, fun hinst hclosed => ?_, fun k hinst hopen hqueued hk hstate => ?_,
    fun hinst hopen hqueued hslot hvacant hrequired => ?_, fun hinst hopen hqueued hslot hpresent hmode hfull => ?_,
    fun hinst hopen hqueued => ?_, fun k hinst hopen hqueued hk hstate => ?_,
    fun hinst hopen hqueued hslot hpresent hmode hlength => ?_⟩,
    fun tag n i s hport hset ⟨hn, hne⟩ ⟨hinst, hopen, hqueued, hslot, hpresent⟩ => ⟨fun k hk hmode hqueue => ?_,
      fun hnone hlength hmode => ?_, fun k hmode hnone hlength hk hk0 hcount => ?_,
      fun k e he hmode hk hwaiting hlength hlast => ?_⟩,
    fun tag n s hport hset ⟨hn, hinst⟩ => ⟨fun hclosed => ?_, fun hopen => ?_⟩,
    fun tag n c s hport hset hn hc => completes_seat_range hport hset hn hc⟩
  · exact completes_press_kept hport hset hn (Part.pressRequest_absent (p := pressTaken s.part tag n) habsent)
  · exact completes_press_refused hport hset hn (pressRequest_taken hne hinst
      (fun hidle => absurd (hclosed.symm.trans hidle.1) (by simp))
      (Part.delegatePress_closed (p := pressTaken s.part tag n) hclosed))
  · exact completes_press_refused hport hset hn (pressRequest_taken hne hinst
      (fun hidle => absurd (hk.symm.trans hidle.2.2) (by simp))
      (Part.delegatePress_closing (p := pressTaken s.part tag n) hopen hqueued hk
        (by rw [Part.taken_slot, hstate]; rfl)))
  · refine completes_press_kept hport hset hn (Part.pressRequest_vacant (p := pressTaken s.part tag n) hinst hne
      ⟨hopen, hqueued, hslot⟩ ?_)
    simp [Part.presentForKey, hvacant, hrequired]
  · exact completes_press_refused hport hset hn (pressRequest_taken hne hinst (fun _ => hpresent)
      ((Part.delegatePress_idle (p := pressTaken s.part tag n) ⟨hopen, hqueued, hslot⟩).trans
        (Part.newRequest_full (p := pressTaken s.part tag n) hmode hfull)))
  · exact completes_press_withdraws hport hset hn (pressRequest_taken hne hinst
      (fun hidle => absurd (hqueued.symm.trans hidle.2.1) (by simp))
      (Part.delegatePress_queued (p := pressTaken s.part tag n) hopen hqueued))
  · exact completes_press_closes hport hset hn hstate (pressRequest_taken hne hinst
      (fun hidle => absurd (hk.symm.trans hidle.2.2) (by simp))
      (Part.delegatePress_open (p := pressTaken s.part tag n) hopen hqueued hk hstate))
  · exact completes_press_joins hport hset hn (pressRequest_taken hne hinst (fun _ => hpresent)
      ((Part.delegatePress_idle (p := pressTaken s.part tag n) ⟨hopen, hqueued, hslot⟩).trans
        (Part.newRequest_chair (p := pressTaken s.part tag n) hmode hlength)))
  · obtain ⟨q, hnew, hq⟩ := Part.newRequest_opens (p := pressTaken s.part tag n) ⟨hopen, hqueued, hslot⟩ hk hmode hqueue
    refine (completes_press_granted hport hset hn (pressRequest_taken hne hinst (fun _ => hpresent)
      ((Part.delegatePress_idle (p := pressTaken s.part tag n) ⟨hopen, hqueued, hslot⟩).trans hnew)) hq).mono ?_
    rintro t ⟨hans, hstate, hholder, helapsed, horder, hleft, hcount, hbut⟩
    have hqueue' : t.flc.queue = s.part.flc.queue := hleft.trans (Part.filter_unqueued hqueued)
    exact ⟨hans, hstate, hholder, helapsed, horder, (congrFun (Part.isQueued_eq hqueue') i).trans hqueued, hqueue', hcount, hbut⟩
  · exact completes_press_joins hport hset hn (pressRequest_taken hne hinst (fun _ => hpresent)
      ((Part.delegatePress_idle (p := pressTaken s.part tag n) ⟨hopen, hqueued, hslot⟩).trans
        (Part.newRequest_waits (p := pressTaken s.part tag n) ⟨hopen, hqueued, hslot⟩ hnone hlength hmode)))
  · exact completes_press_overrides hport hset hn hne hinst ⟨hopen, hqueued, hslot⟩ hpresent hmode hnone hlength hk hk0 hcount
  · have hpress := pressRequest_taken (tag := tag) (n := n) hne hinst (fun _ => hpresent)
      ((Part.delegatePress_idle (p := pressTaken s.part tag n) ⟨hopen, hqueued, hslot⟩).trans
        (Part.newRequest_head (p := pressTaken s.part tag n) ⟨hopen, hqueued, hslot⟩ hk hmode hlength he hlast))
    have hreply : Part.pressReply (if e.seat = i then .opened else .queued) = (.done, [if e.seat = i then 0 else 3]) := by
      split <;> rfl
    rw [hreply] at hpress
    exact completes_press_granted hport hset hn hpress (Part.granted_join _ k i e.seat false)
  · exact completes_press_chairRefused hport hset hn hinst hclosed
  · cases hslot : Part.isOpenState (s.part.slot 0).state with
    | true =>
      refine (completes_press_chairCloses hport hset hn hinst hopen hslot).mono ?_
      rintro t ⟨hans, hstate, hreason, hbut⟩
      exact ⟨fun _ => ⟨hans, hstate, hreason⟩, fun h => absurd h (by simp), hbut⟩
    | false =>
      refine (completes_press_chairOpens hport hset hn hinst hopen hslot).mono ?_
      rintro t ⟨hopened, hbut⟩
      exact ⟨fun h => absurd h (by simp), fun _ => hopened, hbut⟩

end Sys2Proof.Machine
end

section
/-! The close of the floor, WINDUP and the close of a session (R63, R173, R174), and END (R169). -/

namespace Sys2Proof.Machine

/-- Flags that are set together stay set. -/
theorem NoticesGrow.flags {a b : Port → BitVec 9 × BitVec 8} (h : NoticesGrow a b) {q : Port} {m : BitVec 9}
    (hset : (a q).1 &&& m = m) : (b q).1 &&& m = m := by
  obtain ⟨m', n', hb⟩ := h.grows q
  rw [hb]
  ext i hi
  have hbit : ((a q).1 &&& m)[i] = m[i] := by rw [hset]
  simp only [BitVec.getElem_and, BitVec.getElem_or] at hbit ⊢
  cases hm : m[i]
  · simp
  · simp_all

/-! ### The pieces that an operation leaves -/

namespace SameBut

variable {bs : List Piece} {p t : Part}

theorem queue (h : SameBut bs p t) (hb : .queue ∉ bs) : t.flc.queue = p.flc.queue := h .queue hb
theorem openOrder (h : SameBut bs p t) (hb : .openOrder ∉ bs) : t.flc.openOrder = p.flc.openOrder := h .openOrder hb
theorem isOpen (h : SameBut bs p t) (hb : .floorOpen ∉ bs) : t.flc.isOpen = p.flc.isOpen := h .floorOpen hb
theorem mode (h : SameBut bs p t) (hb : .floorMode ∉ bs) : t.flc.mode = p.flc.mode := h .floorMode hb
theorem limit (h : SameBut bs p t) (hb : .floorLimit ∉ bs) : t.flc.limit = p.flc.limit := h .floorLimit hb
theorem slotData (h : SameBut bs p t) (hb : .slots ∉ bs) : t.slotData = p.slotData := Part.slotData_of_slots (h .slots hb)
theorem slot (h : SameBut bs p t) (hb : .slots ∉ bs) : t.slot = p.slot := Part.slot_eq (h .slots hb)
theorem seat (h : SameBut bs p t) (hb : .seats ∉ bs) : t.seat = p.seat := Part.seat_eq (h .seats hb)
theorem screen (h : SameBut bs p t) (hb : .screens ∉ bs) : t.screen = p.screen := Part.screen_eq (h .screens hb)
theorem occupied (h : SameBut bs p t) (hb : .occupied ∉ bs) : t.smn.occupied = p.smn.occupied := h .occupied hb
theorem session (h : SameBut bs p t) (hb : .session ∉ bs) : t.ssu.session = p.ssu.session := h .session hb
theorem pendingStart (h : SameBut bs p t) (hb : .pendingStart ∉ bs) : t.ssu.pendingStart = p.ssu.pendingStart := h .pendingStart hb
theorem store (h : SameBut bs p t) (hb : .store ∉ bs) : t.ssu.store = p.ssu.store := (h .store hb).1
theorem params (h : SameBut bs p t) (hb : .params ∉ bs) : t.ssu.params = p.ssu.params := h .params hb
theorem power (h : SameBut bs p t) (hb : .power ∉ bs) : t.pwu.power = p.pwu.power := h .power hb
theorem clock (h : SameBut bs p t) (hb : .clock ∉ bs) : t.sch.clock = p.sch.clock := h .clock hb
theorem published (h : SameBut bs p t) (hb : .banks ∉ bs) : t.published = p.published := Part.published_of_banks (h .banks hb)
theorem staging (h : SameBut bs p t) (hb : .banks ∉ bs) : t.staging = p.staging := Part.staging_of_banks (h .banks hb)
theorem notices (h : SameBut bs p t) (hb : .notices ∉ bs) : t.notices = p.notices := h .notices hb

end SameBut

namespace Part

variable {p t : Part} {j k : SlotId} {r : CloseReason} {x : Session}

/-! ### The close of the floor (R63) -/

/-- A slot as the floor close leaves it (R63). -/
def floorClosedSlot (x : Slot) : Slot := if x.state = .free then x else closedFor .floorClosed x

theorem floorCloseSlot_data (p : Part) (k j : SlotId) :
    (p.floorCloseSlot k).slotData j = if j = k then floorClosedSlot (p.slotData j) else p.slotData j := by
  unfold floorCloseSlot
  split
  next hopen =>
    have hfree : (p.slot k).state ≠ .free := fun h => by simp [h, isOpenState] at hopen
    rw [close_data hopen]
    by_cases hj : j = k
    · subst hj
      simp [floorClosedSlot, hfree]
    · simp [hj]
  next hopen =>
    split
    next hclosing =>
      rw [setSlot_data]
      by_cases hj : j = k
      · subst hj
        rw [if_pos rfl, if_pos rfl, floorClosedSlot, if_neg (by simp [hclosing])]
        simp [closedFor, slotData, hclosing]
      · simp [hj]
    next hclosing =>
      have hfree : (p.slot k).state = .free := by
        cases hstate : (p.slot k).state <;> simp_all [isOpenState]
      by_cases hj : j = k
      · subst hj
        simp [floorClosedSlot, hfree]
      · simp [hj]

/-- Every slot that is not FREE ends with reason FLOOR_CLOSED (R63). -/
theorem closeFloor_data (p : Part) (j : SlotId) : p.closeFloor.slotData j = floorClosedSlot (p.slotData j) := by
  have hfold := foldl_data (P := fun _ => True) (op := floorCloseSlot) (F := floorClosedSlot) (fun _ _ _ => trivial)
    (fun q k _ j => floorCloseSlot_data q k j) (l := allSlots) (p := p.setQueue []) (by decide) trivial j
  rw [if_pos (mem_allSlots j), slotData_of_slots (p := p) (t := p.setQueue []) (by simp)] at hfold
  rw [← hfold]
  exact congrFun (slotData_of_slots (by simp [closeFloor])) j

theorem closeFloor_isOpen (p : Part) : p.closeFloor.flc.isOpen = false := by simp [closeFloor]

theorem closeFloor_openOrder (p : Part) : p.closeFloor.flc.openOrder = [] := by simp [closeFloor]

theorem closeFloor_queue (p : Part) : p.closeFloor.flc.queue = [] := by
  simp [closeFloor]

theorem allFree_iff : p.allFree = true ↔ ∀ k, (p.slot k).state = .free := by
  simp [allFree, mem_allSlots]

theorem closeFloor_free (p : Part) (k : SlotId) : (p.closeFloor.slot k).state = .free ↔ (p.slot k).state = .free := by
  have hstate : (p.closeFloor.slot k).state = (floorClosedSlot (p.slotData k)).state := by
    rw [← slotData_state, closeFloor_data]
  rw [hstate, floorClosedSlot]
  split
  next h => simp
  next h => simpa [closedFor] using h

/-! ### WINDUP (R173) -/

/-- A session at its WINDUP entry (R173). -/
def windupOf (r : CloseReason) (x : Session) : Session := { x with state := .windup, reason := some r }

theorem enterWindup_eq (h : p.ssu.session = some x) (r : CloseReason) :
    p.enterWindup r = (p.putSession (some (windupOf r x))).closeFloor := by
  simp only [enterWindup, h]
  rfl

theorem enterWindup_session (h : p.ssu.session = some x) (r : CloseReason) :
    (p.enterWindup r).ssu.session = some (windupOf r x) := by
  rw [enterWindup_eq h]
  simp [putSession]

theorem enterWindup_closed (h : p.ssu.session = some x) (r : CloseReason) :
    (p.enterWindup r).flc.isOpen = false ∧ (p.enterWindup r).flc.queue = [] ∧ (p.enterWindup r).flc.openOrder = [] := by
  rw [enterWindup_eq h]
  exact ⟨closeFloor_isOpen _, closeFloor_queue _, closeFloor_openOrder _⟩

theorem enterWindup_data (h : p.ssu.session = some x) (r : CloseReason) (j : SlotId) :
    (p.enterWindup r).slotData j = floorClosedSlot (p.slotData j) := by
  rw [enterWindup_eq h, closeFloor_data, slotData_of_slots (p := p) (t := p.putSession (some (windupOf r x))) (by simp [putSession])]

theorem enterWindup_free (h : p.ssu.session = some x) (r : CloseReason) (k : SlotId) :
    ((p.enterWindup r).slot k).state = .free ↔ (p.slot k).state = .free := by
  rw [enterWindup_eq h, closeFloor_free, slot_eq (p := p) (t := p.putSession (some (windupOf r x))) (by simp [putSession])]

theorem enterWindup_allFree (h : p.ssu.session = some x) (r : CloseReason) : (p.enterWindup r).allFree = p.allFree := by
  rw [Bool.eq_iff_iff, allFree_iff, allFree_iff]
  exact forall_congr' fun k => enterWindup_free h r k

/-- With a slot that is not FREE, WINDUP waits for it (R173). -/
theorem windup_waits (h : p.ssu.session = some x) (hslots : p.allFree = false) (r : CloseReason) :
    p.windup r = p.enterWindup r := by
  simp only [windup, completeWindup, enterWindup_session h, enterWindup_allFree h, hslots]
  simp

theorem closeSession_session (p : Part) (x : Session) (r : CloseReason) : (p.closeSession x r).ssu.session = none := by
  simp [closeSession, putSession]

theorem openPending_none (h : p.ssu.pendingStart = none) : p.openPending = p := by simp [openPending, h]

theorem closeWindup_none (h : p.ssu.session = none) : p.closeWindup = p := by simp [closeWindup, h]

theorem closeWindup_windup (h : p.ssu.session = some x) (hstate : x.state = .windup) (hslots : p.allFree = true) :
    p.closeWindup = p.closeSession x (x.reason.getD .ended) := by
  simp [closeWindup, h, hstate, hslots]

/-- A WINDUP completes with every slot FREE; without a pending start no session follows it (R173, R174). -/
theorem completeWindup_closes (h : p.ssu.session = some x) (hstate : x.state = .windup) (hslots : p.allFree = true)
    (hpending : p.ssu.pendingStart = none) : p.completeWindup = p.closeSession x (x.reason.getD .ended) := by
  have hopen : (p.closeSession x (x.reason.getD .ended)).openPending = p.closeSession x (x.reason.getD .ended) :=
    openPending_none (by simpa using hpending)
  simp only [completeWindup, h, hstate, hslots, and_self, if_true]
  rw [closeWindup_windup h hstate hslots, hopen, closeWindup_none (closeSession_session p x _)]

theorem windup_closes (h : p.ssu.session = some x) (hslots : p.allFree = true) (hpending : p.ssu.pendingStart = none)
    (r : CloseReason) : p.windup r = (p.enterWindup r).closeSession (windupOf r x) r :=
  completeWindup_closes (enterWindup_session h r) rfl ((enterWindup_allFree h r).trans hslots) (by simpa using hpending)

/-! ### The close of a session (R174, R177, R178) -/

theorem closeRecords_store (p : Part) (x : Session) (r : CloseReason) :
    (p.closeRecords x r).ssu.store = storeAfter p.ssu.store (p.summaryOf x r) := by
  simp only [closeRecords]
  split <;> simp [writeSummary, clearCounters]

theorem closeSession_store (p : Part) (x : Session) (r : CloseReason) :
    (p.closeSession x r).ssu.store = storeAfter p.ssu.store (p.summaryOf x r) := by
  rw [← closeRecords_store]
  simp [closeSession, putSession]

theorem storeAfter_newest (l : List Summary) (x : Summary) : (storeAfter l x).getLast? = some x := by
  unfold storeAfter
  split <;> simp

theorem closeSession_newest (p : Part) (x : Session) (r : CloseReason) :
    (p.closeSession x r).ssu.store.getLast? = some (p.summaryOf x r) := by
  rw [closeSession_store, storeAfter_newest]

/-- The records of a close raise SUMMARY in all three ports (R178). -/
theorem closeRecords_raises (p : Part) (x : Session) (r : CloseReason) (q : Port) :
    ((p.closeRecords x r).notices q).1 &&& Category.summary.bit = Category.summary.bit := by
  have hwritten : ((p.writeSummary (p.summaryOf x r)).notices q).1 &&& Category.summary.bit = Category.summary.bit := by
    rw [writeSummary, notice_notices]
    ext i hi
    simp +contextual
  have hcleared : NoticesGrow (p.writeSummary (p.summaryOf x r)).notices
      (p.writeSummary (p.summaryOf x r)).clearCounters.notices := by simp
  have hrecords : NoticesGrow (p.writeSummary (p.summaryOf x r)).notices (p.closeRecords x r).notices := by
    simp only [closeRecords]
    split
    · exact markEntry_grows hcleared _ _ _
    · exact hcleared
  exact hrecords.flags hwritten

/-- A close raises SUMMARY and SESSION in all three ports (R174, R178). -/
theorem closeSession_flags (p : Part) (x : Session) (r : CloseReason) (q : Port) :
    ((p.closeSession x r).notices q).1 &&& 0xA0 = 0xA0 := by
  have hgrows : NoticesGrow (p.closeRecords x r).notices
      (((p.closeRecords x r).routeClose (privacyMark x)).applyFloorPreset p.flc.preset).notices :=
    applyFloorPreset_grows (by simp -implicitDefEqProofs) _
  have hsummary := hgrows.flags (closeRecords_raises p x r q)
  rw [closeSession, putSession, notice_notices]
  have hset : (((((p.closeRecords x r).routeClose (privacyMark x)).applyFloorPreset p.flc.preset).setSession none).notices q).1 &&&
      Category.summary.bit = Category.summary.bit := hsummary
  generalize (((((p.closeRecords x r).routeClose (privacyMark x)).applyFloorPreset p.flc.preset).setSession none).notices q).1
    = f at hset
  revert hset
  simp only [Category.bit]
  decide +revert

/-! ### The end of an event -/

/-- An event that leaves no walk-in ready to open ends with the dwell timer and the drive of the outputs (R170). -/
theorem sameBut_conclude_dwell {before after : Part} (h : after.walkInReady = false ∨ after.ssu.params.dwell ≠ 0) :
    SameBut [.dwell, .screens, .notices] after (conclude before after) := by
  have hdwell : SameBut [.dwell] after (concludeDwell before after) := by
    intro b hb
    cases hw : after.walkInReady with
    | false => cases b <;> simp_all [concludeDwell, Piece.Same]
    | true =>
      have hne : after.ssu.params.dwell ≠ 0 := h.resolve_left (by simp [hw])
      have hsame : concludeDwell before after = after := by simp [concludeDwell, hw, hne]
      rw [hsame]
      exact SameBut.refl [.dwell] after b hb
  exact (hdwell.mono (by simp)).trans (((sameBut_concludeRouting before _).mono (by simp)).trans
    ((sameBut_drivePins _).mono (by simp)))

theorem walkInReady_open (h : p.ssu.session = some x) : p.walkInReady = false := by
  simp [walkInReady, sessionOpen, h]

/-! ### END -/

theorem endSession_state (h : ∀ x ∈ p.ssu.session, x.state = .windup) : p.endSession = (p, .state) := by
  unfold endSession
  split
  · rfl
  next x hx => simp [h x hx]

theorem endSession_done (h : p.ssu.session = some x) (hstate : x.state ≠ .windup) : p.endSession = (p.windup .chair, .done) := by
  simp [endSession, h, hstate]

theorem serveOwner_end (p : Part) (q : Port) (tag : Byte) : p.serveOwner q ⟨0x2A, tag, 0, []⟩ = plain p.endSession := by
  simp [serveOwner, serveFloor]

end Part

variable {q : Port} {tag : Byte} {s : State}

theorem permitted_end (hq : q ≠ .av) : Permitted q (0x2A : Byte).toNat := by
  cases q with
  | av => exact absurd rfl hq
  | chair => decide
  | room => decide

/-- The part as it takes END into service. -/
abbrev endTaken (p : Part) (q : Port) (tag : Byte) : Part := p.taken q ⟨0x2A, tag, 0, []⟩

theorem completes_end {x : Session} (hport : Listening s.part q) (hq : q ≠ .av) (hsession : s.part.ssu.session = some x)
    (hstate : x.state ≠ .windup)
    (hend : ((endTaken s.part q tag).windup .chair).walkInReady = false ∨ s.part.ssu.params.dwell ≠ 0) :
    Completes (.endSession q tag) s fun t =>
      Answered t q tag .done [[]] ∧ SameBut [.requests q, .dwell, .screens, .notices] ((endTaken s.part q tag).windup .chair) t ∧
      NoticesGrow ((endTaken s.part q tag).windup .chair).notices t.notices := by
  have hserve := (Part.serveOwner_end (endTaken s.part q tag) q tag).trans
    (congrArg Part.plain (Part.endSession_done (p := endTaken s.part q tag) hsession hstate))
  have hreq : requestOf (.endSession q tag) = some (q, ⟨0x2A, tag, 0, []⟩) := rfl
  have hline : ((endTaken s.part q tag).windup .chair).line = (endTaken s.part q tag).line := by simp
  refine completes_served hreq (Part.idle_listening hport) (Part.checkRequest_run hreq (permitted_end hq) hport.1.1)
    (by simp [portResetCode]) hserve (congrFun hline q) ?_
  rintro t rfl hans
  refine ⟨hans, ?_, ?_⟩
  · refine ((Part.sameBut_replied _ q _).mono (by simp)).trans ((Part.sameBut_conclude_dwell ?_).mono (by simp))
    refine hend.imp (fun h => ?_) fun h => by simpa using h
    exact (Part.walkInReady_of_session (by simp) (by simp) (by simp) (by simp)).trans h
  · refine Part.conclude_grows ?_ _
    rw [show (((endTaken s.part q tag).windup .chair).replied q _).notices = ((endTaken s.part q tag).windup .chair).notices by simp]
    exact .refl _

/-- Settles O44: END goes to WINDUP through the operation that every session end goes through, and with every slot FREE
the close follows at once. -/
theorem endStartsWindup : Obligations.EndStartsWindup := by
  unfold Obligations.EndStartsWindup
  refine fun q tag s hport hset hq => ⟨fun hnone => ?_, fun x hx hstate hslots => ?_, fun x hx hstate hslots hpending hdwell => ?_⟩
  · exact completes_kept (c := .endSession q tag) (st := .state) (l := []) rfl hport hset (permitted_end hq) (by decide)
      ((Part.serveOwner_end _ q tag).trans (congrArg Part.plain (Part.endSession_state (p := endTaken s.part q tag) hnone)))
  · have hsession : s.part.ssu.session = some x := hx
    have hwindup := Part.windup_waits (p := endTaken s.part q tag) hsession hslots .chair
    have hentered := Part.enterWindup_session (p := endTaken s.part q tag) hsession .chair
    refine (completes_end hport hq hsession hstate (Or.inl (Part.walkInReady_open (hwindup ▸ hentered)))).mono ?_
    rintro t ⟨hans, hown, -⟩
    rw [hwindup] at hown
    obtain ⟨hopen, hqueue, horder⟩ := Part.enterWindup_closed (p := endTaken s.part q tag) hsession .chair
    refine ⟨hans, (hown.session (by simp)).trans hentered, (hown.isOpen (by simp)).trans hopen,
      (hown.queue (by simp)).trans hqueue, (hown.openOrder (by simp)).trans horder, fun k hk => ?_⟩
    have hslot := (congrFun (hown.slotData (by simp)) k).trans
      (Part.enterWindup_data (p := endTaken s.part q tag) hsession .chair k)
    rw [Part.floorClosedSlot, if_neg (by simpa using hk)] at hslot
    exact ⟨congrArg Slot.state hslot, congrArg Slot.reason hslot⟩
  · have hsession : s.part.ssu.session = some x := hx
    have hwindup := Part.windup_closes (p := endTaken s.part q tag) hsession hslots hpending .chair
    refine (completes_end hport hq hsession hstate (Or.inr hdwell)).mono ?_
    rintro t ⟨hans, hown, hgrows⟩
    rw [hwindup] at hown hgrows
    obtain ⟨hopen, hqueue, -⟩ := Part.enterWindup_closed (p := endTaken s.part q tag) hsession .chair
    have hnewest := (congrArg List.getLast? (hown.store (by simp))).trans (Part.closeSession_newest _ _ _)
    refine ⟨hans, (hown.session (by simp)).trans (Part.closeSession_session _ _ _),
      (hown.isOpen (by simp)).trans (by simpa using hopen), (hown.queue (by simp)).trans (by simpa using hqueue),
      ⟨_, hnewest, rfl, ?_, rfl⟩, fun a => hgrows.flags (Part.closeSession_flags _ _ _ a)⟩
    simp [Part.summaryOf]

end Sys2Proof.Machine
end

section
/-! The standby entry (R40, R110, R123, R132, R199, R200). -/

namespace Sys2Proof.Machine

/-- What a fold of operations that each leave the same pieces leaves. -/
theorem SameBut.foldl {α : Type} {bs : List Piece} {f : Part → α → Part} (h : ∀ p a, SameBut bs p (f p a)) (p : Part) (l : List α) :
    SameBut bs p (l.foldl f p) := by
  induction l generalizing p with
  | nil => exact .refl bs p
  | cons a l ih => exact (h p a).trans (ih (f p a))

namespace Part

variable {p : Part}

/-! ### A key channel at the standby entry (R40) -/

theorem keyChannel_inj {i j : SeatId} : keyChannel i = keyChannel j ↔ i = j := by
  simp only [keyChannel, Fin.ext_iff]
  omega

theorem standbyChannel_out (x : Channel) :
    (standbyChannel x).2 = if outcomeOf x = .active then [.report .inactive .standby] else [] := by
  cases h : x.state <;> simp [standbyChannel, outcomeOf, outcomeOfState, h]

theorem standbyChannel_state (x : Channel) :
    (standbyChannel x).1.state =
      if x.state = .off then .off
      else if x.state = .fault then .fault
      else if x.state = .tuning ∧ x.held = .fault then .fault
      else .idle := by
  cases h : x.state <;> simp [standbyChannel, h]

theorem seatOf_keyChannel : ∀ i : SeatId, seatOf (keyChannel i) = i := by decide

/-- The key of a seat whose key channel was active goes UP (R40). -/
theorem standbyKey_eq (p : Part) (s : SeatId) :
    p.standbyKey s =
      if outcomeOf (p.channel (keyChannel s)) = .active then
        (p.setChannel (keyChannel s) (standbyChannel (p.channel (keyChannel s))).1).keyUp s
      else p.setChannel (keyChannel s) (standbyChannel (p.channel (keyChannel s))).1 := by
  rw [standbyKey, putChannel, standbyChannel_out]
  split
  · simp [sendOut, sendOne, report, kindOf_keyChannel, seatOf_keyChannel, keyReport]
  · rfl

theorem sameBut_standbyKey (p : Part) (s : SeatId) : SameBut [.sensing, .seats] p (p.standbyKey s) := by
  intro b hb
  rw [standbyKey_eq]
  cases b <;> split <;> simp_all [Piece.Same, keyUp]

theorem standbyKey_channel (p : Part) (s : SeatId) (c : ChannelId) :
    (p.standbyKey s).channel c = if c = keyChannel s then (standbyChannel (p.channel (keyChannel s))).1 else p.channel c := by
  have hup (q : Part) : (q.keyUp s).channel c = q.channel c := by simp [channel]
  rw [standbyKey_eq]
  by_cases hc : c = keyChannel s
  · subst hc
    split <;> simp [hup]
  · split <;> simp [hup, hc]

/-- The fold over the seats takes each key channel once. -/
theorem standbyKeys_channel {l : List SeatId} (hl : l.Nodup) (i : SeatId) :
    (l.foldl standbyKey p).channel (keyChannel i) =
      if i ∈ l then (standbyChannel (p.channel (keyChannel i))).1 else p.channel (keyChannel i) := by
  induction l generalizing p with
  | nil => simp
  | cons s l ih =>
    obtain ⟨hs, hl⟩ := List.nodup_cons.mp hl
    rw [List.foldl_cons, ih hl, standbyKey_channel]
    by_cases hi : i = s
    · subst hi
      simp [hs]
    · simp [hi, keyChannel_inj]

theorem standbyKey_seat (p : Part) (s i : SeatId) :
    (p.standbyKey s).seat i =
      if i = s ∧ outcomeOf (p.channel (keyChannel s)) = .active then
        { p.seat i with key := .up, press := 0, mark := .none, nextTaken := false }
      else p.seat i := by
  rw [standbyKey_eq]
  by_cases hi : i = s
  · subst hi
    split <;> simp_all [keyUp]
  · split <;> simp_all [keyUp]

theorem standbyKeys_up {l : List SeatId} (hl : l.Nodup) {i : SeatId} (hup : i ∈ l ∨ (p.seat i).key = .up)
    (h : outcomeOf (p.channel (keyChannel i)) = .active ∨ (p.seat i).key = .up) :
    ((l.foldl standbyKey p).seat i).key = .up := by
  induction l generalizing p with
  | nil => simpa using hup
  | cons s l ih =>
    have htail := (List.nodup_cons.mp hl).2
    by_cases hi : i = s
    · subst hi
      have hkey : ((p.standbyKey i).seat i).key = .up := by
        rw [standbyKey_seat]
        split
        · rfl
        next hn => exact h.resolve_left fun hact => hn ⟨rfl, hact⟩
      exact ih htail (.inr hkey) (.inr hkey)
    · have hseat : (p.standbyKey s).seat i = p.seat i := by rw [standbyKey_seat, if_neg fun hc => hi hc.1]
      have hchannel : (p.standbyKey s).channel (keyChannel i) = p.channel (keyChannel i) := by
        rw [standbyKey_channel, if_neg (by simpa [keyChannel_inj] using hi)]
      refine ih htail ?_ ?_
      · rw [hseat]
        exact hup.imp_left fun hm => (List.mem_cons.mp hm).resolve_left hi
      · rwa [hseat, hchannel]

/-! ### The sockets outside the wake mask (R123) -/

theorem putSocket_unlive {k : SocketId} {x : Socket} (h : (socketLive x && !socketLive (p.socket k)) = false) :
    SameBut [.sockets, .screens, .routable, .notices] p (p.putSocket k x) := by
  intro b hb
  rw [putSocket, handSource, h]
  cases b <;> split <;> simp_all [Piece.Same]

theorem sameBut_standbySocket (p : Part) (k : SocketId) :
    SameBut [.sockets, .screens, .routable, .notices] p (p.standbySocket k) := by
  rw [standbySocket]
  split
  · exact .refl _ p
  · exact putSocket_unlive (by simp [stopped, socketLive])

/-! ### The standby entry (R199) -/

theorem sameBut_setPower (p : Part) (x : PowerState) : SameBut [.power, .notices] p (p.changePower x) := by
  intro b hb
  cases b <;> simp_all [Piece.Same]

theorem sameBut_setSettle (p : Part) (n : Nat) : SameBut [.settle] p (p.withPwu { p.pwu with settle := n }) := by
  intro b hb
  cases b <;> simp_all [Piece.Same]

theorem sameBut_standbySlots (p : Part) : SameBut [.refused, .bus] p p.standbySlots := by
  intro b hb
  cases b <;> simp_all [Piece.Same, standbySlots]

theorem sameBut_setOverride (p : Part) (b : Bool) : SameBut [.override] p (p.setOverride b) := by
  intro c hc
  cases c <;> simp_all [Piece.Same, setOverride]

/-- The part with the power state and the settle of the entry, before a block acts at it. -/
def standbyPowered (p : Part) : Part := (p.changePower .standby).withPwu { (p.changePower .standby).pwu with settle := 0 }

/-- The part with its key channels taken, before the gain bus and the captures. -/
def standbyKeyed (p : Part) : Part := (List.finRange 20).foldl standbyKey p.standbyPowered

theorem standbyEntry_eq (p : Part) :
    p.standbyEntry = ((List.finRange 8).foldl standbySocket p.standbyKeyed.standbySlots).setOverride true := rfl

theorem sameBut_standbyPowered (p : Part) : SameBut [.power, .settle, .notices] p p.standbyPowered :=
  ((sameBut_setPower p .standby).mono (by simp)).trans ((sameBut_setSettle _ 0).mono (by simp))

theorem sameBut_standbyKeyed (p : Part) : SameBut [.sensing, .seats] p.standbyPowered p.standbyKeyed :=
  .foldl sameBut_standbyKey _ _

theorem sameBut_standbyKeyed_entry (p : Part) :
    SameBut [.sockets, .screens, .routable, .notices, .override] p.standbyKeyed.standbySlots p.standbyEntry := by
  rw [standbyEntry_eq]
  have hsockets := SameBut.foldl sameBut_standbySocket p.standbyKeyed.standbySlots (List.finRange 8)
  exact (hsockets.mono (by simp)).trans ((sameBut_setOverride _ true).mono (by simp))

/-- The blocks that the standby entry reaches. -/
theorem sameBut_standbyEntry (p : Part) :
    SameBut [.sensing, .seats, .refused, .bus, .sockets, .screens, .routable, .override, .power, .settle, .notices] p p.standbyEntry :=
  ((sameBut_standbyPowered p).mono (by simp)).trans (((sameBut_standbyKeyed p).mono (by simp)).trans
    (((sameBut_standbySlots _).mono (by simp)).trans ((sameBut_standbyKeyed_entry p).mono (by simp))))

theorem standbyEntry_power (p : Part) : p.standbyEntry.pwu.power = .standby :=
  calc p.standbyEntry.pwu.power = p.standbyKeyed.standbySlots.pwu.power := (sameBut_standbyKeyed_entry p).power (by simp)
    _ = p.standbyKeyed.pwu.power := by simp
    _ = p.standbyPowered.pwu.power := (sameBut_standbyKeyed p).power (by simp)
    _ = .standby := by simp [standbyPowered, changePower]

theorem standbyEntry_settle (p : Part) : p.standbyEntry.pwu.settle = 0 :=
  calc p.standbyEntry.pwu.settle = p.standbyKeyed.standbySlots.pwu.settle := sameBut_standbyKeyed_entry p .settle (by simp)
    _ = p.standbyKeyed.pwu.settle := by simp
    _ = p.standbyPowered.pwu.settle := sameBut_standbyKeyed p .settle (by simp)
    _ = 0 := by simp [standbyPowered]

theorem standbyEntry_override (p : Part) : p.standbyEntry.rtu.override = true := by
  rw [standbyEntry_eq]
  simp [setOverride]

/-- The gain bus is quiet and no seat is shown REFUSED (R110). -/
theorem standbyEntry_bus (p : Part) : p.standbyEntry.sgu.bus = none := by
  have h : p.standbyEntry.sgu.bus = p.standbyKeyed.standbySlots.sgu.bus := sameBut_standbyKeyed_entry p .bus (by simp)
  exact h.trans rfl

theorem standbyEntry_refused (p : Part) (i : SeatId) : p.standbyEntry.sgu.refused.get i = 0 := by
  have h : p.standbyEntry.sgu.refused = p.standbyKeyed.standbySlots.sgu.refused := sameBut_standbyKeyed_entry p .refused (by simp)
  rw [h]
  simp [standbySlots]

theorem standbyEntry_channel (p : Part) (i : SeatId) :
    p.standbyEntry.channel (keyChannel i) = (standbyChannel (p.channel (keyChannel i))).1 := by
  have hafter : p.standbyEntry.sfe = p.standbyKeyed.standbySlots.sfe := sameBut_standbyKeyed_entry p .sensing (by simp)
  have hbefore : p.standbyPowered.sfe = p.sfe := sameBut_standbyPowered p .sensing (by simp)
  have hkeys := standbyKeys_channel (p := p.standbyPowered) (List.nodup_finRange 20) i
  rw [if_pos (List.mem_finRange i)] at hkeys
  simp only [channel, hbefore] at hkeys
  simp only [channel, hafter]
  simpa [standbyKeyed] using hkeys

theorem standbyEntry_key {i : SeatId} (h : outcomeOf (p.channel (keyChannel i)) = .active) :
    (p.standbyEntry.seat i).key = .up := by
  have hafter : p.standbyEntry.seat = p.standbyKeyed.standbySlots.seat := (sameBut_standbyKeyed_entry p).seat (by simp)
  have hbefore : p.standbyPowered.sfe = p.sfe := sameBut_standbyPowered p .sensing (by simp)
  have hkeys := standbyKeys_up (p := p.standbyPowered) (List.nodup_finRange 20) (.inl (List.mem_finRange i))
    (.inl (by simpa [channel, hbefore] using h))
  rw [hafter]
  simpa [standbyKeyed, seat] using hkeys

theorem standbyEntry_flag (h : p.pwu.power ≠ .standby) (q : Port) : (p.standbyEntry.notices q).1 &&& 256 ≠ 0 := by
  have hraised : (p.standbyPowered.notices q).1 &&& 256 ≠ 0 := by
    have hchange : p.changePower .standby = (p.setPower .standby).notice .power := by simp [changePower, noticeIf, h]
    have hpowered : p.standbyPowered.notices = (p.changePower .standby).notices := by simp [standbyPowered]
    rw [hpowered, hchange, notice_notices]
    exact mark_raised _ (by decide)
  have hkeyed : NoticesGrow p.standbyPowered.notices p.standbyKeyed.notices :=
    foldl_grows (fun _ i hq => standbyKey_grows hq i) _ (.refl _)
  have hgrows : NoticesGrow p.standbyPowered.notices p.standbyEntry.notices := by
    rw [standbyEntry_eq]
    have hsockets := foldl_grows (fun _ k hq => standbySocket_grows hq k) (List.finRange 8) (p := p.standbyKeyed.standbySlots)
      (a := p.standbyPowered.notices) (by simpa using hkeyed)
    simpa using hsockets
  exact hgrows.flag hraised

/-! ### The outputs in STANDBY -/

variable {t : Part}

theorem indication_standby (hout : OutputsTrue t) (hpower : t.pwu.power = .standby) {i : SeatId}
    (h : (t.seat i).installed = true) : t.sgu.indication.get i = .off := by
  rw [← hout, drivePins_sgu]
  simp [indicationOf, h, hpower]

theorem indicators_standby (hout : OutputsTrue t) (hpower : t.pwu.power = .standby) (i : SeatId) :
    t.pins.indicators.get i = ⟨decide (t.sgu.polarity.red = .activeLow), decide (t.sgu.polarity.green = .activeLow),
      decide (t.sgu.polarity.light = .activeLow)⟩ := by
  have hlevel (pol : Polarity) : outputLevel pol false = decide (pol = .activeLow) := by cases pol <;> rfl
  have hpins := congrArg (fun u : Part => u.pins.indicators.get i) hout
  simp only [drivePins_pins] at hpins
  rw [← hpins]
  simp [indicatorOf, hpower, hlevel]

theorem screens_standby (hset : Settled t) (hout : OutputsTrue t) (hover : t.rtu.override = true) (k : ScreenId) :
    (t.screen k).driven = 0 ∧ t.pins.select.get k = 0 := by
  have hdriven : (t.screen k).driven = 0 := by rw [hset.1 k, drivenBy, if_pos hover]
  have hpins := congrArg (fun u : Part => u.pins.select.get k) hout
  simp only [drivePins_pins] at hpins
  refine ⟨hdriven, ?_⟩
  rw [← hpins]
  simp [hdriven]

end Part

/-- What a part is after a standby entry. -/
def StandbyEntered (p t : Part) : Prop :=
  t.pwu.power = .standby ∧ t.pwu.settle = 0 ∧ t.rtu.override = true ∧
    (∀ k, (t.screen k).driven = 0 ∧ t.pins.select.get k = 0) ∧
    t.sgu.bus = none ∧ (∀ i, t.sgu.refused.get i = 0) ∧
    (∀ i, t.pins.indicators.get i = ⟨decide (p.sgu.polarity.red = .activeLow),
      decide (p.sgu.polarity.green = .activeLow), decide (p.sgu.polarity.light = .activeLow)⟩) ∧
    (∀ i, (t.seat i).installed = true → t.sgu.indication.get i = .off) ∧
    (∀ i, Part.outcomeOf (p.channel (Part.keyChannel i)) = .active → (t.seat i).key = .up) ∧
    (∀ i, (t.channel (Part.keyChannel i)).state =
      (if (p.channel (Part.keyChannel i)).state = .off then .off
      else if (p.channel (Part.keyChannel i)).state = .fault then .fault
      else if (p.channel (Part.keyChannel i)).state = .tuning ∧ (p.channel (Part.keyChannel i)).held = .fault then .fault
      else .idle))

theorem standbyEntered {p t : Part} {bs : List Piece} (ht : SameBut (bs ++ [.dwell, .screens, .notices]) p.standbyEntry t)
    (hbs : ∀ b ∈ bs, ∃ q, b = .requests q) (hset : Settled t) (hout : OutputsTrue t) : StandbyEntered p t := by
  have hkept (b : Piece) (h : ∀ q, b ≠ .requests q) (h' : b ∉ [.dwell, .screens, .notices]) : b.Same p.standbyEntry t :=
    ht b fun hb => (List.mem_append.mp hb).elim (fun hb => (hbs b hb).elim h) h'
  have hpowered : t.pwu.power = p.standbyEntry.pwu.power := hkept .power (by simp) (by simp)
  have hpower := hpowered.trans p.standbyEntry_power
  have hoverride : t.rtu.override = p.standbyEntry.rtu.override := hkept .override (by simp) (by simp)
  have hover := hoverride.trans p.standbyEntry_override
  have hsettle : t.pwu.settle = p.standbyEntry.pwu.settle := hkept .settle (by simp) (by simp)
  have hbus : t.sgu.bus = p.standbyEntry.sgu.bus := hkept .bus (by simp) (by simp)
  have hrefused : t.sgu.refused = p.standbyEntry.sgu.refused := hkept .refused (by simp) (by simp)
  have hpolarity : t.sgu.polarity = p.standbyEntry.sgu.polarity := hkept .polarity (by simp) (by simp)
  have hold : p.standbyEntry.sgu.polarity = p.sgu.polarity := Part.sameBut_standbyEntry p .polarity (by simp)
  have hseat : t.seat = p.standbyEntry.seat := Part.seat_eq (hkept .seats (by simp) (by simp))
  have hsfe : t.sfe = p.standbyEntry.sfe := hkept .sensing (by simp) (by simp)
  refine ⟨hpower, hsettle.trans p.standbyEntry_settle, hover, Part.screens_standby hset hout hover,
    hbus.trans p.standbyEntry_bus, fun i => ?_, fun i => ?_,
    fun i => Part.indication_standby hout hpower, fun i h => ?_, fun i => ?_⟩
  · rw [hrefused, Part.standbyEntry_refused]
  · rw [Part.indicators_standby hout hpower, hpolarity, hold]
  · rw [hseat, Part.standbyEntry_key h]
  · have hchannel : t.channel = p.standbyEntry.channel := by
      funext c
      simp only [Part.channel, hsfe]
    rw [hchannel, Part.standbyEntry_channel, Part.standbyChannel_state]

namespace Part

variable {p : Part}

theorem standbyTest_passes (hactive : p.pwu.power = .active) (hquiet : p.pwu.delay * 60 ≤ p.pwu.quiet)
    (hsession : p.ssu.session = none) (hpending : p.ssu.pendingStart = none)
    (hnext : p.nextStart = 1440 ∨ p.sch.clock.minute + p.pwu.lead < p.nextStart) : p.standbyTest = p.standbyEntry := by
  rw [standbyTest, if_pos]
  simp [hactive, quietReached, hquiet, standbyPasses, sessionOpen, hsession, hpending, hnext]

theorem standbyEnter_state (h : p.ssu.session ≠ none ∨ p.ssu.pendingStart ≠ none) : p.standbyEnter = (p, .state) := by
  rw [standbyEnter, if_pos]
  simpa [sessionOpen_none, Option.isSome_iff_ne_none] using h

theorem standbyEnter_done (hsession : p.ssu.session = none) (hpending : p.ssu.pendingStart = none) :
    p.standbyEnter = (p.standbyEntry, .done) := by
  rw [standbyEnter, if_neg]
  simp [sessionOpen, hsession, hpending]

theorem serveOwner_standbyEnter (p : Part) (tag : Byte) :
    p.serveOwner .room ⟨0x4F, tag, 0, []⟩ = plain p.standbyEnter := by
  rfl

end Part

/-- Settles O26: the quiet timer and the request take the same entry. -/
theorem standbyIsEntered : Obligations.StandbyIsEntered := by
  unfold Obligations.StandbyIsEntered
  refine ⟨fun s hheld ⟨hactive, hquiet⟩ ⟨hsession, hpending, hdwell, hnext⟩ => ?_, fun tag s hport hset => ⟨fun hstate => ?_,
    fun hsession hpending hdwell => ?_⟩⟩
  · refine completes_onEvent (f := Part.standbyTest) rfl ?_
    rw [Part.event_unheld hheld, Part.standbyTest_passes hactive hquiet hsession hpending hnext]
    have hparams := (Part.sameBut_standbyEntry s.part).params (by simp)
    obtain ⟨hpower, hsettle, hover, hscreens, hbus, hrefused, hpins, hoff, hkeys, hstates⟩ :=
      standbyEntered (p := s.part) (bs := []) (Part.sameBut_conclude_dwell (before := s.part) (.inr (by rwa [hparams])))
        (by simp) (Part.settled_conclude _ _) (Part.outputsTrue_conclude _ _)
    exact ⟨hpower, hsettle, hover, hscreens, hbus, hrefused, hpins, hoff, hkeys, hstates,
      fun q => Part.conclude_flag (Part.standbyEntry_flag (by simp [hactive]) q)⟩
  · exact completes_kept (c := .standbyEnter .room tag) (st := .state) (l := []) rfl hport hset (by decide) (by decide)
      ((Part.serveOwner_standbyEnter _ tag).trans (congrArg Part.plain
        (Part.standbyEnter_state (p := s.part.taken .room ⟨0x4F, tag, 0, []⟩) hstate)))
  · have hreq : requestOf (.standbyEnter .room tag) = some (.room, ⟨0x4F, tag, 0, []⟩) := rfl
    have hentry := Part.sameBut_standbyEntry (s.part.taken .room ⟨0x4F, tag, 0, []⟩)
    have hline := congrFun (funext fun q => hentry (.requests q) (by simp)) Port.room
    refine completes_served hreq (Part.idle_listening hport) (Part.checkRequest_run hreq (by decide : Permitted .room (0x4F : Byte).toNat) hport.1.1)
      (by simp [portResetCode]) ((Part.serveOwner_standbyEnter _ tag).trans (congrArg Part.plain
        (Part.standbyEnter_done (p := s.part.taken .room ⟨0x4F, tag, 0, []⟩) hsession hpending))) hline ?_
    rintro t rfl hans
    refine ⟨hans, ?_⟩
    have hparams := hentry.params (by simp)
    exact standbyEntered (p := s.part.taken .room ⟨0x4F, tag, 0, []⟩) (bs := [.requests .room])
      (((Part.sameBut_replied _ _ _).mono (by simp)).trans ((Part.sameBut_conclude_dwell (.inr (by
        simpa [hparams] using hdwell))).mono (by simp)))
      (by simp) (Part.settled_conclude _ _) (Part.outputsTrue_conclude _ _)

end Sys2Proof.Machine
end

section
/-! What the sessions and the clock do to the booking banks: outside a swap and the requests that load a bank, only the
status of entries of the published bank changes (R144, R148, R174). -/

namespace Sys2Proof.Machine

/-- An entry as the marks of sessions leave it: its booking stays, it is MISSED exactly when it was, and it does not return to
PENDING (R148). -/
def EntryKept (a b : Entry) : Prop :=
  b.booking = a.booking ∧ (b.status = .missed ↔ a.status = .missed) ∧ (b.status = .pending → a.status = .pending)

theorem EntryKept.refl (a : Entry) : EntryKept a a := ⟨rfl, Iff.rfl, id⟩

theorem EntryKept.trans {a b c : Entry} (h : EntryKept a b) (h' : EntryKept b c) : EntryKept a c :=
  ⟨h'.1.trans h.1, h'.2.1.trans h.2.1, fun hc => h.2.2 (h'.2.2 hc)⟩

theorem forall₂_entryKept_refl (l : List Entry) : List.Forall₂ EntryKept l l := List.forall₂_same.mpr fun a _ => .refl a

theorem forall₂_entryKept_trans {l m n : List Entry} (h : List.Forall₂ EntryKept l m) (h' : List.Forall₂ EntryKept m n) :
    List.Forall₂ EntryKept l n := by
  induction h generalizing n with
  | nil => exact h'
  | cons hab hlm ih =>
    cases h' with
    | cons hbc hmn => exact .cons (hab.trans hbc) (ih hmn)

/-- The banks but for marks on the published entries, and the clock, are the same in two parts. -/
structure Marked (p t : Part) : Prop where
  clock : t.sch.clock = p.sch.clock
  isA : t.publishedIsA = p.publishedIsA
  staging : t.staging = p.staging
  published : ∃ es, t.published = { p.published with entries := es } ∧ List.Forall₂ EntryKept p.published.entries es

namespace Marked

variable {p q t : Part}

theorem refl (p : Part) : Marked p p := ⟨rfl, rfl, rfl, p.published.entries, rfl, forall₂_entryKept_refl _⟩

theorem trans (h : Marked p q) (h' : Marked q t) : Marked p t := by
  obtain ⟨es, hes, hkept⟩ := h.published
  obtain ⟨fs, hfs, hkept'⟩ := h'.published
  refine ⟨h'.clock.trans h.clock, h'.isA.trans h.isA, h'.staging.trans h.staging, fs, ?_, ?_⟩
  · rw [hfs, hes]
  · rw [hes] at hkept'
    exact forall₂_entryKept_trans hkept hkept'

/-- An operation that leaves SCH. -/
theorem same (h : Marked p q) (hsch : t.sch = q.sch) : Marked p t := by
  have hbanks : Piece.banks.Same q t := ⟨congrArg Sch.bankA hsch, congrArg Sch.bankB hsch⟩
  refine h.trans ⟨congrArg Sch.clock hsch, ?_, Part.staging_of_banks hbanks, q.published.entries, Part.published_of_banks hbanks,
    forall₂_entryKept_refl _⟩
  simp only [Part.publishedIsA, hsch]

/-- An operation that leaves the clock and the banks. -/
theorem sameBut {bs : List Piece} (h : Marked p q) (ht : SameBut bs q t) (hclock : .clock ∉ bs) (hbanks : .banks ∉ bs) :
    Marked p t := by
  obtain ⟨hA, hB⟩ : t.sch.bankA = q.sch.bankA ∧ t.sch.bankB = q.sch.bankB := ht .banks hbanks
  refine h.trans ⟨ht.clock hclock, ?_, Part.staging_of_banks ⟨hA, hB⟩, q.published.entries, Part.published_of_banks ⟨hA, hB⟩,
    forall₂_entryKept_refl _⟩
  simp only [Part.publishedIsA, hA]

theorem foldl {α : Type} {f : Part → α → Part} (hf : ∀ q x, Marked p q → Marked p (f q x)) (l : List α) (h : Marked p q) :
    Marked p (l.foldl f q) :=
  foldl_invariant (P := fun q : Part => Marked p q) hf l q h

end Marked

namespace Part

variable {p q t : Part}

/-! ### Writes to the published bank -/

theorem setPublished_publishedIsA {b : Bank} (h : b.role = p.published.role) : (p.setPublished b).publishedIsA = p.publishedIsA := by
  cases hA : p.publishedIsA with
  | true =>
    rw [setPublished, if_pos hA]
    have hrole : b.role = .published := by
      rw [h, published, if_pos hA]
      simpa [publishedIsA] using hA
    simp [publishedIsA, hrole]
  | false =>
    rw [setPublished, if_neg (by simp [hA])]
    exact hA

theorem setPublished_published {b : Bank} (h : b.role = p.published.role) : (p.setPublished b).published = b := by
  rw [published, setPublished_publishedIsA h]
  cases hA : p.publishedIsA <;> simp [setPublished, hA]

theorem setPublished_staging {b : Bank} (h : b.role = p.published.role) : (p.setPublished b).staging = p.staging := by
  rw [staging, setPublished_publishedIsA h]
  cases hA : p.publishedIsA <;> simp [setPublished, staging, hA]

/-- The entries of the published bank after the mark of a booking (R148). -/
def markedEntry (id : Nat) (old new : EntryStatus) (e : Entry) : Entry :=
  if e.booking.id = id ∧ e.status = old then { e with status := new } else e

theorem publishedIsA_of_sch (h : t.sch = p.sch) : t.publishedIsA = p.publishedIsA := by simp only [publishedIsA, h]

theorem published_of_sch (h : t.sch = p.sch) : t.published = p.published :=
  published_of_banks ⟨congrArg Sch.bankA h, congrArg Sch.bankB h⟩

theorem staging_of_sch (h : t.sch = p.sch) : t.staging = p.staging :=
  staging_of_banks ⟨congrArg Sch.bankA h, congrArg Sch.bankB h⟩

/-- The published bank with other entries. -/
def withEntries (p : Part) (es : List Entry) : Part := p.setPublished { p.published with entries := es }

theorem withEntries_published (p : Part) (es : List Entry) : (p.withEntries es).published = { p.published with entries := es } :=
  setPublished_published (b := { p.published with entries := es }) rfl

theorem withEntries_isA (p : Part) (es : List Entry) : (p.withEntries es).publishedIsA = p.publishedIsA :=
  setPublished_publishedIsA (b := { p.published with entries := es }) rfl

theorem withEntries_staging (p : Part) (es : List Entry) : (p.withEntries es).staging = p.staging :=
  setPublished_staging (b := { p.published with entries := es }) rfl

theorem markEntry_sch (p : Part) (id : Nat) (old new : EntryStatus) :
    (p.markEntry id old new).sch = (p.withEntries (p.published.entries.map (markedEntry id old new))).sch := by
  simp only [markEntry, noticeIf_frame]
  rfl

theorem markEntry_published (p : Part) (id : Nat) (old new : EntryStatus) :
    (p.markEntry id old new).published = { p.published with entries := p.published.entries.map (markedEntry id old new) } :=
  (published_of_sch (markEntry_sch p id old new)).trans (withEntries_published p _)

theorem markEntry_isA (p : Part) (id : Nat) (old new : EntryStatus) : (p.markEntry id old new).publishedIsA = p.publishedIsA :=
  (publishedIsA_of_sch (markEntry_sch p id old new)).trans (withEntries_isA p _)

theorem markEntry_staging (p : Part) (id : Nat) (old new : EntryStatus) : (p.markEntry id old new).staging = p.staging :=
  (staging_of_sch (markEntry_sch p id old new)).trans (withEntries_staging p _)

theorem entryKept_markedEntry {id : Nat} {old new : EntryStatus} (hold : old ≠ .missed) (hnew : new ≠ .missed)
    (hpending : new ≠ .pending) (e : Entry) : EntryKept e (markedEntry id old new e) := by
  unfold markedEntry
  split
  next h =>
    obtain ⟨-, hstatus⟩ := h
    exact ⟨rfl, ⟨fun h => absurd h hnew, fun h => absurd (hstatus.symm.trans h) hold⟩, fun h => absurd h hpending⟩
  next => exact .refl e

end Part

namespace Marked

variable {p q : Part}

theorem markEntry (h : Marked p q) {id : Nat} {old new : EntryStatus} (hold : old ≠ .missed) (hnew : new ≠ .missed)
    (hpending : new ≠ .pending) : Marked p (q.markEntry id old new) := by
  refine h.trans ⟨by simp, Part.markEntry_isA _ _ _ _, Part.markEntry_staging _ _ _ _, _, Part.markEntry_published _ _ _ _, ?_⟩
  rw [List.forall₂_map_right_iff, List.forall₂_same]
  exact fun e _ => Part.entryKept_markedEntry hold hnew hpending e

/-! ### Sessions -/

@[simp] theorem enterWindup (h : Marked p q) (r : CloseReason) : Marked p (q.enterWindup r) := h.same (by simp)

@[simp] theorem stageStep (h : Marked p q) : Marked p q.stageStep := h.same (by simp)

@[simp] theorem enterSession (h : Marked p q) (x : Session) : Marked p (q.enterSession x) := h.same (by simp)

@[simp] theorem checkIn (h : Marked p q) : Marked p q.checkIn := h.same (by simp)

@[simp] theorem putSession (h : Marked p q) (x : Option Session) : Marked p (q.putSession x) := h.same (by simp [Part.putSession])

@[simp] theorem setPendingStart (h : Marked p q) (x : Option Nat) : Marked p (q.setPendingStart x) := h.same (by simp)

@[simp] theorem wake (h : Marked p q) : Marked p q.wake := h.same (by simp)

@[simp] theorem openWalkIn (h : Marked p q) : Marked p q.openWalkIn := h.same (by simp)

@[simp] theorem dropStalePending (h : Marked p q) : Marked p q.dropStalePending := h.same (by simp)

@[simp] theorem openBooked (h : Marked p q) (b : Booking) : Marked p (q.openBooked b) := by
  have hmarked : Marked p ((q.putSession (some (q.bookedSession b))).markEntry b.id .pending .active) :=
    (h.putSession _).markEntry nofun nofun nofun
  simp only [Part.openBooked]
  split
  · exact hmarked.same (by simp)
  · exact hmarked.same (by simp)

@[simp] theorem openPending (h : Marked p q) : Marked p q.openPending := by
  unfold Part.openPending
  (repeat' split) <;> simp [h]

@[simp] theorem closeRecords (h : Marked p q) (x : Session) (r : CloseReason) : Marked p (q.closeRecords x r) := by
  have hwritten : Marked p (q.writeSummary (q.summaryOf x r)).clearCounters := h.same (by simp)
  have hstatus : Part.closedStatus r ≠ .missed ∧ Part.closedStatus r ≠ .pending := by
    unfold Part.closedStatus
    split <;> exact ⟨nofun, nofun⟩
  simp only [Part.closeRecords]
  split
  · exact hwritten.markEntry nofun hstatus.1 hstatus.2
  · exact hwritten

@[simp] theorem closeSession (h : Marked p q) (x : Session) (r : CloseReason) : Marked p (q.closeSession x r) :=
  (h.closeRecords x r).same (by simp [Part.closeSession, Part.putSession])

@[simp] theorem closeWindup (h : Marked p q) : Marked p q.closeWindup := by
  unfold Part.closeWindup
  (repeat' split) <;> simp [h]

@[simp] theorem completeWindup (h : Marked p q) : Marked p q.completeWindup := by
  unfold Part.completeWindup
  split
  · split
    · exact h.closeWindup.openPending.closeWindup
    · exact h
  · exact h

@[simp] theorem windup (h : Marked p q) (r : CloseReason) : Marked p (q.windup r) := (h.enterWindup r).completeWindup

@[simp] theorem stageTest (h : Marked p q) : Marked p q.stageTest := h.stageStep.completeWindup

@[simp] theorem checkInTest (h : Marked p q) : Marked p q.checkInTest := h.checkIn.completeWindup

@[simp] theorem release (h : Marked p q) (x : Session) : Marked p (q.release x) :=
  (h.closeSession x .released).openPending.closeWindup

@[simp] theorem releaseTest (h : Marked p q) (b : Bool) : Marked p (q.releaseTest b) := by
  simp only [Part.releaseTest]
  (repeat' split) <;> simp [h]

@[simp] theorem endTest (h : Marked p q) (b : Bool) : Marked p (q.endTest b) := (h.releaseTest b).stageTest

@[simp] theorem openingTest (h : Marked p q) : Marked p q.openingTest := by
  unfold Part.openingTest
  (repeat' split) <;> simp [h]

@[simp] theorem walkInTest (h : Marked p q) : Marked p q.walkInTest := by
  unfold Part.walkInTest
  split <;> simp [h]

@[simp] theorem repeatWalkIn (h : Marked p q) : Marked p q.repeatWalkIn := by
  unfold Part.repeatWalkIn
  split <;> simp [h]

@[simp] theorem concludeDwell (h : Marked p q) (before : Part) : Marked p (Part.concludeDwell before q) := by
  unfold Part.concludeDwell
  split
  · exact h.same rfl
  · split <;> simp [h]

@[simp] theorem conclude (h : Marked p q) (before : Part) : Marked p (Part.conclude before q) :=
  (h.concludeDwell before).same (by simp [Part.conclude])

@[simp] theorem vacancyTest (h : Marked p q) : Marked p q.vacancyTest := by
  unfold Part.vacancyTest
  (repeat' split) <;> simp [h]

@[simp] theorem countVacancy (h : Marked p q) : Marked p q.countVacancy := by
  unfold Part.countVacancy
  split
  · split
    · exact vacancyTest (h.same rfl)
    · exact h
  · exact h

@[simp] theorem sessionSecond (h : Marked p q) : Marked p q.sessionSecond := by
  simp only [Part.sessionSecond, Part.countDwell]
  have hcounted : Marked p (q.countVacancy.withSsu { q.countVacancy.ssu with dwell := q.countVacancy.ssu.dwell + 1 }) :=
    h.countVacancy.same rfl
  split
  · split
    · exact hcounted.walkInTest
    · exact hcounted
  · exact h.countVacancy

@[simp] theorem countAwait (h : Marked p q) (before : Part) : Marked p (Part.countAwait before q) := h.same (by simp)

@[simp] theorem sessionMinute (h : Marked p q) (before : Part) : Marked p (Part.sessionMinute before q) :=
  ((h.dropStalePending.countAwait before).endTest true).openingTest.repeatWalkIn

@[simp] theorem sessionJump (h : Marked p q) : Marked p q.sessionJump :=
  (h.dropStalePending.endTest false).openingTest.repeatWalkIn

@[simp] theorem occupiedChanged (h : Marked p q) (old : Nat) : Marked p (q.occupiedChanged old) := by
  unfold Part.occupiedChanged
  split
  · exact checkInTest (h.same rfl)
  · exact h

@[simp] theorem enterActive (h : Marked p q) : Marked p q.enterActive :=
  (openPending (h.same (by simp))).closeWindup.repeatWalkIn

@[simp] theorem endSettling (h : Marked p q) : Marked p q.endSettling := enterActive (h.same rfl)

@[simp] theorem extendTo (h : Marked p q) (x : Session) (e : Nat) : Marked p (q.extendTo x e) :=
  stageTest (releaseTest (h.same (by simp)) true)

/-! ### Seats and the second event -/

@[simp] theorem clearQuiet (h : Marked p q) : Marked p q.clearQuiet := h.same rfl

@[simp] theorem updateCount (h : Marked p q) : Marked p q.updateCount := by
  have hcounted : Marked p (q.withSmn { q.smn with occupied := q.occupiedSeats }) := h.same rfl
  simp only [Part.updateCount]
  split
  · exact hcounted
  · split
    · exact (hcounted.clearQuiet.occupiedChanged _).concludeDwell _
    · exact (hcounted.occupiedChanged _).concludeDwell _

@[simp] theorem setSeat (h : Marked p q) (i : SeatId) (x : Seat) : Marked p (q.setSeat i x) := h.same rfl

@[simp] theorem notice (h : Marked p q) (c : Category) : Marked p (q.notice c) := h.same (by simp)

@[simp] theorem noticeIf (h : Marked p q) (b : Bool) (c : Category) : Marked p (q.noticeIf b c) := h.same (by simp)

@[simp] theorem setSession (h : Marked p q) (x : Option Session) : Marked p (q.setSession x) := h.same rfl

@[simp] theorem seatVacant (h : Marked p q) (i : SeatId) : Marked p (q.seatVacant i) := h.same (by simp)

@[simp] theorem changePresence (h : Marked p q) (i : SeatId) (y : Presence) (n : Nat) : Marked p (q.changePresence i y n) := by
  simp only [Part.changePresence]
  split
  · exact h.setSeat i _
  · split
    · exact (((h.setSeat i _).notice _).seatVacant i).updateCount
    · exact ((h.setSeat i _).notice _).updateCount

@[simp] theorem absenceExpiry (h : Marked p q) (i : SeatId) : Marked p (q.absenceExpiry i) := by
  unfold Part.absenceExpiry
  split <;> simp [h]

@[simp] theorem seatSecond (h : Marked p q) : Marked p q.seatSecond := by
  refine foldl (fun s i hs => ?_) _ (h.same (by simp))
  unfold Part.countAbsence
  split
  · exact (hs.setSeat i _).absenceExpiry i
  · exact hs

@[simp] theorem floorSecond (h : Marked p q) : Marked p q.floorSecond := h.same (by simp)

theorem standbyTest (h : Marked p q) : Marked p q.standbyTest := by
  unfold Part.standbyTest
  split
  · exact h.sameBut (Part.sameBut_standbyEntry q) (by simp) (by simp)
  · exact h

@[simp] theorem powerSecond (h : Marked p q) (minute : Bool) : Marked p (q.powerSecond minute) := by
  have hquiet : Marked p q.countQuiet := h.same (by simp)
  have hwoken : Marked p (if minute then q.countQuiet.preWake else q.countQuiet) := by
    split
    · exact hquiet.same (by simp)
    · exact hquiet
  exact hwoken.standbyTest

@[simp] theorem secondFor (h : Marked p q) (before : Part) (minute : Bool) (u : ClockUser) :
    Marked p (Part.secondFor before minute q u) := by
  cases u with
  | flc => exact h.floorSecond
  | smn => exact h.seatSecond
  | ssu =>
    simp only [Part.secondFor]
    split
    · exact sessionMinute h.sessionSecond before
    · exact h.sessionSecond
  | pwu => exact h.powerSecond minute

/-! ### The swap after its exchange of the banks -/

@[simp] theorem relink (h : Marked p q) : Marked p q.relink := by
  simp only [Part.relink]
  split
  · split
    · split
      · exact ((h.markEntry (by simp) (by simp) (by simp)).setSession _).noticeIf _ _
      · exact (h.setSession _).noticeIf _ _
    · exact h
  · exact h

@[simp] theorem relinkTests (h : Marked p q) : Marked p q.relinkTests := by
  unfold Part.relinkTests
  (repeat' split) <;> simp [h]

end Marked

end Sys2Proof.Machine
end

section
/-! The requests that load a booking bank, and the fields of a booking entry as taken (R147, R151, R152). -/

namespace Sys2Proof.Machine

namespace Part

variable {p : Part}

/-! ### The staging bank -/

theorem staging_role_of (h : p.sch.bankA.role ≠ p.sch.bankB.role) : p.staging.role = .staging := by
  cases hA : p.sch.bankA.role <;> cases hB : p.sch.bankB.role <;> simp_all [staging, publishedIsA]

/-- The owner of SCH writes a staging bank and raises notices at most. -/
structure Restaged (p t : Part) (b : Bank) : Prop where
  sch : t.sch = (p.setStaging b).sch
  line : t.line = p.line
  ssu : t.ssu = p.ssu
  rtu : t.rtu = p.rtu
  same : SameBut [.banks, .notices] p t

theorem restaged_noticeIf (p : Part) (b : Bank) (c : Bool) : Restaged p ((p.setStaging b).noticeIf c .schedule) b := by
  refine ⟨by simp, by simp, by simp, by simp, fun x hx => ?_⟩
  cases x <;> simp_all [Piece.Same]

theorem restaged_notice (p : Part) (b : Bank) : Restaged p ((p.setStaging b).notice .schedule) b :=
  restaged_noticeIf p b true

theorem restaged_setStaging (p : Part) (b : Bank) : Restaged p (p.setStaging b) b := restaged_noticeIf p b false

theorem setStaging_setStaging {b c : Bank} (h : b.role = .staging) : (p.setStaging b).setStaging c = p.setStaging c := by
  have hunfold (q : Part) : q.setStaging c =
    if q.publishedIsA then q.withSch { q.sch with bankB := c } else q.withSch { q.sch with bankA := c } := rfl
  rw [hunfold (p.setStaging b), setStaging_publishedIsA h]
  cases hp : p.publishedIsA <;> simp only [setStaging, hp] <;> rfl

theorem setStaging_sch_congr {q t : Part} (h : t.sch = q.sch) (b : Bank) : (t.setStaging b).sch = (q.setStaging b).sch := by
  have hA := publishedIsA_of_sch h
  cases hq : q.publishedIsA <;> simp only [setStaging, hA, hq, h] <;> rfl

theorem Restaged.staging_eq {t : Part} {b : Bank} (h : Restaged p t b) (hb : b.role = .staging) : t.staging = b :=
  (staging_of_sch h.sch).trans (setStaging_staging hb)

theorem Restaged.published_eq {t : Part} {b : Bank} (h : Restaged p t b) (hb : b.role = .staging) : t.published = p.published :=
  (published_of_sch h.sch).trans (setStaging_published hb)

/-- The check starts on the bank as it was written (R155). -/
theorem Restaged.startCheck {t : Part} {b : Bank} (h : Restaged p t b) (hb : b.role = .staging) :
    Restaged p t.startCheck { b with state := .checking } := by
  have hstarted : t.startCheck = (t.setStaging { b with state := .checking }).notice .schedule := by
    rw [Part.startCheck, h.staging_eq hb]
  have hwritten := restaged_notice t { b with state := .checking }
  rw [hstarted]
  refine ⟨?_, hwritten.line.trans h.line, hwritten.ssu.trans h.ssu, hwritten.rtu.trans h.rtu, h.same.trans hwritten.same⟩
  rw [hwritten.sch, setStaging_sch_congr h.sch, setStaging_setStaging hb]

theorem restaged_startCheck (p : Part) :
    Restaged p p.startCheck { p.staging with state := .checking } := restaged_notice p _

/-! ### BANK OPEN (R151) -/

theorem bankOpen_busy (h : p.staging.state = .checking) (day count auto : Nat) : p.bankOpen day count auto = (p, .busy) := by
  simp [bankOpen, h]

theorem bankOpen_range (h : p.staging.state ≠ .checking) {count auto : Nat} (hrange : 32 < count ∨ 1 < auto) (day : Nat) :
    p.bankOpen day count auto = (p, .range) := by
  rw [bankOpen, if_neg h]
  by_cases hcount : count ≤ 32
  · rw [if_pos hcount, yesNoOf_gt (hrange.resolve_left (by omega))]
  · rw [if_neg hcount]

/-- The staging bank as BANK OPEN leaves it (R151). -/
def openedBank (day count auto : Nat) : Bank :=
  ⟨.staging, if count = 0 ∧ auto = 1 then .checking else .filling, day, count, 0, decide (auto = 1), .none, []⟩

theorem bankOpen_done (h : p.staging.state ≠ .checking) {count auto : Nat} (hcount : count ≤ 32) (hauto : auto ≤ 1) (day : Nat) :
    Restaged p (p.bankOpen day count auto).1 (openedBank day count auto) ∧ (p.bankOpen day count auto).2 = .done := by
  have hcleared := restaged_noticeIf p ⟨.staging, .filling, day, count, 0, decide (auto = 1), .none, []⟩
    (p.staging.state ≠ .filling)
  by_cases hcheck : count = 0 ∧ auto = 1
  · obtain ⟨rfl, rfl⟩ := hcheck
    have hopen : p.bankOpen day 0 1 = (((p.setStaging ⟨.staging, .filling, day, 0, 0, true, .none, []⟩).noticeIf
        (p.staging.state ≠ .filling) .schedule).startCheck, .done) := by
      simp [bankOpen, h, yesNoOf]
    rw [hopen]
    exact ⟨hcleared.startCheck rfl, rfl⟩
  · have hopen : p.bankOpen day count auto = ((p.setStaging ⟨.staging, .filling, day, count, 0, decide (auto = 1), .none, []⟩).noticeIf
        (p.staging.state ≠ .filling) .schedule, .done) := by
      simp only [bankOpen, if_neg h, if_pos hcount, yesNoOf_le hauto]
      rw [if_neg (by simpa using hcheck)]
    rw [hopen, openedBank, if_neg hcheck]
    exact ⟨hcleared, rfl⟩

/-! ### BOOKING ENTRY (R152) -/

theorem restaged_faultBank (p : Part) (c : BankFault) :
    Restaged p (p.faultBank c) { p.staging with state := .faulty, cause := c } := restaged_notice p _

theorem bookingEntry_busy (h : p.staging.state = .checking) (l : List Byte) : p.bookingEntry l = (p, .busy) := by
  simp [bookingEntry, h]

theorem bookingEntry_state (h : p.staging.state ≠ .checking) (h' : p.staging.state ≠ .filling) (l : List Byte) :
    p.bookingEntry l = (p, .state) := by
  simp [bookingEntry, h, h']

theorem bookingEntry_over (h : p.staging.state = .filling) (hfull : p.staging.declared ≤ p.staging.received) (l : List Byte) :
    p.bookingEntry l = (p.faultBank .over, .over) := by
  simp [bookingEntry, h, hfull]

theorem bookingEntry_range (h : p.staging.state = .filling) (hroom : p.staging.received < p.staging.declared) {l : List Byte}
    (hl : p.correctBooking l = none) : p.bookingEntry l = (p.faultBank .range, .range) := by
  simp [bookingEntry, h, Nat.not_le.mpr hroom, hl]

/-- The staging bank with an entry appended (R152). -/
def appended (b : Bank) (x : Booking) : Bank :=
  { b with
    entries := b.entries ++ [⟨x, .pending⟩], received := b.received + 1
    state := if b.received + 1 = b.declared ∧ b.auto = true then .checking else .filling }

theorem bookingEntry_done (hrole : p.staging.role = .staging) (h : p.staging.state = .filling)
    (hroom : p.staging.received < p.staging.declared) {l : List Byte} {x : Booking} (hl : p.correctBooking l = some x) :
    Restaged p (p.bookingEntry l).1 (appended p.staging x) ∧ (p.bookingEntry l).2 = .done := by
  have hwritten := restaged_setStaging p { p.staging with
    entries := p.staging.entries ++ [⟨x, .pending⟩], received := p.staging.received + 1 }
  have hnot := Nat.not_le.mpr hroom
  by_cases hcheck : p.staging.received + 1 = p.staging.declared ∧ p.staging.auto = true
  · have hentry : p.bookingEntry l = ((p.setStaging { p.staging with
        entries := p.staging.entries ++ [⟨x, .pending⟩], received := p.staging.received + 1 }).startCheck, .done) := by
      simp [bookingEntry, h, hnot, hl, hcheck]
    rw [hentry, appended, if_pos hcheck]
    exact ⟨hwritten.startCheck hrole, rfl⟩
  · have hentry : p.bookingEntry l = (p.setStaging { p.staging with
        entries := p.staging.entries ++ [⟨x, .pending⟩], received := p.staging.received + 1 }, .done) := by
      simp only [bookingEntry, h, hl, if_neg hnot]
      rw [if_neg (by decide), if_neg (by simp), if_neg (by simpa using hcheck)]
    rw [hentry, appended, if_neg hcheck, ← h]
    exact ⟨hwritten, rfl⟩

end Part

/-- A row whose owner writes the staging bank. -/
theorem completes_restaged {s : State} {c : Instr} {code tag len : Byte} {payload : List Byte} {st : Status} {x : Part × Status}
    {b : Bank} (hreq : requestOf c = some (.room, ⟨code, tag, len, payload⟩)) (hport : Listening s.part .room)
    (hset : Settled s.part) (hright : Permitted .room code.toNat) (hcode : code ≠ portResetCode)
    (hserve : (s.part.taken .room ⟨code, tag, len, payload⟩).serveOwner .room ⟨code, tag, len, payload⟩ = Part.plain x)
    (hx : (s.part.taken .room ⟨code, tag, len, payload⟩).Restaged x.1 b ∧ x.2 = st) (hb : b.role = .staging) :
    Completes c s fun t =>
      Answered t .room tag st (framesOf code []) ∧ t.published = s.part.published ∧ t.staging = b ∧
        SameBut [.requests .room, .banks, .notices] s.part t := by
  obtain ⟨hx, hst⟩ := hx
  have hserve : (s.part.taken .room ⟨code, tag, len, payload⟩).serveOwner .room ⟨code, tag, len, payload⟩ = (x.1, st, []) := by
    rw [hserve, ← hst]
    rfl
  refine (completes_banks hreq hport hset (Part.checkRequest_run hreq hright hport.1.1) hcode hserve hx.line
    (hx.ssu.trans (by simp)) (hx.rtu.trans (by simp)) hx.same).mono ?_
  rintro t ⟨hans, hpublished, hstaging, hbut⟩
  exact ⟨hans, hpublished.trans (hx.published_eq hb), hstaging.trans (hx.staging_eq hb), hbut⟩

namespace Part

variable {p : Part}

/-! ### The fields of a booking entry (R147, R197) -/

theorem yesNoOf_eq_some {n : Nat} {b : Bool} : yesNoOf n = some b ↔ n ≤ 1 ∧ b = decide (n = 1) := by
  by_cases h : n ≤ 1
  · rw [yesNoOf_le h]
    simp [h, eq_comm]
  · rw [yesNoOf_gt (by omega)]
    simp [h]

theorem finOf_eq_some {m n : Nat} {i : Fin m} : finOf m n = some i ↔ i.val = n := by
  unfold finOf
  split
  · simp [Fin.ext_iff, eq_comm]
  · simp
    omega

theorem speakLimitOf_eq_some {n m : Nat} : speakLimitOf n = some m ↔ n ≤ 3600 ∧ m = if n = 0 then 0 else max 10 n := by
  unfold speakLimitOf
  split
  · simp; omega
  · split <;> simp <;> omega

theorem windowOf_eq_some {c : Bool} {n : Nat} {w : Option Nat} :
    windowOf c n = some w ↔ (c = true → n ≤ 30) ∧ w = if c then some (max 1 n) else none := by
  cases c with
  | false => simp [windowOf, eq_comm]
  | true =>
    by_cases h : 30 < n
    · simp [windowOf, h]
    · simp [windowOf, h, Nat.not_lt.mp h, eq_comm, Nat.max_comm]

theorem organiserField_eq_some {n : Nat} {o : Option SeatId} :
    p.organiserField n = some o ↔ seatNumber o = n ∧ ∀ i ∈ o, (p.seat i).installed = true := by
  by_cases hzero : n = 0
  · subst hzero
    cases o with
    | none => simp [organiserField, seatNumber]
    | some i => simp [organiserField, seatNumber]
  · rw [organiserField, if_neg hzero]
    by_cases hn : 20 < n
    · rw [seatOfNumber_none (.inr hn)]
      cases o with
      | none => simpa [seatNumber] using Ne.symm hzero
      | some i =>
        have := i.isLt
        simp only [seatNumber, reduceCtorEq, false_iff, not_and]
        omega
    · rw [seatOfNumber_eq (i := ⟨n - 1, by omega⟩) (by simp only; omega)]
      cases o with
      | none => simpa [seatNumber] using Ne.symm hzero
      | some i =>
        have hi : seatNumber (some i) = n ↔ (⟨n - 1, by omega⟩ : SeatId) = i := by
          simp only [seatNumber, Fin.ext_iff]
          omega
        rw [hi]
        by_cases hseat : (⟨n - 1, by omega⟩ : SeatId) = i
        · subst hseat
          simp
        · simp [hseat]

/-- The ranges of a booking entry's fields (R147). -/
def EntryInRange (p : Part) (e : BookingPayload) : Prop :=
  e.id ≠ 0 ∧ e.start.toNat ≤ 1439 ∧ e.stop.toNat ≤ 1440 ∧ e.start.toNat < e.stop.toNat ∧ e.checkIn.toNat ≤ 1 ∧
    (e.checkIn = 1 → e.window.toNat ≤ 30) ∧ 1 ≤ e.quorum.toNat ∧ e.quorum.toNat ≤ 20 ∧ e.mode.toNat ≤ 3 ∧
    e.speak.toNat ≤ 3600 ∧ e.enforce.toNat ≤ 1 ∧ e.screen.toNat ≤ 3 ∧ e.privacy.toNat ≤ 1 ∧ e.organiser.toNat ≤ 20 ∧
    (∀ i : SeatId, e.organiser.toNat = i.val + 1 → (p.seat i).installed = true)

/-- A booking carries the fields of an entry as they are taken (R147). -/
def EntryTaken (p : Part) (e : BookingPayload) (b : Booking) : Prop :=
  b.id = e.id.toNat ∧ b.start = e.start.toNat ∧ b.stop = e.stop.toNat ∧ b.checkIn = decide (e.checkIn = 1) ∧
    b.window = (if e.checkIn = 1 then some (max 1 e.window.toNat) else none) ∧
    b.quorum = min e.quorum.toNat p.installedCount ∧ floorModeOf e.mode.toNat = some b.floor.mode ∧
    b.floor.limit = max 1 (min 6 e.limit.toNat) ∧
    b.floor.speak = (if e.speak.toNat = 0 then 0 else max 10 e.speak.toNat) ∧
    b.floor.enforce = decide (e.enforce = 1) ∧ b.screen.val = e.screen.toNat ∧ b.privacy = decide (e.privacy = 1) ∧
    seatNumber b.organiser = e.organiser.toNat

theorem correctBooking_fields (e : BookingPayload) {b : Booking} : p.correctBooking (bookingPayloadBytes e) = some b ↔
    ¬(e.id.toNat = 0 ∨ 1439 < e.start.toNat ∨ 1440 < e.stop.toNat ∨ e.stop.toNat ≤ e.start.toNat) ∧
    ∃ checkIn, (e.checkIn.toNat ≤ 1 ∧ checkIn = decide (e.checkIn.toNat = 1)) ∧
    ∃ window, ((checkIn = true → e.window.toNat ≤ 30) ∧
      window = if checkIn = true then some (max 1 e.window.toNat) else none) ∧
    ¬(e.quorum.toNat = 0 ∨ 20 < e.quorum.toNat) ∧
    ∃ mode, floorModeOf e.mode.toNat = some mode ∧
    ∃ speak, (e.speak.toNat ≤ 3600 ∧ speak = if e.speak.toNat = 0 then 0 else max 10 e.speak.toNat) ∧
    ∃ enforce, (e.enforce.toNat ≤ 1 ∧ enforce = decide (e.enforce.toNat = 1)) ∧
    ∃ screen : Fin 4, screen.val = e.screen.toNat ∧
    ∃ privacy, (e.privacy.toNat ≤ 1 ∧ privacy = decide (e.privacy.toNat = 1)) ∧
    ∃ organiser, (seatNumber organiser = e.organiser.toNat ∧ ∀ i ∈ organiser, (p.seat i).installed = true) ∧
      some ({ id := e.id.toNat, start := e.start.toNat, stop := e.stop.toNat, checkIn, window
              quorum := min e.quorum.toNat p.installedCount, floor := ⟨mode, clamp 1 6 e.limit.toNat, speak, enforce⟩
              screen, privacy, organiser } : Booking) = some b := by
  have hbytes : bookingPayloadBytes e = [byteOf (e.id.toNat / 256), byteOf e.id.toNat, byteOf (e.start.toNat / 256),
    byteOf e.start.toNat, byteOf (e.stop.toNat / 256), byteOf e.stop.toNat, e.checkIn, e.window, e.quorum, e.mode, e.limit,
    byteOf (e.speak.toNat / 256), byteOf e.speak.toNat, e.enforce, e.screen, e.privacy, e.organiser] := rfl
  rw [hbytes]
  simp only [correctBooking, halfAt, byteAt, List.getD_cons_zero, List.getD_cons_succ, half_bytes, Option.bind_eq_bind,
    Option.bind_none, Option.ite_none_left_eq_some, Option.bind_eq_some_iff, yesNoOf_eq_some, finOf_eq_some,
    speakLimitOf_eq_some, windowOf_eq_some, organiserField_eq_some, Option.pure_def]

theorem byte_one {n : Byte} : n.toNat = 1 ↔ n = 1 := by
  rw [BitVec.toNat_eq]
  rfl

theorem half_zero {n : Half} : n.toNat = 0 ↔ n = 0 := by
  rw [BitVec.toNat_eq]
  rfl

theorem floorModeOf_le {n : Nat} {m : FloorMode} (h : floorModeOf n = some m) : n ≤ 3 := by
  by_contra hn
  simp [floorModeOf_gt (by omega : 3 < n)] at h

theorem correctBooking_taken {e : BookingPayload} {b : Booking} (h : p.correctBooking (bookingPayloadBytes e) = some b) :
    EntryInRange p e ∧ EntryTaken p e b := by
  obtain ⟨htimes, checkIn, ⟨hcheck, rfl⟩, window, ⟨hwindow, rfl⟩, hquorum, mode, hmode, speak, ⟨hspeak, rfl⟩, enforce,
    ⟨henforce, rfl⟩, screen, hscreen, privacy, ⟨hprivacy, rfl⟩, organiser, ⟨horganiser, hinstalled⟩, hb⟩ :=
    (correctBooking_fields e).mp h
  obtain rfl := Option.some.inj hb
  simp only [decide_eq_true_eq, byte_one] at hwindow
  have hseat : e.organiser.toNat ≤ 20 := by
    rw [← horganiser]
    cases organiser with
    | none => simp [seatNumber]
    | some i => exact i.isLt
  refine ⟨⟨?_, by omega, by omega, by omega, hcheck, hwindow, by omega, by omega, floorModeOf_le hmode, hspeak, henforce,
    by omega, hprivacy, hseat, fun i hi => ?_⟩, rfl, rfl, rfl, ?_, ?_, rfl, hmode, clamp_eq (by decide) _, rfl, ?_, hscreen, ?_,
    horganiser⟩
  · rw [Ne, ← half_zero]
    omega
  · refine hinstalled i ?_
    cases organiser with
    | none => simp [seatNumber] at horganiser; omega
    | some j =>
      have hij : j = i := by
        simp only [seatNumber] at horganiser
        exact Fin.ext (by omega)
      simp [hij]
  · simp only [byte_one]
  · simp only [decide_eq_true_eq, byte_one]
  · simp only [byte_one]
  · simp only [byte_one]

theorem correctBooking_inRange {e : BookingPayload} (h : EntryInRange p e) :
    (p.correctBooking (bookingPayloadBytes e)).isSome = true := by
  obtain ⟨hid, hstart, hstop, hbefore, hcheck, hwindow, hquorum, hseats, hmode, hspeak, henforce, hscreen, hprivacy, horganiser,
    hinstalled⟩ := h
  have hnumber : e.id.toNat ≠ 0 := by rwa [Ne, half_zero]
  obtain ⟨m, hm⟩ : ∃ m, floorModeOf e.mode.toNat = some m := by
    interval_cases e.mode.toNat <;> exact ⟨_, rfl⟩
  obtain ⟨o, ho⟩ : ∃ o, p.organiserField e.organiser.toNat = some o := by
    by_cases hzero : e.organiser.toNat = 0
    · exact ⟨none, by simp [organiserField, hzero]⟩
    · refine ⟨some ⟨e.organiser.toNat - 1, by omega⟩, organiserField_eq_some.mpr ⟨?_, fun i hi => ?_⟩⟩
      · simp only [seatNumber]
        omega
      · obtain rfl := Option.mem_some.mp hi
        exact hinstalled _ (by simp only; omega)
  rw [Option.isSome_iff_exists]
  refine ⟨_, (correctBooking_fields e).mpr ⟨by omega, _, ⟨hcheck, rfl⟩, _, ⟨fun hon => hwindow ?_, rfl⟩, by omega, m, hm, _,
    ⟨hspeak, rfl⟩, _, ⟨henforce, rfl⟩, ⟨e.screen.toNat, by omega⟩, rfl, _, ⟨hprivacy, rfl⟩, o, organiserField_eq_some.mp ho, rfl⟩⟩
  simpa [byte_one] using hon

end Part

theorem Part.serveOwner_bankOpen (p : Part) (tag count auto : Byte) (day : Half) :
    p.serveOwner .room ⟨0x41, tag, 4, b2 day.toNat ++ [count, auto]⟩ = plain (p.bankOpen day.toNat count.toNat auto.toNat) := by
  simp [serveOwner, serveRoom, halfAt, byteAt, b2, half_bytes]

theorem Part.serveOwner_bookingEntry (p : Part) (tag : Byte) (e : BookingPayload) :
    p.serveOwner .room ⟨0x42, tag, 17, bookingPayloadBytes e⟩ = plain (p.bookingEntry (bookingPayloadBytes e)) := rfl

/-- Settles O46: the requests write the staging bank alone, and an entry is taken exactly when its fields are in range. -/
theorem bankOpenAndEntriesFill : Obligations.BankOpenAndEntriesFill := by
  unfold Obligations.BankOpenAndEntriesFill
  refine ⟨fun tag count auto day s hport hset hroles => ⟨fun hbusy => ?_, fun hstate hrange => ?_, fun hstate hcount hauto => ?_⟩,
    fun tag e s hport hset hroles => ⟨⟨fun hbusy => ?_, fun hstate hfill => ?_⟩, fun hfill => ⟨fun hfull => ?_, fun hroom => ⟨fun hnone => ?_,
      fun b hb => ?_⟩⟩⟩, fun e p => ⟨⟨fun hsome => ?_, Part.correctBooking_inRange⟩, fun b hb => ?_⟩⟩
  · exact completes_kept (c := .bankOpen .room tag day count auto) (st := .busy) (l := []) rfl hport hset (by decide) (by decide)
      ((Part.serveOwner_bankOpen _ tag count auto day).trans (congrArg Part.plain (Part.bankOpen_busy (by simpa using hbusy) _ _ _)))
  · exact completes_kept (c := .bankOpen .room tag day count auto) (st := .range) (l := []) rfl hport hset (by decide) (by decide)
      ((Part.serveOwner_bankOpen _ tag count auto day).trans
        (congrArg Part.plain (Part.bankOpen_range (by simpa using hstate) hrange _)))
  · refine (completes_restaged (c := .bankOpen .room tag day count auto) rfl hport hset (by decide) (by decide)
      (Part.serveOwner_bankOpen _ tag count auto day) (Part.bankOpen_done (by simpa using hstate) hcount hauto _) rfl).mono ?_
    rintro t ⟨hans, hpublished, hstaging, hbut⟩
    refine ⟨hans, hpublished, hstaging.trans ?_, hbut⟩
    have hzero : count.toNat = 0 ↔ count = 0 := by
      rw [BitVec.toNat_eq]
      rfl
    simp only [Part.openedBank, hzero, Part.byte_one]
  · exact completes_kept (c := .bookingEntry .room tag e) (st := .busy) (l := []) rfl hport hset (by decide) (by decide)
      ((Part.serveOwner_bookingEntry _ tag e).trans (congrArg Part.plain (Part.bookingEntry_busy (by simpa using hbusy) _)))
  · exact completes_kept (c := .bookingEntry .room tag e) (st := .state) (l := []) rfl hport hset (by decide) (by decide)
      ((Part.serveOwner_bookingEntry _ tag e).trans
        (congrArg Part.plain (Part.bookingEntry_state (by simpa using hstate) (by simpa using hfill) _)))
  · refine (completes_restaged (c := .bookingEntry .room tag e) rfl hport hset (by decide) (by decide)
      ((Part.serveOwner_bookingEntry _ tag e).trans (congrArg Part.plain (Part.bookingEntry_over (by simpa using hfill) (by simpa using hfull) _)))
      ⟨Part.restaged_faultBank _ _, rfl⟩ (Part.staging_role_of hroles)).mono ?_
    rintro t ⟨hans, -, hstaging, hbut⟩
    exact ⟨hans, hstaging, hbut⟩
  · refine (completes_restaged (c := .bookingEntry .room tag e) rfl hport hset (by decide) (by decide)
      ((Part.serveOwner_bookingEntry _ tag e).trans (congrArg Part.plain
        (Part.bookingEntry_range (by simpa using hfill) (by simpa using hroom) hnone)))
      ⟨Part.restaged_faultBank _ _, rfl⟩ (Part.staging_role_of hroles)).mono ?_
    rintro t ⟨hans, -, hstaging, hbut⟩
    exact ⟨hans, hstaging, hbut⟩
  · refine (completes_restaged (c := .bookingEntry .room tag e) rfl hport hset (by decide) (by decide)
      (Part.serveOwner_bookingEntry _ tag e) (Part.bookingEntry_done (p := s.part.taken .room ⟨0x42, tag, 17, bookingPayloadBytes e⟩)
        (Part.staging_role_of hroles) hfill hroom (x := b) hb) (Part.staging_role_of hroles)).mono ?_
    rintro t ⟨hans, hpublished, hstaging, hbut⟩
    rw [hstaging]
    exact ⟨hans, hpublished, rfl, rfl, rfl, hbut⟩
  · obtain ⟨b, hb⟩ := Option.isSome_iff_exists.mp hsome
    exact (Part.correctBooking_taken hb).1
  · exact (Part.correctBooking_taken hb).2

end Sys2Proof.Machine
end

section
/-! The swap, the check of a bank, and what a minute event makes of the banks (R144, R145, R153, R155, R156). -/

namespace Sys2Proof.Machine

namespace Marked

variable {p t : Part}

theorem published_state (h : Marked p t) : t.published.state = p.published.state := by
  obtain ⟨es, hes, -⟩ := h.published
  rw [hes]

theorem published_day (h : Marked p t) : t.published.day = p.published.day := by
  obtain ⟨es, hes, -⟩ := h.published
  rw [hes]

/-- The entries keep their bookings, in their order (R148). -/
theorem bookings (h : Marked p t) : t.published.entries.map (fun e => e.booking) = p.published.entries.map (fun e => e.booking) := by
  obtain ⟨es, hes, hkept⟩ := h.published
  rw [hes]
  have hmap : ∀ {l m : List Entry}, List.Forall₂ EntryKept l m → m.map (fun e => e.booking) = l.map (fun e => e.booking) := by
    intro l m hlm
    induction hlm with
    | nil => rfl
    | cons hab _ ih => rw [List.map_cons, List.map_cons, hab.1, ih]
  exact hmap hkept

/-- An entry of a part stands for one of the part before it. -/
theorem entry (h : Marked p t) {e : Entry} (he : e ∈ t.published.entries) : ∃ a ∈ p.published.entries, EntryKept a e := by
  obtain ⟨es, hes, hkept⟩ := h.published
  rw [hes] at he
  obtain ⟨n, hn, rfl⟩ := List.mem_iff_getElem.mp he
  have hlen : n < p.published.entries.length := by
    rw [hkept.length_eq]
    exact hn
  exact ⟨p.published.entries[n], List.getElem_mem hlen, hkept.get hlen hn⟩

theorem replied {q : Part} (h : Marked p q) (a : Port) (x : Response) : Marked p (q.replied a x) :=
  h.sameBut (Part.sameBut_replied q a x) (by simp) (by simp)

theorem now (h : Marked p t) : t.now = p.now := by simp only [Part.now, h.clock]

end Marked

namespace Part

variable {p t : Part}

/-- The ends of a bank's entries are read from the clock. -/
theorem endReached_now (p : Part) (b : Bank) (e : Entry) : p.endReached b e = decide (b.day * 1440 + e.booking.stop ≤ p.now) := rfl

/-- No entry of the published bank whose end has come is left without its mark (R144). -/
def EndsMarked (p : Part) : Prop := ∀ e ∈ p.published.entries, p.endReached p.published e = true → e.status = .missed

theorem EndsMarked.of_marked (h : EndsMarked p) (ht : Marked p t) : EndsMarked t := by
  intro e he hend
  obtain ⟨a, ha, hbooking, hmissed, -⟩ := ht.entry he
  refine hmissed.mpr (h a ha ?_)
  rw [endReached_now, ht.published_day, ht.now, hbooking] at hend
  rwa [endReached_now]

/-! ### The marks of a minute event (R144) -/

/-- An entry after the marks of a minute event. -/
def missedEntry (p : Part) (e : Entry) : Entry :=
  if e.status = .pending ∧ p.endReached p.published e then { e with status := .missed } else e

theorem markMissed_sch (h : p.published.state = .published) :
    p.markMissed.sch = (p.withEntries (p.published.entries.map p.missedEntry)).sch := by
  simp only [markMissed, if_pos h, noticeIf_frame]
  rfl

theorem markMissed_published (h : p.published.state = .published) :
    p.markMissed.published = { p.published with entries := p.published.entries.map p.missedEntry } :=
  (published_of_sch (markMissed_sch h)).trans (withEntries_published p _)

theorem markMissed_unpublished (h : p.published.state ≠ .published) : p.markMissed = p := by simp [markMissed, h]

theorem markMissed_isA (p : Part) : p.markMissed.publishedIsA = p.publishedIsA := by
  by_cases h : p.published.state = .published
  · exact (publishedIsA_of_sch (markMissed_sch h)).trans (withEntries_isA p _)
  · rw [markMissed_unpublished h]

theorem markMissed_staging (p : Part) : p.markMissed.staging = p.staging := by
  by_cases h : p.published.state = .published
  · exact (staging_of_sch (markMissed_sch h)).trans (withEntries_staging p _)
  · rw [markMissed_unpublished h]

theorem markMissed_day (p : Part) : p.markMissed.published.day = p.published.day := by
  by_cases h : p.published.state = .published
  · rw [markMissed_published h]
  · rw [markMissed_unpublished h]

theorem markMissed_bookings (p : Part) :
    p.markMissed.published.entries.map (fun e => e.booking) = p.published.entries.map (fun e => e.booking) := by
  by_cases h : p.published.state = .published
  · rw [markMissed_published h, List.map_map]
    refine List.map_congr_left fun e _ => ?_
    simp only [Function.comp, missedEntry]
    split <;> rfl
  · rw [markMissed_unpublished h]

/-- With every entry PENDING the marks leave no ended entry without its mark. -/
theorem markMissed_ends (h : p.published.state = .published) (hpending : ∀ e ∈ p.published.entries, e.status = .pending) :
    EndsMarked p.markMissed := by
  intro e he hend
  have hclock : p.markMissed.now = p.now := by simp [now]
  rw [endReached_now, markMissed_day, hclock] at hend
  rw [markMissed_published h] at he
  obtain ⟨a, ha, rfl⟩ := List.mem_map.mp he
  have hbooking : (p.missedEntry a).booking = a.booking := by
    unfold missedEntry
    split <;> rfl
  rw [hbooking, ← endReached_now] at hend
  rw [missedEntry, if_pos ⟨hpending a ha, hend⟩]

/-! ### The swap (R156) -/

/-- The staging bank as it takes the published role. -/
def freshBank (b : Bank) : Bank := { b with role := .published, state := .published }

theorem exchangeBanks_isA (p : Part) : p.exchangeBanks.publishedIsA = !p.publishedIsA := by
  cases hp : p.publishedIsA <;> simp only [exchangeBanks, hp] <;> rfl

theorem exchangeBanks_published (p : Part) : p.exchangeBanks.published = freshBank p.staging := by
  rw [published, exchangeBanks_isA]
  cases hp : p.publishedIsA <;> simp only [exchangeBanks, hp] <;> rfl

theorem exchangeBanks_staging (p : Part) : p.exchangeBanks.staging = emptied p.published := by
  rw [staging, exchangeBanks_isA]
  cases hp : p.publishedIsA <;> simp only [exchangeBanks, hp] <;> rfl

/-- The part once the swap has exchanged the banks and marked the ended entries. -/
def swapMarked (p : Part) : Part := p.exchangeBanks.relink.markMissed

theorem marked_swap (p : Part) : Marked p.swapMarked p.swap :=
  ((Marked.refl p.swapMarked).dropStalePending.notice .schedule).relinkTests.openingTest.repeatWalkIn

/-- What the exchange and its marks make of the banks (R156). -/
theorem swapMarked_banks (p : Part) : p.swapMarked.publishedIsA = (!p.publishedIsA) ∧ p.swapMarked.staging = emptied p.published ∧
    p.swapMarked.published.state = .published ∧ p.swapMarked.published.day = p.staging.day ∧
    p.swapMarked.published.entries.map (fun e => e.booking) = p.staging.entries.map (fun e => e.booking) := by
  have hrelink := (Marked.refl p.exchangeBanks).relink
  have hstate : p.exchangeBanks.relink.published.state = .published := by
    rw [hrelink.published_state, exchangeBanks_published]
    rfl
  refine ⟨?_, ?_, ?_, ?_, ?_⟩
  · rw [swapMarked, markMissed_isA, hrelink.isA, exchangeBanks_isA]
  · rw [swapMarked, markMissed_staging, hrelink.staging, exchangeBanks_staging]
  · rw [swapMarked, markMissed_published hstate]
    exact hstate
  · rw [swapMarked, markMissed_day, hrelink.published_day, exchangeBanks_published]
    rfl
  · rw [swapMarked, markMissed_bookings, hrelink.bookings, exchangeBanks_published]
    rfl

/-- With no session the swap leaves no ended entry of a bank of PENDING entries without its mark (R144, R156). -/
theorem swapMarked_ends (hsession : p.ssu.session = none) (hpending : ∀ e ∈ p.staging.entries, e.status = .pending) :
    EndsMarked p.swapMarked := by
  have hrelink : p.exchangeBanks.relink = p.exchangeBanks := by
    have hnone : p.exchangeBanks.ssu.session = none := by simpa using hsession
    simp only [relink, hnone]
  rw [swapMarked, hrelink]
  refine markMissed_ends ?_ fun e he => hpending e ?_
  · rw [exchangeBanks_published]
    rfl
  · rw [exchangeBanks_published] at he
    exact he

/-- A part in which the banks of another have been swapped (R156). -/
structure SwappedFrom (p t : Part) : Prop where
  isA : t.publishedIsA = !p.publishedIsA
  state : t.published.state = .published
  day : t.published.day = p.staging.day
  bookings : t.published.entries.map (fun e => e.booking) = p.staging.entries.map (fun e => e.booking)
  staging : t.staging = emptied p.published
  clock : t.sch.clock = p.sch.clock
  ends : p.ssu.session = none → (∀ e ∈ p.staging.entries, e.status = .pending) → EndsMarked t

theorem swappedFrom_of_marked (h : Marked p.swap t) : SwappedFrom p t := by
  have ht := (marked_swap p).trans h
  obtain ⟨hisA, hstaging, hstate, hday, hbookings⟩ := swapMarked_banks p
  exact ⟨ht.isA.trans hisA, ht.published_state.trans hstate, ht.published_day.trans hday, ht.bookings.trans hbookings,
    ht.staging.trans hstaging, ht.clock.trans (by simp [swapMarked]), fun hsession hpending => (swapMarked_ends hsession hpending).of_marked ht⟩

theorem swappedFrom_row (p before : Part) (x : Response) : SwappedFrom p (conclude before (p.swap.replied .room x)) :=
  swappedFrom_of_marked (((Marked.refl p.swap).replied .room x).conclude before)

/-- The swap raises SCHEDULE (R156). -/
theorem swap_flag (p : Part) (q : Port) : (p.swap.notices q).1 &&& 64 ≠ 0 := by
  have hraised : ((p.swapMarked.swapPending.notice .schedule).notices q).1 &&& 64 ≠ 0 := by
    rw [notice_notices]
    exact mark_raised _ (by decide)
  have hgrows : NoticesGrow (p.swapMarked.swapPending.notice .schedule).notices p.swap.notices :=
    repeatWalkIn_grows (openingTest_grows (relinkTests_grows (.refl _)))
  exact hgrows.flag hraised

/-! ### BANK PUBLISH (R153) -/

theorem bankPublish_busy (h : p.staging.state = .checking) : p.bankPublish = (p, .busy) := by simp [bankPublish, h]

theorem bankPublish_short (h : p.staging.state = .filling) (hmissing : p.staging.received < p.staging.declared) :
    p.bankPublish = (p, .short) := by simp [bankPublish, h, hmissing]

theorem bankPublish_checks (h : p.staging.state = .filling) (hall : p.staging.declared ≤ p.staging.received) :
    p.bankPublish = (p.startCheck, .done) := by simp [bankPublish, h, Nat.not_lt.mpr hall]

theorem bankPublish_waits (h : p.staging.state = .ready) (hday : p.sch.clock.valid = false ∨ p.sch.clock.day < p.staging.day) :
    p.bankPublish = (p, .state) := by
  simp only [bankPublish, h]
  rw [if_neg]
  rintro ⟨hvalid, hle⟩
  obtain hinvalid | hlt := hday
  · simp [hinvalid] at hvalid
  · omega

theorem bankPublish_swaps (h : p.staging.state = .ready) (hvalid : p.sch.clock.valid = true) (hday : p.staging.day ≤ p.sch.clock.day) :
    p.bankPublish = (p.swap, .done) := by simp [bankPublish, h, hvalid, hday]

theorem serveOwner_bankPublish (p : Part) (tag : Byte) : p.serveOwner .room ⟨0x43, tag, 0, []⟩ = plain p.bankPublish := rfl

end Part

/-- Settles O47. -/
theorem bankPublishChecksOrSwaps : Obligations.BankPublishChecksOrSwaps := by
  unfold Obligations.BankPublishChecksOrSwaps
  have hserve (p : Part) (tag : Byte) {x : Part × Status} (h : p.bankPublish = x) :
      p.serveOwner .room ⟨0x43, tag, 0, []⟩ = Part.plain x := (Part.serveOwner_bankPublish p tag).trans (congrArg Part.plain h)
  refine fun tag s hport hset hroles => ⟨fun hbusy => ?_, fun hfill => ⟨fun hmissing => ?_, fun hall => ?_⟩,
    fun hready => ⟨fun hday => ?_, fun hvalid hday => ?_⟩⟩
  · exact completes_kept (c := .bankPublish .room tag) (st := .busy) (l := []) rfl hport hset (by decide) (by decide)
      (hserve _ tag (Part.bankPublish_busy (by simpa using hbusy)))
  · exact completes_kept (c := .bankPublish .room tag) (st := .short) (l := []) rfl hport hset (by decide) (by decide)
      (hserve _ tag (Part.bankPublish_short (by simpa using hfill) (by simpa using hmissing)))
  · refine (completes_restaged (c := .bankPublish .room tag) rfl hport hset (by decide) (by decide)
      (hserve _ tag (Part.bankPublish_checks (by simpa using hfill) (by simpa using hall))) ⟨Part.restaged_startCheck _, rfl⟩
      (Part.staging_role_of hroles)).mono ?_
    rintro t ⟨hans, hpublished, hstaging, hbut⟩
    exact ⟨hans, hstaging, hpublished, hbut⟩
  · exact completes_kept (c := .bankPublish .room tag) (st := .state) (l := []) rfl hport hset (by decide) (by decide)
      (hserve _ tag (Part.bankPublish_waits (by simpa using hready) (by simpa using hday)))
  · have hreq : requestOf (.bankPublish .room tag) = some (.room, ⟨0x43, tag, 0, []⟩) := rfl
    have hline : (s.part.taken .room ⟨0x43, tag, 0, []⟩).swap.line = (s.part.taken .room ⟨0x43, tag, 0, []⟩).line := by simp
    refine completes_served hreq (Part.idle_listening hport)
      (Part.checkRequest_run hreq (by decide : Permitted .room (0x43 : Byte).toNat) hport.1.1) (by simp [portResetCode])
      (hserve _ tag (Part.bankPublish_swaps (p := s.part.taken .room ⟨0x43, tag, 0, []⟩) hready hvalid hday)) (congrFun hline .room) ?_
    rintro t ht hans
    have hswap : Part.SwappedFrom (s.part.taken .room ⟨0x43, tag, 0, []⟩) t := by
      dsimp only at ht
      rw [ht]
      exact Part.swappedFrom_row (s.part.taken .room ⟨0x43, tag, 0, []⟩) _ _
    have hemptied : t.staging = Part.emptied s.part.published := hswap.staging
    rw [hemptied]
    exact ⟨hans, hswap.state, hswap.day, hswap.bookings, rfl, rfl, hswap.isA⟩

end Sys2Proof.Machine
end

section
/-! The check of a bank: its order, its overlaps, and how it ends (R155, R156). -/

namespace Sys2Proof.Machine

namespace Part

/-! ### The order of the check (R155) -/

/-- Entries in the order of their starts. -/
abbrev InOrder (l : List Entry) : Prop := l.Pairwise fun a b => a.booking.start ≤ b.booking.start

theorem insertByStart_perm (e : Entry) (l : List Entry) : (insertByStart e l).Perm (e :: l) := by
  induction l with
  | nil => exact .refl _
  | cons x xs ih =>
    unfold insertByStart
    split
    · exact .refl _
    · exact (ih.cons x).trans (.swap e x xs)

theorem insertByStart_inOrder {l : List Entry} (h : InOrder l) (e : Entry) : InOrder (insertByStart e l) := by
  induction l with
  | nil => exact List.pairwise_singleton _ _
  | cons x xs ih =>
    obtain ⟨hx, hxs⟩ := List.pairwise_cons.mp h
    unfold insertByStart
    split
    next hlt =>
      refine List.pairwise_cons.mpr ⟨fun y hy => ?_, h⟩
      obtain rfl | hy := List.mem_cons.mp hy
      · exact hlt.le
      · exact hlt.le.trans (hx y hy)
    next hge =>
      refine List.pairwise_cons.mpr ⟨fun y hy => ?_, ih hxs⟩
      obtain rfl | hy := List.mem_cons.mp ((insertByStart_perm e xs).mem_iff.mp hy)
      · omega
      · exact hx y hy

/-- An entry goes behind the entries of its own start. -/
theorem insertByStart_filter {l : List Entry} (h : InOrder l) (e : Entry) (n : Nat) :
    (insertByStart e l).filter (fun x => x.booking.start = n) =
      l.filter (fun x => x.booking.start = n) ++ [e].filter (fun x => x.booking.start = n) := by
  induction l with
  | nil => rfl
  | cons x xs ih =>
    obtain ⟨hx, hxs⟩ := List.pairwise_cons.mp h
    unfold insertByStart
    split
    next hlt =>
      by_cases hn : e.booking.start = n
      · have hnone : (x :: xs).filter (fun y => y.booking.start = n) = [] := by
          rw [List.filter_eq_nil_iff]
          intro y hy
          obtain rfl | hy := List.mem_cons.mp hy
          · simp only [decide_eq_true_eq]
            omega
          · have := hx y hy
            simp only [decide_eq_true_eq]
            omega
        rw [hnone, List.filter_cons, if_pos (by simpa using hn), hnone]
        simp [hn]
      · simp [hn]
    next hge => rw [List.filter_cons, List.filter_cons, ih hxs]; split <;> rfl

theorem sortEntries_foldl {acc : List Entry} (h : InOrder acc) (l : List Entry) :
    (l.foldl (fun acc e => insertByStart e acc) acc).Perm (acc ++ l) ∧
      InOrder (l.foldl (fun acc e => insertByStart e acc) acc) ∧
      ∀ n : Nat, (l.foldl (fun acc e => insertByStart e acc) acc).filter (fun e => e.booking.start = n) =
        acc.filter (fun e => e.booking.start = n) ++ l.filter (fun e => e.booking.start = n) := by
  induction l generalizing acc with
  | nil => simp [h]
  | cons e l ih =>
    obtain ⟨hperm, horder, hfilter⟩ := ih (insertByStart_inOrder h e)
    refine ⟨?_, horder, fun n => ?_⟩
    · exact hperm.trans (((insertByStart_perm e acc).append_right l).trans List.perm_middle.symm)
    · rw [List.foldl_cons, hfilter, insertByStart_filter h, List.append_assoc, ← List.filter_append, List.singleton_append]

theorem sortEntries_spec (l : List Entry) :
    (sortEntries l).Perm l ∧ InOrder (sortEntries l) ∧
      ∀ n : Nat, (sortEntries l).filter (fun e => e.booking.start = n) = l.filter (fun e => e.booking.start = n) :=
  sortEntries_foldl .nil l

/-! ### Overlaps (R155) -/

theorem neighboursOverlap_false {l : List Entry} : neighboursOverlap l = false ↔
    ∀ y ∈ l.zip (l.drop 1), y.1.booking.start ≠ y.2.booking.start ∧ y.1.booking.stop ≤ y.2.booking.start := by
  induction l with
  | nil => simp [neighboursOverlap]
  | cons x l ih =>
    cases l with
    | nil => simp [neighboursOverlap]
    | cons y rest =>
      simp only [neighboursOverlap, Bool.or_eq_false_iff, ih, decide_eq_false_iff_not, not_lt]
      simp

theorem sameIdTwice_false {l : List Entry} : sameIdTwice l = false ↔ l.Pairwise fun a b => a.booking.id ≠ b.booking.id := by
  induction l with
  | nil => simp [sameIdTwice]
  | cons x l ih =>
    simp only [sameIdTwice, Bool.or_eq_false_iff, ih, List.pairwise_cons, List.any_eq_false, decide_eq_true_eq]
    exact and_congr_left fun _ => forall₂_congr fun y _ => ne_comm

/-- Entries in order have distinct starts when their neighbours have. -/
theorem starts_distinct {l : List Entry} (h : InOrder l) :
    l.Pairwise (fun a b => a.booking.start ≠ b.booking.start) ↔
      ∀ y ∈ l.zip (l.drop 1), y.1.booking.start ≠ y.2.booking.start := by
  induction l with
  | nil => simp
  | cons x l ih =>
    obtain ⟨hx, hl⟩ := List.pairwise_cons.mp h
    rw [List.pairwise_cons, ih hl]
    cases l with
    | nil => simp
    | cons y rest =>
      obtain ⟨hy, -⟩ := List.pairwise_cons.mp hl
      have hxy := hx y (by simp)
      have hzip : (x :: y :: rest).zip ((x :: y :: rest).drop 1) = (x, y) :: (y :: rest).zip ((y :: rest).drop 1) := rfl
      have hfirst : (∀ z ∈ y :: rest, x.booking.start ≠ z.booking.start) ↔ x.booking.start ≠ y.booking.start := by
        refine ⟨fun hall => hall y (by simp), fun hne z hz => ?_⟩
        obtain rfl | hz := List.mem_cons.mp hz
        · exact hne
        · have := hy z hz
          omega
      rw [hfirst, hzip, List.forall_mem_cons]

theorem bankOverlaps_sorted (l : List Entry) : bankOverlaps (sortEntries l) = false ↔
    l.Pairwise (fun a b => a.booking.start ≠ b.booking.start ∧ a.booking.id ≠ b.booking.id) ∧
      ∀ y ∈ (sortEntries l).zip ((sortEntries l).drop 1), y.1.booking.stop ≤ y.2.booking.start := by
  obtain ⟨hperm, horder, -⟩ := sortEntries_spec l
  have hsymm : l.Pairwise (fun a b => a.booking.start ≠ b.booking.start ∧ a.booking.id ≠ b.booking.id) ↔
      (sortEntries l).Pairwise (fun a b => a.booking.start ≠ b.booking.start ∧ a.booking.id ≠ b.booking.id) :=
    (hperm.pairwise_iff fun h => ⟨h.1.symm, h.2.symm⟩).symm
  rw [bankOverlaps, Bool.or_eq_false_iff, neighboursOverlap_false, sameIdTwice_false, hsymm, List.pairwise_and_iff,
    starts_distinct horder]
  constructor
  · rintro ⟨hneighbours, hids⟩
    exact ⟨⟨fun y hy => (hneighbours y hy).1, hids⟩, fun y hy => (hneighbours y hy).2⟩
  · rintro ⟨⟨hstarts, hids⟩, hends⟩
    exact ⟨fun y hy => ⟨hstarts y hy, hends y hy⟩, hids⟩

variable {p : Part}

/-! ### The end of the check -/

/-- The staging bank as the check orders it, and as it ends FAULTY or READY. -/
def orderedBank (b : Bank) : Bank := { b with entries := sortEntries b.entries }

def overlappingBank (b : Bank) : Bank := { b with entries := sortEntries b.entries, state := .faulty, cause := .overlap }

def readyBank (b : Bank) : Bank := { b with entries := sortEntries b.entries, state := .ready }

theorem checkCompletion_overlaps (hrole : p.staging.role = .staging) (h : p.staging.state = .checking)
    (hover : bankOverlaps (sortEntries p.staging.entries) = true) :
    p.checkCompletion = (p.setStaging (overlappingBank p.staging)).noticeCause .schedule .overlap := by
  unfold checkCompletion
  rw [if_pos h, if_pos hover]
  exact congrArg (fun q : Part => q.noticeCause .schedule .overlap) (setStaging_setStaging (b := orderedBank p.staging) hrole)

theorem checkCompletion_ready (hrole : p.staging.role = .staging) (h : p.staging.state = .checking)
    (hover : bankOverlaps (sortEntries p.staging.entries) = false)
    (hday : p.sch.clock.valid = false ∨ p.sch.clock.day < p.staging.day) :
    p.checkCompletion = (p.setStaging (readyBank p.staging)).notice .schedule := by
  unfold checkCompletion
  rw [if_pos h, if_neg (by simp [hover]), if_pos (by simpa using hday)]
  exact congrArg (fun q : Part => q.notice .schedule) (setStaging_setStaging (b := orderedBank p.staging) hrole)

theorem checkCompletion_swaps (h : p.staging.state = .checking)
    (hover : bankOverlaps (sortEntries p.staging.entries) = false) (hvalid : p.sch.clock.valid = true)
    (hday : p.staging.day ≤ p.sch.clock.day) : p.checkCompletion = (p.setStaging (orderedBank p.staging)).swap := by
  unfold checkCompletion
  rw [if_pos h, if_neg (by simp [hover]), if_neg (by simp [hvalid, hday])]
  rfl

theorem restaged_noticeCause (p : Part) (b : Bank) : Restaged p ((p.setStaging b).noticeCause .schedule .overlap) b := by
  refine ⟨by simp, by simp, by simp, by simp, fun x hx => ?_⟩
  cases x <;> simp_all [Piece.Same]

end Part

/-- An event that writes the staging bank alone. -/
theorem Part.Restaged.conclude {p x : Part} {b : Bank} (h : p.Restaged x b) (hset : Settled p) (hb : b.role = .staging) :
    (Part.conclude p x).staging = b ∧ (Part.conclude p x).published = p.published ∧ SameBut [.banks, .notices] p (Part.conclude p x) := by
  have hend := Part.sameBut_conclude_settled (t := x) hset h.ssu (h.same .occupied (by simp)) h.rtu
  exact ⟨(hend.staging (by simp)).trans (h.staging_eq hb), (hend.published (by simp)).trans (h.published_eq hb),
    h.same.trans (hend.mono (by simp))⟩

/-- Settles O24: the check sorts the bank, and its three ends are the fault, the wait for the day and the swap. -/
theorem checkCompletes : Obligations.CheckCompletes := by
  unfold Obligations.CheckCompletes
  refine ⟨fun s hheld hset hroles hstate => ⟨fun hover => ?_, fun hover hday => ?_⟩, Part.sortEntries_spec, Part.bankOverlaps_sorted,
    fun s hheld hroles hstate hover ⟨hvalid, hday⟩ => ?_⟩
  · have hrole := Part.staging_role_of hroles
    refine completes_onEvent (f := Part.checkCompletion) rfl ?_
    rw [Part.event_unheld hheld, Part.checkCompletion_overlaps hrole hstate hover]
    obtain ⟨hstaging, hpublished, hbut⟩ := (Part.restaged_noticeCause s.part (Part.overlappingBank s.part.staging)).conclude hset hrole
    refine ⟨hstaging, hpublished, fun q => ⟨Part.conclude_flag ?_, (Part.conclude_grows (.refl _) s.part).cause ?_⟩, hbut⟩
    · rw [Part.noticeCause_notices]
      exact Part.mark_raised _ (by decide)
    · rw [Part.noticeCause_notices]
      exact Part.mark_raised _ (by decide)
  · have hrole := Part.staging_role_of hroles
    refine completes_onEvent (f := Part.checkCompletion) rfl ?_
    rw [Part.event_unheld hheld, Part.checkCompletion_ready hrole hstate hover hday]
    obtain ⟨hstaging, hpublished, hbut⟩ := (Part.restaged_notice s.part (Part.readyBank s.part.staging)).conclude hset hrole
    refine ⟨hstaging, hpublished, fun q => Part.conclude_flag ?_, hbut⟩
    rw [Part.notice_notices]
    exact Part.mark_raised _ (by decide)
  · have hrole := Part.staging_role_of hroles
    have hordered := Part.setStaging_staging (p := s.part) (b := Part.orderedBank s.part.staging) hrole
    have hpublished := Part.setStaging_published (p := s.part) (b := Part.orderedBank s.part.staging) hrole
    have hisA := Part.setStaging_publishedIsA (p := s.part) (b := Part.orderedBank s.part.staging) hrole
    refine completes_onEvent (f := Part.checkCompletion) rfl ?_
    rw [Part.event_unheld hheld, Part.checkCompletion_swaps hstate hover hvalid hday]
    have hswap := Part.swappedFrom_of_marked ((Marked.refl (s.part.setStaging (Part.orderedBank s.part.staging)).swap).conclude s.part)
    have hstaging := hswap.staging
    rw [hpublished] at hstaging
    have hday' := hswap.day
    have hbookings := hswap.bookings
    rw [hordered] at hday' hbookings
    refine ⟨hswap.isA.trans (by rw [hisA]), hswap.state, hday', hbookings, congrArg Bank.state hstaging, congrArg Bank.entries hstaging,
      (congrArg Bank.day hstaging).trans rfl, fun q => Part.conclude_flag (Part.swap_flag _ q), hswap.clock.trans (by simp), fun hpending hsession => ?_⟩
    refine hswap.ends (by simpa using hsession) fun e he => hpending e ?_
    rw [hordered] at he
    exact (Part.sortEntries_spec s.part.staging.entries).1.mem_iff.mp he

end Sys2Proof.Machine
end

section
/-! What a minute event and a midnight turnover make of the booking banks (R144, R145, R156). -/

namespace Sys2Proof.Machine

namespace Part

variable {p t : Part}

/-! ### The second event by the work of SCH (R142, R145) -/

/-- The part that the four blocks that count time take from SCH at a second event. -/
def ticked (p : Part) : Part :=
  let q := p.setClock (tick p.sch.clock)
  let r := if 59 ≤ p.sch.clock.second then q.markMissed else q
  if 59 ≤ p.sch.clock.second ∧ 1439 ≤ p.sch.clock.minute then r.midnight else r

theorem secondEvent_eq (p : Part) (first : List ClockUser) :
    p.secondEvent first = (takenOrder first [.flc, .smn, .ssu, .pwu]).foldl (secondFor p (decide (59 ≤ p.sch.clock.second))) p.ticked := by
  simp only [secondEvent, ticked, ge_iff_le, decide_eq_true_eq, Bool.and_eq_true]

theorem marked_secondEvent (p : Part) (first : List ClockUser) : Marked p.ticked (p.secondEvent first) := by
  rw [secondEvent_eq]
  exact Marked.foldl (fun _ u h => h.secondFor p _ u) _ (.refl _)

theorem ticked_minute (hsecond : 59 ≤ p.sch.clock.second) (hstaging : p.staging.state ≠ .ready) :
    Marked (p.setClock (tick p.sch.clock)).markMissed p.ticked := by
  unfold ticked
  simp only [hsecond, if_true]
  split
  · have hwaits : (p.setClock (tick p.sch.clock)).markMissed.staging.state ≠ .ready := by
      rw [markMissed_staging]
      exact hstaging
    simp only [midnight, hwaits, false_and, if_false]
    exact (Marked.refl _).notice .schedule
  · exact .refl _

/-- The midnight turnover without a bank for the new day (R145). -/
theorem ticked_midnight (hsecond : 59 ≤ p.sch.clock.second) (hminute : 1439 ≤ p.sch.clock.minute) :
    p.ticked = (p.setClock (tick p.sch.clock)).markMissed.midnight := by
  simp only [ticked, hsecond, hminute, and_self, if_true]

theorem midnight_flag (p : Part) (q : Port) : (p.midnight.notices q).1 &&& 64 ≠ 0 := by
  rw [midnight, notice_notices]
  exact mark_raised _ (by decide)

theorem secondEvent_flag {q : Port} {m : BitVec 9} (h : (p.ticked.notices q).1 &&& m ≠ 0) (first : List ClockUser) :
    ((p.secondEvent first).notices q).1 &&& m ≠ 0 := by
  rw [secondEvent_eq]
  have hgrows := foldl_grows (fun _ u hq => secondFor_grows hq p (decide (59 ≤ p.sch.clock.second)) u)
    (takenOrder first [.flc, .smn, .ssu, .pwu]) (a := p.ticked.notices) (.refl _)
  exact hgrows.flag h

/-- The marks leave an entry MISSED that was so, or that was PENDING with its end reached (R144). -/
theorem missedEntry_missed (p : Part) (e : Entry) :
    (p.missedEntry e).status = .missed ↔
      e.status = .missed ∨ (e.status = .pending ∧ p.published.day * 1440 + e.booking.stop ≤ p.now) := by
  have hend : p.endReached p.published e = true ↔ p.published.day * 1440 + e.booking.stop ≤ p.now := by
    rw [endReached_now, decide_eq_true_eq]
  unfold missedEntry
  split
  next h => simpa using .inr ⟨h.1, hend.mp h.2⟩
  next h =>
    rw [← hend]
    exact ⟨.inl, fun ho => ho.resolve_right h⟩

theorem missedEntry_booking (p : Part) (e : Entry) : (p.missedEntry e).booking = e.booking := by
  unfold missedEntry
  split <;> rfl

/-- An entry of the published bank after the marks of a minute event and what follows at it. -/
theorem marked_entry (hstate : p.published.state = .published) (h : Marked p.markMissed t) :
    t.published.entries.length = p.published.entries.length ∧
      ∀ n : Fin p.published.entries.length, ∃ y ∈ t.published.entries[n.val]?,
        y.booking = p.published.entries[n].booking ∧
        (y.status = .missed ↔ p.published.entries[n].status = .missed ∨
          (p.published.entries[n].status = .pending ∧
            p.published.day * 1440 + p.published.entries[n].booking.stop ≤ p.now)) := by
  obtain ⟨es, hes, hkept⟩ := h.published
  rw [markMissed_published hstate] at hes hkept
  have hentries : t.published.entries = es := by rw [hes]
  have hlen : es.length = p.published.entries.length := by simpa using hkept.length_eq.symm
  refine ⟨by rw [hentries, hlen], fun n => ⟨es[n.val], by simp [hentries, hlen], ?_⟩⟩
  obtain ⟨hbooking, hmissed, -⟩ := hkept.get (i := n.val) (by simp) (by simp [hlen])
  simp only [List.get_eq_getElem, List.getElem_map, missedEntry_booking, missedEntry_missed] at hbooking hmissed
  exact ⟨hbooking, hmissed⟩

/-- Of two banks that have changed roles or not, what a midnight turnover leaves (R145). -/
theorem midnight_swaps (hstate : p.staging.state = .ready) (hvalid : p.sch.clock.valid = true)
    (hday : p.staging.day = p.sch.clock.day) : p.midnight = p.swap.notice .schedule := by
  simp [midnight, hstate, hvalid, hday]

theorem midnight_waits (h : p.staging.state ≠ .ready ∨ p.sch.clock.valid = false ∨ p.staging.day ≠ p.sch.clock.day) :
    p.midnight = p.notice .schedule := by
  rw [midnight, if_neg]
  rintro ⟨hstate, hvalid, hday⟩
  obtain h | h | h := h
  · exact h hstate
  · simp [h] at hvalid
  · exact h hday

end Part

/-- Settles O23: SCH marks the ended entries before the blocks that count time take the event, and the midnight turnover
follows the marks. -/
theorem minuteEventsTurnTheBanks : Obligations.MinuteEventsTurnTheBanks := by
  unfold Obligations.MinuteEventsTurnTheBanks
  refine ⟨fun first p s hheld ⟨hsecond, hstaging, hp⟩ hstate => ?_, fun first s hheld hroles ⟨hsecond, hminute⟩ => ?_⟩
  · refine completes_onEvent (f := fun q => q.secondEvent first) rfl ?_
    rw [Part.event_unheld hheld]
    have hticked := Part.ticked_minute (p := s.part) (by omega) hstaging
    have hmarked := (hticked.trans (Part.marked_secondEvent s.part first)).conclude s.part
    rw [← hp] at hmarked
    have hpublished : p.published = s.part.published := by rw [hp]; rfl
    obtain ⟨hlen, hentries⟩ := Part.marked_entry (p := p) (by rwa [hpublished]) hmarked
    have hisA : p.publishedIsA = s.part.publishedIsA := by rw [hp]; rfl
    subst hp
    exact ⟨hmarked.isA.trans ((Part.markMissed_isA _).trans hisA), hlen, hentries⟩
  · refine completes_onEvent (f := fun q => q.secondEvent first) rfl ?_
    rw [Part.event_unheld hheld]
    have hticked := Part.ticked_midnight hsecond hminute
    have hmarked := (Part.marked_secondEvent s.part first).conclude s.part
    have hclock : (Part.tick s.part.sch.clock).valid = s.part.sch.clock.valid ∧
        (Part.tick s.part.sch.clock).day = (s.part.sch.clock.day + 1) % 65536 := by
      rw [Part.tick, if_neg (by omega), if_neg (by omega)]
      exact ⟨rfl, rfl⟩
    set q := s.part.setClock (Part.tick s.part.sch.clock) with hq
    have hstaging : q.markMissed.staging = s.part.staging := Part.markMissed_staging q
    have hsch : q.markMissed.sch.clock = Part.tick s.part.sch.clock := by simp [hq]
    have hisA : q.markMissed.publishedIsA = s.part.publishedIsA := Part.markMissed_isA q
    refine ⟨fun a => Part.conclude_flag (Part.secondEvent_flag (hticked ▸ Part.midnight_flag _ a) first),
      fun hready hvalid hday => ?_, fun hwaits => ?_⟩
    · rw [hticked, Part.midnight_swaps (by rw [hstaging, hready]) (by rw [hsch, hclock.1, hvalid])
        (by rw [hstaging, hsch, hclock.2, hday])] at hmarked
      have hswap := Part.swappedFrom_of_marked (((Marked.refl q.markMissed.swap).notice .schedule).trans hmarked)
      refine ⟨hswap.isA.trans (by rw [hisA]), hswap.state, hswap.day.trans (by rw [hstaging]), hswap.bookings.trans (by rw [hstaging]),
        ?_, ?_⟩
      · rw [hswap.staging]
        rfl
      · rw [hswap.staging]
        rfl
    · rw [hticked, Part.midnight_waits (by rwa [hstaging, hsch, hclock.1, hclock.2])] at hmarked
      have hkept := ((Marked.refl q.markMissed).notice .schedule).trans hmarked
      exact ⟨hkept.isA.trans hisA, hkept.staging.trans hstaging, hkept.published_day.trans (Part.markMissed_day q)⟩

end Sys2Proof.Machine
end

section
/-! What the opening of a session, its stage test and the end of an event do, operation by operation (R62 to R64, R132,
R135, R162, R165, R172). -/

namespace Sys2Proof.Machine

namespace Part

variable {p t : Part} {x : Session}

/-! ### The pieces that each operation reaches -/

theorem sameBut_putSession (p : Part) (x : Option Session) : SameBut [.session, .notices] p (p.putSession x) := by
  intro b hb
  cases b <;> simp_all [Piece.Same, putSession]

theorem sameBut_setPendingStart (p : Part) (x : Option Nat) : SameBut [.pendingStart, .notices] p (p.setPendingStart x) := by
  intro b hb
  cases b <;> simp_all [Piece.Same, setPendingStart]

theorem sameBut_openFloor (p : Part) : SameBut [.floorOpen, .notices] p p.openFloor := by
  intro b hb
  cases b <;> simp_all [Piece.Same, openFloor]

theorem sameBut_applyFloorPreset (p : Part) (f : FloorPreset) :
    SameBut [.floorMode, .floorLimit, .floorSpeak, .notices] p (p.applyFloorPreset f) := by
  intro b hb
  cases b <;> simp_all [Piece.Same, applyFloorPreset]

theorem sameBut_takeSettings (p : Part) (v : Vector ScreenSettings 4) : SameBut [.screens] p (p.takeSettings v) := by
  intro b hb
  cases b <;> simp_all [Piece.Same]

theorem sameBut_setDwell (p : Part) (n : Nat) : SameBut [.dwell] p (p.withSsu { p.ssu with dwell := n }) := by
  intro b hb
  cases b <;> simp_all [Piece.Same]

theorem sameBut_enterWindup (p : Part) (r : CloseReason) :
    SameBut [.session, .floorOpen, .queue, .openOrder, .slots, .screens, .speakers, .notices] p (p.enterWindup r) := by
  intro b hb
  cases b <;> simp_all [Piece.Same]

theorem sameBut_stageStep (p : Part) :
    SameBut [.session, .floorOpen, .queue, .openOrder, .slots, .screens, .speakers, .notices] p p.stageStep := by
  intro b hb
  cases b <;> simp_all [Piece.Same]

@[simp] theorem openFloor_isOpen (p : Part) : p.openFloor.flc.isOpen = true := by simp [openFloor]

theorem applyFloorPreset_mode (p : Part) (f : FloorPreset) : (p.applyFloorPreset f).flc.mode = f.mode := by
  simp [applyFloorPreset]

/-! ### The settings and the drive of a screen (R130, R132, R133) -/

/-- What a screen that follows no other shows, when the screens that `sel` names are computed (R130, R131). -/
def ownShown (p : Part) (sel : ScreenId → Bool) (k : ScreenId) : Input :=
  if sel k = true ∧ (p.screen k).set.mode ≠ .followScreen then p.ownSource (p.screen k) else (p.screen k).shown

/-- What a screen shows when the screens that `sel` names are computed (R131). -/
def shownAfter (p : Part) (sel : ScreenId → Bool) (k : ScreenId) : Input :=
  let f := (p.screen k).set.followed
  if (p.screen k).set.mode = .followScreen then
    if sel k = true ∨ p.ownShown sel f ≠ (p.screen f).shown then p.ownShown sel f else (p.screen k).shown
  else p.ownShown sel k

theorem computeShown_screen (p : Part) (sel : ScreenId → Bool) (k : ScreenId) :
    (p.computeShown sel).screen k = { p.screen k with shown := p.shownAfter sel k } := by
  have hfirst (j : ScreenId) : (if (sel j && decide ((p.screen j).set.mode ≠ .followScreen)) = true then
      { p.screen j with shown := p.ownSource (p.screen j) } else p.screen j) = { p.screen j with shown := p.ownShown sel j } := by
    rw [ownShown]
    by_cases hj : sel j = true ∧ (p.screen j).set.mode ≠ .followScreen
    · rw [if_pos hj, if_pos (by simpa using hj)]
    · rw [if_neg hj, if_neg (by simpa using hj)]
  have hscreen (j : ScreenId) : p.rtu.screens.get j = p.screen j := rfl
  have hget : (p.computeShown sel).screen k = (p.computeShown sel).rtu.screens.get k := rfl
  rw [hget]
  simp only [computeShown, withRtu_rtu, get_mapTable, hscreen, hfirst]
  by_cases hmode : (p.screen k).set.mode = .followScreen
  · rw [shownAfter, if_pos hmode]
    by_cases hsel : sel k = true ∨ p.ownShown sel (p.screen k).set.followed ≠ (p.screen (p.screen k).set.followed).shown
    · rw [if_pos hsel, if_pos (by simpa [hmode] using hsel)]
    · rw [if_neg hsel, if_neg (by simpa [hmode] using hsel), ownShown, if_neg (by simp [hmode])]
  · rw [shownAfter, if_neg hmode, if_neg (by simp [hmode])]

theorem computeShown_set (p : Part) (sel : ScreenId → Bool) (k : ScreenId) : ((p.computeShown sel).screen k).set = (p.screen k).set := by
  rw [computeShown_screen]

theorem takeSettings_set (p : Part) (v : Vector ScreenSettings 4) (k : ScreenId) : ((p.takeSettings v).screen k).set = v.get k := by
  rw [takeSettings, computeShown_set]
  simp [screen]

theorem startSettle_set (x : Screen) (i : Input) : (startSettle x i).set = x.set := rfl

/-- The end of an event changes no screen's settings, and drives each screen by what it shows (R132, R133). -/
theorem concludeRouting_screen (before after : Part) (k : ScreenId) :
    (concludeRouting before after).screen k =
      if after.drivenBy k = (after.screen k).driven then after.screen k else startSettle (after.screen k) (after.drivenBy k) := by
  have hnotice (b : Bool) : (after.noticeIf b .route).rtu = after.rtu := by simp
  have hscreen (b : Bool) : (after.noticeIf b .route).screen k = after.screen k := by simp only [screen, hnotice]
  have hdriven (b : Bool) : (after.noticeIf b .route).drivenBy k = after.drivenBy k := by simp only [drivenBy, screen, hnotice]
  rw [concludeRouting, driveScreens_screen, hscreen, hdriven]

/-- Of an event that leaves no walk-in ready to open, the end leaves RTU to the drive of the screens. -/
theorem conclude_screen {before after : Part} (h : after.walkInReady = false ∨ after.ssu.params.dwell ≠ 0) (k : ScreenId) :
    (conclude before after).screen k =
      if after.drivenBy k = (after.screen k).driven then after.screen k else startSettle (after.screen k) (after.drivenBy k) := by
  have hdwell : (concludeDwell before after).rtu = after.rtu := by
    cases hw : after.walkInReady with
    | false => simp [concludeDwell, hw]
    | true => simp [concludeDwell, hw, h.resolve_left (by simp [hw])]
  have hpins (q : Part) : q.drivePins.screen k = q.screen k := by simp [screen]
  have hscreen : (concludeDwell before after).screen k = after.screen k := by simp only [screen, hdwell]
  have hdriven : (concludeDwell before after).drivenBy k = after.drivenBy k := by simp only [drivenBy, screen, hdwell]
  rw [conclude, hpins, concludeRouting_screen, hscreen, hdriven]

theorem conclude_set {before after : Part} (h : after.walkInReady = false ∨ after.ssu.params.dwell ≠ 0) (k : ScreenId) :
    ((conclude before after).screen k).set = (after.screen k).set := by
  rw [conclude_screen h]
  split <;> rfl

/-! ### The stage test and the entry to IN_SESSION (R162, R172) -/

/-- The session as the stage test leaves it, up to a WINDUP entry. -/
def staged (p : Part) (x : Session) : Session := { x with state := p.stageFor x.effEnd }

theorem stageStep_none (h : ∀ x ∈ p.ssu.session, runningState x.state = false) : p.stageStep = p := by
  unfold stageStep
  split
  next x hx => simp [h x hx]
  next => rfl

theorem stageStep_windup (hsession : p.ssu.session = some x) (hrunning : runningState x.state = true)
    (hstage : p.stageFor x.effEnd = .windup) : p.stageStep = p.enterWindup .ended := by
  simp [stageStep, hsession, hrunning, hstage]

/-- Short of WINDUP the stage test sets the state alone (R162). -/
theorem stageStep_stays (hsession : p.ssu.session = some x) (hrunning : runningState x.state = true)
    (hstage : p.stageFor x.effEnd ≠ .windup) :
    p.stageStep.ssu.session = some (p.staged x) ∧ SameBut [.session, .notices] p p.stageStep := by
  by_cases hsame : p.stageFor x.effEnd = x.state
  · have hstep : p.stageStep = p := by
      simp only [stageStep, hsession, hrunning, if_true]
      rw [if_neg hstage, if_pos hsame]
    have hstaged : p.staged x = x := by rw [staged, hsame]
    rw [hstep, hstaged]
    exact ⟨hsession, .refl _ _⟩
  · have hstep : p.stageStep = p.putSession (some (p.staged x)) := by
      simp only [stageStep, hsession, hrunning, if_true]
      rw [if_neg hstage, if_neg hsame]
      rfl
    rw [hstep]
    exact ⟨by simp [putSession], sameBut_putSession p _⟩

theorem stageFor_running {e : Nat} (h : p.stageFor e ≠ .windup) : runningState (p.stageFor e) = true := by
  revert h
  unfold stageFor
  split
  · split <;> simp [runningState]
  · split <;> simp [runningState]

/-- The next start is read from SCH. -/
theorem nextStart_of_sch {q : Part} (h : q.sch = p.sch) : q.nextStart = p.nextStart := by
  simp only [nextStart, isCurrent, comingEntries, published_of_sch h, h, endReached, reached, now]
  rfl

theorem stageFor_same {q : Part} (hsch : q.sch = p.sch) (hparams : q.ssu.params = p.ssu.params) (e : Nat) :
    q.stageFor e = p.stageFor e := by
  simp only [stageFor, graceEnd, reached, now, nextStart_of_sch hsch, hsch, hparams]
  rfl

/-- The session as it enters IN_SESSION, before its stage test. -/
def entered (x : Session) : Session := { x with state := .inSession, vacancy := 0 }

/-- An entry to IN_SESSION that is not at its session's end opens the floor (R62, R162). -/
theorem enterSession_stays (hstage : p.stageFor x.effEnd ≠ .windup) :
    (p.enterSession x).ssu.session = some (p.staged (entered x)) ∧ (p.enterSession x).flc.isOpen = true ∧
      SameBut [.session, .floorOpen, .notices] p (p.enterSession x) := by
  have hopened : ((p.putSession (some (entered x))).openFloor).ssu.session = some (entered x) := by simp [putSession]
  have hsame := stageFor_same (p := p) (q := (p.putSession (some (entered x))).openFloor) (by simp [putSession]) (by simp [putSession]) x.effEnd
  obtain ⟨hsession, hbut⟩ := stageStep_stays hopened rfl (by rw [← hsame] at hstage; exact hstage)
  refine ⟨hsession.trans ?_, (hbut.isOpen (by simp)).trans (openFloor_isOpen _), ?_⟩
  · exact congrArg some (congrArg (fun st => { entered x with state := st }) hsame)
  · exact ((sameBut_putSession p _).mono (by simp)).trans (((sameBut_openFloor _).mono (by simp)).trans (hbut.mono (by simp)))

theorem completeWindup_stays (h : ∀ x ∈ p.ssu.session, x.state ≠ .windup) : p.completeWindup = p := by
  unfold completeWindup
  split
  next x hx => rw [if_neg fun hc => h x hx hc.1]
  next => rfl

theorem closeWindup_stays (h : ∀ x ∈ p.ssu.session, x.state ≠ .windup) : p.closeWindup = p := by
  unfold closeWindup
  split
  next x hx => rw [if_neg fun hc => h x hx hc.1]
  next => rfl

end Part
end Sys2Proof.Machine
end

section
/-! The timers of a session run out: the check-in window, the vacancy timeout and the walk-in dwell (R166, R168, R170). -/

namespace Sys2Proof.Machine

namespace Part

variable {p t : Part} {x : Session} {r : CloseReason}

/-! ### A close with nothing to follow it -/

theorem closeSession_counters (p : Part) (x : Session) (r : CloseReason) (i : SeatId) :
    ((p.closeSession x r).seat i).counters = Counters.zero := by
  have hseats : (p.closeSession x r).smn.seats = (p.writeSummary (p.summaryOf x r)).clearCounters.smn.seats := by
    simp only [closeSession, closeRecords]
    split <;> simp [putSession]
  rw [seat, hseats]
  simp [clearCounters]

theorem closeSession_length (p : Part) (x : Session) (r : CloseReason) :
    (p.closeSession x r).ssu.store.length = min (p.ssu.store.length + 1) 2 := by
  rw [closeSession_store, storeAfter]
  split <;> simp <;> omega

theorem release_closes (hpending : p.ssu.pendingStart = none) : p.release x = p.closeSession x .released := by
  rw [release, openPending_none (by simpa using hpending), closeWindup_none (closeSession_session _ _ _)]

theorem releaseTest_expired {b : Booking} {w : Nat} (hsession : p.ssu.session = some x) (hstate : x.state = .awaiting)
    (hcopy : x.copy = some b) (hwindow : b.window = some w) (hw : w ≤ x.await) : p.releaseTest true = p.release x := by
  simp [releaseTest, hsession, hstate, hcopy, hwindow, hw]

/-! ### The vacancy timeout (R168) -/

theorem vacancyTest_ends (hsession : p.ssu.session = some x) (hrunning : runningState x.state = true)
    (hvacancy : p.ssu.params.vacancy ≠ 0 ∧ p.ssu.params.vacancy * 60 ≤ x.vacancy) : p.vacancyTest = p.windup .vacated := by
  simp [vacancyTest, hsession, hrunning, hvacancy]

/-! ### The walk-in dwell (R170, R172) -/

/-- The part as a walk-in opens, before its session enters IN_SESSION (R172). -/
def walkInSet (p : Part) : Part :=
  let q := ((p.putSession (some p.walkInSession)).applyFloorPreset p.flc.preset).applyPreset 0
  q.withSsu { q.ssu with dwell := 0 }

theorem openWalkIn_eq (p : Part) : p.openWalkIn = p.walkInSet.enterSession p.walkInSession := rfl

theorem sameBut_walkInSet (p : Part) :
    SameBut [.session, .floorMode, .floorLimit, .floorSpeak, .screens, .dwell, .notices] p p.walkInSet :=
  ((sameBut_putSession p _).mono (by simp)).trans (((sameBut_applyFloorPreset _ _).mono (by simp)).trans
    (((sameBut_takeSettings _ _).mono (by simp)).trans ((sameBut_setDwell _ 0).mono (by simp))))

theorem walkInSet_mode (p : Part) : p.walkInSet.flc.mode = p.flc.preset.mode := by
  simp [walkInSet, applyFloorPreset_mode]

theorem applyPreset_set (p : Part) (n : Fin 4) (k : ScreenId) :
    ((p.applyPreset n).screen k).set = (p.rtu.presets.get n).get k := takeSettings_set p _ k

theorem walkInSet_set (p : Part) (k : ScreenId) : (p.walkInSet.screen k).set = (p.rtu.presets.get 0).get k := by
  simp only [walkInSet, screen, withSsu_rtu]
  rw [← screen, applyPreset_set]
  simp [putSession]

theorem walkIn_stage (hwarning : p.ssu.params.warning < p.ssu.params.length) 
    (hlength : p.sch.clock.minute + p.ssu.params.length ≤ p.nextStart) : p.walkInSession.effEnd = p.sch.clock.day * 1440 + p.sch.clock.minute + p.ssu.params.length ∧
      p.stageFor p.walkInSession.effEnd = .inSession := by
  have hend : p.walkInSession.effEnd = p.sch.clock.day * 1440 + p.sch.clock.minute + p.ssu.params.length := by
    simp only [walkInSession]
    omega
  refine ⟨hend, ?_⟩
  simp only [stageFor, reached, now, hend]
  rw [if_pos (by simp; omega), if_neg (by omega)]

theorem walkIn_opens (hready : p.walkInReady = true) (hpasses : p.walkInPasses = true)
    (hstage : p.stageFor p.walkInSession.effEnd = .inSession) :
    p.walkInTest = p.openWalkIn ∧ p.openWalkIn.ssu.session = some p.walkInSession ∧ p.openWalkIn.flc.isOpen = true ∧
      SameBut [.session, .floorOpen, .notices] p.walkInSet p.openWalkIn := by
  have hset : p.walkInSet.stageFor p.walkInSession.effEnd = .inSession :=
    (stageFor_same (by simp [walkInSet, putSession]) (by simp [walkInSet, putSession]) _).trans hstage
  obtain ⟨hsession, hopen, hbut⟩ := enterSession_stays (p := p.walkInSet) (x := p.walkInSession) (by rw [hset]; decide)
  have hstaged : p.walkInSet.staged (entered p.walkInSession) = p.walkInSession := by
    have hstate : p.walkInSet.stageFor (entered p.walkInSession).effEnd = .inSession := hset
    rw [staged, hstate]
    rfl
  rw [← openWalkIn_eq] at hsession hopen hbut
  rw [hstaged] at hsession
  refine ⟨?_, hsession, hopen, hbut⟩
  rw [walkInTest, if_pos (by rw [hready, hpasses]; rfl)]
  exact completeWindup_stays fun x hx => by
    rw [hsession] at hx
    obtain rfl := Option.mem_some.mp hx
    simp [walkInSession]

theorem openWalkIn_flag (p : Part) (q : Port) : (p.openWalkIn.notices q).1 &&& 32 ≠ 0 := by
  have hraised : ((p.putSession (some p.walkInSession)).notices q).1 &&& 32 ≠ 0 := by
    rw [putSession, notice_notices]
    exact mark_raised _ (by decide)
  have hset : NoticesGrow (p.putSession (some p.walkInSession)).notices p.walkInSet.notices := by
    simp [walkInSet]
  have hgrows : NoticesGrow (p.putSession (some p.walkInSession)).notices p.openWalkIn.notices := by
    rw [openWalkIn_eq]
    exact enterSession_grows hset _
  exact hgrows.flag hraised

end Part

/-- Settles O25: each timer's event goes through the operation that its session end or opening goes through. -/
theorem sessionsOpenAndEndByTimers : Obligations.SessionsOpenAndEndByTimers := by
  unfold Obligations.SessionsOpenAndEndByTimers
  refine ⟨fun x b w s hheld ⟨hsession, hstate, hcopy, hwindow, hw⟩ ⟨hpending, hdwell⟩ => ?_,
    fun x s hheld ⟨hsession, hrunning⟩ hvacancy hslots => ?_,
    fun x s hheld ⟨hsession, hrunning⟩ hvacancy ⟨hslots, hpending, hdwell⟩ => ?_,
    fun s hheld ⟨hready, hdwell, hpower⟩ ⟨hnext, hwarning, hlength⟩ => ?_⟩
  · refine completes_onEvent (f := fun p => p.releaseTest true) rfl ?_
    rw [Part.event_unheld hheld, Part.releaseTest_expired hsession hstate hcopy hwindow hw, Part.release_closes hpending]
    have hend := Part.sameBut_conclude_dwell (before := s.part) (after := s.part.closeSession x .released) (.inr (by simpa using hdwell))
    have hnewest := (congrArg List.getLast? (hend.store (by simp))).trans (Part.closeSession_newest _ _ _)
    refine ⟨(hend.session (by simp)).trans (Part.closeSession_session _ _ _), fun y hy => ?_,
      (congrArg List.length (hend.store (by simp))).trans (Part.closeSession_length _ _ _), fun i => ?_,
      fun q => ((Part.conclude_grows (.refl _) s.part).flags (Part.closeSession_flags s.part x .released q))⟩
    · rw [hnewest] at hy
      obtain rfl := Option.mem_some.mp hy
      exact ⟨rfl, rfl, rfl, rfl, rfl⟩
    · rw [hend.seat (by simp)]
      exact Part.closeSession_counters _ _ _ i
  · refine completes_onEvent (f := Part.vacancyTest) rfl ?_
    rw [Part.event_unheld hheld, Part.vacancyTest_ends hsession hrunning hvacancy, Part.windup_waits hsession hslots]
    have hentered := Part.enterWindup_session hsession .vacated
    have hend := Part.sameBut_conclude_dwell (before := s.part) (after := s.part.enterWindup .vacated)
      (.inl (Part.walkInReady_open hentered))
    obtain ⟨hopen, hqueue, horder⟩ := Part.enterWindup_closed hsession .vacated
    refine ⟨(hend.session (by simp)).trans hentered, (hend.isOpen (by simp)).trans hopen, (hend.queue (by simp)).trans hqueue,
      (hend.openOrder (by simp)).trans horder, fun k hk => ?_⟩
    have hslot := (congrFun (hend.slotData (by simp)) k).trans (Part.enterWindup_data hsession .vacated k)
    rw [Part.floorClosedSlot, if_neg (by simpa using hk)] at hslot
    exact ⟨congrArg Slot.state hslot, congrArg Slot.reason hslot⟩
  · refine completes_onEvent (f := Part.vacancyTest) rfl ?_
    rw [Part.event_unheld hheld, Part.vacancyTest_ends hsession hrunning hvacancy, Part.windup_closes hsession hslots hpending]
    have hend := Part.sameBut_conclude_dwell (before := s.part)
      (after := (s.part.enterWindup .vacated).closeSession (Part.windupOf .vacated x) .vacated) (.inr (by simpa using hdwell))
    obtain ⟨hopen, hqueue, -⟩ := Part.enterWindup_closed hsession .vacated
    have hnewest := (congrArg List.getLast? (hend.store (by simp))).trans (Part.closeSession_newest _ _ _)
    refine ⟨(hend.session (by simp)).trans (Part.closeSession_session _ _ _), (hend.isOpen (by simp)).trans (by simpa using hopen),
      (hend.queue (by simp)).trans (by simpa using hqueue), ⟨_, hnewest, rfl, ?_, rfl, ?_, ?_⟩, fun i => ?_,
      fun q => ((Part.conclude_grows (.refl _) s.part).flags (Part.closeSession_flags _ _ _ q))⟩
    · simp [Part.summaryOf]
    · simp [Part.summaryOf]
    · simp [Part.summaryOf]
    · rw [hend.seat (by simp)]
      exact Part.closeSession_counters _ _ _ i
  · obtain ⟨heffEnd, hstage⟩ := Part.walkIn_stage hwarning (by rw [hnext]; exact hlength)
    obtain ⟨hopens, hsession, hopen, hbut⟩ := Part.walkIn_opens hready (by simp [Part.walkInPasses, hnext, hpower]) hstage
    refine completes_onEvent (f := Part.repeatWalkIn) rfl ?_
    rw [Part.event_unheld hheld, Part.repeatWalkIn, if_pos hdwell, hopens]
    have hquiet := Part.walkInReady_open hsession
    have hend := Part.sameBut_conclude_dwell (before := s.part) (after := s.part.openWalkIn) (.inl hquiet)
    refine ⟨(hend.session (by simp)).trans (hsession.trans (congrArg some ?_)), ?_, (hend.isOpen (by simp)).trans hopen,
      (hend.mode (by simp)).trans ((hbut.mode (by simp)).trans (Part.walkInSet_mode _)), fun k => ?_,
      fun q => Part.conclude_flag (Part.openWalkIn_flag _ q)⟩
    · rw [← heffEnd]
      rfl
    · simp [Part.conclude, Part.concludeDwell, hquiet]
    · rw [Part.conclude_set (.inl hquiet), hbut.screen (by simp)]
      exact Part.walkInSet_set _ k

end Sys2Proof.Machine
end

section
/-! The gains of the slots: what a gain frame makes of them, and that nothing else that a frame brings moves a gain (R95). -/

namespace Sys2Proof.Machine

/-- The gain of every slot is the same in two parts. -/
structure GainsKept (p t : Part) : Prop where
  gain : ∀ k, (t.slot k).gain = (p.slot k).gain

/-- A slot as it becomes FREE (R97). -/
def Part.freed (x : Slot) : Slot := { x with state := .free, holder := none, warned := .none, reason := none }

namespace GainsKept

variable {p q t : Part}

theorem refl (p : Part) : GainsKept p p := ⟨fun _ => rfl⟩

theorem trans (h : GainsKept p q) (h' : GainsKept q t) : GainsKept p t := ⟨fun k => (h'.gain k).trans (h.gain k)⟩

theorem same (h : GainsKept p q) (hslots : t.sgu.slots = q.sgu.slots) : GainsKept p t :=
  ⟨fun k => (congrArg Slot.gain (congrFun (Part.slot_eq hslots) k)).trans (h.gain k)⟩

/-- An operation that is known by what it makes of a slot's data. -/
theorem data (h : GainsKept p q) (hdata : ∀ k, (t.slotData k).gain = (q.slotData k).gain) : GainsKept p t :=
  ⟨fun k => (hdata k).trans (h.gain k)⟩

theorem foldl {α : Type} {f : Part → α → Part} (hf : ∀ q a, GainsKept p q → GainsKept p (f q a)) (l : List α) (h : GainsKept p q) :
    GainsKept p (l.foldl f q) := foldl_invariant (P := fun q : Part => GainsKept p q) hf l q h

@[simp] theorem notice (h : GainsKept p q) (c : Category) : GainsKept p (q.notice c) := h.same (by simp)

@[simp] theorem noticeIf (h : GainsKept p q) (b : Bool) (c : Category) : GainsKept p (q.noticeIf b c) := h.same (by simp)

@[simp] theorem putSession (h : GainsKept p q) (x : Option Session) : GainsKept p (q.putSession x) := h.same (by simp [Part.putSession])

@[simp] theorem setPendingStart (h : GainsKept p q) (x : Option Nat) : GainsKept p (q.setPendingStart x) := h.same (by simp)

@[simp] theorem openFloor (h : GainsKept p q) : GainsKept p q.openFloor := h.same (by simp)

@[simp] theorem applyFloorPreset (h : GainsKept p q) (f : FloorPreset) : GainsKept p (q.applyFloorPreset f) := h.same (by simp)

@[simp] theorem applyPreset (h : GainsKept p q) (n : Fin 4) : GainsKept p (q.applyPreset n) := h.same (by simp)

@[simp] theorem markEntry (h : GainsKept p q) (id : Nat) (old new : EntryStatus) : GainsKept p (q.markEntry id old new) :=
  h.same (by simp)

/-! ### Slots -/

theorem setSlot (h : GainsKept p q) {k : SlotId} {x : Slot} (hx : x.gain = (q.slot k).gain) : GainsKept p (q.setSlot k x) := by
  refine h.trans ⟨fun j => ?_⟩
  by_cases hj : j = k
  · subst hj
    simpa using hx
  · simp [hj]

theorem withSgu (h : GainsKept p q) {x : Sgu} (hx : x.slots = q.sgu.slots) : GainsKept p (q.withSgu x) := h.same hx

theorem retarget (h : GainsKept p q) : GainsKept p q.retarget := h.data fun k => by rw [Part.retarget_data]

@[simp] theorem grantSlot (h : GainsKept p q) (k : SlotId) (i : SeatId) : GainsKept p (q.grantSlot k i) := by
  refine h.data fun j => ?_
  rw [Part.grantSlot_data]
  split
  next hj => rw [hj]; rfl
  next => rfl

@[simp] theorem autoAdvance (h : GainsKept p q) : GainsKept p q.autoAdvance := by
  have hadvance : ∀ (n : Nat) {q : Part}, GainsKept p q → GainsKept p (Part.advance n q) := by
    intro n
    induction n with
    | zero => exact fun h => h
    | succ n ih =>
      intro q h
      unfold Part.advance
      split
      · exact ih (h.grantSlot _ _)
      · exact h
  unfold Part.autoAdvance
  split
  · exact hadvance _ h
  · exact h

theorem floorClosed (x : Slot) : (Part.floorClosedSlot x).gain = x.gain := by
  unfold Part.floorClosedSlot
  split <;> rfl

@[simp] theorem closeFloor (h : GainsKept p q) : GainsKept p q.closeFloor :=
  h.data fun k => by rw [Part.closeFloor_data, floorClosed]

@[simp] theorem takeFree (h : GainsKept p q) (k : SlotId) : GainsKept p (q.takeFree k) := by
  have hset : GainsKept p (q.setSlot k (Part.freed (q.slot k))) := h.setSlot rfl
  have hfreed : GainsKept p (q.freeSlotRecord k) := by
    refine retarget (hset.withSgu ?_)
    rfl
  simp only [Part.takeFree]
  split
  · exact hfreed.notice _
  · exact (hfreed.notice _).autoAdvance

/-! ### Sessions -/

theorem withSsu (h : GainsKept p q) (x : Ssu) : GainsKept p (q.withSsu x) := h.same rfl

@[simp] theorem enterWindup (h : GainsKept p q) (r : CloseReason) : GainsKept p (q.enterWindup r) := by
  unfold Part.enterWindup
  split
  · exact (h.putSession _).closeFloor
  · exact h

@[simp] theorem stageStep (h : GainsKept p q) : GainsKept p q.stageStep := by
  simp only [Part.stageStep]
  (repeat' split) <;> simp [h]

@[simp] theorem enterSession (h : GainsKept p q) (x : Session) : GainsKept p (q.enterSession x) :=
  (h.putSession _).openFloor.stageStep

@[simp] theorem checkIn (h : GainsKept p q) : GainsKept p q.checkIn := by
  unfold Part.checkIn
  (repeat' split) <;> simp [h]

@[simp] theorem openBooked (h : GainsKept p q) (b : Booking) : GainsKept p (q.openBooked b) := by
  have hset := ((((h.putSession (some (q.bookedSession b))).markEntry b.id .pending .active).setPendingStart none).applyFloorPreset
    b.floor).applyPreset b.screen
  simp only [Part.openBooked]
  split
  · exact (hset.withSsu _).checkIn
  · exact (hset.withSsu _).enterSession _

@[simp] theorem openPending (h : GainsKept p q) : GainsKept p q.openPending := by
  unfold Part.openPending
  (repeat' split) <;> simp [h]

@[simp] theorem closeSession (h : GainsKept p q) (x : Session) (r : CloseReason) : GainsKept p (q.closeSession x r) :=
  h.same (by simp [Part.closeSession, Part.putSession])

@[simp] theorem closeWindup (h : GainsKept p q) : GainsKept p q.closeWindup := by
  unfold Part.closeWindup
  (repeat' split) <;> simp [h]

@[simp] theorem completeWindup (h : GainsKept p q) : GainsKept p q.completeWindup := by
  unfold Part.completeWindup
  split
  · split
    · exact h.closeWindup.openPending.closeWindup
    · exact h
  · exact h

@[simp] theorem openWalkIn (h : GainsKept p q) : GainsKept p q.openWalkIn :=
  (((((h.putSession _).applyFloorPreset _).applyPreset 0).withSsu _).enterSession _)

@[simp] theorem walkInTest (h : GainsKept p q) : GainsKept p q.walkInTest := by
  unfold Part.walkInTest
  split <;> simp [h]

@[simp] theorem concludeDwell (h : GainsKept p q) (before : Part) : GainsKept p (Part.concludeDwell before q) := by
  unfold Part.concludeDwell
  split
  · exact h.same rfl
  · split <;> simp [h]

@[simp] theorem endSettles (h : GainsKept p q) (b : Bool) : GainsKept p (q.endSettles b) := h.same (by simp)

@[simp] theorem sendGains (h : GainsKept p q) : GainsKept p q.sendGains := by
  unfold Part.sendGains
  split
  · exact h.withSgu rfl
  · exact h.withSgu rfl

@[simp] theorem conclude (h : GainsKept p q) (before : Part) : GainsKept p (Part.conclude before q) :=
  (h.concludeDwell before).same (by simp [Part.conclude])

/-! ### The gain frame after its moves (R95) -/

@[simp] theorem enterLive (h : GainsKept p q) (k : SlotId) : GainsKept p (q.enterLive k) := by
  simp only [Part.enterLive]
  split
  · have hlive := (h.setSlot (k := k) (x := { q.slot k with state := .live }) rfl).notice .floor
    split
    · exact hlive.same (by simp)
    · exact hlive
  · exact h

@[simp] theorem enterLives (h : GainsKept p q) : GainsKept p q.enterLives := by
  unfold Part.enterLives
  exact foldl (fun _ k hq => hq.enterLive k) Part.allSlots h

@[simp] theorem freePhase (h : GainsKept p q) (k : SlotId) : GainsKept p (q.freePhase k) := by
  unfold Part.freePhase
  split <;> simp [h]

end GainsKept

namespace Part

variable {p : Part}

/-- The part once a gain frame has counted its timers and moved the gains (R95). -/
def gainsMoved (p : Part) (settlesLast : Bool) : Part :=
  let timed := p.countGainTimers.countSettles
  (if settlesLast then timed else timed.endSettles false).moveGains

/-- The part whose gains a gain frame moves (R95). -/
def gainsTimed (p : Part) (settlesLast : Bool) : Part :=
  let timed := p.countGainTimers.countSettles
  if settlesLast then timed else timed.endSettles false

theorem gainsMoved_eq (p : Part) (settlesLast : Bool) : p.gainsMoved settlesLast = (p.gainsTimed settlesLast).moveGains := rfl

theorem gainsTimed_sgu (p : Part) (settlesLast : Bool) : (p.gainsTimed settlesLast).sgu = p.countGainTimers.sgu := by
  cases settlesLast <;> simp [gainsTimed]

theorem moveGains_slot (p : Part) (k : SlotId) :
    p.moveGains.slot k = { p.slot k with gain := nextGain p.sgu.gain (p.slot k) } := by
  simp [moveGains, slot]

theorem gainsMoved_slot (p : Part) (settlesLast : Bool) (k : SlotId) :
    (p.gainsMoved settlesLast).slot k = { p.slot k with gain := nextGain p.sgu.gain (p.slot k) } := by
  have hsgu := gainsTimed_sgu p settlesLast
  have hslot : (p.gainsTimed settlesLast).slot k = p.slot k :=
    congrFun (slot_eq (by rw [hsgu]; simp [countGainTimers])) k
  have hgain : (p.gainsTimed settlesLast).sgu.gain = p.sgu.gain := by
    rw [hsgu]
    simp [countGainTimers]
  rw [gainsMoved_eq, moveGains_slot, hslot, hgain]

/-- The part once every slot has entered LIVE or come FREE in a gain frame. -/
def gainsFreed (p : Part) (first : List SlotId) (settlesLast : Bool) : Part :=
  (takenOrder first allSlots).foldl freePhase (p.gainsMoved settlesLast).enterLives

theorem gainsFreed_gains (p : Part) (first : List SlotId) (settlesLast : Bool) :
    GainsKept (p.gainsMoved settlesLast) (p.gainsFreed first settlesLast) := by
  unfold gainsFreed
  exact GainsKept.foldl (fun _ k h => h.freePhase k) (takenOrder first allSlots) (GainsKept.refl _).enterLives

theorem gainFrame_eq (p : Part) (first : List SlotId) (settlesLast : Bool) :
    p.gainFrame first settlesLast =
      (if settlesLast then (concludeDwell p (p.gainsFreed first settlesLast)).endSettles true
        else concludeDwell p (p.gainsFreed first settlesLast)).sendGains := rfl

theorem gainFrame_gains (p : Part) (first : List SlotId) (settlesLast : Bool) :
    GainsKept (p.gainsMoved settlesLast) (p.gainFrame first settlesLast) := by
  have hended := (p.gainsFreed_gains first settlesLast).concludeDwell p
  rw [gainFrame_eq]
  cases settlesLast with
  | true => exact (hended.endSettles true).sendGains
  | false => exact hended.sendGains

theorem gainFrame_blink (p : Part) (first : List SlotId) (settlesLast : Bool) :
    (p.gainFrame first settlesLast).sgu.blink = (if 999 ≤ p.sgu.blink then 0 else p.sgu.blink + 1) ∧
      ∀ i, (p.gainFrame first settlesLast).sgu.refused.get i = p.sgu.refused.get i - 1 := by
  have htimed : (p.gainsTimed settlesLast).sgu = p.countGainTimers.sgu := gainsTimed_sgu p settlesLast
  have hkept : (p.gainFrame first settlesLast).sgu.blink = (p.gainsTimed settlesLast).sgu.blink ∧
      (p.gainFrame first settlesLast).sgu.refused = (p.gainsTimed settlesLast).sgu.refused := by
    rw [gainFrame_eq, gainsFreed, gainsMoved_eq]
    cases settlesLast <;> simp
  rw [hkept.1, hkept.2, htimed]
  simp [countGainTimers]

end Part

namespace Part

variable {p : Part}

/-- The move of R95, by the place of the gain to its target. -/
theorem nextGain_eq (g : GainSettings) (x : Slot) : nextGain g x =
    if x.state = .free ∨ x.gain = x.target then x.gain
    else if x.gain < x.target then min (x.gain + g.rise) x.target
    else if x.state = .closing ∧ (x.reason = some .mute ∨ x.reason = some .floorClosed) then max (x.gain - 1023) x.target
    else max (x.gain - g.fall) x.target := by
  unfold nextGain fallStep
  by_cases hfree : x.state = .free
  · simp [hfree]
  · by_cases heq : x.gain = x.target
    · simp [heq]
    · simp only [hfree, heq, false_or, if_false]
      by_cases hlt : x.gain < x.target
      · simp [hlt]
      · simp only [hlt, if_false, if_pos (show x.target < x.gain by omega)]
        split <;> rfl

/-- A seat whose refused time is over is not shown REFUSED (R103). -/
theorem indicationOf_unrefused {i : SeatId} (h : p.sgu.refused.get i = 0) : p.indicationOf i ≠ .refused := by
  have hslot (x : Slot) : slotIndication x ≠ .refused := by
    unfold slotIndication
    (repeat' split) <;> decide
  simp only [indicationOf, h]
  split
  · decide
  · split
    · decide
    · rw [if_neg (by simp)]
      split
      · exact hslot _
      · (repeat' split) <;> decide

/-- A screen at the end of its settle (R133). -/
def steadied (x : Screen) : Screen := { x with settle := .steady }

theorem endSettle_ends {k : ScreenId} (hsettle : (p.screen k).settle = .settling) (htimer : (p.screen k).timer = 0) :
    p.endSettle k = (p.setScreen k (steadied (p.screen k))).notice .route := by
  rw [endSettle, if_pos ⟨hsettle, htimer⟩]
  rfl

theorem endSettle_screen {k : ScreenId} (hsettle : (p.screen k).settle = .settling) (htimer : (p.screen k).timer = 0) (j : ScreenId) :
    (p.endSettle k).screen j = if j = k then steadied (p.screen k) else p.screen j := by
  have hnotice (q : Part) : (q.notice .route).screen j = q.screen j := by simp [screen]
  rw [endSettle_ends hsettle htimer, hnotice, setScreen_screen]

/-- The end of a settle leaves what a screen is set to, shows and is driven by. -/
theorem endSettle_kept {k : ScreenId} (hsettle : (p.screen k).settle = .settling) (htimer : (p.screen k).timer = 0) (j : ScreenId) :
    ((p.endSettle k).screen j).set = (p.screen j).set ∧ ((p.endSettle k).screen j).shown = (p.screen j).shown ∧
      ((p.endSettle k).screen j).driven = (p.screen j).driven := by
  rw [endSettle_screen hsettle htimer]
  split
  next hj => rw [hj]; exact ⟨rfl, rfl, rfl⟩
  next => exact ⟨rfl, rfl, rfl⟩

theorem endSettle_routed {k : ScreenId} (hsettle : (p.screen k).settle = .settling) (htimer : (p.screen k).timer = 0) :
    routeChanged p (p.endSettle k) = false := by
  simp only [routeChanged, List.any_eq_false]
  intro j _
  obtain ⟨hsame, hshown, -⟩ := endSettle_kept hsettle htimer j
  simp [hsame, hshown]

/-- An event that ends a settle drives no screen anew. -/
theorem conclude_endSettle (hset : Settled p) {k : ScreenId} (hsettle : (p.screen k).settle = .settling)
    (htimer : (p.screen k).timer = 0) : conclude p (p.endSettle k) = (p.endSettle k).drivePins := by
  have hdriven (j : ScreenId) : ((p.endSettle k).screen j).driven = (p.endSettle k).drivenBy j := by
    obtain ⟨-, hshown, hdriven⟩ := endSettle_kept hsettle htimer j
    rw [hdriven, hset.1 j, drivenBy, drivenBy, hshown]
    simp
  rw [conclude_quiet hset (by simp) (by simp), concludeRouting, endSettle_routed hsettle htimer]
  exact congrArg drivePins (driveScreens_settled hdriven)

end Part

/-- Settles O17. -/
theorem gainFrameMovesGains : Obligations.GainFrameMovesGains := by
  unfold Obligations.GainFrameMovesGains
  refine ⟨fun first settlesLast s hheld => ?_, fun i s hheld hset hrefused => ?_, fun k s hheld hset ⟨hsettle, htimer⟩ => ?_⟩
  · refine completes_onEvent (f := fun p => p.gainFrame first settlesLast) rfl ?_
    rw [Part.event_unheld hheld]
    have hgains := (Part.gainFrame_gains s.part first settlesLast).conclude s.part
    obtain ⟨hblink, hrefused⟩ := Part.gainFrame_blink s.part first settlesLast
    refine ⟨fun k => ?_, by simpa using hblink, fun i => by simpa using hrefused i, ?_⟩
    · rw [hgains.gain k, Part.gainsMoved_slot]
      exact Part.nextGain_eq _ _
    · simp
  · refine completes_onEvent (f := fun p => p.refusedExpiry i) rfl ?_
    have hsame : Part.conclude s.part s.part = s.part.drivePins := Part.conclude_settled hset rfl rfl rfl
    have hindication : s.part.drivePins.sgu.indication.get i = s.part.indicationOf i := by simp [Part.drivePins_sgu]
    rw [Part.event_unheld hheld, Part.refusedExpiry, hsame]
    refine ⟨hindication, ?_, by simp [Part.drivePins_pins], Part.sameBut_drivePins _⟩
    rw [hindication]
    exact Part.indicationOf_unrefused hrefused
  · refine completes_onEvent (f := fun p => p.endSettle k) rfl ?_
    have hscreen (j : ScreenId) : (s.part.endSettle k).drivePins.screen j =
        if j = k then Part.steadied (s.part.screen k) else s.part.screen j := by
      rw [← Part.endSettle_screen hsettle htimer]
      simp [Part.screen]
    have hbut : SameBut [.screens, .notices] s.part (s.part.endSettle k) := by
      intro b hb
      cases b <;> simp_all [Piece.Same]
    rw [Part.event_unheld hheld, Part.conclude_endSettle hset hsettle htimer]
    refine ⟨(hscreen k).trans (if_pos rfl), ?_, fun j hj => (hscreen j).trans (if_neg hj), fun q => ?_,
      hbut.trans ((Part.sameBut_drivePins _).mono (by simp))⟩
    · have hself := Part.endSettle_screen hsettle htimer k
      rw [if_pos rfl] at hself
      simp [Part.drivePins_pins, hself, Part.steadied]
    · have hpins : (s.part.endSettle k).drivePins.notices q = (s.part.endSettle k).notices q := by simp
      rw [hpins, Part.endSettle_ends hsettle htimer, Part.notice_notices]
      rfl

end Sys2Proof.Machine
end

section
/-! Edges of a socket's sync line, measurements and overflows (R113 to R116, R119). -/

namespace Sys2Proof.Machine

namespace Part

variable {p : Part} {k : SocketId} {e : Edge} {ticks levelHeld : Nat} {first : Bool}

/-! ### An edge before the counter is full (R113, R114) -/

/-- The last of two writes to a socket's record stands. -/
theorem setSocket_setSocket (p : Part) (k : SocketId) (x y : Socket) : (p.setSocket k x).setSocket k y = p.setSocket k y := by
  have hsockets : setEntry (setEntry p.scu.sockets k x) k y = setEntry p.scu.sockets k y := by
    apply Vector.ext
    intro i hi
    by_cases h : k.val = i <;> simp [setEntry, h]
  exact congrArg (fun v => p.withScu { p.scu with sockets := v }) hsockets

/-- The edges taken alternate, and a level shorter than the filter is not seen (R113). -/
abbrev edgeTaken (x : Socket) (e : Edge) (levelHeld : Nat) : Prop := x.filter ≤ levelHeld ∧ x.lastEdge ≠ some e

/-- A socket whose counter has run on before an edge that is taken. -/
def edgeSeen (x : Socket) (e : Edge) (ticks : Nat) : Socket := { x with counter := x.counter + ticks, lastEdge := some e }

/-- A socket whose counter has run on before an edge that is taken away. -/
def edgeMissed (x : Socket) (e : Edge) (ticks : Nat) : Socket :=
  { x with counter := x.counter + ticks, lastEdge := some (x.lastEdge.getD (otherEdge e)) }

theorem takeEdge_missed (hcapturing : p.capturing k = true) (hticks : (p.socket k).counter + ticks < 65535)
    (h : ¬edgeTaken (p.socket k) e levelHeld) :
    p.takeEdge k e ticks levelHeld first = p.setSocket k (edgeMissed (p.socket k) e ticks) := by
  simp only [takeEdge, hcapturing, if_true, passTicks_counts p k ticks first hticks, setSocket_socket_self, setSocket_setSocket]
  rw [if_neg h, lateOverflow, setSocket_socket_self, if_neg (by simpa [Config.overflowTicks] using hticks)]
  rfl

theorem takeEdge_taken (hcapturing : p.capturing k = true) (hticks : (p.socket k).counter + ticks < 65535)
    (h : edgeTaken (p.socket k) e levelHeld) :
    p.takeEdge k e ticks levelHeld first =
      ((p.setSocket k (edgeSeen (p.socket k) e ticks)).edgeActs k (e = (p.socket k).edge)).lateOverflow k := by
  simp only [takeEdge, hcapturing, if_true, passTicks_counts p k ticks first hticks, setSocket_socket_self, setSocket_setSocket]
  rw [if_pos h]
  rfl

theorem lateOverflow_early (h : (p.socket k).counter < 65535) : p.lateOverflow k = p := by
  rw [lateOverflow, if_neg (by simpa [Config.overflowTicks] using h)]

theorem takeEdge_first (hcapturing : p.capturing k = true) (hticks : (p.socket k).counter + ticks < 65535)
    (h : edgeTaken (p.socket k) e levelHeld) (hphase : (p.socket k).phase = .waitFirst) (hedge : e = (p.socket k).edge) :
    p.takeEdge k e ticks levelHeld first =
      p.setSocket k { p.socket k with counter := 0, phase := .waitInactive, lastEdge := some e } := by
  have hacts : (p.setSocket k (edgeSeen (p.socket k) e ticks)).edgeActs k (e = (p.socket k).edge) =
      p.setSocket k { p.socket k with counter := 0, phase := .waitInactive, lastEdge := some e } := by
    simp [edgeActs, edgeSeen, hphase, ← hedge, setSocket_setSocket]
  rw [takeEdge_taken hcapturing hticks h, hacts, lateOverflow_early (by simp)]

theorem takeEdge_inactive (hcapturing : p.capturing k = true) (hticks : (p.socket k).counter + ticks < 65535)
    (h : edgeTaken (p.socket k) e levelHeld) (hphase : (p.socket k).phase = .waitInactive) (hedge : e ≠ (p.socket k).edge) :
    p.takeEdge k e ticks levelHeld first = p.setSocket k { p.socket k with
      counter := (p.socket k).counter + ticks, width := (p.socket k).counter + ticks, phase := .waitActive, lastEdge := some e } := by
  have hacts : (p.setSocket k (edgeSeen (p.socket k) e ticks)).edgeActs k (e = (p.socket k).edge) = p.setSocket k { p.socket k with
      counter := (p.socket k).counter + ticks, width := (p.socket k).counter + ticks, phase := .waitActive, lastEdge := some e } := by
    simp [edgeActs, edgeSeen, hphase, hedge, setSocket_setSocket]
  rw [takeEdge_taken hcapturing hticks h, hacts, lateOverflow_early (by simpa using hticks)]

/-! ### The active edge that ends a period (R114, R116, R119) -/

/-- A socket at the measurement that an active edge completes, before its state takes it. -/
def measured (p : Part) (k : SocketId) (ticks : Nat) : Socket :=
  { p.socket k with
    counter := 0, phase := .waitInactive, period := (p.socket k).counter + ticks, lastEdge := some (p.socket k).edge
    entry := (classify p.scu.rates (p.socket k).width ((p.socket k).counter + ticks)).2 }

theorem takeEdge_measures (hcapturing : p.capturing k = true) (hticks : (p.socket k).counter + ticks < 65535)
    (h : edgeTaken (p.socket k) (p.socket k).edge levelHeld) (hphase : (p.socket k).phase = .waitActive) :
    (p.takeEdge k (p.socket k).edge ticks levelHeld first).socket k =
      sourceStep p.scu.agree p.scu.drop (p.measured k ticks)
        (.measurement (classify p.scu.rates (p.socket k).width ((p.socket k).counter + ticks)).1) := by
  have hcounter (n m : Nat) (x : Socket) (c : SourceClass) : (sourceStep n m x (.measurement c)).counter = x.counter := by
    simp only [sourceStep]
    (repeat' split) <;> simp only [seek] <;> (repeat' split) <;> rfl
  have hacts : ((p.setSocket k (edgeSeen (p.socket k) (p.socket k).edge ticks)).edgeActs k
      ((p.socket k).edge = (p.socket k).edge)).socket k = sourceStep p.scu.agree p.scu.drop (p.measured k ticks)
        (.measurement (classify p.scu.rates (p.socket k).width ((p.socket k).counter + ticks)).1) := by
    simp [edgeActs, edgeSeen, hphase, measure, captureEvent, measured]
  rw [takeEdge_taken hcapturing hticks h, lateOverflow_early, hacts]
  rw [hacts, hcounter]
  simp [measured]

/-- What a measurement leaves of a socket, and the class that its state then has (R119). -/
theorem sourceStep_measurement (n m : Nat) (x : Socket) (c : SourceClass) :
    (sourceStep n m x (.measurement c)).period = x.period ∧ (sourceStep n m x (.measurement c)).counter = x.counter ∧
      (sourceStep n m x (.measurement c)).phase = x.phase ∧ (sourceStep n m x (.measurement c)).width = x.width ∧
      (sourceStep n m x (.measurement c)).entry = x.entry ∧ (sourceStep n m x (.measurement c)).cls = c := by
  have hseek : (seek n x c).period = x.period ∧ (seek n x c).counter = x.counter ∧ (seek n x c).phase = x.phase ∧
      (seek n x c).width = x.width ∧ (seek n x c).entry = x.entry ∧ (seek n x c).cls = c := by
    unfold seek
    split <;> simp
  cases hstate : x.state with
  | none => simpa [sourceStep, hstate] using hseek
  | seeking =>
    by_cases hc : c = x.cls
    · by_cases hn : n ≤ x.agree + 1 <;> simp [sourceStep, hstate, hc, hn]
    · simpa [sourceStep, hstate, hc] using hseek
  | live =>
    by_cases hc : c = x.cls
    · simp [sourceStep, hstate, hc]
    · simpa [sourceStep, hstate, hc] using hseek
  | dropping =>
    by_cases hc : c = x.cls
    · simp [sourceStep, hstate, hc]
    · simpa [sourceStep, hstate, hc] using hseek

/-- The lowest-numbered entry that matches gives the class (R116). -/
theorem classify_spec (t : Vector Rate 8) (width period : Nat) :
    ((classify t width period).2 = 0 ↔ ∀ i, matchesRate (t.get i) width period = false) ∧
      (∀ i : Fin 8, (classify t width period).2 = i.val + 1 →
        matchesRate (t.get i) width period = true ∧ (classify t width period).1 = .id (t.get i).cls ∧
          ∀ j : Fin 8, j < i → matchesRate (t.get j) width period = false) ∧
      ((classify t width period).2 = 0 → (classify t width period).1 = .unsupported) := by
  unfold classify
  split
  next i hi =>
    obtain ⟨hmatch, before, after, hsplit, hnone⟩ := List.find?_eq_some_iff_append.mp hi
    refine ⟨?_, fun a ha => ?_, fun h => by simp at h⟩
    · simp only [Nat.add_eq_zero_iff, one_ne_zero, and_false, false_iff, not_forall]
      exact ⟨i, by simp [hmatch]⟩
    · obtain rfl : i = a := Fin.ext (by simpa using ha)
      refine ⟨hmatch, rfl, fun j hj => ?_⟩
      have hmem : j ∈ before := by
        have hsorted : (List.finRange 8).Pairwise (· < ·) := List.pairwise_lt_finRange 8
        have hall : j ∈ List.finRange 8 := List.mem_finRange j
        rw [hsplit] at hsorted hall
        rcases List.mem_append.mp hall with h | h
        · exact h
        · obtain rfl | h := List.mem_cons.mp h
          · exact absurd hj (lt_irrefl _)
          · exact absurd ((List.pairwise_cons.mp (List.pairwise_append.mp hsorted).2.1).1 j h) (not_lt.mpr hj.le)
      simpa using hnone j hmem
  next hnone =>
    refine ⟨?_, fun i hi => by simp at hi, fun _ => rfl⟩
    simpa using hnone

end Part

/-- Settles O19. -/
theorem edgeMovesPhase : Obligations.EdgeMovesPhase := by
  unfold Obligations.EdgeMovesPhase
  have hwritten {s : State} {k : SocketId} {e : Edge} {ticks levelHeld : Nat} {first : Bool} {x : Socket}
      (hheld : s.part.isHeld = false) (hset : Settled s.part) (h : s.part.takeEdge k e ticks levelHeld first = s.part.setSocket k x) :
      Completes (.edgeTaken k e ticks levelHeld first) s fun t => t.socket k = x ∧ SameBut [.sockets] s.part t := by
    refine completes_onEvent (f := fun p => p.takeEdge k e ticks levelHeld first) rfl ?_
    rw [Part.event_unheld hheld, h, Part.conclude_settled hset (by simp) (by simp) (by simp)]
    exact ⟨by simp [Part.socket, Part.setSocket], (Part.sameBut_setSocket _ _ _).trans ((Part.sameBut_drivePins _).mono (by simp))⟩
  refine fun k e ticks levelHeld first s hheld hset hcapturing hticks => ⟨fun hmissed => ?_, fun hfilter hlast =>
    ⟨fun hphase hedge => ?_, fun hphase hedge => ?_⟩⟩
  · have hedge : Part.otherEdge e = if e = .rising then .falling else .rising := by cases e <;> rfl
    rw [← hedge]
    refine hwritten hheld hset (Part.takeEdge_missed hcapturing hticks ?_)
    rintro ⟨hfilter, hlast⟩
    obtain h | h := hmissed
    · omega
    · exact hlast h
  · exact hwritten hheld hset (Part.takeEdge_first hcapturing hticks ⟨hfilter, hlast⟩ hphase hedge)
  · exact hwritten hheld hset (Part.takeEdge_inactive hcapturing hticks ⟨hfilter, hlast⟩ hphase hedge)

namespace Part

variable {p : Part} {k : SocketId}

/-! ### Overflows (R115, R119, R128) -/

/-- The state after an overflow, by the state before it (R119). -/
theorem overflowed_state (p : Part) (k : SocketId) : (p.overflowed k).state =
    match (p.socket k).state with
    | .none => .none
    | .seeking => .none
    | .live => if p.scu.drop ≤ 1 then .none else .dropping
    | .dropping => if p.scu.drop ≤ (p.socket k).drop + 1 then .none else .dropping := by
  cases h : (p.socket k).state <;> simp only [overflowed, sourceStep, h]
  · rfl
  · split <;> rfl
  · split
    · rfl
    · rfl

/-- A socket that an overflow takes to NONE is not routable, and SOURCE is raised (R120, R128). -/
theorem overflow_none (hcapturing : p.capturing k = true) (hold : (p.socket k).state ≠ .none) (hnew : (p.overflowed k).state = .none) :
    (p.overflow k).isRoutable (socketInput k) = false ∧ ∀ q, ((p.overflow k).notices q).1 &&& 8 ≠ 0 := by
  rw [overflow_eq hcapturing]
  refine ⟨putSocket_none hnew hold, fun q => ?_⟩
  have hlive : socketLive (p.overflowed k) = false := by simp [socketLive, hnew]
  have hput : p.putSocket k (p.overflowed k) =
      ((p.setSocket k (p.overflowed k)).notice .source).setRoutable (markIndex k) false := by
    simp [putSocket, handSource, hnew, hold, hlive, routableAfter]
  have hkept (u : Part) : (u.setRoutable (markIndex k) false).notices = u.notices := by simp
  rw [hput, hkept, notice_notices]
  exact mark_raised _ (by decide)

end Part

/-- Settles O20. -/
theorem edgesMeasureAndOverflowsDrop : Obligations.EdgesMeasureAndOverflowsDrop := by
  unfold Obligations.EdgesMeasureAndOverflowsDrop
  refine ⟨fun k ticks levelHeld first s hheld hcapturing ⟨hticks, hfilter, hlast⟩ hphase => ?_, fun k s hheld hcapturing => ?_⟩
  · refine completes_onEvent (f := fun p => p.takeEdge k (s.part.socket k).edge ticks levelHeld first) rfl ?_
    rw [Part.event_unheld hheld, Part.conclude_socket, Part.takeEdge_measures hcapturing hticks ⟨hfilter, hlast⟩ hphase]
    set c := classify s.part.scu.rates (s.part.socket k).width ((s.part.socket k).counter + ticks) with hc
    obtain ⟨hperiod, hcounter, hphase', hwidth, hentry, hcls⟩ :=
      Part.sourceStep_measurement s.part.scu.agree s.part.scu.drop (s.part.measured k ticks) c.1
    obtain ⟨hnone, hmatch, hunsupported⟩ :=
      Part.classify_spec s.part.scu.rates (s.part.socket k).width ((s.part.socket k).counter + ticks)
    rw [hperiod, hcounter, hphase', hwidth, hentry, hcls]
    refine ⟨rfl, rfl, rfl, rfl, hnone, hmatch, hunsupported, fun hstate hagree => ?_, fun hstate hsame hagree => ?_,
      fun hstate hsame => ?_⟩
    · have hmeasured : (s.part.measured k ticks).state = .none := hstate
      simp only [sourceStep, hmeasured, seek, if_neg (Nat.not_le.mpr hagree)]
      exact ⟨trivial, trivial⟩
    · have hmeasured : (s.part.measured k ticks).state = .seeking := hstate
      have hclass : c.1 = (s.part.measured k ticks).cls := hsame
      have hcount : s.part.scu.agree ≤ (s.part.measured k ticks).agree + 1 := hagree
      simp only [sourceStep, hmeasured, if_pos hclass, if_pos hcount]
    · have hmeasured : (s.part.measured k ticks).state = .live := hstate
      have hclass : c.1 = (s.part.measured k ticks).cls := hsame
      simp only [sourceStep, hmeasured, if_pos hclass]
  · refine completes_onEvent (f := fun p => p.overflow k) rfl ?_
    have hself : (s.part.overflow k).socket k = s.part.overflowed k := by rw [Part.overflow_eq hcapturing, Part.putSocket_socket_self]
    obtain ⟨hcounter, hphase, -⟩ := Part.overflowed_keeps s.part k
    rw [Part.event_unheld hheld]
    simp only [Part.conclude_socket, hself]
    refine ⟨hcounter, hphase, ?_, fun hold hnew => ?_, fun j hj => Part.overflow_socket_ne _ hj⟩
    · exact Part.overflowed_state s.part k
    · obtain ⟨hroutable, hflags⟩ := Part.overflow_none hcapturing hold hnew
      refine ⟨?_, fun q => Part.conclude_flag (hflags q)⟩
      rw [← hroutable]
      simp [Part.isRoutable, Part.conclude]

end Sys2Proof.Machine
end

section
/-! What a session's openings and ends leave of the seats and the floor: no seat's presence or key, no seat joins the queue,
and no slot opens (R63, R64, R165, R166, R173, R174). -/

namespace Sys2Proof.Machine

/-- A slot that another becomes but for its close: its holder, its warned mark and its elapsed time stand. -/
def Part.SlotShut (a b : Slot) : Prop :=
  b.elapsed = a.elapsed ∧ b.warned = a.warned ∧ b.holder = a.holder ∧
    (b.state = a.state ∨ (Part.isOpenState a.state = true ∧ b.state = .closing))

theorem Part.SlotShut.refl (a : Slot) : Part.SlotShut a a := ⟨rfl, rfl, rfl, .inl rfl⟩

theorem Part.SlotShut.trans {a b c : Slot} (h : Part.SlotShut a b) (h' : Part.SlotShut b c) : Part.SlotShut a c := by
  obtain ⟨helapsed, hwarned, hholder, hstate⟩ := h
  obtain ⟨helapsed', hwarned', hholder', hstate'⟩ := h'
  refine ⟨helapsed'.trans helapsed, hwarned'.trans hwarned, hholder'.trans hholder, ?_⟩
  obtain hsame | ⟨hopen, hclosing⟩ := hstate
  · rwa [hsame] at hstate'
  · obtain hsame | ⟨hopen', hclosing'⟩ := hstate'
    · exact .inr ⟨hopen, hsame.trans hclosing⟩
    · exact .inr ⟨hopen, hclosing'⟩

theorem Part.SlotShut.opened {a b : Slot} (h : Part.SlotShut a b) (hb : Part.isOpenState b.state = true) :
    Part.isOpenState a.state = true := by
  obtain ⟨-, -, -, hsame | ⟨hopen, -⟩⟩ := h
  · rwa [← hsame]
  · exact hopen

/-- Presence, keys and the occupied count are the same in two parts, no queue entry is new, and the slots stand but for closes. -/
structure Unopened (p t : Part) : Prop where
  seats : ∀ j, (t.seat j).presence = (p.seat j).presence ∧ (t.seat j).absence = (p.seat j).absence ∧
    (t.seat j).key = (p.seat j).key ∧ (t.seat j).installed = (p.seat j).installed
  occupied : t.smn.occupied = p.smn.occupied
  slots : ∀ k, Part.SlotShut (p.slotData k) (t.slotData k)
  queue : ∀ j, t.isQueued j = true → p.isQueued j = true

namespace Unopened

variable {p q t : Part}

theorem refl (p : Part) : Unopened p p := ⟨fun _ => ⟨rfl, rfl, rfl, rfl⟩, rfl, fun _ => .refl _, fun _ h => h⟩

theorem trans (h : Unopened p q) (h' : Unopened q t) : Unopened p t where
  seats j := by
    obtain ⟨hpresence, habsence, hkey, hinstalled⟩ := h.seats j
    obtain ⟨hpresence', habsence', hkey', hinstalled'⟩ := h'.seats j
    exact ⟨hpresence'.trans hpresence, habsence'.trans habsence, hkey'.trans hkey, hinstalled'.trans hinstalled⟩
  occupied := h'.occupied.trans h.occupied
  slots k := (h.slots k).trans (h'.slots k)
  queue j hj := h.queue j (h'.queue j hj)

/-- An operation that leaves the seats, the slots and the queue. -/
theorem same {bs : List Piece} (h : Unopened p q) (ht : SameBut bs q t) (hseats : .seats ∉ bs) (hoccupied : .occupied ∉ bs)
    (hslots : .slots ∉ bs) (hqueue : .queue ∉ bs) : Unopened p t := by
  refine h.trans ⟨fun j => ?_, ht.occupied hoccupied, fun k => ?_, fun j hj => ?_⟩
  · rw [ht.seat hseats]
    exact ⟨rfl, rfl, rfl, rfl⟩
  · rw [ht.slotData hslots]
    exact .refl _
  · rwa [Part.isQueued_eq (ht.queue hqueue)] at hj

/-- The count of occupied seats is a count of presences. -/
theorem occupiedSeats (h : Unopened p t) : t.occupiedSeats = p.occupiedSeats := by
  unfold Part.occupiedSeats
  congr 1
  refine List.filter_congr fun j _ => ?_
  obtain ⟨hpresence, -, -, hinstalled⟩ := h.seats j
  rw [hpresence, hinstalled]

theorem notice (h : Unopened p q) (c : Category) : Unopened p (q.notice c) := by
  refine h.same (bs := [.notices]) (fun b hb => ?_) (by simp) (by simp) (by simp) (by simp)
  cases b <;> simp_all [Piece.Same]

theorem withSsu (h : Unopened p q) (x : Ssu) : Unopened p (q.withSsu x) :=
  h.trans ⟨fun _ => ⟨rfl, rfl, rfl, rfl⟩, rfl, fun _ => .refl _, fun _ hj => hj⟩

@[simp] theorem putSession (h : Unopened p q) (x : Option Session) : Unopened p (q.putSession x) :=
  h.same (Part.sameBut_putSession q x) (by simp) (by simp) (by simp) (by simp)

@[simp] theorem setPendingStart (h : Unopened p q) (x : Option Nat) : Unopened p (q.setPendingStart x) :=
  h.same (Part.sameBut_setPendingStart q x) (by simp) (by simp) (by simp) (by simp)

@[simp] theorem openFloor (h : Unopened p q) : Unopened p q.openFloor :=
  h.same (Part.sameBut_openFloor q) (by simp) (by simp) (by simp) (by simp)

@[simp] theorem applyFloorPreset (h : Unopened p q) (f : FloorPreset) : Unopened p (q.applyFloorPreset f) :=
  h.same (Part.sameBut_applyFloorPreset q f) (by simp) (by simp) (by simp) (by simp)

@[simp] theorem takeSettings (h : Unopened p q) (v : Vector ScreenSettings 4) : Unopened p (q.takeSettings v) :=
  h.same (Part.sameBut_takeSettings q v) (by simp) (by simp) (by simp) (by simp)

@[simp] theorem applyPreset (h : Unopened p q) (n : Fin 4) : Unopened p (q.applyPreset n) := h.takeSettings _

@[simp] theorem routeClose (h : Unopened p q) (b : Bool) : Unopened p (q.routeClose b) := h.takeSettings _

@[simp] theorem markEntry (h : Unopened p q) (id : Nat) (old new : EntryStatus) : Unopened p (q.markEntry id old new) := by
  refine h.same (bs := [.banks, .notices]) (fun b hb => ?_) (by simp) (by simp) (by simp) (by simp)
  cases b <;> simp_all [Piece.Same]

@[simp] theorem writeSummary (h : Unopened p q) (x : Summary) : Unopened p (q.writeSummary x) := by
  refine h.same (bs := [.store, .notices]) (fun b hb => ?_) (by simp) (by simp) (by simp) (by simp)
  cases b <;> simp_all [Piece.Same]

@[simp] theorem clearCounters (h : Unopened p q) : Unopened p q.clearCounters := by
  have hslot : q.clearCounters.slotData = q.slotData := Part.slotData_of_slots (by simp)
  have hqueue : q.clearCounters.isQueued = q.isQueued := Part.isQueued_eq (by simp)
  refine h.trans ⟨fun j => ?_, by simp, fun k => by rw [hslot]; exact .refl _, fun j hj => hqueue ▸ hj⟩
  simp [Part.clearCounters, Part.seat]

@[simp] theorem closeFloor (h : Unopened p q) : Unopened p q.closeFloor := by
  have hsmn : q.closeFloor.smn = q.smn := by simp
  refine h.trans ⟨fun j => ?_, by simp, fun k => ?_, fun j hj => ?_⟩
  · rw [Part.seat, hsmn]
    exact ⟨rfl, rfl, rfl, rfl⟩
  · rw [Part.closeFloor_data, Part.floorClosedSlot]
    split
    · exact .refl _
    next hfree =>
      refine ⟨rfl, rfl, rfl, ?_⟩
      generalize q.slotData k = x at hfree
      cases hstate : x.state <;> simp_all [Part.closedFor, Part.isOpenState]
  · simp [Part.isQueued, Part.closeFloor_queue] at hj

/-! ### Sessions -/

@[simp] theorem enterWindup (h : Unopened p q) (r : CloseReason) : Unopened p (q.enterWindup r) := by
  unfold Part.enterWindup
  split
  · exact (h.putSession _).closeFloor
  · exact h

@[simp] theorem stageStep (h : Unopened p q) : Unopened p q.stageStep := by
  simp only [Part.stageStep]
  (repeat' split) <;> simp [h]

@[simp] theorem enterSession (h : Unopened p q) (x : Session) : Unopened p (q.enterSession x) :=
  (h.putSession _).openFloor.stageStep

@[simp] theorem checkIn (h : Unopened p q) : Unopened p q.checkIn := by
  unfold Part.checkIn
  (repeat' split) <;> simp [h]

@[simp] theorem openBooked (h : Unopened p q) (b : Booking) : Unopened p (q.openBooked b) := by
  have hset := ((((h.putSession (some (q.bookedSession b))).markEntry b.id .pending .active).setPendingStart none).applyFloorPreset
    b.floor).applyPreset b.screen
  simp only [Part.openBooked]
  split
  · exact (hset.withSsu _).checkIn
  · exact (hset.withSsu _).enterSession _

@[simp] theorem openPending (h : Unopened p q) : Unopened p q.openPending := by
  unfold Part.openPending
  (repeat' split) <;> simp [h]

@[simp] theorem closeRecords (h : Unopened p q) (x : Session) (r : CloseReason) : Unopened p (q.closeRecords x r) := by
  simp only [Part.closeRecords]
  split
  · exact (h.writeSummary _).clearCounters.markEntry _ _ _
  · exact (h.writeSummary _).clearCounters

@[simp] theorem closeSession (h : Unopened p q) (x : Session) (r : CloseReason) : Unopened p (q.closeSession x r) :=
  (((h.closeRecords x r).routeClose _).applyFloorPreset _).putSession _

@[simp] theorem closeWindup (h : Unopened p q) : Unopened p q.closeWindup := by
  unfold Part.closeWindup
  (repeat' split) <;> simp [h]

@[simp] theorem completeWindup (h : Unopened p q) : Unopened p q.completeWindup := by
  unfold Part.completeWindup
  split
  · split
    · exact h.closeWindup.openPending.closeWindup
    · exact h
  · exact h

@[simp] theorem openWalkIn (h : Unopened p q) : Unopened p q.openWalkIn :=
  ((((h.putSession _).applyFloorPreset _).applyPreset 0).withSsu _).enterSession _

@[simp] theorem walkInTest (h : Unopened p q) : Unopened p q.walkInTest := by
  unfold Part.walkInTest
  split <;> simp [h]

@[simp] theorem concludeDwell (h : Unopened p q) (before : Part) : Unopened p (Part.concludeDwell before q) := by
  unfold Part.concludeDwell
  split
  · exact h.withSsu _
  · split <;> simp [h]

@[simp] theorem conclude (h : Unopened p q) (before : Part) : Unopened p (Part.conclude before q) :=
  ((h.concludeDwell before).same (Part.sameBut_concludeRouting before _) (by simp) (by simp) (by simp) (by simp)).same
    (Part.sameBut_drivePins _) (by simp) (by simp) (by simp) (by simp)

@[simp] theorem checkInTest (h : Unopened p q) : Unopened p q.checkInTest := h.checkIn.completeWindup

@[simp] theorem occupiedChanged (h : Unopened p q) (old : Nat) : Unopened p (q.occupiedChanged old) := by
  unfold Part.occupiedChanged
  split
  · exact (h.withSsu _).checkInTest
  · exact h

end Unopened

end Sys2Proof.Machine
end

section
/-! A change of a seat's presence, the end of the absence grace, and the chair next (R48, R51, R52, R56, R76, R88). -/

namespace Sys2Proof.Machine

namespace Part

variable {p t : Part} {i : SeatId} {y : Presence} {n : Nat}

/-! ### A change of presence (R51, R52, R88) -/

/-- A seat with another presence and absence timer. -/
def presenceSet (x : Seat) (y : Presence) (n : Nat) : Seat := { x with presence := y, absence := n }

/-- The occupied count brought up to date, before SSU takes it (R51). -/
def recounted (p : Part) : Part := p.withSmn { p.smn with occupied := p.occupiedSeats }

theorem unopened_clearQuiet (p : Part) : Unopened p p.clearQuiet :=
  ⟨fun _ => ⟨rfl, rfl, rfl, rfl⟩, rfl, fun _ => .refl _, fun _ h => h⟩

/-- What SSU and PWU make of the new count opens no slot and leaves the seats. -/
theorem unopened_updateCount (p : Part) : Unopened p.recounted p.updateCount := by
  simp only [updateCount]
  split
  · exact .refl _
  · split
    · exact ((unopened_clearQuiet p.recounted).occupiedChanged _).concludeDwell _
    · exact ((Unopened.refl p.recounted).occupiedChanged _).concludeDwell _

/-- A part with the new presence of a seat, before the count follows. -/
def presenceChanged (p : Part) (i : SeatId) (y : Presence) (n : Nat) : Part :=
  let r := (p.setSeat i (presenceSet (p.seat i) y n)).notice .seat
  if y = .vacant then r.seatVacant i else r

theorem changePresence_eq (h : y ≠ (p.seat i).presence) (n : Nat) :
    p.changePresence i y n = (p.presenceChanged i y n).updateCount := by
  simp only [changePresence, if_neg h, presenceChanged]
  rfl

theorem changePresence_same (h : y = (p.seat i).presence) (n : Nat) :
    p.changePresence i y n = p.setSeat i (presenceSet (p.seat i) y n) := by
  simp only [changePresence, if_pos h]
  rfl

/-- A seat that becomes VACANT leaves the queue, and its open slot closes with reason ABSENT (R88). -/
theorem seatVacant_slotData (p : Part) (i : SeatId) (k : SlotId) :
    (p.seatVacant i).slotData k =
      if p.slotOf i = some k ∧ isOpenState (p.slot k).state = true then closedFor .absent (p.slotData k) else p.slotData k := by
  have hslots : (p.leaveQueue i).sgu.slots = p.sgu.slots := by simp
  simp only [seatVacant, slotOf_eq hslots]
  have hleft : (p.leaveQueue i).slotData = p.slotData := slotData_of_slots hslots
  have hslot : (p.leaveQueue i).slot = p.slot := slot_eq hslots
  cases hof : p.slotOf i with
  | none => simp [hleft]
  | some j =>
    simp only
    cases hopen : isOpenState (p.slot j).state with
    | true =>
      rw [close_data (by rw [hslot]; exact hopen), hleft]
      by_cases hk : k = j
      · simp [hk, hopen]
      · simp [hk, Ne.symm hk]
    | false =>
      rw [close_closed (by rw [hslot]; exact hopen), hleft, if_neg]
      rintro ⟨heq, hk⟩
      obtain rfl := Option.some.inj heq
      simp [hopen] at hk

theorem seatVacant_queue (p : Part) (i : SeatId) : (p.seatVacant i).flc.queue = p.flc.queue.filter fun e => e.seat ≠ i := by
  simp only [seatVacant]
  split <;> simp [leaveQueue]

theorem seatVacant_openOrder {k : SlotId} (hof : p.slotOf i = some k) (hopen : isOpenState (p.slot k).state = true) :
    (p.seatVacant i).flc.openOrder = p.flc.openOrder.filter fun j => j ≠ k := by
  have hslots : (p.leaveQueue i).sgu.slots = p.sgu.slots := by simp
  simp only [seatVacant, slotOf_eq hslots, hof]
  rw [close_openOrder (by rw [slot_eq hslots]; exact hopen)]
  simp

theorem sameBut_seatVacant (p : Part) (i : SeatId) :
    SameBut [.queue, .slots, .openOrder, .screens, .speakers, .notices] p (p.seatVacant i) := by
  intro b hb
  cases b <;> simp_all [Piece.Same]

theorem unopened_presenceChanged (p : Part) (i : SeatId) (n : Nat) (j : SeatId) :
    ((p.presenceChanged i .vacant n).recounted.seat j) = if j = i then presenceSet (p.seat i) .vacant n else p.seat j := by
  have hseat : (p.presenceChanged i .vacant n).seat = (p.setSeat i (presenceSet (p.seat i) .vacant n)).seat :=
    ((sameBut_seatVacant _ i).seat (by simp)).trans (seat_eq (by simp))
  exact (congrFun hseat j).trans (setSeat_seat p i j _)

/-! ### The new count in a session that it neither opens nor ends (R166, R168, R177) -/

/-- A session as SSU takes a change of the occupied count from `old`. -/
def recountedSession (p : Part) (old : Nat) (x : Session) : Session :=
  { x with
    peak := max x.peak p.smn.occupied
    vacancy := if old = 0 ∧ runningState x.state then 0 else x.vacancy }

theorem occupiedChanged_eq {x : Session} (hsession : p.ssu.session = some x) (old : Nat) :
    p.occupiedChanged old = (p.setSession (some (p.recountedSession old x))).checkInTest := by
  simp only [occupiedChanged, hsession]
  rfl

/-- A session that waits for more seats than it has, or that has been checked in, is left by the check-in test (R166). -/
theorem checkInTest_stays {x : Session} (hsession : p.ssu.session = some x) (hwindup : x.state ≠ .windup)
    (hwaits : x.state = .awaiting → ∀ c ∈ x.copy, p.smn.occupied < c.quorum) : p.checkInTest = p := by
  have hcheck : p.checkIn = p := by
    simp only [checkIn, hsession]
    split
    next c hc =>
      rw [if_neg]
      rintro ⟨hstate, hquorum⟩
      exact absurd hquorum (Nat.not_le.mpr (hwaits hstate c hc))
    next => rfl
  rw [checkInTest, hcheck]
  refine completeWindup_stays fun y hy => ?_
  rw [hsession] at hy
  obtain rfl := Option.mem_some.mp hy
  exact hwindup

theorem sameBut_setSession (p : Part) (x : Option Session) : SameBut [.session] p (p.setSession x) := by
  intro b hb
  cases b <;> simp_all [Piece.Same]

theorem sameBut_recounted (p : Part) : SameBut [.occupied] p p.recounted := by
  intro b hb
  cases b <;> simp_all [Piece.Same, recounted]

theorem sameBut_clearQuiet (p : Part) : SameBut [.quiet] p p.clearQuiet := by
  intro b hb
  cases b <;> simp_all [Piece.Same]

theorem concludeDwell_open {x : Session} (hsession : p.ssu.session = some x) (before : Part) :
    SameBut [.dwell] p (concludeDwell before p) := by
  rw [concludeDwell, walkInReady_open hsession]
  exact sameBut_setDwell p 0

/-- The part as SSU takes a change of the count, which clears the quiet timer when it was 0 (R199). -/
def countTaken (p : Part) : Part := if p.smn.occupied = 0 then p.recounted.clearQuiet else p.recounted

theorem updateCount_same (h : p.occupiedSeats = p.smn.occupied) : p.updateCount = p.recounted := by
  simp only [updateCount]
  exact if_pos h

theorem updateCount_changed (h : p.occupiedSeats ≠ p.smn.occupied) :
    p.updateCount = concludeDwell p (p.countTaken.occupiedChanged p.smn.occupied) := by
  simp only [updateCount]
  exact if_neg h

theorem sameBut_countTaken (p : Part) : SameBut [.quiet] p.recounted p.countTaken := by
  unfold countTaken
  split
  · exact sameBut_clearQuiet _
  · exact .refl _ _

theorem countTaken_occupied (p : Part) : p.countTaken.smn.occupied = p.occupiedSeats := by
  unfold countTaken
  split <;> rfl

/-- A session that a change of the count leaves open keeps its record but for the peak and the vacancy timer (R168, R177). -/
theorem occupiedChanged_stays {x : Session} (hsession : p.ssu.session = some x) (hwindup : x.state ≠ .windup)
    (hwaits : x.state = .awaiting → ∀ c ∈ x.copy, p.occupiedSeats < c.quorum) :
    p.countTaken.occupiedChanged p.smn.occupied =
      p.countTaken.setSession (some (p.countTaken.recountedSession p.smn.occupied x)) := by
  rw [occupiedChanged_eq (((sameBut_countTaken p).session (by simp)).trans hsession)]
  refine checkInTest_stays (x := p.countTaken.recountedSession p.smn.occupied x) rfl hwindup fun hstate c hc => ?_
  rw [setSession_smn, countTaken_occupied]
  exact hwaits hstate c hc

/-- Of a session that the count leaves open, the change of the count reaches no more than its record, the count and the
timers. -/
theorem updateCount_stays {x : Session} (hsession : p.ssu.session = some x) (hwindup : x.state ≠ .windup)
    (hwaits : x.state = .awaiting → ∀ c ∈ x.copy, p.occupiedSeats < c.quorum) :
    SameBut [.occupied, .quiet, .session, .dwell] p p.updateCount ∧
      p.updateCount.ssu.session = some (if p.occupiedSeats = p.smn.occupied then x
        else p.countTaken.recountedSession p.smn.occupied x) := by
  by_cases hsame : p.occupiedSeats = p.smn.occupied
  · rw [updateCount_same hsame, if_pos hsame]
    exact ⟨(sameBut_recounted p).mono (by simp), hsession⟩
  · have hset := occupiedChanged_stays hsession hwindup hwaits
    have hend := concludeDwell_open (p := p.countTaken.occupiedChanged p.smn.occupied)
      (x := p.countTaken.recountedSession p.smn.occupied x) (by rw [hset]; rfl) p
    rw [updateCount_changed hsame, if_neg hsame]
    refine ⟨?_, (hend.session (by simp)).trans (by rw [hset]; rfl)⟩
    rw [hset] at hend ⊢
    exact ((sameBut_recounted p).mono (by simp)).trans (((sameBut_countTaken p).mono (by simp)).trans
      (((sameBut_setSession _ _).mono (by simp)).trans (hend.mono (by simp))))

/-! ### The end of the absence grace (R48) -/

theorem absenceExpiry_ends (haway : (p.seat i).presence = .away) (hgrace : p.smn.grace ≤ (p.seat i).absence) :
    p.absenceExpiry i = (p.presenceChanged i .vacant 0).updateCount := by
  rw [absenceExpiry, if_pos ⟨haway, hgrace⟩, changePresence_eq (by rw [haway]; decide)]

theorem presenceChanged_vacant (p : Part) (i : SeatId) (n : Nat) :
    p.presenceChanged i .vacant n = ((p.setSeat i (presenceSet (p.seat i) .vacant n)).notice .seat).seatVacant i := rfl

theorem presenceChanged_queue (p : Part) (i : SeatId) (n : Nat) : (p.presenceChanged i .vacant n).isQueued i = false := by
  rw [presenceChanged_vacant, isQueued, seatVacant_queue]
  simp

/-- A seat's slots are known before its presence changes. -/
theorem presenceSet_slots (p : Part) (i : SeatId) (x : Seat) :
    ((p.setSeat i x).notice .seat).slotOf = p.slotOf ∧ ((p.setSeat i x).notice .seat).slot = p.slot ∧
      ((p.setSeat i x).notice .seat).slotData = p.slotData :=
  ⟨slotOf_eq (by simp), slot_eq (by simp), slotData_of_slots (by simp)⟩

theorem presenceChanged_slotData (p : Part) (i : SeatId) (n : Nat) (k : SlotId) :
    (p.presenceChanged i .vacant n).slotData k =
      if p.slotOf i = some k ∧ isOpenState (p.slot k).state = true then closedFor .absent (p.slotData k) else p.slotData k := by
  obtain ⟨hof, hslot, hdata⟩ := presenceSet_slots p i (presenceSet (p.seat i) .vacant n)
  rw [presenceChanged_vacant, seatVacant_slotData, hof, hslot, hdata]

/-- The slot of a seat that has become VACANT is not open. -/
theorem presenceChanged_closed {k : SlotId} (hof : p.slotOf i = some k) (n : Nat) :
    isOpenState ((p.presenceChanged i .vacant n).slot k).state = false := by
  have hdata := presenceChanged_slotData p i n k
  cases hopen : isOpenState (p.slot k).state with
  | true =>
    rw [if_pos ⟨hof, hopen⟩] at hdata
    have hstate : ((p.presenceChanged i .vacant n).slot k).state = .closing := congrArg Slot.state hdata
    rw [hstate]
    rfl
  | false =>
    rw [if_neg (by simp [hopen])] at hdata
    rw [state_of_data hdata, hopen]

theorem presenceChanged_openOrder {k : SlotId} (hof : p.slotOf i = some k) (hopen : isOpenState (p.slot k).state = true) (n : Nat) :
    (p.presenceChanged i .vacant n).flc.openOrder = p.flc.openOrder.filter fun j => j ≠ k := by
  obtain ⟨hof', hslot, -⟩ := presenceSet_slots p i (presenceSet (p.seat i) .vacant n)
  rw [presenceChanged_vacant, seatVacant_openOrder (by rw [hof', hof]) (by rw [hslot, hopen])]
  simp

theorem presenceChanged_flag (p : Part) (i : SeatId) (n : Nat) (q : Port) :
    ((p.presenceChanged i .vacant n).notices q).1 &&& 2 ≠ 0 := by
  have hraised : (((p.setSeat i (presenceSet (p.seat i) .vacant n)).notice .seat).notices q).1 &&& 2 ≠ 0 := by
    rw [notice_notices]
    exact mark_raised _ (by decide)
  exact (seatVacant_grows (.refl _) i).flag hraised

/-! ### The chair next (R56, R76) -/

/-- A seat whose chair next is taken. -/
def nextTaken (x : Seat) : Seat := { x with nextTaken := true }

theorem takeChairNext_taken (hkey : (p.seat p.chairSeat).key = .down) (hmark : (p.seat p.chairSeat).mark = .accepted)
    (hnext : (p.seat p.chairSeat).nextTaken = false) (hpress : 2000 ≤ (p.seat p.chairSeat).press) :
    p.takeChairNext = (p.setSeat p.chairSeat (nextTaken (p.seat p.chairSeat))).chairNext := by
  simp only [takeChairNext]
  rw [if_pos ⟨hkey, hmark, hnext, hpress⟩]
  rfl

theorem chairSeat_of {t : Part} (h : ∀ j, (t.seat j).installed = (p.seat j).installed ∧ (t.seat j).role = (p.seat j).role) :
    t.chairSeat = p.chairSeat := by
  unfold chairSeat
  congr 2
  funext j
  rw [(h j).1, (h j).2]

theorem chairSeat_nextTaken (p : Part) (i : SeatId) : (p.setSeat i (nextTaken (p.seat i))).chairSeat = p.chairSeat := by
  refine chairSeat_of fun j => ?_
  rw [setSeat_seat]
  split
  next h => rw [h]; exact ⟨rfl, rfl⟩
  next => exact ⟨rfl, rfl⟩

/-- The chair next that GRANT NEXT would not answer DONE (R76). -/
theorem chairNext_refused (h : p.flc.isOpen = false ∨ p.flc.queue = [] ∨
    (∃ e ∈ p.flc.queue.head?, p.isDelegate e.seat = false ∨ p.presentForKey e.seat = false ∨ p.slotOf e.seat ≠ none) ∨
    p.available = none) : p.chairNext = p.showRefused p.chairSeat := by
  have hnot : p.grantNext.2 ≠ .done := by
    by_cases hstate : p.flc.isOpen = false ∨ p.flc.queue = []
    · rw [grantNext_state hstate]
      simp
    · obtain ⟨hopen, hqueue⟩ := not_or.mp hstate
      obtain ⟨e, he⟩ : ∃ e, e ∈ p.flc.queue.head? := Option.ne_none_iff_exists'.mp (by simpa using hqueue)
      rw [grantNext_head (by simpa using hopen) he]
      by_cases heligible : p.eligible e.seat
      · obtain ⟨-, hdelegate, hpresent, hslot⟩ := heligible
        have hnone : p.available = none := by
          obtain h | h | ⟨a, ha, hbad⟩ | h := h
          · exact absurd h hopen
          · exact absurd h hqueue
          · obtain rfl := Option.mem_unique ha he
            simp [hdelegate, hpresent, hslot] at hbad
          · exact h
        rw [grantRequest_full ⟨by simpa using hopen, hdelegate, hpresent, hslot⟩ hnone (.inl (isQueued_head he))]
        simp
      · rw [grantRequest_state]
        · simp
        · by_contra hgood
          simp only [not_or, Bool.not_eq_false, Bool.not_eq_true, Option.isSome_eq_false_iff, Option.isNone_iff_eq_none] at hgood
          exact heligible hgood
  rw [chairNext, if_neg hnot]

theorem chairNext_granted {e : QueueEntry} {k : SlotId} (he : e ∈ p.flc.queue.head?) (h : p.eligible e.seat)
    (hk : p.available = some k) : p.chairNext = p.grantSlot k e.seat := by
  have hdone : p.grantNext = (p.grantSlot k e.seat, .done) := (grantNext_head h.1 he).trans (grantRequest_done h hk)
  rw [chairNext, if_pos (congrArg Prod.snd hdone), hdone]

theorem sameBut_setSeat (p : Part) (i : SeatId) (x : Seat) : SameBut [.seats] p (p.setSeat i x) := by
  intro b hb
  cases b <;> simp_all [Piece.Same]

theorem sameBut_showRefused (p : Part) (i : SeatId) : SameBut [.refused] p (p.showRefused i) := by
  intro b hb
  cases b <;> simp_all [Piece.Same]

theorem slot_closedFor {k : SlotId} {r : SlotReason} (h : t.slotData k = closedFor r (p.slotData k)) :
    (t.slot k).state = .closing ∧ (t.slot k).reason = some r ∧ (t.slot k).holder = (p.slot k).holder :=
  ⟨congrArg Slot.state h, congrArg Slot.reason h, by simpa [closedFor] using congrArg Slot.holder h⟩

end Part

/-- Settles O16. -/
theorem absenceGraceAndChairNext : Obligations.AbsenceGraceAndChairNext := by
  unfold Obligations.AbsenceGraceAndChairNext
  refine ⟨fun i s hheld ⟨haway, hgrace⟩ => ?_, fun s hheld hset ⟨hkey, hmark, hnext, hpress⟩ => ⟨fun hrefused => ?_,
    fun k e he hopen hk hdelegate hpresent hslot => ?_⟩⟩
  · refine completes_onEvent (f := fun p => p.absenceExpiry i) rfl ?_
    rw [Part.event_unheld hheld, Part.absenceExpiry_ends haway hgrace]
    have hunopened := ((Part.unopened_updateCount (s.part.presenceChanged i .vacant 0)).conclude s.part)
    have hseat (j : SeatId) := Part.unopened_presenceChanged s.part i 0 j
    have hself := hunopened.seats i
    rw [hseat i, if_pos rfl] at hself
    refine ⟨hself.1, hself.2.1, ?_, ?_, fun k hk => ?_, fun k hk hopen ⟨x, hx, hrunning⟩ => ?_, fun j hj => ?_,
      fun q => Part.conclude_flag ((Part.updateCount_grows (.refl _)).flag (Part.presenceChanged_flag s.part i 0 q))⟩
    · by_contra hqueued
      have hold : (s.part.presenceChanged i .vacant 0).isQueued i = true := hunopened.queue i (by simpa using hqueued)
      simp [Part.presenceChanged_queue] at hold
    · exact hunopened.occupied.trans hunopened.occupiedSeats.symm
    · by_contra hopen
      have hold : Part.isOpenState ((s.part.presenceChanged i .vacant 0).slot k).state = true :=
        (hunopened.slots k).opened (by simpa using hopen)
      simp [Part.presenceChanged_closed hk 0] at hold
    · have hsession : (s.part.presenceChanged i .vacant 0).ssu.session = some x := by
        rw [Part.presenceChanged_vacant]
        simpa using hx
      obtain ⟨hwindup, hawaiting⟩ : x.state ≠ .windup ∧ x.state ≠ .awaiting := by
        refine ⟨?_, ?_⟩ <;> rintro hstate <;> simp [hstate, Part.runningState] at hrunning
      obtain ⟨hcount, hopened⟩ := Part.updateCount_stays hsession hwindup fun h => absurd h hawaiting
      have hend := Part.sameBut_conclude_dwell (before := s.part) (.inl (Part.walkInReady_open hopened))
      have hslot := (congrFun (hend.slotData (by simp)) k).trans ((congrFun (hcount.slotData (by simp)) k).trans
        (Part.presenceChanged_slotData s.part i 0 k))
      rw [if_pos ⟨hk, hopen⟩] at hslot
      have horder := (hend.openOrder (by simp)).trans ((hcount.openOrder (by simp)).trans
        (Part.presenceChanged_openOrder hk hopen 0))
      obtain ⟨hstate, hreason, hholder⟩ := Part.slot_closedFor hslot
      refine ⟨hstate, hreason, hholder, ?_⟩
      rw [horder]
      simp
    · have hother := hunopened.seats j
      rw [hseat j, if_neg hj] at hother
      exact ⟨hother.1, hother.2.2.1⟩
  · refine completes_onEvent (f := Part.takeChairNext) rfl ?_
    set q := s.part.setSeat s.part.chairSeat (Part.nextTaken (s.part.seat s.part.chairSeat)) with hq
    have hchair : q.chairSeat = s.part.chairSeat := Part.chairSeat_nextTaken _ _
    have hdelegate (j : SeatId) : q.isDelegate j = s.part.isDelegate j := by
      rw [Part.isDelegate, Part.isDelegate, hchair, hq, Part.setSeat_seat]
      split
      next h => rw [h]; rfl
      next => rfl
    have hpresent (j : SeatId) : q.presentForKey j = s.part.presentForKey j := by
      rw [Part.presentForKey, Part.presentForKey, hq, Part.setSeat_seat]
      split
      next h => rw [h]; rfl
      next => rfl
    have hrefuses : q.chairNext = q.showRefused q.chairSeat := by
      refine Part.chairNext_refused ?_
      simp only [hdelegate, hpresent]
      exact hrefused
    rw [Part.event_unheld hheld, Part.takeChairNext_taken hkey hmark hnext hpress, ← hq, hrefuses, hchair,
      Part.conclude_settled hset (by simp [hq]) (by simp [hq]) (by simp [hq])]
    have hbut : SameBut [.seats, .refused] s.part (q.showRefused s.part.chairSeat).drivePins :=
      ((Part.sameBut_setSeat s.part _ _).mono (by simp)).trans (((Part.sameBut_showRefused q _).mono (by simp)).trans
        ((Part.sameBut_drivePins _).mono (by simp)))
    have hseat (j : SeatId) : (q.showRefused s.part.chairSeat).drivePins.seat j = q.seat j := by simp [Part.seat]
    have hchair' : (q.showRefused s.part.chairSeat).drivePins.chairSeat = s.part.chairSeat :=
      (Part.chairSeat_of fun j => by rw [hseat]; exact ⟨rfl, rfl⟩).trans hchair
    rw [hchair']
    refine ⟨?_, rfl, ?_, fun j hj => ⟨?_, ?_⟩, hbut⟩
    · simp [Part.drivePins_sgu, Part.showRefused, Config.refusedFrames]
    · rw [hseat, hq, Part.setSeat_seat, if_pos rfl]
      rfl
    · rw [hseat, hq, Part.setSeat_seat, if_neg hj]
    · simp [Part.drivePins_sgu, Part.showRefused, hj, hq]
  · refine completes_onEvent (f := Part.takeChairNext) rfl ?_
    set q := s.part.setSeat s.part.chairSeat (Part.nextTaken (s.part.seat s.part.chairSeat)) with hq
    have hne : e.seat ≠ s.part.chairSeat := fun heq => by simp [Part.isDelegate, heq] at hdelegate
    have hchair : q.chairSeat = s.part.chairSeat := Part.chairSeat_nextTaken _ _
    have hseat : q.seat e.seat = s.part.seat e.seat := by rw [hq, Part.setSeat_seat, if_neg hne]
    have heligible : q.eligible e.seat := by
      refine ⟨hopen, ?_, ?_, hslot⟩
      · rwa [Part.isDelegate, hchair, hseat]
      · rwa [Part.presentForKey, hseat]
    rw [Part.event_unheld hheld, Part.takeChairNext_taken hkey hmark hnext hpress, ← hq, Part.chairNext_granted (p := q) he heligible hk,
      Part.conclude_settled hset (by simp [hq]) (by simp [hq]) (by simp [hq])]
    have hpins := Part.sameBut_drivePins (q.grantSlot k e.seat)
    have hbut : SameBut [.seats, .slots, .queue, .openOrder, .notices] s.part (q.grantSlot k e.seat).drivePins :=
      ((Part.sameBut_setSeat s.part _ _).mono (by simp)).trans (((Part.sameBut_grantSlot q k e.seat).mono (by simp)).trans
        (hpins.mono (by simp)))
    have hdata := (congrFun (hpins.slotData (by simp)) k).trans (Part.grantSlot_data q k e.seat k)
    rw [if_pos rfl] at hdata
    have hafter (j : SeatId) : ((q.grantSlot k e.seat).drivePins.seat j).installed = (q.seat j).installed ∧
        ((q.grantSlot k e.seat).drivePins.seat j).role = (q.seat j).role ∧
        ((q.grantSlot k e.seat).drivePins.seat j).nextTaken = (q.seat j).nextTaken := by
      rw [hpins.seat (by simp), Part.grantSlot_seat]
      split <;> exact ⟨rfl, rfl, rfl⟩
    have hchair' : (q.grantSlot k e.seat).drivePins.chairSeat = s.part.chairSeat :=
      (Part.chairSeat_of fun j => ⟨(hafter j).1, (hafter j).2.1⟩).trans hchair
    refine ⟨congrArg Slot.state hdata, congrArg Slot.holder hdata, congrArg Slot.elapsed hdata,
      (hpins.queue (by simp)).trans (Part.grantSlot_queue _ _ _), (hpins.openOrder (by simp)).trans (Part.grantSlot_openOrder _ _ _), ?_, hbut⟩
    rw [hchair', (hafter _).2.2, hq, Part.setSeat_seat, if_pos rfl]
    rfl

end Sys2Proof.Machine
end

section
/-! PROFILE SET: the profile's fields, and the reseed of the running channels at a change of direction (R16, R18, R19). -/

namespace Sys2Proof.Machine

namespace Part

variable {p t : Part}

/-! ### Notices without a cause (R189)

What a change of presence sets going raises notices of categories that carry no cause marks. -/

@[simp] theorem notice_causes (p : Part) (c : Category) (q : Port) : ((p.notice c).notices q).2 = (p.notices q).2 := by
  rw [notice_notices]

@[simp] theorem noticeIf_causes (p : Part) (b : Bool) (c : Category) (q : Port) :
    ((p.noticeIf b c).notices q).2 = (p.notices q).2 := by
  cases b <;> simp [noticeIf]

@[simp] theorem concludeRouting_causes (before after : Part) (q : Port) :
    ((concludeRouting before after).notices q).2 = (after.notices q).2 := by
  simp [concludeRouting]

@[simp] theorem markEntry_causes (p : Part) (id : Nat) (old new : EntryStatus) (q : Port) :
    ((p.markEntry id old new).notices q).2 = (p.notices q).2 := by
  simp [markEntry]

@[simp] theorem setQueue_causes (p : Part) (l : List QueueEntry) (q : Port) : ((p.setQueue l).notices q).2 = (p.notices q).2 := by
  simp [setQueue]

@[simp] theorem leaveQueue_causes (p : Part) (i : SeatId) (q : Port) : ((p.leaveQueue i).notices q).2 = (p.notices q).2 := by
  simp [leaveQueue]

@[simp] theorem close_causes (p : Part) (k : SlotId) (r : SlotReason) (q : Port) :
    ((p.close k r).notices q).2 = (p.notices q).2 := by
  simp only [close]
  (repeat' split) <;> simp

@[simp] theorem openFloor_causes (p : Part) (q : Port) : (p.openFloor.notices q).2 = (p.notices q).2 := by
  simp [openFloor]

@[simp] theorem floorCloseSlot_causes (p : Part) (k : SlotId) (q : Port) :
    ((p.floorCloseSlot k).notices q).2 = (p.notices q).2 := by
  simp only [floorCloseSlot]
  (repeat' split) <;> simp

@[simp] theorem closeFloor_causes (p : Part) (q : Port) : (p.closeFloor.notices q).2 = (p.notices q).2 := by
  have hslots (r : Part) := foldl_keeps (fun t : Part => (t.notices q).2) (f := floorCloseSlot)
    (fun t k => floorCloseSlot_causes t k q) allSlots r
  simp [closeFloor, hslots]

@[simp] theorem applyFloorPreset_causes (p : Part) (f : FloorPreset) (q : Port) :
    ((p.applyFloorPreset f).notices q).2 = (p.notices q).2 := by
  simp [applyFloorPreset]

@[simp] theorem seatVacant_causes (p : Part) (i : SeatId) (q : Port) : ((p.seatVacant i).notices q).2 = (p.notices q).2 := by
  simp only [seatVacant]
  split <;> simp

@[simp] theorem putSession_causes (p : Part) (x : Option Session) (q : Port) :
    ((p.putSession x).notices q).2 = (p.notices q).2 := by
  simp [putSession]

@[simp] theorem setPendingStart_causes (p : Part) (x : Option Nat) (q : Port) :
    ((p.setPendingStart x).notices q).2 = (p.notices q).2 := by
  simp [setPendingStart]

@[simp] theorem enterWindup_causes (p : Part) (r : CloseReason) (q : Port) :
    ((p.enterWindup r).notices q).2 = (p.notices q).2 := by
  simp only [enterWindup]
  split <;> simp

@[simp] theorem stageStep_causes (p : Part) (q : Port) : (p.stageStep.notices q).2 = (p.notices q).2 := by
  simp only [stageStep]
  (repeat' split) <;> simp

@[simp] theorem enterSession_causes (p : Part) (x : Session) (q : Port) :
    ((p.enterSession x).notices q).2 = (p.notices q).2 := by
  simp [enterSession]

@[simp] theorem checkIn_causes (p : Part) (q : Port) : (p.checkIn.notices q).2 = (p.notices q).2 := by
  simp only [checkIn]
  (repeat' split) <;> simp

@[simp] theorem openBooked_causes (p : Part) (b : Booking) (q : Port) : ((p.openBooked b).notices q).2 = (p.notices q).2 := by
  simp only [openBooked]
  split <;> simp

@[simp] theorem openWalkIn_causes (p : Part) (q : Port) : (p.openWalkIn.notices q).2 = (p.notices q).2 := by
  simp [openWalkIn]

@[simp] theorem openPending_causes (p : Part) (q : Port) : (p.openPending.notices q).2 = (p.notices q).2 := by
  simp only [openPending]
  (repeat' split) <;> simp

@[simp] theorem writeSummary_causes (p : Part) (x : Summary) (q : Port) :
    ((p.writeSummary x).notices q).2 = (p.notices q).2 := by
  simp only [writeSummary]
  (repeat' split) <;> simp

@[simp] theorem closeRecords_causes (p : Part) (x : Session) (r : CloseReason) (q : Port) :
    ((p.closeRecords x r).notices q).2 = (p.notices q).2 := by
  simp only [closeRecords]
  split <;> simp

@[simp] theorem closeSession_causes (p : Part) (x : Session) (r : CloseReason) (q : Port) :
    ((p.closeSession x r).notices q).2 = (p.notices q).2 := by
  simp [closeSession]

@[simp] theorem closeWindup_causes (p : Part) (q : Port) : (p.closeWindup.notices q).2 = (p.notices q).2 := by
  simp only [closeWindup]
  (repeat' split) <;> simp

@[simp] theorem completeWindup_causes (p : Part) (q : Port) : (p.completeWindup.notices q).2 = (p.notices q).2 := by
  simp only [completeWindup]
  (repeat' split) <;> simp

@[simp] theorem walkInTest_causes (p : Part) (q : Port) : (p.walkInTest.notices q).2 = (p.notices q).2 := by
  simp only [walkInTest]
  split <;> simp

@[simp] theorem concludeDwell_causes (before after : Part) (q : Port) :
    ((concludeDwell before after).notices q).2 = (after.notices q).2 := by
  simp only [concludeDwell]
  (repeat' split) <;> simp

@[simp] theorem occupiedChanged_causes (p : Part) (n : Nat) (q : Port) :
    ((p.occupiedChanged n).notices q).2 = (p.notices q).2 := by
  simp only [occupiedChanged, checkInTest]
  split <;> simp

@[simp] theorem updateCount_causes (p : Part) (q : Port) : (p.updateCount.notices q).2 = (p.notices q).2 := by
  simp only [updateCount]
  (repeat' split) <;> simp

@[simp] theorem changePresence_causes (p : Part) (i : SeatId) (y : Presence) (n : Nat) (q : Port) :
    ((p.changePresence i y n).notices q).2 = (p.notices q).2 := by
  simp only [changePresence]
  (repeat' split) <;> simp

@[simp] theorem conclude_causes (before after : Part) (q : Port) :
    ((conclude before after).notices q).2 = (after.notices q).2 := by
  simp [conclude]

/-! ### The fields of PROFILE SET (R16, R18) -/

/-- The profile that PROFILE SET asks for, with its direction: threshold, target and band clamped. -/
def askedProfile (d : Direction) (f : ProfilePayload) : Profile :=
  ⟨d, f.countBeta.toNat, f.activeBeta.toNat, f.standbyBeta.toNat, max 1 f.threshold.toNat, f.hysteresis.toNat, f.enter.toNat,
    f.exit.toNat, f.haltLimit.toNat, f.tracking.toNat, if f.sign = 0 then .same else .opposite,
    max 200 (min 3800 f.target.toNat), max 1 (min 64 f.band.toNat)⟩

/-- A field that does not clamp is out of its range. -/
def FieldOut (f : ProfilePayload) : Prop :=
  7 < f.countBeta.toNat ∨ 15 < f.activeBeta.toNat ∨ 15 < f.standbyBeta.toNat ∨ 15 < f.enter.toNat ∨ 15 < f.exit.toNat ∨
    127 < f.tracking.toNat

theorem signOf_le {x : Byte} (h : x.toNat ≤ 1) : signOf x.toNat = some (if x = 0 then .same else .opposite) := by
  have hzero := toNat_eq_zero_iff (x := x)
  obtain hx | hx : x.toNat = 0 ∨ x.toNat = 1 := by omega
  · simp [signOf, hzero.mp hx]
  · rw [hx, if_neg (fun h0 => by simp [hzero.mpr h0] at hx)]
    rfl

theorem requestProfile_eq (n : Byte) (f : ProfilePayload) :
    requestProfile ([n] ++ profilePayloadBytes f) =
      (directionOf f.direction.toNat).bind fun d => (signOf f.sign.toNat).bind fun sgn =>
        if 7 < f.countBeta.toNat ∨ 15 < f.activeBeta.toNat ∨ 15 < f.standbyBeta.toNat ∨ 15 < f.enter.toNat ∨
          15 < f.exit.toNat ∨ 127 < f.tracking.toNat then none
        else some ⟨d, f.countBeta.toNat, f.activeBeta.toNat, f.standbyBeta.toNat, clamp 1 255 f.threshold.toNat,
          f.hysteresis.toNat, f.enter.toNat, f.exit.toNat, f.haltLimit.toNat, f.tracking.toNat, sgn,
          clamp 200 3800 f.target.toNat, clamp 1 64 f.band.toNat⟩ := by
  simp only [requestProfile, profilePayloadBytes, halfAt, byteAt, b2, List.cons_append, List.nil_append, List.getD_cons_zero,
    List.getD_cons_succ, half_bytes]
  cases directionOf f.direction.toNat with
  | none => rfl
  | some d =>
    cases signOf f.sign.toNat with
    | none => rfl
    | some sgn =>
      simp only [Option.bind_eq_bind, Option.bind_some]
      split <;> rfl

theorem requestProfile_some {n : Byte} {f : ProfilePayload} {d : Direction} (hd : directionOf f.direction.toNat = some d)
    (hsign : f.sign.toNat ≤ 1) (hin : ¬ FieldOut f) : requestProfile ([n] ++ profilePayloadBytes f) = some (askedProfile d f) := by
  have hthreshold : f.threshold.toNat < 256 := f.threshold.isLt
  simp only [FieldOut] at hin
  rw [requestProfile_eq, hd, signOf_le hsign, Option.bind_some, Option.bind_some, if_neg hin, askedProfile, clamp_eq (by omega),
    clamp_eq (by omega), clamp_eq (by omega), Nat.min_eq_right (by omega)]

theorem requestProfile_none {n : Byte} {f : ProfilePayload} (h : 1 < f.direction.toNat ∨ 1 < f.sign.toNat ∨ FieldOut f) :
    requestProfile ([n] ++ profilePayloadBytes f) = none := by
  rw [requestProfile_eq]
  obtain h | h | h := h
  · have hnone : directionOf f.direction.toNat = none := by
      generalize f.direction.toNat = m at h
      match m, h with
      | m + 2, _ => rfl
    rw [hnone]
    rfl
  · have hnone : signOf f.sign.toNat = none := by
      generalize f.sign.toNat = m at h
      match m, h with
      | m + 2, _ => rfl
    rw [hnone]
    cases directionOf f.direction.toNat <;> rfl
  · simp only [FieldOut] at h
    simp only [if_pos h]
    cases directionOf f.direction.toNat with
    | none => rfl
    | some d => cases signOf f.sign.toNat <;> rfl

theorem profileRequest_done {l : List Byte} {k : ProfileKind} {x : Profile} (hsaving : p.pln.saving = false)
    (hk : profileKindOf (byteAt l 0) = some k) (hx : requestProfile l = some x) : p.profileRequest l = (p.setProfile k x, .done) := by
  simp [profileRequest, isSaving, hsaving, hk, hx]

theorem profileRequest_range {l : List Byte} (hsaving : p.pln.saving = false)
    (h : profileKindOf (byteAt l 0) = none ∨ requestProfile l = none) : p.profileRequest l = (p, .range) := by
  simp only [profileRequest, isSaving, hsaving, Bool.false_eq_true, if_false]
  obtain h | h := h
  · rw [h]
  · rw [h]
    cases profileKindOf (byteAt l 0) <;> rfl

/-! ### The profile taken, and the band counters (R18) -/

/-- The band counters of a profile's channels at 0. -/
def bandsCleared (p : Part) (k : ProfileKind) : Part :=
  p.withSfe { p.sfe with channels := mapTable (fun c y => if kindOf c = k then { y with bandCount := 0 } else y) p.sfe.channels }

theorem bandsCleared_channel (p : Part) (k : ProfileKind) (c : ChannelId) :
    (p.bandsCleared k).channel c = if kindOf c = k then { p.channel c with bandCount := 0 } else p.channel c := by
  simp [bandsCleared, channel, get_mapTable]

theorem bandsCleared_profile (p : Part) (k j : ProfileKind) : (p.bandsCleared k).profileOf j = p.profileOf j := by
  cases j <;> simp [bandsCleared, profileOf]

/-- A part whose SFE alone differs. -/
structure SfeOnly (p t : Part) : Prop where
  smn : t.smn = p.smn
  ssu : t.ssu = p.ssu
  rtu : t.rtu = p.rtu
  line : t.line = p.line
  notices : t.notices = p.notices
  same : SameBut [.sensing] p t

theorem sfeOnly_withSfe (p : Part) (x : Sfe) : SfeOnly p (p.withSfe x) := by
  refine ⟨rfl, rfl, rfl, rfl, rfl, fun b hb => ?_⟩
  cases b <;> simp_all [Piece.Same]

theorem SfeOnly.trans {q : Part} (h : SfeOnly p q) (h' : SfeOnly q t) : SfeOnly p t where
  smn := h'.smn.trans h.smn
  ssu := h'.ssu.trans h.ssu
  rtu := h'.rtu.trans h.rtu
  line := h'.line.trans h.line
  notices := h'.notices.trans h.notices
  same := h.same.trans h'.same

theorem sfeOnly_putProfile (p : Part) (k : ProfileKind) (x : Profile) : SfeOnly p (p.putProfile k x) := by
  cases k with
  | key => exact sfeOnly_withSfe p { p.sfe with key := x }
  | proximity => exact sfeOnly_withSfe p { p.sfe with proximity := x }
  | reference => exact sfeOnly_withSfe p { p.sfe with reference := x }

theorem putProfile_channel (p : Part) (k : ProfileKind) (x : Profile) : (p.putProfile k x).channel = p.channel := by
  cases k <;> rfl

theorem putProfile_profile (p : Part) (k : ProfileKind) (x : Profile) (j : ProfileKind) :
    (p.putProfile k x).profileOf j = if j = k then x else p.profileOf j := by
  cases k <;> cases j <;> rfl

/-- A profile is replaced, and a change of target or band clears the band counters. -/
def profileTaken (p : Part) (k : ProfileKind) (x : Profile) : Part :=
  if (p.profileOf k).target ≠ x.target ∨ (p.profileOf k).band ≠ x.band then (p.putProfile k x).bandsCleared k
  else p.putProfile k x

theorem setProfile_eq (p : Part) (k : ProfileKind) (x : Profile) :
    p.setProfile k x =
      if (p.profileOf k).direction ≠ x.direction ∧ k ≠ .reference then
        ((List.finRange 41).filter fun c => kindOf c = k).foldl directionReseed (p.profileTaken k x)
      else p.profileTaken k x := rfl

theorem profileTaken_profile (p : Part) (k : ProfileKind) (x : Profile) (j : ProfileKind) :
    (p.profileTaken k x).profileOf j = if j = k then x else p.profileOf j := by
  rw [profileTaken]
  split
  · rw [bandsCleared_profile, putProfile_profile]
  · exact putProfile_profile p k x j

theorem sfeOnly_profileTaken (p : Part) (k : ProfileKind) (x : Profile) : SfeOnly p (p.profileTaken k x) := by
  rw [profileTaken]
  split
  · exact (sfeOnly_putProfile p k x).trans (sfeOnly_withSfe _ _)
  · exact sfeOnly_putProfile p k x

/-- The channels stand but for their band counters. -/
theorem profileTaken_channel (p : Part) (k : ProfileKind) (x : Profile) (c : ChannelId) :
    { (p.profileTaken k x).channel c with bandCount := 0 } = { p.channel c with bandCount := 0 } := by
  rw [profileTaken]
  split
  · rw [bandsCleared_channel, putProfile_channel]
    split <;> rfl
  · rw [putProfile_channel]

/-! ### The reseed of a running channel (R19, R25) -/

/-- A channel after the reseed that a change of direction gives it. -/
def reseeded (x : Channel) : Channel := if RunningChannel x then (reseed { x with bandCount := 0 } []).1 else x

theorem reseed_sends (x : Channel) : (reseed x []).2 =
    if x.state = .active ∨ x.state = .leaving then [.report .inactive .reseed] else [] := by
  cases hstate : x.state <;> simp [reseed, startPending_eq, hstate, outcomeOfState]

/-- An outcome that was active is released (R25). -/
theorem directionReseed_eq (p : Part) (c : ChannelId) :
    p.directionReseed c =
      if (p.channel c).state = .active ∨ (p.channel c).state = .leaving then
        (p.setChannel c (reseeded (p.channel c))).report c .inactive .reseed
      else p.setChannel c (reseeded (p.channel c)) := by
  by_cases hrun : RunningChannel (p.channel c)
  · have hput : p.directionReseed c = (p.setChannel c (reseeded (p.channel c))).sendOut c
        (reseed { p.channel c with bandCount := 0 } []).2 := by
      rw [directionReseed, if_pos hrun, reseeded, if_pos hrun]
      rfl
    rw [hput, reseed_sends]
    split <;> rfl
  · have hstay : p.directionReseed c = p := if_neg hrun
    rw [hstay, if_neg fun hact => hrun (.inr (.inr hact)), reseeded, if_neg hrun, setChannel_self]

theorem directionReseed_channel (p : Part) (c d : ChannelId) :
    (p.directionReseed c).channel d = if d = c then reseeded (p.channel c) else p.channel d := by
  rw [directionReseed_eq]
  split
  · rw [channel_eq (report_sfe (by simp) c _), setChannel_channel]
  · exact setChannel_channel _ _ _ _

/-- Each channel of the list is reseeded once. -/
theorem directionReseeds_channel {l : List ChannelId} (hl : l.Nodup) (p : Part) (d : ChannelId) :
    (l.foldl directionReseed p).channel d = if d ∈ l then reseeded (p.channel d) else p.channel d := by
  induction l generalizing p with
  | nil => rfl
  | cons c l ih =>
    obtain ⟨hc, htail⟩ := List.nodup_cons.mp hl
    rw [List.foldl_cons, ih htail, directionReseed_channel]
    by_cases hd : d = c
    · subst hd
      simp [hc]
    · simp [hd]

/-- A channel before its turn among the reseeds. -/
theorem directionReseeds_split {l : List ChannelId} (hl : l.Nodup) {c : ChannelId} (hc : c ∈ l) (p : Part) :
    ∃ before after : List ChannelId, (∀ d ∈ before, d ∈ l ∧ d ≠ c) ∧ (∀ d ∈ after, d ∈ l ∧ d ≠ c) ∧
      (before.foldl directionReseed p).channel c = p.channel c ∧
      l.foldl directionReseed p = after.foldl directionReseed ((before.foldl directionReseed p).directionReseed c) := by
  obtain ⟨before, after, rfl⟩ := List.append_of_mem hc
  obtain ⟨hbefore, hafter, hapart⟩ := List.nodup_append.mp hl
  refine ⟨before, after, fun d hd => ⟨by simp [hd], hapart d hd c (by simp)⟩, fun d hd => ⟨by simp [hd], ?_⟩, ?_, by simp⟩
  · rintro rfl
    exact (List.nodup_cons.mp hafter).1 hd
  · rw [directionReseeds_channel hbefore, if_neg fun hin => hapart c hin c (by simp) rfl]

/-! ### Keys released by a reseed (R53) -/

theorem report_key {c : ChannelId} (h : kindOf c = .key) (p : Part) : p.report c .inactive .reseed = p.keyUp (seatOf c) := by
  simp [report, h, keyReport]

theorem sameBut_keyReseed {c : ChannelId} (h : kindOf c = .key) (p : Part) :
    SameBut [.sensing, .seats] p (p.directionReseed c) := by
  have hset : SameBut [.sensing, .seats] p (p.setChannel c (reseeded (p.channel c))) := (sameBut_setChannel p c _).mono (by simp)
  rw [directionReseed_eq, report_key h]
  split
  · exact hset.trans ((sameBut_setSeat _ _ _).mono (by simp))
  · exact hset

theorem keyReseed_ssu {c : ChannelId} (h : kindOf c = .key) (p : Part) : (p.directionReseed c).ssu = p.ssu := by
  rw [directionReseed_eq, report_key h]
  split <;> simp

theorem keyReseed_rtu {c : ChannelId} (h : kindOf c = .key) (p : Part) : (p.directionReseed c).rtu = p.rtu := by
  rw [directionReseed_eq, report_key h]
  split <;> simp

/-- A key that is UP stays so, and one whose channel was active goes UP. -/
theorem keyReseed_up {c : ChannelId} (h : kindOf c = .key) {i : SeatId}
    (hup : (p.seat i).key = .up ∨ (seatOf c = i ∧ ((p.channel c).state = .active ∨ (p.channel c).state = .leaving))) :
    ((p.directionReseed c).seat i).key = .up := by
  have hseat (x : Channel) : (p.setChannel c x).seat i = p.seat i := rfl
  rw [directionReseed_eq, report_key h]
  split
  · rw [keyUp, setSeat_seat]
    split
    · rfl
    next hne =>
      rw [hseat]
      exact hup.resolve_right fun hr => hne hr.1.symm
  next hact =>
    rw [hseat]
    exact hup.resolve_right fun hr => hact hr.2

theorem keyReseeds_up {l : List ChannelId} (hl : l.Nodup) (hkind : ∀ c ∈ l, kindOf c = .key) {i : SeatId}
    (hi : keyChannel i ∈ l) (h : (p.channel (keyChannel i)).state = .active ∨ (p.channel (keyChannel i)).state = .leaving) :
    ((l.foldl directionReseed p).seat i).key = .up := by
  obtain ⟨before, after, -, hafter, hchannel, hsplit⟩ := directionReseeds_split hl hi p
  rw [hsplit]
  refine List.foldlRecOn (motive := fun q : Part => (q.seat i).key = .up) after directionReseed ?_ fun q hq d hd =>
    keyReseed_up (hkind d (hafter d hd).1) (.inl hq)
  exact keyReseed_up (hkind _ hi) (.inr ⟨seatOf_keyChannel i, by rwa [hchannel]⟩)

/-! ### Presence at the release of a proximity channel (R47) -/

/-- A seat has one proximity channel (R15). -/
theorem proximity_of_seat {c d : ChannelId} (hd : kindOf d = .proximity) (hc : kindOf c = .proximity) (h : seatOf d = seatOf c) :
    d = c := by
  simp only [kindOf, seatOf, Fin.ext_iff] at *
  split at hd <;> split at hc <;> simp_all
  omega

theorem report_proximity {c : ChannelId} (h : kindOf c = .proximity) (p : Part) :
    p.report c .inactive .reseed = p.proximityReport (seatOf c) .inactive := by
  simp [report, h]

theorem presenceChanged_seat (p : Part) (i : SeatId) (y : Presence) (n : Nat) (j : SeatId) :
    (p.presenceChanged i y n).seat j = if j = i then presenceSet (p.seat i) y n else p.seat j := by
  simp only [presenceChanged]
  split
  · have hseat := ((sameBut_seatVacant ((p.setSeat i (presenceSet (p.seat i) y n)).notice .seat) i).seat (by simp))
    rw [hseat, ← setSeat_seat p i j]
    exact congrFun (seat_eq (by simp)) j
  · rw [← setSeat_seat p i j]
    exact congrFun (seat_eq (by simp)) j

theorem changePresence_presence (p : Part) (i : SeatId) (y : Presence) (n : Nat) (j : SeatId) :
    ((p.changePresence i y n).seat j).presence = if j = i then y else (p.seat j).presence := by
  by_cases hy : y = (p.seat i).presence
  · rw [changePresence_same hy, setSeat_seat]
    split <;> rfl
  · rw [changePresence_eq hy, ((unopened_updateCount _).seats j).1]
    have hseat : ((p.presenceChanged i y n).recounted.seat j) = (p.presenceChanged i y n).seat j := rfl
    rw [hseat, presenceChanged_seat]
    split <;> rfl

/-- The presence that a change to inactive gives a seat (R47). -/
def presenceReleased (grace : Nat) (y : Presence) : Presence :=
  if y = .occupied ∨ y = .unknown then (if grace = 0 then .vacant else .away) else y

theorem presenceAfter_inactive (grace : Nat) (x : Seat) :
    (presenceAfter grace x .inactive).1 = presenceReleased grace x.presence := by
  cases h : x.presence <;> simp [presenceAfter, presenceReleased, h]

theorem proximityReseed_presence {c : ChannelId} (h : kindOf c = .proximity) (p : Part) (i : SeatId) :
    ((p.directionReseed c).seat i).presence =
      if i = seatOf c ∧ ((p.channel c).state = .active ∨ (p.channel c).state = .leaving) then
        presenceReleased p.smn.grace (p.seat i).presence
      else (p.seat i).presence := by
  have hseat (x : Channel) (j : SeatId) : (p.setChannel c x).seat j = p.seat j := rfl
  rw [directionReseed_eq, report_proximity h]
  split
  next hact =>
    rw [proximityReport, changePresence_presence, presenceAfter_inactive]
    simp only [hseat, hact, and_true, setChannel_smn]
    split
    next hi => rw [hi]
    next => rfl
  next hact => rw [hseat, if_neg fun hb => hact hb.2]

theorem proximityReseeds_presence {l : List ChannelId} (hl : l.Nodup) (hkind : ∀ c ∈ l, kindOf c = .proximity) {c : ChannelId}
    (hc : c ∈ l) (h : (p.channel c).state = .active ∨ (p.channel c).state = .leaving) :
    ((l.foldl directionReseed p).seat (seatOf c)).presence =
      presenceReleased p.smn.grace (p.seat (seatOf c)).presence := by
  obtain ⟨before, after, hbefore, hafter, hchannel, hsplit⟩ := directionReseeds_split hl hc p
  have hother {d : ChannelId} (hd : d ∈ l ∧ d ≠ c) : seatOf c ≠ seatOf d := fun heq =>
    hd.2 (proximity_of_seat (hkind d hd.1) (hkind c hc) heq.symm)
  have hfirst : ((before.foldl directionReseed p).seat (seatOf c)).presence = (p.seat (seatOf c)).presence :=
    List.foldlRecOn (motive := fun q : Part => (q.seat (seatOf c)).presence = (p.seat (seatOf c)).presence) before directionReseed
      rfl fun q hq d hd => by rw [proximityReseed_presence (hkind d (hbefore d hd).1), if_neg fun hb => hother (hbefore d hd) hb.1, hq]
  have hgrace : (before.foldl directionReseed p).smn.grace = p.smn.grace :=
    foldl_keeps (fun q : Part => q.smn.grace) (fun q d => by simp) before p
  rw [hsplit]
  refine List.foldlRecOn (motive := fun q : Part => (q.seat (seatOf c)).presence =
    presenceReleased p.smn.grace (p.seat (seatOf c)).presence) after directionReseed ?_ fun q hq d hd => by
      rw [proximityReseed_presence (hkind d (hafter d hd).1), if_neg fun hb => hother (hafter d hd) hb.1, hq]
  rw [proximityReseed_presence (hkind c hc), if_pos ⟨rfl, by rwa [hchannel]⟩, hgrace, hfirst]

/-! ### What the reseeds leave -/

@[simp] theorem directionReseed_causes (p : Part) (c : ChannelId) (q : Port) :
    ((p.directionReseed c).notices q).2 = (p.notices q).2 := by
  have hset (x : Channel) : (p.setChannel c x).notices = p.notices := by simp
  rw [directionReseed_eq]
  split
  · cases hkind : kindOf c with
    | key =>
      rw [report_key hkind]
      simp
    | proximity =>
      rw [report_proximity hkind, proximityReport, changePresence_causes, hset]
    | reference =>
      simp [report, hkind]
  · rw [hset]

/-- The channels that a change of direction reseeds: those of the profile's kind, but for REFERENCE's (R19). -/
def reseedList (k : ProfileKind) : List ChannelId :=
  if k = .reference then [] else (List.finRange 41).filter fun c => kindOf c = k

theorem mem_reseedList {k : ProfileKind} {c : ChannelId} : c ∈ reseedList k ↔ kindOf c = k ∧ k ≠ .reference := by
  rw [reseedList]
  split
  next h => simp [h]
  next h => simp [h]

theorem nodup_reseedList (k : ProfileKind) : (reseedList k).Nodup := by
  rw [reseedList]
  split
  · exact List.nodup_nil
  · exact (List.nodup_finRange 41).filter _

theorem setProfile_turns {k : ProfileKind} {x : Profile} (h : (p.profileOf k).direction ≠ x.direction) :
    p.setProfile k x = (reseedList k).foldl directionReseed (p.profileTaken k x) := by
  rw [setProfile_eq, reseedList]
  split
  next hk => rw [if_neg hk.2]
  next hk => rw [if_pos (by_contra fun hne => hk ⟨h, hne⟩), List.foldl_nil]

theorem setProfile_stays {k : ProfileKind} {x : Profile} (h : (p.profileOf k).direction = x.direction) :
    p.setProfile k x = p.profileTaken k x := by
  rw [setProfile_eq, if_neg fun hb => hb.1 h]

theorem profileOf_eq (h : t.sfe = p.sfe) (k : ProfileKind) : t.profileOf k = p.profileOf k := by
  cases k <;> simp [profileOf, h]

theorem setProfile_profile (p : Part) (k : ProfileKind) (x : Profile) (j : ProfileKind) :
    (p.setProfile k x).profileOf j = if j = k then x else p.profileOf j := by
  have hreseeds (l : List ChannelId) (q : Part) : (l.foldl directionReseed q).profileOf j = q.profileOf j :=
    foldl_keeps (fun r : Part => r.profileOf j) (fun r c => by cases j <;> simp [profileOf]) l q
  rw [← profileTaken_profile, setProfile_eq]
  split
  · exact hreseeds _ _
  · rfl

/-- Two channels that differ in their band counters at most. -/
theorem same_of_bandCount {x y : Channel} (h : { y with bandCount := 0 } = { x with bandCount := 0 }) :
    y.state = x.state ∧ y.filtered = x.filtered ∧ y.pending = x.pending ∧ y.tune = x.tune ∧ y.lta = x.lta := by
  obtain ⟨⟩ := x
  obtain ⟨⟩ := y
  simp_all

theorem reseeded_running {x : Channel} (h : RunningChannel x) :
    (reseeded x).lta = x.filtered ∧ (reseeded x).filtered = x.filtered ∧ (reseeded x).debounce = 0 ∧
      (reseeded x).haltTimer = 0 ∧ (reseeded x).bandCount = 0 ∧ (reseeded x).pending = false ∧
      if x.pending then (reseeded x).state = .tuning ∧ (reseeded x).step = 0 ∧ (reseeded x).held = .inactive
      else (reseeded x).state = .idle ∧ (reseeded x).tune = x.tune := by
  rw [reseeded, if_pos h]
  cases x.pending <;> simp [reseed, startPending_eq, startRetune, outcomeOf, outcomeOfState]

theorem reseeded_still {x : Channel} (h : ¬ RunningChannel x) : reseeded x = x := if_neg h

/-- A change of direction leaves the cause marks. -/
theorem setProfile_causes (p : Part) (k : ProfileKind) (x : Profile) (q : Port) :
    ((p.setProfile k x).notices q).2 = (p.notices q).2 := by
  have hreseeds (l : List ChannelId) (r : Part) : ((l.foldl directionReseed r).notices q).2 = (r.notices q).2 :=
    foldl_keeps (fun u : Part => (u.notices q).2) (fun u c => directionReseed_causes u c q) l r
  rw [← (sfeOnly_profileTaken p k x).notices, setProfile_eq]
  split
  · exact hreseeds _ _
  · rfl

theorem serveOwner_profileSet (p : Part) (tag n : Byte) (f : ProfilePayload) :
    p.serveOwner .room ⟨0x49, tag, 15, [n] ++ profilePayloadBytes f⟩ = plain (p.profileRequest ([n] ++ profilePayloadBytes f)) := rfl

end Part

namespace Part

variable {p t x : Part} {k : ProfileKind} {y : Profile} {c : ChannelId}

/-- A part whose profile has been replaced by one of the other direction, its channels reseeded. -/
def turned (p : Part) (k : ProfileKind) (y : Profile) : Part := (reseedList k).foldl directionReseed (p.profileTaken k y)

theorem turned_running (hk : kindOf c = k) (href : k ≠ .reference) (hrun : RunningChannel (p.channel c)) :
    ((p.turned k y).channel c).lta = (p.channel c).filtered ∧ ((p.turned k y).channel c).filtered = (p.channel c).filtered ∧
      ((p.turned k y).channel c).debounce = 0 ∧ ((p.turned k y).channel c).haltTimer = 0 ∧
      ((p.turned k y).channel c).bandCount = 0 ∧ ((p.turned k y).channel c).pending = false ∧
      if (p.channel c).pending then
        ((p.turned k y).channel c).state = .tuning ∧ ((p.turned k y).channel c).step = 0 ∧
          ((p.turned k y).channel c).held = .inactive
      else ((p.turned k y).channel c).state = .idle ∧ ((p.turned k y).channel c).tune = (p.channel c).tune := by
  obtain ⟨hstate, hfiltered, hpending, htune, -⟩ := same_of_bandCount (profileTaken_channel p k y c)
  have hchannel : (p.turned k y).channel c = reseeded ((p.profileTaken k y).channel c) := by
    rw [turned, directionReseeds_channel (nodup_reseedList k), if_pos (mem_reseedList.mpr ⟨hk, href⟩)]
  have hreseeded := reseeded_running (x := (p.profileTaken k y).channel c) (by simpa only [RunningChannel, hstate] using hrun)
  rwa [hfiltered, hpending, htune, ← hchannel] at hreseeded

theorem turned_still (h : kindOf c ≠ k ∨ k = .reference ∨ ¬ RunningChannel (p.channel c)) :
    { (p.turned k y).channel c with bandCount := 0 } = { p.channel c with bandCount := 0 } := by
  have htaken := profileTaken_channel p k y c
  rw [turned, directionReseeds_channel (nodup_reseedList k)]
  split
  next hmem =>
    obtain ⟨hk, href⟩ := mem_reseedList.mp hmem
    have hstill : ¬ RunningChannel ((p.profileTaken k y).channel c) := by
      rw [RunningChannel, (same_of_bandCount htaken).1]
      exact (h.resolve_left (not_not.mpr hk)).resolve_left href
    rw [reseeded_still hstill, htaken]
  next => exact htaken

theorem turned_key_up {i : SeatId} (h : (p.channel (keyChannel i)).state = .active ∨ (p.channel (keyChannel i)).state = .leaving) :
    ((p.turned .key y).seat i).key = .up := by
  refine keyReseeds_up (nodup_reseedList .key) (fun c hc => (mem_reseedList.mp hc).1)
    (mem_reseedList.mpr ⟨kindOf_keyChannel i, by simp⟩) ?_
  rwa [(same_of_bandCount (profileTaken_channel p .key y (keyChannel i))).1]

theorem sameBut_turned_key (p : Part) (y : Profile) : SameBut [.sensing, .seats] p (p.turned .key y) :=
  ((sfeOnly_profileTaken p .key y).same.mono (by simp)).trans
    (List.foldlRecOn (motive := SameBut [.sensing, .seats] (p.profileTaken .key y)) _ directionReseed (.refl _ _)
      fun _ hq _ hc => hq.trans (sameBut_keyReseed (mem_reseedList.mp hc).1 _))

theorem turned_key_ssu (p : Part) (y : Profile) : (p.turned .key y).ssu = p.ssu := by
  rw [← (sfeOnly_profileTaken p .key y).ssu]
  exact List.foldlRecOn (motive := fun q : Part => q.ssu = (p.profileTaken .key y).ssu) _ directionReseed rfl
    fun q hq c hc => (keyReseed_ssu (mem_reseedList.mp hc).1 q).trans hq

theorem turned_key_occupied (p : Part) (y : Profile) : (p.turned .key y).smn.occupied = p.smn.occupied :=
  (sameBut_turned_key p y).occupied (by simp)

theorem turned_key_rtu (p : Part) (y : Profile) : (p.turned .key y).rtu = p.rtu := by
  rw [← (sfeOnly_profileTaken p .key y).rtu]
  exact List.foldlRecOn (motive := fun q : Part => q.rtu = (p.profileTaken .key y).rtu) _ directionReseed rfl
    fun q hq c hc => (keyReseed_rtu (mem_reseedList.mp hc).1 q).trans hq

theorem turned_reference (p : Part) (y : Profile) : p.turned .reference y = p.profileTaken .reference y := rfl

theorem turned_presence (hc : kindOf c = .proximity) (h : (p.channel c).state = .active ∨ (p.channel c).state = .leaving) :
    ((p.turned .proximity y).seat (seatOf c)).presence = presenceReleased p.smn.grace (p.seat (seatOf c)).presence := by
  have hseat : (p.profileTaken .proximity y).seat = p.seat := seat_eq (by rw [(sfeOnly_profileTaken p .proximity y).smn])
  rw [turned, proximityReseeds_presence (nodup_reseedList .proximity) (fun c hc => (mem_reseedList.mp hc).1)
    (mem_reseedList.mpr ⟨hc, by simp⟩) (by rwa [(same_of_bandCount (profileTaken_channel p .proximity y c)).1]), hseat,
    (sfeOnly_profileTaken p .proximity y).smn]

end Part

variable {s : State} {tag n : Byte} {f : ProfilePayload} {k : ProfileKind}

/-- The part as it takes PROFILE SET into service. -/
abbrev profileServed (p : Part) (tag n : Byte) (f : ProfilePayload) : Part :=
  p.taken .room ⟨0x49, tag, 15, [n] ++ profilePayloadBytes f⟩

theorem profileOf_served (p : Part) (tag n : Byte) (f : ProfilePayload) (k : ProfileKind) :
    (profileServed p tag n f).profileOf k = p.profileOf k := Part.profileOf_eq (by simp) k

theorem permitted_profileSet : Permitted .room (0x49 : Byte).toNat := by decide

theorem profileRequest_served {d : Direction} (hsaving : s.part.pln.saving = false) (hk : profileKindOf n.toNat = some k)
    (hd : directionOf f.direction.toNat = some d) (hsign : f.sign.toNat ≤ 1) (hin : ¬ Part.FieldOut f) :
    (profileServed s.part tag n f).profileRequest ([n] ++ profilePayloadBytes f) =
      ((profileServed s.part tag n f).setProfile k (Part.askedProfile d f), .done) :=
  Part.profileRequest_done (by simpa using hsaving) hk (Part.requestProfile_some hd hsign hin)

theorem completes_profileKept {st : Status} (hport : Listening s.part .room) (hset : Settled s.part)
    (h : (profileServed s.part tag n f).profileRequest ([n] ++ profilePayloadBytes f) = (profileServed s.part tag n f, st)) :
    Completes (.profileSet .room tag n f) s fun t => Answered t .room tag st [[]] ∧ SameBut [.requests .room] s.part t :=
  completes_kept (c := .profileSet .room tag n f) (st := st) (l := []) rfl hport hset (by decide) (by decide)
    ((Part.serveOwner_profileSet _ tag n f).trans (congrArg Part.plain h))

theorem completes_profileStays (hport : Listening s.part .room) (hset : Settled s.part) (hsaving : s.part.pln.saving = false)
    (hk : profileKindOf n.toNat = some k) (hd : directionOf f.direction.toNat = some (s.part.profileOf k).direction)
    (hsign : f.sign.toNat ≤ 1) (hin : ¬ Part.FieldOut f) :
    Completes (.profileSet .room tag n f) s fun t =>
      Answered t .room tag .done [[]] ∧
        t.profileOf k = Part.askedProfile (s.part.profileOf k).direction f ∧ (∀ j, j ≠ k → t.profileOf j = s.part.profileOf j) ∧
        (∀ c, (t.channel c).state = (s.part.channel c).state ∧ (t.channel c).lta = (s.part.channel c).lta) ∧
        SameBut [.requests .room, .sensing] s.part t := by
  have hasked : (profileServed s.part tag n f).profileRequest ([n] ++ profilePayloadBytes f) =
      ((profileServed s.part tag n f).profileTaken k (Part.askedProfile (s.part.profileOf k).direction f), .done) := by
    rw [profileRequest_served hsaving hk hd hsign hin, Part.setProfile_stays]
    rw [profileOf_served]
    rfl
  obtain ⟨hsmn, hssu, hrtu, hline, -, hsame⟩ := Part.sfeOnly_profileTaken (profileServed s.part tag n f) k
    (Part.askedProfile (s.part.profileOf k).direction f)
  refine (completes_owner (c := .profileSet .room tag n f) (bs := [.sensing]) rfl hport hset (by decide) (by decide)
    ((Part.serveOwner_profileSet _ tag n f).trans (congrArg Part.plain hasked)) hsame
    (hssu.trans (by simp)) ((congrArg Smn.occupied hsmn).trans (by simp)) (hrtu.trans (by simp)) (congrFun hline .room)).mono ?_
  rintro t ⟨hans, hown, hbut, -⟩
  have hsfe := hown .sensing (by simp)
  have hprofile (j : ProfileKind) := (Part.profileOf_eq hsfe j).trans (Part.profileTaken_profile (profileServed s.part tag n f) k
    (Part.askedProfile (s.part.profileOf k).direction f) j)
  refine ⟨hans, (hprofile k).trans (if_pos rfl), fun j hj => ?_, fun c => ?_, hbut⟩
  · rw [hprofile, if_neg hj]
    exact profileOf_served s.part tag n f j
  · have hchannel := Part.same_of_bandCount (Part.profileTaken_channel (profileServed s.part tag n f) k
      (Part.askedProfile (s.part.profileOf k).direction f) c)
    obtain ⟨hstate, -, -, -, hlta⟩ := hchannel
    have hown' := congrFun (Part.channel_eq hsfe) c
    exact ⟨(congrArg Channel.state hown').trans hstate, (congrArg Channel.lta hown').trans hlta⟩

/-- PROFILE SET with another direction: what the reseeds make of the part stands at the end. -/
theorem completes_profileTurns {d : Direction} (hport : Listening s.part .room) (hsaving : s.part.pln.saving = false)
    (hk : profileKindOf n.toNat = some k) (hd : directionOf f.direction.toNat = some d) (hne : d ≠ (s.part.profileOf k).direction)
    (hsign : f.sign.toNat ≤ 1) (hin : ¬ Part.FieldOut f) :
    Completes (.profileSet .room tag n f) s fun t =>
      Answered t .room tag .done [[]] ∧
        t = Part.conclude s.part
          (((profileServed s.part tag n f).turned k (Part.askedProfile d f)).replied .room ⟨tag, .done, [[]]⟩) ∧
        (∀ j, t.profileOf j = if j = k then Part.askedProfile d f else s.part.profileOf j) ∧
        ∀ q, (t.notices q).2 = (s.part.notices q).2 := by
  have hturn : ((profileServed s.part tag n f).profileOf k).direction ≠ (Part.askedProfile d f).direction := by
    rw [profileOf_served]
    exact hne.symm
  have hserve := (Part.serveOwner_profileSet (profileServed s.part tag n f) tag n f).trans
    (congrArg Part.plain (profileRequest_served (tag := tag) hsaving hk hd hsign hin))
  have hreq : requestOf (.profileSet .room tag n f) = some (.room, ⟨0x49, tag, 15, [n] ++ profilePayloadBytes f⟩) := rfl
  have hline : ((profileServed s.part tag n f).setProfile k (Part.askedProfile d f)).line = (profileServed s.part tag n f).line := by
    simp
  refine completes_served hreq (Part.idle_listening hport) (Part.checkRequest_run hreq permitted_profileSet hport.1.1)
    (by simp [portResetCode]) hserve (congrFun hline .room) ?_
  intro t ht hans
  refine ⟨hans, ?_, fun j => ?_, fun q => ?_⟩
  · rw [Part.turned, ← Part.setProfile_turns hturn]
    exact ht
  · have hsfe : t.sfe = ((profileServed s.part tag n f).setProfile k (Part.askedProfile d f)).sfe := by
      rw [ht]
      simp
    rw [Part.profileOf_eq hsfe, Part.setProfile_profile, profileOf_served]
  · rw [ht, Part.conclude_causes, Part.replied_notices, Part.setProfile_causes]
    simp

/-- Settles O51. -/
theorem profileSetReplaces : Obligations.ProfileSetReplaces := by
  unfold Obligations.ProfileSetReplaces
  refine ⟨fun tag n f k s hport hset => ⟨fun hsaving => ?_, fun hsaving => ⟨fun hout => ?_, fun hk hd hsign hcount hactive hstandby
    henter hexit htracking => ?_⟩⟩, fun tag n f k d s hport hset hsaving ⟨hk, hd, hne⟩ ⟨⟨hsign, hcount, hactive, hstandby⟩, henter,
      hexit, htracking⟩ => ?_⟩
  · exact completes_profileKept hport hset (by simp [Part.profileRequest, Part.isSaving, hsaving])
  · refine completes_profileKept hport hset (Part.profileRequest_range (by simpa using hsaving) ?_)
    obtain hn | hout : 2 < n.toNat ∨ (1 < f.direction.toNat ∨ 1 < f.sign.toNat ∨ Part.FieldOut f) := by
      simp only [Part.FieldOut]
      tauto
    · left
      have hbyte : byteAt ([n] ++ profilePayloadBytes f) 0 = n.toNat := rfl
      rw [hbyte]
      generalize n.toNat = m at hn
      match m, hn with
      | m + 3, _ => rfl
    · exact .inr (Part.requestProfile_none hout)
  · exact completes_profileStays hport hset hsaving hk hd hsign (by simp only [Part.FieldOut]; omega)
  · refine (completes_profileTurns hport hsaving hk hd hne hsign (by simp only [Part.FieldOut]; omega)).mono ?_
    rintro t ⟨hans, ht, hprofile, hcauses⟩
    set x := (profileServed s.part tag n f).turned k (Part.askedProfile d f) with hx
    have hreplied : SameBut [.requests .room] x (x.replied .room ⟨tag, .done, [[]]⟩) := Part.sameBut_replied _ _ _
    have hchannel (c : ChannelId) : t.channel c = x.channel c := by
      rw [ht, Part.conclude_channel]
      exact congrFun (Part.channel_eq (hreplied .sensing (by simp))) c
    have hseat (i : SeatId) : (t.seat i).presence = (x.seat i).presence ∧ (t.seat i).key = (x.seat i).key := by
      obtain ⟨hpresence, -, hkey, -⟩ := (((Unopened.refl x).same hreplied (by simp) (by simp) (by simp) (by simp)).conclude
        s.part).seats i
      rw [ht]
      exact ⟨hpresence, hkey⟩
    have hsettled {bs : List Piece} (hsame : SameBut bs (profileServed s.part tag n f) x) (hssu : x.ssu = s.part.ssu)
        (hocc : x.smn.occupied = s.part.smn.occupied) (hrtu : x.rtu = s.part.rtu) : SameBut (.requests .room :: bs) s.part t := by
      refine hsame.row (cs := [.requests .room]) (hreplied.trans ?_) (by simp)
      rw [ht]
      exact (Part.sameBut_conclude_settled hset (by simpa using hssu) (by simpa using hocc) (by simpa using hrtu)).mono (by simp)
    refine ⟨hans, (hprofile k).trans (if_pos rfl), fun c hc href hrun => ?_,
      fun c hc => ?_, ?_, ?_, ?_, hcauses⟩
    · rw [hchannel]
      exact Part.turned_running (p := profileServed s.part tag n f) hc href hrun
    · rw [hchannel]
      exact Part.turned_still (p := profileServed s.part tag n f) hc
    · rintro rfl
      refine ⟨fun i hi => (hseat i).2.trans (Part.turned_key_up (p := profileServed s.part tag n f) hi), ?_⟩
      refine hsettled (bs := [.sensing, .seats]) (Part.sameBut_turned_key _ _) ((Part.turned_key_ssu _ _).trans (by simp))
        (by rw [hx, Part.turned_key_occupied]; simp) ((Part.turned_key_rtu _ _).trans (by simp))
    · rintro rfl i c hc rfl hact
      exact (hseat _).1.trans (Part.turned_presence (p := profileServed s.part tag n f) hc hact)
    · rintro rfl
      obtain ⟨hsmn, hssu, hrtu, -, -, hsame⟩ := Part.sfeOnly_profileTaken (profileServed s.part tag n f) .reference
        (Part.askedProfile d f)
      exact hsettled (bs := [.sensing]) hsame (hssu.trans (by simp)) ((congrArg Smn.occupied hsmn).trans (by simp))
        (hrtu.trans (by simp))

end Sys2Proof.Machine
end

section
/-! BOOKING CANCEL and EXTEND (R157, R158). -/

namespace Sys2Proof.Machine

/-- RTU is the same in parts whose routing pieces are. -/
theorem SameBut.rtu {p t : Part} {bs : List Piece} (h : SameBut bs p t) (hscreens : .screens ∉ bs) (hpresets : .presets ∉ bs)
    (hspeakers : .speakers ∉ bs) (hroutable : .routable ∉ bs) (hoverride : .override ∉ bs) : t.rtu = p.rtu := by
  have h1 : t.rtu.screens = p.rtu.screens := h .screens hscreens
  have h2 : t.rtu.presets = p.rtu.presets := h .presets hpresets
  have h3 : t.rtu.speakers = p.rtu.speakers := h .speakers hspeakers
  have h4 : t.rtu.routable = p.rtu.routable := h .routable hroutable
  have h5 : t.rtu.override = p.rtu.override := h .override hoverride
  cases ht : t.rtu
  cases hp : p.rtu
  simp_all

namespace Part

variable {p t : Part} {x : Session} {id : Nat} {old new : EntryStatus} {e : Entry}

/-! ### Events that leave the walk-in dwell (R170) -/

/-- An event's end that neither clears the walk-in dwell nor makes the walk-in test with effect. -/
def Dwelling (before after : Part) : Prop :=
  (after.walkInReady = true ∨ after.ssu.dwell = 0) ∧
    (after.walkInReady = false ∨ after.ssu.params.dwell ≠ 0 ∨ before.walkInReady = true ∨ after.pwu.power ≠ .active)

theorem concludeDwell_dwelling {before after : Part} (h : Dwelling before after) : concludeDwell before after = after := by
  obtain ⟨hstands, htest⟩ := h
  cases hready : after.walkInReady with
  | false =>
    have hzero := hstands.resolve_left (by simp [hready])
    simp only [concludeDwell, hready, Bool.not_false, if_true, ← hzero]
    rfl
  | true =>
    obtain hn | hn | hn | hn := htest
    · simp [hready] at hn
    · simp [concludeDwell, hready, hn]
    · simp [concludeDwell, hready, hn]
    · have htests : after.walkInTest = after := by simp [walkInTest, walkInPasses, hn]
      simp [concludeDwell, hready, htests]

theorem conclude_dwelling {before after : Part} (hset : Settled before) (h : Dwelling before after)
    (hrtu : after.rtu = before.rtu) : conclude before after = after.drivePins := by
  rw [conclude, concludeDwell_dwelling h, concludeRouting_settled hset hrtu]

theorem dwelling_settled (hset : Settled p) (hssu : t.ssu = p.ssu) (hocc : t.smn.occupied = p.smn.occupied) : Dwelling p t := by
  have hready : t.walkInReady = p.walkInReady := by simp [walkInReady, sessionOpen, hssu, hocc]
  refine ⟨by rw [hready, hssu]; exact hset.2, ?_⟩
  rw [hready]
  cases p.walkInReady <;> simp

/-- With a session open no walk-in is ready, and the dwell timer stands at 0. -/
theorem dwell_open (hset : Settled p) (h : p.ssu.session ≠ none) : p.ssu.dwell = 0 := by
  obtain ⟨x, hx⟩ := Option.ne_none_iff_exists'.mp h
  exact hset.2.resolve_left (by simp [walkInReady_open hx])

theorem dwelling_open {before : Part} (h : t.ssu.session ≠ none) (hdwell : t.ssu.dwell = 0) : Dwelling before t := by
  obtain ⟨x, hx⟩ := Option.ne_none_iff_exists'.mp h
  exact ⟨.inr hdwell, .inl (walkInReady_open hx)⟩

theorem Dwelling.replied {before : Part} (h : Dwelling before t) (q : Port) (r : Response) : Dwelling before (t.replied q r) := by
  have hready : (t.replied q r).walkInReady = t.walkInReady :=
    walkInReady_of_session (by simp) (by simp) (by simp) (by simp)
  simpa [Dwelling, hready] using h

/-! ### The mark of a booking (R148) -/

theorem findEntry_mem (h : e ∈ p.findEntry id) : e ∈ p.published.entries ∧ e.booking.id = id :=
  ⟨List.mem_of_find?_eq_some h, by simpa using List.find?_some h⟩

theorem sameBut_markEntry (p : Part) (id : Nat) (old new : EntryStatus) :
    SameBut [.banks, .notices] p (p.markEntry id old new) := by
  intro b hb
  cases b <;> simp_all [Piece.Same]

/-- A mark that takes an entry out of its status raises SCHEDULE. -/
theorem markEntry_raises (he : e ∈ p.published.entries ∧ e.booking.id = id) (hold : e.status = old) (hne : new ≠ old) (q : Port) :
    ((p.markEntry id old new).notices q).1 &&& 64 = 64 := by
  obtain ⟨hmem, hid⟩ := he
  have hchanged : p.published.entries.map (markedEntry id old new) ≠ p.published.entries := by
    intro hsame
    have hfixed : markedEntry id old new e = e := List.map_inj_left.mp (hsame.trans (List.map_id' _).symm) e hmem
    have hstatus := congrArg Entry.status hfixed
    simp [markedEntry, hid, hold, hne] at hstatus
  have hraise : p.markEntry id old new =
      (p.withEntries (p.published.entries.map (markedEntry id old new))).noticeIf true .schedule := by
    rw [markEntry]
    congr 1
    exact decide_eq_true hchanged
  rw [hraise, noticeIf_notices]
  ext i hi
  simp +contextual [Category.bit]

theorem markEntry_entries (p : Part) (id : Nat) (old new : EntryStatus) :
    (p.markEntry id old new).published.entries = p.published.entries.map (markedEntry id old new) := by
  rw [markEntry_published]

/-- Once no entry is ACTIVE under an id, the close's mark of it changes none. -/
theorem markedEntry_twice {s' : EntryStatus} (hne : new ≠ old) (l : List Entry) :
    (l.map (markedEntry id old new)).map (markedEntry id old s') = l.map (markedEntry id old new) := by
  rw [List.map_map]
  refine List.map_congr_left fun e _ => ?_
  simp only [Function.comp_apply, markedEntry]
  split
  · simp [hne]
  · rfl

theorem closeSession_entries {r : CloseReason} (h : x.booking = some id) :
    (p.closeSession x r).published.entries = p.published.entries.map (markedEntry id .active (closedStatus r)) := by
  have hwritten : ((p.writeSummary (p.summaryOf x r)).clearCounters).published = p.published := published_of_sch (by simp)
  have hclosed : (p.closeSession x r).published = (p.closeRecords x r).published := published_of_sch (by simp [closeSession])
  rw [hclosed, closeRecords, h]
  simp only
  rw [markEntry_entries, hwritten]

theorem allFree_of_slots (h : t.sgu.slots = p.sgu.slots) : t.allFree = p.allFree := by
  rw [allFree, allFree, slot_eq h]

/-- The entry to WINDUP raises SESSION. -/
theorem enterWindup_raises (h : p.ssu.session = some x) (r : CloseReason) (q : Port) :
    ((p.enterWindup r).notices q).1 &&& 32 = 32 := by
  have hraised : ((p.putSession (some (windupOf r x))).notices q).1 &&& 32 = 32 := by
    rw [putSession, notice_notices]
    ext i hi
    simp +contextual [Category.bit]
  rw [enterWindup_eq h]
  exact (closeFloor_grows (.refl _)).flags hraised

end Part

/-! ### Rows whose owner ends or stages a session -/

variable {c : Instr} {s : State} {q : Port} {r : Request} {x : Part} {st : Status} {l : List Byte}

/-- A row whose owner leaves RTU and the walk-in dwell: what the owner leaves stands. -/
theorem completes_dwelling (hreq : requestOf c = some (q, r)) (hport : Listening s.part q) (hset : Settled s.part)
    (hright : Permitted q r.code.toNat) (hcode : r.code ≠ portResetCode)
    (hserve : (s.part.taken q r).serveOwner q r = (x, st, l)) (hline : x.line q = (s.part.taken q r).line q)
    (hrtu : x.rtu = s.part.rtu) (hdwell : Part.Dwelling s.part x) :
    Completes c s fun t => Answered t q r.tag st (framesOf r.code l) ∧ SameBut [.requests q] x t ∧
      NoticesGrow x.notices t.notices := by
  refine completes_served hreq (Part.idle_listening hport) (Part.checkRequest_run hreq hright hport.1.1) hcode hserve hline ?_
  rintro t rfl hans
  refine ⟨hans, ?_, ?_⟩
  · rw [Part.conclude_dwelling hset (hdwell.replied q _) (by simpa using hrtu)]
    exact (Part.sameBut_replied _ q _).trans ((Part.sameBut_drivePins _).mono (by simp))
  · refine Part.conclude_grows ?_ _
    rw [Part.replied_notices]
    exact .refl _

/-- A row that leaves no walk-in to open at its end. -/
theorem completes_dwelt (hreq : requestOf c = some (q, r)) (hport : Listening s.part q)
    (hright : Permitted q r.code.toNat) (hcode : r.code ≠ portResetCode)
    (hserve : (s.part.taken q r).serveOwner q r = (x, st, l)) (hline : x.line q = (s.part.taken q r).line q)
    (hdwell : x.walkInReady = false ∨ x.ssu.params.dwell ≠ 0) :
    Completes c s fun t => Answered t q r.tag st (framesOf r.code l) ∧
      SameBut [.requests q, .dwell, .screens, .notices] x t ∧ NoticesGrow x.notices t.notices := by
  refine completes_served hreq (Part.idle_listening hport) (Part.checkRequest_run hreq hright hport.1.1) hcode hserve hline ?_
  rintro t rfl hans
  refine ⟨hans, ?_, ?_⟩
  · refine ((Part.sameBut_replied _ q _).mono (by simp)).trans ((Part.sameBut_conclude_dwell ?_).mono (by simp))
    refine hdwell.imp (fun h => ?_) fun h => by simpa using h
    exact (Part.walkInReady_of_session (by simp) (by simp) (by simp) (by simp)).trans h
  · refine Part.conclude_grows ?_ _
    rw [Part.replied_notices]
    exact .refl _

namespace Part

variable {p t : Part} {x : Session} {id m : Nat} {e : Entry}

/-! ### BOOKING CANCEL (R157) -/

/-- The refusals of BOOKING CANCEL. -/
theorem bookingCancel_range : p.bookingCancel 0 = (p, .range) := rfl

theorem bookingCancel_busy (hid : id ≠ 0) (h : p.staging.state = .checking) : p.bookingCancel id = (p, .busy) := by
  simp [bookingCancel, hid, h]

theorem bookingCancel_none (hid : id ≠ 0) (h : p.staging.state ≠ .checking) (hnone : p.findEntry id = none) :
    p.bookingCancel id = (p, .state) := by
  simp [bookingCancel, hid, h, hnone]

theorem bookingCancel_entry (hid : id ≠ 0) (h : p.staging.state ≠ .checking) (he : e ∈ p.findEntry id) :
    p.bookingCancel id = p.cancelEntry id e.status := by
  simp [bookingCancel, hid, h, Option.mem_def.mp he]

theorem cancelEntry_final {st : EntryStatus} (hpending : st ≠ .pending) (hactive : st ≠ .active) :
    p.cancelEntry id st = (p, .state) := by
  cases st <;> simp_all [cancelEntry]

/-- The part with an entry cancelled, and a pending start for it dropped. -/
def pendingCancelled (p : Part) (id : Nat) : Part :=
  if p.ssu.pendingStart = some id then (p.markEntry id .pending .cancelled).setPendingStart none
  else p.markEntry id .pending .cancelled

theorem cancelEntry_pending (p : Part) (id : Nat) : p.cancelEntry id .pending = (p.pendingCancelled id, .done) := by
  have hpending : (p.markEntry id .pending .cancelled).ssu.pendingStart = p.ssu.pendingStart := by simp
  rw [cancelEntry, pendingCancelled, hpending]

theorem cancelEntry_active (h : p.ssu.session = some x) :
    p.cancelEntry id .active =
      (if x.state = .windup then p.markEntry id .active .cancelled else (p.markEntry id .active .cancelled).windup .cancelled,
        .done) := by
  simp [cancelEntry, h]

theorem sameBut_pendingCancelled (p : Part) (id : Nat) :
    SameBut [.banks, .pendingStart, .notices] p (p.pendingCancelled id) := by
  rw [pendingCancelled]
  split
  · exact ((sameBut_markEntry p id _ _).mono (by simp)).trans ((sameBut_setPendingStart _ none).mono (by simp))
  · exact (sameBut_markEntry p id _ _).mono (by simp)

theorem pendingCancelled_sch (p : Part) (id : Nat) : (p.pendingCancelled id).sch = (p.markEntry id .pending .cancelled).sch := by
  rw [pendingCancelled]
  split <;> simp

theorem pendingCancelled_pendingStart (p : Part) (id : Nat) :
    (p.pendingCancelled id).ssu.pendingStart = if p.ssu.pendingStart = some id then none else p.ssu.pendingStart := by
  rw [pendingCancelled]
  split
  · simp [setPendingStart]
  · simp

theorem pendingCancelled_raises (he : e ∈ p.findEntry id) (hstatus : e.status = .pending) (q : Port) :
    ((p.pendingCancelled id).notices q).1 &&& 64 = 64 := by
  have hmark := markEntry_raises (findEntry_mem he) hstatus (new := .cancelled) (by simp) q
  rw [pendingCancelled]
  split
  · exact (setPendingStart_grows (.refl _) none).flags hmark
  · exact hmark

theorem dwelling_pendingCancelled {before : Part} (hset : Settled before) (hssu : p.ssu = before.ssu)
    (hocc : p.smn.occupied = before.smn.occupied) (hpower : p.pwu.power = before.pwu.power)
    (h : before.ssu.params.dwell ≠ 0 ∨ before.ssu.session ≠ none ∨ before.pwu.power ≠ .active ∨
      before.ssu.pendingStart ≠ some id) : Dwelling before (p.pendingCancelled id) := by
  rw [pendingCancelled]
  split
  next hp =>
    have hdwell : before.ssu.dwell = 0 := hset.2.resolve_left (by simp [walkInReady, ← hssu, hp])
    refine ⟨.inr (by simpa [hssu] using hdwell), ?_⟩
    obtain h | h | h | h := h
    · exact .inr (.inl (by simpa [hssu] using h))
    · obtain ⟨x, hx⟩ := Option.ne_none_iff_exists'.mp h
      exact .inl (walkInReady_open (x := x) (by simpa [hssu] using hx))
    · exact .inr (.inr (.inr (by simpa [hpower] using h)))
    · exact absurd (by rw [← hssu, hp]) h
  next => exact dwelling_settled hset (by simpa using hssu) (by simpa using hocc)

/-! ### EXTEND (R158) -/

theorem extend_range (h : m = 0 ∨ 1440 < m) : p.extend m = (p, .range) := by simp [extend, h]

theorem extend_busy (h : 1 ≤ m ∧ m ≤ 1440) (hbusy : p.staging.state = .checking) : p.extend m = (p, .busy) := by
  rw [extend, if_neg (by omega), if_pos hbusy]

theorem extend_state (h : 1 ≤ m ∧ m ≤ 1440) (hbusy : p.staging.state ≠ .checking)
    (hsession : ∀ x ∈ p.ssu.session, x.state = .windup) : p.extend m = (p, .state) := by
  rw [extend, if_neg (by omega), if_neg hbusy]
  split
  · rfl
  next x hx => rw [if_pos (hsession x hx)]

theorem extend_overlap (h : 1 ≤ m ∧ m ≤ 1440) (hbusy : p.staging.state ≠ .checking) (hsession : p.ssu.session = some x)
    (hstate : x.state ≠ .windup) (hover : m ≤ p.sch.clock.minute ∨ p.nextStart < m) : p.extend m = (p, .overlap) := by
  rw [extend, if_neg (by omega), if_neg hbusy, hsession]
  simp only [if_neg hstate]
  split
  · rfl
  next hm => rw [if_pos (hover.resolve_left hm)]

theorem extend_done (h : 1 ≤ m ∧ m ≤ 1440) (hbusy : p.staging.state ≠ .checking) (hsession : p.ssu.session = some x)
    (hstate : x.state ≠ .windup) (hlate : p.sch.clock.minute < m) (hfree : m ≤ p.nextStart) :
    p.extend m = (p.extendTo x (p.sch.clock.day * 1440 + m), .done) := by
  rw [extend, if_neg (by omega), if_neg hbusy, hsession]
  simp only [if_neg hstate, if_neg (Nat.not_le.mpr hlate), if_neg (Nat.not_lt.mpr hfree)]

/-- The part with the session's effective end moved, before the tests against it. -/
def endMoved (p : Part) (x : Session) (n : Nat) : Part :=
  (p.setSession (some { x with effEnd := n })).noticeIf (x.effEnd ≠ n) .session

theorem extendTo_eq (p : Part) (x : Session) (n : Nat) : p.extendTo x n = ((p.endMoved x n).releaseTest true).stageTest := rfl

theorem endMoved_session (p : Part) (x : Session) (n : Nat) : (p.endMoved x n).ssu.session = some { x with effEnd := n } := by
  simp [endMoved]

theorem sameBut_endMoved (p : Part) (x : Session) (n : Nat) : SameBut [.session, .notices] p (p.endMoved x n) := by
  intro b hb
  cases b <;> simp_all [Piece.Same, endMoved]

/-- The stage before an end that has not come (R162). -/
theorem stageFor_before {n : Nat} (h : p.now < n) :
    p.stageFor n = if n ≤ p.now + p.ssu.params.warning then .ending else .inSession := by
  simp [stageFor, reached, Nat.not_le.mpr h]

theorem releaseTest_running (hsession : p.ssu.session = some x) (h : x.state ≠ .awaiting) (window : Bool) :
    p.releaseTest window = p := by
  simp [releaseTest, hsession, h]

/-- An AWAITING session whose end has not come and whose window runs goes on waiting (R166). -/
theorem releaseTest_waits (hsession : p.ssu.session = some x) (hend : p.now < x.effEnd)
    (hwindow : ∀ c ∈ x.copy, ∀ w ∈ c.window, x.await < w) (window : Bool) : p.releaseTest window = p := by
  have hreached : p.reached x.effEnd = false := by simpa [reached] using hend
  simp only [releaseTest, hsession, hreached, Bool.false_or]
  split
  · cases hcopy : x.copy with
    | none => simp
    | some c =>
      cases hw : c.window with
      | none => simp [hw]
      | some w => simp [hw, Nat.not_le.mpr (hwindow c hcopy w hw)]
  · rfl

/-- A session that EXTEND leaves running: its end and stage alone change, with SESSION notices. -/
theorem extendTo_running (hstate : runningState x.state = true) {n : Nat} (hend : p.now < n) :
    (p.extendTo x n).ssu.session = some { x with
      effEnd := n, state := if n ≤ p.now + p.ssu.params.warning then .ending else .inSession } ∧
      SameBut [.session, .notices] p (p.extendTo x n) := by
  have hmoved := endMoved_session p x n
  have hrelease : (p.endMoved x n).releaseTest true = p.endMoved x n :=
    releaseTest_running hmoved (fun h => by simp [runningState, show x.state = .awaiting from h] at hstate) true
  have hstage : (p.endMoved x n).stageFor n = if n ≤ p.now + p.ssu.params.warning then .ending else .inSession := by
    rw [← stageFor_before hend]
    exact stageFor_same (by simp [endMoved]) (by simp [endMoved]) n
  have hne : (p.endMoved x n).stageFor n ≠ .windup := by
    rw [hstage]
    split <;> simp
  obtain ⟨hsession, hsame⟩ := stageStep_stays (x := { x with effEnd := n }) hmoved hstate hne
  have hcomplete : (p.endMoved x n).stageStep.completeWindup = (p.endMoved x n).stageStep := by
    refine completeWindup_stays fun y hy => ?_
    rw [hsession] at hy
    obtain rfl := Option.mem_some.mp hy
    exact hne
  rw [extendTo_eq, hrelease, stageTest, hcomplete, hsession, staged, hstage]
  exact ⟨rfl, (sameBut_endMoved p x n).trans hsame⟩

theorem extendTo_awaiting (hstate : x.state = .awaiting) {n : Nat} (hend : p.now < n)
    (hwindow : ∀ c ∈ x.copy, ∀ w ∈ c.window, x.await < w) : p.extendTo x n = p.endMoved x n := by
  have hmoved := endMoved_session p x n
  have hnow : (p.endMoved x n).now = p.now := by simp [now, endMoved]
  rw [extendTo_eq, releaseTest_waits hmoved (by rwa [hnow]) hwindow, stageTest, stageStep_none]
  · refine completeWindup_stays fun y hy => ?_
    rw [hmoved] at hy
    obtain rfl := Option.mem_some.mp hy
    simp [hstate]
  · intro y hy
    rw [hmoved] at hy
    obtain rfl := Option.mem_some.mp hy
    simp [hstate, runningState]

end Part

variable {s : State} {tag : Byte} {n : Half}

/-- The part as it takes a row of two payload bytes into service on the room link. -/
abbrev numberServed (p : Part) (code tag : Byte) (n : Half) : Part := p.taken .room ⟨code, tag, 2, b2 n.toNat⟩

theorem serveOwner_bookingCancel (p : Part) (tag : Byte) (n : Half) :
    p.serveOwner .room ⟨0x45, tag, 2, b2 n.toNat⟩ = Part.plain (p.bookingCancel n.toNat) :=
  congrArg (fun m => Part.plain (p.bookingCancel m)) (half_bytes n)

theorem serveOwner_extend (p : Part) (tag : Byte) (n : Half) :
    p.serveOwner .room ⟨0x46, tag, 2, b2 n.toNat⟩ = Part.plain (p.extend n.toNat) :=
  congrArg (fun m => Part.plain (p.extend m)) (half_bytes n)

theorem completes_cancelKept {st : Status} (hport : Listening s.part .room) (hset : Settled s.part)
    (h : (numberServed s.part 0x45 tag n).bookingCancel n.toNat = (numberServed s.part 0x45 tag n, st)) :
    Completes (.bookingCancel .room tag n) s fun t => Answered t .room tag st [[]] ∧ SameBut [.requests .room] s.part t :=
  completes_kept (c := .bookingCancel .room tag n) (st := st) (l := []) rfl hport hset (by decide) (by decide)
    ((serveOwner_bookingCancel _ tag n).trans (congrArg Part.plain h))

theorem completes_extendKept {st : Status} (hport : Listening s.part .room) (hset : Settled s.part)
    (h : (numberServed s.part 0x46 tag n).extend n.toNat = (numberServed s.part 0x46 tag n, st)) :
    Completes (.extend .room tag n) s fun t => Answered t .room tag st [[]] ∧ SameBut [.requests .room] s.part t :=
  completes_kept (c := .extend .room tag n) (st := st) (l := []) rfl hport hset (by decide) (by decide)
    ((serveOwner_extend _ tag n).trans (congrArg Part.plain h))

theorem permitted_booking : Permitted .room (0x45 : Byte).toNat := by decide

theorem permitted_extend : Permitted .room (0x46 : Byte).toNat := by decide

/-- Both `f &&& a = a` and `f &&& b = b` of a flags word. -/
theorem flags_both {f : BitVec 9} (h64 : f &&& 64 = 64) : (f &&& 32 = 32 → f &&& 96 = 96) ∧ (f &&& 0xA0 = 0xA0 → f &&& 0xE0 = 0xE0) := by
  revert h64
  decide +revert

theorem completes_cancelPending {e : Entry} (hport : Listening s.part .room) (hset : Settled s.part) (hid : n ≠ 0)
    (hbusy : s.part.staging.state ≠ .checking) (he : e ∈ s.part.findEntry n.toNat) (hstatus : e.status = .pending)
    (hdwell : s.part.ssu.params.dwell ≠ 0 ∨ s.part.ssu.session ≠ none ∨ s.part.pwu.power ≠ .active ∨
      s.part.ssu.pendingStart ≠ some n.toNat) :
    Completes (.bookingCancel .room tag n) s fun t =>
      Answered t .room tag .done [[]] ∧
        t.published.entries = s.part.published.entries.map (Part.markedEntry n.toNat .pending .cancelled) ∧
        t.ssu.session = s.part.ssu.session ∧ (∀ q, (t.port q).flags &&& 64 ≠ 0) ∧
        t.ssu.pendingStart = (if s.part.ssu.pendingStart = some n.toNat then none else s.part.ssu.pendingStart) ∧
        SameBut [.requests .room, .banks, .pendingStart, .notices] s.part t := by
  have hnum : n.toNat ≠ 0 := fun h0 => hid (BitVec.toNat_inj.mp h0)
  have hcancel := (Part.bookingCancel_entry (p := numberServed s.part 0x45 tag n) hnum hbusy he).trans
    ((congrArg _ hstatus).trans (Part.cancelEntry_pending _ _))
  have hserve := (serveOwner_bookingCancel (numberServed s.part 0x45 tag n) tag n).trans (congrArg Part.plain hcancel)
  have hsame := Part.sameBut_pendingCancelled (numberServed s.part 0x45 tag n) n.toNat
  refine (completes_dwelling (c := .bookingCancel .room tag n) rfl hport hset permitted_booking (by simp [portResetCode]) hserve
    (hsame (.requests .room) (by simp)) ?_ (Part.dwelling_pendingCancelled hset (by simp) (by simp) (by simp) hdwell)).mono ?_
  · simp only [Part.pendingCancelled]
    split <;> simp
  rintro t ⟨hans, hown, hgrows⟩
  have hbut : SameBut [.requests .room, .banks, .pendingStart, .notices] s.part t := hsame.row hown (by simp)
  have hpublished := (hown.published (by simp)).trans (Part.published_of_sch (Part.pendingCancelled_sch _ _))
  refine ⟨hans, ?_, hbut.session (by simp), fun q => ?_, ?_, hbut⟩
  · rw [hpublished, Part.markEntry_entries]
    rfl
  · have hraised := hgrows.flags (Part.pendingCancelled_raises (p := numberServed s.part 0x45 tag n) he hstatus q)
    have hflags : (t.port q).flags &&& 64 = 64 := hraised
    rw [hflags]
    decide
  · exact (hown.pendingStart (by simp)).trans (Part.pendingCancelled_pendingStart _ _)

section

variable {e : Entry} {x : Session}

theorem bookingCancel_active (hid : n ≠ 0) (hbusy : s.part.staging.state ≠ .checking) (he : e ∈ s.part.findEntry n.toNat)
    (hsession : s.part.ssu.session = some x) (hstatus : e.status = .active) :
    (numberServed s.part 0x45 tag n).bookingCancel n.toNat =
      (if x.state = .windup then (numberServed s.part 0x45 tag n).markEntry n.toNat .active .cancelled
        else ((numberServed s.part 0x45 tag n).markEntry n.toNat .active .cancelled).windup .cancelled, .done) := by
  have hnum : n.toNat ≠ 0 := fun h0 => hid (BitVec.toNat_inj.mp h0)
  exact (Part.bookingCancel_entry (p := numberServed s.part 0x45 tag n) hnum hbusy he).trans
    ((congrArg _ hstatus).trans (Part.cancelEntry_active (p := numberServed s.part 0x45 tag n) hsession))

theorem completes_cancelWindup (hport : Listening s.part .room) (hset : Settled s.part) (hid : n ≠ 0)
    (hbusy : s.part.staging.state ≠ .checking) (he : e ∈ s.part.findEntry n.toNat) (hsession : s.part.ssu.session = some x)
    (hstatus : e.status = .active) (hwindup : x.state = .windup) :
    Completes (.bookingCancel .room tag n) s fun t =>
      Answered t .room tag .done [[]] ∧
        t.published.entries = s.part.published.entries.map (Part.markedEntry n.toNat .active .cancelled) ∧
        t.ssu.session = some x ∧ (∀ q, (t.port q).flags &&& 64 ≠ 0) ∧ SameBut [.requests .room, .banks, .notices] s.part t := by
  have hcancel := bookingCancel_active (tag := tag) hid hbusy he hsession hstatus
  rw [if_pos hwindup] at hcancel
  have hserve := (serveOwner_bookingCancel (numberServed s.part 0x45 tag n) tag n).trans (congrArg Part.plain hcancel)
  have hsame := Part.sameBut_markEntry (numberServed s.part 0x45 tag n) n.toNat .active .cancelled
  refine (completes_dwelling (c := .bookingCancel .room tag n) rfl hport hset permitted_booking (by simp [portResetCode]) hserve
    (hsame (.requests .room) (by simp)) (by simp) (Part.dwelling_settled hset (by simp) (by simp))).mono ?_
  rintro t ⟨hans, hown, hgrows⟩
  have hbut : SameBut [.requests .room, .banks, .notices] s.part t := hsame.row hown (by simp)
  refine ⟨hans, ?_, (hbut.session (by simp)).trans hsession, fun q => ?_, hbut⟩
  · rw [hown.published (by simp), Part.markEntry_entries]
    rfl
  · have hflags : (t.port q).flags &&& 64 = 64 :=
      hgrows.flags (Part.markEntry_raises (p := numberServed s.part 0x45 tag n) (Part.findEntry_mem he) hstatus (by simp) q)
    rw [hflags]
    decide

theorem completes_cancelEnds (hport : Listening s.part .room) (hid : n ≠ 0)
    (hbusy : s.part.staging.state ≠ .checking) (he : e ∈ s.part.findEntry n.toNat) (hsession : s.part.ssu.session = some x)
    (hstatus : e.status = .active) (hwindup : x.state ≠ .windup) (hslots : s.part.allFree = false) :
    Completes (.bookingCancel .room tag n) s fun t =>
      Answered t .room tag .done [[]] ∧
        t.published.entries = s.part.published.entries.map (Part.markedEntry n.toNat .active .cancelled) ∧
        t.ssu.session = some { x with state := .windup, reason := some .cancelled } ∧
        t.flc.isOpen = false ∧ t.flc.queue = [] ∧ t.flc.openOrder = [] ∧
        (∀ k, (s.part.slot k).state ≠ .free → (t.slot k).state = .closing ∧ (t.slot k).reason = some .floorClosed) ∧
        (∀ q, (t.port q).flags &&& 96 = 96) := by
  set m := (numberServed s.part 0x45 tag n).markEntry n.toNat .active .cancelled with hm
  have hmark : SameBut [.banks, .notices] (numberServed s.part 0x45 tag n) m := Part.sameBut_markEntry _ _ _ _
  have hsession' : m.ssu.session = some x := (hmark.session (by simp)).trans hsession
  have hslots' : m.allFree = false := (Part.allFree_of_slots (by simp [hm])).trans hslots
  have hends := Part.windup_waits hsession' hslots' .cancelled
  have hcancel := bookingCancel_active (tag := tag) hid hbusy he hsession hstatus
  rw [if_neg hwindup, ← hm, hends] at hcancel
  have hserve := (serveOwner_bookingCancel (numberServed s.part 0x45 tag n) tag n).trans (congrArg Part.plain hcancel)
  have hentered := Part.enterWindup_session hsession' .cancelled
  have hline : (m.enterWindup .cancelled).line = (numberServed s.part 0x45 tag n).line := by simp [hm]
  refine (completes_dwelt (c := .bookingCancel .room tag n) rfl hport permitted_booking (by simp [portResetCode]) hserve
    (congrFun hline .room) (.inl (Part.walkInReady_open hentered))).mono ?_
  rintro t ⟨hans, hown, hgrows⟩
  obtain ⟨hopen, hqueue, horder⟩ := Part.enterWindup_closed hsession' .cancelled
  refine ⟨hans, ?_, (hown.session (by simp)).trans hentered, (hown.isOpen (by simp)).trans hopen,
    (hown.queue (by simp)).trans hqueue, (hown.openOrder (by simp)).trans horder, fun k hk => ?_, fun q => ?_⟩
  · rw [hown.published (by simp), (Part.sameBut_enterWindup m .cancelled).published (by simp), Part.markEntry_entries]
    rfl
  · have hslot := (congrFun (hown.slotData (by simp)) k).trans
      ((Part.enterWindup_data hsession' .cancelled k).trans
        (congrArg Part.floorClosedSlot (congrFun (hmark.slotData (by simp)) k)))
    rw [Part.floorClosedSlot, if_neg (by simpa using hk)] at hslot
    exact ⟨congrArg Slot.state hslot, congrArg Slot.reason hslot⟩
  · have hschedule : (t.port q).flags &&& 64 = 64 := hgrows.flags ((Part.enterWindup_grows (.refl _) .cancelled).flags
      (Part.markEntry_raises (p := numberServed s.part 0x45 tag n) (Part.findEntry_mem he) hstatus (by simp) q))
    exact (flags_both hschedule).1 (hgrows.flags (Part.enterWindup_raises hsession' .cancelled q))

theorem completes_cancelCloses (hport : Listening s.part .room) (hid : n ≠ 0)
    (hbusy : s.part.staging.state ≠ .checking) (he : e ∈ s.part.findEntry n.toNat) (hsession : s.part.ssu.session = some x)
    (hstatus : e.status = .active) (hwindup : x.state ≠ .windup) (hslots : s.part.allFree = true)
    (hbooking : x.booking = some n.toNat) (hpending : s.part.ssu.pendingStart = none) (hdwell : s.part.ssu.params.dwell ≠ 0) :
    Completes (.bookingCancel .room tag n) s fun t =>
      Answered t .room tag .done [[]] ∧
        t.published.entries = s.part.published.entries.map (Part.markedEntry n.toNat .active .cancelled) ∧
        t.ssu.session = none ∧ t.flc.isOpen = false ∧ t.flc.queue = [] ∧
        (∃ y ∈ t.ssu.store.getLast?, y.reason = .cancelled ∧ y.number = s.part.ssu.nextSummary ∧ y.booking = some n.toNat) ∧
        (∀ q, (t.port q).flags &&& 0xE0 = 0xE0) := by
  set m := (numberServed s.part 0x45 tag n).markEntry n.toNat .active .cancelled with hm
  have hmark : SameBut [.banks, .notices] (numberServed s.part 0x45 tag n) m := Part.sameBut_markEntry _ _ _ _
  have hsession' : m.ssu.session = some x := (hmark.session (by simp)).trans hsession
  have hslots' : m.allFree = true := (Part.allFree_of_slots (by simp [hm])).trans hslots
  have hends := Part.windup_closes hsession' hslots' ((hmark.pendingStart (by simp)).trans hpending) .cancelled
  have hcancel := bookingCancel_active (tag := tag) hid hbusy he hsession hstatus
  rw [if_neg hwindup, ← hm, hends] at hcancel
  have hserve := (serveOwner_bookingCancel (numberServed s.part 0x45 tag n) tag n).trans (congrArg Part.plain hcancel)
  have hline : ((m.enterWindup .cancelled).closeSession (Part.windupOf .cancelled x) .cancelled).line =
      (numberServed s.part 0x45 tag n).line := by simp [hm]
  refine (completes_dwelt (c := .bookingCancel .room tag n) rfl hport permitted_booking (by simp [portResetCode]) hserve
    (congrFun hline .room) (.inr (by simpa [hm] using hdwell))).mono ?_
  rintro t ⟨hans, hown, hgrows⟩
  obtain ⟨hopen, hqueue, -⟩ := Part.enterWindup_closed hsession' .cancelled
  have hnewest := (congrArg List.getLast? (hown.store (by simp))).trans (Part.closeSession_newest _ _ _)
  refine ⟨hans, ?_, (hown.session (by simp)).trans (Part.closeSession_session _ _ _),
    (hown.isOpen (by simp)).trans (by simpa using hopen), (hown.queue (by simp)).trans (by simpa using hqueue),
    ⟨_, hnewest, rfl, by simp [Part.summaryOf, hm], hbooking⟩, fun q => ?_⟩
  · have hentries := (congrArg Bank.entries (hown.published (by simp))).trans
      (Part.closeSession_entries (x := Part.windupOf .cancelled x) (id := n.toNat) hbooking)
    rw [hentries, (Part.sameBut_enterWindup m .cancelled).published (by simp), Part.markEntry_entries, Part.markedEntry_twice (by simp)]
    rfl
  · have hschedule : (t.port q).flags &&& 64 = 64 := hgrows.flags
      ((Part.closeSession_grows (Part.enterWindup_grows (.refl _) .cancelled) _ _).flags
        (Part.markEntry_raises (p := numberServed s.part 0x45 tag n) (Part.findEntry_mem he) hstatus (by simp) q))
    exact (flags_both hschedule).2 (hgrows.flags (Part.closeSession_flags _ _ _ q))

/-- EXTEND in the session of a part that stands between events. -/
theorem completes_extendDone {t' : Part} (hport : Listening s.part .room) (hset : Settled s.part)
    (hextend : (numberServed s.part 0x46 tag n).extend n.toNat = (t', .done)) {y : Session} (hsession : s.part.ssu.session = some x)
    (hy : t'.ssu.session = some y) (hsame : SameBut [.session, .notices] (numberServed s.part 0x46 tag n) t') :
    Completes (.extend .room tag n) s fun t =>
      Answered t .room tag .done [[]] ∧ t.ssu.session = some y ∧ SameBut [.requests .room, .session, .notices] s.part t := by
  have hserve := (serveOwner_extend (numberServed s.part 0x46 tag n) tag n).trans (congrArg Part.plain hextend)
  have hzero : (numberServed s.part 0x46 tag n).ssu.dwell = 0 := Part.dwell_open hset (by simp [hsession])
  have hdwell : t'.ssu.dwell = (numberServed s.part 0x46 tag n).ssu.dwell := hsame .dwell (by simp)
  have hrtu : t'.rtu = s.part.rtu := (hsame.rtu (by simp) (by simp) (by simp) (by simp) (by simp)).trans (by simp)
  refine (completes_dwelling (c := .extend .room tag n) rfl hport hset permitted_extend (by simp [portResetCode]) hserve
    (hsame (.requests .room) (by simp)) hrtu (Part.dwelling_open (by simp [hy]) (hdwell.trans hzero))).mono ?_
  rintro t ⟨hans, hown, -⟩
  exact ⟨hans, (hown.session (by simp)).trans hy, hsame.row hown (by simp)⟩

end

/-- Settles O49. -/
theorem bookingCancelAndExtend : Obligations.BookingCancelAndExtend := by
  unfold Obligations.BookingCancelAndExtend
  refine ⟨fun tag n s hport hset => ⟨?_, fun hid hbusy => ?_, fun hid hbusy => ⟨fun hnone => ?_, fun e he hpending hactive => ?_,
    fun e he hstatus hdwell => completes_cancelPending hport hset hid hbusy he hstatus hdwell, fun e he x hx hstatus => ⟨?_, ?_, ?_⟩⟩⟩,
    fun tag n s hport hset => ⟨fun hrange => ?_, fun hlow hhigh hbusy => ?_, fun hlow hhigh hbusy => ⟨fun hnone => ?_,
      fun x hx hstate hover => ?_, fun x hx hrunning hlate hfree => ?_, fun x hx hstate hwindow hlate hfree => ?_⟩⟩⟩
  · rintro rfl
    exact completes_cancelKept hport hset Part.bookingCancel_range
  · exact completes_cancelKept hport hset (Part.bookingCancel_busy (fun h0 => hid (BitVec.toNat_inj.mp h0)) hbusy)
  · exact completes_cancelKept hport hset (Part.bookingCancel_none (fun h0 => hid (BitVec.toNat_inj.mp h0)) hbusy hnone)
  · exact completes_cancelKept hport hset ((Part.bookingCancel_entry (p := numberServed s.part 0x45 tag n)
      (fun h0 => hid (BitVec.toNat_inj.mp h0)) hbusy he).trans (Part.cancelEntry_final hpending hactive))
  · exact fun hwindup => completes_cancelWindup hport hset hid hbusy he hx hstatus hwindup
  · exact fun hwindup hslots => completes_cancelEnds hport hid hbusy he hx hstatus hwindup hslots
  · exact fun hwindup hslots hbooking hpending hdwell =>
      completes_cancelCloses hport hid hbusy he hx hstatus hwindup hslots hbooking hpending hdwell
  · exact completes_extendKept hport hset (Part.extend_range hrange)
  · exact completes_extendKept hport hset (Part.extend_busy ⟨hlow, hhigh⟩ hbusy)
  · exact completes_extendKept hport hset (Part.extend_state ⟨hlow, hhigh⟩ hbusy hnone)
  · exact completes_extendKept hport hset (Part.extend_overlap ⟨hlow, hhigh⟩ hbusy hx hstate hover)
  · have hend : s.part.now < s.part.sch.clock.day * 1440 + n.toNat := Nat.add_lt_add_left hlate _
    have hstate : x.state ≠ .windup := fun h => by simp [h, Part.runningState] at hrunning
    obtain ⟨hsession, hsame⟩ := Part.extendTo_running (p := numberServed s.part 0x46 tag n) (x := x) hrunning hend
    refine (completes_extendDone hport hset (Part.extend_done (p := numberServed s.part 0x46 tag n) ⟨hlow, hhigh⟩ hbusy hx hstate
      hlate hfree) hx hsession hsame).mono ?_
    rintro t ⟨hans, hnew, hbut⟩
    have hwarn : (s.part.sch.clock.day * 1440 + n.toNat ≤ s.part.now + s.part.ssu.params.warning) =
        (n.toNat ≤ s.part.sch.clock.minute + s.part.ssu.params.warning) := by
      rw [Part.now, Nat.add_assoc, Nat.add_le_add_iff_left]
    refine ⟨hans, hnew.trans ?_, hbut⟩
    simp only [← hwarn]
    rfl
  · have hend : s.part.now < s.part.sch.clock.day * 1440 + n.toNat := Nat.add_lt_add_left hlate _
    exact completes_extendDone hport hset ((Part.extend_done (p := numberServed s.part 0x46 tag n) ⟨hlow, hhigh⟩ hbusy hx
      (by simp [hstate]) hlate hfree).trans (congrArg (fun u => (u, Status.done)) (Part.extendTo_awaiting (p := numberServed s.part 0x46 tag n) hstate
        hend hwindow))) hx (Part.endMoved_session _ _ _) (Part.sameBut_endMoved _ _ _)

end Sys2Proof.Machine
end

section
/-! The slots that enter LIVE and come FREE in a gain frame, and the WINDUP that completes there (R69, R96, R97, R101, R173). -/

namespace Sys2Proof.Machine

/-- A fold whose every step writes its own member, as a function of what stood there. -/
theorem foldl_each {ι α : Type} [DecidableEq ι] {get : Part → ι → α} {f : Part → ι → Part} {g : α → α} {P : Part → Prop}
    (hP : ∀ p i, P p → P (f p i)) (h : ∀ p i j, P p → get (f p i) j = if j = i then g (get p j) else get p j) {l : List ι}
    (hl : l.Nodup) {p : Part} (hp : P p) (j : ι) : get (l.foldl f p) j = if j ∈ l then g (get p j) else get p j := by
  induction l generalizing p with
  | nil => rfl
  | cons i l ih =>
    obtain ⟨hi, htail⟩ := List.nodup_cons.mp hl
    rw [List.foldl_cons, ih htail (hP p i hp), h p i j hp]
    by_cases hj : j = i
    · subst hj
      simp [hi]
    · simp [hj]

/-- A fold whose steps change nothing. -/
theorem foldl_still {ι : Type} {f : Part → ι → Part} {l : List ι} {p : Part} (h : ∀ i ∈ l, f p i = p) : l.foldl f p = p := by
  induction l with
  | nil => rfl
  | cons i l ih => rw [List.foldl_cons, h i (by simp), ih fun j hj => h j (by simp [hj])]

namespace SameBut

variable {p t : Part} {bs : List Piece}

theorem speakers (h : SameBut bs p t) (hn : .speakers ∉ bs) : t.rtu.speakers = p.rtu.speakers := h _ hn

theorem released (h : SameBut bs p t) (hn : .released ∉ bs) : t.sgu.released = p.sgu.released := h _ hn

theorem bus (h : SameBut bs p t) (hn : .bus ∉ bs) : t.sgu.bus = p.sgu.bus := h _ hn

end SameBut

namespace Part

variable {p t : Part} {k : SlotId} {i : SeatId} {x : Session} {settlesLast : Bool}

theorem nodup_allSlots : allSlots.Nodup := by decide

/-! ### The entries to LIVE (R96, R129) -/

/-- An OPENING slot at its target becomes LIVE. -/
def lived (x : Slot) : Slot := if x.state = .opening ∧ x.gain = x.target then { x with state := .live } else x

theorem lived_eq (x : Slot) : lived x = { x with state := if x.state = .opening ∧ x.gain = x.target then .live else x.state } := by
  rw [lived]
  split <;> rfl

theorem enterLive_slot (p : Part) (k j : SlotId) : (p.enterLive k).slot j = if j = k then lived (p.slot j) else p.slot j := by
  have hspeaker (q : Part) (i : SeatId) : (q.speakerEnters i).slot j = q.slot j := congrFun (slot_eq (by simp)) j
  have hnotice (q : Part) : (q.notice .floor).slot j = q.slot j := congrFun (slot_eq (by simp)) j
  simp only [enterLive]
  split
  next h =>
    have hset : (((p.setSlot k { p.slot k with state := .live }).notice .floor).slot j) =
        if j = k then lived (p.slot j) else p.slot j := by
      rw [hnotice, setSlot_slot]
      split
      next hj => rw [hj, lived, if_pos h]
      next => rfl
    split
    · rw [hspeaker, hset]
    · exact hset
  next h =>
    split
    next hj => rw [hj, lived, if_neg h]
    next => rfl

theorem enterLives_slot (p : Part) (k : SlotId) : p.enterLives.slot k = lived (p.slot k) := by
  rw [enterLives, foldl_each (P := fun _ => True) (fun _ _ h => h) (fun q i j _ => enterLive_slot q i j) nodup_allSlots trivial,
    if_pos (mem_allSlots k)]

theorem sameBut_speakerEnters (p : Part) (i : SeatId) : SameBut [.speakers, .screens] p (p.speakerEnters i) := by
  intro b hb
  cases b <;> simp_all [Piece.Same]

theorem sameBut_enterLive (p : Part) (k : SlotId) : SameBut [.slots, .speakers, .screens, .notices] p (p.enterLive k) := by
  intro b hb
  rw [enterLive]
  split
  · split <;> cases b <;> simp_all [Piece.Same]
  · exact SameBut.refl _ _ b hb

theorem sameBut_enterLives (p : Part) : SameBut [.slots, .speakers, .screens, .notices] p p.enterLives :=
  SameBut.foldl sameBut_enterLive p allSlots

theorem speakerEnters_speakers (p : Part) (i : SeatId) :
    (p.speakerEnters i).rtu.speakers = i :: p.rtu.speakers.filter (· ≠ i) := by
  simp [speakerEnters]

/-- A seat in the speaker order list stays there, and the holder of a slot that enters LIVE joins it (R129). -/
theorem enterLive_speakers (h : i ∈ p.rtu.speakers ∨ (p.slot k).holder = some i ∧ (p.slot k).state = .opening ∧
    (p.slot k).gain = (p.slot k).target) : i ∈ (p.enterLive k).rtu.speakers := by
  have hset : ((p.setSlot k { p.slot k with state := .live }).notice .floor).rtu = p.rtu := by simp
  simp only [enterLive]
  split
  · split
    next j hj =>
      rw [speakerEnters_speakers, hset]
      by_cases hij : i = j
      · simp [hij]
      · obtain h | ⟨hholder, -⟩ := h
        · simp [hij, h]
        · exact absurd (Option.some.inj (hholder.symm.trans hj)) hij
    next hnone =>
      rw [hset]
      exact h.resolve_right fun hr => by simp [hr.1] at hnone
  next hstill => exact h.resolve_right fun hr => hstill hr.2

theorem enterLives_speakers {l : List SlotId} (hl : l.Nodup) (hk : k ∈ l) (hholder : (p.slot k).holder = some i)
    (hstate : (p.slot k).state = .opening) (hgain : (p.slot k).gain = (p.slot k).target) :
    i ∈ (l.foldl enterLive p).rtu.speakers := by
  induction l generalizing p with
  | nil => simp at hk
  | cons j l ih =>
    obtain ⟨hj, htail⟩ := List.nodup_cons.mp hl
    by_cases hkj : k = j
    · subst hkj
      exact foldl_invariant (P := fun q : Part => i ∈ q.rtu.speakers) (fun q j hq => enterLive_speakers (.inl hq)) l _
        (enterLive_speakers (.inr ⟨hholder, hstate, hgain⟩))
    · have hslot : (p.enterLive j).slot k = p.slot k := by rw [enterLive_slot, if_neg hkj]
      exact ih htail ((List.mem_cons.mp hk).resolve_left hkj) (by rwa [hslot]) (by rwa [hslot]) (by rwa [hslot])

/-! ### The part once the gains have moved and the slots entered LIVE -/

/-- A gain frame's part before its slots come FREE. -/
def livesEntered (p : Part) (settlesLast : Bool) : Part := (p.gainsMoved settlesLast).enterLives

theorem livesEntered_slot (p : Part) (settlesLast : Bool) (k : SlotId) :
    (p.livesEntered settlesLast).slot k = lived { p.slot k with gain := nextGain p.sgu.gain (p.slot k) } := by
  rw [livesEntered, enterLives_slot, gainsMoved_slot]

theorem sameBut_gainsMoved (p : Part) (settlesLast : Bool) :
    SameBut [.slots, .blink, .refused, .screens, .notices] p (p.gainsMoved settlesLast) := by
  intro b hb
  cases settlesLast <;> cases b <;> simp_all [Piece.Same, gainsMoved, countGainTimers]

theorem sameBut_livesEntered (p : Part) (settlesLast : Bool) :
    SameBut [.slots, .blink, .refused, .speakers, .screens, .notices] p (p.livesEntered settlesLast) :=
  ((sameBut_gainsMoved p settlesLast).mono (by simp)).trans ((sameBut_enterLives _).mono (by simp))

theorem gainsFreed_eq (p : Part) (first : List SlotId) (settlesLast : Bool) :
    p.gainsFreed first settlesLast = (takenOrder first allSlots).foldl freePhase (p.livesEntered settlesLast) := rfl

/-- A CLOSING slot stays so, with what its gain has come to. -/
theorem livesEntered_closing (h : (p.slot k).state = .closing) (settlesLast : Bool) :
    (p.livesEntered settlesLast).slot k = { p.slot k with gain := nextGain p.sgu.gain (p.slot k) } := by
  rw [livesEntered_slot, lived, if_neg fun hl => by simp [h] at hl]

theorem livesEntered_free (h : (p.slot k).state = .free) (settlesLast : Bool) :
    ((p.livesEntered settlesLast).slot k).state = .free := by
  rw [livesEntered_slot, lived, if_neg fun hl => by simp [h] at hl]
  exact h

/-- A CLOSING slot within a fall step of 0 comes to 0. -/
theorem nextGain_zero {g : GainSettings} {x : Slot} (hstate : x.state = .closing) (htarget : x.target = 0)
    (hgain : x.gain ≤ g.fall) (hfall : g.fall ≤ 255) : nextGain g x = 0 := by
  rw [nextGain_eq, htarget]
  by_cases hzero : x.gain = 0
  · rw [if_pos (.inr hzero), hzero]
  · rw [if_neg (by simp [hstate, hzero]), if_neg (Nat.not_lt_zero _)]
    split <;> omega

/-- A CLOSING slot that falls by the fall step and stays above its target. -/
theorem nextGain_pos {g : GainSettings} {x : Slot} (hstate : x.state = .closing) (hmute : x.reason ≠ some .mute)
    (hfloor : x.reason ≠ some .floorClosed) (hgain : x.target + g.fall < x.gain) : 0 < nextGain g x := by
  rw [nextGain_eq, if_neg (by simp [hstate]; omega), if_neg (by omega), if_neg (by simp [hmute, hfloor])]
  omega

/-! ### Slots that come FREE (R69, R97) -/

/-- A slot comes FREE in the frame. -/
abbrev Falls (x : Slot) : Prop := x.state = .closing ∧ x.gain = 0

theorem freePhase_still (h : ¬ Falls (p.slot k)) : p.freePhase k = p := if_neg h

/-- FLC's taking of a FREE slot, with nobody to grant it to. -/
theorem takeFree_idle (hqueue : p.flc.queue = []) (k : SlotId) : p.takeFree k = (p.freeSlotRecord k).notice .floor := by
  have hempty : ((p.freeSlotRecord k).notice .floor).autoAdvance = (p.freeSlotRecord k).notice .floor := by
    simp only [autoAdvance]
    split
    · have hnone : ((p.freeSlotRecord k).notice .floor).flc.queue = [] := by simpa using hqueue
      rw [hnone]
      rfl
    · rfl
  simp only [takeFree]
  split
  · rfl
  · exact hempty

theorem freeSlotRecord_data (p : Part) (k j : SlotId) :
    (p.freeSlotRecord k).slotData j = if j = k then freed (p.slotData j) else p.slotData j := by
  have hset : (p.freeSlotRecord k).slotData j = (p.setSlot k (freed (p.slot k))).slotData j := by
    rw [freeSlotRecord]
    simp only
    rw [retarget_data]
    exact congrFun (slotData_of_slots rfl) j
  rw [hset, slotData, setSlot_slot]
  split
  next hj => rw [hj]; rfl
  next => rfl

theorem freeSlotRecord_released (p : Part) (k : SlotId) :
    (p.freeSlotRecord k).sgu.released = p.sgu.released ++ (p.slot k).holder.toList := by
  simp [freeSlotRecord, retarget]

theorem sameBut_freeSlotRecord (p : Part) (k : SlotId) : SameBut [.slots, .released] p (p.freeSlotRecord k) := by
  intro b hb
  cases b <;> simp_all [Piece.Same]

theorem sameBut_takeFree (hqueue : p.flc.queue = []) (k : SlotId) : SameBut [.slots, .released, .notices] p (p.takeFree k) := by
  rw [takeFree_idle hqueue]
  refine ((sameBut_freeSlotRecord p k).mono (by simp)).trans fun b hb => ?_
  cases b <;> simp_all [Piece.Same]

theorem takeFree_data (hqueue : p.flc.queue = []) (k j : SlotId) :
    (p.takeFree k).slotData j = if j = k then freed (p.slotData j) else p.slotData j := by
  rw [takeFree_idle hqueue, ← freeSlotRecord_data]
  exact congrFun (slotData_of_slots (by simp)) j

/-- Nobody waits, and no session is in WINDUP. -/
def Idle (p : Part) : Prop := p.flc.queue = [] ∧ ∀ x ∈ p.ssu.session, x.state ≠ .windup

theorem freePhase_idle (h : p.Idle) (k : SlotId) : p.freePhase k = if Falls (p.slot k) then p.takeFree k else p := by
  have hcomplete : (p.takeFree k).completeWindup = p.takeFree k :=
    completeWindup_stays fun x hx => h.2 x (by rwa [(sameBut_takeFree h.1 k).session (by simp)] at hx)
  rw [freePhase, hcomplete]

theorem sameBut_freePhase (h : p.Idle) (k : SlotId) : SameBut [.slots, .released, .notices] p (p.freePhase k) := by
  rw [freePhase_idle h]
  split
  · exact sameBut_takeFree h.1 k
  · exact .refl _ _

theorem freePhase_keeps_idle (p : Part) (k : SlotId) (h : p.Idle) : (p.freePhase k).Idle := by
  have hsame := sameBut_freePhase h k
  rw [Idle, hsame.queue (by simp), hsame.session (by simp)]
  exact h

/-- A slot that falls is FREE after the frame's turn for it. -/
def freedOf (x : Slot) : Slot := if Falls x then freed x else x

theorem freedOf_falls (h : Falls (p.slot k)) : freedOf (p.slotData k) = freed (p.slotData k) := if_pos h

theorem freePhase_data (h : p.Idle) (k j : SlotId) :
    (p.freePhase k).slotData j = if j = k then freedOf (p.slotData j) else p.slotData j := by
  rw [freePhase_idle h]
  split
  next hfalls =>
    rw [takeFree_data h.1]
    split
    next hj => rw [hj, freedOf, if_pos (show Falls (p.slotData k) from hfalls)]
    next => rfl
  next hfalls =>
    split
    next hj => rw [hj, freedOf, if_neg (show ¬ Falls (p.slotData k) from hfalls)]
    next => rfl

theorem freePhases_data (h : p.Idle) {l : List SlotId} (hl : l.Nodup) (hk : k ∈ l) :
    (l.foldl freePhase p).slotData k = freedOf (p.slotData k) := by
  rw [foldl_each (P := Idle) freePhase_keeps_idle (fun q i j hq => freePhase_data hq i j) hl h, if_pos hk]

theorem sameBut_freePhases (h : p.Idle) (l : List SlotId) : SameBut [.slots, .released, .notices] p (l.foldl freePhase p) := by
  induction l generalizing p with
  | nil => exact .refl _ _
  | cons k l ih => exact (sameBut_freePhase h k).trans (ih (freePhase_keeps_idle p k h))

theorem freePhase_released (h : p.Idle) (k : SlotId) : ∃ l, (p.freePhase k).sgu.released = p.sgu.released ++ l ∧
    (Falls (p.slot k) → l = (p.slot k).holder.toList) := by
  rw [freePhase_idle h]
  split
  · refine ⟨_, ?_, fun _ => rfl⟩
    rw [takeFree_idle h.1, ← freeSlotRecord_released]
    simp
  next hn => exact ⟨[], by simp, fun hf => absurd hf hn⟩

theorem freePhases_released (h : p.Idle) {l : List SlotId} (hl : l.Nodup) (hk : k ∈ l) (hfalls : Falls (p.slot k))
    (hholder : (p.slot k).holder = some i) : i ∈ (l.foldl freePhase p).sgu.released := by
  induction l generalizing p with
  | nil => simp at hk
  | cons j l ih =>
    obtain ⟨hj, htail⟩ := List.nodup_cons.mp hl
    by_cases hkj : k = j
    · subst hkj
      obtain ⟨m, hreleased, hm⟩ := freePhase_released h k
      refine (foldl_invariant (P := fun q : Part => q.Idle ∧ i ∈ q.sgu.released) (fun q j hq => ?_) l _
        ⟨freePhase_keeps_idle p k h, by simp [hreleased, hm hfalls, hholder]⟩).2
      obtain ⟨m', hreleased', -⟩ := freePhase_released hq.1 j
      exact ⟨freePhase_keeps_idle q j hq.1, by simp [hreleased', hq.2]⟩
    · have hdata : (p.freePhase j).slotData k = p.slotData k := by rw [freePhase_data h, if_neg hkj]
      have hgain : ((p.freePhase j).slotData k).gain = (p.slotData k).gain := by rw [hdata]
      refine ih (freePhase_keeps_idle p j h) htail ((List.mem_cons.mp hk).resolve_left hkj) ?_ ?_
      · exact ⟨(state_of_data hdata).trans hfalls.1, hgain.trans hfalls.2⟩
      · rw [holder_of_data hdata, hholder]

/-! ### The message on the gain bus (R101, R110) -/

theorem sameBut_sendGains (p : Part) : SameBut [.bus, .released] p p.sendGains := by
  intro b hb
  rw [sendGains]
  split <;> cases b <;> simp_all [Piece.Same]

theorem sendGains_awake (h : p.pwu.power ≠ .standby) : p.sendGains.sgu.bus = some p.gainPairs ∧ p.sendGains.sgu.released = [] := by
  simp [sendGains, h]

theorem sendGains_standby (h : p.pwu.power = .standby) : p.sendGains.sgu.released = p.sgu.released := by
  simp [sendGains, h]

theorem mem_gainPairs (h : i ∈ p.sgu.released) : (i, 0) ∈ p.gainPairs := by simp [gainPairs, h]

/-- The settles that end after the slots. -/
def settlesEnded (p : Part) (settlesLast : Bool) : Part := if settlesLast then p.endSettles true else p

theorem sameBut_settlesEnded (p : Part) (settlesLast : Bool) : SameBut [.screens, .notices] p (p.settlesEnded settlesLast) := by
  intro b hb
  cases settlesLast <;> cases b <;> simp_all [Piece.Same, settlesEnded]

theorem gainFrame_sends (p : Part) (first : List SlotId) (settlesLast : Bool) :
    p.gainFrame first settlesLast =
      ((concludeDwell p (p.gainsFreed first settlesLast)).settlesEnded settlesLast).sendGains := gainFrame_eq p first settlesLast

theorem livesEntered_speakers (hholder : (p.slot k).holder = some i) (hstate : (p.slot k).state = .opening)
    (hgain : nextGain p.sgu.gain (p.slot k) = (p.slot k).target) (settlesLast : Bool) :
    i ∈ (p.livesEntered settlesLast).rtu.speakers := by
  have hmoved := gainsMoved_slot p settlesLast k
  rw [livesEntered, enterLives]
  exact enterLives_speakers (p := p.gainsMoved settlesLast) nodup_allSlots (mem_allSlots k) (by rw [hmoved]; exact hholder)
    (by rw [hmoved]; exact hstate) (by rw [hmoved]; exact hgain)

/-- The message's pairs, from the gains of a part whose slots are FREE together and have the same holders. -/
theorem gainPairs_eq {q : Part} (hreleased : q.sgu.released = p.sgu.released) (hholder : ∀ k, (q.slot k).holder = (p.slot k).holder)
    (hfree : ∀ k, (q.slot k).state = .free ↔ (p.slot k).state = .free) (hgain : ∀ k, (q.slot k).gain = (t.slot k).gain) :
    q.gainPairs = p.sgu.released.map (fun i => (i, 0)) ++ allSlots.filterMap fun k =>
      match (p.slot k).holder with
      | some i => if (p.slot k).state = .free then none else some (i, (t.slot k).gain)
      | none => none := by
  rw [gainPairs, hreleased]
  refine congrArg (_ ++ ·) (List.filterMap_congr fun k _ => ?_)
  rw [hholder, hgain]
  cases (p.slot k).holder with
  | none => rfl
  | some i => simp only [hfree]

theorem lived_free (x : Slot) (n : Nat) : (lived { x with gain := n }).state = .free ↔ x.state = .free := by
  rw [lived_eq]
  simp only
  split
  next h => simp [h.1]
  next => rfl

theorem livesEntered_blocks (p : Part) (settlesLast : Bool) :
    (p.livesEntered settlesLast).ssu = p.ssu ∧ (p.livesEntered settlesLast).smn = p.smn := by
  cases settlesLast <;> simp [livesEntered, gainsMoved]

theorem settlesEnded_sent (q : Part) (settlesLast : Bool) :
    (q.settlesEnded settlesLast).sendGains.ssu = q.ssu ∧ (q.settlesEnded settlesLast).sendGains.smn = q.smn := by
  cases settlesLast <;> simp [settlesEnded]

/-- A frame in which no slot comes FREE. -/
theorem gainFrame_still (hset : Settled p) (hfalls : ∀ k, ¬ Falls ((p.livesEntered settlesLast).slot k)) (first : List SlotId) :
    p.gainFrame first settlesLast = ((p.livesEntered settlesLast).settlesEnded settlesLast).sendGains := by
  obtain ⟨hssu, hsmn⟩ := livesEntered_blocks p settlesLast
  have hfreed : p.gainsFreed first settlesLast = p.livesEntered settlesLast := by
    rw [gainsFreed_eq]
    exact foldl_still fun k _ => freePhase_still (hfalls k)
  rw [gainFrame_sends, hfreed, concludeDwell_settled hset hssu (by rw [hsmn])]

/-- What a frame in which no slot comes FREE leaves. -/
theorem gainFrame_opens (hset : Settled p) (hfalls : ∀ k, ¬ Falls ((p.livesEntered settlesLast).slot k)) (first : List SlotId)
    (ht : t = conclude p (p.gainFrame first settlesLast)) :
    (∀ k, t.slot k = lived { p.slot k with gain := nextGain p.sgu.gain (p.slot k) }) ∧
      t.rtu.speakers = (p.livesEntered settlesLast).rtu.speakers ∧
      (p.pwu.power ≠ .standby → t.sgu.released = [] ∧
        t.sgu.bus = some (p.sgu.released.map (fun i => (i, 0)) ++ allSlots.filterMap fun k =>
          match (p.slot k).holder with
          | some i => if (p.slot k).state = .free then none else some (i, (t.slot k).gain)
          | none => none)) ∧
      SameBut [.slots, .blink, .refused, .released, .bus, .speakers, .screens, .notices] p t := by
  obtain ⟨hssu, hsmn⟩ := livesEntered_blocks p settlesLast
  obtain ⟨hssu', hsmn'⟩ := settlesEnded_sent (p.livesEntered settlesLast) settlesLast
  rw [gainFrame_still hset hfalls] at ht
  have hentered := sameBut_livesEntered p settlesLast
  have hslots := livesEntered_slot p settlesLast
  generalize p.livesEntered settlesLast = m at *
  have hended := sameBut_settlesEnded m settlesLast
  have hsent := sameBut_sendGains (m.settlesEnded settlesLast)
  have hawake (hp : p.pwu.power ≠ .standby) : (m.settlesEnded settlesLast).pwu.power ≠ .standby := by
    rwa [hended.power (by simp), hentered.power (by simp)]
  have hbus (hp : p.pwu.power ≠ .standby) := sendGains_awake (hawake hp)
  have hfinal : SameBut [.screens, .notices] (m.settlesEnded settlesLast).sendGains t :=
    ht ▸ sameBut_conclude_quiet hset (hssu'.trans hssu) (congrArg Smn.occupied (hsmn'.trans hsmn))
  generalize (m.settlesEnded settlesLast).sendGains = u at *
  generalize m.settlesEnded settlesLast = q at *
  have hslot (k : SlotId) : t.slot k = lived { p.slot k with gain := nextGain p.sgu.gain (p.slot k) } := by
    rw [hfinal.slot (by simp), hsent.slot (by simp), hended.slot (by simp), hslots]
  have hq (k : SlotId) : q.slot k = t.slot k := by rw [hfinal.slot (by simp), hsent.slot (by simp)]
  refine ⟨hslot, (hfinal.speakers (by simp)).trans ((hsent.speakers (by simp)).trans (hended.speakers (by simp))),
    fun hp => ⟨(hfinal.released (by simp)).trans (hbus hp).2, (hfinal.bus (by simp)).trans ((hbus hp).1.trans (congrArg some ?_))⟩,
    (hentered.mono (by simp)).trans ((hended.mono (by simp)).trans ((hsent.mono (by simp)).trans (hfinal.mono (by simp))))⟩
  refine gainPairs_eq ((hended.released (by simp)).trans (hentered.released (by simp))) (fun k => ?_) (fun k => ?_) fun k => by rw [hq]
  · rw [hq, hslot, lived_eq]
  · rw [hq, hslot]
    exact lived_free _ _

theorem livesEntered_idle (h : p.Idle) (settlesLast : Bool) : (p.livesEntered settlesLast).Idle := by
  have hsame := sameBut_livesEntered p settlesLast
  rw [Idle, hsame.queue (by simp), hsame.session (by simp)]
  exact h

/-- The end of a frame's event, where no walk-in may open. -/
theorem concludeDwell_quiet {before after : Part} (h : after.ssu.params.dwell ≠ 0) :
    SameBut [.dwell] after (concludeDwell before after) := by
  intro b hb
  cases hready : after.walkInReady with
  | false => cases b <;> simp_all [concludeDwell, Piece.Same]
  | true =>
    have hkept : concludeDwell before after = after := by simp [concludeDwell, hready, h]
    rw [hkept]
    exact SameBut.refl _ _ b hb

/-- What a frame with nobody waiting and no WINDUP makes of a slot that falls, and of its seat (R97, R101). -/
theorem gainFrame_frees (h : p.Idle) (hdwell : p.ssu.params.dwell ≠ 0) (hstate : (p.slot k).state = .closing)
    (hholder : (p.slot k).holder = some i) (hgain : nextGain p.sgu.gain (p.slot k) = 0) (first : List SlotId) :
    (p.gainFrame first settlesLast).slotData k = freed { p.slotData k with gain := 0 } ∧
      (p.gainFrame first settlesLast).ssu.session = p.ssu.session ∧
      (p.gainFrame first settlesLast).ssu.params = p.ssu.params ∧
      (p.pwu.power ≠ .standby → ∃ l ∈ (p.gainFrame first settlesLast).sgu.bus, (i, 0) ∈ l) ∧
      (p.pwu.power = .standby → i ∈ (p.gainFrame first settlesLast).sgu.released) := by
  set m := p.livesEntered settlesLast with hm
  have hidle : m.Idle := livesEntered_idle h settlesLast
  have hentered : SameBut [.slots, .blink, .refused, .speakers, .screens, .notices] p m := sameBut_livesEntered p settlesLast
  have hslot : m.slot k = { p.slot k with gain := 0 } := by rw [hm, livesEntered_closing hstate, hgain]
  have hfalls : Falls (m.slot k) := by rw [hslot]; exact ⟨hstate, rfl⟩
  have hmem : k ∈ takenOrder first allSlots := mem_takenOrder.mpr (mem_allSlots k)
  have hnodup := nodup_takenOrder first nodup_allSlots
  have hfreed : SameBut [.slots, .released, .notices] m (p.gainsFreed first settlesLast) := sameBut_freePhases hidle _
  have hdata : (p.gainsFreed first settlesLast).slotData k = freed { p.slotData k with gain := 0 } := by
    have hold : m.slotData k = { p.slotData k with gain := 0 } := by rw [slotData, hslot, slotData]
    rw [gainsFreed_eq, ← hm, freePhases_data hidle hnodup hmem, freedOf_falls hfalls, hold]
  have hreleased : i ∈ (p.gainsFreed first settlesLast).sgu.released :=
    freePhases_released hidle hnodup hmem hfalls (by rw [hslot]; exact hholder)
  have hparams : (p.gainsFreed first settlesLast).ssu.params = p.ssu.params := (hfreed.params (by simp)).trans (hentered.params (by simp))
  have hlast : SameBut [.dwell, .screens, .notices] (p.gainsFreed first settlesLast)
      ((concludeDwell p (p.gainsFreed first settlesLast)).settlesEnded settlesLast) :=
    ((concludeDwell_quiet (by rwa [hparams])).mono (by simp)).trans ((sameBut_settlesEnded _ _).mono (by simp))
  set q := (concludeDwell p (p.gainsFreed first settlesLast)).settlesEnded settlesLast with hq
  have hpower : q.pwu.power = p.pwu.power :=
    (hlast.power (by simp)).trans ((hfreed.power (by simp)).trans (hentered.power (by simp)))
  have hout : i ∈ q.sgu.released := by rwa [show q.sgu.released = _ from hlast .released (by simp)]
  have hsent := sameBut_sendGains q
  rw [gainFrame_sends, ← hq]
  refine ⟨?_, ?_, ?_, fun hp => ?_, fun hp => ?_⟩
  · rw [hsent.slotData (by simp), hlast.slotData (by simp), hdata]
  · rw [hsent.session (by simp), hlast.session (by simp), hfreed.session (by simp), hentered.session (by simp)]
  · rw [hsent.params (by simp), hlast.params (by simp), hparams]
  · exact ⟨_, (sendGains_awake (by rwa [hpower])).1, mem_gainPairs hout⟩
  · rwa [sendGains_standby (by rwa [hpower])]

/-- What follows the slots in a frame, where no walk-in may open. -/
theorem gainFrame_ends {first : List SlotId} (hdwell : (p.gainsFreed first settlesLast).ssu.params.dwell ≠ 0) :
    SameBut [.dwell, .screens, .notices, .bus, .released] (p.gainsFreed first settlesLast)
      (conclude p (p.gainFrame first settlesLast)) ∧
      NoticesGrow (p.gainsFreed first settlesLast).notices (conclude p (p.gainFrame first settlesLast)).notices := by
  have hlast : SameBut [.dwell, .screens, .notices, .bus, .released] (p.gainsFreed first settlesLast)
      (p.gainFrame first settlesLast) := by
    rw [gainFrame_sends]
    exact ((concludeDwell_quiet hdwell).mono (by simp)).trans (((sameBut_settlesEnded _ _).mono (by simp)).trans
      ((sameBut_sendGains _).mono (by simp)))
  have hgrows : NoticesGrow (p.gainsFreed first settlesLast).notices (p.gainFrame first settlesLast).notices := by
    have hdwelt : NoticesGrow (p.gainsFreed first settlesLast).notices (concludeDwell p (p.gainsFreed first settlesLast)).notices :=
      concludeDwell_grows (.refl _) p
    rw [gainFrame_sends, settlesEnded]
    split
    · simp
    · simp
  refine ⟨hlast.trans ((sameBut_conclude_dwell (.inr ?_)).mono (by simp)), conclude_grows hgrows p⟩
  rwa [hlast.params (by simp)]

/-- The last slot of a WINDUP comes FREE: the session closes at its turn (R173). -/
theorem gainsFreed_closes {r : CloseReason} (hqueue : p.flc.queue = []) (hsession : p.ssu.session = some x)
    (hstate : x.state = .windup) (hreason : x.reason = some r) (hpending : p.ssu.pendingStart = none)
    (hk : (p.slot k).state = .closing) (hgain : nextGain p.sgu.gain (p.slot k) = 0)
    (hothers : ∀ j, j ≠ k → (p.slot j).state = .free) (first : List SlotId) :
    p.gainsFreed first settlesLast = ((p.livesEntered settlesLast).takeFree k).closeSession x r ∧
      ((p.livesEntered settlesLast).takeFree k).allFree = true := by
  set m := p.livesEntered settlesLast with hm
  have hentered : SameBut [.slots, .blink, .refused, .speakers, .screens, .notices] p m := sameBut_livesEntered p settlesLast
  have hqueue' : m.flc.queue = [] := (hentered.queue (by simp)).trans hqueue
  have htaken := sameBut_takeFree hqueue' k
  have hslot : m.slot k = { p.slot k with gain := 0 } := by rw [hm, livesEntered_closing hk, hgain]
  have hfalls : Falls (m.slot k) := by rw [hslot]; exact ⟨hk, rfl⟩
  have hfree : (m.takeFree k).allFree = true := by
    refine allFree_iff.mpr fun j => ?_
    have hdata := takeFree_data hqueue' k j
    by_cases hj : j = k
    · rw [if_pos hj] at hdata
      exact congrArg Slot.state hdata
    · rw [if_neg hj] at hdata
      rw [state_of_data hdata, hm]
      exact livesEntered_free (hothers j hj) settlesLast
  have hsession' : (m.takeFree k).ssu.session = some x :=
    (htaken.session (by simp)).trans ((hentered.session (by simp)).trans hsession)
  have hpending' : (m.takeFree k).ssu.pendingStart = none :=
    (htaken.pendingStart (by simp)).trans ((hentered.pendingStart (by simp)).trans hpending)
  have hcloses : m.freePhase k = (m.takeFree k).closeSession x r := by
    rw [freePhase, if_pos hfalls, completeWindup_closes hsession' hstate hfree hpending', hreason]
    rfl
  obtain ⟨before, after, hsplit⟩ := List.append_of_mem (mem_takenOrder.mpr (mem_allSlots k) : k ∈ takenOrder first allSlots)
  have hnodup := nodup_takenOrder first nodup_allSlots
  rw [hsplit] at hnodup
  have hbefore : before.foldl freePhase m = m := foldl_still fun j hj => by
    have hne : j ≠ k := fun heq => (List.nodup_append.mp hnodup).2.2 j hj k (by simp) heq
    refine freePhase_still fun hf => ?_
    have hstays := livesEntered_free (hothers j hne) settlesLast
    rw [← hm, hf.1] at hstays
    simp at hstays
  have hafter : after.foldl freePhase ((m.takeFree k).closeSession x r) = (m.takeFree k).closeSession x r := foldl_still fun j _ => by
    refine freePhase_still fun hf => ?_
    have hstays : (((m.takeFree k).closeSession x r).slot j).state = .free := by
      rw [congrFun (slot_eq (show ((m.takeFree k).closeSession x r).sgu.slots = (m.takeFree k).sgu.slots by simp)) j]
      exact allFree_iff.mp hfree j
    rw [hf.1] at hstays
    simp at hstays
  refine ⟨?_, hfree⟩
  rw [gainsFreed_eq, ← hm, hsplit, List.foldl_append, List.foldl_cons, hbefore, hcloses, hafter]

end Part

/-- Settles O18. -/
theorem slotsOpenAndComeFree : Obligations.SlotsOpenAndComeFree := by
  unfold Obligations.SlotsOpenAndComeFree
  refine ⟨fun first settlesLast s hheld hset hclosing => ?_,
    fun first settlesLast k i s hheld ⟨hqueue, hsession, hdwell⟩ ⟨hstate, hholder⟩ ⟨htarget, hgain, hfall⟩ => ?_,
    fun first settlesLast k x r s hheld ⟨hsession, hstate, hreason⟩ ⟨hqueue, hpending, hdwell⟩ ⟨hk, htarget, hgain, hfall⟩
      hothers => ?_⟩
  · refine completes_onEvent (f := fun p => p.gainFrame first settlesLast) rfl ?_
    have hfalls (k : SlotId) : ¬ Part.Falls ((s.part.livesEntered settlesLast).slot k) := by
      rw [Part.livesEntered_slot, Part.lived_eq]
      rintro ⟨hstate, hzero⟩
      have hold : (s.part.slot k).state = .closing := by
        revert hstate
        simp only
        split <;> simp
      obtain ⟨hmute, hfloor, habove⟩ := hclosing k hold
      exact absurd hzero (Part.nextGain_pos hold hmute hfloor habove).ne'
    rw [Part.event_unheld hheld]
    obtain ⟨hslot, hspeakers, hbus, hbut⟩ := Part.gainFrame_opens hset hfalls first rfl
    generalize Part.conclude s.part (s.part.gainFrame first settlesLast) = t at hslot hspeakers hbus hbut ⊢
    have hgain (k : SlotId) : (t.slot k).gain = Part.nextGain s.part.sgu.gain (s.part.slot k) := by rw [hslot, Part.lived_eq]
    have hnew (k : SlotId) : (t.slot k).state =
        if (s.part.slot k).state = .opening ∧ (t.slot k).gain = (s.part.slot k).target then .live else (s.part.slot k).state := by
      rw [hgain, hslot, Part.lived_eq]
    refine ⟨hnew, fun k i hi hopening hlive => ?_, hbus, hbut⟩
    have hreached : (t.slot k).gain = (s.part.slot k).target := by
      by_contra hn
      have hstays := hnew k
      rw [if_neg fun h => hn h.2, hopening, hlive] at hstays
      simp at hstays
    rw [hspeakers]
    exact Part.livesEntered_speakers hi hopening ((hgain k).symm.trans hreached) settlesLast
  · refine completes_onEvent (f := fun p => p.gainFrame first settlesLast) rfl ?_
    obtain ⟨hdata, hkept, hparams, hbus, hreleased⟩ := Part.gainFrame_frees (settlesLast := settlesLast) ⟨hqueue, hsession⟩ hdwell
      hstate hholder (Part.nextGain_zero hstate htarget hgain hfall) first
    have hfinal := Part.sameBut_conclude_dwell (before := s.part) (after := s.part.gainFrame first settlesLast)
      (.inr (by rwa [hparams]))
    rw [Part.event_unheld hheld]
    generalize Part.conclude s.part (s.part.gainFrame first settlesLast) = t at hfinal ⊢
    have hslot := (congrFun (hfinal.slotData (by simp)) k).trans hdata
    refine ⟨congrArg Slot.state hslot, congrArg Slot.holder hslot, congrArg Slot.gain hslot, congrArg Slot.reason hslot,
      congrArg Slot.warned hslot, (hfinal.session (by simp)).trans hkept, fun hp => ?_, fun hp => ?_⟩
    · obtain ⟨l, hl, hin⟩ := hbus hp
      exact ⟨l, (hfinal.bus (by simp)).trans hl, hin⟩
    · rw [show t.sgu.released = _ from hfinal .released (by simp)]
      exact hreleased hp
  · refine completes_onEvent (f := fun p => p.gainFrame first settlesLast) rfl ?_
    obtain ⟨hcloses, hfree⟩ := Part.gainsFreed_closes (settlesLast := settlesLast) hqueue hsession hstate hreason hpending hk
      (Part.nextGain_zero hk htarget hgain hfall) hothers first
    have hentered := Part.sameBut_livesEntered s.part settlesLast
    have htaken := Part.sameBut_takeFree ((hentered.queue (by simp)).trans hqueue) k
    generalize (s.part.livesEntered settlesLast).takeFree k = m at hcloses hfree htaken
    have hparams : (m.closeSession x r).ssu.params = s.part.ssu.params := by
      rw [← hentered.params (by simp), ← htaken.params (by simp)]
      simp
    obtain ⟨hfinal, hgrows⟩ := Part.gainFrame_ends (p := s.part) (first := first) (settlesLast := settlesLast)
      (by rwa [hcloses, hparams])
    rw [hcloses] at hfinal hgrows
    rw [Part.event_unheld hheld]
    generalize Part.conclude s.part (s.part.gainFrame first settlesLast) = t at hfinal hgrows ⊢
    have hclock : m.sch.clock = s.part.sch.clock := (htaken.clock (by simp)).trans (hentered.clock (by simp))
    have hstore : m.ssu.nextSummary = s.part.ssu.nextSummary :=
      (htaken .store (by simp)).2.2.trans (hentered .store (by simp)).2.2
    have hpreset : m.flc.preset = s.part.flc.preset := by
      have h1 : m.flc.preset = _ := htaken .floorPreset (by simp)
      have h2 : (s.part.livesEntered settlesLast).flc.preset = _ := hentered .floorPreset (by simp)
      exact h1.trans h2
    have hnewest := (congrArg List.getLast? (hfinal.store (by simp))).trans (Part.closeSession_newest m x r)
    refine ⟨?_, (hfinal.session (by simp)).trans (Part.closeSession_session _ _ _), ⟨_, hnewest, rfl, hstore, rfl,
      congrArg Clock.day hclock, congrArg Clock.minute hclock, rfl⟩, fun i => ?_, ?_, fun q => hgrows.flags (Part.closeSession_flags _ _ _ q)⟩
    · rw [Part.allFree_of_slots (hfinal .slots (by simp)), Part.allFree_of_slots (p := m) (by simp)]
      exact hfree
    · rw [hfinal.seat (by simp)]
      exact Part.closeSession_counters _ _ _ i
    · rw [hfinal.mode (by simp), ← hpreset]
      exact Part.applyFloorPreset_mode _ _

end Sys2Proof.Machine
end

section
/-! What the sessions read of the schedule: the clock, the published bank and its entries to come (R144, R149, R164). -/

namespace Sys2Proof.Machine

namespace Part

variable {p q t : Part} {x : Session} {id : Nat} {old new : EntryStatus} {e : Entry}

/-- Two parts show a session the same schedule: the same clock, and a published bank with the same day and the same entries
to come. -/
structure SameDay (p t : Part) : Prop where
  clock : t.sch.clock = p.sch.clock
  state : t.published.state = p.published.state
  day : t.published.day = p.published.day
  coming : t.comingEntries = p.comingEntries

namespace SameDay

theorem refl (p : Part) : SameDay p p := ⟨rfl, rfl, rfl, rfl⟩

theorem trans (h : SameDay p q) (h' : SameDay q t) : SameDay p t :=
  ⟨h'.clock.trans h.clock, h'.state.trans h.state, h'.day.trans h.day, h'.coming.trans h.coming⟩

theorem now (h : SameDay p t) : t.now = p.now := by simp only [Part.now, h.clock]

theorem isCurrent (h : SameDay p t) : t.isCurrent = p.isCurrent := by
  simp only [Part.isCurrent, h.state, h.day, h.clock]

theorem nextStart (h : SameDay p t) : t.nextStart = p.nextStart := by
  simp only [Part.nextStart, h.isCurrent, h.coming]

theorem dueEntry (h : SameDay p t) : t.dueEntry = p.dueEntry := by
  simp only [Part.dueEntry, h.isCurrent, h.coming, startReached, reached, h.now, h.day]

theorem graceEnd (h : SameDay p t) (hparams : t.ssu.params = p.ssu.params) (n : Nat) : t.graceEnd n = p.graceEnd n := by
  simp only [Part.graceEnd, h.nextStart, h.clock, hparams]

theorem stageFor (h : SameDay p t) (hparams : t.ssu.params = p.ssu.params) (n : Nat) : t.stageFor n = p.stageFor n := by
  simp only [Part.stageFor, reached, h.now, h.graceEnd hparams, hparams]
  rfl

/-- The entries to come are those of a bank with the same entries but for marks of entries that are not PENDING before or after,
or whose end has come. -/
theorem of_marks (hclock : t.sch.clock = p.sch.clock) (hstate : t.published.state = p.published.state)
    (hday : t.published.day = p.published.day) {f : Entry → Entry} (hentries : t.published.entries = p.published.entries.map f)
    (hf : ∀ a, f a = a ∨ ((f a).status ≠ .pending ∧ (a.status ≠ .pending ∨ p.endReached p.published a = true))) : SameDay p t := by
  refine ⟨hclock, hstate, hday, ?_⟩
  have hend : ∀ a, t.endReached t.published a = p.endReached p.published a := fun a => by
    rw [endReached_now, endReached_now, hday, Part.now, Part.now, hclock]
  simp only [comingEntries, hentries, hend]
  induction p.published.entries with
  | nil => rfl
  | cons a l ih =>
    obtain hsame | ⟨hout, hwas⟩ := hf a
    · rw [List.map_cons, hsame, List.filter_cons, List.filter_cons, ih]
    · rw [List.map_cons, List.filter_cons_of_neg (by simp [hout]), ih, List.filter_cons_of_neg]
      obtain h | h := hwas <;> simp [h]

theorem of_sch (h : t.sch = p.sch) : SameDay p t :=
  of_marks (by rw [h]) (by rw [published_of_sch h]) (by rw [published_of_sch h]) (f := id)
    (by rw [published_of_sch h, List.map_id]) fun a => .inl rfl

theorem then_sch (h : SameDay p q) (hsch : t.sch = q.sch) : SameDay p t := h.trans (of_sch hsch)

theorem sameBut {bs : List Piece} (h : SameDay p q) (ht : SameBut bs q t) (hclock : .clock ∉ bs) (hbanks : .banks ∉ bs) :
    SameDay p t :=
  h.trans (of_marks (ht.clock hclock) (by rw [ht.published hbanks]) (by rw [ht.published hbanks]) (f := id)
    (by rw [ht.published hbanks, List.map_id]) fun a => .inl rfl)

/-- The marks of ended entries leave the entries to come (R144). -/
theorem markMissed (p : Part) : SameDay p p.markMissed := by
  by_cases h : p.published.state = .published
  · have hpub := markMissed_published h
    refine of_marks (by simp) (by rw [hpub]) (by rw [hpub]) (f := p.missedEntry) (by rw [hpub]) fun a => ?_
    unfold missedEntry
    split
    next hc => exact .inr ⟨by simp, .inr hc.2⟩
    next => exact .inl rfl
  · rw [markMissed_unpublished h]
    exact .refl p

theorem markEntry (p : Part) {id : Nat} {old new : EntryStatus} (hold : old ≠ .pending) (hnew : new ≠ .pending) :
    SameDay p (p.markEntry id old new) := by
  have hpub := markEntry_published p id old new
  refine of_marks (by simp) (by rw [hpub]) (by rw [hpub]) (f := markedEntry id old new) (by rw [hpub]) fun a => ?_
  unfold markedEntry
  split
  next hc => exact .inr ⟨hnew, .inl fun h => hold (hc.2.symm.trans h)⟩
  next => exact .inl rfl

theorem closeRecords (p : Part) (x : Session) (r : CloseReason) : SameDay p (p.closeRecords x r) := by
  have hwritten : SameDay p ((p.writeSummary (p.summaryOf x r)).clearCounters) := of_sch (by simp)
  unfold Part.closeRecords
  cases hbooking : x.booking with
  | none => exact hwritten
  | some id =>
    refine hwritten.trans (markEntry _ (by simp) ?_)
    unfold closedStatus
    split <;> simp

theorem closeSession (p : Part) (x : Session) (r : CloseReason) : SameDay p (p.closeSession x r) :=
  (closeRecords p x r).then_sch (by simp [Part.closeSession])

end SameDay

end Part

end Sys2Proof.Machine
end

section
/-! The tests that an event makes of the session and of the schedule, and the opening of a booked entry (R162 to R166, R171). -/

namespace Sys2Proof.Machine

namespace Part

variable {p t : Part} {x : Session} {b : Booking} {e : Entry} {id : Nat}

/-! ### The opening of a booked entry (R165) -/

/-- The part as a booked entry opens, before its check-in or its entry to IN_SESSION. -/
def bookedSet (p : Part) (b : Booking) : Part :=
  let q := ((((p.putSession (some (p.bookedSession b))).markEntry b.id .pending .active).setPendingStart none).applyFloorPreset
    b.floor).applyPreset b.screen
  q.withSsu { q.ssu with dwell := 0 }

theorem openBooked_eq (p : Part) (b : Booking) :
    p.openBooked b = if b.checkIn then (p.bookedSet b).checkIn else (p.bookedSet b).enterSession (p.bookedSession b) := rfl

theorem sameBut_bookedSet (p : Part) (b : Booking) :
    SameBut [.session, .banks, .pendingStart, .floorMode, .floorLimit, .floorSpeak, .screens, .dwell, .notices] p
      (p.bookedSet b) :=
  ((sameBut_putSession p _).mono (by simp)).trans (((sameBut_markEntry _ _ _ _).mono (by simp)).trans
    (((sameBut_setPendingStart _ _).mono (by simp)).trans (((sameBut_applyFloorPreset _ _).mono (by simp)).trans
      (((sameBut_takeSettings _ _).mono (by simp)).trans ((sameBut_setDwell _ 0).mono (by simp))))))

theorem bookedSet_session (p : Part) (b : Booking) : (p.bookedSet b).ssu.session = some (p.bookedSession b) := by
  simp [bookedSet, putSession]

theorem bookedSet_pendingStart (p : Part) (b : Booking) : (p.bookedSet b).ssu.pendingStart = none := by
  simp [bookedSet, setPendingStart]

theorem bookedSet_dwell (p : Part) (b : Booking) : (p.bookedSet b).ssu.dwell = 0 := by simp [bookedSet]

/-- The floor takes the booking's preset (R64). -/
theorem bookedSet_floor (p : Part) (b : Booking) :
    (p.bookedSet b).flc.mode = b.floor.mode ∧ (p.bookedSet b).flc.limit = clamp 1 6 b.floor.limit ∧
      (p.bookedSet b).flc.speak = b.floor.speak ∧ (p.bookedSet b).flc.enforce = b.floor.enforce := by
  simp [bookedSet, applyFloorPreset]

/-- The screens take the booking's routing preset (R136). -/
theorem bookedSet_set (p : Part) (b : Booking) (k : ScreenId) :
    ((p.bookedSet b).screen k).set = (p.rtu.presets.get b.screen).get k := by
  simp only [bookedSet, screen, withSsu_rtu]
  rw [← screen, applyPreset_set]
  simp [putSession]

theorem bookedSet_entries (p : Part) (b : Booking) :
    (p.bookedSet b).published.entries = p.published.entries.map (markedEntry b.id .pending .active) := by
  have hput : (p.putSession (some (p.bookedSession b))).published = p.published := published_of_sch (by simp [putSession])
  have hlater : (p.bookedSet b).published =
      ((p.putSession (some (p.bookedSession b))).markEntry b.id .pending .active).published :=
    published_of_sch (by simp [bookedSet])
  rw [hlater, markEntry_entries, hput]

/-- The opening raises SESSION, and with its entry PENDING in the published bank SCHEDULE too. -/
theorem openBooked_flags (hmem : e ∈ p.published.entries) (hpending : e.status = .pending) (q : Port) :
    ((p.openBooked e.booking).notices q).1 &&& 0x60 = 0x60 := by
  have hsession : ((p.putSession (some (p.bookedSession e.booking))).notices q).1 &&& 32 = 32 := by
    rw [putSession, notice_notices]
    ext i hi
    simp +contextual [Category.bit]
  have hput : (p.putSession (some (p.bookedSession e.booking))).published = p.published := published_of_sch (by simp [putSession])
  set put := p.putSession (some (p.bookedSession e.booking)) with hputdef
  have hschedule : ((put.markEntry e.booking.id .pending .active).notices q).1 &&& 64 = 64 :=
    markEntry_raises ⟨by rw [hput]; exact hmem, rfl⟩ hpending (by simp) q
  have hmarked : ((put.markEntry e.booking.id .pending .active).notices q).1 &&& 32 = 32 :=
    (markEntry_grows (.refl _) _ _ _).flags hsession
  have hset : NoticesGrow (put.markEntry e.booking.id .pending .active).notices (p.bookedSet e.booking).notices := by
    simp [bookedSet, hputdef]
  have hgrows : NoticesGrow (put.markEntry e.booking.id .pending .active).notices (p.openBooked e.booking).notices := by
    rw [openBooked_eq]
    split
    · exact checkIn_grows hset
    · exact enterSession_grows hset _
  exact (flags_both (hgrows.flags hschedule)).1 (hgrows.flags hmarked)

/-- The session that a booked entry opens whose end is not near: AWAITING, or checked in at once, or with no check-in
IN_SESSION (R63, R165, R166). -/
def openedSession (p : Part) (b : Booking) : Session :=
  if b.checkIn = true ∧ p.smn.occupied < b.quorum then p.bookedSession b
  else { p.bookedSession b with state := .inSession, checkedIn := if b.checkIn then some p.sch.clock.minute else none }

theorem openedSession_waits (h : b.checkIn = true) (hquorum : p.smn.occupied < b.quorum) : p.openedSession b = p.bookedSession b := by
  simp [openedSession, h, hquorum]

theorem openedSession_enters (h : b.checkIn = false ∨ b.quorum ≤ p.smn.occupied) :
    p.openedSession b =
      { p.bookedSession b with state := .inSession, checkedIn := if b.checkIn then some p.sch.clock.minute else none } := by
  rw [openedSession, if_neg]
  rintro ⟨hcheck, hquorum⟩
  obtain h | h := h
  · simp [h] at hcheck
  · omega

theorem openedSession_fields (p : Part) (b : Booking) :
    ∃ st c, p.openedSession b = { p.bookedSession b with state := st, checkedIn := c } := by
  unfold openedSession
  split
  · exact ⟨.awaiting, none, rfl⟩
  · exact ⟨_, _, rfl⟩

theorem openedSession_state (p : Part) (b : Booking) : (p.openedSession b).state ≠ .windup := by
  unfold openedSession
  split <;> simp [bookedSession]

theorem stage_notNear {n : Nat} (h : p.now + p.ssu.params.warning < n) : p.stageFor n = .inSession := by
  rw [stageFor_before (by omega), if_neg (by omega)]

/-- The opening of a booked entry whose end is not near. -/
theorem openBooked_opens (hend : p.sch.clock.minute + p.ssu.params.warning < b.stop) :
    (p.openBooked b).ssu.session = some (p.openedSession b) ∧
      ((p.openedSession b).state = .inSession → (p.openBooked b).flc.isOpen = true) ∧
      SameBut [.session, .floorOpen, .notices] (p.bookedSet b) (p.openBooked b) := by
  have hset := sameBut_bookedSet p b
  have hnow : (p.bookedSet b).now = p.now := by rw [now, now, hset.clock (by simp)]
  have hoccupied := hset.occupied (by simp)
  have hstage : (p.bookedSet b).stageFor (p.bookedSession b).effEnd = .inSession := by
    refine stage_notNear ?_
    rw [hnow, hset.params (by simp), now, bookedSession]
    simp only
    omega
  have henter : ∀ y : Session, y.effEnd = (p.bookedSession b).effEnd → y.vacancy = 0 →
      ((p.bookedSet b).enterSession y).ssu.session = some { y with state := .inSession } ∧
      ((p.bookedSet b).enterSession y).flc.isOpen = true ∧
      SameBut [.session, .floorOpen, .notices] (p.bookedSet b) ((p.bookedSet b).enterSession y) := fun y hy hvacancy => by
    have hy' : (p.bookedSet b).stageFor y.effEnd = .inSession := by rw [hy]; exact hstage
    obtain ⟨hsession, hopen, hbut⟩ := enterSession_stays (p := p.bookedSet b) (x := y) (by rw [hy']; decide)
    refine ⟨?_, hopen, hbut⟩
    rw [hsession, staged, show (entered y).effEnd = y.effEnd from rfl, hy', entered, ← hvacancy]
  rw [openBooked_eq]
  by_cases hcheck : b.checkIn = true
  · rw [if_pos hcheck]
    by_cases hquorum : b.quorum ≤ p.smn.occupied
    · have hin : (p.bookedSet b).checkIn =
          (p.bookedSet b).enterSession { p.bookedSession b with checkedIn := some p.sch.clock.minute } := by
        simp [checkIn, bookedSet_session, bookedSession, hoccupied, hquorum, hset.clock (by simp)]
      have hopened : p.openedSession b = { p.bookedSession b with checkedIn := some p.sch.clock.minute, state := .inSession } := by
        simp [openedSession, hcheck, Nat.not_lt.mpr hquorum]
      rw [hin, hopened]
      obtain ⟨hsession, hopen, hbut⟩ := henter { p.bookedSession b with checkedIn := some p.sch.clock.minute } rfl rfl
      exact ⟨hsession, fun _ => hopen, hbut⟩
    · have hwaits : (p.bookedSet b).checkIn = p.bookedSet b := by
        simp [checkIn, bookedSet_session, bookedSession, hoccupied, hquorum]
      have hopened : p.openedSession b = p.bookedSession b := by
        simp [openedSession, hcheck, Nat.lt_of_not_le hquorum]
      rw [hwaits, hopened]
      exact ⟨bookedSet_session p b, fun h => by simp [bookedSession] at h, .refl _ _⟩
  · have hopened : p.openedSession b = { p.bookedSession b with state := .inSession } := by
      simp only [openedSession, hcheck]
      rfl
    rw [if_neg hcheck, hopened]
    obtain ⟨hsession, hopen, hbut⟩ := henter (p.bookedSession b) rfl rfl
    exact ⟨hsession, fun _ => hopen, hbut⟩

/-- What the opening of a due entry leaves beside its session (R136, R148, R164, R165). -/
theorem openBooked_leaves (he : e ∈ p.published.entries ∧ e.status = .pending)
    (hend : p.sch.clock.minute + p.ssu.params.warning < e.booking.stop) :
    (p.openBooked e.booking).ssu.pendingStart = none ∧ (p.openBooked e.booking).ssu.dwell = 0 ∧
      (∃ y ∈ (p.openBooked e.booking).published.entries, y.booking = e.booking ∧ y.status = .active) ∧
      ((p.openBooked e.booking).flc.mode = e.booking.floor.mode ∧
        (p.openBooked e.booking).flc.limit = clamp 1 6 e.booking.floor.limit ∧
        (p.openBooked e.booking).flc.speak = e.booking.floor.speak ∧
        (p.openBooked e.booking).flc.enforce = e.booking.floor.enforce) ∧
      ∀ k, ((p.openBooked e.booking).screen k).set = (p.rtu.presets.get e.booking.screen).get k := by
  obtain ⟨hmem, hpending⟩ := he
  obtain ⟨-, -, hopened⟩ := openBooked_opens hend
  obtain ⟨hmode, hlimit, hspeak, henforce⟩ := bookedSet_floor p e.booking
  have hspeaking : (p.openBooked e.booking).flc.speak = (p.bookedSet e.booking).flc.speak ∧
      (p.openBooked e.booking).flc.enforce = (p.bookedSet e.booking).flc.enforce := hopened .floorSpeak (by simp)
  have hdwell : (p.openBooked e.booking).ssu.dwell = (p.bookedSet e.booking).ssu.dwell := hopened .dwell (by simp)
  refine ⟨(hopened.pendingStart (by simp)).trans (bookedSet_pendingStart p _), hdwell.trans (bookedSet_dwell p _),
    ⟨{ e with status := .active }, ?_, rfl, rfl⟩,
    ⟨(hopened.mode (by simp)).trans hmode, (hopened.limit (by simp)).trans hlimit, hspeaking.1.trans hspeak,
      hspeaking.2.trans henforce⟩, fun k => ?_⟩
  · rw [hopened.published (by simp), bookedSet_entries]
    exact List.mem_map.mpr ⟨e, hmem, by simp [markedEntry, hpending]⟩
  · rw [hopened.screen (by simp), bookedSet_set]

/-- With no walk-in ready the end of an event leaves the dwell timer at 0 (R170). -/
theorem conclude_dwell {before after : Part} (h : after.walkInReady = false) : (conclude before after).ssu.dwell = 0 := by
  simp [conclude, concludeDwell, h]

/-! ### The pending start (R163, R171) -/

theorem dropStalePending_none (h : p.ssu.pendingStart = none) : p.dropStalePending = p := by simp [dropStalePending, h]

theorem dropStalePending_kept (h : p.ssu.pendingStart = some id) (hpending : p.isPending id = true) : p.dropStalePending = p := by
  simp [dropStalePending, h, hpending]

theorem dropStalePending_dropped (h : p.ssu.pendingStart = some id) (hpending : p.isPending id = false) :
    p.dropStalePending = p.setPendingStart none := by
  simp [dropStalePending, h, hpending]

/-! ### The end test (R162, R163, R166) -/

theorem endTest_none (h : p.ssu.session = none) (window : Bool) : p.endTest window = p := by
  have hrelease : p.releaseTest window = p := by simp [releaseTest, h]
  rw [endTest, hrelease, stageTest, stageStep_none (by simp [h]), completeWindup_stays (by simp [h])]

theorem endTest_running (hsession : p.ssu.session = some x) (hrunning : runningState x.state = true) (window : Bool) :
    p.endTest window = p.stageTest := by
  rw [endTest, releaseTest_running hsession fun h => by simp [runningState, h] at hrunning]

/-- The stage test against an end and its grace end (R162). -/
theorem stageFor_eq (p : Part) (n : Nat) :
    p.stageFor n = if n ≤ p.now then (if p.graceEnd n ≤ p.now then .windup else .overtime)
      else if n ≤ p.now + p.ssu.params.warning then .ending else .inSession := by
  by_cases hend : n ≤ p.now
  · by_cases hgrace : p.graceEnd n ≤ p.now <;> simp [stageFor, reached, hend, hgrace]
  · simp [stageFor, reached, hend]

theorem stageFor_open {n : Nat} (h : p.now < n ∨ p.now < p.graceEnd n) :
    p.stageFor n = (if n ≤ p.now then .overtime else if n ≤ p.now + p.ssu.params.warning then .ending else .inSession) ∧
      p.stageFor n ≠ .windup := by
  have hstage : p.stageFor n =
      if n ≤ p.now then .overtime else if n ≤ p.now + p.ssu.params.warning then .ending else .inSession := by
    rw [stageFor_eq]
    split
    next hend => rw [if_neg (by omega)]
    next => rfl
  refine ⟨hstage, ?_⟩
  rw [hstage]
  split
  · decide
  · split <;> decide

theorem stageFor_over {n : Nat} (hend : n ≤ p.now) (hgrace : p.graceEnd n ≤ p.now) : p.stageFor n = .windup := by
  rw [stageFor_eq, if_pos hend, if_pos hgrace]

theorem stageTest_stays (hsession : p.ssu.session = some x) (hrunning : runningState x.state = true)
    (hstage : p.stageFor x.effEnd ≠ .windup) :
    p.stageTest.ssu.session = some (p.staged x) ∧ SameBut [.session, .notices] p p.stageTest := by
  obtain ⟨hstep, hsame⟩ := stageStep_stays hsession hrunning hstage
  rw [stageTest, completeWindup_stays]
  · exact ⟨hstep, hsame⟩
  · rw [hstep]
    rintro y hy
    obtain rfl := Option.mem_some.mp hy
    exact hstage

theorem stageTest_windup (hsession : p.ssu.session = some x) (hrunning : runningState x.state = true)
    (hstage : p.stageFor x.effEnd = .windup) : p.stageTest = p.windup .ended := by
  rw [stageTest, stageStep_windup hsession hrunning hstage, windup]

/-- A session in AWAITING that is not released takes no stage test. -/
theorem endTest_waits (hsession : p.ssu.session = some x) (hstate : x.state = .awaiting) {window : Bool}
    (hrelease : p.releaseTest window = p) : p.endTest window = p := by
  have hnone : ∀ y ∈ p.ssu.session, y = x := by simp [hsession]
  rw [endTest, hrelease, stageTest, stageStep_none fun y hy => by rw [hnone y hy, hstate]; rfl]
  exact completeWindup_stays fun y hy => by simp [hnone y hy, hstate]

theorem releaseTest_early (hsession : p.ssu.session = some x) (hend : p.now < x.effEnd) : p.releaseTest false = p := by
  simp [releaseTest, hsession, reached, Nat.not_le.mpr hend]

/-- A session in AWAITING whose end has come is released (R166). -/
theorem releaseTest_ends (hsession : p.ssu.session = some x) (hstate : x.state = .awaiting) (hend : x.effEnd ≤ p.now)
    (window : Bool) : p.releaseTest window = p.release x := by
  simp [releaseTest, hsession, hstate, reached, hend]

/-- After a release with no start pending no session is open (R166, R174). -/
theorem endTest_releases (hpending : p.ssu.pendingStart = none) {window : Bool} (hrelease : p.releaseTest window = p.release x) :
    p.endTest window = p.closeSession x .released := by
  have hnone : (p.closeSession x .released).ssu.session = none := closeSession_session _ _ _
  rw [endTest, hrelease, release_closes hpending, stageTest, stageStep_none (by simp [hnone]), completeWindup_stays (by simp [hnone])]

/-! ### The opening test (R164) -/

theorem openingTest_none (h : p.dueEntry = none) : p.openingTest = p := by simp [openingTest, h]

theorem openingTest_pending (h : ∀ e ∈ p.dueEntry, p.ssu.pendingStart = some e.booking.id) : p.openingTest = p := by
  unfold openingTest
  split
  next => rfl
  next e he => rw [if_pos (h e he)]

theorem openingTest_opens (hdue : p.dueEntry = some e) (hpending : p.ssu.pendingStart = none) (hsession : p.ssu.session = none)
    (hpower : p.pwu.power = .active) : p.openingTest = (p.openBooked e.booking).closeWindup := by
  simp [openingTest, hdue, hpending, hsession, hpower]

theorem openingTest_asleep (hdue : p.dueEntry = some e) (hpending : p.ssu.pendingStart = none) (hsession : p.ssu.session = none)
    (hpower : p.pwu.power ≠ .active) : p.openingTest = (p.setPendingStart (some e.booking.id)).wake := by
  simp [openingTest, hdue, hpending, hsession, hpower]

theorem openingTest_preempts (hdue : p.dueEntry = some e) (hpending : p.ssu.pendingStart = none)
    (hsession : p.ssu.session = some x) (hstate : x.state ≠ .windup) :
    p.openingTest = (p.setPendingStart (some e.booking.id)).windup .preempted := by
  simp [openingTest, hdue, hpending, hsession, hstate]

theorem wake_awake (h : p.pwu.power ≠ .standby) : p.wake = p := by simp [wake, h]

/-! ### The repeated walk-in test (R170) -/

theorem walkInTest_unready (h : p.walkInReady = false) : p.walkInTest = p := by simp [walkInTest, h]

theorem repeatWalkIn_stays (h : p.walkInReady = false ∨ p.ssu.dwell < p.ssu.params.dwell) : p.repeatWalkIn = p := by
  unfold repeatWalkIn
  split
  next hfull =>
    obtain h | h := h
    · exact walkInTest_unready h
    · omega
  next => rfl

theorem walkInReady_pending (h : p.ssu.pendingStart = some id) : p.walkInReady = false := by simp [walkInReady, h]

/-! ### The entry that is due (R164) -/

/-- The entry that the opening test finds in a current bank: the first that is PENDING with its start reached and its end
not. -/
theorem dueEntry_find (hcurrent : p.isCurrent = true) :
    p.dueEntry = p.published.entries.find? fun a =>
      a.status = .pending ∧ a.booking.start ≤ p.sch.clock.minute ∧ p.sch.clock.minute < a.booking.stop := by
  have hday : p.published.day = p.sch.clock.day := by
    simp only [isCurrent, Bool.and_eq_true, decide_eq_true_eq] at hcurrent
    exact hcurrent.2
  rw [dueEntry, if_pos hcurrent, comingEntries, List.find?_filter]
  refine congrArg (fun f => p.published.entries.find? f) (funext fun a => ?_)
  have hstart : p.startReached p.published a = decide (a.booking.start ≤ p.sch.clock.minute) := by
    simp only [startReached, reached, now, hday]
    exact decide_eq_decide.mpr (by omega)
  have hstop : p.endReached p.published a = decide (a.booking.stop ≤ p.sch.clock.minute) := by
    rw [endReached_now, now, hday]
    exact decide_eq_decide.mpr (by omega)
  rw [hstart, hstop]
  rw [Bool.eq_iff_iff]
  simp only [Bool.and_eq_true, Bool.not_eq_true', decide_eq_true_eq, decide_eq_false_iff_not, Nat.not_le]
  tauto

theorem dueEntry_coming (h : p.dueEntry = some e) : e ∈ p.published.entries ∧ e.status = .pending := by
  unfold dueEntry at h
  split at h
  next =>
    have hmem := List.mem_of_find?_eq_some h
    simp only [comingEntries, List.mem_filter, Bool.and_eq_true, decide_eq_true_eq] at hmem
    exact ⟨hmem.1, hmem.2.1⟩
  next => simp at h

/-! ### A WINDUP with no start pending (R173, R174) -/

/-- What a WINDUP leaves for what follows at its event. -/
theorem windup_leaves (hsession : p.ssu.session = some x) (hpending : p.ssu.pendingStart = none) (r : CloseReason) :
    SameDay p (p.windup r) ∧ (p.windup r).ssu.pendingStart = none ∧ (p.windup r).ssu.dwell = p.ssu.dwell := by
  have hentry : SameDay p (p.enterWindup r) := .of_sch (by simp)
  cases hslots : p.allFree with
  | false =>
    rw [windup_waits hsession hslots]
    exact ⟨hentry, by simpa using hpending, by simp⟩
  | true =>
    rw [windup_closes hsession hslots hpending]
    exact ⟨hentry.trans (.closeSession _ _ r), by simpa using hpending, by simp⟩

theorem windup_floor (hsession : p.ssu.session = some x) (hpending : p.ssu.pendingStart = none) (r : CloseReason) :
    (p.windup r).flc.isOpen = false ∧ (p.windup r).flc.queue = [] := by
  obtain ⟨hopen, hqueue, -⟩ := enterWindup_closed hsession r
  cases hslots : p.allFree with
  | false =>
    rw [windup_waits hsession hslots]
    exact ⟨hopen, hqueue⟩
  | true =>
    rw [windup_closes hsession hslots hpending]
    exact ⟨by simpa using hopen, by simpa using hqueue⟩

theorem windup_session (hsession : p.ssu.session = some x) (hpending : p.ssu.pendingStart = none) (r : CloseReason) :
    (p.allFree = false → (p.windup r).ssu.session = some (windupOf r x)) ∧
      (p.allFree = true → (p.windup r).ssu.session = none ∧
        ∃ y ∈ (p.windup r).ssu.store.getLast?, y.reason = r ∧ y.number = p.ssu.nextSummary) := by
  refine ⟨fun hslots => ?_, fun hslots => ?_⟩
  · rw [windup_waits hsession hslots]
    exact enterWindup_session hsession r
  · rw [windup_closes hsession hslots hpending]
    refine ⟨closeSession_session _ _ _, _, closeSession_newest _ _ r, rfl, ?_⟩
    simp [summaryOf]

/-! ### The tests of an event of the clock, in their order (R163, R171) -/

/-- The end test, the opening test and the repeated walk-in test of a minute event and of a clock jump. -/
def sessionTested (p : Part) (window : Bool) : Part := ((p.endTest window).openingTest).repeatWalkIn

theorem sessionTested_opens (hpending : p.ssu.pendingStart = none) (hsession : p.ssu.session = none) (hpower : p.pwu.power = .active)
    (hdue : p.dueEntry = some e) (hend : p.sch.clock.minute + p.ssu.params.warning < e.booking.stop) (window : Bool) :
    p.sessionTested window = p.openBooked e.booking := by
  obtain ⟨hopened, -, -⟩ := openBooked_opens hend
  have hstands : (p.openBooked e.booking).closeWindup = p.openBooked e.booking := closeWindup_stays fun y hy => by
    rw [hopened] at hy
    obtain rfl := Option.mem_some.mp hy
    exact openedSession_state p _
  rw [sessionTested, endTest_none hsession, openingTest_opens hdue hpending hsession hpower, hstands,
    repeatWalkIn_stays (.inl (walkInReady_open hopened))]

theorem sessionTested_asleep (hpending : p.ssu.pendingStart = none) (hsession : p.ssu.session = none)
    (hpower : p.pwu.power ≠ .active) (hdue : p.dueEntry = some e) {window : Bool} :
    p.sessionTested window = (p.setPendingStart (some e.booking.id)).wake := by
  rw [sessionTested, endTest_none hsession, openingTest_asleep hdue hpending hsession hpower,
    repeatWalkIn_stays (.inl (walkInReady_pending (id := e.booking.id) (by simp [setPendingStart])))]

theorem sessionTested_stages (hsession : p.ssu.session = some x) (hrunning : runningState x.state = true) (hdue : p.dueEntry = none)
    (hstage : p.stageFor x.effEnd ≠ .windup) (window : Bool) :
    (p.sessionTested window).ssu.session = some (p.staged x) ∧ SameBut [.session, .notices] p (p.sessionTested window) := by
  obtain ⟨hstaged, hsame⟩ := stageTest_stays hsession hrunning hstage
  have hopening : p.stageTest.openingTest = p.stageTest :=
    openingTest_none (((SameDay.refl p).sameBut hsame (by simp) (by simp)).dueEntry.trans hdue)
  rw [sessionTested, endTest_running hsession hrunning, hopening, repeatWalkIn_stays (.inl (walkInReady_open hstaged))]
  exact ⟨hstaged, hsame⟩

theorem sessionTested_ends (hpending : p.ssu.pendingStart = none) (hsession : p.ssu.session = some x)
    (hrunning : runningState x.state = true) (hdue : p.dueEntry = none) (hstage : p.stageFor x.effEnd = .windup)
    (hdwell : p.ssu.dwell < p.ssu.params.dwell) (window : Bool) : p.sessionTested window = p.windup .ended := by
  obtain ⟨hday, -, hstands⟩ := windup_leaves hsession hpending .ended
  rw [sessionTested, endTest_running hsession hrunning, stageTest_windup hsession hrunning hstage,
    openingTest_none (hday.dueEntry.trans hdue), repeatWalkIn_stays (.inr (by simpa [hstands] using hdwell))]

theorem sessionTested_awaits (hsession : p.ssu.session = some x) (hstate : x.state = .awaiting) (hdue : p.dueEntry = none)
    {window : Bool} (hrelease : p.releaseTest window = p) : p.sessionTested window = p := by
  rw [sessionTested, endTest_waits hsession hstate hrelease, openingTest_none hdue,
    repeatWalkIn_stays (.inl (walkInReady_open hsession))]

theorem sessionTested_releases (hpending : p.ssu.pendingStart = none) (hdue : p.dueEntry = none) {window : Bool}
    (hrelease : p.releaseTest window = p.release x) (hdwell : p.ssu.dwell < p.ssu.params.dwell) :
    p.sessionTested window = p.closeSession x .released := by
  rw [sessionTested, endTest_releases hpending hrelease, openingTest_none ((SameDay.closeSession p x .released).dueEntry.trans hdue),
    repeatWalkIn_stays (.inr (by simpa using hdwell))]

end Part

end Sys2Proof.Machine
end

section
/-! CLOCK SET and what a clock jump makes of the banks, the pending start and the session (R143, R171). -/

namespace Sys2Proof.Machine

namespace Part

variable {p t : Part} {x : Session} {e : Entry} {id : Nat} {c : Clock}

/-! ### The session's part of a clock jump (R171) -/

theorem sessionJump_waits (hpending : p.ssu.pendingStart = some id) (hstands : p.isPending id = true) (hsession : p.ssu.session = none)
    (hdue : ∀ e ∈ p.dueEntry, e.booking.id = id) : p.sessionJump = p := by
  have hopening : p.openingTest = p := openingTest_pending fun e he => by rw [hpending, hdue e he]
  rw [sessionJump, dropStalePending_kept hpending hstands, endTest_none hsession, hopening,
    repeatWalkIn_stays (.inl (walkInReady_pending hpending))]

theorem sessionJump_drops (hpending : p.ssu.pendingStart = some id) (hgone : p.isPending id = false) (hsession : p.ssu.session = none)
    (hdue : p.dueEntry = none) (hdwell : p.ssu.dwell < p.ssu.params.dwell) : p.sessionJump = p.setPendingStart none := by
  have hopening : (p.setPendingStart none).openingTest = p.setPendingStart none :=
    openingTest_none (((SameDay.refl p).then_sch (by simp)).dueEntry.trans hdue)
  rw [sessionJump, dropStalePending_dropped hpending hgone, endTest_none (by simpa using hsession), hopening,
    repeatWalkIn_stays (.inr (by simpa using hdwell))]

theorem sessionJump_tested (hpending : p.ssu.pendingStart = none) : p.sessionJump = p.sessionTested false := by
  rw [sessionJump, dropStalePending_none hpending, sessionTested]

theorem sessionJump_opens (hpending : p.ssu.pendingStart = none) (hsession : p.ssu.session = none) (hpower : p.pwu.power = .active)
    (hdue : p.dueEntry = some e) (hend : p.sch.clock.minute + p.ssu.params.warning < e.booking.stop) :
    p.sessionJump = p.openBooked e.booking :=
  (sessionJump_tested hpending).trans (sessionTested_opens hpending hsession hpower hdue hend false)

theorem sessionJump_asleep (hpending : p.ssu.pendingStart = none) (hsession : p.ssu.session = none) (hpower : p.pwu.power = .waking)
    (hdue : p.dueEntry = some e) : p.sessionJump = p.setPendingStart (some e.booking.id) := by
  have hwake : (p.setPendingStart (some e.booking.id)).wake = p.setPendingStart (some e.booking.id) :=
    wake_awake (by simp [hpower])
  rw [sessionJump_tested hpending, sessionTested_asleep hpending hsession (by simp [hpower]) hdue, hwake]

theorem sessionJump_stages (hpending : p.ssu.pendingStart = none) (hsession : p.ssu.session = some x)
    (hrunning : runningState x.state = true) (hdue : p.dueEntry = none) (hstage : p.stageFor x.effEnd ≠ .windup) :
    p.sessionJump.ssu.session = some (p.staged x) := by
  rw [sessionJump_tested hpending]
  exact (sessionTested_stages hsession hrunning hdue hstage false).1

theorem sessionJump_ends (hpending : p.ssu.pendingStart = none) (hsession : p.ssu.session = some x)
    (hrunning : runningState x.state = true) (hdue : p.dueEntry = none) (hstage : p.stageFor x.effEnd = .windup)
    (hdwell : p.ssu.dwell < p.ssu.params.dwell) : p.sessionJump = p.windup .ended :=
  (sessionJump_tested hpending).trans (sessionTested_ends hpending hsession hrunning hdue hstage hdwell false)

theorem sessionJump_awaits (hpending : p.ssu.pendingStart = none) (hsession : p.ssu.session = some x)
    (hstate : x.state = .awaiting) (hdue : p.dueEntry = none) (hend : p.now < x.effEnd) : p.sessionJump = p :=
  (sessionJump_tested hpending).trans (sessionTested_awaits hsession hstate hdue (releaseTest_early hsession hend))

theorem sessionJump_releases (hpending : p.ssu.pendingStart = none) (hsession : p.ssu.session = some x)
    (hstate : x.state = .awaiting) (hdue : p.dueEntry = none) (hend : x.effEnd ≤ p.now)
    (hdwell : p.ssu.dwell < p.ssu.params.dwell) : p.sessionJump = p.closeSession x .released :=
  (sessionJump_tested hpending).trans
    (sessionTested_releases hpending hdue (releaseTest_ends hsession hstate hend false) hdwell)

theorem sessionJump_preempts (hpending : p.ssu.pendingStart = none) (hsession : p.ssu.session = some x)
    (hrunning : runningState x.state = true) (hdue : p.dueEntry = some e) (hend : p.now < x.effEnd) (hslots : p.allFree = false) :
    p.sessionJump.ssu.pendingStart = some e.booking.id ∧ p.sessionJump.flc.isOpen = false ∧
      p.sessionJump.ssu.session = some (windupOf .preempted (p.staged x)) := by
  have hstage : p.stageFor x.effEnd ≠ .windup := by
    rw [stageFor_before hend]
    split <;> decide
  obtain ⟨hstaged, hsame⟩ := stageTest_stays hsession hrunning hstage
  have hdue' : p.stageTest.dueEntry = some e := ((SameDay.refl p).sameBut hsame (by simp) (by simp)).dueEntry.trans hdue
  have hopening : p.stageTest.openingTest = (p.stageTest.setPendingStart (some e.booking.id)).windup .preempted :=
    openingTest_preempts hdue' ((hsame.pendingStart (by simp)).trans hpending) hstaged hstage
  set q := p.stageTest.setPendingStart (some e.booking.id) with hq
  have hqsession : q.ssu.session = some (p.staged x) := by simpa [hq, setPendingStart] using hstaged
  have hqslots : q.allFree = false := by
    have hstands : p.stageTest.sgu.slots = p.sgu.slots := hsame .slots (by simp)
    exact (allFree_of_slots (by simpa [hq] using hstands)).trans hslots
  have hentered := enterWindup_session hqsession .preempted
  rw [sessionJump, dropStalePending_none hpending, endTest_running hsession hrunning, hopening, windup_waits hqsession hqslots,
    repeatWalkIn_stays (.inl (walkInReady_open hentered))]
  exact ⟨by simp [hq, setPendingStart], (enterWindup_closed hqsession .preempted).1, hentered⟩

/-! ### CLOCK SET (R143) -/

/-- The part as CLOCK SET leaves its clock and its banks, before the session takes the jump. -/
def clockMoved (p : Part) (c : Clock) : Part :=
  let q := (p.setClock c).markMissed
  (if q.staging.state = .ready ∧ q.staging.day ≤ q.sch.clock.day then q.swap else q).notice .schedule

theorem clockSet_range {day minute second : Nat} (h : 1439 < minute ∨ 59 < second) : p.clockSet day minute second = (p, .range) := by
  simp [clockSet, h]

theorem clockSet_done {day minute second : Nat} (hminute : minute ≤ 1439) (hsecond : second ≤ 59) :
    p.clockSet day minute second = ((p.clockMoved ⟨day, minute, second, true⟩).sessionJump, .done) := by
  rw [clockSet, if_neg (by omega), clockMoved]

theorem clockMoved_swaps (hstate : p.staging.state = .ready) (hday : p.staging.day ≤ c.day) :
    p.clockMoved c = (p.setClock c).markMissed.swap.notice .schedule := by
  have hstaging : (p.setClock c).markMissed.staging = p.staging := markMissed_staging _
  rw [clockMoved, if_pos ⟨by rw [hstaging, hstate], by rw [hstaging]; simpa using hday⟩]

theorem clockMoved_stays (h : p.staging.state ≠ .ready ∨ c.day < p.staging.day) :
    p.clockMoved c = (p.setClock c).markMissed.notice .schedule := by
  have hstaging : (p.setClock c).markMissed.staging = p.staging := markMissed_staging _
  rw [clockMoved, if_neg]
  rintro ⟨hstate, hday⟩
  rw [hstaging] at hstate hday
  obtain h | h := h
  · exact h hstate
  · have hclock : (p.setClock c).markMissed.sch.clock = c := by simp
    rw [hclock] at hday
    omega

theorem clockMoved_clock (p : Part) (c : Clock) : (p.clockMoved c).sch.clock = c := by
  unfold clockMoved
  dsimp only
  split <;> simp

theorem clockMoved_params (p : Part) (c : Clock) : (p.clockMoved c).ssu.params = p.ssu.params := by
  unfold clockMoved
  dsimp only
  split <;> simp

theorem clockJumped_line (p : Part) (c : Clock) : (p.clockMoved c).sessionJump.line = p.line := by
  unfold clockMoved
  dsimp only
  split <;> simp

theorem clockMoved_flag (p : Part) (c : Clock) (q : Port) : ((p.clockMoved c).notices q).1 &&& 64 ≠ 0 := by
  rw [clockMoved, notice_notices]
  exact mark_raised _ (by decide)

section Stays

variable (h : p.staging.state ≠ .ready ∨ c.day < p.staging.day)

include h

theorem sameBut_clockMoved : SameBut [.clock, .banks, .notices] p (p.clockMoved c) := by
  rw [clockMoved_stays h]
  intro b hb
  cases b <;> simp_all [Piece.Same]

theorem sameDay_clockMoved : SameDay (p.setClock c) (p.clockMoved c) := by
  rw [clockMoved_stays h]
  exact (SameDay.markMissed _).then_sch (by simp)

theorem marked_clockMoved : Marked (p.setClock c).markMissed (p.clockMoved c) := by
  rw [clockMoved_stays h]
  exact (Marked.refl _).notice .schedule

/-- The published bank holds an entry PENDING once the jump has marked the ended ones. -/
theorem isPending_clockMoved (hstate : p.published.state = .published) :
    (p.clockMoved c).isPending id = true ↔
      ∃ e ∈ p.published.entries, e.booking.id = id ∧ e.status = .pending ∧
        (p.setClock c).now < p.published.day * 1440 + e.booking.stop := by
  have hpub : (p.setClock c).published = p.published := rfl
  have hentries : (p.clockMoved c).published.entries = p.published.entries.map (p.setClock c).missedEntry := by
    rw [clockMoved_stays h]
    have hnotice : ((p.setClock c).markMissed.notice .schedule).published = (p.setClock c).markMissed.published :=
      published_of_sch (by simp)
    rw [hnotice, markMissed_published (by rw [hpub]; exact hstate), hpub]
  have hpending : ∀ a : Entry, ((p.setClock c).missedEntry a).status = .pending ↔
      a.status = .pending ∧ (p.setClock c).now < p.published.day * 1440 + a.booking.stop := fun a => by
    have hend : (p.setClock c).endReached (p.setClock c).published a = true ↔
        p.published.day * 1440 + a.booking.stop ≤ (p.setClock c).now := by
      rw [endReached_now, hpub, decide_eq_true_eq]
    rw [missedEntry]
    split
    next hc => simp [Nat.not_lt.mpr (hend.mp hc.2)]
    next hc =>
      rw [hend, not_and, Nat.not_le] at hc
      exact ⟨fun ha => ⟨ha, hc ha⟩, And.left⟩
  simp only [isPending, hentries, List.any_map, List.any_eq_true, Function.comp_apply, missedEntry_booking, Bool.and_eq_true,
    decide_eq_true_eq, hpending]

end Stays

/-- What the jump leaves of the banks, without a swap: marks of published entries (R143, R144). -/
theorem marked_jump (h : p.staging.state ≠ .ready ∨ c.day < p.staging.day) :
    Marked (p.setClock c).markMissed (p.clockMoved c).sessionJump :=
  (marked_clockMoved h).sessionJump

end Part

variable {s : State} {tag sec : Byte} {day minute : Half}

/-- The part as it takes CLOCK SET into service. -/
abbrev clockServed (p : Part) (tag : Byte) (day minute : Half) (sec : Byte) : Part :=
  p.taken .room ⟨0x40, tag, 5, b2 day.toNat ++ b2 minute.toNat ++ [sec]⟩

theorem serveOwner_clockSet (p : Part) (tag : Byte) (day minute : Half) (sec : Byte) :
    p.serveOwner .room ⟨0x40, tag, 5, b2 day.toNat ++ b2 minute.toNat ++ [sec]⟩ =
      Part.plain (p.clockSet day.toNat minute.toNat sec.toNat) := by
  have hday : halfAt (b2 day.toNat ++ b2 minute.toNat ++ [sec]) 0 = day.toNat := half_bytes day
  have hminute : halfAt (b2 day.toNat ++ b2 minute.toNat ++ [sec]) 2 = minute.toNat := half_bytes minute
  exact congrArg₂ (fun d m => Part.plain (p.clockSet d m sec.toNat)) hday hminute

theorem permitted_clockSet : Permitted .room (0x40 : Byte).toNat := by decide

/-- The part that CLOCK SET serves, at the end of its work. -/
abbrev clockJumped (p : Part) (tag : Byte) (day minute : Half) (sec : Byte) : Part :=
  ((clockServed p tag day minute sec).clockMoved ⟨day.toNat, minute.toNat, sec.toNat, true⟩).sessionJump

theorem completes_clockSet (hport : Listening s.part .room) (hminute : minute.toNat ≤ 1439) (hsec : sec.toNat ≤ 59) :
    Completes (.clockSet .room tag day minute sec) s fun t =>
      Answered t .room tag .done [[]] ∧
        ∃ r, t = Part.conclude s.part ((clockJumped s.part tag day minute sec).replied .room r) := by
  have hline : (clockJumped s.part tag day minute sec).line .room = (clockServed s.part tag day minute sec).line .room := by
    rw [Part.clockJumped_line]
  have hserve : (clockServed s.part tag day minute sec).serveOwner .room
      ⟨0x40, tag, 5, b2 day.toNat ++ b2 minute.toNat ++ [sec]⟩ = (clockJumped s.part tag day minute sec, .done, []) := by
    rw [serveOwner_clockSet, Part.clockSet_done hminute hsec, Part.plain]
  generalize clockJumped s.part tag day minute sec = x at hline hserve ⊢
  have hreq : requestOf (.clockSet .room tag day minute sec) =
      some (.room, ⟨0x40, tag, 5, b2 day.toNat ++ b2 minute.toNat ++ [sec]⟩) := rfl
  refine completes_served hreq (Part.idle_listening hport) (Part.checkRequest_run hreq permitted_clockSet hport.1.1)
    (by simp [portResetCode]) hserve hline fun t ht hans => ⟨hans, _, ht⟩

/-- CLOCK SET at whose end no walk-in opens. -/
theorem completes_jump (hport : Listening s.part .room) (hminute : minute.toNat ≤ 1439) (hsec : sec.toNat ≤ 59)
    (hdwell : (clockJumped s.part tag day minute sec).walkInReady = false ∨ s.part.ssu.params.dwell ≠ 0) :
    Completes (.clockSet .room tag day minute sec) s fun t =>
      SameBut [.requests .room, .dwell, .screens, .notices] (clockJumped s.part tag day minute sec) t := by
  refine (completes_clockSet hport hminute hsec).mono ?_
  rintro t ⟨-, r, rfl⟩
  refine ((Part.sameBut_replied _ .room r).mono (by simp)).trans ((Part.sameBut_conclude_dwell ?_).mono (by simp))
  refine hdwell.imp (fun h => ?_) fun h => ?_
  · exact (Part.walkInReady_of_session (by simp) (by simp) (by simp) (by simp)).trans h
  · simpa [Part.clockMoved_params] using h

end Sys2Proof.Machine
end

section
/-! The clauses of CLOCK SET (R143, R144, R156, R162 to R166, R171). -/

namespace Sys2Proof.Machine

variable {s : State} {tag sec : Byte} {day minute : Half} {x : Session} {e : Entry} {id : Nat}

theorem completes_clockRange (hport : Listening s.part .room) (hset : Settled s.part) (h : 1439 < minute.toNat ∨ 59 < sec.toNat) :
    Completes (.clockSet .room tag day minute sec) s fun t =>
      Answered t .room tag .range [[]] ∧ SameBut [.requests .room] s.part t :=
  completes_kept (c := .clockSet .room tag day minute sec) (st := .range) (l := []) rfl hport hset (by decide) (by decide)
    ((serveOwner_clockSet _ tag day minute sec).trans (congrArg Part.plain (Part.clockSet_range h)))

theorem completes_clockStands (hport : Listening s.part .room) (hminute : minute.toNat ≤ 1439) (hsec : sec.toNat ≤ 59) :
    Completes (.clockSet .room tag day minute sec) s fun t =>
      Answered t .room tag .done [[]] ∧ t.sch.clock = ⟨day.toNat, minute.toNat, sec.toNat, true⟩ ∧
        ∀ q, (t.port q).flags &&& 64 ≠ 0 := by
  refine (completes_clockSet hport hminute hsec).mono ?_
  rintro t ⟨hans, r, rfl⟩
  refine ⟨hans, by simp [Part.clockMoved_clock], fun q => Part.conclude_flag ?_⟩
  rw [Part.replied_notices]
  exact (Part.sessionJump_grows (.refl _)).flag (Part.clockMoved_flag _ _ q)

/-- The clock that CLOCK SET gives. -/
abbrev clockOf (day minute : Half) (sec : Byte) : Clock := ⟨day.toNat, minute.toNat, sec.toNat, true⟩

/-- Outside a swap the jump marks the ended entries, and what follows it marks no entry MISSED (R144). -/
theorem completes_jumpMarks (hport : Listening s.part .room) (hminute : minute.toNat ≤ 1439) (hsec : sec.toNat ≤ 59)
    (hstaging : s.part.staging.state ≠ .ready ∨ day.toNat < s.part.staging.day) :
    Completes (.clockSet .room tag day minute sec) s fun t =>
      Marked ((clockServed s.part tag day minute sec).setClock (clockOf day minute sec)).markMissed t := by
  refine (completes_clockSet hport hminute hsec).mono ?_
  rintro t ⟨-, r, rfl⟩
  exact ((Part.marked_jump (p := clockServed s.part tag day minute sec) (c := clockOf day minute sec) hstaging).replied .room r).conclude _

/-- At the jump a READY bank whose day has come is swapped in (R143, R156). -/
theorem completes_jumpSwaps (hport : Listening s.part .room) (hminute : minute.toNat ≤ 1439) (hsec : sec.toNat ≤ 59)
    (hstate : s.part.staging.state = .ready) (hday : s.part.staging.day ≤ day.toNat) :
    Completes (.clockSet .room tag day minute sec) s fun t =>
      Part.SwappedFrom ((clockServed s.part tag day minute sec).setClock (clockOf day minute sec)).markMissed t := by
  refine (completes_clockSet hport hminute hsec).mono ?_
  rintro t ⟨-, r, rfl⟩
  have hmoved := Part.clockMoved_swaps (p := clockServed s.part tag day minute sec) (c := clockOf day minute sec) hstate hday
  refine Part.swappedFrom_of_marked (Marked.conclude (Marked.replied (Marked.sessionJump ?_) .room r) _)
  rw [hmoved]
  exact (Marked.refl _).notice .schedule

theorem jumpMarks_entries (hport : Listening s.part .room) (hminute : minute.toNat ≤ 1439) (hsec : sec.toNat ≤ 59)
    (hstaging : s.part.staging.state ≠ .ready ∨ day.toNat < s.part.staging.day) (hstate : s.part.published.state = .published) :
    Completes (.clockSet .room tag day minute sec) s fun t =>
      t.publishedIsA = s.part.publishedIsA ∧ t.published.entries.length = s.part.published.entries.length ∧
        ∀ n : Fin s.part.published.entries.length, ∃ y ∈ t.published.entries[n.val]?,
          y.booking = s.part.published.entries[n].booking ∧
          (y.status = .missed ↔ s.part.published.entries[n].status = .missed ∨
            (s.part.published.entries[n].status = .pending ∧
              s.part.published.day * 1440 + s.part.published.entries[n].booking.stop ≤
                (s.part.setClock (clockOf day minute sec)).now)) := by
  refine (completes_jumpMarks hport hminute hsec hstaging).mono fun t hmarked => ?_
  exact ⟨hmarked.isA.trans (Part.markMissed_isA _),
    Part.marked_entry (p := (clockServed s.part tag day minute sec).setClock (clockOf day minute sec)) hstate hmarked⟩

theorem jumpSwaps_banks (hport : Listening s.part .room) (hminute : minute.toNat ≤ 1439) (hsec : sec.toNat ≤ 59) :
    Completes (.clockSet .room tag day minute sec) s fun t =>
      (s.part.staging.state = .ready → s.part.staging.day ≤ day.toNat →
        t.publishedIsA = (!s.part.publishedIsA) ∧ t.published.state = .published ∧ t.published.day = s.part.staging.day ∧
        t.published.entries.map (fun e => e.booking) = s.part.staging.entries.map (fun e => e.booking) ∧
        t.staging.state = .empty ∧ t.staging.entries = [] ∧
        ((∀ e ∈ s.part.staging.entries, e.status = .pending) → s.part.ssu.session = none →
          ∀ e ∈ t.published.entries,
            s.part.staging.day * 1440 + e.booking.stop ≤ (s.part.setClock (clockOf day minute sec)).now → e.status = .missed)) ∧
      (s.part.staging.state ≠ .ready ∨ day.toNat < s.part.staging.day →
        t.publishedIsA = s.part.publishedIsA ∧ t.staging = s.part.staging ∧ t.published.day = s.part.published.day) := by
  set q := (clockServed s.part tag day minute sec).setClock (clockOf day minute sec) with hq
  have hisA : q.markMissed.publishedIsA = s.part.publishedIsA := Part.markMissed_isA q
  have hstaging : q.markMissed.staging = s.part.staging := Part.markMissed_staging q
  by_cases hdue : s.part.staging.state = .ready ∧ s.part.staging.day ≤ day.toNat
  · obtain ⟨hstate, hday⟩ := hdue
    refine (completes_jumpSwaps hport hminute hsec hstate hday).mono fun t hswap => ⟨fun _ _ => ?_, fun h => ?_⟩
    · refine ⟨hswap.isA.trans (by rw [hisA]), hswap.state, hswap.day.trans (by rw [hstaging]), hswap.bookings.trans (by rw [hstaging]),
        by rw [hswap.staging]; rfl, by rw [hswap.staging]; rfl, fun hpending hsession e he hend => ?_⟩
      refine hswap.ends (by simpa using hsession) (by rw [hstaging]; exact hpending) e he ?_
      have hnow : t.now = (s.part.setClock (clockOf day minute sec)).now := by
        have hclock : q.markMissed.sch.clock = clockOf day minute sec := by simp [hq]
        rw [Part.now, hswap.clock, hclock]
        rfl
      rw [Part.endReached_now, hnow, hswap.day, hstaging]
      exact decide_eq_true hend
    · obtain h | h := h
      · exact absurd hstate h
      · omega
  · have hstays : s.part.staging.state ≠ .ready ∨ day.toNat < s.part.staging.day := by
      rw [not_and_or, Nat.not_le] at hdue
      exact hdue
    refine (completes_jumpMarks hport hminute hsec hstays).mono fun t hmarked =>
      ⟨fun hstate hday => absurd ⟨hstate, hday⟩ hdue, fun _ => ?_⟩
    exact ⟨hmarked.isA.trans hisA, hmarked.staging.trans hstaging, hmarked.published_day.trans (Part.markMissed_day q)⟩

/-! ### The pending start and the session at the jump (R164, R171) -/

section Jump

variable (hstaging : s.part.staging.state ≠ .ready ∨ day.toNat < s.part.staging.day)

include hstaging

/-- The part at the jump, before the session takes it: the port's request, the clock, the banks and the notices alone differ. -/
theorem sameBut_jump : SameBut [.requests .room, .clock, .banks, .notices] s.part
    ((clockServed s.part tag day minute sec).clockMoved (clockOf day minute sec)) :=
  ((Part.sameBut_taken s.part .room _).mono (by simp)).trans
    ((Part.sameBut_clockMoved (p := clockServed s.part tag day minute sec) (c := clockOf day minute sec) hstaging).mono (by simp))

/-- The session reads from the part at the jump the day that the new clock gives. -/
theorem sameDay_jump : Part.SameDay (s.part.setClock (clockOf day minute sec))
    ((clockServed s.part tag day minute sec).clockMoved (clockOf day minute sec)) := by
  have htaken : Part.SameDay (s.part.setClock (clockOf day minute sec))
      ((clockServed s.part tag day minute sec).setClock (clockOf day minute sec)) := .of_sch rfl
  exact htaken.trans (Part.sameDay_clockMoved (p := clockServed s.part tag day minute sec) (c := clockOf day minute sec) hstaging)

/-- With a walk-in dwell that is not 0, and no walk-in ready before, no walk-in follows the jump. -/
theorem dwell_jump (hset : Settled s.part) (hready : s.part.walkInReady = false) (hdwell : s.part.ssu.params.dwell ≠ 0) :
    ((clockServed s.part tag day minute sec).clockMoved (clockOf day minute sec)).ssu.dwell <
      ((clockServed s.part tag day minute sec).clockMoved (clockOf day minute sec)).ssu.params.dwell := by
  have hjump := sameBut_jump (tag := tag) (minute := minute) (sec := sec) hstaging
  have hstands : ((clockServed s.part tag day minute sec).clockMoved (clockOf day minute sec)).ssu.dwell = s.part.ssu.dwell :=
    hjump .dwell (by simp)
  rw [hstands, hjump.params (by simp), hset.2.resolve_left (by simp [hready])]
  omega

/-- A jump at which no entry but the one of the pending start is due. -/
theorem completes_jumpPending (hport : Listening s.part .room) (hset : Settled s.part) (hminute : minute.toNat ≤ 1439)
    (hsec : sec.toNat ≤ 59) (hstate : s.part.published.state = .published) (hpending : s.part.ssu.pendingStart = some id)
    (hsession : s.part.ssu.session = none) (hdwell : s.part.ssu.params.dwell ≠ 0) :
    Completes (.clockSet .room tag day minute sec) s fun t =>
      ((∀ e ∈ s.part.published.entries, e.booking.id = id → e.status = .pending →
          s.part.published.day * 1440 + e.booking.stop ≤ (s.part.setClock (clockOf day minute sec)).now) →
        (s.part.setClock (clockOf day minute sec)).dueEntry = none → t.ssu.pendingStart = none ∧ t.ssu.session = none) ∧
      ((∃ e ∈ s.part.published.entries, e.booking.id = id ∧ e.status = .pending ∧
          (s.part.setClock (clockOf day minute sec)).now < s.part.published.day * 1440 + e.booking.stop) →
        (∀ e ∈ (s.part.setClock (clockOf day minute sec)).dueEntry, e.booking.id = id) →
        t.ssu.pendingStart = some id ∧ t.ssu.session = none) := by
  have hjump := sameBut_jump (tag := tag) (minute := minute) (sec := sec) hstaging
  have hday := sameDay_jump (tag := tag) (minute := minute) (sec := sec) hstaging
  have hlow := dwell_jump (tag := tag) (minute := minute) (sec := sec) hstaging hset (Part.walkInReady_pending hpending) hdwell
  have hheld := Part.isPending_clockMoved (p := clockServed s.part tag day minute sec) (c := clockOf day minute sec) (id := id)
    hstaging hstate
  refine (completes_jump hport hminute hsec (.inr hdwell)).mono fun t ht => ⟨fun hgone hdue => ?_, fun hstands hdue => ?_⟩
  · have hdropped : clockJumped s.part tag day minute sec = _ := Part.sessionJump_drops
      ((hjump.pendingStart (by simp)).trans hpending) (Bool.eq_false_iff.mpr fun h => ?_) ((hjump.session (by simp)).trans hsession)
      (hday.dueEntry.trans hdue) hlow
    · rw [hdropped] at ht
      exact ⟨(ht.pendingStart (by simp)).trans (by simp [Part.setPendingStart]),
        (ht.session (by simp)).trans (by simpa using (hjump.session (by simp)).trans hsession)⟩
    · obtain ⟨e, he, hid, hstatus, hend⟩ := hheld.mp h
      exact absurd (hgone e he hid hstatus) (Nat.not_le.mpr hend)
  · have hkept : clockJumped s.part tag day minute sec = _ := Part.sessionJump_waits
      ((hjump.pendingStart (by simp)).trans hpending) (hheld.mpr hstands) ((hjump.session (by simp)).trans hsession)
      (fun e he => hdue e (by rwa [← hday.dueEntry]))
    rw [hkept] at ht
    exact ⟨(ht.pendingStart (by simp)).trans ((hjump.pendingStart (by simp)).trans hpending),
      (ht.session (by simp)).trans ((hjump.session (by simp)).trans hsession)⟩

/-- The entry into whose interval the clock jumps is due. -/
theorem dueEntry_jump (hbank : s.part.published.state = .published ∧ s.part.published.day = day.toNat)
    (he : s.part.published.entries.find? (fun x => x.status = .pending ∧ x.booking.start ≤ minute.toNat ∧
      minute.toNat < x.booking.stop) = some e) :
    ((clockServed s.part tag day minute sec).clockMoved (clockOf day minute sec)).dueEntry = some e := by
  have hcurrent : (s.part.setClock (clockOf day minute sec)).isCurrent = true := by
    have hpublished : (s.part.setClock (clockOf day minute sec)).published = s.part.published := rfl
    simp [Part.isCurrent, hpublished, hbank]
  rw [(sameDay_jump hstaging).dueEntry, Part.dueEntry_find hcurrent]
  exact he

/-- In ACTIVE the jump opens the due entry. -/
theorem completes_jumpOpens (hport : Listening s.part .room) (hminute : minute.toNat ≤ 1439) (hsec : sec.toNat ≤ 59)
    (hbank : s.part.published.state = .published ∧ s.part.published.day = day.toNat)
    (he : s.part.published.entries.find? (fun x => x.status = .pending ∧ x.booking.start ≤ minute.toNat ∧
      minute.toNat < x.booking.stop) = some e)
    (hsession : s.part.ssu.session = none) (hpending : s.part.ssu.pendingStart = none)
    (hend : minute.toNat + s.part.ssu.params.warning < e.booking.stop) (hpower : s.part.pwu.power = .active) :
    Completes (.clockSet .room tag day minute sec) s fun t =>
      t.ssu.pendingStart = none ∧ t.ssu.dwell = 0 ∧
        (∃ x ∈ t.ssu.session, x.kind = .booked ∧ x.booking = some e.booking.id ∧ x.copy = some e.booking ∧
          x.openDay = day.toNat ∧ x.openMinute = minute.toNat ∧ x.effEnd = day.toNat * 1440 + e.booking.stop ∧
          (e.booking.checkIn = false ∨ e.booking.quorum ≤ s.part.smn.occupied → x.state = .inSession ∧ t.flc.isOpen = true) ∧
          (e.booking.checkIn = true → s.part.smn.occupied < e.booking.quorum → x.state = .awaiting)) ∧
        (∃ y ∈ t.published.entries, y.booking = e.booking ∧ y.status = .active) ∧
        t.flc.mode = e.booking.floor.mode ∧
        (∀ k, (t.screen k).set = (s.part.rtu.presets.get e.booking.screen).get k) := by
  have hjump := sameBut_jump (tag := tag) (minute := minute) (sec := sec) hstaging
  have hday := sameDay_jump (tag := tag) (minute := minute) (sec := sec) hstaging
  have hdue := dueEntry_jump (tag := tag) (sec := sec) hstaging hbank he
  have hclock : ((clockServed s.part tag day minute sec).clockMoved (clockOf day minute sec)).sch.clock = clockOf day minute sec :=
    Part.clockMoved_clock _ _
  have hmem := Part.dueEntry_coming hdue
  refine (completes_clockSet hport hminute hsec).mono ?_
  rintro t ⟨-, r, rfl⟩
  unfold clockJumped
  generalize (clockServed s.part tag day minute sec).clockMoved (clockOf day minute sec) = m at *
  have hend' : m.sch.clock.minute + m.ssu.params.warning < e.booking.stop := by
    rw [hclock, hjump.params (by simp)]
    exact hend
  rw [Part.sessionJump_opens ((hjump.pendingStart (by simp)).trans hpending) ((hjump.session (by simp)).trans hsession)
    ((hjump.power (by simp)).trans hpower) hdue hend']
  obtain ⟨hopened, hopen, -⟩ := Part.openBooked_opens hend'
  obtain ⟨hnone, -, hactive, ⟨hmode, -⟩, hscreens⟩ := Part.openBooked_leaves hmem hend'
  have hready : ((m.openBooked e.booking).replied .room r).walkInReady = false := Part.walkInReady_open (by simpa using hopened)
  have hconclude := (Part.sameBut_conclude_dwell (before := s.part) (.inl hready))
  have hall : SameBut [.requests .room, .dwell, .screens, .notices] (m.openBooked e.booking)
      (Part.conclude s.part ((m.openBooked e.booking).replied .room r)) :=
    ((Part.sameBut_replied _ .room r).mono (by simp)).trans (hconclude.mono (by simp))
  have hset : ∀ k, ((Part.conclude s.part ((m.openBooked e.booking).replied .room r)).screen k).set =
      (s.part.rtu.presets.get e.booking.screen).get k := fun k => by
    have hpresets : m.rtu.presets = s.part.rtu.presets := hjump .presets (by simp)
    rw [Part.conclude_set (.inl hready), ← hpresets, ← hscreens k]
    simp [Part.screen]
  refine ⟨(hall.pendingStart (by simp)).trans hnone, Part.conclude_dwell hready,
    ⟨m.openedSession e.booking, (hall.session (by simp)).trans hopened, ?_⟩, ?_, (hall.mode (by simp)).trans hmode, hset⟩
  · have hstate := (hall.isOpen (by simp)).trans ∘ hopen
    have hoccupied := hjump.occupied (by simp)
    obtain ⟨st, c, hfields⟩ := Part.openedSession_fields m e.booking
    have hbooked : m.bookedSession e.booking = { m.bookedSession e.booking with
        openDay := day.toNat, openMinute := minute.toNat, effEnd := day.toNat * 1440 + e.booking.stop } := by
      simp [Part.bookedSession, hclock]
    refine ⟨by rw [hfields]; rfl, by rw [hfields]; rfl, by rw [hfields]; rfl, by rw [hfields, hbooked], by rw [hfields, hbooked],
      by rw [hfields, hbooked], fun hin => ?_, fun hcheck hquorum => ?_⟩
    · have hin' : (m.openedSession e.booking).state = .inSession := by
        rw [Part.openedSession_enters (by rwa [hoccupied])]
      exact ⟨hin', hstate hin'⟩
    · rw [Part.openedSession_waits hcheck (by rwa [hoccupied])]
      rfl
  · rw [hall.published (by simp)]
    exact hactive

/-- In WAKING the due entry becomes the pending start. -/
theorem completes_jumpAsleep (hport : Listening s.part .room) (hminute : minute.toNat ≤ 1439) (hsec : sec.toNat ≤ 59)
    (hbank : s.part.published.state = .published ∧ s.part.published.day = day.toNat)
    (he : s.part.published.entries.find? (fun x => x.status = .pending ∧ x.booking.start ≤ minute.toNat ∧
      minute.toNat < x.booking.stop) = some e)
    (hsession : s.part.ssu.session = none) (hpending : s.part.ssu.pendingStart = none) (hpower : s.part.pwu.power = .waking) :
    Completes (.clockSet .room tag day minute sec) s fun t =>
      t.ssu.session = none ∧ t.ssu.pendingStart = some e.booking.id := by
  have hjump := sameBut_jump (tag := tag) (minute := minute) (sec := sec) hstaging
  have hasleep : clockJumped s.part tag day minute sec = _ := Part.sessionJump_asleep
    ((hjump.pendingStart (by simp)).trans hpending) ((hjump.session (by simp)).trans hsession)
    ((hjump.power (by simp)).trans hpower) (dueEntry_jump (tag := tag) (sec := sec) hstaging hbank he)
  refine (completes_jump hport hminute hsec (.inl ?_)).mono fun t ht => ?_
  · rw [hasleep]
    exact Part.walkInReady_pending (id := e.booking.id) (by simp [Part.setPendingStart])
  · rw [hasleep] at ht
    exact ⟨(ht.session (by simp)).trans (by simpa using (hjump.session (by simp)).trans hsession),
      (ht.pendingStart (by simp)).trans (by simp [Part.setPendingStart])⟩

section Session

variable (hport : Listening s.part .room) (hset : Settled s.part) (hminute : minute.toNat ≤ 1439) (hsec : sec.toNat ≤ 59)
  (hsession : s.part.ssu.session = some x) (hpending : s.part.ssu.pendingStart = none) (hdwell : s.part.ssu.params.dwell ≠ 0)

include hport hminute hsec hsession hpending hdwell

/-- A running session at the jump: its stage test (R162). -/
theorem completes_jumpStages (hrunning : Part.runningState x.state = true)
    (hdue : (s.part.setClock (clockOf day minute sec)).dueEntry = none)
    (hstage : (s.part.setClock (clockOf day minute sec)).stageFor x.effEnd ≠ .windup) :
    Completes (.clockSet .room tag day minute sec) s fun t =>
      t.ssu.session = some { x with state := (s.part.setClock (clockOf day minute sec)).stageFor x.effEnd } := by
  have hjump := sameBut_jump (tag := tag) (minute := minute) (sec := sec) hstaging
  have hday := sameDay_jump (tag := tag) (minute := minute) (sec := sec) hstaging
  have hsame := hday.stageFor (hjump.params (by simp)) x.effEnd
  have hstages := Part.sessionJump_stages ((hjump.pendingStart (by simp)).trans hpending) ((hjump.session (by simp)).trans hsession)
    hrunning (hday.dueEntry.trans hdue) (by rwa [hsame])
  refine (completes_jump hport hminute hsec (.inr hdwell)).mono fun t ht => ?_
  rw [ht.session (by simp), hstages, Part.staged, hsame]

include hset in
/-- A running session at whose grace end the clock arrives goes to WINDUP (R162, R173). -/
theorem completes_jumpEnds (hrunning : Part.runningState x.state = true)
    (hdue : (s.part.setClock (clockOf day minute sec)).dueEntry = none)
    (hstage : (s.part.setClock (clockOf day minute sec)).stageFor x.effEnd = .windup) :
    Completes (.clockSet .room tag day minute sec) s fun t =>
      t.flc.isOpen = false ∧ t.flc.queue = [] ∧
        (s.part.allFree = false → t.ssu.session = some { x with state := .windup, reason := some .ended }) ∧
        (s.part.allFree = true → t.ssu.session = none ∧
          ∃ y ∈ t.ssu.store.getLast?, y.reason = .ended ∧ y.number = s.part.ssu.nextSummary) := by
  have hjump := sameBut_jump (tag := tag) (minute := minute) (sec := sec) hstaging
  have hday := sameDay_jump (tag := tag) (minute := minute) (sec := sec) hstaging
  have hnone := (hjump.pendingStart (by simp)).trans hpending
  have hopen := (hjump.session (by simp)).trans hsession
  have hends : clockJumped s.part tag day minute sec = _ := Part.sessionJump_ends hnone hopen hrunning (hday.dueEntry.trans hdue)
    ((hday.stageFor (hjump.params (by simp)) x.effEnd).trans hstage)
    (dwell_jump hstaging hset (Part.walkInReady_open hsession) hdwell)
  obtain ⟨hfloor, hqueue⟩ := Part.windup_floor hopen hnone .ended
  obtain ⟨hwaits, hcloses⟩ := Part.windup_session hopen hnone .ended
  have hslots := Part.allFree_of_slots (hjump .slots (by simp))
  have hnumber := (hjump .store (by simp)).2.2
  refine (completes_jump hport hminute hsec (.inr hdwell)).mono fun t ht => ?_
  rw [hends] at ht
  rw [ht.isOpen (by simp), ht.queue (by simp), ht.session (by simp), ht.store (by simp)]
  exact ⟨hfloor, hqueue, fun h => hwaits (hslots.trans h), fun h => hnumber ▸ hcloses (hslots.trans h)⟩

include hset in
/-- A session in AWAITING at the jump: it stands until its end, where it is released (R166). -/
theorem completes_jumpAwaits (hstate : x.state = .awaiting)
    (hdue : (s.part.setClock (clockOf day minute sec)).dueEntry = none) :
    Completes (.clockSet .room tag day minute sec) s fun t =>
      if (s.part.setClock (clockOf day minute sec)).now < x.effEnd then t.ssu.session = some x
      else t.ssu.session = none ∧ ∃ y ∈ t.ssu.store.getLast?, y.reason = .released ∧ y.number = s.part.ssu.nextSummary ∧
        y.booking = x.booking := by
  have hjump := sameBut_jump (tag := tag) (minute := minute) (sec := sec) hstaging
  have hday := sameDay_jump (tag := tag) (minute := minute) (sec := sec) hstaging
  have hnone := (hjump.pendingStart (by simp)).trans hpending
  have hopen := (hjump.session (by simp)).trans hsession
  have hnumber := (hjump .store (by simp)).2.2
  refine (completes_jump hport hminute hsec (.inr hdwell)).mono fun t ht => ?_
  split
  next hend =>
    have hstands : clockJumped s.part tag day minute sec = _ :=
      Part.sessionJump_awaits hnone hopen hstate (hday.dueEntry.trans hdue) (by rwa [hday.now])
    rw [hstands] at ht
    exact (ht.session (by simp)).trans hopen
  next hend =>
    have hreleased : clockJumped s.part tag day minute sec = _ :=
      Part.sessionJump_releases hnone hopen hstate (hday.dueEntry.trans hdue) (by rw [hday.now]; omega)
        (dwell_jump hstaging hset (Part.walkInReady_open hsession) hdwell)
    rw [hreleased] at ht
    rw [ht.session (by simp), ht.store (by simp)]
    exact ⟨Part.closeSession_session _ _ _, _, Part.closeSession_newest _ x .released, rfl, hnumber, rfl⟩

/-- An entry due before the end of a running session preempts it (R164). -/
theorem completes_jumpPreempts (hrunning : Part.runningState x.state = true)
    (hdue : (s.part.setClock (clockOf day minute sec)).dueEntry = some e)
    (hend : (s.part.setClock (clockOf day minute sec)).now < x.effEnd) (hslots : s.part.allFree = false) :
    Completes (.clockSet .room tag day minute sec) s fun t =>
      t.ssu.pendingStart = some e.booking.id ∧ t.flc.isOpen = false ∧
        ∃ y ∈ t.ssu.session, y.state = .windup ∧ y.reason = some .preempted ∧ y.booking = x.booking := by
  have hjump := sameBut_jump (tag := tag) (minute := minute) (sec := sec) hstaging
  have hday := sameDay_jump (tag := tag) (minute := minute) (sec := sec) hstaging
  have hfree := (Part.allFree_of_slots (hjump .slots (by simp))).trans hslots
  have hnone := (hjump.pendingStart (by simp)).trans hpending
  have hopen := (hjump.session (by simp)).trans hsession
  have hnow := hday.now.trans_lt hend
  have hfound := hday.dueEntry.trans hdue
  refine (completes_jump hport hminute hsec (.inr hdwell)).mono fun t ht => ?_
  unfold clockJumped at ht
  generalize (clockServed s.part tag day minute sec).clockMoved (clockOf day minute sec) = m at *
  obtain ⟨hstart, hfloor, hwindup⟩ := Part.sessionJump_preempts hnone hopen hrunning hfound hnow hfree
  exact ⟨(ht.pendingStart (by simp)).trans hstart, (ht.isOpen (by simp)).trans hfloor, _, (ht.session (by simp)).trans hwindup,
    by simp [Part.windupOf], by simp [Part.windupOf], by simp [Part.windupOf, Part.staged]⟩

end Session

end Jump

/-- Settles O45: the banks follow the clock first, and the session takes the jump against the day that they then show. -/
theorem clockSetSets : Obligations.ClockSetSets := by
  unfold Obligations.ClockSetSets
  refine ⟨fun tag sec day minute s hport hset => ⟨completes_clockRange hport hset, completes_clockStands hport⟩,
    fun tag sec day minute p s hport _ ⟨hminute, hsec, hp⟩ hstaging hstate =>
      hp ▸ jumpMarks_entries hport hminute hsec hstaging hstate,
    fun tag sec day minute p s hport _ ⟨hminute, hsec, hp⟩ _ => hp ▸ jumpSwaps_banks hport hminute hsec,
    fun tag sec day minute id p s hport hset ⟨hminute, hsec, hp⟩ hstaging hstate ⟨hpending, hsession, hdwell⟩ =>
      hp ▸ completes_jumpPending hstaging hport hset hminute hsec hstate hpending hsession hdwell,
    fun tag sec day minute e p s hport _ ⟨hminute, hsec, _⟩ hstaging hbank he ⟨hsession, hpending, hend⟩ => ?_,
    fun tag sec day minute x graceEnd p s hport hset ⟨hminute, hsec, hp⟩ hstaging ⟨hsession, hpending, hdwell⟩ hgrace => ?_⟩
  · cases hpower : s.part.pwu.power with
    | active =>
      exact (completes_jumpOpens hstaging hport hminute hsec hbank he hsession hpending hend hpower).mono fun t ht =>
        ⟨fun h => by simp at h, fun _ => ht⟩
    | waking =>
      exact (completes_jumpAsleep hstaging hport hminute hsec hbank he hsession hpending hpower).mono fun t ht =>
        ⟨fun _ => ht, fun h => by simp at h⟩
    | standby => exact absurd hpower hport.1.2
  · subst hp
    have hgrace' : (s.part.setClock (clockOf day minute sec)).graceEnd x.effEnd = graceEnd := hgrace.symm
    have hbase := completes_clockStands (tag := tag) (day := day) hport hminute hsec
    rw [← hgrace']
    cases hdue : (s.part.setClock (clockOf day minute sec)).dueEntry with
    | none =>
      have hawaits := hbase.imp fun hstate =>
        completes_jumpAwaits (tag := tag) hstaging hport hset hminute hsec hsession hpending hdwell hstate hdue
      have hstages := hawaits.imp fun h : Part.runningState x.state = true ∧ _ =>
        completes_jumpStages (tag := tag) hstaging hport hminute hsec hsession hpending hdwell h.1 hdue (Part.stageFor_open h.2).2
      have hends := hstages.imp fun h : Part.runningState x.state = true ∧ x.effEnd ≤ _ ∧ _ =>
        completes_jumpEnds (tag := tag) hstaging hport hset hminute hsec hsession hpending hdwell h.1 hdue
          (Part.stageFor_over h.2.1 h.2.2)
      refine hends.mono fun t ⟨⟨⟨_, hwaits⟩, hstage⟩, hend⟩ => ⟨fun hrunning _ hlate => ?_,
        fun hrunning _ hover hgone => hend ⟨hrunning, hover, hgone⟩, fun hstate _ => hwaits hstate,
        fun _ e he => by simp at he⟩
      rw [hstage ⟨hrunning, hlate⟩, (Part.stageFor_open hlate).1]
      rfl
    | some e =>
      have hpreempts := hbase.imp fun h : Part.runningState x.state = true ∧ _ ∧ _ =>
        completes_jumpPreempts (tag := tag) hstaging hport hminute hsec hsession hpending hdwell h.1 hdue h.2.1 h.2.2
      refine hpreempts.mono fun t ⟨_, hgone⟩ => ⟨fun _ h => by simp at h, fun _ h => by simp at h, fun _ h => by simp at h,
        fun hrunning e' he hend hslots => ?_⟩
      obtain rfl := Option.mem_some.mp he
      exact hgone ⟨hrunning, hend, hslots⟩

end Sys2Proof.Machine
end

section
/-! What each of the four blocks that count time makes of a second event (R48, R59, R62, R86, R87, R163, R199). -/

namespace Sys2Proof.Machine

/-! ### The order of the four blocks (R142) -/

/-- A member that is taken once parts the order in which a collection is taken. -/
theorem takenOrder_split {α : Type} [DecidableEq α] (first : List α) {all : List α} (h : all.Nodup) {a : α} (ha : a ∈ all) :
    ∃ before after, takenOrder first all = before ++ a :: after ∧ a ∉ before ∧ a ∉ after ∧ (before ++ after).Nodup := by
  obtain ⟨before, after, hsplit⟩ := List.append_of_mem ((mem_takenOrder (first := first)).mpr ha)
  have hnodup := nodup_takenOrder first h
  rw [hsplit, List.nodup_middle, List.nodup_cons, List.mem_append, not_or] at hnodup
  exact ⟨before, after, hsplit, hnodup.1.1, hnodup.1.2, hnodup.2⟩

namespace Part

variable {p q t : Part} {k j : SlotId} {i : SeatId}

/-! ### FLC's second (R62, R86, R87) -/

/-- The part with the seconds of the slots counted, before their evaluation. -/
def slotsCounted (p : Part) : Part := allSlots.foldl countSlotSecond (p.withFlc { p.flc with seconds := p.flc.seconds + 1 })

theorem floorSecond_eq (p : Part) : p.floorSecond = p.slotsCounted.evaluateAll := rfl

/-- An open slot with a second more (R86). -/
def slotCounted (x : Slot) : Slot := if isOpenState x.state = true then { x with elapsed := min (x.elapsed + 1) 65535 } else x

theorem countSlotSecond_data (p : Part) (k j : SlotId) :
    (p.countSlotSecond k).slotData j = if j = k then slotCounted (p.slotData j) else p.slotData j := by
  have hcount : ∀ (r : Part) (s : SeatId), (r.countSpeaking s).slotData = r.slotData := fun r s =>
    slotData_of_slots (by simp [countSpeaking])
  have hset : ∀ x : Slot, isOpenState (p.slot k).state = true → x = { p.slot k with elapsed := bump16 (p.slot k).elapsed } →
      (p.setSlot k x).slotData j = if j = k then slotCounted (p.slotData j) else p.slotData j := by
    rintro x hopen rfl
    rw [setSlot_data]
    by_cases hj : j = k
    · subst hj
      rw [if_pos rfl, if_pos rfl, slotCounted, if_pos (by rwa [slotData_state])]
      rfl
    · rw [if_neg hj, if_neg hj]
  simp only [countSlotSecond]
  split
  next hopen =>
    split
    · rw [hcount, hset _ hopen rfl]
    · exact hset _ hopen rfl
  next hclosed =>
    by_cases hj : j = k
    · subst hj
      rw [if_pos rfl, slotCounted, if_neg (by rwa [slotData_state])]
    · rw [if_neg hj]

theorem sameBut_countSlotSecond (p : Part) (k : SlotId) : SameBut [.slots, .seats] p (p.countSlotSecond k) := by
  intro b hb
  cases b <;> simp_all [Piece.Same]

theorem sameBut_slotsCounted (p : Part) : SameBut [.floorSeconds, .slots, .seats] p p.slotsCounted := by
  have hseconds : SameBut [.floorSeconds] p (p.withFlc { p.flc with seconds := p.flc.seconds + 1 }) := by
    intro b hb
    cases b <;> simp_all [Piece.Same]
  exact (hseconds.mono (by simp)).trans ((SameBut.foldl sameBut_countSlotSecond _ _).mono (by simp))

theorem slotsCounted_data (p : Part) (j : SlotId) : p.slotsCounted.slotData j = slotCounted (p.slotData j) := by
  have hfold := foldl_data (op := countSlotSecond) (P := fun _ => True) (F := slotCounted) (fun _ _ h => h)
    (fun r k _ j => countSlotSecond_data r k j) (l := allSlots) (p := p.withFlc { p.flc with seconds := p.flc.seconds + 1 })
    nodup_allSlots trivial j
  rw [slotsCounted, hfold, if_pos (mem_allSlots j)]
  rfl

theorem slotCounted_state (x : Slot) : (slotCounted x).state = x.state := by
  unfold slotCounted
  split <;> rfl

theorem floorSecond_data (p : Part) (j : SlotId) :
    p.floorSecond.slotData j =
      if j ≠ 0 ∧ isOpenState (p.slot j).state = true then evaluated p.flc (slotCounted (p.slotData j))
      else slotCounted (p.slotData j) := by
  have hcounted := sameBut_slotsCounted p
  have hspeak : p.slotsCounted.flc.speak = p.flc.speak ∧ p.slotsCounted.flc.enforce = p.flc.enforce := hcounted .floorSpeak (by simp)
  have hlead : p.slotsCounted.flc.lead = p.flc.lead := hcounted .floorLead (by simp)
  have hstate : (p.slotsCounted.slot j).state = (p.slot j).state := by
    rw [← slotData_state, slotsCounted_data, slotCounted_state, slotData_state]
  rw [floorSecond_eq, evaluateAll_data, hstate, slotsCounted_data, evaluated_congr hspeak.1 hspeak.2 hlead]

theorem sameBut_evaluateAll (p : Part) : SameBut [.slots, .openOrder, .screens, .speakers, .notices] p p.evaluateAll := by
  intro b hb
  cases b <;> simp_all [Piece.Same]

theorem sameBut_floorSecond (p : Part) :
    SameBut [.floorSeconds, .slots, .openOrder, .seats, .screens, .speakers, .notices] p p.floorSecond :=
  ((sameBut_slotsCounted p).mono (by simp)).trans ((sameBut_evaluateAll _).mono (by simp))

theorem floorSecond_seconds (p : Part) : p.floorSecond.flc.seconds = p.flc.seconds + 1 := by
  have heval : p.slotsCounted.evaluateAll.flc.seconds = p.slotsCounted.flc.seconds :=
    sameBut_evaluateAll p.slotsCounted .floorSeconds (by simp)
  have hfold : SameBut [.slots, .seats] (p.withFlc { p.flc with seconds := p.flc.seconds + 1 }) p.slotsCounted := by
    unfold slotsCounted
    exact SameBut.foldl sameBut_countSlotSecond _ _
  have hcounted : p.slotsCounted.flc.seconds = (p.withFlc { p.flc with seconds := p.flc.seconds + 1 }).flc.seconds :=
    hfold .floorSeconds (by simp)
  rw [floorSecond_eq, heval, hcounted, withFlc_flc]

/-! ### The settings of the screens through the close of a slot -/

/-- The five settings of every screen are the same in two parts. -/
def SetsKept (p t : Part) : Prop := ∀ k, (t.screen k).set = (p.screen k).set

theorem SetsKept.refl (p : Part) : SetsKept p p := fun _ => rfl

theorem SetsKept.trans (h : SetsKept p q) (h' : SetsKept q t) : SetsKept p t := fun k => (h' k).trans (h k)

theorem SetsKept.of_screens (h : t.rtu.screens = p.rtu.screens) : SetsKept p t := fun k => by rw [screen_eq h]

theorem SetsKept.foldl {α : Type} {f : Part → α → Part} (h : ∀ p a, SetsKept p (f p a)) (p : Part) (l : List α) :
    SetsKept p (l.foldl f p) :=
  foldl_invariant (P := SetsKept p) (fun _ _ hq => hq.trans (h _ _)) l p (.refl p)

theorem setsKept_computeShown (p : Part) (sel : ScreenId → Bool) : SetsKept p (p.computeShown sel) := computeShown_set p sel

theorem setsKept_driveScreens (p : Part) : SetsKept p p.driveScreens := fun k => by
  simp only [driveScreens, screen, withRtu_rtu, get_mapTable]
  split <;> rfl

theorem setsKept_speakerLeaves (p : Part) (s : SeatId) : SetsKept p (p.speakerLeaves s) :=
  (SetsKept.of_screens (p := p) (t := p.withRtu { p.rtu with speakers := p.rtu.speakers.filter (· ≠ s) }) rfl).trans
    ((setsKept_computeShown _ _).trans (setsKept_driveScreens _))

theorem setsKept_setRoutable (p : Part) (n : Fin 10) (b : Bool) : SetsKept p (p.setRoutable n b) := by
  simp only [setRoutable]
  split
  · exact .refl p
  · exact (SetsKept.of_screens (p := p) (t := p.withRtu { p.rtu with routable := setEntry p.rtu.routable n b }) rfl).trans
      (setsKept_computeShown _ _)

theorem SetsKept.notice (h : SetsKept p q) (c : Category) : SetsKept p (q.notice c) := h.trans (.of_screens (by simp))

theorem SetsKept.reportLeft (h : SetsKept p q) (x : Slot) : SetsKept p (q.reportLeft x) := by
  unfold Part.reportLeft
  split
  · split
    · exact h.trans (setsKept_speakerLeaves q _)
    · exact h
  · exact h

theorem setsKept_close (p : Part) (k : SlotId) (r : SlotReason) : SetsKept p (p.close k r) := by
  unfold close closeSlot
  split
  · exact SetsKept.notice (SetsKept.reportLeft (.of_screens (by simp)) _) _
  · exact .refl p

theorem setsKept_evaluate (p : Part) (k : SlotId) : SetsKept p (p.evaluate k) := by
  have hwarned : ∀ m, SetsKept p (p.setWarned k m) := fun m => .of_screens (by simp [setWarned])
  rw [evaluate_eq]
  split
  · split
    · exact (hwarned _).trans (setsKept_close _ k .time)
    · exact hwarned _
  · exact .refl p

theorem setsKept_floorSecond (p : Part) : SetsKept p p.floorSecond :=
  (SetsKept.of_screens (sameBut_slotsCounted p .screens (by simp))).trans (SetsKept.foldl setsKept_evaluate _ _)

/-! ### The seats at FLC's second (R59, R86) -/

/-- A seat that differs from another at most in its speaking seconds. -/
def SpeakingOnly (a b : Seat) : Prop := b = { a with counters := { a.counters with speaking := b.counters.speaking } }

theorem SpeakingOnly.refl (a : Seat) : SpeakingOnly a a := rfl

theorem SpeakingOnly.trans {a b c : Seat} (h : SpeakingOnly a b) (h' : SpeakingOnly b c) : SpeakingOnly a c := by
  unfold SpeakingOnly at *
  rw [h', h]

theorem countSlotSecond_seat (p : Part) (k : SlotId) (i : SeatId) :
    (p.countSlotSecond k).seat i =
      if isOpenState (p.slot k).state = true ∧ (p.slot k).holder = some i ∧ p.sessionOpen = true then
        { p.seat i with counters := { (p.seat i).counters with speaking := bump24 (p.seat i).counters.speaking } }
      else p.seat i := by
  simp only [countSlotSecond]
  split
  next hopen =>
    split
    next s hs =>
      have hsession : (p.setSlot k { p.slot k with elapsed := bump16 (p.slot k).elapsed }).sessionOpen = p.sessionOpen := rfl
      rw [countSpeaking, count_seat, hsession, hs]
      by_cases hi : i = s
      · subst hi
        simp [hopen]
      · rw [if_neg fun h => hi h.1, if_neg fun h => hi (Option.some.inj h.2.1).symm]
        rfl
    next hnone =>
      rw [if_neg fun h => by simp [hnone] at h]
      rfl
  next hclosed => rw [if_neg fun h => hclosed h.1]

theorem countSlotSecond_slot (p : Part) (k j : SlotId) :
    ((p.countSlotSecond k).slot j).state = (p.slot j).state ∧ ((p.countSlotSecond k).slot j).holder = (p.slot j).holder := by
  have hdata := countSlotSecond_data p k j
  have hfields : ((p.countSlotSecond k).slotData j).state = (p.slotData j).state ∧
      ((p.countSlotSecond k).slotData j).holder = (p.slotData j).holder := by
    rw [hdata]
    split
    · unfold slotCounted
      split <;> exact ⟨rfl, rfl⟩
    · exact ⟨rfl, rfl⟩
  exact hfields

/-- Counting the seconds of slots that a seat does not hold leaves the seat. -/
theorem countSeconds_others {l : List SlotId}
    (h : ∀ k ∈ l, isOpenState (p.slot k).state = true → (p.slot k).holder ≠ some i) :
    (l.foldl countSlotSecond p).seat i = p.seat i := by
  induction l generalizing p with
  | nil => rfl
  | cons k l ih =>
    rw [List.foldl_cons, ih fun j hj => by
      obtain ⟨hstate, hholder⟩ := countSlotSecond_slot p k j
      rw [hstate, hholder]
      exact h j (by simp [hj]), countSlotSecond_seat, if_neg]
    exact fun hc => h k (by simp) hc.1 hc.2.1

theorem countSeconds_slot (p : Part) (l : List SlotId) (j : SlotId) :
    ((l.foldl countSlotSecond p).slot j).state = (p.slot j).state ∧
      ((l.foldl countSlotSecond p).slot j).holder = (p.slot j).holder :=
  foldl_invariant (P := fun q => (q.slot j).state = (p.slot j).state ∧ (q.slot j).holder = (p.slot j).holder)
    (fun q k ⟨hstate, hholder⟩ => by
      obtain ⟨hstate', hholder'⟩ := countSlotSecond_slot q k j
      exact ⟨hstate'.trans hstate, hholder'.trans hholder⟩) l p ⟨rfl, rfl⟩

theorem floorSecond_seats (p : Part) : p.floorSecond.seat = p.slotsCounted.seat := (sameBut_evaluateAll _).seat (by simp)

/-- FLC's second changes of a seat at most its speaking seconds. -/
theorem floorSecond_speaking (p : Part) (i : SeatId) : SpeakingOnly (p.seat i) (p.floorSecond.seat i) := by
  rw [floorSecond_seats]
  refine foldl_invariant (P := fun q : Part => SpeakingOnly (p.seat i) (q.seat i)) (fun q k hq => hq.trans ?_) allSlots _ (.refl _)
  rw [countSlotSecond_seat]
  split
  · rfl
  · exact .refl _

theorem floorSecond_silent (h : ∀ k, isOpenState (p.slot k).state = true → (p.slot k).holder ≠ some i) :
    p.floorSecond.seat i = p.seat i := by
  rw [floorSecond_seats]
  exact countSeconds_others (p := p.withFlc { p.flc with seconds := p.flc.seconds + 1 }) fun k _ => h k

/-- The holder of one open slot of an open session speaks a second more (R59, R86). -/
theorem floorSecond_speaks (hopen : isOpenState (p.slot k).state = true) (hholder : (p.slot k).holder = some i)
    (hothers : ∀ j, j ≠ k → isOpenState (p.slot j).state = true → (p.slot j).holder ≠ some i) (hsession : p.sessionOpen = true) :
    (p.floorSecond.seat i).counters.speaking = min ((p.seat i).counters.speaking + 1) 16777215 := by
  obtain ⟨before, after, hsplit⟩ := List.append_of_mem (mem_allSlots k)
  have hnodup := nodup_allSlots
  rw [hsplit, List.nodup_middle, List.nodup_cons, List.mem_append, not_or] at hnodup
  obtain ⟨⟨hbefore, hafter⟩, -⟩ := hnodup
  have hne : ∀ {l : List SlotId}, k ∉ l → ∀ j ∈ l, j ≠ k := fun hl j hj hjk => hl (hjk ▸ hj)
  set first := p.withFlc { p.flc with seconds := p.flc.seconds + 1 } with hfirst
  set mid := before.foldl countSlotSecond first with hmid
  have hslots : ∀ j, (mid.slot j).state = (p.slot j).state ∧ (mid.slot j).holder = (p.slot j).holder := fun j =>
    countSeconds_slot first before j
  have hseat : mid.seat i = p.seat i := countSeconds_others (p := first) fun j hj => hothers j (hne hbefore j hj)
  have hopened : mid.sessionOpen = true := by
    have hssu : mid.ssu.session = p.ssu.session := (SameBut.foldl sameBut_countSlotSecond first before).session (by simp)
    rw [sessionOpen, hssu]
    exact hsession
  have hlast : (after.foldl countSlotSecond (mid.countSlotSecond k)).seat i = (mid.countSlotSecond k).seat i :=
    countSeconds_others fun j hj hj' => by
      obtain ⟨hstate, hh⟩ := countSlotSecond_slot mid k j
      rw [hstate, (hslots j).1] at hj'
      rw [hh, (hslots j).2]
      exact hothers j (hne hafter j hj) hj'
  have hcounted : p.slotsCounted = after.foldl countSlotSecond (mid.countSlotSecond k) := by
    rw [slotsCounted, hsplit, List.foldl_append, List.foldl_cons]
  rw [floorSecond_seats, hcounted, hlast, countSlotSecond_seat, if_pos ⟨by rw [(hslots k).1, hopen], by rw [(hslots k).2, hholder], hopened⟩,
    hseat]
  rfl

/-! ### SMN's second (R48, R59) -/

/-- No absence grace ends at the next second (R48). -/
def AbsencesRun (p : Part) : Prop := ∀ i, (p.seat i).presence = .away → (p.seat i).absence + 1 < p.smn.grace

/-- A seat with an occupied second more (R59). -/
def occupiedCounted (x : Seat) : Seat :=
  if counted x.presence = true then { x with counters := { x.counters with occupied := min (x.counters.occupied + 1) 16777215 } } else x

/-- An AWAY seat with a second of absence more (R48). -/
def absenceCounted (x : Seat) : Seat := if x.presence = .away then { x with absence := x.absence + 1 } else x

/-- The seats with their occupied seconds counted (R59). -/
def occupiedSecond (p : Part) : Part := (List.finRange 20).foldl countOccupied p

theorem countOccupied_seat (p : Part) (s i : SeatId) :
    (p.countOccupied s).seat i = if i = s then (if p.sessionOpen = true then occupiedCounted (p.seat i) else p.seat i) else p.seat i := by
  unfold countOccupied occupiedCounted
  by_cases hi : i = s
  · subst hi
    rw [if_pos rfl]
    split
    · cases hsession : p.sessionOpen <;> simp [count_seat, hsession, bump24]
    · exact (ite_self _).symm
  · rw [if_neg hi]
    split
    · rw [count_seat, if_neg fun h => hi h.1]
    · rfl

theorem sameBut_countOccupied (p : Part) (s : SeatId) : SameBut [.seats] p (p.countOccupied s) := by
  unfold countOccupied
  split
  · exact sameBut_count p s _
  · exact .refl _ _

theorem sameBut_occupiedSecond (p : Part) : SameBut [.seats] p p.occupiedSecond := SameBut.foldl sameBut_countOccupied p _

theorem occupiedSecond_seat (p : Part) (i : SeatId) :
    p.occupiedSecond.seat i = if p.sessionOpen = true then occupiedCounted (p.seat i) else p.seat i := by
  have hfold := foldl_each (get := Part.seat) (f := countOccupied)
    (g := fun x => if p.sessionOpen = true then occupiedCounted x else x) (P := fun q => q.sessionOpen = p.sessionOpen)
    (fun q s hq => by
      have hssu := (sameBut_countOccupied q s).session (by simp)
      rw [sessionOpen, hssu]
      exact hq)
    (fun q s j hq => by rw [countOccupied_seat, hq]) (List.nodup_finRange 20) (p := p) rfl i
  rw [occupiedSecond, hfold, if_pos (List.mem_finRange i)]

theorem seatSecond_eq (p : Part) : p.seatSecond = (List.finRange 20).foldl countAbsence p.occupiedSecond := rfl

/-- A second of a seat whose grace does not end. -/
theorem countAbsence_runs (h : (p.seat i).presence = .away → (p.seat i).absence + 1 < p.smn.grace) :
    SameBut [.seats] p (p.countAbsence i) ∧
      ∀ j, (p.countAbsence i).seat j = if j = i then absenceCounted (p.seat j) else p.seat j := by
  unfold countAbsence absenceCounted
  split
  next haway =>
    have hstays : (p.setSeat i { p.seat i with absence := (p.seat i).absence + 1 }).absenceExpiry i =
        p.setSeat i { p.seat i with absence := (p.seat i).absence + 1 } := by
      have hlow := h haway
      rw [absenceExpiry, if_neg]
      rintro ⟨-, hfull⟩
      simp at hfull
      omega
    rw [hstays]
    refine ⟨sameBut_setSeat p i _, fun j => ?_⟩
    rw [setSeat_seat]
    by_cases hj : j = i
    · subst hj
      simp [haway]
    · simp [hj]
  next hpresent =>
    refine ⟨.refl _ _, fun j => ?_⟩
    by_cases hj : j = i
    · subst hj
      simp [hpresent]
    · simp [hj]

theorem countAbsences_run {l : List SeatId} (hl : l.Nodup)
    (h : ∀ i ∈ l, (p.seat i).presence = .away → (p.seat i).absence + 1 < p.smn.grace) :
    SameBut [.seats] p (l.foldl countAbsence p) ∧
      ∀ j, (l.foldl countAbsence p).seat j = if j ∈ l then absenceCounted (p.seat j) else p.seat j := by
  induction l generalizing p with
  | nil => exact ⟨.refl _ _, fun j => rfl⟩
  | cons i l ih =>
    obtain ⟨hi, hl⟩ := List.nodup_cons.mp hl
    obtain ⟨hsame, hseat⟩ := countAbsence_runs (h i (by simp))
    have hgrace : (p.countAbsence i).smn.grace = p.smn.grace := hsame .grace (by simp)
    have hne : ∀ j ∈ l, j ≠ i := fun j hj hji => hi (hji ▸ hj)
    obtain ⟨hrest, hseats⟩ := ih (p := p.countAbsence i) hl fun j hj => by
      rw [hseat, if_neg (hne j hj), hgrace]
      exact h j (by simp [hj])
    refine ⟨hsame.trans hrest, fun j => ?_⟩
    rw [List.foldl_cons, hseats, hseat]
    by_cases hj : j = i
    · subst hj
      simp [hi]
    · simp [hj]

/-- A seat as SMN's second leaves it while no grace ends. -/
def seatCounted (open' : Bool) (x : Seat) : Seat := absenceCounted (if open' = true then occupiedCounted x else x)

theorem occupiedCounted_presence (x : Seat) :
    (occupiedCounted x).presence = x.presence ∧ (occupiedCounted x).absence = x.absence := by
  unfold occupiedCounted
  split <;> exact ⟨rfl, rfl⟩

theorem seatSecond_runs (h : AbsencesRun p) :
    SameBut [.seats] p p.seatSecond ∧ ∀ i, p.seatSecond.seat i = seatCounted p.sessionOpen (p.seat i) := by
  have hoccupied := sameBut_occupiedSecond p
  have hgrace : p.occupiedSecond.smn.grace = p.smn.grace := hoccupied .grace (by simp)
  obtain ⟨hsame, hseats⟩ := countAbsences_run (p := p.occupiedSecond) (List.nodup_finRange 20) fun i _ => by
    rw [occupiedSecond_seat, hgrace]
    split
    · obtain ⟨hpresence, habsence⟩ := occupiedCounted_presence (p.seat i)
      rw [hpresence, habsence]
      exact h i
    · exact h i
  refine ⟨hoccupied.trans hsame, fun i => ?_⟩
  rw [seatSecond_eq, hseats, if_pos (List.mem_finRange i), occupiedSecond_seat, seatCounted]

/-! ### PWU's second (R199, R201) -/

theorem sameBut_wake (p : Part) :
    SameBut [.sensing, .sockets, .screens, .override, .power, .quiet, .settle, .notices] p p.wake := by
  intro b hb
  cases b <;> simp_all [Piece.Same]

theorem sameBut_countQuiet (p : Part) : SameBut [.quiet] p p.countQuiet := by
  intro b hb
  cases b <;> simp_all [Piece.Same]

/-- The pieces that PWU's second may reach. -/
abbrev powerPieces : List Piece :=
  [.sensing, .seats, .refused, .bus, .sockets, .screens, .routable, .override, .power, .quiet, .settle, .notices]

theorem powerSecond_eq (p : Part) (minute : Bool) :
    p.powerSecond minute = (if minute then p.countQuiet.preWake else p.countQuiet).standbyTest := rfl

theorem sameBut_preWake (p : Part) :
    SameBut [.sensing, .sockets, .screens, .override, .power, .quiet, .settle, .notices] p p.preWake := by
  unfold preWake
  split
  · exact sameBut_wake p
  · exact .refl _ _

theorem sameBut_standbyTest (p : Part) : SameBut powerPieces p p.standbyTest := by
  unfold standbyTest
  split
  · exact (sameBut_standbyEntry p).mono (by simp)
  · exact .refl _ _

theorem sameBut_powerSecond (p : Part) (minute : Bool) : SameBut powerPieces p (p.powerSecond minute) := by
  rw [powerSecond_eq]
  refine SameBut.trans ?_ (sameBut_standbyTest _)
  split
  · exact ((sameBut_countQuiet p).mono (by simp)).trans ((sameBut_preWake _).mono (by simp))
  · exact (sameBut_countQuiet p).mono (by simp)

/-! ### Presence through a second (R48) -/

/-- The presence and the absence timer of every seat are the same in two parts. -/
def PresencesKept (p t : Part) : Prop := ∀ i, (t.seat i).presence = (p.seat i).presence ∧ (t.seat i).absence = (p.seat i).absence

theorem PresencesKept.refl (p : Part) : PresencesKept p p := fun _ => ⟨rfl, rfl⟩

theorem PresencesKept.trans (h : PresencesKept p q) (h' : PresencesKept q t) : PresencesKept p t := fun i =>
  ⟨(h' i).1.trans (h i).1, (h' i).2.trans (h i).2⟩

theorem PresencesKept.of_seats (h : t.smn.seats = p.smn.seats) : PresencesKept p t := fun i => by
  rw [seat_eq h]
  exact ⟨rfl, rfl⟩

theorem AbsencesRun.kept (h : AbsencesRun p) (ht : PresencesKept p t) (hgrace : t.smn.grace = p.smn.grace) : AbsencesRun t := by
  intro i haway
  obtain ⟨hpresence, habsence⟩ := ht i
  rw [habsence, hgrace]
  exact h i (by rwa [← hpresence])

theorem presencesKept_floorSecond (p : Part) : PresencesKept p p.floorSecond := fun i => by
  rw [floorSecond_speaking p i]
  exact ⟨rfl, rfl⟩

theorem presencesKept_standbyKey (p : Part) (s : SeatId) : PresencesKept p (p.standbyKey s) := fun i => by
  rw [standbyKey_seat]
  split <;> exact ⟨rfl, rfl⟩

theorem presencesKept_standbyEntry (p : Part) : PresencesKept p p.standbyEntry := by
  have hpowered : PresencesKept p p.standbyPowered := .of_seats (sameBut_standbyPowered p .seats (by simp))
  have hkeyed : PresencesKept p.standbyPowered p.standbyKeyed :=
    foldl_invariant (P := PresencesKept p.standbyPowered) (fun q s hq => hq.trans (presencesKept_standbyKey q s)) _ _ (.refl _)
  have hslots : PresencesKept p.standbyKeyed p.standbyKeyed.standbySlots := .of_seats (sameBut_standbySlots _ .seats (by simp))
  exact hpowered.trans (hkeyed.trans (hslots.trans (.of_seats (sameBut_standbyKeyed_entry p .seats (by simp)))))

theorem presencesKept_standbyTest (p : Part) : PresencesKept p p.standbyTest := by
  unfold standbyTest
  split
  · exact presencesKept_standbyEntry p
  · exact .refl p

theorem presencesKept_powerSecond (p : Part) (minute : Bool) : PresencesKept p (p.powerSecond minute) := by
  rw [powerSecond_eq]
  refine PresencesKept.trans ?_ (presencesKept_standbyTest _)
  split
  · exact .of_seats (by simp)
  · exact .of_seats (by simp)

/-! ### A second of FLC, SMN and PWU (R142) -/

/-- The pieces that FLC, SMN and PWU may reach at a second at which no absence grace ends. -/
abbrev clockedPieces : List Piece :=
  [.floorSeconds, .slots, .openOrder, .speakers, .sensing, .seats, .refused, .bus, .sockets, .screens, .routable, .override, .power,
    .quiet, .settle, .notices]

/-- A slot after another: FREE as before, and a close stands. -/
def SlotLater (a b : Slot) : Prop :=
  (b.state = .free ↔ a.state = .free) ∧ (a.state = .closing → b.state = .closing ∧ b.reason = a.reason)

theorem SlotLater.refl (a : Slot) : SlotLater a a := ⟨Iff.rfl, fun h => ⟨h, rfl⟩⟩

theorem SlotLater.trans {a b c : Slot} (h : SlotLater a b) (h' : SlotLater b c) : SlotLater a c := by
  refine ⟨h'.1.trans h.1, fun ha => ?_⟩
  obtain ⟨hb, hreason⟩ := h.2 ha
  obtain ⟨hc, hreason'⟩ := h'.2 hb
  exact ⟨hc, hreason'.trans hreason⟩

/-- What FLC, SMN and PWU leave of a part at a second at which no absence grace ends. -/
structure Clocked (p t : Part) : Prop where
  same : SameBut clockedPieces p t
  slots : ∀ k, SlotLater (p.slotData k) (t.slotData k)
  grows : NoticesGrow p.notices t.notices

namespace Clocked

theorem refl (p : Part) : Clocked p p := ⟨.refl _ _, fun _ => .refl _, .refl _⟩

theorem trans (h : Clocked p q) (h' : Clocked q t) : Clocked p t :=
  ⟨h.same.trans h'.same, fun k => (h.slots k).trans (h'.slots k), h.grows.trans h'.grows⟩

theorem of_same {bs : List Piece} (h : SameBut bs p t) (hsub : bs ⊆ clockedPieces) (hslots : .slots ∉ bs)
    (hgrows : NoticesGrow p.notices t.notices) : Clocked p t :=
  ⟨h.mono hsub, fun k => by rw [h.slotData hslots]; exact .refl _, hgrows⟩

theorem floorSecond (p : Part) : Clocked p p.floorSecond := by
  refine ⟨(sameBut_floorSecond p).mono (by simp), fun k => ?_, floorSecond_grows (.refl _)⟩
  have hcounted : SlotLater (p.slotData k) (slotCounted (p.slotData k)) := by
    unfold slotCounted
    split
    next hopen => exact ⟨Iff.rfl, fun h => ⟨h, rfl⟩⟩
    next => exact .refl _
  rw [floorSecond_data]
  split
  next h =>
    refine hcounted.trans ?_
    have hopen : isOpenState (slotCounted (p.slotData k)).state = true := by
      rw [slotCounted_state, slotData_state]
      exact h.2
    generalize slotCounted (p.slotData k) = x at hopen
    unfold evaluated
    split
    · refine ⟨?_, fun hclosing => by simp [hclosing, isOpenState] at hopen⟩
      constructor
      · intro hfree
        exact absurd hfree (by simp [closedFor])
      · intro hfree
        simp [hfree, isOpenState] at hopen
    · exact ⟨Iff.rfl, fun hc => ⟨hc, rfl⟩⟩
  next => exact hcounted

theorem seatSecond (h : AbsencesRun p) : Clocked p p.seatSecond :=
  .of_same (seatSecond_runs h).1 (by simp) (by simp) (seatSecond_grows (.refl _))

theorem powerSecond (p : Part) (minute : Bool) : Clocked p (p.powerSecond minute) :=
  .of_same (sameBut_powerSecond p minute) (by simp) (by simp) (powerSecond_grows (.refl _) _)

/-- A second of the blocks of a list that holds not SSU. -/
theorem users (before : Part) (minute : Bool) {l : List ClockUser} (hl : l.Nodup) (hssu : .ssu ∉ l)
    (hruns : .smn ∈ l → AbsencesRun p) :
    Clocked p (l.foldl (secondFor before minute) p) ∧
      (.smn ∉ l → PresencesKept p (l.foldl (secondFor before minute) p)) := by
  induction l generalizing p with
  | nil => exact ⟨.refl p, fun _ => .refl p⟩
  | cons u l ih =>
    obtain ⟨hu, hl⟩ := List.nodup_cons.mp hl
    obtain ⟨hne, hssu⟩ := not_or.mp (List.mem_cons.not.mp hssu)
    have hstep : Clocked p (secondFor before minute p u) ∧ (u ≠ .smn → PresencesKept p (secondFor before minute p u)) := by
      cases u with
      | flc => exact ⟨floorSecond p, fun _ => presencesKept_floorSecond p⟩
      | smn => exact ⟨seatSecond (hruns (by simp)), fun h => absurd rfl h⟩
      | ssu => exact absurd rfl hne
      | pwu => exact ⟨powerSecond p minute, fun _ => presencesKept_powerSecond p minute⟩
    obtain ⟨hclocked, hkept⟩ := hstep
    have hgrace : (secondFor before minute p u).smn.grace = p.smn.grace := hclocked.same .grace (by simp)
    obtain ⟨hrest, hpresences⟩ := ih hl hssu fun hmem =>
      (hruns (by simp [hmem])).kept (hkept fun h => hu (h ▸ hmem)) hgrace
    refine ⟨hclocked.trans hrest, fun hmem => ?_⟩
    obtain ⟨hsmn, hmem⟩ := not_or.mp (List.mem_cons.not.mp hmem)
    exact (hkept (Ne.symm hsmn)).trans (hpresences hmem)

end Clocked

end Part

end Sys2Proof.Machine
end

section
/-! What the sessions make of the seats and the slots at the events of the clock (R142, R145, R156, R163, R171). -/

namespace Sys2Proof.Machine

namespace Unopened

variable {p q t : Part}

theorem markMissed (h : Unopened p q) : Unopened p q.markMissed := by
  refine h.same (bs := [.banks, .notices]) (fun b hb => ?_) (by simp) (by simp) (by simp) (by simp)
  cases b <;> simp_all [Piece.Same]

theorem noticeIf (h : Unopened p q) (b : Bool) (c : Category) : Unopened p (q.noticeIf b c) := by
  unfold Part.noticeIf
  split
  · exact h.notice c
  · exact h

@[simp] theorem wake (h : Unopened p q) : Unopened p q.wake :=
  h.same (Part.sameBut_wake q) (by simp) (by simp) (by simp) (by simp)

@[simp] theorem setSession (h : Unopened p q) (x : Option Session) : Unopened p (q.setSession x) := h.withSsu _

@[simp] theorem dropStalePending (h : Unopened p q) : Unopened p q.dropStalePending := by
  unfold Part.dropStalePending
  (repeat' split) <;> simp [h]

@[simp] theorem stageTest (h : Unopened p q) : Unopened p q.stageTest := h.stageStep.completeWindup

@[simp] theorem windup (h : Unopened p q) (r : CloseReason) : Unopened p (q.windup r) := (h.enterWindup r).completeWindup

@[simp] theorem release (h : Unopened p q) (x : Session) : Unopened p (q.release x) :=
  ((h.closeSession x .released).openPending).closeWindup

@[simp] theorem releaseTest (h : Unopened p q) (window : Bool) : Unopened p (q.releaseTest window) := by
  unfold Part.releaseTest
  split
  · dsimp only
    (repeat' split) <;> simp [h]
  · exact h

@[simp] theorem endTest (h : Unopened p q) (window : Bool) : Unopened p (q.endTest window) := (h.releaseTest window).stageTest

@[simp] theorem openingTest (h : Unopened p q) : Unopened p q.openingTest := by
  unfold Part.openingTest
  (repeat' split) <;> simp [h]

@[simp] theorem repeatWalkIn (h : Unopened p q) : Unopened p q.repeatWalkIn := by
  unfold Part.repeatWalkIn
  split <;> simp [h]

/-! ### The session's second and minute (R163) -/

@[simp] theorem countVacancy (h : Unopened p q) : Unopened p q.countVacancy := by
  unfold Part.countVacancy Part.vacancyTest
  (repeat' split) <;> simp [h]

@[simp] theorem countDwell (h : Unopened p q) : Unopened p q.countDwell := by
  simp only [Part.countDwell]
  split
  · split
    · exact (h.withSsu _).walkInTest
    · exact h.withSsu _
  · exact h

@[simp] theorem sessionSecond (h : Unopened p q) : Unopened p q.sessionSecond := h.countVacancy.countDwell

theorem countAwait (h : Unopened p q) (before : Part) : Unopened p (Part.countAwait before q) := by
  unfold Part.countAwait
  (repeat' split) <;> simp [h]

@[simp] theorem sessionMinute (h : Unopened p q) (before : Part) : Unopened p (Part.sessionMinute before q) :=
  ((((h.dropStalePending).countAwait before).endTest true).openingTest).repeatWalkIn

/-! ### The swap (R156) -/

theorem relink (h : Unopened p q) : Unopened p q.relink := by
  unfold Part.relink
  split
  · split
    · dsimp only
      split
      · exact ((h.markEntry _ _ _).setSession _).noticeIf _ _
      · exact (h.setSession _).noticeIf _ _
    · exact h
  · exact h

theorem relinkTests (h : Unopened p q) : Unopened p q.relinkTests := by
  unfold Part.relinkTests
  (repeat' split) <;> simp [h]

theorem exchangeBanks (h : Unopened p q) : Unopened p q.exchangeBanks := by
  refine h.same (bs := [.banks]) (fun b hb => ?_) (by simp) (by simp) (by simp) (by simp)
  cases b <;> simp_all [Piece.Same]

@[simp] theorem swap (h : Unopened p q) : Unopened p q.swap :=
  (((((h.exchangeBanks).relink).markMissed.dropStalePending).notice .schedule).relinkTests.openingTest).repeatWalkIn

end Unopened

namespace Part

variable {p q t : Part}

theorem unopened_setClock (p : Part) (c : Clock) : Unopened p (p.setClock c) := by
  refine (Unopened.refl p).same (bs := [.clock]) (fun b hb => ?_) (by simp) (by simp) (by simp) (by simp)
  cases b <;> simp_all [Piece.Same]

theorem unopened_midnight (h : Unopened p q) : Unopened p q.midnight := by
  unfold midnight
  refine Unopened.notice ?_ _
  split
  · exact h.swap
  · exact h

/-- SCH's own work at a second event reaches neither the seats nor, but for closes, the slots. -/
theorem unopened_ticked (p : Part) : Unopened p p.ticked := by
  have hmarked : Unopened p (if 59 ≤ p.sch.clock.second then (p.setClock (tick p.sch.clock)).markMissed
      else p.setClock (tick p.sch.clock)) := by
    split
    · exact (unopened_setClock p _).markMissed
    · exact unopened_setClock p _
  rw [ticked]
  generalize (if 59 ≤ p.sch.clock.second then (p.setClock (tick p.sch.clock)).markMissed
      else p.setClock (tick p.sch.clock)) = q at hmarked
  split
  · exact unopened_midnight hmarked
  · exact hmarked

end Part

theorem Unopened.presences {p t : Part} (h : Unopened p t) : Part.PresencesKept p t := fun i => ⟨(h.seats i).1, (h.seats i).2.1⟩

end Sys2Proof.Machine
end

section
/-! The second event around the session's part of it, and what a minute event makes of the sessions (R142, R163 to R166). -/

namespace Sys2Proof.Machine

namespace Part

variable {p q t : Part} {x : Session} {e : Entry} {minute : Bool}

/-! ### PWU while the part stays awake (R199, R201) -/

/-- The part is in ACTIVE and the standby entry test does not pass. -/
def Awake (p : Part) : Prop := p.pwu.power = .active ∧ p.standbyPasses = false

theorem powerSecond_awake (h : Awake p) (minute : Bool) : p.powerSecond minute = p.countQuiet := by
  obtain ⟨hpower, hpasses⟩ := h
  have hquiet : p.countQuiet.pwu.power = .active := by simpa using hpower
  have hwake : (if minute then p.countQuiet.preWake else p.countQuiet) = p.countQuiet := by
    split
    · unfold preWake
      split
      · exact wake_awake (by rw [hquiet]; decide)
      · rfl
    · rfl
  have hstands : p.countQuiet.standbyPasses = p.standbyPasses := by
    have hnext : p.countQuiet.nextStart = p.nextStart := nextStart_of_sch (by simp)
    simp [standbyPasses, sessionOpen, hnext]
  rw [powerSecond_eq, hwake, standbyTest, hstands, hpasses]
  simp

theorem Clocked.sameDay (h : Clocked p t) : SameDay p t := (SameDay.refl p).sameBut h.same (by simp) (by simp)

theorem Clocked.standbyPasses (h : Clocked p t) : t.standbyPasses = p.standbyPasses := by
  have hlead : t.pwu.lead = p.pwu.lead := (h.same .wakeSettings (by simp)).1
  simp only [Part.standbyPasses, sessionOpen, h.same.session (by simp), h.same.pendingStart (by simp), h.sameDay.nextStart,
    h.sameDay.clock, hlead]

/-- FLC, SMN and PWU keep the part awake and the settings of the screens. -/
theorem users_awake (before : Part) (minute : Bool) {l : List ClockUser} (hl : l.Nodup) (hssu : .ssu ∉ l)
    (hruns : .smn ∈ l → AbsencesRun p) (h : Awake p) :
    (l.foldl (secondFor before minute) p).pwu.power = .active ∧ SetsKept p (l.foldl (secondFor before minute) p) := by
  induction l generalizing p with
  | nil => exact ⟨h.1, .refl p⟩
  | cons u l ih =>
    obtain ⟨hu, hl'⟩ := List.nodup_cons.mp hl
    obtain ⟨hne, hssu'⟩ := not_or.mp (List.mem_cons.not.mp hssu)
    obtain ⟨hclocked, hpresences⟩ := Clocked.users (p := p) before minute (l := [u]) (by simp) (by simpa using hne)
      fun hmem => hruns (by simpa using .inl (List.mem_singleton.mp hmem))
    have hstep : (secondFor before minute p u).pwu.power = .active ∧ SetsKept p (secondFor before minute p u) := by
      cases u with
      | flc => exact ⟨by simpa [secondFor] using h.1, setsKept_floorSecond p⟩
      | smn =>
        have hsame := (seatSecond_runs (hruns (by simp))).1
        have hstep : secondFor before minute p .smn = p.seatSecond := rfl
        rw [hstep]
        exact ⟨(hsame.power (by simp)).trans h.1, .of_screens (hsame .screens (by simp))⟩
      | ssu => exact absurd rfl hne
      | pwu =>
        have hsame := sameBut_countQuiet p
        have hstep : secondFor before minute p .pwu = p.countQuiet := powerSecond_awake h minute
        rw [hstep]
        exact ⟨(hsame.power (by simp)).trans h.1, .of_screens (hsame .screens (by simp))⟩
    have hgrace : (secondFor before minute p u).smn.grace = p.smn.grace := hclocked.same .grace (by simp)
    obtain ⟨hpower, hsets⟩ := ih hl' hssu' (fun hmem =>
      (hruns (by simp [hmem])).kept (hpresences fun h => hu (by rwa [← List.mem_singleton.mp h])) hgrace)
      ⟨hstep.1, hclocked.standbyPasses.trans h.2⟩
    exact ⟨hpower, hstep.2.trans hsets⟩

/-! ### The second event around SSU's part (R142) -/

theorem ticked_grace (p : Part) : p.ticked.smn.grace = p.smn.grace := by
  unfold ticked
  (repeat' split) <;> simp

theorem absencesRun_ticked (h : AbsencesRun p) : AbsencesRun p.ticked := h.kept (unopened_ticked p).presences (ticked_grace p)

/-- SSU's part of a second event. -/
abbrev sessionEvent (p q : Part) : Part := secondFor p (decide (59 ≤ p.sch.clock.second)) q .ssu

theorem unopened_sessionEvent (p q : Part) : Unopened q (sessionEvent p q) := by
  unfold sessionEvent secondFor
  dsimp only
  split
  · exact ((Unopened.refl q).sessionSecond).sessionMinute p
  · exact (Unopened.refl q).sessionSecond

/-- While no absence grace ends, what FLC, SMN and PWU make of a second event lies before and after SSU's part of it. -/
theorem secondEvent_session (h : AbsencesRun p) (first : List ClockUser) :
    ∃ q, Clocked p.ticked q ∧ Clocked (sessionEvent p q) (p.secondEvent first) ∧
      (Awake p.ticked → q.pwu.power = .active ∧ SetsKept p.ticked q) ∧
      (Awake (sessionEvent p q) → SetsKept (sessionEvent p q) (p.secondEvent first)) ∧
      ∃ l : List ClockUser, l.Nodup ∧ .ssu ∉ l ∧ q = l.foldl (secondFor p (decide (59 ≤ p.sch.clock.second))) p.ticked := by
  obtain ⟨l, m, hsplit, hl, hm, hnodup⟩ := takenOrder_split first (all := [.flc, .smn, .ssu, .pwu]) (by decide) (a := .ssu) (by decide)
  obtain ⟨hnl, hnm, hdisjoint⟩ := List.nodup_append.mp hnodup
  set sf := secondFor p (decide (59 ≤ p.sch.clock.second)) with hsf
  obtain ⟨hclocked, hpresences⟩ := Clocked.users (p := p.ticked) p (decide (59 ≤ p.sch.clock.second)) hnl hl fun _ => absencesRun_ticked h
  have hgrace : (sessionEvent p (l.foldl sf p.ticked)).smn.grace = p.ticked.smn.grace := by
    have hkept : (sessionEvent p (l.foldl sf p.ticked)).smn.grace = (l.foldl sf p.ticked).smn.grace := by simp [sessionEvent]
    exact hkept.trans (hclocked.same .grace (by simp))
  have hruns : .smn ∈ m → AbsencesRun (sessionEvent p (l.foldl sf p.ticked)) := fun hmem =>
    (absencesRun_ticked h).kept ((hpresences fun hsmn => hdisjoint _ hsmn _ hmem rfl).trans (unopened_sessionEvent p _).presences) hgrace
  have hevent : p.secondEvent first = m.foldl sf (sessionEvent p (l.foldl sf p.ticked)) := by
    rw [secondEvent_eq, hsplit, List.foldl_append, List.foldl_cons]
  refine ⟨l.foldl sf p.ticked, hclocked, ?_, fun hawake => users_awake p _ hnl hl (fun _ => absencesRun_ticked h) hawake,
    fun hawake => ?_, l, hnl, hl, rfl⟩
  · rw [hevent]
    exact (Clocked.users p _ hnm hm hruns).1
  · rw [hevent]
    exact (users_awake p _ hnm hm hruns hawake).2

end Part

end Sys2Proof.Machine
end

section
/-! Settling O22: the minute event (R163 to R166, R173). -/

namespace Sys2Proof.Machine

namespace Part

variable {p q t : Part} {x : Session} {e : Entry}

/-! ### SCH's part of a minute event without a swap (R144, R145) -/

theorem ticked_unswapped (hsecond : 59 ≤ p.sch.clock.second) (h : p.staging.state ≠ .ready ∨ p.sch.clock.minute < 1439) :
    p.ticked = (p.setClock (tick p.sch.clock)).markMissed ∨
      p.ticked = (p.setClock (tick p.sch.clock)).markMissed.notice .schedule := by
  have hstaging : (p.setClock (tick p.sch.clock)).markMissed.staging = p.staging := markMissed_staging _
  simp only [ticked, hsecond, if_true, true_and]
  split
  next hturn =>
    refine .inr (midnight_waits (.inl ?_))
    rw [hstaging]
    exact h.resolve_right (by omega)
  next => exact .inl rfl

section Unswapped

variable (hsecond : 59 ≤ p.sch.clock.second) (h : p.staging.state ≠ .ready ∨ p.sch.clock.minute < 1439)

include hsecond h

theorem sameBut_ticked : SameBut [.clock, .banks, .notices] p p.ticked := by
  obtain ht | ht := ticked_unswapped hsecond h <;> rw [ht] <;> intro b hb <;> cases b <;> simp_all [Piece.Same]

theorem sameDay_ticked : SameDay (p.setClock (tick p.sch.clock)) p.ticked := by
  obtain ht | ht := ticked_unswapped hsecond h
  · rw [ht]
    exact .markMissed _
  · rw [ht]
    exact (SameDay.markMissed _).then_sch (by simp)

end Unswapped

/-! ### SSU's second in a session that its vacancy does not end (R163, R168) -/

/-- A session with a second of vacancy more, while it runs with nobody counted (R168). -/
def vacancyCounted (p : Part) (x : Session) : Session :=
  if runningState x.state = true ∧ p.smn.occupied = 0 then { x with vacancy := min (x.vacancy + 1) 3600 } else x

theorem vacancyCounted_state (p : Part) (x : Session) : (p.vacancyCounted x).state = x.state := by
  unfold vacancyCounted
  split <;> rfl

theorem vacancyCounted_end (p : Part) (x : Session) : (p.vacancyCounted x).effEnd = x.effEnd := by
  unfold vacancyCounted
  split <;> rfl

theorem vacancyTest_stays (hsession : p.ssu.session = some x)
    (h : runningState x.state = false ∨ p.ssu.params.vacancy = 0 ∨ x.vacancy < p.ssu.params.vacancy * 60) : p.vacancyTest = p := by
  simp only [vacancyTest, hsession]
  rw [if_neg]
  rintro ⟨hrunning, hne, hfull⟩
  obtain h | h | h := h
  · simp [h] at hrunning
  · exact hne h
  · omega

theorem countDwell_unready (h : p.walkInReady = false) : p.countDwell = p := by simp [countDwell, h]

theorem setSession_self {y : Option Session} (h : p.ssu.session = y) : p.setSession y = p := by
  rw [← h]
  rfl

/-- A second of a session that does not end by its vacancy. -/
theorem sessionSecond_stays (hsession : p.ssu.session = some x)
    (h : runningState x.state = false ∨ p.smn.occupied ≠ 0 ∨ p.ssu.params.vacancy = 0 ∨
      min (x.vacancy + 1) 3600 < p.ssu.params.vacancy * 60) :
    p.sessionSecond = p.setSession (some (p.vacancyCounted x)) := by
  have hcount : p.countVacancy = p.setSession (some (p.vacancyCounted x)) := by
    simp only [countVacancy, hsession, vacancyCounted]
    split
    next hcounts =>
      refine vacancyTest_stays (x := { x with vacancy := min (x.vacancy + 1) 3600 }) rfl ?_
      obtain h | h | h := h
      · exact .inl h
      · exact absurd hcounts.2 h
      · exact .inr h
    next => exact (setSession_self hsession).symm
  rw [sessionSecond, hcount, countDwell_unready (walkInReady_open (x := p.vacancyCounted x) rfl)]

theorem sessionSecond_none (hsession : p.ssu.session = none) (hready : p.walkInReady = false) : p.sessionSecond = p := by
  have hcount : p.countVacancy = p := by simp [countVacancy, hsession]
  rw [sessionSecond, hcount, countDwell_unready hready]

/-! ### SSU's minute (R163, R166) -/

theorem sessionMinute_tested (hpending : p.ssu.pendingStart = none) (before : Part) :
    sessionMinute before p = (countAwait before p).sessionTested true := by
  rw [sessionMinute, dropStalePending_none hpending, sessionTested]

theorem countAwait_checkedIn (h : ∀ x ∈ p.ssu.session, x.state ≠ .awaiting) (before : Part) : countAwait before p = p := by
  unfold countAwait
  split
  next x hx => rw [if_neg fun hc => h x hx hc.1]
  next => rfl

/-- A session with a minute of waiting more (R166). -/
def awaitCounted (x : Session) : Session := { x with await := min (x.await + 1) 30 }

/-- An AWAITING session that was open before its event counts the minute. -/
theorem countAwait_counts {before : Part} (hsession : p.ssu.session = some x) (hstate : x.state = .awaiting)
    (hsame : sameSession before p = true) : countAwait before p = p.setSession (some (awaitCounted x)) := by
  simp [countAwait, hsession, hstate, hsame, awaitCounted]

theorem sessionEvent_minute (hsecond : 59 ≤ p.sch.clock.second) (q : Part) : sessionEvent p q = sessionMinute p q.sessionSecond := by
  simp [sessionEvent, secondFor, hsecond]

/-- SSU's part of a minute event that opens a booked entry. -/
theorem sessionEvent_opens (hsecond : 59 ≤ p.sch.clock.second) (hsession : q.ssu.session = none)
    (hpending : q.ssu.pendingStart = none) (hready : q.walkInReady = false) (hpower : q.pwu.power = .active)
    (hdue : q.dueEntry = some e) (hend : q.sch.clock.minute + q.ssu.params.warning < e.booking.stop) :
    sessionEvent p q = q.openBooked e.booking := by
  rw [sessionEvent_minute hsecond, sessionSecond_none hsession hready, sessionMinute_tested hpending,
    countAwait_checkedIn (by simp [hsession]), sessionTested_opens hpending hsession hpower hdue hend]

/-- SSU's part of a minute event in a running session without a vacancy, short of its grace end. -/
theorem sessionEvent_stages (hsecond : 59 ≤ p.sch.clock.second) (hsession : q.ssu.session = some x)
    (hrunning : runningState x.state = true) (hpending : q.ssu.pendingStart = none)
    (hvacancy : q.ssu.params.vacancy = 0 ∨ q.smn.occupied ≠ 0) (hdue : q.dueEntry = none) (hstage : q.stageFor x.effEnd ≠ .windup) :
    (sessionEvent p q).ssu.session = some { q.vacancyCounted x with state := q.stageFor x.effEnd } ∧
      SameBut [.session, .notices] q (sessionEvent p q) := by
  have hsecondly := sessionSecond_stays hsession (.inr (hvacancy.symm.imp_right .inl))
  set r := q.setSession (some (q.vacancyCounted x)) with hr
  have hday : SameDay q r := .of_sch rfl
  have hrun : runningState (q.vacancyCounted x).state = true := by rwa [vacancyCounted_state]
  have hnot : (q.vacancyCounted x).state ≠ .awaiting := fun h => by simp [h, runningState] at hrun
  have hstaged : r.stageFor (q.vacancyCounted x).effEnd = q.stageFor x.effEnd := by
    rw [vacancyCounted_end]
    exact hday.stageFor rfl _
  obtain ⟨hopened, hsame⟩ := sessionTested_stages (p := r) (x := q.vacancyCounted x) rfl hrun (hday.dueEntry.trans hdue)
    (by rwa [hstaged]) true
  rw [sessionEvent_minute hsecond, hsecondly, sessionMinute_tested (p := r) hpending,
    countAwait_checkedIn (p := r) fun y hy => by
      obtain rfl := Option.mem_some.mp hy
      exact hnot]
  refine ⟨?_, ((sameBut_setSession q _).mono (by simp)).trans hsame⟩
  rw [hopened, staged, hstaged]

/-- SSU's part of a minute event at the grace end of a running session. -/
theorem sessionEvent_ends (hsecond : 59 ≤ p.sch.clock.second) (hsession : q.ssu.session = some x)
    (hrunning : runningState x.state = true) (hpending : q.ssu.pendingStart = none)
    (hvacancy : q.ssu.params.vacancy = 0 ∨ q.smn.occupied ≠ 0) (hdue : q.dueEntry = none) (hstage : q.stageFor x.effEnd = .windup)
    (hdwell : q.ssu.dwell < q.ssu.params.dwell) :
    sessionEvent p q = (q.setSession (some (q.vacancyCounted x))).windup .ended := by
  have hsecondly := sessionSecond_stays hsession (.inr (hvacancy.symm.imp_right .inl))
  set r := q.setSession (some (q.vacancyCounted x)) with hr
  have hday : SameDay q r := .of_sch rfl
  have hrun : runningState (q.vacancyCounted x).state = true := by rwa [vacancyCounted_state]
  have hnot : (q.vacancyCounted x).state ≠ .awaiting := fun h => by simp [h, runningState] at hrun
  have hstaged : r.stageFor (q.vacancyCounted x).effEnd = .windup := by
    rw [vacancyCounted_end]
    exact (hday.stageFor rfl _).trans hstage
  rw [sessionEvent_minute hsecond, hsecondly, sessionMinute_tested (p := r) hpending,
    countAwait_checkedIn (p := r) fun y hy => by
      obtain rfl := Option.mem_some.mp hy
      exact hnot]
  exact sessionTested_ends (p := r) (x := q.vacancyCounted x) hpending rfl hrun (hday.dueEntry.trans hdue) hstaged hdwell true

section Awaiting

variable (hsecond : 59 ≤ p.sch.clock.second) (hsession : q.ssu.session = some x) (hstate : x.state = .awaiting)
  (hsame : sameSession p q = true) (hpending : q.ssu.pendingStart = none) (hdue : q.dueEntry = none)

include hsecond hsession hstate hsame hpending

/-- SSU's part of a minute event in an AWAITING session comes to its tests. -/
theorem sessionEvent_awaiting : sessionEvent p q = (q.setSession (some (awaitCounted x))).sessionTested true := by
  have hcounted : q.vacancyCounted x = x := by simp [vacancyCounted, hstate, runningState]
  have hsecondly := sessionSecond_stays hsession (.inl (by simp [hstate, runningState]))
  rw [hcounted, setSession_self hsession] at hsecondly
  rw [sessionEvent_minute hsecond, hsecondly, sessionMinute_tested hpending, countAwait_counts hsession hstate hsame]

include hdue in
theorem sessionEvent_awaits (hend : q.now < x.effEnd) (hwindow : ∀ c ∈ x.copy, ∀ w ∈ c.window, min (x.await + 1) 30 < w) :
    sessionEvent p q = q.setSession (some (awaitCounted x)) := by
  have hday : SameDay q (q.setSession (some (awaitCounted x))) := .of_sch rfl
  rw [sessionEvent_awaiting hsecond hsession hstate hsame hpending]
  refine sessionTested_awaits (x := awaitCounted x) rfl hstate (hday.dueEntry.trans hdue) ?_
  exact releaseTest_waits (x := awaitCounted x) rfl (by rw [hday.now]; exact hend) hwindow true

include hdue in
theorem sessionEvent_releases {b : Booking} {w : Nat} (hcopy : x.copy = some b) (hw : b.window = some w)
    (hend : x.effEnd ≤ q.now ∨ w ≤ min (x.await + 1) 30) (hdwell : q.ssu.dwell < q.ssu.params.dwell) :
    sessionEvent p q = (q.setSession (some (awaitCounted x))).closeSession (awaitCounted x) .released := by
  have hday : SameDay q (q.setSession (some (awaitCounted x))) := .of_sch rfl
  rw [sessionEvent_awaiting hsecond hsession hstate hsame hpending]
  refine sessionTested_releases (p := q.setSession (some (awaitCounted x))) hpending (hday.dueEntry.trans hdue) ?_ hdwell
  obtain hend | hfull := hend
  · exact releaseTest_ends (x := awaitCounted x) rfl hstate (by rw [hday.now]; exact hend) true
  · exact releaseTest_expired (x := awaitCounted x) rfl hstate hcopy hw hfull

end Awaiting

end Part

end Sys2Proof.Machine
end

section
/-! The clauses of the minute event (R163 to R166, R173). -/

namespace Sys2Proof.Machine

namespace Part

variable {p q t : Part} {x : Session} {e : Entry} {first : List ClockUser}

theorem foldl_min_le (l : List Entry) (n : Nat) :
    l.foldl (fun n e => min n e.booking.start) n ≤ n ∧
      ∀ e ∈ l, l.foldl (fun n e => min n e.booking.start) n ≤ e.booking.start := by
  induction l generalizing n with
  | nil => simp
  | cons a l ih =>
    obtain ⟨hle, hmem⟩ := ih (min n a.booking.start)
    refine ⟨by rw [List.foldl_cons]; omega, fun e he => ?_⟩
    rw [List.foldl_cons]
    obtain rfl | he := List.mem_cons.mp he
    · omega
    · exact hmem e he

/-- A due entry has started, and the next start is not later (R149, R164). -/
theorem nextStart_due (h : p.dueEntry = some e) : p.nextStart ≤ p.sch.clock.minute := by
  unfold dueEntry at h
  split at h
  next hcurrent =>
    have hday : p.published.day = p.sch.clock.day := by
      simp only [isCurrent, Bool.and_eq_true, decide_eq_true_eq] at hcurrent
      exact hcurrent.2
    have hstart := List.find?_some h
    simp only [startReached, reached, now, hday, decide_eq_true_eq] at hstart
    have hle := (foldl_min_le p.comingEntries 1440).2 e (List.mem_of_find?_eq_some h)
    rw [nextStart, if_pos hcurrent]
    omega
  next => simp at h

theorem notPassing_due (h : p.dueEntry = some e) (hminute : p.sch.clock.minute < 1440) : p.standbyPasses = false := by
  have hnext := nextStart_due h
  simp only [standbyPasses, Bool.and_eq_false_iff, Bool.or_eq_false_iff, decide_eq_false_iff_not]
  exact .inr ⟨by omega, by omega⟩

theorem notPassing_open (h : p.ssu.session = some x) : p.standbyPasses = false := by simp [standbyPasses, sessionOpen, h]

/-- The pieces that SCH, FLC, SMN and PWU may reach at a second event with neither a swap nor an end of an absence grace. -/
abbrev tickedPieces : List Piece := .clock :: .banks :: clockedPieces

theorem Clocked.ticked_same (hsecond : 59 ≤ p.sch.clock.second) (h : p.staging.state ≠ .ready ∨ p.sch.clock.minute < 1439)
    (hq : Clocked p.ticked q) : SameBut tickedPieces p q :=
  ((sameBut_ticked hsecond h).mono (by simp)).trans (hq.same.mono (by simp))

theorem Clocked.ticked_sameDay (hsecond : 59 ≤ p.sch.clock.second) (h : p.staging.state ≠ .ready ∨ p.sch.clock.minute < 1439)
    (hq : Clocked p.ticked q) : SameDay (p.setClock (tick p.sch.clock)) q := (sameDay_ticked hsecond h).trans hq.sameDay

theorem absencesRun_present (h : ∀ i, (p.seat i).presence ≠ .away) : AbsencesRun p := fun i haway => absurd haway (h i)

/-- A minute event at which an entry is due opens it. -/
theorem secondEvent_opens (hpower : p.pwu.power = .active)
    (hclock : p.sch.clock.second = 59 ∧ p.sch.clock.minute < 1439) (hsession : p.ssu.session = none)
    (hpending : p.ssu.pendingStart = none) (hready : p.walkInReady = false) (hruns : AbsencesRun p)
    (hdue : (p.setClock (tick p.sch.clock)).dueEntry = some e)
    (hend : p.sch.clock.minute + 1 + p.ssu.params.warning < e.booking.stop) (first : List ClockUser) :
    ∃ q, Clocked p.ticked q ∧ q.dueEntry = some e ∧ SameBut tickedPieces p q ∧ q.sch.clock = tick p.sch.clock ∧
      q.sch.clock.minute + q.ssu.params.warning < e.booking.stop ∧ Clocked (q.openBooked e.booking) (p.secondEvent first) ∧
      SetsKept (q.openBooked e.booking) (p.secondEvent first) := by
  have hsecond : 59 ≤ p.sch.clock.second := by omega
  have hunswapped : p.staging.state ≠ .ready ∨ p.sch.clock.minute < 1439 := .inr hclock.2
  obtain ⟨q, hq, hfinal, hbefore, hafter, -⟩ := secondEvent_session hruns first
  have hsame := hq.ticked_same hsecond hunswapped
  have hday := hq.ticked_sameDay hsecond hunswapped
  have hticks : (tick p.sch.clock).minute = p.sch.clock.minute + 1 := by simp [tick, hclock]
  have hminute : q.sch.clock.minute = p.sch.clock.minute + 1 := by
    rw [hday.clock]
    exact hticks
  have hqdue : q.dueEntry = some e := hday.dueEntry.trans hdue
  have htdue : p.ticked.dueEntry = some e := (sameDay_ticked hsecond hunswapped).dueEntry.trans hdue
  have htminute : p.ticked.sch.clock.minute = p.sch.clock.minute + 1 := by
    rw [(sameDay_ticked hsecond hunswapped).clock]
    exact hticks
  have hqsession := (hsame.session (by simp)).trans hsession
  have hqpending := (hsame.pendingStart (by simp)).trans hpending
  have hqready : q.walkInReady = false :=
    (walkInReady_of_session (hsame.session (by simp)) (hsame.pendingStart (by simp)) (hsame.params (by simp))
      (hsame.occupied (by simp))).trans hready
  obtain ⟨hqpower, -⟩ := hbefore ⟨((sameBut_ticked hsecond hunswapped).power (by simp)).trans hpower, notPassing_due htdue (by omega)⟩
  have hqend : q.sch.clock.minute + q.ssu.params.warning < e.booking.stop := by
    rw [hminute, hsame.params (by simp)]
    exact hend
  have hopens := sessionEvent_opens (p := p) hsecond hqsession hqpending hqready hqpower hqdue hqend
  rw [hopens] at hfinal hafter
  obtain ⟨hopened, -, hset⟩ := openBooked_opens hqend
  have hawake : Awake (q.openBooked e.booking) :=
    ⟨((hset.power (by simp)).trans ((sameBut_bookedSet q _).power (by simp))).trans hqpower, notPassing_open hopened⟩
  exact ⟨q, hq, hqdue, hsame, hday.clock, hqend, hfinal, hafter hawake⟩

end Part

variable {s : State} {x : Session} {e : Entry} {first : List ClockUser} {m : Nat}

theorem completes_minuteOpens (hrun : s.part.pln.stage = .running ∧ s.part.pwu.power = .active)
    (hclock : s.part.sch.clock.second = 59 ∧ s.part.sch.clock.minute < 1439 ∧ s.part.sch.clock.valid = true ∧
      m = s.part.sch.clock.minute + 1)
    (hbank : s.part.published.state = .published ∧ s.part.published.day = s.part.sch.clock.day)
    (hfind : s.part.published.entries.find? (fun x => x.status = .pending ∧ x.booking.start ≤ m ∧ m < x.booking.stop) = some e)
    (hfree : s.part.ssu.session = none ∧ s.part.ssu.pendingStart = none ∧ s.part.walkInReady = false ∧
      ∀ i, (s.part.seat i).presence ≠ .away)
    (hend : m + s.part.ssu.params.warning < e.booking.stop) :
    Completes (.secondEvent first) s fun t =>
      t.ssu.pendingStart = none ∧ t.ssu.dwell = 0 ∧
      (∃ x ∈ t.ssu.session, x.kind = .booked ∧ x.booking = some e.booking.id ∧ x.copy = some e.booking ∧
        x.openDay = s.part.sch.clock.day ∧ x.openMinute = m ∧
        x.effEnd = s.part.sch.clock.day * 1440 + e.booking.stop ∧ x.unlisted = false ∧ x.peak = s.part.smn.occupied ∧
        x.await = 0 ∧ x.reason = none ∧
        (e.booking.checkIn = false → x.state = .inSession ∧ x.checkedIn = none) ∧
        (e.booking.checkIn = true → e.booking.quorum ≤ s.part.smn.occupied → x.state = .inSession ∧ x.checkedIn = some m) ∧
        (e.booking.checkIn = true → s.part.smn.occupied < e.booking.quorum → x.state = .awaiting ∧ x.checkedIn = none) ∧
        (x.state = .inSession → t.flc.isOpen = true)) ∧
      (∃ y ∈ t.published.entries, y.booking = e.booking ∧ y.status = .active) ∧
      t.flc.mode = e.booking.floor.mode ∧ t.flc.limit = max 1 (min 6 e.booking.floor.limit) ∧
      t.flc.speak = e.booking.floor.speak ∧ t.flc.enforce = e.booking.floor.enforce ∧
      (∀ k, (t.screen k).set = (s.part.rtu.presets.get e.booking.screen).get k) ∧
      (∀ q, (t.port q).flags &&& 0x60 = 0x60) := by
  obtain ⟨hsecond, hminute, hvalid, rfl⟩ := hclock
  obtain ⟨hsession, hpending, hready, hpresent⟩ := hfree
  refine completes_onEvent (f := fun p => p.secondEvent first) rfl ?_
  rw [Part.event_unheld (Part.isHeld_running hrun.1)]
  have hticks : Part.tick s.part.sch.clock = { s.part.sch.clock with second := 0, minute := s.part.sch.clock.minute + 1 } := by
    simp [Part.tick, hsecond, hminute]
  have hcurrent : (s.part.setClock (Part.tick s.part.sch.clock)).isCurrent = true := by
    have hpublished : (s.part.setClock (Part.tick s.part.sch.clock)).published = s.part.published := rfl
    simp only [Part.isCurrent, hpublished, hbank]
    simp [hticks, hvalid]
  have hdue : (s.part.setClock (Part.tick s.part.sch.clock)).dueEntry = some e := by
    rw [Part.dueEntry_find hcurrent, ← hfind, hticks]
    rfl
  obtain ⟨q, hq, hqdue, hsame, hclock, hqend, hfinal, hsets⟩ := Part.secondEvent_opens hrun.2 ⟨hsecond, hminute⟩ hsession hpending hready
    (Part.absencesRun_present hpresent) hdue hend first
  obtain ⟨hopened, hopen, -⟩ := Part.openBooked_opens hqend
  obtain ⟨hnone, -, hactive, ⟨hmode, hlimit, hspeak, henforce⟩, hscreens⟩ :=
    Part.openBooked_leaves (Part.dueEntry_coming hqdue) hqend
  have hflags := Part.openBooked_flags (Part.dueEntry_coming hqdue).1 (Part.dueEntry_coming hqdue).2
  generalize s.part.secondEvent first = f at hfinal hsets ⊢
  have hfsession := (hfinal.same.session (by simp)).trans hopened
  have hfready := Part.walkInReady_open hfsession
  have hall : SameBut (.dwell :: Part.clockedPieces) (q.openBooked e.booking) (Part.conclude s.part f) :=
    (hfinal.same.mono (by simp)).trans ((Part.sameBut_conclude_dwell (.inl hfready)).mono (by simp))
  obtain ⟨hfspeak, hfenforce⟩ : (Part.conclude s.part f).flc.speak = _ ∧ (Part.conclude s.part f).flc.enforce = _ :=
    hall .floorSpeak (by simp)
  have hpresets : q.rtu.presets = s.part.rtu.presets := hsame .presets (by simp)
  have hset : ∀ k, ((Part.conclude s.part f).screen k).set = (s.part.rtu.presets.get e.booking.screen).get k := fun k => by
    rw [Part.conclude_set (.inl hfready), hsets, hscreens, hpresets]
  have hgrown : ∀ a, ((Part.conclude s.part f).notices a).1 &&& 0x60 = 0x60 := fun a =>
    (Part.conclude_grows (.refl _) s.part).flags (hfinal.grows.flags (hflags a))
  refine ⟨(hall.pendingStart (by simp)).trans hnone, Part.conclude_dwell hfready, ⟨_, (hall.session (by simp)).trans hopened, ?_⟩, ?_,
    (hall.mode (by simp)).trans hmode, ((hall.limit (by simp)).trans hlimit).trans (clamp_eq (by decide) _), hfspeak.trans hspeak,
    hfenforce.trans henforce, hset, hgrown⟩
  · have hoccupied := hsame.occupied (by simp)
    have hfloor := (hall.isOpen (by simp)).trans ∘ hopen
    obtain ⟨st, c, hfields⟩ := Part.openedSession_fields q e.booking
    have hbooked : q.bookedSession e.booking = { q.bookedSession e.booking with
        openDay := s.part.sch.clock.day, openMinute := s.part.sch.clock.minute + 1,
        effEnd := s.part.sch.clock.day * 1440 + e.booking.stop, peak := s.part.smn.occupied } := by
      simp [Part.bookedSession, hclock, hticks, hoccupied]
    have hnow : q.sch.clock.minute = s.part.sch.clock.minute + 1 := by rw [hclock, hticks]
    refine ⟨by rw [hfields]; rfl, by rw [hfields]; rfl, by rw [hfields]; rfl, by rw [hfields, hbooked], by rw [hfields, hbooked],
      by rw [hfields, hbooked], by rw [hfields]; rfl, by rw [hfields, hbooked], by rw [hfields]; rfl, by rw [hfields]; rfl,
      fun hcheck => ?_, fun hcheck hquorum => ?_, fun hcheck hquorum => ?_, hfloor⟩
    · rw [Part.openedSession_enters (.inl hcheck)]
      simp [hcheck]
    · rw [Part.openedSession_enters (.inr (by rwa [hoccupied]))]
      simp [hcheck, hnow]
    · rw [Part.openedSession_waits hcheck (by rwa [hoccupied])]
      exact ⟨rfl, rfl⟩
  · rw [hall.published (by simp)]
    exact hactive

section Session

variable (hheld : s.part.isHeld = false) (hsecond : s.part.sch.clock.second = 59) (hstaging : s.part.staging.state ≠ .ready)
  (hset : Settled s.part) (hdue : (s.part.setClock (Part.tick s.part.sch.clock)).dueEntry = none)
  (hsession : s.part.ssu.session = some x) (hpending : s.part.ssu.pendingStart = none) (hdwell : s.part.ssu.params.dwell ≠ 0)
  (hpresent : ∀ i, (s.part.seat i).presence ≠ .away)

include hsecond hstaging hset hdue hsession hdwell hpresent

/-- A minute event in a session without an entry due: SSU's part of it, between the parts of the other blocks. -/
theorem minute_session (first : List ClockUser) :
    ∃ q, SameBut Part.tickedPieces s.part q ∧ Part.SameDay (s.part.setClock (Part.tick s.part.sch.clock)) q ∧
      (∀ k, Part.SlotLater (s.part.slotData k) (q.slotData k)) ∧ q.dueEntry = none ∧ q.ssu.dwell < q.ssu.params.dwell ∧
      SameBut (.dwell :: Part.clockedPieces) (Part.sessionEvent s.part q) (Part.conclude s.part (s.part.secondEvent first)) ∧
      ∀ k, Part.SlotLater ((Part.sessionEvent s.part q).slotData k)
        ((Part.conclude s.part (s.part.secondEvent first)).slotData k) := by
  have hlate : 59 ≤ s.part.sch.clock.second := by omega
  obtain ⟨q, hq, hfinal, -⟩ := Part.secondEvent_session (Part.absencesRun_present hpresent) first
  have hsame := hq.ticked_same hlate (.inl hstaging)
  have hday := hq.ticked_sameDay hlate (.inl hstaging)
  have hslots : ∀ k, Part.SlotLater (s.part.slotData k) (q.slotData k) := fun k => by
    rw [← congrFun ((Part.sameBut_ticked hlate (.inl hstaging)).slotData (by simp)) k]
    exact hq.slots k
  have hqdwell : q.ssu.dwell = s.part.ssu.dwell := hsame .dwell (by simp)
  have hlow : q.ssu.dwell < q.ssu.params.dwell := by
    rw [hqdwell, hsame.params (by simp), Part.dwell_open hset (by simp [hsession])]
    omega
  have hparams : (s.part.secondEvent first).ssu.params = s.part.ssu.params := by simp
  have hconclude := Part.sameBut_conclude_dwell (before := s.part) (after := s.part.secondEvent first)
    (.inr (by rw [hparams]; exact hdwell))
  refine ⟨q, hsame, hday, hslots, hday.dueEntry.trans hdue, hlow,
    (hfinal.same.mono (by simp)).trans (hconclude.mono (by simp)), fun k => ?_⟩
  rw [hconclude.slotData (by simp)]
  exact hfinal.slots k

include hheld hpending

theorem completes_minuteStages (hrunning : Part.runningState x.state = true)
    (hvacancy : s.part.ssu.params.vacancy = 0 ∨ s.part.smn.occupied ≠ 0)
    (hstage : (s.part.setClock (Part.tick s.part.sch.clock)).stageFor x.effEnd ≠ .windup) :
    Completes (.secondEvent first) s fun t =>
      (∃ y ∈ t.ssu.session, y.state = (s.part.setClock (Part.tick s.part.sch.clock)).stageFor x.effEnd) ∧
        t.flc.isOpen = s.part.flc.isOpen := by
  refine completes_onEvent (f := fun p => p.secondEvent first) rfl ?_
  rw [Part.event_unheld hheld]
  obtain ⟨q, hsame, hday, -, hnone, -, hfinal, -⟩ :=
    minute_session hsecond hstaging hset hdue hsession hdwell hpresent first
  have hstaged := hday.stageFor (hsame.params (by simp)) x.effEnd
  obtain ⟨hopened, hbut⟩ := Part.sessionEvent_stages (p := s.part) (q := q) (by omega) ((hsame.session (by simp)).trans hsession) hrunning
    ((hsame.pendingStart (by simp)).trans hpending) (by rwa [hsame.params (by simp), hsame.occupied (by simp)]) hnone (by rwa [hstaged])
  exact ⟨⟨_, (hfinal.session (by simp)).trans hopened, hstaged⟩,
    (hfinal.isOpen (by simp)).trans ((hbut.isOpen (by simp)).trans (hsame.isOpen (by simp)))⟩

theorem completes_minuteEnds (hrunning : Part.runningState x.state = true)
    (hvacancy : s.part.ssu.params.vacancy = 0 ∨ s.part.smn.occupied ≠ 0)
    (hstage : (s.part.setClock (Part.tick s.part.sch.clock)).stageFor x.effEnd = .windup) :
    Completes (.secondEvent first) s fun t =>
      t.flc.isOpen = false ∧ t.flc.queue = [] ∧
        (s.part.allFree = false → ∃ y ∈ t.ssu.session, y.state = .windup ∧ y.reason = some .ended ∧
          (∀ k, (s.part.slot k).state ≠ .free → (t.slot k).state = .closing ∧ (t.slot k).reason = some .floorClosed)) ∧
        (s.part.allFree = true → t.ssu.session = none ∧
          ∃ y ∈ t.ssu.store.getLast?, y.reason = .ended ∧ y.number = s.part.ssu.nextSummary) := by
  refine completes_onEvent (f := fun p => p.secondEvent first) rfl ?_
  rw [Part.event_unheld hheld]
  obtain ⟨q, hsame, hday, hslots, hnone, hlow, hfinal, hlater⟩ :=
    minute_session hsecond hstaging hset hdue hsession hdwell hpresent first
  have hends := Part.sessionEvent_ends (p := s.part) (q := q) (by omega) ((hsame.session (by simp)).trans hsession) hrunning
    ((hsame.pendingStart (by simp)).trans hpending) (by rwa [hsame.params (by simp), hsame.occupied (by simp)]) hnone
    ((hday.stageFor (hsame.params (by simp)) x.effEnd).trans hstage) hlow
  set r := q.setSession (some (q.vacancyCounted x)) with hr
  have hrsession : r.ssu.session = some (q.vacancyCounted x) := rfl
  have hrpending : r.ssu.pendingStart = none := (hsame.pendingStart (by simp)).trans hpending
  have hfree : ∀ k, (r.slot k).state = .free ↔ (s.part.slot k).state = .free := fun k => (hslots k).1
  have hall : r.allFree = s.part.allFree := by
    rw [Bool.eq_iff_iff, Part.allFree_iff, Part.allFree_iff]
    exact forall_congr' hfree
  have hnumber : r.ssu.nextSummary = s.part.ssu.nextSummary := (hsame .store (by simp)).2.2
  obtain ⟨hfloor, hqueue⟩ := Part.windup_floor hrsession hrpending .ended
  obtain ⟨hwaits, hcloses⟩ := Part.windup_session hrsession hrpending .ended
  rw [hends] at hfinal hlater
  refine ⟨(hfinal.isOpen (by simp)).trans hfloor, (hfinal.queue (by simp)).trans hqueue, fun hsome => ?_, fun hfreed => ?_⟩
  · refine ⟨_, (hfinal.session (by simp)).trans (hwaits (hall.trans hsome)), rfl, rfl, fun k hk => ?_⟩
    have hclosed : (r.windup .ended).slotData k = Part.closedFor .floorClosed (r.slotData k) := by
      rw [Part.windup_waits hrsession (hall.trans hsome), Part.enterWindup_data hrsession, Part.floorClosedSlot, if_neg]
      exact fun h => hk ((hfree k).mp h)
    have hstands := (hlater k).2
    rw [hclosed] at hstands
    exact hstands rfl
  · obtain ⟨hsome, hnewest⟩ := hcloses (hall.trans hfreed)
    rw [hnumber] at hnewest
    rw [hfinal.session (by simp), hfinal.store (by simp)]
    exact ⟨hsome, hnewest⟩

theorem completes_minuteAwaits {b : Booking} {w : Nat} (hstate : x.state = .awaiting) (hcopy : x.copy = some b) (hw : b.window = some w) :
    Completes (.secondEvent first) s fun t =>
      ((s.part.setClock (Part.tick s.part.sch.clock)).now < x.effEnd → min (x.await + 1) 30 < w →
        t.ssu.session = some { x with await := min (x.await + 1) 30 }) ∧
      (x.effEnd ≤ (s.part.setClock (Part.tick s.part.sch.clock)).now ∨ w ≤ min (x.await + 1) 30 →
        t.ssu.session = none ∧
        ∃ y ∈ t.ssu.store.getLast?, y.reason = .released ∧ y.number = s.part.ssu.nextSummary ∧ y.booking = x.booking) := by
  refine completes_onEvent (f := fun p => p.secondEvent first) rfl ?_
  rw [Part.event_unheld hheld]
  obtain ⟨q, hsame, hday, -, hnone, hlow, hfinal, -⟩ :=
    minute_session hsecond hstaging hset hdue hsession hdwell hpresent first
  have hqsession := (hsame.session (by simp)).trans hsession
  have hqpending := (hsame.pendingStart (by simp)).trans hpending
  have hnumber : q.ssu.nextSummary = s.part.ssu.nextSummary := (hsame .store (by simp)).2.2
  have hopen : Part.sameSession s.part q = true := by
    simp [Part.sameSession, Part.sessionOpen, hsession, hnumber]
  refine ⟨fun hend hwindow => ?_, fun hgone => ?_⟩
  · have hwaits := Part.sessionEvent_awaits (p := s.part) (q := q) (by omega) hqsession hstate hopen hqpending hnone (by rwa [hday.now])
      fun c hc v hv => by
        obtain rfl := Option.mem_unique hc hcopy
        obtain rfl := Option.mem_unique hv hw
        exact hwindow
    rw [hwaits] at hfinal
    exact hfinal.session (by simp)
  · have hreleases := Part.sessionEvent_releases (p := s.part) (q := q) (by omega) hqsession hstate hopen hqpending hnone hcopy hw
      (by rwa [hday.now]) hlow
    rw [hreleases] at hfinal
    rw [hfinal.session (by simp), hfinal.store (by simp)]
    exact ⟨Part.closeSession_session _ _ _, _, Part.closeSession_newest _ _ _, rfl, hnumber, rfl⟩

end Session

/-- Settles O22: the parts of the other blocks leave what SSU's part of the minute event reads, and leave what it sets. -/
theorem minuteEventsDriveSessions : Obligations.MinuteEventsDriveSessions := by
  unfold Obligations.MinuteEventsDriveSessions
  refine ⟨fun first e m s hrun hclock hbank hfind hfree hend => completes_minuteOpens hrun hclock hbank hfind hfree hend,
    fun first x p graceEnd s hheld ⟨hsecond, hstaging, hp⟩ ⟨hsession, hrunning⟩ hset ⟨hdue, hpending, hdwell⟩
      ⟨hvacancy, hpresent⟩ hgrace => ?_,
    fun first x b w p s hheld ⟨hsecond, hstaging, hp⟩ ⟨hsession, hstate, hcopy, hw⟩ hset ⟨hdue, hpending, hdwell⟩ hpresent =>
      hp ▸ completes_minuteAwaits hheld hsecond hstaging hset (hp ▸ hdue) hsession hpending hdwell hpresent hstate hcopy hw⟩
  subst hp
  have hgrace' : (s.part.setClock (Part.tick s.part.sch.clock)).graceEnd x.effEnd = graceEnd := hgrace.symm
  rw [← hgrace']
  by_cases hlate : (s.part.setClock (Part.tick s.part.sch.clock)).now < x.effEnd ∨
      (s.part.setClock (Part.tick s.part.sch.clock)).now < (s.part.setClock (Part.tick s.part.sch.clock)).graceEnd x.effEnd
  · obtain ⟨hstage, hne⟩ := Part.stageFor_open hlate
    refine (completes_minuteStages hheld hsecond hstaging hset hdue hsession hpending hdwell hpresent hrunning hvacancy hne).mono ?_
    rintro t ⟨⟨y, hy, hstaged⟩, hopen⟩
    rw [hstage] at hstaged
    have hwarning : (s.part.setClock (Part.tick s.part.sch.clock)).ssu.params.warning = s.part.ssu.params.warning := rfl
    rw [hwarning] at hstaged
    refine ⟨fun h => ⟨y, hy, ?_⟩, fun h h' => ⟨y, hy, ?_⟩, fun h _ => ⟨y, hy, ?_⟩, fun _ => hopen, fun h h' => by omega⟩
    · rw [hstaged, if_neg (by omega), if_neg (by omega)]
    · rw [hstaged, if_neg (by omega), if_pos h']
    · rw [hstaged, if_pos h]
  · obtain ⟨hend, hover⟩ := not_or.mp hlate
    have hstage := Part.stageFor_over (Nat.not_lt.mp hend) (Nat.not_lt.mp hover)
    refine (completes_minuteEnds hheld hsecond hstaging hset hdue hsession hpending hdwell hpresent hrunning hvacancy hstage).mono
      fun t ht => ⟨fun h => by omega, fun h => by omega, fun _ h => by omega, fun h => absurd h hlate, fun _ _ => ht⟩

end Sys2Proof.Machine
end

section
/-! What every second event makes of the clock, of the slots' seconds and of the absences, whatever else it brings (R48, R62, R86,
R142). -/

namespace Sys2Proof.Machine

namespace Part

variable {p q t : Part} {i : SeatId} {k : SlotId}

/-! ### The slots through a second (R86) -/

/-- The slots of a part but for closes. -/
def SlotsShut (p t : Part) : Prop := ∀ k, SlotShut (p.slotData k) (t.slotData k)

theorem SlotsShut.refl (p : Part) : SlotsShut p p := fun _ => .refl _

theorem SlotsShut.trans (h : SlotsShut p q) (h' : SlotsShut q t) : SlotsShut p t := fun k => (h k).trans (h' k)

theorem SlotsShut.same (h : t.sgu.slots = p.sgu.slots) : SlotsShut p t := fun k => by
  rw [slotData_of_slots h]
  exact .refl _

theorem SlotsShut.foldl {α : Type} {f : Part → α → Part} (h : ∀ p a, SlotsShut p (f p a)) (p : Part) (l : List α) :
    SlotsShut p (l.foldl f p) :=
  foldl_invariant (P := SlotsShut p) (fun _ _ hq => hq.trans (h _ _)) l p (.refl p)

theorem slotShut_closedFor {x : Slot} (h : isOpenState x.state = true) (r : SlotReason) : SlotShut x (closedFor r x) :=
  ⟨rfl, rfl, rfl, .inr ⟨h, rfl⟩⟩

theorem slotsShut_countAbsence (p : Part) (s : SeatId) : SlotsShut p (p.countAbsence s) := by
  unfold countAbsence
  split
  next haway =>
    set q := p.setSeat s { p.seat s with absence := (p.seat s).absence + 1 } with hq
    have haway' : (q.seat s).presence = .away := by simpa [hq] using haway
    by_cases hgrace : q.smn.grace ≤ (q.seat s).absence
    · rw [absenceExpiry_ends haway' hgrace]
      refine fun k => SlotShut.trans ?_ ((unopened_updateCount (q.presenceChanged s .vacant 0)).slots k)
      have hdata := presenceChanged_slotData q s 0 k
      have hrecounted : (q.presenceChanged s .vacant 0).recounted.slotData k = (q.presenceChanged s .vacant 0).slotData k := rfl
      rw [hrecounted, hdata]
      split
      next h => exact slotShut_closedFor h.2 .absent
      next => exact .refl _
    · rw [absenceExpiry, if_neg fun h => hgrace h.2]
      exact .refl p
  next => exact .refl p

theorem slotsShut_seatSecond (p : Part) : SlotsShut p p.seatSecond :=
  (SlotsShut.same (sameBut_occupiedSecond p .slots (by simp))).trans (SlotsShut.foldl slotsShut_countAbsence _ _)

/-- Beside FLC no block that counts time reaches a slot but to close it, and none reaches the floor second counter. -/
theorem secondFor_slots (before : Part) (minute : Bool) (p : Part) {u : ClockUser} (h : u ≠ .flc) :
    SlotsShut p (secondFor before minute p u) ∧ (secondFor before minute p u).flc.seconds = p.flc.seconds := by
  cases u with
  | flc => exact absurd rfl h
  | smn => exact ⟨slotsShut_seatSecond p, by simp [secondFor]⟩
  | ssu =>
    unfold secondFor
    dsimp only
    split
    · exact ⟨fun k => ((Unopened.refl p).sessionSecond.sessionMinute before).slots k, by simp⟩
    · exact ⟨fun k => ((Unopened.refl p).sessionSecond).slots k, by simp⟩
  | pwu => exact ⟨.same (sameBut_powerSecond p minute .slots (by simp)), by simp [secondFor]⟩

theorem secondFors_slots (before : Part) (minute : Bool) {l : List ClockUser} (h : .flc ∉ l) (p : Part) :
    SlotsShut p (l.foldl (secondFor before minute) p) ∧ (l.foldl (secondFor before minute) p).flc.seconds = p.flc.seconds := by
  refine List.foldlRecOn (motive := fun q => SlotsShut p q ∧ q.flc.seconds = p.flc.seconds) l _ ⟨.refl p, rfl⟩ ?_
  rintro q ⟨hshut, hseconds⟩ u hu
  obtain ⟨hshut', hseconds'⟩ := secondFor_slots before minute q fun h' => h (h' ▸ hu)
  exact ⟨hshut.trans hshut', hseconds'.trans hseconds⟩

theorem evaluated_elapsed (f : Flc) (x : Slot) : (evaluated f x).elapsed = x.elapsed := by
  unfold evaluated
  split <;> rfl

/-- A slot that a second does not close counts it while it is open (R86). -/
theorem floorSecond_elapsed {a d : Slot} (hbefore : SlotShut a (q.slotData k)) (hafter : SlotShut (q.floorSecond.slotData k) d)
    (hstate : d.state = a.state) :
    d.elapsed = if isOpenState a.state = true then min (a.elapsed + 1) 65535 else a.elapsed := by
  obtain ⟨helapsed, -, -, hmid⟩ := hbefore
  obtain ⟨helapsed', -, -, hlast⟩ := hafter
  have hcounted : (q.floorSecond.slotData k).elapsed = (slotCounted (q.slotData k)).elapsed := by
    rw [floorSecond_data]
    split
    · exact evaluated_elapsed _ _
    · rfl
  obtain hsame | ⟨hopen, hclosing⟩ := hmid
  · rw [helapsed', hcounted, slotCounted, hsame, helapsed]
    split
    · rfl
    · exact helapsed
  · have hfloor : q.floorSecond.slotData k = q.slotData k := by
      have hshut : isOpenState (q.slot k).state = false := by
        rw [← slotData_state, hclosing]
        rfl
      rw [floorSecond_data, if_neg (by simp [hshut]), slotCounted, slotData_state, if_neg (by simp [hshut])]
    rw [hfloor] at hlast
    have hdclosing : d.state = .closing := by
      obtain h | h := hlast
      · exact h.trans hclosing
      · exact h.2
    rw [← hstate, hdclosing] at hopen
    simp [isOpenState] at hopen

theorem ticked_clock (p : Part) : p.ticked.sch.clock = tick p.sch.clock := by
  unfold ticked
  (repeat' split) <;> simp

theorem ticked_seconds (p : Part) : p.ticked.flc.seconds = p.flc.seconds := by
  unfold ticked
  (repeat' split) <;> simp

/-- The second event around FLC's part of it. -/
theorem secondEvent_floor (p : Part) (first : List ClockUser) :
    ∃ q, SlotsShut p q ∧ q.flc.seconds = p.flc.seconds ∧ SlotsShut q.floorSecond (p.secondEvent first) ∧
      (p.secondEvent first).flc.seconds = q.floorSecond.flc.seconds := by
  obtain ⟨l, m, hsplit, hl, hm, -⟩ := takenOrder_split first (all := [.flc, .smn, .ssu, .pwu]) (by decide) (a := .flc) (by decide)
  obtain ⟨hshut, hseconds⟩ := secondFors_slots p (decide (59 ≤ p.sch.clock.second)) hl p.ticked
  refine ⟨_, (fun k => ((unopened_ticked p).slots k).trans (hshut k)), hseconds.trans (ticked_seconds p), ?_⟩
  rw [secondEvent_eq, hsplit, List.foldl_append, List.foldl_cons]
  exact secondFors_slots p _ hm _

/-! ### The absences through a second (R48) -/

/-- Presence and absence timer a second later (R48). -/
def aged (grace : Nat) (x : Presence × Nat) : Presence × Nat :=
  if x.1 = .away then (if x.2 + 1 < grace then (.away, x.2 + 1) else (.vacant, 0)) else x

theorem changePresence_absence (p : Part) (i : SeatId) (y : Presence) (n : Nat) (j : SeatId) :
    ((p.changePresence i y n).seat j).absence = if j = i then n else (p.seat j).absence := by
  by_cases hy : y = (p.seat i).presence
  · rw [changePresence_same hy, setSeat_seat]
    split <;> rfl
  · rw [changePresence_eq hy, ((unopened_updateCount _).seats j).2.1]
    have hseat : ((p.presenceChanged i y n).recounted.seat j) = (p.presenceChanged i y n).seat j := rfl
    rw [hseat, presenceChanged_seat]
    split <;> rfl

theorem countAbsence_ages (p : Part) (i j : SeatId) :
    (((p.countAbsence i).seat j).presence, ((p.countAbsence i).seat j).absence) =
      if j = i then aged p.smn.grace ((p.seat j).presence, (p.seat j).absence) else ((p.seat j).presence, (p.seat j).absence) := by
  unfold countAbsence
  split
  next haway =>
    set q := p.setSeat i { p.seat i with absence := (p.seat i).absence + 1 } with hq
    have hseat : ∀ j, q.seat j = if j = i then { p.seat i with absence := (p.seat i).absence + 1 } else p.seat j := fun j =>
      setSeat_seat p i j _
    have haway' : (q.seat i).presence = .away := by rw [hseat, if_pos rfl]; exact haway
    have htimer : (q.seat i).absence = (p.seat i).absence + 1 := by rw [hseat, if_pos rfl]
    by_cases hgrace : (p.seat i).absence + 1 < p.smn.grace
    · rw [absenceExpiry, if_neg fun h => by have := h.2; rw [htimer] at this; exact absurd hgrace (Nat.not_lt.mpr this), hseat]
      by_cases hj : j = i
      · subst hj
        simp [aged, haway, hgrace]
      · simp [hj]
    · rw [absenceExpiry, if_pos ⟨haway', by rw [htimer]; exact Nat.not_lt.mp hgrace⟩, changePresence_presence, changePresence_absence]
      by_cases hj : j = i
      · subst hj
        simp [aged, haway, hgrace]
      · simp [hj, hseat]
  next hpresent =>
    by_cases hj : j = i
    · subst hj
      simp [aged, hpresent]
    · simp [hj]

theorem countAbsence_grace (p : Part) (i : SeatId) : (p.countAbsence i).smn.grace = p.smn.grace := by simp

theorem seatSecond_ages (p : Part) (j : SeatId) :
    ((p.seatSecond.seat j).presence, (p.seatSecond.seat j).absence) = aged p.smn.grace ((p.seat j).presence, (p.seat j).absence) := by
  have hoccupied : ((p.occupiedSecond.seat j).presence, (p.occupiedSecond.seat j).absence) = ((p.seat j).presence, (p.seat j).absence) := by
    rw [occupiedSecond_seat]
    split
    · obtain ⟨hpresence, habsence⟩ := occupiedCounted_presence (p.seat j)
      rw [hpresence, habsence]
    · rfl
  have hgrace : p.occupiedSecond.smn.grace = p.smn.grace := sameBut_occupiedSecond p .grace (by simp)
  have hfold := foldl_each (get := fun (q : Part) j => ((q.seat j).presence, (q.seat j).absence)) (f := countAbsence) (g := aged p.smn.grace)
    (P := fun q => q.smn.grace = p.smn.grace) (fun q i hq => (countAbsence_grace q i).trans hq)
    (fun q i j hq => by rw [countAbsence_ages, hq]) (List.nodup_finRange 20) (p := p.occupiedSecond) hgrace j
  rw [seatSecond_eq, hfold, if_pos (List.mem_finRange j), hoccupied]

/-- Beside SMN no block that counts time reaches a presence. -/
theorem secondFor_presences (before : Part) (minute : Bool) (p : Part) {u : ClockUser} (h : u ≠ .smn) :
    PresencesKept p (secondFor before minute p u) := by
  cases u with
  | flc => exact presencesKept_floorSecond p
  | smn => exact absurd rfl h
  | ssu =>
    unfold secondFor
    dsimp only
    split
    · exact ((Unopened.refl p).sessionSecond.sessionMinute before).presences
    · exact ((Unopened.refl p).sessionSecond).presences
  | pwu => exact presencesKept_powerSecond p minute

theorem secondFors_presences (before : Part) (minute : Bool) {l : List ClockUser} (h : .smn ∉ l) (p : Part) :
    PresencesKept p (l.foldl (secondFor before minute) p) := by
  refine List.foldlRecOn (motive := PresencesKept p) l _ (.refl p) fun q hq u hu => ?_
  exact hq.trans (secondFor_presences before minute q fun h' => h (h' ▸ hu))

theorem secondEvent_ages (p : Part) (first : List ClockUser) (j : SeatId) :
    (((p.secondEvent first).seat j).presence, ((p.secondEvent first).seat j).absence) =
      aged p.smn.grace ((p.seat j).presence, (p.seat j).absence) := by
  obtain ⟨l, m, hsplit, hl, hm, -⟩ := takenOrder_split first (all := [.flc, .smn, .ssu, .pwu]) (by decide) (a := .smn) (by decide)
  set sf := secondFor p (decide (59 ≤ p.sch.clock.second)) with hsf
  obtain ⟨hpresence, habsence⟩ := ((unopened_ticked p).presences.trans
    (secondFors_presences p (decide (59 ≤ p.sch.clock.second)) hl p.ticked)) j
  have hgrace : (l.foldl sf p.ticked).smn.grace = p.smn.grace :=
    (foldl_keeps (fun q => q.smn.grace) (fun q u => by simp [hsf]) l p.ticked).trans (ticked_grace p)
  obtain ⟨hpresence', habsence'⟩ := secondFors_presences p (decide (59 ≤ p.sch.clock.second)) hm (l.foldl sf p.ticked).seatSecond j
  have hevent : p.secondEvent first = m.foldl sf (l.foldl sf p.ticked).seatSecond := by
    rw [secondEvent_eq, hsplit, List.foldl_append, List.foldl_cons]
    rfl
  rw [hevent, hpresence', habsence', seatSecond_ages, hgrace, hpresence, habsence]

end Part

end Sys2Proof.Machine
end

section
/-! A second of a session and of the standby that brings neither a minute nor the end of a grace (R59, R69, R86, R87, R168, R170,
R199). -/

namespace Sys2Proof.Machine

namespace Part

variable {p q t : Part} {i : SeatId} {k : SlotId} {x : Session}

/-! ### The close of an OVER slot leaves the open order (R69, R87) -/

theorem evaluate_order (p : Part) (k : SlotId) : (p.evaluate k).flc.openOrder ⊆ p.flc.openOrder := by
  have hwarned : ∀ m, (p.setWarned k m).flc.openOrder = p.flc.openOrder := fun m => by simp [setWarned]
  rw [evaluate_eq]
  split
  · split
    · rw [← hwarned (warnedMark p.flc (p.slot k).elapsed)]
      cases hopen : isOpenState (((p.setWarned k (warnedMark p.flc (p.slot k).elapsed))).slot k).state with
      | true =>
        rw [close_openOrder hopen]
        exact fun j hj => List.mem_of_mem_filter hj
      | false =>
        rw [close_closed hopen]
        exact List.Subset.refl _
    · rw [hwarned]
      exact List.Subset.refl _
  · exact List.Subset.refl _

theorem evaluate_gone (hopen : isOpenState (p.slot k).state = true)
    (hover : warnedMark p.flc (p.slot k).elapsed = .over ∧ p.flc.enforce = true) : k ∉ (p.evaluate k).flc.openOrder := by
  have hdata := setWarned_data p k (warnedMark p.flc (p.slot k).elapsed) k
  rw [if_pos rfl] at hdata
  have hopen' : isOpenState ((p.setWarned k (warnedMark p.flc (p.slot k).elapsed)).slot k).state = true := by
    rw [← slotData_state, hdata]
    exact hopen
  rw [evaluate_eq, if_pos hopen, if_pos hover, close_openOrder hopen']
  simp

theorem evaluates_order (l : List SlotId) (p : Part) : (l.foldl evaluate p).flc.openOrder ⊆ p.flc.openOrder :=
  foldl_invariant (P := fun q => q.flc.openOrder ⊆ p.flc.openOrder) (fun q k hq => List.Subset.trans (evaluate_order q k) hq) l p
    (List.Subset.refl _)

theorem warnedMark_congr {f g : Flc} (hspeak : f.speak = g.speak) (hlead : f.lead = g.lead) : warnedMark f = warnedMark g := by
  cases f
  cases g
  cases hspeak
  cases hlead
  rfl

theorem evaluateAll_gone (hk : k ≠ 0) (hopen : isOpenState (p.slot k).state = true)
    (hover : warnedMark p.flc (p.slot k).elapsed = .over ∧ p.flc.enforce = true) : k ∉ p.evaluateAll.flc.openOrder := by
  obtain ⟨before, after, hsplit⟩ := List.append_of_mem (mem_delegateSlots hk)
  have hnodup : delegateSlots.Nodup := by decide
  rw [hsplit, List.nodup_middle, List.nodup_cons, List.mem_append, not_or] at hnodup
  obtain ⟨⟨hbefore, -⟩, -⟩ := hnodup
  have hmid : (before.foldl evaluate p).slotData k = p.slotData k ∧ (before.foldl evaluate p).flc.speak = p.flc.speak ∧
      (before.foldl evaluate p).flc.enforce = p.flc.enforce ∧ (before.foldl evaluate p).flc.lead = p.flc.lead := by
    refine List.foldlRecOn (motive := fun q : Part => q.slotData k = p.slotData k ∧ q.flc.speak = p.flc.speak ∧
      q.flc.enforce = p.flc.enforce ∧ q.flc.lead = p.flc.lead) before _ ⟨rfl, rfl, rfl, rfl⟩ ?_
    rintro q ⟨hdata, hspeak, henforce, hlead⟩ j hj
    refine ⟨?_, by simpa using hspeak, by simpa using henforce, by simpa using hlead⟩
    have hne : k ≠ j := fun h => hbefore (h ▸ hj)
    rw [evaluate_data, if_neg hne, hdata]
  have hevent : p.evaluateAll = after.foldl evaluate ((before.foldl evaluate p).evaluate k) := by
    rw [evaluateAll, hsplit, List.foldl_append, List.foldl_cons]
  rw [hevent]
  generalize before.foldl evaluate p = q at hmid
  obtain ⟨hdata, hspeak, henforce, hlead⟩ := hmid
  have hstate : (q.slot k).state = (p.slot k).state := state_of_data hdata
  have helapsed : (q.slot k).elapsed = (p.slot k).elapsed := by rw [← slotData_elapsed, hdata, slotData_elapsed]
  have hover' : warnedMark q.flc (q.slot k).elapsed = .over ∧ q.flc.enforce = true := by
    rw [helapsed, warnedMark_congr hspeak hlead, henforce]
    exact hover
  have hopen' : isOpenState (q.slot k).state = true := by
    rw [hstate]
    exact hopen
  have hgone := evaluate_gone hopen' hover'
  exact fun hmem => hgone (evaluates_order after _ hmem)

/-! ### A second that is no minute event -/

theorem ticked_second (h : p.sch.clock.second < 59) : p.ticked = p.setClock (tick p.sch.clock) := by
  simp [ticked, Nat.not_le.mpr h]

theorem sameBut_setClock (p : Part) (c : Clock) : SameBut [.clock] p (p.setClock c) := by
  intro b hb
  cases b <;> simp_all [Piece.Same]

theorem powerSecond_stays (h : p.standbyPasses = false) : p.powerSecond false = p.countQuiet := by
  have hstands : p.countQuiet.standbyPasses = p.standbyPasses := by
    have hnext : p.countQuiet.nextStart = p.nextStart := nextStart_of_sch (by simp)
    simp [standbyPasses, sessionOpen, hnext]
  rw [powerSecond_eq, if_neg (by simp), standbyTest, hstands, h]
  simp

/-- A session whose vacancy does not end it at the next second (R168). -/
def VacancyRuns (p : Part) (x : Session) : Prop :=
  runningState x.state = false ∨ p.smn.occupied ≠ 0 ∨ p.ssu.params.vacancy = 0 ∨ x.vacancy + 1 < p.ssu.params.vacancy * 60

/-- What SMN, SSU and PWU make of a second of a session that goes on, a list of them without FLC. -/
theorem seconds_open (before : Part) {l : List ClockUser} (hl : l.Nodup) (hflc : .flc ∉ l) (hruns : .smn ∈ l → AbsencesRun p)
    (hopen : p.ssu.session ≠ none) (hvacancy : .ssu ∈ l → ∃ x, p.ssu.session = some x ∧ VacancyRuns p x) :
    SameBut [.seats, .session, .quiet] p (l.foldl (secondFor before false) p) ∧
      (l.foldl (secondFor before false) p).ssu.session ≠ none ∧
      (.ssu ∉ l → (l.foldl (secondFor before false) p).ssu.session = p.ssu.session) ∧
      ∀ i, (l.foldl (secondFor before false) p).seat i = if .smn ∈ l then seatCounted true (p.seat i) else p.seat i := by
  induction l generalizing p with
  | nil => exact ⟨.refl _ _, hopen, fun _ => rfl, fun i => by simp⟩
  | cons u l ih =>
    obtain ⟨hu, hl⟩ := List.nodup_cons.mp hl
    obtain ⟨hne, hflc⟩ := not_or.mp (List.mem_cons.not.mp hflc)
    have hsome : p.sessionOpen = true := Option.isSome_iff_ne_none.mpr hopen
    have hstep : SameBut [.seats, .session, .quiet] p (secondFor before false p u) ∧
        (secondFor before false p u).ssu.session ≠ none ∧
        (u ≠ .ssu → (secondFor before false p u).ssu.session = p.ssu.session) ∧
        ∀ i, (secondFor before false p u).seat i = if u = .smn then seatCounted true (p.seat i) else p.seat i := by
      cases u with
      | flc => exact absurd rfl hne
      | smn =>
        obtain ⟨hsame, hseats⟩ := seatSecond_runs (hruns (by simp))
        have hevent : secondFor before false p .smn = p.seatSecond := rfl
        rw [hevent]
        have hkept := hsame.session (by simp)
        refine ⟨hsame.mono (by simp), by rwa [hkept], fun _ => hkept, fun i => ?_⟩
        rw [hseats, hsome, if_pos rfl]
      | ssu =>
        obtain ⟨x, hx, hstays⟩ := hvacancy (by simp)
        have hevent : secondFor before false p .ssu = p.setSession (some (p.vacancyCounted x)) := by
          refine sessionSecond_stays hx ?_
          obtain h | h | h | h := hstays
          · exact .inl h
          · exact .inr (.inl h)
          · exact .inr (.inr (.inl h))
          · exact .inr (.inr (.inr (by omega)))
        rw [hevent]
        refine ⟨(sameBut_setSession p _).mono (by simp), by simp, fun h => absurd rfl h, fun i => ?_⟩
        rw [if_neg (by simp)]
        rfl
      | pwu =>
        obtain ⟨x, hx⟩ := Option.ne_none_iff_exists'.mp hopen
        have hevent : secondFor before false p .pwu = p.countQuiet := powerSecond_stays (notPassing_open hx)
        have hsame := sameBut_countQuiet p
        have hkept := hsame.session (by simp)
        rw [hevent]
        refine ⟨hsame.mono (by simp), by rwa [hkept], fun _ => hkept, fun i => ?_⟩
        rw [if_neg (by simp), hsame.seat (by simp)]
    obtain ⟨hsame, hstill, hsession, hseats⟩ := hstep
    have hparams := hsame.params (by simp)
    have hoccupied := hsame.occupied (by simp)
    have hgrace : (secondFor before false p u).smn.grace = p.smn.grace := hsame .grace (by simp)
    obtain ⟨hrest, hlast, hkept, hseats'⟩ := ih (p := secondFor before false p u) hl hflc
      (fun hmem => by
        have husmn : u ≠ .smn := fun h => hu (h ▸ hmem)
        refine (hruns (by simp [hmem])).kept (fun i => ?_) hgrace
        rw [hseats, if_neg husmn]
        exact ⟨rfl, rfl⟩)
      hstill
      (fun hmem => by
        obtain ⟨x, hx, hstays⟩ := hvacancy (by simp [hmem])
        refine ⟨x, (hsession fun h => hu (h ▸ hmem)).trans hx, ?_⟩
        unfold VacancyRuns
        rwa [hparams, hoccupied])
    refine ⟨hsame.trans hrest, hlast, fun hmem => ?_, fun i => ?_⟩
    · obtain ⟨hussu, hmem⟩ := not_or.mp (List.mem_cons.not.mp hmem)
      exact (hkept hmem).trans (hsession (Ne.symm hussu))
    · rw [List.foldl_cons, hseats', hseats]
      by_cases husmn : u = .smn
      · subst husmn
        simp [hu]
      · simp [husmn, Ne.symm husmn]

end Part

end Sys2Proof.Machine
end

section
/-! The clauses of the second event: the clock, the absences and the counts of an open session (R48, R59, R69, R86, R87, R142). -/

namespace Sys2Proof.Machine

namespace Part

variable {p q t : Part} {i : SeatId} {k : SlotId} {x : Session}

/-- The occupied seconds of a seat a second later (R59). -/
def occupiedNext (x : Seat) : Nat :=
  if x.presence = .occupied ∨ x.presence = .away then min (x.counters.occupied + 1) 16777215 else x.counters.occupied

theorem seatCounted_counters (x : Seat) : (seatCounted true x).counters = { x.counters with occupied := occupiedNext x } := by
  have haged : ∀ y : Seat, (absenceCounted y).counters = y.counters := fun y => by
    unfold absenceCounted
    split <;> rfl
  rw [seatCounted, haged, if_pos rfl, occupiedCounted, occupiedNext]
  simp only [counted, Bool.or_eq_true, decide_eq_true_eq]
  split <;> rfl

theorem SpeakingOnly.presence {a b : Seat} (h : SpeakingOnly a b) : b.presence = a.presence := by
  unfold SpeakingOnly at h
  rw [h]

/-- A second of an open session that goes on, around FLC's part of it. -/
theorem secondEvent_open (hsecond : p.sch.clock.second < 59) (hsession : p.ssu.session = some x) (hvacancy : VacancyRuns p x)
    (hruns : AbsencesRun p) (first : List ClockUser) :
    ∃ q, SameBut [.clock, .seats, .session, .quiet] p q ∧ q.sessionOpen = true ∧
      SameBut [.seats, .session, .quiet] q.floorSecond (p.secondEvent first) ∧ (p.secondEvent first).ssu.session ≠ none ∧
      ∀ i, (q.seat i).counters.speaking = (p.seat i).counters.speaking ∧
        ((p.secondEvent first).seat i).counters = { (p.seat i).counters with
          occupied := occupiedNext (p.seat i), speaking := (q.floorSecond.seat i).counters.speaking } := by
  obtain ⟨l, m, hsplit, hl, hm, hnodup⟩ := takenOrder_split first (all := [.flc, .smn, .ssu, .pwu]) (by decide) (a := .flc) (by decide)
  obtain ⟨hnl, hnm, hdisjoint⟩ := List.nodup_append.mp hnodup
  have hclock := sameBut_setClock p (tick p.sch.clock)
  have hmem : ∀ u : ClockUser, u ≠ .flc → (u ∈ l ∧ u ∉ m) ∨ (u ∉ l ∧ u ∈ m) := fun u hu => by
    have hall : u ∈ takenOrder first [ClockUser.flc, .smn, .ssu, .pwu] := mem_takenOrder.mpr (by cases u <;> simp)
    rw [hsplit] at hall
    by_cases hul : u ∈ l
    · exact .inl ⟨hul, fun hum => hdisjoint u hul u hum rfl⟩
    · exact .inr ⟨hul, by simpa [hul, hu] using hall⟩
  have hevent : p.secondEvent first = m.foldl (secondFor p false)
      (l.foldl (secondFor p false) (p.setClock (tick p.sch.clock))).floorSecond := by
    rw [secondEvent_eq, hsplit, ticked_second hsecond, decide_eq_false (by omega), List.foldl_append, List.foldl_cons]
    rfl
  obtain ⟨hsame, hopen, hkept, hseats⟩ := seconds_open (p := p.setClock (tick p.sch.clock)) p hnl hl (fun _ => hruns)
    (by simp [hsession]) fun _ => ⟨x, hsession, hvacancy⟩
  set q := l.foldl (secondFor p false) (p.setClock (tick p.sch.clock)) with hq
  have hpq : SameBut [.clock, .seats, .session, .quiet] p q := (hclock.mono (by simp)).trans (hsame.mono (by simp))
  have hfloor := sameBut_floorSecond q
  have hfsession := hfloor.session (by simp)
  obtain ⟨hsame', hopen', -, hseats'⟩ := seconds_open (p := q.floorSecond) p hnm hm
    (fun hmem' => by
      have hsmn : .smn ∉ l := fun h => hdisjoint _ h _ hmem' rfl
      have hgrace : q.floorSecond.smn.grace = p.smn.grace := by
        have h1 : q.smn.grace = p.smn.grace := hpq .grace (by simp)
        have h2 : q.floorSecond.smn.grace = q.smn.grace := hfloor .grace (by simp)
        exact h2.trans h1
      refine hruns.kept (PresencesKept.trans (fun j => ?_) (presencesKept_floorSecond q)) hgrace
      rw [hseats, if_neg hsmn]
      exact ⟨rfl, rfl⟩)
    (by rwa [hfsession])
    (fun hmem' => by
      have hssu : .ssu ∉ l := fun h => hdisjoint _ h _ hmem' rfl
      refine ⟨x, hfsession.trans ((hkept hssu).trans hsession), ?_⟩
      unfold VacancyRuns
      rwa [hfloor.params (by simp), hfloor.occupied (by simp), hpq.params (by simp), hpq.occupied (by simp)])
  refine ⟨q, hpq, Option.isSome_iff_ne_none.mpr hopen, hevent ▸ hsame', hevent ▸ hopen', fun j => ?_⟩
  rw [hevent, hseats']
  have hspoken := floorSecond_speaking q j
  generalize q.floorSecond.seat j = y at hspoken
  have hcounters : y.counters = { (q.seat j).counters with speaking := y.counters.speaking } := congrArg Seat.counters hspoken
  have hpresence : y.presence = (q.seat j).presence := hspoken.presence
  obtain ⟨hin, hout⟩ | ⟨hout, hin⟩ := hmem .smn (by simp)
  · have hseat : q.seat j = seatCounted true (p.seat j) := by
      rw [hseats, if_pos hin]
      rfl
    rw [hseat, seatCounted_counters] at hcounters
    rw [if_neg hout, hseat, seatCounted_counters]
    exact ⟨rfl, hcounters⟩
  · have hseat : q.seat j = p.seat j := by
      rw [hseats, if_neg hout]
      rfl
    rw [hseat] at hcounters hpresence
    have hoccupied : occupiedNext y = occupiedNext (p.seat j) := by
      rw [occupiedNext, occupiedNext, hpresence, hcounters]
    rw [if_pos hin, seatCounted_counters, hoccupied, hseat]
    refine ⟨rfl, ?_⟩
    rw [hcounters]

/-- The mark of a slot a second later (R87). -/
theorem warnedMark_lead (f : Flc) (n : Nat) :
    warnedMark f n = if f.speak = 0 then .none else if f.speak ≤ n then .over
      else if f.speak ≤ n + min f.lead (f.speak / 2) then .warn else .none := by
  simp only [warnedMark, effectiveLead, Nat.sub_le_iff_le_add]

theorem slotCounted_open {x : Slot} (hopen : isOpenState x.state = true) :
    (slotCounted x).elapsed = min (x.elapsed + 1) 65535 := by
  rw [slotCounted, if_pos hopen]

theorem slotCounted_warned (x : Slot) : (slotCounted x).warned = x.warned := by
  unfold slotCounted
  split <;> rfl

theorem evaluated_goes {f : Flc} {x : Slot} (h : warnedMark f x.elapsed = .over ∧ f.enforce = true) :
    (evaluated f x).state = .closing ∧ (evaluated f x).reason = some .time := by
  rw [evaluated, if_pos h]
  exact ⟨rfl, rfl⟩

theorem evaluated_stays {f : Flc} {x : Slot} (h : ¬(warnedMark f x.elapsed = .over ∧ f.enforce = true)) :
    (evaluated f x).state = x.state := by
  rw [evaluated, if_neg h]
  rfl

theorem slotsCounted_slot (p : Part) (k : SlotId) :
    (p.slotsCounted.slot k).state = (p.slot k).state ∧
      (p.slotsCounted.slot k).elapsed = (slotCounted (p.slotData k)).elapsed := by
  rw [← slotsCounted_data, slotData_elapsed, ← slotData_state p.slotsCounted, slotsCounted_data, slotCounted_state, slotData_state]
  exact ⟨rfl, rfl⟩

/-- The evaluation of a second takes an open slot whose time is over out of the open order (R87). -/
theorem floorSecond_gone (hk : k ≠ 0) (hopen : isOpenState (p.slot k).state = true)
    (hover : warnedMark p.flc (slotCounted (p.slotData k)).elapsed = .over ∧ p.flc.enforce = true) :
    k ∉ p.floorSecond.flc.openOrder := by
  have hsame := sameBut_slotsCounted p
  have hspeak : p.slotsCounted.flc.speak = p.flc.speak ∧ p.slotsCounted.flc.enforce = p.flc.enforce := hsame .floorSpeak (by simp)
  have hlead : p.slotsCounted.flc.lead = p.flc.lead := hsame .floorLead (by simp)
  obtain ⟨hstate, helapsed⟩ := slotsCounted_slot p k
  have hopen' : isOpenState (p.slotsCounted.slot k).state = true := hstate.symm ▸ hopen
  rw [floorSecond_eq]
  refine evaluateAll_gone hk hopen' ?_
  rw [warnedMark_congr hspeak.1 hlead, hspeak.2, helapsed]
  exact hover

/-- An open delegate slot through FLC's second (R86, R87). -/
theorem floorSecond_open (hk : k ≠ 0) (hopen : isOpenState (p.slot k).state = true) :
    (p.floorSecond.slot k).elapsed = min ((p.slot k).elapsed + 1) 65535 ∧
      (p.floorSecond.slot k).warned = (if p.flc.speak = 0 then .none else if p.flc.speak ≤ (p.floorSecond.slot k).elapsed then .over
        else if p.flc.speak ≤ (p.floorSecond.slot k).elapsed + min p.flc.lead (p.flc.speak / 2) then .warn else .none) ∧
      if p.flc.speak ≠ 0 ∧ p.flc.speak ≤ (p.floorSecond.slot k).elapsed ∧ p.flc.enforce = true then
        (p.floorSecond.slot k).state = .closing ∧ (p.floorSecond.slot k).reason = some .time ∧ k ∉ p.floorSecond.flc.openOrder
      else (p.floorSecond.slot k).state = (p.slot k).state := by
  have hdata : p.floorSecond.slotData k = evaluated p.flc (slotCounted (p.slotData k)) := by
    rw [floorSecond_data, if_pos ⟨hk, hopen⟩]
  have hcounted : (slotCounted (p.slotData k)).elapsed = min ((p.slot k).elapsed + 1) 65535 := by
    rw [slotCounted_open (by rwa [slotData_state]), slotData_elapsed]
  have helapsed : (p.floorSecond.slot k).elapsed = min ((p.slot k).elapsed + 1) 65535 := by
    rw [← slotData_elapsed, hdata, evaluated_elapsed, hcounted]
  have hwarned : (p.floorSecond.slot k).warned = warnedMark p.flc (p.floorSecond.slot k).elapsed := by
    rw [helapsed, ← slotData_warned, hdata, evaluated_warned, hcounted]
  have hover : warnedMark p.flc (slotCounted (p.slotData k)).elapsed = .over ∧ p.flc.enforce = true ↔
      p.flc.speak ≠ 0 ∧ p.flc.speak ≤ (p.floorSecond.slot k).elapsed ∧ p.flc.enforce = true := by
    rw [hcounted, warnedMark_over, helapsed, and_assoc]
  refine ⟨helapsed, by rw [hwarned, warnedMark_lead], ?_⟩
  split
  next h =>
    have hgone := hover.mpr h
    obtain ⟨hstate, hreason⟩ := evaluated_goes hgone
    refine ⟨by rw [← slotData_state, hdata, hstate], by rw [← slotData_reason, hdata, hreason], floorSecond_gone hk hopen hgone⟩
  next h =>
    rw [← slotData_state, hdata, evaluated_stays fun hc => h (hover.mp hc), slotCounted_state, slotData_state]

/-- The chair slot through FLC's second: no evaluation reaches it (R87). -/
theorem floorSecond_chair (p : Part) :
    (p.floorSecond.slot 0).warned = (p.slot 0).warned ∧ (p.floorSecond.slot 0).state = (p.slot 0).state := by
  have hdata : p.floorSecond.slotData 0 = slotCounted (p.slotData 0) := by rw [floorSecond_data, if_neg (by simp)]
  constructor
  · rw [← slotData_warned, hdata, slotCounted_warned, slotData_warned]
  · rw [← slotData_state, hdata, slotCounted_state, slotData_state]

end Part

variable {s : State} {x : Session} {first : List ClockUser}

theorem tick_fields (c : Clock) :
    (Part.tick c).valid = c.valid ∧ (Part.tick c).second = (if 59 ≤ c.second then 0 else c.second + 1) ∧
      (Part.tick c).minute = (if c.second < 59 then c.minute else if 1439 ≤ c.minute then 0 else c.minute + 1) ∧
      (Part.tick c).day = (if 59 ≤ c.second ∧ 1439 ≤ c.minute then (c.day + 1) % 65536 else c.day) := by
  by_cases hsecond : c.second < 59
  · simp [Part.tick, hsecond, Nat.not_le.mpr hsecond]
  · by_cases hminute : c.minute < 1439
    · simp [Part.tick, hsecond, hminute, Nat.not_lt.mp hsecond, Nat.not_le.mpr hminute]
    · simp [Part.tick, hsecond, hminute, Nat.not_lt.mp hsecond, Nat.not_lt.mp hminute]

theorem completes_secondMoves (hheld : s.part.isHeld = false) :
    Completes (.secondEvent first) s fun t =>
      t.sch.clock.valid = s.part.sch.clock.valid ∧
      t.sch.clock.second = (if 59 ≤ s.part.sch.clock.second then 0 else s.part.sch.clock.second + 1) ∧
      t.sch.clock.minute =
        (if s.part.sch.clock.second < 59 then s.part.sch.clock.minute
        else if 1439 ≤ s.part.sch.clock.minute then 0 else s.part.sch.clock.minute + 1) ∧
      t.sch.clock.day =
        (if 59 ≤ s.part.sch.clock.second ∧ 1439 ≤ s.part.sch.clock.minute then (s.part.sch.clock.day + 1) % 65536
        else s.part.sch.clock.day) ∧
      t.flc.seconds = s.part.flc.seconds + 1 ∧
      (∀ k : SlotId, (t.slot k).state = (s.part.slot k).state → (t.slot k).elapsed =
        if Part.isOpenState (s.part.slot k).state then min ((s.part.slot k).elapsed + 1) 65535
        else (s.part.slot k).elapsed) := by
  refine completes_onEvent (f := fun p => p.secondEvent first) rfl ?_
  rw [Part.event_unheld hheld]
  have hclock : (Part.conclude s.part (s.part.secondEvent first)).sch.clock = Part.tick s.part.sch.clock :=
    ((Part.marked_secondEvent s.part first).conclude s.part).clock.trans (Part.ticked_clock _)
  obtain ⟨hvalid, hsecond, hminute, hday⟩ := tick_fields s.part.sch.clock
  obtain ⟨q, hbefore, hcount, hafter, hkept⟩ := Part.secondEvent_floor s.part first
  rw [hclock]
  refine ⟨hvalid, hsecond, hminute, hday, ?_, fun k hstate => ?_⟩
  · have hconclude : (Part.conclude s.part (s.part.secondEvent first)).flc.seconds = (s.part.secondEvent first).flc.seconds := by simp
    rw [hconclude, hkept, Part.floorSecond_seconds, hcount]
  · have hend := ((Unopened.refl (s.part.secondEvent first)).conclude s.part).slots k
    exact Part.floorSecond_elapsed (hbefore k) ((hafter k).trans hend) hstate

theorem completes_secondAges (hheld : s.part.isHeld = false) :
    Completes (.secondEvent first) s fun t =>
      (∀ i, (s.part.seat i).presence = .away →
        if (s.part.seat i).absence + 1 < s.part.smn.grace then
          (t.seat i).presence = .away ∧ (t.seat i).absence = (s.part.seat i).absence + 1
        else (t.seat i).presence = .vacant ∧ (t.seat i).absence = 0) ∧
      (∀ i, (s.part.seat i).presence ≠ .away →
        (t.seat i).presence = (s.part.seat i).presence ∧ (t.seat i).absence = (s.part.seat i).absence) := by
  refine completes_onEvent (f := fun p => p.secondEvent first) rfl ?_
  rw [Part.event_unheld hheld]
  have hages : ∀ i, (((Part.conclude s.part (s.part.secondEvent first)).seat i).presence,
      ((Part.conclude s.part (s.part.secondEvent first)).seat i).absence) =
      Part.aged s.part.smn.grace ((s.part.seat i).presence, (s.part.seat i).absence) := fun i => by
    obtain ⟨hpresence, habsence⟩ := ((Unopened.refl (s.part.secondEvent first)).conclude s.part).presences i
    rw [hpresence, habsence, Part.secondEvent_ages]
  refine ⟨fun i haway => ?_, fun i hpresent => ?_⟩
  · have h := hages i
    simp only [Part.aged, haway, if_true] at h
    split at h
    next hlow =>
      rw [if_pos hlow]
      exact Prod.mk.inj h
    next hfull =>
      rw [if_neg hfull]
      exact Prod.mk.inj h
  · have h := hages i
    simp only [Part.aged, hpresent, if_false] at h
    exact Prod.mk.inj h

theorem completes_secondCounts {lead : Nat} (hheld : s.part.isHeld = false) (hsecond : s.part.sch.clock.second < 59)
    (hsession : s.part.ssu.session = some x) (hvacancy : Part.VacancyRuns s.part x) (hruns : Part.AbsencesRun s.part)
    (hlead : lead = min s.part.flc.lead (s.part.flc.speak / 2)) :
    Completes (.secondEvent first) s fun t =>
      (∀ i, (t.seat i).counters = { (s.part.seat i).counters with
        occupied := (if (s.part.seat i).presence = .occupied ∨ (s.part.seat i).presence = .away then
          min ((s.part.seat i).counters.occupied + 1) 16777215 else (s.part.seat i).counters.occupied)
        speaking := (t.seat i).counters.speaking }) ∧
      (∀ i, (∀ k, Part.isOpenState (s.part.slot k).state = true → (s.part.slot k).holder ≠ some i) →
        (t.seat i).counters.speaking = (s.part.seat i).counters.speaking) ∧
      (∀ i k, Part.isOpenState (s.part.slot k).state = true → (s.part.slot k).holder = some i →
        (∀ j, j ≠ k → Part.isOpenState (s.part.slot j).state = true → (s.part.slot j).holder ≠ some i) →
        (t.seat i).counters.speaking = min ((s.part.seat i).counters.speaking + 1) 16777215) ∧
      (∀ k, k ≠ 0 → Part.isOpenState (s.part.slot k).state = true →
        (t.slot k).elapsed = min ((s.part.slot k).elapsed + 1) 65535 ∧
        (t.slot k).warned = (if s.part.flc.speak = 0 then .none
          else if s.part.flc.speak ≤ (t.slot k).elapsed then .over
          else if s.part.flc.speak ≤ (t.slot k).elapsed + lead then .warn else .none) ∧
        if s.part.flc.speak ≠ 0 ∧ s.part.flc.speak ≤ (t.slot k).elapsed ∧ s.part.flc.enforce = true then
          (t.slot k).state = .closing ∧ (t.slot k).reason = some .time ∧ k ∉ t.flc.openOrder
        else (t.slot k).state = (s.part.slot k).state) ∧
      (t.slot 0).warned = (s.part.slot 0).warned ∧ (t.slot 0).state = (s.part.slot 0).state := by
  subst hlead
  refine completes_onEvent (f := fun p => p.secondEvent first) rfl ?_
  rw [Part.event_unheld hheld]
  obtain ⟨q, hq, hopen, hafter, hstill, hseats⟩ := Part.secondEvent_open hsecond hsession hvacancy hruns first
  obtain ⟨y, hy⟩ := Option.ne_none_iff_exists'.mp hstill
  have hend : SameBut [.dwell, .screens, .notices, .seats, .session, .quiet] q.floorSecond
      (Part.conclude s.part (s.part.secondEvent first)) :=
    (hafter.mono (by simp)).trans ((Part.sameBut_conclude_dwell (.inl (Part.walkInReady_open hy))).mono (by simp))
  have hcounters : ∀ i, ((Part.conclude s.part (s.part.secondEvent first)).seat i).counters =
      ((s.part.secondEvent first).seat i).counters := fun i => by
    rw [(Part.sameBut_conclude_dwell (before := s.part) (.inl (Part.walkInReady_open hy))).seat (by simp)]
  generalize Part.conclude s.part (s.part.secondEvent first) = t at hend hcounters
  have hslot := hq.slot (by simp)
  have hdata := hq.slotData (by simp)
  have hflc : q.flc.speak = s.part.flc.speak ∧ q.flc.enforce = s.part.flc.enforce := hq .floorSpeak (by simp)
  have hqlead : q.flc.lead = s.part.flc.lead := hq .floorLead (by simp)
  have hcounted : ∀ i, (t.seat i).counters = { (s.part.seat i).counters with
      occupied := Part.occupiedNext (s.part.seat i), speaking := (q.floorSecond.seat i).counters.speaking } := fun i => by
    rw [hcounters, (hseats i).2]
  refine ⟨fun i => ?_, fun i hsilent => ?_, fun i k hk hholder hothers => ?_, fun k hk hk' => ?_, ?_⟩
  · have hspeaking : (t.seat i).counters.speaking = (q.floorSecond.seat i).counters.speaking := by rw [hcounted i]
    rw [hspeaking]
    exact hcounted i
  · rw [hcounted i, Part.floorSecond_silent (by rwa [hslot]), (hseats i).1]
  · rw [hcounted i, Part.floorSecond_speaks (by rwa [hslot]) (by rwa [hslot]) (by rwa [hslot]) hopen, (hseats i).1]
  · have hfields := Part.floorSecond_open (p := q) hk (by rwa [hslot])
    rw [hslot, hflc.1, hflc.2, hqlead] at hfields
    rw [hend.slot (by simp), hend.openOrder (by simp)]
    exact hfields
  · have hfields := Part.floorSecond_chair q
    rw [hslot] at hfields
    rw [hend.slot (by simp)]
    exact hfields

end Sys2Proof.Machine
end

section
/-! The clauses of the second event: the vacancy timer and the quiet timer (R168, R199). -/

namespace Sys2Proof.Machine

theorem SameBut.pwu {bs : List Piece} {p t : Part} (h : SameBut bs p t)
    (hbs : ∀ b ∈ [Piece.power, .quiet, .settle, .wakeSettings], b ∉ bs) : t.pwu = p.pwu := by
  have hpower : t.pwu.power = p.pwu.power := h .power (hbs _ (by simp))
  have hquiet : t.pwu.quiet = p.pwu.quiet := h .quiet (hbs _ (by simp))
  have hsettle : t.pwu.settle = p.pwu.settle := h .settle (hbs _ (by simp))
  obtain ⟨hlead, hdelay, hmask, hwake⟩ : t.pwu.lead = p.pwu.lead ∧ _ ∧ _ ∧ _ := h .wakeSettings (hbs _ (by simp))
  generalize t.pwu = a at *
  generalize p.pwu = b at *
  cases a
  cases b
  simp_all

namespace Part

variable {p q t : Part} {x : Session}

/-! ### SSU's part of a second that is no minute event (R163, R168) -/

theorem tick_day (c : Clock) (h : c.second < 59) : tick c = { c with second := c.second + 1 } := by simp [tick, h]

/-- A second later within a minute the next start is the same. -/
theorem nextStart_second (h : p.sch.clock.second < 59) : (p.setClock (tick p.sch.clock)).nextStart = p.nextStart := by
  rw [tick_day _ h]
  rfl

theorem allFree_later (h : ∀ k, SlotLater (p.slotData k) (q.slotData k)) : q.allFree = p.allFree := by
  rw [Bool.eq_iff_iff, allFree_iff, allFree_iff]
  exact forall_congr' fun k => (h k).1

theorem walkInReady_empty (h : p.smn.occupied = 0) : p.walkInReady = false := by
  cases hready : p.walkInReady with
  | false => rfl
  | true =>
    simp only [walkInReady, h, Bool.and_eq_true, decide_eq_true_eq] at hready
    omega

/-- A second of a session that its vacancy ends. -/
theorem sessionSecond_vacates (hsession : p.ssu.session = some x) (hrunning : runningState x.state = true) (hempty : p.smn.occupied = 0)
    (hvacancy : p.ssu.params.vacancy ≠ 0 ∧ p.ssu.params.vacancy * 60 ≤ min (x.vacancy + 1) 3600) :
    p.sessionSecond = (p.setSession (some (p.vacancyCounted x))).windup .vacated := by
  have hcounted : p.vacancyCounted x = { x with vacancy := min (x.vacancy + 1) 3600 } := if_pos ⟨hrunning, hempty⟩
  have hcount : p.countVacancy = (p.setSession (some (p.vacancyCounted x))).windup .vacated := by
    rw [hcounted]
    simp only [countVacancy, hsession]
    rw [if_pos ⟨hrunning, hempty⟩]
    exact vacancyTest_ends (x := { x with vacancy := min (x.vacancy + 1) 3600 }) rfl hrunning hvacancy
  have hunready : ((p.setSession (some (p.vacancyCounted x))).windup .vacated).walkInReady = false :=
    walkInReady_empty (by simpa using hempty)
  rw [sessionSecond, hcount, countDwell_unready hunready]

/-! ### PWU's part of a second that is no minute event (R199) -/

/-- What a second leaves that PWU's part of it reads, and leaves standing of it. -/
structure PowerKept (p t : Part) : Prop where
  pwu : t.pwu = p.pwu
  sockets : t.scu.sockets = p.scu.sockets
  occupied : t.smn.occupied = p.smn.occupied
  grace : t.smn.grace = p.smn.grace
  override : t.rtu.override = p.rtu.override

namespace PowerKept

theorem refl (p : Part) : PowerKept p p := ⟨rfl, rfl, rfl, rfl, rfl⟩

theorem trans (h : PowerKept p q) (h' : PowerKept q t) : PowerKept p t :=
  ⟨h'.pwu.trans h.pwu, h'.sockets.trans h.sockets, h'.occupied.trans h.occupied, h'.grace.trans h.grace, h'.override.trans h.override⟩

theorem floorSecond (p : Part) : PowerKept p p.floorSecond := ⟨by simp, by simp, by simp, by simp, by simp⟩

theorem sessionSecond (p : Part) : PowerKept p p.sessionSecond := ⟨by simp, by simp, by simp, by simp, by simp⟩

theorem seatSecond (h : AbsencesRun p) : PowerKept p p.seatSecond := by
  have hsame := (seatSecond_runs h).1
  exact ⟨hsame.pwu (by decide), hsame .sockets (by simp), hsame.occupied (by simp), hsame .grace (by simp), hsame .override (by simp)⟩

end PowerKept

/-- With a seat occupied and the quiet timer short of the standby delay PWU's part of a second changes nothing. -/
theorem powerSecond_occupied (h : p.smn.occupied ≠ 0 ∧ p.pwu.quiet < p.pwu.delay * 60) : p.powerSecond false = p := by
  obtain ⟨hoccupied, hlow⟩ := h
  have hcount : p.countQuiet = p := by simp [countQuiet, hoccupied]
  have hquiet : p.quietReached = false := by simpa [quietReached] using hlow
  rw [powerSecond_eq, if_neg (by simp), hcount, standbyTest, hquiet]
  simp

/-- What FLC, SMN and SSU, and PWU while it is not quiet, make of a second that is no minute event. -/
theorem seconds_unpowered (before : Part) {l : List ClockUser} (hl : l.Nodup) (hruns : .smn ∈ l → AbsencesRun p)
    (hidle : .pwu ∈ l → p.smn.occupied ≠ 0 ∧ p.pwu.quiet < p.pwu.delay * 60) :
    PowerKept p (l.foldl (secondFor before false) p) ∧
      (.smn ∉ l → PresencesKept p (l.foldl (secondFor before false) p)) ∧
      (p.ssu.session = none → p.walkInReady = false → SameBut clockedPieces p (l.foldl (secondFor before false) p)) := by
  induction l generalizing p with
  | nil => exact ⟨.refl p, fun _ => .refl p, fun _ _ => .refl _ _⟩
  | cons u l ih =>
    obtain ⟨hu, hl⟩ := List.nodup_cons.mp hl
    have hstep : PowerKept p (secondFor before false p u) ∧ (u ≠ .smn → PresencesKept p (secondFor before false p u)) ∧
        (p.ssu.session = none → p.walkInReady = false → SameBut clockedPieces p (secondFor before false p u)) := by
      cases u with
      | flc => exact ⟨.floorSecond p, fun _ => presencesKept_floorSecond p, fun _ _ => (sameBut_floorSecond p).mono (by simp)⟩
      | smn =>
        exact ⟨.seatSecond (hruns (by simp)), fun h => absurd rfl h, fun _ _ => (seatSecond_runs (hruns (by simp))).1.mono (by simp)⟩
      | ssu =>
        have hevent : secondFor before false p .ssu = p.sessionSecond := rfl
        rw [hevent]
        refine ⟨.sessionSecond p, fun _ => (Unopened.refl p).sessionSecond.presences, fun hsession hready => ?_⟩
        rw [sessionSecond_none hsession hready]
        exact .refl _ _
      | pwu =>
        have hevent : secondFor before false p .pwu = p := powerSecond_occupied (hidle (by simp))
        rw [hevent]
        exact ⟨.refl p, fun _ => .refl p, fun _ _ => .refl _ _⟩
    obtain ⟨hkept, hpresences, hsame⟩ := hstep
    obtain ⟨hrest, hlast, hsame'⟩ := ih (p := secondFor before false p u) hl
      (fun hmem => (hruns (by simp [hmem])).kept (hpresences fun h => hu (h ▸ hmem)) hkept.grace)
      (fun hmem => by
        rw [hkept.occupied, hkept.pwu]
        exact hidle (by simp [hmem]))
    refine ⟨hkept.trans hrest, fun hmem => ?_, fun hsession hready => ?_⟩
    · obtain ⟨hsmn, hmem⟩ := not_or.mp (List.mem_cons.not.mp hmem)
      exact (hpresences (Ne.symm hsmn)).trans (hlast hmem)
    · have hbut := hsame hsession hready
      have hstill := walkInReady_of_session (hbut.session (by simp)) (hbut.pendingStart (by simp)) (hbut.params (by simp))
        (hbut.occupied (by simp))
      exact hbut.trans (hsame' ((hbut.session (by simp)).trans hsession) (hstill.trans hready))

/-- A second event around PWU's part of it. -/
theorem secondEvent_power (hsecond : p.sch.clock.second < 59) (hruns : AbsencesRun p) (first : List ClockUser) :
    ∃ q, PowerKept p q ∧ PowerKept (q.powerSecond false) (p.secondEvent first) ∧
      (p.ssu.session = none → p.walkInReady = false →
        SameBut clockedPieces (p.setClock (tick p.sch.clock)) q) := by
  obtain ⟨l, m, hsplit, hl, hm, hnodup⟩ := takenOrder_split first (all := [.flc, .smn, .ssu, .pwu]) (by decide) (a := .pwu) (by decide)
  obtain ⟨hnl, hnm, hdisjoint⟩ := List.nodup_append.mp hnodup
  have hevent : p.secondEvent first = m.foldl (secondFor p false)
      ((l.foldl (secondFor p false) (p.setClock (tick p.sch.clock))).powerSecond false) := by
    rw [secondEvent_eq, hsplit, ticked_second hsecond, decide_eq_false (by omega), List.foldl_append, List.foldl_cons]
    rfl
  obtain ⟨hkept, hpresences, hsame⟩ := seconds_unpowered (p := p.setClock (tick p.sch.clock)) p hnl (fun _ => hruns) fun h => absurd h hl
  set q := l.foldl (secondFor p false) (p.setClock (tick p.sch.clock)) with hq
  have hpower := sameBut_powerSecond q false
  have hgrace : (q.powerSecond false).smn.grace = p.smn.grace := by
    have h : (q.powerSecond false).smn.grace = q.smn.grace := hpower .grace (by simp)
    exact h.trans hkept.grace
  obtain ⟨hrest, -⟩ := seconds_unpowered (p := q.powerSecond false) p hnm
    (fun hmem => hruns.kept ((hpresences fun h => hdisjoint _ h _ hmem rfl).trans (presencesKept_powerSecond q false)) hgrace)
    fun h => absurd h hm
  rw [hevent]
  exact ⟨q, ⟨hkept.pwu, hkept.sockets, hkept.occupied, hkept.grace, hkept.override⟩, hrest, hsame⟩

/-- A second event around SSU's part of it. -/
theorem secondEvent_sessionSecond (hsecond : p.sch.clock.second < 59) (hruns : AbsencesRun p) (first : List ClockUser) :
    ∃ q, SameBut (.clock :: clockedPieces) p q ∧ SameDay (p.setClock (tick p.sch.clock)) q ∧
      (∀ k, SlotLater (p.slotData k) (q.slotData k)) ∧ Clocked q.sessionSecond (p.secondEvent first) ∧
      (p.smn.occupied ≠ 0 ∧ p.pwu.quiet < p.pwu.delay * 60 → q.pwu = p.pwu) := by
  obtain ⟨q, hq, hfinal, -, -, l, hl, -, heq⟩ := secondEvent_session hruns first
  rw [ticked_second hsecond] at hq heq
  rw [decide_eq_false (by omega)] at heq
  have hevent : sessionEvent p q = q.sessionSecond := by simp [sessionEvent, secondFor, Nat.not_le.mpr hsecond]
  rw [hevent] at hfinal
  refine ⟨q, ((sameBut_setClock p _).mono (by simp)).trans (hq.same.mono (by simp)), hq.sameDay, hq.slots, hfinal, fun hidle => ?_⟩
  rw [heq]
  exact (seconds_unpowered (p := p.setClock (tick p.sch.clock)) p hl (fun _ => hruns) fun _ => hidle).1.pwu

/-- The quiet timer a second later (R199). -/
def quietNext (p : Part) : Nat :=
  if p.smn.occupied = 0 ∧ p.anySocketLive = false then min (p.pwu.quiet + 1) (p.pwu.delay * 60) else p.pwu.quiet

theorem countQuiet_pwu (p : Part) : p.countQuiet.pwu = { p.pwu with quiet := p.quietNext } := by
  unfold countQuiet quietNext
  split <;> rfl

theorem standbyEntry_quiet (p : Part) : p.standbyEntry.pwu.quiet = p.pwu.quiet :=
  sameBut_standbyEntry p .quiet (by simp)

theorem powerSecond_quiet (p : Part) : (p.powerSecond false).pwu.quiet = p.quietNext := by
  have hcount : p.countQuiet.pwu.quiet = p.quietNext := by rw [countQuiet_pwu]
  rw [powerSecond_eq, if_neg (by simp), standbyTest]
  split
  · rw [standbyEntry_quiet, hcount]
  · exact hcount

/-- Short of the standby delay PWU's part of a second leaves the power state. -/
theorem powerSecond_early (h : p.pwu.quiet + 1 < p.pwu.delay * 60) : (p.powerSecond false).pwu.power = p.pwu.power := by
  have hlow : p.countQuiet.quietReached = false := by
    simp only [quietReached, countQuiet_pwu, quietNext, decide_eq_false_iff_not]
    split <;> omega
  rw [powerSecond_eq, if_neg (by simp), standbyTest, hlow, if_neg (by simp), countQuiet_pwu]

theorem powerSecond_enters (hactive : p.pwu.power = .active) (hempty : p.smn.occupied = 0 ∧ p.anySocketLive = false)
    (hquiet : p.pwu.delay * 60 ≤ p.pwu.quiet + 1) (hsession : p.ssu.session = none) (hpending : p.ssu.pendingStart = none)
    (hnext : p.nextStart = 1440 ∨ p.sch.clock.minute + p.pwu.lead < p.nextStart) :
    p.powerSecond false = p.countQuiet.standbyEntry := by
  have hfull : p.countQuiet.pwu.delay * 60 ≤ p.countQuiet.pwu.quiet := by
    simp only [countQuiet_pwu, quietNext, if_pos hempty]
    omega
  have hstill : p.countQuiet.nextStart = p.nextStart := nextStart_of_sch (by simp)
  rw [powerSecond_eq, if_neg (by simp)]
  exact standbyTest_passes (by simpa using hactive) hfull (by simpa using hsession) (by simpa using hpending) (by simpa [hstill] using hnext)

end Part

variable {s : State} {x : Session} {first : List ClockUser} {v : Nat}

section Second

variable (hheld : s.part.isHeld = false) (hsecond : s.part.sch.clock.second < 59) (hruns : Part.AbsencesRun s.part)

include hheld hsecond hruns

theorem completes_secondVacancy (hsession : s.part.ssu.session = some x)
    (hpending : s.part.ssu.pendingStart = none) (hdwell : s.part.ssu.params.dwell ≠ 0) (hv : v = min (x.vacancy + 1) 3600) :
    Completes (.secondEvent first) s fun t =>
      (Part.runningState x.state = false ∨ s.part.smn.occupied ≠ 0 → t.ssu.session = some x) ∧
      (Part.runningState x.state = true → s.part.smn.occupied = 0 →
        (s.part.ssu.params.vacancy = 0 ∨ v < s.part.ssu.params.vacancy * 60) →
        t.ssu.session = some { x with vacancy := v }) ∧
      (Part.runningState x.state = true → s.part.smn.occupied = 0 →
        s.part.ssu.params.vacancy ≠ 0 → s.part.ssu.params.vacancy * 60 ≤ v →
        t.flc.isOpen = false ∧ t.flc.queue = [] ∧
        (s.part.allFree = false →
          t.ssu.session = some { x with vacancy := v, state := .windup, reason := some .vacated }) ∧
        (s.part.allFree = true → t.ssu.session = none ∧
          ∃ y ∈ t.ssu.store.getLast?, y.reason = .vacated ∧ y.number = s.part.ssu.nextSummary)) := by
  subst hv
  refine completes_onEvent (f := fun p => p.secondEvent first) rfl ?_
  rw [Part.event_unheld hheld]
  obtain ⟨q, hsame, -, hslots, hfinal, -⟩ := Part.secondEvent_sessionSecond hsecond hruns first
  have hparams : (s.part.secondEvent first).ssu.params = s.part.ssu.params := by simp
  have hconclude := Part.sameBut_conclude_dwell (before := s.part) (after := s.part.secondEvent first)
    (.inr (by rw [hparams]; exact hdwell))
  have hall : SameBut (.dwell :: Part.clockedPieces) q.sessionSecond (Part.conclude s.part (s.part.secondEvent first)) :=
    (hfinal.same.mono (by simp)).trans (hconclude.mono (by simp))
  have hqsession := (hsame.session (by simp)).trans hsession
  have hoccupied := hsame.occupied (by simp)
  have hqparams := hsame.params (by simp)
  have hcounts : Part.runningState x.state = true → s.part.smn.occupied = 0 →
      q.vacancyCounted x = { x with vacancy := min (x.vacancy + 1) 3600 } := fun hrunning hempty =>
    if_pos ⟨hrunning, hoccupied.trans hempty⟩
  rw [hall.session (by simp), hall.isOpen (by simp), hall.queue (by simp), hall.store (by simp)]
  refine ⟨fun hstands => ?_, fun hrunning hempty hlow => ?_, fun hrunning hempty hne hfull => ?_⟩
  · rw [Part.sessionSecond_stays hqsession (by rw [hoccupied]; exact hstands.imp_right .inl)]
    refine congrArg some (if_neg fun hc => ?_)
    obtain h | h := hstands
    · simp [h] at hc
    · exact h (hoccupied.symm.trans hc.2)
  · rw [Part.sessionSecond_stays hqsession (by rw [hqparams]; exact .inr (.inr hlow))]
    exact congrArg some (hcounts hrunning hempty)
  · have hvacates := Part.sessionSecond_vacates hqsession hrunning (hoccupied.trans hempty) (by rw [hqparams]; exact ⟨hne, hfull⟩)
    rw [hvacates, hcounts hrunning hempty]
    have hrpending : (q.setSession (some { x with vacancy := min (x.vacancy + 1) 3600 })).ssu.pendingStart = none :=
      (hsame.pendingStart (by simp)).trans hpending
    obtain ⟨hopen, hqueue⟩ := Part.windup_floor (x := { x with vacancy := min (x.vacancy + 1) 3600 }) rfl hrpending .vacated
    obtain ⟨hwaits, hcloses⟩ := Part.windup_session (x := { x with vacancy := min (x.vacancy + 1) 3600 }) rfl hrpending .vacated
    have hfree : (q.setSession (some { x with vacancy := min (x.vacancy + 1) 3600 })).allFree = s.part.allFree :=
      Part.allFree_later hslots
    have hnumber : q.ssu.nextSummary = s.part.ssu.nextSummary := (hsame .store (by simp)).2.2
    rw [hfree] at hwaits hcloses
    exact ⟨hopen, hqueue, hwaits, fun h => hnumber ▸ hcloses h⟩

theorem completes_secondQuiet :
    Completes (.secondEvent first) s fun t =>
      t.pwu.quiet = (if s.part.smn.occupied = 0 ∧ s.part.anySocketLive = false then
        min (s.part.pwu.quiet + 1) (s.part.pwu.delay * 60) else s.part.pwu.quiet) ∧
      (s.part.pwu.quiet + 1 < s.part.pwu.delay * 60 → t.pwu.power = s.part.pwu.power) ∧
      (s.part.smn.occupied = 0 → s.part.anySocketLive = false → s.part.pwu.power = .active →
        s.part.pwu.delay * 60 ≤ s.part.pwu.quiet + 1 → s.part.ssu.session = none →
        (s.part.ssu.pendingStart = none ∧
            (s.part.nextStart = 1440 ∨ s.part.sch.clock.minute + s.part.pwu.lead < s.part.nextStart) →
          t.pwu.power = .standby ∧ t.rtu.override = true) ∧
        (s.part.ssu.pendingStart ≠ none ∨
            (s.part.nextStart ≠ 1440 ∧ s.part.nextStart ≤ s.part.sch.clock.minute + s.part.pwu.lead) →
          t.pwu.power = .active)) := by
  refine completes_onEvent (f := fun p => p.secondEvent first) rfl ?_
  rw [Part.event_unheld hheld]
  obtain ⟨q, hq, hfinal, hidle⟩ := Part.secondEvent_power hsecond hruns first
  have hlive : q.anySocketLive = s.part.anySocketLive := by
    simp only [Part.anySocketLive, Part.socket, hq.sockets]
  have hpwu : (Part.conclude s.part (s.part.secondEvent first)).pwu = (q.powerSecond false).pwu := by
    have h : (Part.conclude s.part (s.part.secondEvent first)).pwu = (s.part.secondEvent first).pwu := by simp
    exact h.trans hfinal.pwu
  have hoverride : (Part.conclude s.part (s.part.secondEvent first)).rtu.override = (q.powerSecond false).rtu.override := by
    have h : (Part.conclude s.part (s.part.secondEvent first)).rtu.override = (s.part.secondEvent first).rtu.override := by simp
    exact h.trans hfinal.override
  rw [hpwu, hoverride]
  refine ⟨?_, fun hlow => ?_, fun hempty hsockets hactive hfull hsession => ?_⟩
  · rw [Part.powerSecond_quiet, Part.quietNext, hq.occupied, hlive, hq.pwu]
  · rw [Part.powerSecond_early (by rw [hq.pwu]; exact hlow), hq.pwu]
  · have hsame := hidle hsession (Part.walkInReady_empty hempty)
    have hqsession : q.ssu.session = none := (hsame.session (by simp)).trans hsession
    have hqpending : q.ssu.pendingStart = s.part.ssu.pendingStart := hsame.pendingStart (by simp)
    have hnext : q.nextStart = s.part.nextStart :=
      ((Part.SameDay.refl _).sameBut hsame (by simp) (by simp)).nextStart.trans (Part.nextStart_second hsecond)
    have hminute : q.sch.clock.minute = s.part.sch.clock.minute := by
      rw [hsame.clock (by simp), Part.tick_day _ hsecond]
      rfl
    refine ⟨fun ⟨hpending, hcoming⟩ => ?_, fun hwait => ?_⟩
    · rw [Part.powerSecond_enters (by rw [hq.pwu]; exact hactive) (by rw [hq.occupied, hlive]; exact ⟨hempty, hsockets⟩)
        (by rw [hq.pwu]; exact hfull) hqsession (hqpending.trans hpending) (by rw [hnext, hminute, hq.pwu]; exact hcoming)]
      exact ⟨Part.standbyEntry_power _, Part.standbyEntry_override _⟩
    · have hblocked : q.standbyPasses = false := by
        simp only [Part.standbyPasses, hqpending, hnext, hminute, hq.pwu]
        obtain hsome | ⟨hne, hnear⟩ := hwait
        · simp [Option.isNone_iff_eq_none, hsome]
        · simp [hne, hnear]
      rw [Part.powerSecond_stays hblocked, Part.countQuiet_pwu, hq.pwu]
      exact hactive

end Second

end Sys2Proof.Machine
end

section
/-! Settling O21: the second event (R48, R59, R69, R86, R87, R142, R168, R170, R199). -/

namespace Sys2Proof.Machine

namespace Part

variable {p q t : Part} {x : Session}

/-! ### The walk-in dwell of a second (R170) -/

theorem walkInReady_iff (hsession : p.ssu.session = none) :
    p.walkInReady = true ↔
      p.ssu.pendingStart = none ∧ p.ssu.params.quorum ≠ 0 ∧ p.ssu.params.quorum ≤ p.smn.occupied := by
  simp [walkInReady, sessionOpen, hsession, and_assoc]

theorem sessionSecond_dwell (hsession : p.ssu.session = none) : p.sessionSecond = p.countDwell := by
  have hcount : p.countVacancy = p := by simp [countVacancy, hsession]
  rw [sessionSecond, hcount]

/-- The part with a second of walk-in dwell more. -/
def dwellCounted (p : Part) : Part := p.withSsu { p.ssu with dwell := p.ssu.dwell + 1 }

theorem dwellCounted_ready (h : p.walkInReady = true) : p.dwellCounted.walkInReady = true := h

theorem countDwell_full (h : p.ssu.params.dwell ≤ p.ssu.dwell) : p.countDwell = p := by
  rw [countDwell, if_neg fun hc => by omega]

theorem countDwell_counts (hready : p.walkInReady = true) (h : p.ssu.dwell + 1 < p.ssu.params.dwell) :
    p.countDwell = p.dwellCounted := by
  have hne : p.dwellCounted.ssu.dwell ≠ p.dwellCounted.ssu.params.dwell := Nat.ne_of_lt h
  rw [countDwell, if_pos ⟨hready, by omega⟩]
  exact if_neg hne

theorem countDwell_tests (hready : p.walkInReady = true) (h : p.ssu.dwell + 1 = p.ssu.params.dwell) :
    p.countDwell = p.dwellCounted.walkInTest := by
  have heq : p.dwellCounted.ssu.dwell = p.dwellCounted.ssu.params.dwell := h
  rw [countDwell, if_pos ⟨hready, by omega⟩]
  exact if_pos heq

theorem walkInTest_blocked (h : p.walkInPasses = false) : p.walkInTest = p := by simp [walkInTest, h]

theorem walkInPasses_iff (p : Part) :
    p.walkInPasses = true ↔ (p.nextStart = 1440 ∨ (p.sch.clock.minute < p.nextStart ∧
      p.sch.clock.minute + p.ssu.params.minFree ≤ p.nextStart)) ∧ p.pwu.power = .active := by
  simp [walkInPasses]

/-- An event in which the conditions of the dwell stand leaves the dwell timer and the session. -/
theorem conclude_ready (hp : p.walkInReady = true) (hq : q.walkInReady = true) (h : Clocked q t) :
    (conclude p t).ssu.dwell = q.ssu.dwell ∧ (conclude p t).ssu.session = q.ssu.session := by
  have hready : t.walkInReady = true :=
    (walkInReady_of_session (h.same.session (by simp)) (h.same.pendingStart (by simp)) (h.same.params (by simp))
      (h.same.occupied (by simp))).trans hq
  have hdwell : (conclude p t).ssu = t.ssu := by
    rw [conclude, concludeDwell_dwelling ⟨.inl hready, .inr (.inr (.inl hp))⟩]
    simp [concludeRouting]
  rw [hdwell]
  exact ⟨h.same .dwell (by simp), h.same.session (by simp)⟩

end Part

variable {s : State} {first : List ClockUser}

theorem completes_secondDwell (hheld : s.part.isHeld = false) (hsecond : s.part.sch.clock.second < 59)
    (hsession : s.part.ssu.session = none) (hruns : Part.AbsencesRun s.part) (hquiet : s.part.pwu.quiet < s.part.pwu.delay * 60) :
    Completes (.secondEvent first) s fun t =>
      ((s.part.ssu.pendingStart ≠ none ∨ s.part.ssu.params.quorum = 0 ∨ s.part.smn.occupied < s.part.ssu.params.quorum) →
        t.ssu.dwell = 0 ∧ t.ssu.session = none) ∧
      (s.part.ssu.pendingStart = none → s.part.ssu.params.quorum ≠ 0 → s.part.ssu.params.quorum ≤ s.part.smn.occupied →
        (s.part.ssu.params.dwell ≤ s.part.ssu.dwell → t.ssu.dwell = s.part.ssu.dwell ∧ t.ssu.session = none) ∧
        (s.part.ssu.dwell + 1 < s.part.ssu.params.dwell →
          t.ssu.dwell = s.part.ssu.dwell + 1 ∧ t.ssu.session = none) ∧
        (s.part.ssu.dwell + 1 = s.part.ssu.params.dwell →
          ((s.part.nextStart = 1440 ∨ (s.part.sch.clock.minute < s.part.nextStart ∧
              s.part.sch.clock.minute + s.part.ssu.params.minFree ≤ s.part.nextStart)) ∧ s.part.pwu.power = .active →
            s.part.ssu.params.warning < s.part.ssu.params.length →
            s.part.sch.clock.minute + s.part.ssu.params.length ≤ s.part.nextStart →
            t.ssu.dwell = 0 ∧ ∃ y ∈ t.ssu.session, y.kind = .walkIn ∧ y.state = .inSession) ∧
          ((s.part.nextStart ≠ 1440 ∧ (s.part.nextStart ≤ s.part.sch.clock.minute ∨
              s.part.nextStart < s.part.sch.clock.minute + s.part.ssu.params.minFree)) ∨ s.part.pwu.power ≠ .active →
            t.ssu.dwell = s.part.ssu.dwell + 1 ∧ t.ssu.session = none))) := by
  refine completes_onEvent (f := fun p => p.secondEvent first) rfl ?_
  rw [Part.event_unheld hheld]
  obtain ⟨q, hsame, hday, -, hfinal, hpwu⟩ := Part.secondEvent_sessionSecond hsecond hruns first
  have hqsession : q.ssu.session = none := (hsame.session (by simp)).trans hsession
  have hready : q.walkInReady = s.part.walkInReady := Part.walkInReady_of_session (hsame.session (by simp)) (hsame.pendingStart (by simp))
    (hsame.params (by simp)) (hsame.occupied (by simp))
  have hdwell : q.ssu.dwell = s.part.ssu.dwell := hsame .dwell (by simp)
  have hparams := hsame.params (by simp)
  rw [Part.sessionSecond_dwell hqsession] at hfinal
  generalize s.part.secondEvent first = f at hfinal ⊢
  refine ⟨fun hunready => ?_, fun hpending hquorum hoccupied => ?_⟩
  · have hunready' : s.part.walkInReady = false := by
      rw [Bool.eq_false_iff, ne_eq, Part.walkInReady_iff hsession]
      rintro ⟨hnone, hne, hle⟩
      obtain h | h | h := hunready
      · exact h hnone
      · exact hne h
      · omega
    have hq := hready.trans hunready'
    rw [Part.countDwell_unready hq] at hfinal
    have hf : f.walkInReady = false := (Part.walkInReady_of_session (hfinal.same.session (by simp)) (hfinal.same.pendingStart (by simp))
      (hfinal.same.params (by simp)) (hfinal.same.occupied (by simp))).trans hq
    exact ⟨Part.conclude_dwell hf,
      ((Part.sameBut_conclude_dwell (.inl hf)).session (by simp)).trans ((hfinal.same.session (by simp)).trans hqsession)⟩
  · have hp : s.part.walkInReady = true := (Part.walkInReady_iff hsession).mpr ⟨hpending, hquorum, hoccupied⟩
    have hq := hready.trans hp
    have hpower := hpwu ⟨by omega, hquiet⟩
    have hcounted : ∀ {r : Part}, Part.Clocked r f → r = q.dwellCounted →
        (Part.conclude s.part f).ssu.dwell = s.part.ssu.dwell + 1 ∧ (Part.conclude s.part f).ssu.session = none := by
      rintro r hr rfl
      obtain ⟨hd, hs⟩ := Part.conclude_ready hp (Part.dwellCounted_ready hq) hr
      exact ⟨hd.trans (congrArg (· + 1) hdwell), hs.trans hqsession⟩
    rw [← hparams, ← hdwell]
    refine ⟨fun hfull => ?_, fun hlow => ?_, fun htest => ?_⟩
    · rw [Part.countDwell_full hfull] at hfinal
      obtain ⟨hd, hs⟩ := Part.conclude_ready hp hq hfinal
      exact ⟨hd, hs.trans hqsession⟩
    · rw [hdwell]
      exact hcounted hfinal (Part.countDwell_counts hq hlow)
    · rw [Part.countDwell_tests hq htest] at hfinal
      have hnext : q.dwellCounted.nextStart = s.part.nextStart :=
        (Part.SameDay.of_sch rfl).nextStart.trans (hday.nextStart.trans (Part.nextStart_second hsecond))
      have hminute : q.dwellCounted.sch.clock.minute = s.part.sch.clock.minute := by
        have h : q.dwellCounted.sch.clock = q.sch.clock := rfl
        rw [h, hday.clock, Part.tick_day _ hsecond]
        rfl
      have hpasses := Part.walkInPasses_iff q.dwellCounted
      have hpower' : q.dwellCounted.pwu = s.part.pwu := hpower
      have hparams' : q.dwellCounted.ssu.params = q.ssu.params := rfl
      rw [hnext, hminute, hpower', hparams'] at hpasses
      refine ⟨fun hopens hwarning hlength => ?_, fun hblocked => ?_⟩
      · obtain ⟨-, hstage⟩ := Part.walkIn_stage (p := q.dwellCounted) hwarning (by rw [hnext, hminute]; exact hlength)
        obtain ⟨htests, hopened, -⟩ := Part.walkIn_opens (Part.dwellCounted_ready hq) (hpasses.mpr hopens) hstage
        rw [htests] at hfinal
        have hfsession := (hfinal.same.session (by simp)).trans hopened
        have hf := Part.walkInReady_open hfsession
        exact ⟨Part.conclude_dwell hf, _, ((Part.sameBut_conclude_dwell (.inl hf)).session (by simp)).trans hfsession, rfl, rfl⟩
      · rw [hdwell]
        refine hcounted hfinal (Part.walkInTest_blocked ?_)
        rw [Bool.eq_false_iff, ne_eq, hpasses]
        rintro ⟨hfree, hactive⟩
        obtain ⟨hne, hnear⟩ | h := hblocked
        · obtain h | h := hfree
          · exact hne h
          · omega
        · exact h hactive

/-- Settles O21: each count of a second stands in the part of one block, and the parts of the others leave it. -/
theorem secondEventCounts : Obligations.SecondEventCounts := by
  unfold Obligations.SecondEventCounts
  exact ⟨fun _ _ hheld => completes_secondMoves hheld, fun _ _ hheld => completes_secondAges hheld,
    fun _ _ _ _ ⟨hheld, hsecond⟩ ⟨hsession, hvacancy⟩ hruns hlead => completes_secondCounts hheld hsecond hsession hvacancy hruns hlead,
    fun _ _ _ _ ⟨hheld, hsecond⟩ hsession hruns ⟨hpending, hdwell⟩ hv =>
      completes_secondVacancy hheld hsecond hruns hsession hpending hdwell hv,
    fun _ _ ⟨hheld, hsecond⟩ hsession hruns hquiet => completes_secondDwell hheld hsecond hsession hruns hquiet,
    fun _ _ ⟨hheld, hsecond⟩ hruns => completes_secondQuiet hheld hsecond hruns⟩

end Sys2Proof.Machine
end

section
/-! ROUTE SET: the settings of a screen, what it and its followers show, and the drive of the event's end (R130, R131, R138). -/

namespace Sys2Proof.Machine

namespace Part

variable {p t : Part} {k l f : ScreenId} {x : ScreenSettings}

/-! ### A screen takes settings (R131, R138) -/

/-- A screen with its new settings, before a screen is computed. -/
def reset (p : Part) (k : ScreenId) (x : ScreenSettings) : Part := p.setScreen k { p.screen k with set := x }

/-- What a screen shows after ROUTE SET of screen k (R131). -/
def routeShown (p : Part) (k : ScreenId) (x : ScreenSettings) (l : ScreenId) : Input := (p.reset k x).shownAfter (fun j => j = k) l

theorem reset_screen (p : Part) (k : ScreenId) (x : ScreenSettings) (l : ScreenId) :
    (p.reset k x).screen l = if l = k then { p.screen k with set := x } else p.screen l := setScreen_screen p k l _

theorem setScreenSettings_screen (p : Part) (k : ScreenId) (x : ScreenSettings) (l : ScreenId) :
    (p.setScreenSettings k x).screen l =
      { (if l = k then { p.screen k with set := x } else p.screen l) with shown := p.routeShown k x l } := by
  have h := computeShown_screen (p.reset k x) (fun j => j = k) l
  rw [reset_screen] at h
  exact h

theorem setScreenSettings_set (p : Part) (k : ScreenId) (x : ScreenSettings) (l : ScreenId) :
    ((p.setScreenSettings k x).screen l).set = if l = k then x else (p.screen l).set := by
  rw [setScreenSettings_screen]
  split <;> rfl

theorem reset_source (p : Part) (k : ScreenId) (x : ScreenSettings) (y : Screen) : (p.reset k x).ownSource y = p.ownSource y := by
  have hroutable : (p.reset k x).isRoutable = p.isRoutable := by
    funext i
    simp [isRoutable, reset]
  have hspeaker : (p.reset k x).speakerSource = p.speakerSource := by
    simp only [speakerSource, hroutable]
    simp [reset, seat]
  simp only [ownSource, hspeaker, hroutable]

theorem reset_shown (p : Part) (k : ScreenId) (x : ScreenSettings) (l : ScreenId) : ((p.reset k x).screen l).shown = (p.screen l).shown := by
  rw [reset_screen]
  split
  next h => rw [h]
  next => rfl

theorem reset_set (p : Part) (k : ScreenId) (x : ScreenSettings) (l : ScreenId) :
    ((p.reset k x).screen l).set = if l = k then x else (p.screen l).set := by
  rw [reset_screen]
  split <;> rfl

/-- What a screen that follows no other shows after ROUTE SET of screen k. -/
theorem reset_ownShown (p : Part) (k : ScreenId) (x : ScreenSettings) (l : ScreenId) :
    (p.reset k x).ownShown (fun j => j = k) l =
      if l = k ∧ x.mode ≠ .followScreen then p.ownSource { p.screen k with set := x } else (p.screen l).shown := by
  simp only [ownShown, reset_set, reset_shown, reset_source, decide_eq_true_eq]
  by_cases hl : l = k
  · subst hl
    rw [reset_screen, if_pos rfl, if_pos rfl]
  · rw [if_neg fun hc => hl hc.1, if_neg fun hc => hl hc.1]

theorem routeShown_self (h : x.mode ≠ .followScreen) : p.routeShown k x k = p.ownSource { p.screen k with set := x } := by
  simp only [routeShown, shownAfter, reset_set, reset_ownShown, if_pos]
  rw [if_neg h, if_pos ⟨trivial, h⟩]

theorem routeShown_copies (h : x.mode = .followScreen) (hne : x.followed ≠ k) : p.routeShown k x k = (p.screen x.followed).shown := by
  simp only [routeShown, shownAfter, reset_set, reset_ownShown, if_pos]
  rw [if_pos h, if_pos (.inl (by simp)), if_neg fun hc => hne hc.1]

/-- Another screen copies the screen that it follows when that comes to show another source (R131). -/
theorem routeShown_other (hl : l ≠ k) :
    p.routeShown k x l =
      if (p.screen l).set.mode = .followScreen ∧ (p.screen l).set.followed = k ∧ x.mode ≠ .followScreen ∧
        p.ownSource { p.screen k with set := x } ≠ (p.screen k).shown then p.ownSource { p.screen k with set := x }
      else (p.screen l).shown := by
  simp only [routeShown, shownAfter, reset_set, reset_ownShown, reset_shown, decide_eq_true_eq, hl, false_or, false_and, if_false]
  generalize p.ownSource { p.screen k with set := x } = o
  split
  next hmode =>
    by_cases hx : (p.screen l).set.followed = k ∧ x.mode ≠ .followScreen
    · obtain ⟨hf, hx⟩ := hx
      simp only [hf, hmode, ne_eq, hx, not_false_eq_true, true_and, if_true]
    · have hcopy : ¬((p.screen l).set.mode = .followScreen ∧ (p.screen l).set.followed = k ∧ x.mode ≠ .followScreen ∧
          o ≠ (p.screen k).shown) := fun hc => hx ⟨hc.2.1, hc.2.2.1⟩
      rw [if_neg hcopy]
      simp only [hx, if_false, ne_eq, not_true_eq_false]
  next hmode =>
    have hcopy : ¬((p.screen l).set.mode = .followScreen ∧ (p.screen l).set.followed = k ∧ x.mode ≠ .followScreen ∧
        o ≠ (p.screen k).shown) := fun hc => hmode hc.1
    rw [if_neg hcopy]

theorem sameBut_setScreenSettings (p : Part) (k : ScreenId) (x : ScreenSettings) : SameBut [.screens] p (p.setScreenSettings k x) := by
  intro b hb
  cases b <;> simp_all [Piece.Same, setScreenSettings]

/-! ### The speaker's socket (R130) -/

/-- The input of a seat's socket, when it can be shown. -/
def showable (p : Part) (s : SeatId) : Option Input :=
  (p.seat s).socket.bind fun k => if p.isRoutable (socketInput k) then some (socketInput k) else none

theorem speakerSource_eq (p : Part) : p.speakerSource = p.rtu.speakers.findSome? p.showable := by
  unfold speakerSource showable
  congr 1
  funext s
  cases (p.seat s).socket <;> rfl

theorem showable_none {s : SeatId} (h : ((p.seat s).socket.any fun l => p.isRoutable (socketInput l)) = false) : p.showable s = none := by
  unfold showable
  cases hs : (p.seat s).socket with
  | none => rfl
  | some n =>
    rw [hs, Option.any_some] at h
    simp [h]

theorem speakerSource_find {s : SeatId} {m : SocketId}
    (h : p.rtu.speakers.find? (fun y => (p.seat y).socket.any fun l => p.isRoutable (socketInput l)) = some s)
    (hm : (p.seat s).socket = some m) : p.speakerSource = some (socketInput m) := by
  rw [speakerSource_eq]
  generalize p.rtu.speakers = speakers at h
  induction speakers with
  | nil => simp at h
  | cons a l ih =>
    rw [List.find?_cons] at h
    rw [List.findSome?_cons]
    cases ha : (p.seat a).socket.any fun l => p.isRoutable (socketInput l) with
    | true =>
      rw [ha] at h
      obtain rfl := Option.some.inj h
      rw [hm, Option.any_some] at ha
      have hshown : p.showable a = some (socketInput m) := by simp [showable, hm, ha]
      rw [hshown]
    | false =>
      rw [ha] at h
      rw [showable_none ha]
      exact ih h

theorem speakerSource_none
    (h : p.rtu.speakers.find? (fun y => (p.seat y).socket.any fun l => p.isRoutable (socketInput l)) = none) :
    p.speakerSource = none := by
  rw [speakerSource_eq, List.findSome?_eq_none_iff]
  exact fun a ha => showable_none (Bool.eq_false_iff.mpr (List.find?_eq_none.mp h a ha))

/-! ### The drive at the end of an event (R132, R133) -/

theorem drivenRecord_eq (p : Part) (k : ScreenId) :
    p.drivenRecord k = if p.drivenBy k = (p.screen k).driven then p.screen k else startSettle (p.screen k) (p.drivenBy k) :=
  driveScreens_screen p k

theorem drivenRecord_fields (p : Part) (k : ScreenId) :
    (p.drivenRecord k).set = (p.screen k).set ∧ (p.drivenRecord k).shown = (p.screen k).shown ∧
      (p.drivenRecord k).driven = p.drivenBy k ∧
      ((p.drivenRecord k).driven ≠ (p.screen k).driven → (p.drivenRecord k).settle = .settling ∧ (p.drivenRecord k).timer = 40) := by
  rw [drivenRecord_eq]
  split
  next h => exact ⟨rfl, rfl, h.symm, fun hne => absurd rfl hne⟩
  next => exact ⟨rfl, rfl, rfl, fun _ => ⟨rfl, rfl⟩⟩

theorem drivenRecord_stands (h : (p.screen k).driven = p.drivenBy k) : p.drivenRecord k = p.screen k := by
  rw [drivenRecord_eq, if_pos h.symm]

theorem drivenRecord_of_rtu (h : t.rtu = p.rtu) (k : ScreenId) : t.drivenRecord k = p.drivenRecord k := by
  have hscreen : t.screen k = p.screen k := by simp [screen, h]
  rw [drivenRecord_eq, drivenRecord_eq, drivenBy_eq h, hscreen]

/-- An event that leaves the readiness of a walk-in ends with every screen driven (R132, R170). -/
theorem conclude_driven {before after : Part} (h : after.walkInReady = before.walkInReady) (k : ScreenId) :
    (conclude before after).screen k = after.drivenRecord k := by
  have hdwell : (concludeDwell before after).rtu = after.rtu := by
    cases hw : after.walkInReady with
    | false => simp [concludeDwell, hw]
    | true => simp [concludeDwell, hw, ← h]
  have hpins (q : Part) : q.drivePins.screen k = q.screen k := by simp [screen]
  rw [conclude, hpins, concludeRouting_screen, ← drivenRecord_eq]
  exact drivenRecord_of_rtu hdwell k

end Part

/-- A row whose owner leaves the session and the occupied count ends with every screen driven by what the owner leaves. -/
theorem completes_driven {s : State} {c : Instr} {q : Port} {r : Request} {x : Part} {st : Status} {l : List Byte}
    (hreq : requestOf c = some (q, r)) (hport : Listening s.part q) (hright : Permitted q r.code.toNat) (hcode : r.code ≠ portResetCode)
    (hserve : (s.part.taken q r).serveOwner q r = (x, st, l)) (hssu : x.ssu = s.part.ssu)
    (hocc : x.smn.occupied = s.part.smn.occupied) (hline : x.line q = (s.part.taken q r).line q) :
    Completes c s fun t => ∀ k, t.screen k = x.drivenRecord k := by
  refine completes_served hreq (Part.idle_listening hport) (Part.checkRequest_run hreq hright hport.1.1) hcode hserve hline ?_
  rintro t rfl - k
  rw [Part.conclude_driven (Part.walkInReady_eq (by simpa using hssu) (by simpa using hocc))]
  exact Part.drivenRecord_of_rtu (by simp) k

/-! ### The request (R138) -/

theorem screenOfNumber_screen {n : Byte} {k : ScreenId} (h : n.toNat = k.val + 1) : screenOfNumber n.toNat = some k := by
  rw [screenOfNumber, dif_pos (by omega)]
  exact congrArg some (Fin.ext (by simp [h]))

theorem inputOfNumber_input {n : Byte} {i : Input} (h : n.toNat = i.val) : inputOfNumber n.toNat = some i := by
  rw [inputOfNumber, dif_pos (by omega)]
  exact congrArg some (Fin.ext h)

namespace Part

variable {n m a b c d : Byte} {k f : ScreenId} {i j : Input} {mode : ScreenMode}

theorem requestSettings_good (hm : screenModeOf m.toNat = some mode)
    (h : a.toNat = i.val ∧ b.toNat = f.val + 1 ∧ c.toNat = j.val ∧ d.toNat ≤ 1) :
    requestSettings [n, m, a, b, c, d] = some ⟨mode, i, f, j, decide (d.toNat = 1)⟩ := by
  obtain ⟨ha, hb, hc, hd⟩ := h
  simp [requestSettings, byteAt, hm, inputOfNumber_input ha, screenOfNumber_screen hb, inputOfNumber_input hc, yesNoOf_le hd]

theorem requestSettings_bad (h : 3 < m.toNat ∨ 10 < a.toNat ∨ b = 0 ∨ 4 < b.toNat ∨ 10 < c.toNat ∨ 1 < d.toNat) :
    requestSettings [n, m, a, b, c, d] = none := by
  have hmode : 3 < m.toNat → screenModeOf m.toNat = none := fun hm => by
    generalize m.toNat = n at hm
    match n, hm with
    | n + 4, _ => rfl
  have hinput : ∀ e : Byte, 10 < e.toNat → inputOfNumber e.toNat = none := fun e he => by
    rw [inputOfNumber, dif_neg (by omega)]
  have hscreen : b = 0 ∨ 4 < b.toNat → screenOfNumber b.toNat = none := fun hb => by
    rw [screenOfNumber, dif_neg]
    obtain rfl | hb := hb
    · simp
    · omega
  simp only [requestSettings, byteAt]
  obtain h | h | h | h | h | h := h
  · simp [hmode h]
  · simp [hinput a h]
  · simp [hscreen (.inl h)]
  · simp [hscreen (.inr h)]
  · simp [hinput c h]
  · simp [yesNoOf_gt h]

end Part

end Sys2Proof.Machine
end

section
/-! Settling O55: ROUTE SET (R130 to R133, R138, R139, R201). -/

namespace Sys2Proof.Machine

namespace Part

variable {p t : Part} {q : Port} {r : Request} {k f : ScreenId} {x : ScreenSettings}

/-! ### A request in STANDBY (R186, R201) -/

/-- A port's request as it enters service in the wake that it begins. -/
def wokenBy (p : Part) (q : Port) (r : Request) : Part := (p.clearSent q).wake.taken q r

theorem wokenBy_power (h : p.pwu.power = .standby) :
    (p.wokenBy q r).pwu = { p.pwu with power := .waking, settle := 0, quiet := 0 } := by
  simp [wokenBy, wake, h]

theorem wokenBy_rtu (h : p.pwu.power = .standby) : (p.wokenBy q r).rtu = { p.rtu with override := false } := by
  simp [wokenBy, wake, h, setOverride]

theorem woken_port (p : Part) (q : Port) :
    ((p.clearSent q).wake.port q).inService = (p.port q).inService ∧ ((p.clearSent q).wake.port q).waiting = (p.port q).waiting ∧
      ((p.clearSent q).wake.port q).dropAnswer = (p.port q).dropAnswer ∧
      ((p.clearSent q).wake.port q).heldBack = (p.port q).heldBack ∧
      ((p.clearSent q).wake.port q).sent = [] ∧ ((p.clearSent q).wake.port q).acks = [] := by
  have hline : (p.clearSent q).wake.line q = (p.clearSent q).line q := by simp
  have hcleared : (p.clearSent q).port q = { p.port q with sent := [], acks := [] } := by simp [clearSent]
  simp only [line, hcleared, Prod.mk.injEq] at hline
  obtain ⟨hservice, hwaiting, -, hdrop, hheld, hsent, hacks⟩ := hline
  exact ⟨hservice, hwaiting, hdrop, hheld, hsent, hacks⟩

/-- A port in STANDBY places the request that it takes and serves it as the wake begins. -/
theorem takeRequest_standby (hpower : p.pwu.power = .standby) (hfree : FreePort p q) (hcheck : p.checkRequest q r = none)
    (hcode : r.code ≠ portResetCode) :
    (p.clearSent q).takeRequest q r = ((p.wokenBy q r).serveCurrent q).serveCurrent q := by
  obtain ⟨hservice, -, -, -, hsent, hacks⟩ := woken_port p q
  rw [hfree.1] at hservice
  have hroom : (p.clearSent q).roomFull q = false := by simp [roomFull, clearSent, hfree.1]
  have hasleep : (p.clearSent q).pwu.power = .standby := by simpa using hpower
  have hchecked : (p.clearSent q).wake.checkRequest q r = none := by
    rw [← hcheck]
    simp [checkRequest, stageAnswer]
  simp only [takeRequest, hcode, hroom, hasleep, Bool.false_eq_true, if_false, if_true, wokenBy]
  generalize (p.clearSent q).wake = u at *
  have hplace : u.placeRequest q r = u.taken q r := by
    simp [placeRequest, discardPending, enterService, hservice, hchecked, setPort_setPort, taken, hsent, hacks]
  rw [hplace]

theorem requestRow_standby {y : Part} {st : Status} {l : List Byte} (hpower : p.pwu.power = .standby) (hfree : FreePort p q)
    (hcheck : p.checkRequest q r = none) (hcode : r.code ≠ portResetCode)
    (hserve : (p.wokenBy q r).serveOwner q r = (y, st, l)) (hline : y.line q = (p.wokenBy q r).line q) :
    p.requestRow q r = y.replied q ⟨r.tag, st, framesOf r.code l⟩ := by
  have hclear : ((p.clearSent q).port q).inService = none := by simp [clearSent, hfree.1]
  have htake := takeRequest_standby hpower hfree hcheck hcode
  obtain ⟨-, hwaiting, hdrop, hheld, -⟩ := woken_port p q
  obtain ⟨-, hnone, hkept, hempty⟩ := hfree
  have htaken : ((p.wokenBy q r).port q).inService = some r := by simp [wokenBy, taken_port]
  have hwake : (p.wokenBy q r).wake = p.wokenBy q r := wake_running (by simp [wokenBy_power hpower])
  simp only [line, wokenBy, taken_port, hwaiting, hdrop, hheld, hnone, hkept, hempty, Prod.mk.injEq] at hline
  obtain ⟨-, hw, -, hd, hh, -⟩ := hline
  have hserved : (p.wokenBy q r).serveCurrent q = y.replied q ⟨r.tag, st, framesOf r.code l⟩ := by
    simp only [serveCurrent, htaken, hwake, hserve]
    exact answer_listening hw hd hh
  have hdone : ((y.replied q ⟨r.tag, st, framesOf r.code l⟩).port q).inService = none := by
    cases q <;> simp [replied, deliver, sendRoom]
  have hagain : (y.replied q ⟨r.tag, st, framesOf r.code l⟩).serveCurrent q = y.replied q ⟨r.tag, st, framesOf r.code l⟩ := by
    simp only [serveCurrent, hdone]
  simp only [requestRow, hclear, htake, hserved, hagain, hdone, reduceCtorEq, if_false]

theorem answered_woken {y : Part} {st : Status} {l : List Byte} (before : Part) (hline : y.line q = (p.wokenBy q r).line q) :
    Answered (conclude before (y.replied q ⟨r.tag, st, framesOf r.code l⟩)) q r.tag st (framesOf r.code l) :=
  answered_served (p := (p.clearSent q).wake) before hline

/-! ### ROUTE SET (R138) -/

theorem setScreenSettings_taken (p : Part) (q : Port) (r : Request) (k : ScreenId) (x : ScreenSettings) :
    ((p.taken q r).setScreenSettings k x).rtu = (p.setScreenSettings k x).rtu := rfl

variable {n m a b c d : Byte}

theorem setRoute_done (hx : requestSettings [n, m, a, b, c, d] = some x) (hbreach : p.followBreach k x = false) :
    p.setRoute k [n, m, a, b, c, d] = (p.setScreenSettings k x, .done) := by
  simp [setRoute, hx, hbreach]

theorem routeRequest_screen (hk : n.toNat = k.val + 1) :
    p.routeRequest [n, m, a, b, c, d] =
      ((p.setRoute k [n, m, a, b, c, d]).1, (p.setRoute k [n, m, a, b, c, d]).2,
        screenBytes ((p.setRoute k [n, m, a, b, c, d]).1.drivenRecord k)) := by
  have hbyte : byteAt [n, m, a, b, c, d] 0 = n.toNat := rfl
  simp only [routeRequest, hbyte, screenOfNumber_screen hk]

theorem serveOwner_routeSet (p : Part) (tag : Byte) (l : List Byte) : p.serveOwner .av ⟨0x60, tag, 6, l⟩ = p.routeRequest l := rfl

/-- What ROUTE SET of screen k makes of the screens while the standby override is off. -/
structure Routed (p t : Part) (k : ScreenId) (x : ScreenSettings) : Prop where
  set : (t.screen k).set = x
  own : x.mode ≠ .followScreen → (t.screen k).shown = p.ownSource { p.screen k with set := x }
  copies : x.mode = .followScreen → x.followed ≠ k → (t.screen k).shown = (p.screen x.followed).shown
  driven : (t.screen k).driven = (t.screen k).shown
  settles : (t.screen k).driven ≠ (p.screen k).driven → (t.screen k).settle = .settling ∧ (t.screen k).timer = 40
  others : ∀ l, l ≠ k →
    if (p.screen l).set.mode = .followScreen ∧ (p.screen l).set.followed = k ∧ x.mode ≠ .followScreen ∧
        (t.screen k).shown ≠ (p.screen k).shown then
      (t.screen l).set = (p.screen l).set ∧ (t.screen l).shown = (t.screen k).shown ∧ (t.screen l).driven = (t.screen k).shown
    else t.screen l = p.screen l

theorem Routed.set_other (h : Routed p t k x) {l : ScreenId} (hl : l ≠ k) : (t.screen l).set = (p.screen l).set := by
  have hother := h.others l hl
  split at hother
  · exact hother.1
  · rw [hother]

theorem routed_driven (hset : Settled p) (hover : p.rtu.override = false)
    (h : ∀ l, t.screen l = (p.setScreenSettings k x).drivenRecord l) : Routed p t k x := by
  have hscreen := fun l => setScreenSettings_screen p k x l
  have hdrives : ∀ l, (p.setScreenSettings k x).drivenBy l = p.routeShown k x l := fun l => by
    have hoff : (p.setScreenSettings k x).rtu.override = false := by
      rw [sameBut_setScreenSettings p k x .override (by simp), hover]
    rw [drivenBy, hoff, hscreen]
    rfl
  have hfields : ∀ l, (t.screen l).set = (if l = k then x else (p.screen l).set) ∧ (t.screen l).shown = p.routeShown k x l ∧
      (t.screen l).driven = p.routeShown k x l ∧
      ((t.screen l).driven ≠ (p.screen l).driven → (t.screen l).settle = .settling ∧ (t.screen l).timer = 40) := fun l => by
    obtain ⟨hs, hshown, hdriven, hsettles⟩ := drivenRecord_fields (p.setScreenSettings k x) l
    have hold : ((p.setScreenSettings k x).screen l).driven = (p.screen l).driven := by
      rw [hscreen]
      split
      next hl => rw [hl]
      next => rfl
    rw [← h] at hs hshown hdriven hsettles
    rw [hold] at hsettles
    refine ⟨hs.trans (setScreenSettings_set p k x l), hshown.trans ?_, hdriven.trans (hdrives l), hsettles⟩
    rw [hscreen]
  obtain ⟨hself, hshown, hdriven, hsettles⟩ := hfields k
  refine ⟨by rw [hself, if_pos rfl], fun hmode => hshown.trans (routeShown_self hmode),
    fun hmode hne => hshown.trans (routeShown_copies hmode hne), hdriven.trans hshown.symm, hsettles, fun l hl => ?_⟩
  obtain ⟨hset', hshown', hdriven', -⟩ := hfields l
  rw [if_neg hl] at hset'
  have hother := routeShown_other (p := p) (x := x) hl
  split
  next hc =>
    obtain ⟨hmode, hf, hx, hne⟩ := hc
    rw [hshown, routeShown_self hx] at hne ⊢
    rw [if_pos ⟨hmode, hf, hx, hne⟩] at hother
    exact ⟨hset', hshown'.trans hother, hdriven'.trans hother⟩
  next hc =>
    have hkept : p.routeShown k x l = (p.screen l).shown := by
      rw [hother, if_neg]
      rintro ⟨hmode, hf, hx, hne⟩
      rw [hshown, routeShown_self hx] at hc
      exact hc ⟨hmode, hf, hx, hne⟩
    have hstill : (p.setScreenSettings k x).screen l = p.screen l := by
      rw [hscreen, if_neg hl, hkept]
    have hdrive : p.drivenBy l = (p.screen l).shown := by rw [drivenBy, hover]; rfl
    rw [h, drivenRecord_stands, hstill]
    rw [hdrives, hkept, hstill, hset.1, hdrive]

end Part

variable {s : State} {n m a b c d tag : Byte} {k f : ScreenId} {i j : Input} {x : ScreenSettings}

/-- A request that a free port takes in STANDBY is served and answered in the wake that it begins. -/
theorem completes_woken {c : Instr} {q : Port} {r : Request} {y : Part} {st : Status} {l : List Byte}
    (hreq : requestOf c = some (q, r)) (hunheld : s.part.isHeld = false) (hpower : s.part.pwu.power = .standby)
    (hfree : FreePort s.part q) (hcheck : s.part.checkRequest q r = none) (hcode : r.code ≠ portResetCode)
    (hserve : (s.part.wokenBy q r).serveOwner q r = (y, st, l)) (hline : y.line q = (s.part.wokenBy q r).line q) :
    Completes c s fun t => t = Part.conclude s.part (y.replied q ⟨r.tag, st, framesOf r.code l⟩) ∧
      Answered t q r.tag st (framesOf r.code l) := by
  refine completes_onEvent (exec_requestOf hreq s) ?_
  rw [Part.event_unheld hunheld, Part.requestRow_standby hpower hfree hcheck hcode hserve hline]
  exact ⟨rfl, Part.answered_woken _ hline⟩

theorem completes_routeSet (hport : Listening s.part .av) (hset : Settled s.part) (hk : n.toNat = k.val + 1)
    (hx : Part.requestSettings [n, m, a, b, c, d] = some x) (hbreach : s.part.followBreach k x = false)
    (hover : s.part.rtu.override = false) :
    Completes (.routeSet .av tag n m a b c d) s fun t =>
      Part.Routed s.part t k x ∧ Answered t .av tag .done [Part.screenBytes (t.screen k)] ∧
        SameBut [.requests .av, .screens, .notices] s.part t := by
  have hbreach' : (s.part.taken .av ⟨0x60, tag, 6, [n, m, a, b, c, d]⟩).followBreach k x = false := hbreach
  have hserve : (s.part.taken .av ⟨0x60, tag, 6, [n, m, a, b, c, d]⟩).serveOwner .av ⟨0x60, tag, 6, [n, m, a, b, c, d]⟩ =
      ((s.part.taken .av ⟨0x60, tag, 6, [n, m, a, b, c, d]⟩).setScreenSettings k x, .done,
        Part.screenBytes (((s.part.taken .av ⟨0x60, tag, 6, [n, m, a, b, c, d]⟩).setScreenSettings k x).drivenRecord k)) := by
    rw [Part.serveOwner_routeSet, Part.routeRequest_screen hk, Part.setRoute_done hx hbreach']
  have hsame := Part.sameBut_setScreenSettings (s.part.taken .av ⟨0x60, tag, 6, [n, m, a, b, c, d]⟩) k x
  have hssu := Part.setScreenSettings_taken s.part .av ⟨0x60, tag, 6, [n, m, a, b, c, d]⟩ k x
  have hright : Permitted .av (0x60 : Byte).toNat := by decide
  have hcode : (0x60 : Byte) ≠ portResetCode := by decide
  generalize hy : (s.part.taken .av ⟨0x60, tag, 6, [n, m, a, b, c, d]⟩).setScreenSettings k x = y at *
  have hyssu : y.ssu = s.part.ssu := by rw [← hy]; rfl
  have hyocc : y.smn.occupied = s.part.smn.occupied := by rw [← hy]; rfl
  have hyline := hsame (.requests .av) (by simp)
  refine ((completes_routing (c := .routeSet .av tag n m a b c d) rfl hport hset (by decide) (by decide) hserve hyssu hyocc hyline).and
    (completes_driven (c := .routeSet .av tag n m a b c d) rfl hport hright hcode hserve hyssu hyocc hyline)).mono ?_
  rintro t ⟨⟨hans, hown, -⟩, hdriven⟩
  rw [framesOf_plain rfl, ← hdriven] at hans
  refine ⟨Part.routed_driven hset hover fun l => (hdriven l).trans (Part.drivenRecord_of_rtu hssu l), hans, ?_⟩
  exact ((Part.sameBut_taken s.part .av _).mono (by simp)).trans ((hsame.mono (by simp)).trans (hown.mono (by simp)))

theorem screenModeOf_fixed (hm : m = 0 ∨ m = 3) : screenModeOf m.toNat = some (if m = 0 then .fixed else .blank) := by
  obtain rfl | rfl := hm <;> rfl

theorem followBreach_own (p : Part) (h : x.mode ≠ .followScreen) : p.followBreach k x = false := by
  simp [Part.followBreach, h]

theorem completes_routeFixed (hport : Listening s.part .av) (hset : Settled s.part)
    (hn : n.toNat = k.val + 1 ∧ a.toNat = i.val ∧ b.toNat = f.val + 1 ∧ c.toNat = j.val ∧ d.toNat ≤ 1) (hm : m = 0 ∨ m = 3)
    (hover : s.part.rtu.override = false) :
    Completes (.routeSet .av tag n m a b c d) s fun t =>
      (t.screen k).set = ⟨if m = 0 then .fixed else .blank, i, f, j, decide (d.toNat = 1)⟩ ∧
      (t.screen k).shown = (if m = 0 then i else 0) ∧ (t.screen k).driven = (t.screen k).shown ∧
      ((t.screen k).driven ≠ (s.part.screen k).driven → (t.screen k).settle = .settling ∧ (t.screen k).timer = 40) ∧
      (∀ l, l ≠ k → (t.screen l).set = (s.part.screen l).set) ∧
      Answered t .av tag .done [Part.screenBytes (t.screen k)] ∧
      SameBut [.requests .av, .screens, .notices] s.part t := by
  obtain ⟨hk, hfields⟩ := hn
  have hmode : (if m = 0 then ScreenMode.fixed else .blank) ≠ .followScreen := by split <;> decide
  refine (completes_routeSet hport hset hk (Part.requestSettings_good (screenModeOf_fixed hm) hfields)
    (followBreach_own s.part hmode) hover).mono ?_
  rintro t ⟨hrouted, hans, hsame⟩
  refine ⟨hrouted.set, (hrouted.own hmode).trans ?_, hrouted.driven, hrouted.settles,
    fun l hl => hrouted.set_other hl, hans, hsame⟩
  obtain rfl | rfl := hm <;> rfl

theorem completes_routeSpeaker (hport : Listening s.part .av) (hset : Settled s.part)
    (hn : n.toNat = k.val + 1 ∧ a.toNat = i.val ∧ b.toNat = f.val + 1 ∧ c.toNat = j.val ∧ d.toNat ≤ 1) (hm : m = 1)
    (hover : s.part.rtu.override = false) :
    Completes (.routeSet .av tag n m a b c d) s fun t =>
      (t.screen k).set = ⟨.followSpeaker, i, f, j, decide (d.toNat = 1)⟩ ∧
      (∀ x, s.part.rtu.speakers.find? (fun y =>
          (s.part.seat y).socket.any fun l => s.part.isRoutable (Part.socketInput l)) = some x →
        ∀ l ∈ (s.part.seat x).socket, (t.screen k).shown = Part.socketInput l) ∧
      (s.part.rtu.speakers.find? (fun y =>
          (s.part.seat y).socket.any fun l => s.part.isRoutable (Part.socketInput l)) = none →
        (t.screen k).shown = if s.part.isRoutable (s.part.screen k).shown then (s.part.screen k).shown else j) ∧
      (t.screen k).driven = (t.screen k).shown ∧
      ((t.screen k).driven ≠ (s.part.screen k).driven → (t.screen k).settle = .settling ∧ (t.screen k).timer = 40) ∧
      (∀ l, l ≠ k →
        if (s.part.screen l).set.mode = .followScreen ∧ (s.part.screen l).set.followed = k ∧
            (t.screen k).shown ≠ (s.part.screen k).shown then
          (t.screen l).set = (s.part.screen l).set ∧ (t.screen l).shown = (t.screen k).shown ∧
            (t.screen l).driven = (t.screen k).shown
        else t.screen l = s.part.screen l) ∧
      Answered t .av tag .done [Part.screenBytes (t.screen k)] ∧
      SameBut [.requests .av, .screens, .notices] s.part t := by
  subst hm
  obtain ⟨hk, hfields⟩ := hn
  have hmode : ScreenMode.followSpeaker ≠ .followScreen := by decide
  refine (completes_routeSet hport hset hk (Part.requestSettings_good (mode := .followSpeaker) rfl hfields)
    (followBreach_own s.part hmode) hover).mono ?_
  rintro t ⟨hrouted, hans, hsame⟩
  have hshown := hrouted.own hmode
  simp only [Part.ownSource] at hshown
  refine ⟨hrouted.set, fun y hy l hl => ?_, fun hnone => ?_, hrouted.driven, hrouted.settles, fun l hl => ?_, hans, hsame⟩
  · rw [Part.speakerSource_find hy hl] at hshown
    exact hshown
  · rw [Part.speakerSource_none hnone] at hshown
    exact hshown
  · have hother := hrouted.others l hl
    simpa only [hmode, ne_eq, not_false_eq_true, true_and] using hother

theorem completes_routeScreen (hport : Listening s.part .av) (hset : Settled s.part)
    (hn : n.toNat = k.val + 1 ∧ a.toNat = i.val ∧ b.toNat = f.val + 1 ∧ c.toNat = j.val ∧ d.toNat ≤ 1) (hm : m = 2)
    (hover : s.part.rtu.override = false) (hne : f ≠ k) (hfollowed : (s.part.screen f).set.mode ≠ .followScreen)
    (hfollows : ∀ l, l ≠ k → (s.part.screen l).set.mode = .followScreen → (s.part.screen l).set.followed ≠ k) :
    Completes (.routeSet .av tag n m a b c d) s fun t =>
      (t.screen k).set = ⟨.followScreen, i, f, j, decide (d.toNat = 1)⟩ ∧
      (t.screen k).shown = (s.part.screen f).shown ∧ (t.screen k).driven = (t.screen k).shown ∧
      ((t.screen k).driven ≠ (s.part.screen k).driven → (t.screen k).settle = .settling ∧ (t.screen k).timer = 40) ∧
      (∀ l, l ≠ k → t.screen l = s.part.screen l) ∧
      Answered t .av tag .done [Part.screenBytes (t.screen k)] ∧
      SameBut [.requests .av, .screens, .notices] s.part t := by
  subst hm
  obtain ⟨hk, hfields⟩ := hn
  have hbreach : s.part.followBreach k ⟨.followScreen, i, f, j, decide (d.toNat = 1)⟩ = false := by
    simpa [Part.followBreach, hne, hfollowed] using hfollows
  refine (completes_routeSet hport hset hk (Part.requestSettings_good (mode := .followScreen) rfl hfields) hbreach hover).mono ?_
  rintro t ⟨hrouted, hans, hsame⟩
  refine ⟨hrouted.set, hrouted.copies rfl hne, hrouted.driven, hrouted.settles, fun l hl => ?_, hans, hsame⟩
  have hother := hrouted.others l hl
  rwa [if_neg fun hc => hc.2.2.1 rfl] at hother

theorem completes_routeWakes (hrun : s.part.pln.stage = .running) (hpower : s.part.pwu.power = .standby) (hfree : FreePort s.part .av)
    (hn : n.toNat = k.val + 1 ∧ a.toNat = i.val ∧ b.toNat = f.val + 1 ∧ c.toNat = j.val ∧ d.toNat ≤ 1) (hm : m = 0 ∨ m = 3) :
    Completes (.routeSet .av tag n m a b c d) s fun t =>
      t.pwu.power = .waking ∧ t.pwu.settle = 0 ∧ t.pwu.quiet = 0 ∧ t.rtu.override = false ∧
      (t.screen k).set = ⟨if m = 0 then .fixed else .blank, i, f, j, decide (d.toNat = 1)⟩ ∧
      (t.screen k).shown = (if m = 0 then i else 0) ∧
      (∀ l, (t.screen l).driven = (t.screen l).shown ∧
        ((t.screen l).driven ≠ (s.part.screen l).driven → (t.screen l).settle = .settling ∧ (t.screen l).timer = 40)) ∧
      (∀ l, l ≠ k → (t.screen l).set = (s.part.screen l).set) ∧
      Answered t .av tag .done [Part.screenBytes (t.screen k)] := by
  obtain ⟨hk, hfields⟩ := hn
  have hmode : (if m = 0 then ScreenMode.fixed else .blank) ≠ .followScreen := by split <;> decide
  have hx := Part.requestSettings_good (n := n) (screenModeOf_fixed hm) hfields
  set x : ScreenSettings := ⟨if m = 0 then .fixed else .blank, i, f, j, decide (d.toNat = 1)⟩ with hxdef
  set r : Request := ⟨0x60, tag, 6, [n, m, a, b, c, d]⟩ with hr
  have hrtu := Part.wokenBy_rtu (q := .av) (r := r) hpower
  have hpwu := Part.wokenBy_power (q := .av) (r := r) hpower
  have hready : (s.part.wokenBy .av r).walkInReady = s.part.walkInReady :=
    Part.walkInReady_eq (by simp [Part.wokenBy]) (by simp [Part.wokenBy])
  generalize hw : s.part.wokenBy .av r = w at *
  have hscreen : ∀ l, w.screen l = s.part.screen l := fun l => by simp only [Part.screen, hrtu]
  have hserve : (s.part.wokenBy .av r).serveOwner .av r =
      (w.setScreenSettings k x, .done, Part.screenBytes ((w.setScreenSettings k x).drivenRecord k)) := by
    rw [hw, hr, Part.serveOwner_routeSet, Part.routeRequest_screen hk, Part.setRoute_done hx (followBreach_own w hmode)]
  have hsame := Part.sameBut_setScreenSettings w k x
  refine (completes_woken (c := .routeSet .av tag n m a b c d) rfl (Part.isHeld_running hrun) hpower hfree
    (Part.checkRequest_run (c := .routeSet .av tag n m a b c d) rfl (by decide : Permitted .av (0x60 : Byte).toNat) hrun)
    (by decide : (0x60 : Byte) ≠ portResetCode) hserve (by rw [hw]; exact hsame (.requests .av) (by simp))).mono ?_
  rintro t ⟨ht, hans⟩
  set y := w.setScreenSettings k x with hy
  set u := y.replied .av ⟨r.tag, .done, framesOf r.code (Part.screenBytes (y.drivenRecord k))⟩ with hu
  rw [framesOf_plain rfl] at hans
  have hyready : u.walkInReady = s.part.walkInReady := hready
  have hdriven : ∀ l, t.screen l = y.drivenRecord l := fun l =>
    (ht ▸ Part.conclude_driven hyready l).trans (Part.drivenRecord_of_rtu (by simp [hu]) l)
  have hend : t.pwu = w.pwu ∧ t.rtu.override = w.rtu.override := by
    rw [ht]
    constructor
    · have h : (Part.conclude s.part u).pwu = y.pwu := by simp [hu]
      exact h.trans (hsame.pwu (by decide))
    · have h : (Part.conclude s.part u).rtu.override = y.rtu.override := by simp [hu]
      exact h.trans (hsame .override (by simp))
  have hoff : y.rtu.override = false := by rw [hsame .override (by simp), hrtu]
  have hyscreen := fun l => Part.setScreenSettings_screen w k x l
  have hold : ∀ l, (y.screen l).driven = (s.part.screen l).driven := fun l => by
    rw [hy, hyscreen, hscreen, hscreen]
    split
    next hl => rw [hl]
    next => rfl
  have hset : ∀ l, (y.screen l).set = if l = k then x else (s.part.screen l).set := fun l => by
    rw [hy, Part.setScreenSettings_set, hscreen]
  have hshown : (y.screen k).shown = if m = 0 then i else 0 := by
    rw [hy, hyscreen]
    refine (Part.routeShown_self hmode).trans ?_
    obtain rfl | rfl := hm <;> rfl
  have hfields := fun l => Part.drivenRecord_fields y l
  obtain ⟨hs, hsh, -⟩ := hfields k
  rw [← hdriven] at hans hs hsh
  rw [hend.1, hend.2, hpwu, hrtu]
  refine ⟨rfl, rfl, rfl, rfl, hs.trans ?_, hsh.trans hshown, fun l => ?_, fun l hl => ?_, hans⟩
  · rw [hset, if_pos rfl]
  · obtain ⟨-, hsl, hd, hsettles⟩ := hfields l
    rw [hold] at hsettles
    rw [hdriven, hsl, hd, Part.drivenBy, hoff]
    exact ⟨rfl, fun hne => hsettles (by rw [hd, Part.drivenBy, hoff]; exact hne)⟩
  · rw [hdriven, (hfields l).1, hset, if_neg hl]

theorem completes_routeRefused {st : Status} (hport : Listening s.part .av) (hset : Settled s.part) (hk : n.toNat = k.val + 1)
    (hroute : ∀ p : Part, p.rtu = s.part.rtu → p.setRoute k [n, m, a, b, c, d] = (p, st)) :
    Completes (.routeSet .av tag n m a b c d) s fun t =>
      Answered t .av tag st [Part.screenBytes (s.part.screen k)] ∧ SameBut [.requests .av] s.part t := by
  set r : Request := ⟨0x60, tag, 6, [n, m, a, b, c, d]⟩ with hr
  have hrecord : (s.part.taken .av r).drivenRecord k = s.part.screen k :=
    (Part.drivenRecord_of_rtu rfl k).trans (Part.drivenRecord_stands (hset.1 k))
  have hserve : (s.part.taken .av r).serveOwner .av r = (s.part.taken .av r, st, Part.screenBytes (s.part.screen k)) := by
    rw [hr, Part.serveOwner_routeSet, Part.routeRequest_screen hk, hroute _ (by simp), ← hr, hrecord]
  have h := completes_idle_unchanged (c := .routeSet .av tag n m a b c d) rfl (Part.idle_listening hport) hset
    (Part.checkRequest_run (c := .routeSet .av tag n m a b c d) rfl (by decide : Permitted .av (0x60 : Byte).toNat) hport.1.1)
    (by decide : (0x60 : Byte) ≠ portResetCode) hserve
  rwa [framesOf_plain rfl] at h

theorem completes_routeRange (hport : Listening s.part .av) (hset : Settled s.part) (hk : n.toNat = k.val + 1)
    (h : 3 < m.toNat ∨ 10 < a.toNat ∨ b = 0 ∨ 4 < b.toNat ∨ 10 < c.toNat ∨ 1 < d.toNat) :
    Completes (.routeSet .av tag n m a b c d) s fun t =>
      Answered t .av tag .range [Part.screenBytes (s.part.screen k)] ∧ SameBut [.requests .av] s.part t :=
  completes_routeRefused hport hset hk fun p _ => by simp [Part.setRoute, Part.requestSettings_bad h]

theorem completes_routeState (hport : Listening s.part .av) (hset : Settled s.part) (hk : n.toNat = k.val + 1) (hm : m = 2)
    (hb : b.toNat = f.val + 1) (ha : a.toNat ≤ 10) (hc : c.toNat ≤ 10) (hd : d.toNat ≤ 1)
    (h : f = k ∨ (s.part.screen f).set.mode = .followScreen ∨
      ∃ j, j ≠ k ∧ (s.part.screen j).set.mode = .followScreen ∧ (s.part.screen j).set.followed = k) :
    Completes (.routeSet .av tag n m a b c d) s fun t =>
      Answered t .av tag .state [Part.screenBytes (s.part.screen k)] ∧ SameBut [.requests .av] s.part t := by
  subst hm
  refine completes_routeRefused hport hset hk fun p hp => ?_
  have hscreen : ∀ j, p.screen j = s.part.screen j := fun j => by simp only [Part.screen, hp]
  have hsettings := Part.requestSettings_good (n := n) (m := 2) (mode := .followScreen) rfl
    (i := ⟨a.toNat, by omega⟩) (j := ⟨c.toNat, by omega⟩) ⟨rfl, hb, rfl, hd⟩
  have hbreach : p.followBreach k ⟨.followScreen, ⟨a.toNat, by omega⟩, f, ⟨c.toNat, by omega⟩, decide (d.toNat = 1)⟩ = true := by
    simp only [Part.followBreach, hscreen, decide_true, Bool.true_and, Bool.or_eq_true, decide_eq_true_eq, List.any_eq_true,
      Bool.and_eq_true, or_assoc]
    refine h.imp_right (Or.imp_right ?_)
    rintro ⟨j, hne, hmode, hfollowed⟩
    exact ⟨j, List.mem_finRange j, ⟨hne, hmode⟩, hfollowed⟩
  rw [Part.setRoute, hsettings]
  exact if_pos hbreach

/-- Settles O55: what ROUTE SET makes of the screens before the event's end, and the drive that follows it. -/
theorem routeSetActs : Obligations.RouteSetActs := by
  unfold Obligations.RouteSetActs
  exact ⟨fun _ _ _ _ _ _ _ _ _ _ _ _ hport hset hn hm hover => completes_routeFixed hport hset hn hm hover,
    fun _ _ _ _ _ _ _ _ _ _ _ _ hport hset hn hover =>
      ⟨fun hm => completes_routeSpeaker hport hset hn hm hover,
        fun hm hne hfollowed hfollows => completes_routeScreen hport hset hn hm hover hne hfollowed hfollows⟩,
    fun _ _ _ _ _ _ _ _ _ _ _ _ ⟨hrun, hpower⟩ hfree hn hm => completes_routeWakes hrun hpower hfree hn hm,
    fun _ _ _ _ _ _ _ _ _ hport hset hk => ⟨fun h => completes_routeRange hport hset hk h,
      fun _ hm hb ha hc hd h => completes_routeState hport hset hk hm hb ha hc hd h⟩⟩

end Sys2Proof.Machine
end

section
/-! The stages of TABLE RESET: the ports, the floor, the session, the screens and the power state (R99, R176, R194, R198). -/

namespace Sys2Proof.Machine

namespace Part

variable {p q t : Part} {n : BitVec 9} {x : Session} {e : Entry} {id : Nat} {k : SlotId}

/-! ### The flags that an operation leaves (R189) -/

/-- The flags of a mask and the cause marks of every port are the same in two parts. -/
def MaskKept (n : BitVec 9) (p t : Part) : Prop :=
  ∀ a, (t.notices a).1 &&& n = (p.notices a).1 &&& n ∧ (t.notices a).2 = (p.notices a).2

namespace MaskKept

theorem refl (p : Part) : MaskKept n p p := fun _ => ⟨rfl, rfl⟩

theorem trans (h : MaskKept n p q) (h' : MaskKept n q t) : MaskKept n p t := fun a =>
  ⟨(h' a).1.trans (h a).1, (h' a).2.trans (h a).2⟩

theorem of_notices (h : t.notices = p.notices) : MaskKept n p t := fun a => by
  rw [h]
  exact ⟨rfl, rfl⟩

theorem notice {c : Category} (hbit : c.bit &&& n = 0) (p : Part) : MaskKept n p (p.notice c) := fun a => by
  rw [notice_notices]
  refine ⟨?_, rfl⟩
  have hsplit : ((p.notices a).1 ||| c.bit) &&& n = ((p.notices a).1 &&& n) ||| (c.bit &&& n) := by
    ext i
    simp [Bool.and_or_distrib_right]
  rw [hsplit, hbit]
  simp

theorem noticeIf {c : Category} (hbit : c.bit &&& n = 0) (p : Part) (b : Bool) : MaskKept n p (p.noticeIf b c) := by
  cases b with
  | false => exact .refl p
  | true => exact notice hbit p

/-- A change that raises nothing, and a notice after it. -/
theorem then_noticeIf {c : Category} (hbit : c.bit &&& n = 0) (h : t.notices = p.notices) (b : Bool) : MaskKept n p (t.noticeIf b c) :=
  (of_notices h).trans (noticeIf hbit t b)

theorem mono {m : BitVec 9} (h : MaskKept n p t) (hm : m &&& n = m) : MaskKept m p t := fun a => by
  obtain ⟨hflags, hcauses⟩ := h a
  refine ⟨?_, hcauses⟩
  rw [← hm, ← BitVec.and_assoc, ← BitVec.and_assoc, BitVec.and_comm (t.notices a).1, BitVec.and_comm (p.notices a).1, BitVec.and_assoc,
    BitVec.and_assoc, hflags]

end MaskKept

/-! ### The ports (R194) -/

theorem resetPorts_notices (p : Part) (a : Port) : p.resetPorts.notices a = (0, 0) := by
  cases a <;> simp [resetPorts, notices]

theorem resetPorts_line (p : Part) : p.resetPorts.line .room = p.line .room := by simp [resetPorts, line]

theorem resetPorts_lost (p : Part) {a : Port} (h : a ≠ .room) :
    (p.resetPorts.port a).pending = none ∧ (p.resetPorts.port a).waiting = none := by
  cases a with
  | room => exact absurd rfl h
  | chair => simp [resetPorts]
  | av => simp [resetPorts]

/-! ### The floor (R62, R64, R99) -/

/-- A slot that TABLE RESET frees (R99). -/
def cutData (x : Slot) : Slot := if x.state = .free then x else Slot.reset

theorem cutSlot_free (h : (p.slot k).state = .free) : p.cutSlot k = p := by simp [cutSlot, h]

theorem cutSlot_cuts (h : (p.slot k).state ≠ .free) : (p.cutSlot k).slotData = (p.setSlot k Slot.reset).slotData :=
  slotData_of_slots (by simp [cutSlot, h])

theorem cutSlot_data (p : Part) (k j : SlotId) : (p.cutSlot k).slotData j = if j = k then cutData (p.slotData j) else p.slotData j := by
  by_cases hfree : (p.slot k).state = .free
  · rw [cutSlot_free hfree]
    split
    next hj =>
      subst hj
      rw [cutData, slotData_state, if_pos hfree]
    next => rfl
  · rw [cutSlot_cuts hfree, setSlot_data]
    split
    next hj =>
      subst hj
      rw [cutData, slotData_state, if_neg hfree]
      rfl
    next => rfl

theorem cutAll_data (p : Part) (k : SlotId) : p.cutAll.slotData k = cutData (p.slotData k) := by
  have hfold := foldl_data (op := cutSlot) (P := fun _ => True) (F := cutData) (fun _ _ h => h) (fun r k _ j => cutSlot_data r k j)
    (l := allSlots) (p := p) nodup_allSlots trivial k
  rw [cutAll, retarget_data, hfold, if_pos (mem_allSlots k)]

theorem resetFloor_data (p : Part) (k : SlotId) : p.resetFloor.slotData k = cutData (p.slotData k) := by
  have hslots : p.resetFloor.sgu.slots = (p.setQueue []).cutAll.sgu.slots := by simp [resetFloor]
  rw [slotData_of_slots hslots, cutAll_data, slotData_of_slots (p := p) (by simp)]

theorem sameBut_resetFloor (p : Part) :
    SameBut [.floorMode, .floorLimit, .floorSpeak, .floorOpen, .queue, .openOrder, .slots, .released, .screens, .speakers, .notices]
      p p.resetFloor := by
  intro b hb
  cases b <;> simp_all [Piece.Same]

theorem resetFloor_floor (p : Part) :
    p.resetFloor.flc.queue = [] ∧ p.resetFloor.flc.openOrder = [] ∧ p.resetFloor.flc.isOpen = false ∧
      p.resetFloor.flc.mode = p.flc.preset.mode := by
  simp [resetFloor, applyFloorPreset, setQueue]

theorem applyFloorPreset_mask (hbit : (1#9) &&& n = 0) (p : Part) (f : FloorPreset) : MaskKept n p (p.applyFloorPreset f) :=
  .then_noticeIf hbit (by simp) _

theorem resetFloor_mask (hbit : (1#9) &&& n = 0) (p : Part) : MaskKept n p p.resetFloor := by
  have hqueue : MaskKept n p (p.setQueue []) := .then_noticeIf hbit (by simp) _
  have hcut : MaskKept n (p.setQueue []) (((p.setQueue []).cutAll).noticeIf (!p.allFree) .floor) := .then_noticeIf hbit (by simp) _
  unfold resetFloor
  exact (hqueue.trans hcut).trans ((MaskKept.then_noticeIf hbit (by simp) _).trans (applyFloorPreset_mask hbit _ _))

/-! ### The session (R59, R174, R176) -/

theorem closeRecords_number (p : Part) (x : Session) (r : CloseReason) :
    ∃ y ∈ (p.closeRecords x r).ssu.store.getLast?, y.reason = r ∧ y.number = p.ssu.nextSummary ∧ y.booking = x.booking := by
  rw [closeRecords_store]
  refine ⟨p.summaryOf x r, ?_, rfl, rfl, rfl⟩
  unfold storeAfter
  split <;> simp

theorem closeRecords_counters (p : Part) (x : Session) (r : CloseReason) (i : SeatId) :
    ((p.closeRecords x r).seat i).counters = Counters.zero := by
  have hseats : (p.closeRecords x r).smn.seats = (p.writeSummary (p.summaryOf x r)).clearCounters.smn.seats := by
    simp only [closeRecords]
    split <;> simp
  rw [seat, hseats]
  simp [clearCounters]

theorem sameBut_closeRecords (p : Part) (x : Session) (r : CloseReason) :
    SameBut [.seats, .banks, .store, .notices] p (p.closeRecords x r) := by
  intro b hb
  cases b <;> simp_all [Piece.Same]

/-- The part with an open session closed by TABLE RESET, before the pending start is dropped. -/
def sessionReset (p : Part) : Part := p.ssu.session.elim p fun x => (p.closeRecords x .reset).putSession none

theorem sessionReset_none (h : p.ssu.session = none) : p.sessionReset = p := by rw [sessionReset, h, Option.elim_none]

theorem sessionReset_open (h : p.ssu.session = some x) : p.sessionReset = (p.closeRecords x .reset).putSession none := by
  rw [sessionReset, h, Option.elim_some]

theorem resetSession_eq (p : Part) :
    p.resetSession =
      (p.sessionReset.setPendingStart none).withSsu { (p.sessionReset.setPendingStart none).ssu with dwell := 0 } := by
  unfold resetSession
  cases h : p.ssu.session with
  | none => rw [sessionReset_none h]
  | some x => rw [sessionReset_open h]

theorem sameBut_sessionReset (p : Part) : SameBut [.seats, .banks, .session, .store, .notices] p p.sessionReset := by
  cases h : p.ssu.session with
  | none =>
    rw [sessionReset_none h]
    exact .refl _ _
  | some x =>
    rw [sessionReset_open h]
    exact ((sameBut_closeRecords p _ _).mono (by simp)).trans ((sameBut_putSession _ _).mono (by simp))

/-- What TABLE RESET makes of an open session it makes before the pending start and the dwell. -/
theorem sameBut_sessionReset_resetSession (p : Part) : SameBut [.pendingStart, .dwell, .notices] p.sessionReset p.resetSession := by
  rw [resetSession_eq]
  exact ((sameBut_setPendingStart _ none).mono (by simp)).trans ((sameBut_setDwell _ 0).mono (by simp))

theorem sameBut_resetSession (p : Part) :
    SameBut [.seats, .banks, .session, .pendingStart, .dwell, .store, .notices] p p.resetSession :=
  ((sameBut_sessionReset p).mono (by simp)).trans ((sameBut_sessionReset_resetSession p).mono (by simp))

theorem resetSession_ssu (p : Part) :
    p.resetSession.ssu.session = none ∧ p.resetSession.ssu.pendingStart = none ∧ p.resetSession.ssu.dwell = 0 := by
  have hsession : p.sessionReset.ssu.session = none := by
    cases h : p.ssu.session with
    | none => rw [sessionReset_none h, h]
    | some x =>
      rw [sessionReset_open h]
      simp [putSession]
  refine ⟨((sameBut_sessionReset_resetSession p).session (by simp)).trans hsession, ?_, ?_⟩
  · simp [resetSession_eq, setPendingStart]
  · simp [resetSession_eq]

theorem putSession_mask (hbit : (32#9) &&& n = 0) (p : Part) (x : Option Session) : MaskKept n p (p.putSession x) :=
  (MaskKept.of_notices (by simp)).trans (.notice hbit _)

theorem setPendingStart_mask (hbit : (32#9) &&& n = 0) (p : Part) (x : Option Nat) : MaskKept n p (p.setPendingStart x) :=
  .then_noticeIf hbit (by simp) _

theorem markEntry_mask (hbit : (64#9) &&& n = 0) (p : Part) (id : Nat) (old new : EntryStatus) :
    MaskKept n p (p.markEntry id old new) := .then_noticeIf hbit (by simp) _

theorem writeSummary_mask (hbit : (128#9) &&& n = 0) (p : Part) (x : Summary) : MaskKept n p (p.writeSummary x) := by
  unfold writeSummary
  exact (MaskKept.of_notices (by simp)).trans (.notice hbit _)

theorem closeRecords_mask (hbits : (64#9) &&& n = 0 ∧ (128#9) &&& n = 0) (p : Part) (x : Session) (r : CloseReason) :
    MaskKept n p (p.closeRecords x r) := by
  have hwritten : MaskKept n p (p.writeSummary (p.summaryOf x r)).clearCounters :=
    (MaskKept.trans (q := p.writeSummary (p.summaryOf x r)) (writeSummary_mask hbits.2 p _) (.of_notices (by simp)))
  unfold closeRecords
  dsimp only
  split
  · exact hwritten.trans (markEntry_mask hbits.1 _ _ _ _)
  · exact hwritten

/-- TABLE RESET in SSU raises SESSION, SCHEDULE and SUMMARY alone. -/
theorem resetSession_mask (p : Part) : MaskKept 0x10E p p.resetSession := by
  have hclosed : MaskKept 0x10E p p.sessionReset := by
    cases h : p.ssu.session with
    | none =>
      rw [sessionReset_none h]
      exact .refl p
    | some x =>
      rw [sessionReset_open h]
      exact (closeRecords_mask (by decide) p _ _).trans (putSession_mask (by decide) _ _)
  rw [resetSession_eq]
  exact (hclosed.trans (setPendingStart_mask (by decide) _ none)).trans (.of_notices (by simp))

theorem resetSession_quiet (hsession : p.ssu.session = none) (hpending : p.ssu.pendingStart = none) :
    p.resetSession.notices = p.notices := by
  rw [resetSession_eq, sessionReset_none hsession]
  simp [setPendingStart, hpending, noticeIf]

/-- With a session open TABLE RESET raises SESSION and SUMMARY. -/
theorem resetSession_raises (h : p.ssu.session = some x) (a : Port) : (p.resetSession.notices a).1 &&& 0xA0 = 0xA0 := by
  have hsummary : ((p.closeRecords x .reset).notices a).1 &&& 128 = 128 := closeRecords_raises p x .reset a
  have hsession : ((p.sessionReset).notices a).1 &&& 0xA0 = 0xA0 := by
    rw [sessionReset_open h, putSession, notice_notices]
    have hput : ((p.closeRecords x .reset).setSession none).notices a = (p.closeRecords x .reset).notices a := by simp
    rw [hput]
    generalize ((p.closeRecords x .reset).notices a).1 = f at hsummary
    revert hsummary
    simp only [Category.bit]
    decide +revert
  have hgrows : NoticesGrow p.sessionReset.notices p.resetSession.notices := by
    rw [resetSession_eq]
    exact setPendingStart_grows (.refl _) none
  exact hgrows.flags hsession

end Part

end Sys2Proof.Machine
end

section
/-! The last stage of TABLE RESET, and the opening of a start that waited for the end of WAKING (R165, R176, R198, R202). -/

namespace Sys2Proof.Machine

namespace Part

variable {p q t : Part} {b : Booking} {x : Session} {e : Entry} {id : Nat} {start : Option Nat}

/-! ### The banks behind their entries (R150) -/

/-- The role, the state and the day of both banks are the same in two parts, and so is the staging bank. -/
structure BanksKept (p t : Part) : Prop where
  bankA : (t.sch.bankA.role, t.sch.bankA.state, t.sch.bankA.day) = (p.sch.bankA.role, p.sch.bankA.state, p.sch.bankA.day)
  bankB : (t.sch.bankB.role, t.sch.bankB.state, t.sch.bankB.day) = (p.sch.bankB.role, p.sch.bankB.state, p.sch.bankB.day)
  staging : t.staging = p.staging

namespace BanksKept

theorem refl (p : Part) : BanksKept p p := ⟨rfl, rfl, rfl⟩

theorem trans (h : BanksKept p q) (h' : BanksKept q t) : BanksKept p t :=
  ⟨h'.bankA.trans h.bankA, h'.bankB.trans h.bankB, h'.staging.trans h.staging⟩

theorem of_banks (h : t.sch.bankA = p.sch.bankA ∧ t.sch.bankB = p.sch.bankB) : BanksKept p t := by
  refine ⟨by rw [h.1], by rw [h.2], staging_of_banks h⟩

theorem withEntries (p : Part) (es : List Entry) : BanksKept p (p.withEntries es) := by
  refine ⟨?_, ?_, withEntries_staging p es⟩
  · cases hA : p.publishedIsA <;> simp [Part.withEntries, setPublished, published, hA]
  · cases hA : p.publishedIsA <;> simp [Part.withEntries, setPublished, published, hA]

theorem markEntry (p : Part) (id : Nat) (old new : EntryStatus) : BanksKept p (p.markEntry id old new) := by
  have hsch := markEntry_sch p id old new
  exact (withEntries p _).trans (.of_banks ⟨congrArg Sch.bankA hsch, congrArg Sch.bankB hsch⟩)

theorem same {bs : List Piece} (h : SameBut bs p t) (hbanks : .banks ∉ bs) : BanksKept p t := .of_banks (h .banks hbanks)

theorem closeRecords (p : Part) (x : Session) (r : CloseReason) : BanksKept p (p.closeRecords x r) := by
  have hwritten : BanksKept p (p.writeSummary (p.summaryOf x r)).clearCounters := .of_banks (by simp)
  unfold Part.closeRecords
  dsimp only
  split
  · exact hwritten.trans (markEntry _ _ _ _)
  · exact hwritten

theorem resetSession (p : Part) : BanksKept p p.resetSession := by
  refine trans (q := p.sessionReset) ?_ (.same (sameBut_sessionReset_resetSession p) (by simp))
  cases h : p.ssu.session with
  | none =>
    rw [sessionReset_none h]
    exact .refl p
  | some x =>
    rw [sessionReset_open h]
    exact (closeRecords p x _).trans (.same (sameBut_putSession _ none) (by simp))

theorem bookedSet (p : Part) (b : Booking) : BanksKept p (p.bookedSet b) := by
  have hput : BanksKept p (p.putSession (some (p.bookedSession b))) := .same (sameBut_putSession p _) (by simp)
  exact hput.trans ((markEntry _ b.id .pending .active).trans (.of_banks (by simp [Part.bookedSet])))

end BanksKept

/-! ### The opening of an entry whose end has not come (R162, R165) -/

theorem openBooked_waits (hcheck : b.checkIn = true) (hquorum : p.smn.occupied < b.quorum) : p.openBooked b = p.bookedSet b := by
  have hoccupied := (sameBut_bookedSet p b).occupied (by simp)
  rw [openBooked_eq, if_pos hcheck]
  simp [checkIn, bookedSet_session, bookedSession, hoccupied, Nat.not_le.mpr hquorum]

theorem openFloor_mask (p : Part) : MaskKept 0x10E p p.openFloor := .then_noticeIf (by decide) (by simp) _

theorem stageStep_mask (h : ∀ x ∈ p.ssu.session, p.stageFor x.effEnd ≠ .windup) : MaskKept 0x10E p p.stageStep := by
  unfold stageStep
  split
  next x hx =>
    split
    · dsimp only
      rw [if_neg (h x hx)]
      split
      · exact .refl p
      · exact putSession_mask (by decide) _ _
    · exact .refl p
  next => exact .refl p

theorem enterSession_mask (hstage : p.stageFor x.effEnd ≠ .windup) : MaskKept 0x10E p (p.enterSession x) := by
  have hopened : ((p.putSession (some (entered x))).openFloor).ssu.session = some (entered x) := by simp [putSession]
  have hsame := stageFor_same (p := p) (q := (p.putSession (some (entered x))).openFloor) (by simp [putSession]) (by simp [putSession]) x.effEnd
  refine ((putSession_mask (by decide) p (some (entered x))).trans (openFloor_mask _)).trans (stageStep_mask fun y hy => ?_)
  rw [hopened] at hy
  obtain rfl := Option.mem_some.mp hy
  rw [← hsame] at hstage
  exact hstage

theorem bookedSet_mask (p : Part) (b : Booking) : MaskKept 0x10E p (p.bookedSet b) :=
  (((putSession_mask (by decide) p (some (p.bookedSession b))).trans (markEntry_mask (by decide) _ b.id .pending .active)).trans ((setPendingStart_mask (by decide) _ none).trans
    (applyFloorPreset_mask (by decide) _ b.floor))).trans (.of_notices (by simp [bookedSet]))

/-- An entry whose end has not come opens and does not go to WINDUP. -/
theorem openBooked_stays (hend : p.sch.clock.minute < b.stop) :
    (∃ y, (p.openBooked b).ssu.session = some y ∧ y.state ≠ .windup) ∧
      SameBut [.session, .floorOpen, .notices] (p.bookedSet b) (p.openBooked b) ∧ MaskKept 0x10E p (p.openBooked b) := by
  have hset := sameBut_bookedSet p b
  have hstage : ∀ y : Session, y.effEnd = (p.bookedSession b).effEnd → (p.bookedSet b).stageFor y.effEnd ≠ .windup := fun y hy => by
    rw [hy, stageFor_before]
    · split <;> decide
    · rw [now, hset.clock (by simp), bookedSession]
      simp only
      omega
  have henter : ∀ y : Session, y.effEnd = (p.bookedSession b).effEnd →
      (∃ z, ((p.bookedSet b).enterSession y).ssu.session = some z ∧ z.state ≠ .windup) ∧
      SameBut [.session, .floorOpen, .notices] (p.bookedSet b) ((p.bookedSet b).enterSession y) ∧
      MaskKept 0x10E p ((p.bookedSet b).enterSession y) := fun y hy => by
    obtain ⟨hsession, -, hbut⟩ := enterSession_stays (hstage y hy)
    exact ⟨⟨_, hsession, hstage y hy⟩, hbut, (bookedSet_mask p b).trans (enterSession_mask (hstage y hy))⟩
  have hwaits : ∃ y, (p.bookedSet b).ssu.session = some y ∧ y.state ≠ .windup := ⟨_, bookedSet_session p b, by simp [bookedSession]⟩
  rw [openBooked_eq]
  split
  · unfold checkIn
    rw [bookedSet_session]
    dsimp only [bookedSession]
    split
    · exact henter _ rfl
    · exact ⟨hwaits, .refl _ _, bookedSet_mask p b⟩
  · exact henter _ rfl

/-- A coming entry of a current bank has its end before it. -/
theorem coming_before (hcurrent : p.isCurrent = true) (he : e ∈ p.comingEntries) : p.sch.clock.minute < e.booking.stop := by
  simp only [isCurrent, Bool.and_eq_true, decide_eq_true_eq] at hcurrent
  simp only [comingEntries, List.mem_filter, Bool.and_eq_true, Bool.not_eq_true', endReached, reached, now,
    decide_eq_false_iff_not, hcurrent.2] at he
  omega

theorem openPending_finds (hpending : p.ssu.pendingStart = some id) (hsession : p.ssu.session = none) (hpower : p.pwu.power = .active)
    (hcurrent : p.isCurrent = true) (he : p.comingEntries.find? (fun e => e.booking.id = id) = some e) :
    p.openPending = p.openBooked e.booking := by
  simp [openPending, hpending, sessionOpen, hsession, hpower, hcurrent, he]

theorem openPending_drops (hpending : p.ssu.pendingStart = some id) (hsession : p.ssu.session = none) (hpower : p.pwu.power = .active)
    (h : p.isCurrent = false ∨ p.comingEntries.find? (fun e => e.booking.id = id) = none) :
    p.openPending = p.setPendingStart none := by
  simp only [openPending, hpending, sessionOpen, hsession, hpower]
  cases hcurrent : p.isCurrent with
  | false => simp
  | true =>
    have hnone := h.resolve_left (by simp [hcurrent])
    simp [hnone]

theorem setPendingStart_none (h : p.ssu.pendingStart = none) : p.setPendingStart none = p := by
  simp only [setPendingStart, h, ne_eq, not_true_eq_false, decide_false, noticeIf]
  rw [if_neg (by simp), ← h]
  rfl

/-- A start that waits opens when its entry is coming, and is dropped when it is not. -/
theorem openPending_cases (hsession : p.ssu.session = none) (hpower : p.pwu.power = .active) :
    (p.openPending = p.setPendingStart none ∧
      (p.isCurrent = false ∨ ∀ id ∈ p.ssu.pendingStart, p.comingEntries.find? (fun e => e.booking.id = id) = none)) ∨
      ∃ id e, p.ssu.pendingStart = some id ∧ p.isCurrent = true ∧ p.comingEntries.find? (fun e => e.booking.id = id) = some e ∧
        p.openPending = p.openBooked e.booking := by
  cases hpending : p.ssu.pendingStart with
  | none => exact .inl ⟨by rw [openPending_none hpending, setPendingStart_none hpending], .inr (by simp)⟩
  | some id =>
    cases hcurrent : p.isCurrent with
    | false => exact .inl ⟨openPending_drops hpending hsession hpower (.inl hcurrent), .inl rfl⟩
    | true =>
      cases he : p.comingEntries.find? (fun e => e.booking.id = id) with
      | none => exact .inl ⟨openPending_drops hpending hsession hpower (.inr he), .inr (by simpa using he)⟩
      | some e => exact .inr ⟨id, e, rfl, rfl, he, openPending_finds hpending hsession hpower hcurrent he⟩

/-! ### The power state (R198, R202) -/

/-- PWU at a TABLE RESET before a start that waited opens: ACTIVE, with the quiet timer and the settle at 0. -/
def resetAwake (p : Part) (start : Option Nat) : Part :=
  ((p.clearQuiet.withSsu { p.clearQuiet.ssu with pendingStart := start }).withPwu { p.clearQuiet.pwu with settle := 0 }).changePower
    .active

theorem resetPower_active (h : p.pwu.power ≠ .waking) : p.resetPower start = p.clearQuiet.changePower .active := by
  have hpower : p.clearQuiet.pwu.power ≠ .waking := by simpa using h
  rw [resetPower, if_neg hpower]

/-- A start that waited opens into no WINDUP. -/
theorem openPending_state (hsession : p.ssu.session = none) (hpower : p.pwu.power = .active) :
    ∀ y ∈ p.openPending.ssu.session, y.state ≠ .windup := by
  intro y hy
  obtain ⟨hdrops, -⟩ | ⟨id, e, -, hcurrent, he, hopens⟩ := openPending_cases hsession hpower
  · rw [hdrops, (sameBut_setPendingStart p none).session (by simp), hsession] at hy
    simp at hy
  · obtain ⟨⟨z, hz, hstate⟩, -⟩ := openBooked_stays (coming_before hcurrent (List.mem_of_find?_eq_some he))
    rw [hopens, hz] at hy
    obtain rfl := Option.mem_some.mp hy
    exact hstate

theorem sameBut_resetAwake (p : Part) (start : Option Nat) :
    SameBut [.quiet, .pendingStart, .settle, .power, .notices] p (p.resetAwake start) := by
  intro b hb
  cases b <;> simp_all [Piece.Same, resetAwake]

theorem resetAwake_power (p : Part) (start : Option Nat) :
    (p.resetAwake start).pwu.power = .active ∧ (p.resetAwake start).pwu.quiet = 0 := by
  simp [resetAwake, clearQuiet, changePower]

theorem resetPower_waking (h : p.pwu.power = .waking) (hsession : p.ssu.session = none) (hdwell : p.ssu.dwell = 0)
    (hparams : p.ssu.params.dwell ≠ 0) : p.resetPower start = (p.resetAwake start).openPending := by
  have hpower : p.clearQuiet.pwu.power = .waking := by simpa using h
  have hreset : p.resetPower start = ((p.resetAwake start).openPending.closeWindup).repeatWalkIn := by
    rw [resetPower, if_pos hpower]
    rfl
  have hsame := sameBut_resetAwake p start
  have hnone := (hsame.session (by simp)).trans hsession
  have hactive := (resetAwake_power p start).1
  have hzero : (p.resetAwake start).openPending.ssu.dwell = 0 := openPending_dwell (by
    have h : (p.resetAwake start).ssu.dwell = p.ssu.dwell := hsame .dwell (by simp)
    exact h.trans hdwell)
  have hlength : (p.resetAwake start).openPending.ssu.params = p.ssu.params := by
    have h : (p.resetAwake start).openPending.ssu.params = (p.resetAwake start).ssu.params := by simp
    exact h.trans (hsame.params (by simp))
  rw [hreset, closeWindup_stays (openPending_state hnone hactive), repeatWalkIn_stays (.inr (by rw [hzero, hlength]; omega))]

theorem changePower_raises (p : Part) (y : PowerState) (a : Port) :
    (p.changePower y).notices a = ((p.notices a).1 ||| (if p.pwu.power ≠ y then Category.power.bit else 0), (p.notices a).2) := by
  have h : (p.setPower y).notices a = p.notices a := by simp
  rw [changePower, noticeIf_notices, h]
  simp

theorem resetPower_grows (p : Part) (start : Option Nat) : NoticesGrow p.notices (p.resetPower start).notices := by
  have hquiet : p.clearQuiet.notices = p.notices := by simp
  have hgrows : NoticesGrow p.notices p.clearQuiet.notices := hquiet ▸ .refl _
  simp only [resetPower]
  split
  · exact endSettling_grows (p := p.clearQuiet.withSsu { p.clearQuiet.ssu with pendingStart := start }) hgrows
  · exact changePower_grows hgrows .active

/-- What PWU's stage of TABLE RESET comes to, with the start that waited for the end of WAKING. -/
structure PowerReset (p t : Part) : Prop where
  same : SameBut [.session, .banks, .pendingStart, .floorMode, .floorLimit, .floorSpeak, .floorOpen, .screens, .dwell, .power, .quiet,
    .settle, .notices] p t
  banks : BanksKept p t
  pendingStart : t.ssu.pendingStart = none
  dwell : t.ssu.dwell = 0
  power : t.pwu.power = .active
  quiet : t.pwu.quiet = 0
  mask : MaskKept 0x0E p t
  flag : ∀ a, (t.notices a).1 &&& 256 = ((p.notices a).1 ||| if p.pwu.power ≠ .active then 256 else 0) &&& 256

theorem resetAwake_notices (p : Part) (start : Option Nat) (a : Port) :
    (p.resetAwake start).notices a = ((p.notices a).1 ||| (if p.pwu.power ≠ .active then Category.power.bit else 0), (p.notices a).2) := by
  rw [resetAwake, changePower_raises]
  have hpower : ((p.clearQuiet.withSsu { p.clearQuiet.ssu with pendingStart := start }).withPwu
      { p.clearQuiet.pwu with settle := 0 }).pwu.power = p.pwu.power := by simp [clearQuiet]
  have hnotices : ((p.clearQuiet.withSsu { p.clearQuiet.ssu with pendingStart := start }).withPwu
      { p.clearQuiet.pwu with settle := 0 }).notices a = p.notices a := by simp
  rw [hpower, hnotices]

theorem mask_or_power {f g : BitVec 9} (b : Prop) [Decidable b] (h : f = g ||| if b then Category.power.bit else 0) :
    f &&& 0x0E = g &&& 0x0E ∧ f &&& 0xE0 = g &&& 0xE0 := by
  subst h
  split
  · have hbit : Category.power.bit = 256#9 := rfl
    rw [hbit]
    decide +revert
  · simp

theorem openPending_reset (hsession : p.ssu.session = none) (hpower : p.pwu.power = .active) :
    SameBut [.session, .banks, .pendingStart, .floorMode, .floorLimit, .floorSpeak, .floorOpen, .screens, .dwell, .notices] p
      p.openPending ∧ BanksKept p p.openPending ∧ p.openPending.ssu.pendingStart = none ∧ MaskKept 0x10E p p.openPending := by
  obtain ⟨hdrops, -⟩ | ⟨id, e, -, hcurrent, he, hopens⟩ := openPending_cases hsession hpower
  · rw [hdrops]
    have hsame := sameBut_setPendingStart p none
    exact ⟨hsame.mono (by simp), .same hsame (by simp), by simp [setPendingStart], setPendingStart_mask (by decide) p none⟩
  · obtain ⟨-, hbut, hmask⟩ := openBooked_stays (coming_before hcurrent (List.mem_of_find?_eq_some he))
    rw [hopens]
    have hset := sameBut_bookedSet p e.booking
    exact ⟨(hset.mono (by simp)).trans (hbut.mono (by simp)), (BanksKept.bookedSet p _).trans (.same hbut (by simp)),
      (hbut.pendingStart (by simp)).trans (bookedSet_pendingStart p _), hmask⟩

theorem powerReset (hpower : p.pwu.power ≠ .standby) (hssu : p.ssu.session = none ∧ p.ssu.pendingStart = none ∧ p.ssu.dwell = 0)
    (hparams : p.ssu.params.dwell ≠ 0) (start : Option Nat) : PowerReset p (p.resetPower start) := by
  obtain ⟨hsession, hpending, hdwell⟩ := hssu
  cases hp : p.pwu.power with
  | standby => exact absurd hp hpower
  | active =>
    rw [resetPower_active (by rw [hp]; decide)]
    have hsame : SameBut [.quiet, .power, .notices] p (p.clearQuiet.changePower .active) := by
      intro b hb
      cases b <;> simp_all [Piece.Same]
    have hnotices : ∀ a, (p.clearQuiet.changePower .active).notices a = p.notices a := fun a => by
      have h : p.clearQuiet.notices a = p.notices a := by simp
      rw [changePower_raises, h]
      simp [clearQuiet, hp]
    refine ⟨hsame.mono (by simp), .same hsame (by simp), (hsame.pendingStart (by simp)).trans hpending, ?_, by simp [changePower],
      by simp [changePower, clearQuiet], .of_notices (funext hnotices), fun a => ?_⟩
    · have h : (p.clearQuiet.changePower .active).ssu.dwell = p.ssu.dwell := hsame .dwell (by simp)
      exact h.trans hdwell
    · rw [hnotices, hp]
      simp
  | waking =>
    rw [resetPower_waking hp hsession hdwell hparams]
    have hawake := sameBut_resetAwake p start
    obtain ⟨hactive, hquiet⟩ := resetAwake_power p start
    have hzero : (p.resetAwake start).ssu.dwell = 0 := by
      have h : (p.resetAwake start).ssu.dwell = p.ssu.dwell := hawake .dwell (by simp)
      exact h.trans hdwell
    obtain ⟨hsame, hbanks, hnone, hmask⟩ := openPending_reset ((hawake.session (by simp)).trans hsession) hactive
    have hpwu := hsame.pwu (by decide)
    have hnotices := resetAwake_notices p start
    generalize p.resetAwake start = w at *
    refine ⟨(hawake.mono (by simp)).trans (hsame.mono (by simp)), (BanksKept.same hawake (by simp)).trans hbanks, hnone,
      openPending_dwell hzero, by rw [hpwu, hactive], by rw [hpwu, hquiet], fun a => ?_, fun a => ?_⟩
    · obtain ⟨hflags, hcauses⟩ := hmask.mono (m := 0x0E) (by decide) a
      rw [hflags, hcauses, hnotices]
      exact ⟨(mask_or_power _ rfl).1, rfl⟩
    · obtain ⟨hflags, -⟩ := hmask.mono (m := 256) (by decide) a
      rw [hflags, hnotices, hp]
      rfl

end Part

end Sys2Proof.Machine
end

section
/-! Settling O54: TABLE RESET (R59, R62, R64, R99, R137, R150, R174, R176, R178, R194, R198, R202). -/

namespace Sys2Proof.Machine

theorem SameBut.scu {bs : List Piece} {p t : Part} (h : SameBut bs p t)
    (hbs : ∀ b ∈ [Piece.sockets, .rates, .counts, .fixedInputs], b ∉ bs) : t.scu = p.scu := by
  have hsockets : t.scu.sockets = p.scu.sockets := h .sockets (hbs _ (by simp))
  have hrates : t.scu.rates = p.scu.rates := h .rates (hbs _ (by simp))
  obtain ⟨hagree, hdrop⟩ : t.scu.agree = p.scu.agree ∧ _ := h .counts (hbs _ (by simp))
  obtain ⟨hpc, hcodec⟩ : t.scu.pc = p.scu.pc ∧ _ := h .fixedInputs (hbs _ (by simp))
  generalize t.scu = a at *
  generalize p.scu = b at *
  cases a
  cases b
  simp_all

namespace Part

variable {p q t : Part} {n : BitVec 9} {x : Session} {e : Entry} {id : Nat}

/-- The part after the stages of TABLE RESET before PWU's. -/
def tableCleared (p : Part) : Part := ((p.resetPorts.resetFloor).resetSession).applyPreset 0

theorem tableReset_eq (p : Part) : p.tableReset = p.tableCleared.resetPower p.startAtWake := rfl

theorem sameBut_resetPorts (p : Part) : SameBut [.requests .chair, .requests .av, .notices] p p.resetPorts := by
  intro b hb
  cases b with
  | requests a =>
    cases a with
    | room => exact resetPorts_line p
    | chair => simp at hb
    | av => simp at hb
  | notices => simp at hb
  | _ => simp_all [Piece.Same]

theorem sameBut_ports_cleared (p : Part) :
    SameBut [.notices, .floorMode, .floorLimit, .floorSpeak, .floorOpen, .queue, .openOrder, .slots, .released, .screens, .speakers,
      .seats, .banks, .session, .pendingStart, .dwell, .store] p.resetPorts p.tableCleared :=
  ((sameBut_resetFloor _).mono (by simp)).trans (((sameBut_resetSession _).mono (by simp)).trans
    ((sameBut_takeSettings _ _).mono (by simp)))

theorem tableCleared_ssu (p : Part) :
    p.tableCleared.ssu.session = none ∧ p.tableCleared.ssu.pendingStart = none ∧ p.tableCleared.ssu.dwell = 0 := by
  have hssu : p.tableCleared.ssu = p.resetPorts.resetFloor.resetSession.ssu := by simp [tableCleared]
  rw [hssu]
  exact resetSession_ssu _

theorem tableCleared_floor (p : Part) :
    p.tableCleared.flc.queue = [] ∧ p.tableCleared.flc.openOrder = [] ∧ p.tableCleared.flc.isOpen = false ∧
      p.tableCleared.flc.mode = p.flc.preset.mode := by
  have hflc : p.tableCleared.flc = p.resetPorts.resetFloor.flc := by simp [tableCleared]
  have hpreset : p.resetPorts.flc = p.flc := by simp
  rw [hflc, ← hpreset]
  exact resetFloor_floor _

theorem tableCleared_data (p : Part) (k : SlotId) : p.tableCleared.slotData k = cutData (p.slotData k) := by
  have hslots : p.tableCleared.sgu.slots = p.resetPorts.resetFloor.sgu.slots := by simp [tableCleared]
  rw [slotData_of_slots hslots, resetFloor_data, slotData_of_slots (p := p) (by simp)]

theorem tableCleared_set (p : Part) (k : ScreenId) : (p.tableCleared.screen k).set = (p.rtu.presets.get 0).get k := by
  have hpresets : p.resetPorts.resetFloor.resetSession.rtu.presets = p.rtu.presets := by simp
  rw [tableCleared, applyPreset_set, hpresets]

theorem tableCleared_banks (p : Part) : BanksKept p p.tableCleared :=
  ((BanksKept.same (sameBut_resetPorts p) (by simp)).trans (.same (sameBut_resetFloor _) (by simp))).trans
    ((BanksKept.resetSession _).trans (.same (sameBut_takeSettings _ _) (by simp)))

theorem applyPreset_notices (p : Part) (m : Fin 4) : (p.applyPreset m).notices = p.notices := by simp

theorem cleared_of_mask (h : MaskKept n p.resetPorts t) (a : Port) : (t.notices a).1 &&& n = 0 ∧ (t.notices a).2 = 0 := by
  obtain ⟨hflags, hcauses⟩ := h a
  rw [resetPorts_notices] at hflags hcauses
  exact ⟨by simpa using hflags, hcauses⟩

/-- TABLE RESET leaves no flag of SEAT, SENSE and SOURCE, none of POWER before PWU's stage, and no cause mark. -/
theorem tableCleared_mask (p : Part) (a : Port) : (p.tableCleared.notices a).1 &&& 0x10E = 0 ∧ (p.tableCleared.notices a).2 = 0 :=
  cleared_of_mask (((resetFloor_mask (by decide) _).trans (resetSession_mask _)).trans (.of_notices (applyPreset_notices _ _))) a

theorem tableCleared_quiet (hsession : p.ssu.session = none) (hpending : p.ssu.pendingStart = none) (a : Port) :
    (p.tableCleared.notices a).1 &&& 0xE0 = 0 := by
  have hssu : p.resetPorts.resetFloor.ssu = p.ssu := by simp
  have hquiet := resetSession_quiet (p := p.resetPorts.resetFloor) (by rw [hssu, hsession]) (by rw [hssu, hpending])
  exact (cleared_of_mask (((resetFloor_mask (by decide) _).trans (.of_notices hquiet)).trans (.of_notices (applyPreset_notices _ _))) a).1

theorem tableCleared_raises (h : p.ssu.session = some x) (a : Port) : (p.tableCleared.notices a).1 &&& 0xA0 = 0xA0 := by
  have hssu : p.resetPorts.resetFloor.ssu = p.ssu := by simp
  rw [tableCleared, applyPreset_notices]
  exact resetSession_raises (by rw [hssu, h]) a

/-- The summary of a session that TABLE RESET closes, and the counters (R59, R178). -/
theorem tableCleared_closes (h : p.ssu.session = some x) :
    (∃ y ∈ p.tableCleared.ssu.store.getLast?, y.reason = .reset ∧ y.number = p.ssu.nextSummary ∧ y.booking = x.booking) ∧
      ∀ i, (p.tableCleared.seat i).counters = Counters.zero := by
  have hssu : p.resetPorts.resetFloor.ssu = p.ssu := by simp
  set r := p.resetPorts.resetFloor with hr
  have hclosed : SameBut [.session, .pendingStart, .dwell, .screens, .notices] (r.closeRecords x .reset) p.tableCleared := by
    have hopen := sessionReset_open (p := r) (by rw [hssu, h])
    have hreset := sameBut_sessionReset_resetSession r
    rw [hopen] at hreset
    exact ((sameBut_putSession _ none).mono (by simp)).trans ((hreset.mono (by simp)).trans ((sameBut_takeSettings _ _).mono (by simp)))
  rw [hclosed.store (by simp)]
  refine ⟨?_, fun i => ?_⟩
  · rw [← hssu]
    exact closeRecords_number r x .reset
  · rw [hclosed.seat (by simp)]
    exact closeRecords_counters r x .reset i

theorem tableCleared_store (h : p.ssu.session = none) : p.tableCleared.ssu.store = p.ssu.store := by
  have hssu : p.resetPorts.resetFloor.ssu = p.ssu := by simp
  have hreset := sameBut_sessionReset_resetSession p.resetPorts.resetFloor
  rw [sessionReset_none (by rw [hssu, h])] at hreset
  have hstore : p.tableCleared.ssu.store = p.resetPorts.resetFloor.resetSession.ssu.store := by simp [tableCleared]
  rw [hstore, hreset.store (by simp), hssu]

theorem tableCleared_power (p : Part) : p.tableCleared.pwu = p.pwu := by simp [tableCleared]

/-! ### The end of the event -/

theorem conclude_mask {before after : Part} (hbit : (16#9) &&& n = 0) (h : after.ssu.params.dwell ≠ 0) :
    MaskKept n after (conclude before after) := by
  have hdwell : (concludeDwell before after).notices = after.notices := by
    unfold concludeDwell
    split
    · simp
    · rw [if_neg (by simp [h])]
  have hroute : MaskKept n (concludeDwell before after)
      ((concludeDwell before after).noticeIf (routeChanged before (concludeDwell before after)) .route) :=
    .noticeIf (c := .route) hbit _ _
  have hrouting : MaskKept n (concludeDwell before after) (concludeRouting before (concludeDwell before after)) :=
    hroute.trans (.of_notices (by simp [concludeRouting]))
  exact ((MaskKept.of_notices hdwell).trans hrouting).trans (.of_notices (by simp [conclude]))

theorem conclude_zero {before after : Part} (h : after.ssu.params.dwell ≠ 0) (hzero : after.ssu.dwell = 0) :
    (conclude before after).ssu.dwell = 0 := by
  have hssu : (conclude before after).ssu = (concludeDwell before after).ssu := by simp [conclude, concludeRouting]
  rw [hssu, concludeDwell]
  split
  · rfl
  · rw [if_neg (by simp [h])]
    exact hzero

theorem tableCleared_sameDay (h : p.ssu.session = none) : SameDay p p.tableCleared := by
  have hssu : p.resetPorts.resetFloor.ssu = p.ssu := by simp
  have hreset := sameBut_sessionReset_resetSession p.resetPorts.resetFloor
  rw [sessionReset_none (by rw [hssu, h])] at hreset
  have hsame : SameBut [.requests .chair, .requests .av, .floorMode, .floorLimit, .floorSpeak, .floorOpen, .queue, .openOrder, .slots,
      .released, .screens, .speakers, .notices, .pendingStart, .dwell] p p.tableCleared :=
    ((sameBut_resetPorts p).mono (by simp)).trans (((sameBut_resetFloor _).mono (by simp)).trans ((hreset.mono (by simp)).trans
      ((sameBut_takeSettings _ _).mono (by simp))))
  exact (SameDay.refl p).sameBut hsame (by simp) (by simp)

theorem sameDay_resetAwake (h : p.ssu.session = none) (start : Option Nat) : SameDay p (p.tableCleared.resetAwake start) :=
  (tableCleared_sameDay h).sameBut (sameBut_resetAwake _ start) (by simp) (by simp)

theorem startAtWake_some (h : p.startAtWake = some id) :
    p.pwu.power = .waking ∧ p.ssu.session = none ∧ p.ssu.pendingStart = some id := by
  unfold startAtWake at h
  split at h
  next hc => exact ⟨hc.1, hc.2, h⟩
  next => simp at h

/-- No start waits that still qualifies at the end of WAKING (R176, R202). -/
def NoStart (p : Part) : Prop :=
  p.pwu.power ≠ .waking ∨ p.ssu.session ≠ none ∨ p.isCurrent = false ∨
    ∀ id ∈ p.ssu.pendingStart, ∀ e ∈ p.comingEntries, e.booking.id ≠ id

/-- TABLE RESET without a start that follows it opens nothing. -/
theorem tableReset_plain (h : NoStart p) (hparams : p.ssu.params.dwell ≠ 0) :
    SameBut [.pendingStart, .quiet, .settle, .power, .notices] p.tableCleared p.tableReset := by
  obtain ⟨hsession, -, hdwell⟩ := tableCleared_ssu p
  have hpwu := tableCleared_power p
  rw [tableReset_eq]
  by_cases hwaking : p.pwu.power = .waking
  · have hlength : p.tableCleared.ssu.params = p.ssu.params := by simp [tableCleared]
    rw [resetPower_waking (by rw [hpwu, hwaking]) hsession hdwell (by rw [hlength]; exact hparams)]
    have hawake := sameBut_resetAwake p.tableCleared p.startAtWake
    obtain ⟨hdrops, -⟩ | ⟨id, e, hstart, hcurrent, he, -⟩ := openPending_cases ((hawake.session (by simp)).trans hsession)
      (resetAwake_power _ _).1
    · rw [hdrops]
      exact (hawake.mono (by simp)).trans ((sameBut_setPendingStart _ none).mono (by simp))
    · have hpending : p.startAtWake = some id := by
        have hset : (p.tableCleared.resetAwake p.startAtWake).ssu.pendingStart = p.startAtWake := by simp [resetAwake]
        exact hset.symm.trans hstart
      obtain ⟨-, hnone, hwaits⟩ := startAtWake_some hpending
      have hday := sameDay_resetAwake hnone p.startAtWake
      rw [hday.isCurrent] at hcurrent
      rw [hday.coming] at he
      have hfound := List.find?_some he
      obtain h | h | h | h := h
      · exact absurd hwaking h
      · exact absurd hnone h
      · simp [h] at hcurrent
      · exact absurd (by simpa using hfound) (h id hwaits e (List.mem_of_find?_eq_some he))
  · rw [resetPower_active (by rw [hpwu]; exact hwaking)]
    intro b hb
    cases b <;> simp_all [Piece.Same]

/-- The start that waited for the end of WAKING opens, and its check-in is awaited. -/
theorem tableReset_opens (hwaking : p.pwu.power = .waking) (hsession : p.ssu.session = none) (hpending : p.ssu.pendingStart = some id)
    (hcurrent : p.isCurrent = true) (he : p.comingEntries.find? (fun x => x.booking.id = id) = some e)
    (hcheck : e.booking.checkIn = true) (hquorum : p.smn.occupied < e.booking.quorum) (hparams : p.ssu.params.dwell ≠ 0) :
    p.tableReset = (p.tableCleared.resetAwake p.startAtWake).bookedSet e.booking := by
  obtain ⟨hnone, -, hdwell⟩ := tableCleared_ssu p
  have hlength : p.tableCleared.ssu.params = p.ssu.params := by simp [tableCleared]
  have hday := sameDay_resetAwake hsession p.startAtWake
  have hawake := sameBut_resetAwake p.tableCleared p.startAtWake
  have hset : (p.tableCleared.resetAwake p.startAtWake).ssu.pendingStart = some id := by
    have h : (p.tableCleared.resetAwake p.startAtWake).ssu.pendingStart = p.startAtWake := by simp [resetAwake]
    rw [h, startAtWake, if_pos ⟨hwaking, hsession⟩, hpending]
  have hoccupied : (p.tableCleared.resetAwake p.startAtWake).smn.occupied = p.smn.occupied := by simp [resetAwake, tableCleared]
  rw [tableReset_eq, resetPower_waking (by rw [tableCleared_power, hwaking]) hnone hdwell (by rw [hlength]; exact hparams),
    openPending_finds hset ((hawake.session (by simp)).trans hnone) (resetAwake_power _ _).1 (by rw [hday.isCurrent, hcurrent])
      (by rw [hday.coming]; exact he), openBooked_waits hcheck (by rw [hoccupied]; exact hquorum)]

/-- With no start that waited PWU's stage raises none of SESSION, SCHEDULE and SUMMARY. -/
theorem resetPower_quiet (hpower : p.pwu.power ≠ .standby) (hsession : p.ssu.session = none) (hdwell : p.ssu.dwell = 0)
    (hparams : p.ssu.params.dwell ≠ 0) : MaskKept 0xE0 p (p.resetPower none) := fun a => by
  have hnotices : (p.resetPower none).notices a =
      ((p.notices a).1 ||| (if p.pwu.power ≠ .active then Category.power.bit else 0), (p.notices a).2) := by
    cases hp : p.pwu.power with
    | standby => exact absurd hp hpower
    | active =>
      have hquiet : p.clearQuiet.notices a = p.notices a := by simp
      rw [resetPower_active (by rw [hp]; decide), changePower_raises, hquiet]
      simp [clearQuiet, hp]
    | waking =>
      rw [resetPower_waking hp hsession hdwell hparams, openPending_none (by simp [resetAwake]), resetAwake_notices, hp]
  rw [hnotices]
  exact ⟨(mask_or_power _ rfl).2, rfl⟩

end Part

variable {s : State} {tag : Byte}

/-- The part as TABLE RESET is served to it. -/
abbrev resetServed (p : Part) (tag : Byte) : Part := p.taken .room ⟨0x4E, tag, 0, []⟩

theorem slot_cut {p t : Part} {k : SlotId} (h : t.slotData k = Part.cutData (p.slotData k)) :
    (t.slot k).state = .free ∧ ((p.slot k).state ≠ .free → (t.slot k).gain = 0 ∧ (t.slot k).holder = none) := by
  rw [← Part.slotData_state t, ← Part.slotData_gain t, ← Part.slotData_holder t, ← Part.slotData_state p, h]
  generalize p.slotData k = x
  unfold Part.cutData
  split
  next hfree => exact ⟨hfree, fun hne => absurd hfree hne⟩
  next => exact ⟨rfl, fun _ => ⟨rfl, rfl⟩⟩

/-- TABLE RESET: what its last stage leaves stands at the end of the event. -/
theorem completes_tableReset (hport : Listening s.part .room) (hdwell : s.part.ssu.params.dwell ≠ 0) :
    Completes (.tableReset .room tag) s fun t =>
      Answered t .room tag .done [[]] ∧ Part.PowerReset (resetServed s.part tag).tableCleared (resetServed s.part tag).tableReset ∧
        SameBut [.requests .room, .dwell, .screens, .notices] (resetServed s.part tag).tableReset t ∧ t.ssu.dwell = 0 ∧
        (∀ k, (t.screen k).set = (((resetServed s.part tag).tableReset).screen k).set) ∧
        ∀ n, (16#9) &&& n = 0 → Part.MaskKept n (resetServed s.part tag).tableReset t := by
  set q := resetServed s.part tag with hq
  have hserve : q.serveOwner .room ⟨0x4E, tag, 0, []⟩ = (q.tableReset, .done, []) := rfl
  have hreset : Part.PowerReset q.tableCleared q.tableReset :=
    Part.powerReset (by rw [Part.tableCleared_power]; exact hport.1.2) (Part.tableCleared_ssu q)
      (by
        have h : q.tableCleared.ssu.params = q.ssu.params := by simp [Part.tableCleared]
        rw [h]
        exact hdwell) q.startAtWake
  have hline : q.tableReset.line .room = q.line .room := by
    have h1 : q.tableReset.line .room = q.tableCleared.line .room := hreset.same (.requests .room) (by simp)
    have h2 : q.tableCleared.line .room = q.resetPorts.line .room := Part.sameBut_ports_cleared q (.requests .room) (by simp)
    exact (h1.trans h2).trans (Part.resetPorts_line q)
  have hparams : q.tableReset.ssu.params = s.part.ssu.params := by simp [hq]
  refine completes_served (c := .tableReset .room tag) rfl (Part.idle_listening hport)
    (Part.checkRequest_run (c := .tableReset .room tag) rfl (by decide : Permitted .room (0x4E : Byte).toNat) hport.1.1)
    (by decide : (0x4E : Byte) ≠ portResetCode) hserve hline ?_
  rintro t ht hans
  set u := q.tableReset.replied .room ⟨tag, .done, framesOf 0x4E []⟩ with hu
  have hlength : u.ssu.params.dwell ≠ 0 := by
    have h : u.ssu.params = q.tableReset.ssu.params := by simp [hu]
    rw [h, hparams]
    exact hdwell
  have hreplied : SameBut [.requests .room] q.tableReset u := Part.sameBut_replied _ _ _
  have hend := Part.sameBut_conclude_dwell (before := s.part) (after := u) (.inr hlength)
  have hzero : u.ssu.dwell = 0 := by
    have h : u.ssu.dwell = q.tableReset.ssu.dwell := hreplied .dwell (by simp)
    exact h.trans hreset.dwell
  subst ht
  refine ⟨hans, hreset, (hreplied.mono (by simp)).trans (hend.mono (by simp)), Part.conclude_zero hlength hzero, fun k => ?_,
    fun n hn => ?_⟩
  · rw [Part.conclude_set (.inr hlength), hreplied.screen (by simp)]
  · exact (Part.MaskKept.of_notices (hreplied .notices (by simp))).trans (Part.conclude_mask hn hlength)

theorem power_raised (g : BitVec 9) : (g ||| 256) &&& 256 ≠ 0 := by decide +revert

theorem block_flags_clear {g : BitVec 9} (h : g &&& 0x10E = 0) : g &&& 256 = 0 ∧ g &&& 0x0E = 0 := by
  revert h
  decide +revert

/-- The flags and cause marks that TABLE RESET leaves (R189, R194). -/
theorem reset_flags {p t : Part} (hreset : Part.PowerReset p.tableCleared p.tableReset)
    (hend : ∀ n, (16#9) &&& n = 0 → Part.MaskKept n p.tableReset t) (q : Port) :
    (t.port q).causes = 0 ∧ (t.port q).flags &&& 0x0E = 0 ∧ ((t.port q).flags &&& 256 ≠ 0 ↔ p.pwu.power ≠ .active) := by
  obtain ⟨hcleared, hcauses⟩ := Part.tableCleared_mask p q
  obtain ⟨hsense, hmarks⟩ := (hreset.mask.trans (hend 0x0E (by decide))) q
  have hpower : (t.port q).flags &&& 256 = _ := ((hend 256 (by decide)) q).1.trans (hreset.flag q)
  obtain ⟨hclear, hblocks⟩ := block_flags_clear hcleared
  refine ⟨hmarks.trans hcauses, hsense.trans hblocks, ?_⟩
  rw [hpower, Part.tableCleared_power]
  by_cases hactive : p.pwu.power = .active
  · simpa [hactive] using hclear
  · simp only [ne_eq, hactive, not_false_eq_true, if_true, iff_true]
    exact power_raised _

/-- Settles O54: the stages of TABLE RESET, and the start that waited for the end of WAKING. -/
theorem tableResetClears : Obligations.TableResetClears := by
  unfold Obligations.TableResetClears
  intro tag s hport _ hdwell
  refine (completes_tableReset hport hdwell).mono ?_
  rintro t ⟨hans, hreset, hend, hzero, hset, hmask⟩
  have hflags := reset_flags hreset hmask
  set p := resetServed s.part tag with hp
  have hlines : ∀ q, p.tableReset.line q = p.resetPorts.line q := fun q => by
    have h1 : p.tableReset.line q = p.tableCleared.line q := hreset.same (.requests q) (by simp)
    have h2 : p.tableCleared.line q = p.resetPorts.line q := Part.sameBut_ports_cleared p (.requests q) (by simp)
    exact h1.trans h2
  have hcleared : SameBut [.requests .room, .dwell, .screens, .notices, .session, .banks, .pendingStart, .floorMode, .floorLimit,
      .floorSpeak, .floorOpen, .power, .quiet, .settle] p.tableCleared t := (hreset.same.mono (by simp)).trans (hend.mono (by simp))
  obtain ⟨hqueue, horder, hclosed, hmode⟩ := Part.tableCleared_floor p
  obtain ⟨hnosession, -, hnodwell⟩ := Part.tableCleared_ssu p
  have hparams : p.tableCleared.ssu.params.dwell ≠ 0 := by
    have h : p.tableCleared.ssu.params = p.ssu.params := by simp [Part.tableCleared]
    rw [h]
    exact hdwell
  have hbefore : SameBut [.requests .room, .requests .chair, .requests .av, .notices, .floorMode, .floorLimit, .floorSpeak, .floorOpen,
      .queue, .openOrder, .slots, .released, .screens, .speakers, .seats, .banks, .session, .pendingStart, .dwell, .store, .power,
      .quiet, .settle] s.part t :=
    ((Part.sameBut_taken s.part .room _).mono (by simp)).trans (((Part.sameBut_resetPorts p).mono (by simp)).trans
      (((Part.sameBut_ports_cleared p).mono (by simp)).trans (hcleared.mono (by simp))))
  have hpwu := hend.pwu (by decide)
  have hbanks : Part.BanksKept p t := (Part.tableCleared_banks p).trans (hreset.banks.trans (.same hend (by simp)))
  refine ⟨hans, (hend.pendingStart (by simp)).trans hreset.pendingStart, hzero, (hcleared.queue (by simp)).trans hqueue,
    (hcleared.openOrder (by simp)).trans horder, fun k => ?_, fun q hq => ?_, fun q => ?_, fun x hx => ?_, fun hnone => ?_,
    by rw [hpwu, hreset.power], by rw [hpwu, hreset.quiet], ⟨hbanks.bankA, hbanks.bankB, hbanks.staging⟩,
    ⟨hbefore .sensing (by simp), hbefore.scu (by decide), hbefore.clock (by simp), hbefore .plan (by simp)⟩, fun hplain => ?_,
    fun id hid e he hwaking hnone hcurrent hcheck hquorum => ?_⟩
  · exact slot_cut (p := p) ((congrFun (hcleared.slotData (by simp)) k).trans (Part.tableCleared_data p k))
  · have hkept : t.line q = p.tableReset.line q := hend (.requests q) (by simpa using hq)
    have hline := hkept.trans (hlines q)
    simp only [Part.line, Prod.mk.injEq] at hline
    obtain ⟨-, hwaiting, hpending, -⟩ := hline
    obtain ⟨hnopending, hnowaiting⟩ := Part.resetPorts_lost p hq
    exact ⟨hpending.trans hnopending, hwaiting.trans hnowaiting⟩
  · obtain ⟨hcauses, hsense, hpower⟩ := hflags q
    refine ⟨hcauses, hsense, fun hopen => ?_, fun hnone hpending => ?_, hpower⟩
    · obtain ⟨x, hx⟩ := Option.ne_none_iff_exists'.mp hopen
      have hkept : (t.port q).flags &&& 0xA0 = (p.tableReset.notices q).1 &&& 0xA0 := ((hmask 0xA0 (by decide)) q).1
      have hgrows := Part.resetPower_grows p.tableCleared p.startAtWake
      have hraised := hgrows.flags (Part.tableCleared_raises (p := p) hx q)
      rw [← Part.tableReset_eq] at hraised
      exact hkept.trans hraised
    · have hstart : p.startAtWake = none := by
        unfold Part.startAtWake
        split
        · exact hpending
        · rfl
      have hquiet : Part.MaskKept 0xE0 p.tableCleared p.tableReset := by
        rw [Part.tableReset_eq, hstart]
        exact Part.resetPower_quiet (by rw [Part.tableCleared_power]; exact hport.1.2) hnosession hnodwell hparams
      have hkept : (t.port q).flags &&& 0xE0 = (p.tableCleared.notices q).1 &&& 0xE0 := ((hquiet.trans (hmask 0xE0 (by decide))) q).1
      exact hkept.trans (Part.tableCleared_quiet (p := p) hnone hpending q)
  · obtain ⟨hsummary, hcounters⟩ := Part.tableCleared_closes (p := p) hx
    rw [hcleared.store (by simp)]
    obtain ⟨y, hy, hreason, hnumber, hbooking⟩ := hsummary
    refine ⟨y, hy, hreason, hnumber, hbooking, fun i => ?_⟩
    rw [hcleared.seat (by simp)]
    exact hcounters i
  · exact (hcleared.store (by simp)).trans (Part.tableCleared_store hnone)
  · have hsame := Part.tableReset_plain (p := p) hplain hdwell
    refine ⟨(hend.session (by simp)).trans ((hsame.session (by simp)).trans hnosession),
      (hend.isOpen (by simp)).trans ((hsame.isOpen (by simp)).trans hclosed),
      (hend.mode (by simp)).trans ((hsame.mode (by simp)).trans hmode), fun k => ?_⟩
    rw [hset, hsame.screen (by simp), Part.tableCleared_set]
    rfl
  · have hopens := Part.tableReset_opens (p := p) hwaking hnone hid hcurrent he hcheck hquorum hdwell
    have hawake := Part.sameBut_resetAwake p.tableCleared p.startAtWake
    have hday := Part.sameDay_resetAwake (p := p) hnone p.startAtWake
    generalize p.tableCleared.resetAwake p.startAtWake = w at *
    have hbooked := Part.sameBut_bookedSet w e.booking
    rw [← hopens] at hbooked
    have hpresets : w.rtu.presets = s.part.rtu.presets := by
      have h1 : w.rtu.presets = p.tableCleared.rtu.presets := hawake .presets (by simp)
      have h2 : p.tableCleared.rtu.presets = p.rtu.presets := by simp [Part.tableCleared]
      exact h1.trans h2
    refine ⟨(hend.isOpen (by simp)).trans ((hbooked.isOpen (by simp)).trans ((hawake.isOpen (by simp)).trans hclosed)), ?_, fun k => ?_,
      _, (hend.session (by simp)).trans (hopens ▸ Part.bookedSet_session w e.booking), rfl, rfl, rfl, ?_⟩
    · rw [hend.mode (by simp), hopens, (Part.bookedSet_floor w e.booking).1]
    · rw [hset, hopens, Part.bookedSet_set, hpresets]
    · rw [Part.bookedSession, hday.clock]
      rfl

end Sys2Proof.Machine
end

section
/-! What a channel's update reports to SMN (R25, R28, R33, R42). -/

namespace Sys2Proof.Machine

variable {pr : Profile} {x z : Channel} {beta period reading : Nat} {change : Int} {out l : List SfeOut}

/-- The reports among the things that an update sends out, in order. -/
def reportsOf : List SfeOut → List (Sensed × ReportCause)
  | [] => []
  | .report o cause :: l => (o, cause) :: reportsOf l
  | .notice _ :: l => reportsOf l

theorem reportsOf_append (l l' : List SfeOut) : reportsOf (l ++ l') = reportsOf l ++ reportsOf l' := by
  induction l with
  | nil => rfl
  | cons o l ih => cases o <;> simp [reportsOf, ih]

/-- An update reports its outcome when that changes, once, and nothing when it does not (R25). -/
def TellsOutcome (old : Sensed) (r : ChanResult) : Prop :=
  (Part.outcomeOf r.1 = old ∧ reportsOf r.2 = []) ∨
    (Part.outcomeOf r.1 ≠ old ∧ ∃ cause, reportsOf r.2 = [(Part.outcomeOf r.1, cause)])

theorem TellsOutcome.told {old new : Sensed} {r : ChanResult} {cause : ReportCause} (hnew : Part.outcomeOf r.1 = new)
    (hne : new ≠ old) (h : reportsOf r.2 = [(new, cause)]) : TellsOutcome old r := by
  subst hnew
  exact .inr ⟨hne, cause, h⟩

/-! ### Retunes (R32, R33, R37) -/

theorem outcomeOf_startRetune (x : Channel) : Part.outcomeOf (startRetune x) = Part.outcomeOf x := rfl

theorem tellsOutcome_startPending {old : Sensed} {r : ChanResult} (h : TellsOutcome old r) :
    TellsOutcome old (startPending r) := by
  rw [Part.startPending_eq]
  split
  · exact h
  · exact h

theorem tellsOutcome_completeRetune (pr : Profile) (x : Channel) : TellsOutcome x.held (completeRetune pr x) := by
  simp only [completeRetune]
  split
  · refine tellsOutcome_startPending ?_
    cases hheld : x.held
    · exact .inl ⟨rfl, rfl⟩
    · exact .told (new := .inactive) rfl (by decide) rfl
    · exact .told (new := .inactive) rfl (by decide) rfl
  · cases hheld : x.held
    · exact .told (new := .fault) rfl (by decide) rfl
    · exact .told (new := .fault) rfl (by decide) rfl
    · exact .inl ⟨rfl, rfl⟩

theorem tellsOutcome_tuningFrame (h : x.state = .tuning) : TellsOutcome (Part.outcomeOf x) (tuningFrame pr x reading) := by
  have hheld : Part.outcomeOf x = x.held := if_pos h
  have hstate : (searchStep pr x reading).state = .tuning := h
  rw [hheld]
  simp only [tuningFrame]
  split
  · exact tellsOutcome_completeRetune pr (searchStep pr x reading)
  · exact .inl ⟨if_pos hstate, rfl⟩

/-! ### The frame of a running channel (R24 to R28, R35) -/

/-- The part of a debounced report (R25). -/
def debounceReport (old new : Sensed) : List SfeOut := if old = new then [] else [.report new .debounce]

theorem stageFive_cases (pr : Profile) (x : Channel) :
    stageFive pr x = (debounced pr x, debounceReport (Part.outcomeOfState x.state) (Part.outcomeOfState (debounced pr x).state)) ∨
      stageFive pr x = (startRetune (debounced pr x),
        debounceReport (Part.outcomeOfState x.state) (Part.outcomeOfState (debounced pr x).state)) := by
  simp only [stageFive, Part.startPending_eq]
  split
  · split
    · exact .inr rfl
    · exact .inl rfl
  · exact .inl rfl

theorem outcomeOf_running (h : x.state ≠ .tuning) : Part.outcomeOf x = Part.outcomeOfState x.state := if_neg h

theorem outcomeOf_bandCheck (pr : Profile) (zero : Bool) (x : Channel) :
    Part.outcomeOf (bandCheck pr zero x) = Part.outcomeOf x := by
  simp only [bandCheck]
  split
  · rfl
  · split
    · split <;> rfl
    · rfl

/-- The stages after the state machine leave the outcome, where no halt limit is reached (R28). -/
theorem stagesSixToEight_outcome (hlimit : ¬ (pr.haltLimit ≠ 0 ∧ pr.haltLimit * 1000 ≤ x.haltTimer + period)) :
    Part.outcomeOf (stagesSixToEight pr beta period change x).1 = Part.outcomeOf x ∧
      (stagesSixToEight pr beta period change x).2 = [] := by
  by_cases hfree : x.state = .idle ∧ x.delta < x.haltLevel
  · rw [stagesSixToEight_free hfree]
    exact ⟨rfl, rfl⟩
  · have hreached : haltReached pr (halted pr period change x) = false := by
      have htimer : (halted pr period change x).haltTimer = min (x.haltTimer + period) 255000 := rfl
      rw [← Bool.not_eq_true]
      intro h
      simp only [haltReached, htimer, Bool.and_eq_true, decide_eq_true_eq] at h
      exact hlimit ⟨h.1, h.2.trans (Nat.min_le_left _ _)⟩
    rw [stagesSixToEight_halted hfree, hreached]
    exact ⟨rfl, rfl⟩

/-- A channel that is not touched reports nothing in the stages after the state machine: a reseed of it raises a notice
alone (R28). -/
theorem stagesSixToEight_quiet (h : x.state = .idle ∨ x.state = .entering) :
    reportsOf (stagesSixToEight pr beta period change x).2 = [] := by
  by_cases hfree : x.state = .idle ∧ x.delta < x.haltLevel
  · rw [stagesSixToEight_free hfree]
    rfl
  · rw [stagesSixToEight_halted hfree]
    have hout : Part.outcomeOfState (halted pr period change x).state ≠ .active := by
      have hstate : (halted pr period change x).state = x.state := rfl
      rw [hstate]
      obtain h | h := h <;> simp [h, Part.outcomeOfState]
    split
    · simp [reseed, Part.startPending_eq, hout, reportsOf]
    · rfl

theorem reportsOf_debounceReport (old new : Sensed) :
    reportsOf (debounceReport old new) = if old = new then [] else [(new, .debounce)] := by
  simp only [debounceReport]
  split <;> rfl

/-- What a running channel reports: the debounced change of its outcome (R24, R25). -/
theorem runFrame_reports (hrun : RunningChannel x)
    (h : ((debounced pr (measured pr x reading)).state = .idle ∨ (debounced pr (measured pr x reading)).state = .entering) ∨
      ¬ (pr.haltLimit ≠ 0 ∧ pr.haltLimit * 1000 ≤ x.haltTimer + period)) :
    reportsOf (runFrame pr beta period change x reading).2 =
      if Part.outcomeOfState x.state = Part.outcomeOfState (debounced pr (measured pr x reading)).state then []
      else [(Part.outcomeOfState (debounced pr (measured pr x reading)).state, .debounce)] := by
  have hrunning : RunningChannel (debounced pr (measured pr x reading)) := debounceStep_running (x := measured pr x reading) hrun
  have hlater : reportsOf (stagesSixToEight pr beta period change (debounced pr (measured pr x reading))).2 = [] := by
    obtain h | h := h
    · exact stagesSixToEight_quiet h
    · rw [(stagesSixToEight_outcome (x := debounced pr (measured pr x reading)) h).2]
      rfl
  simp only [runFrame, ← measured.eq_1]
  obtain hfive | hfive := stageFive_cases pr (measured pr x reading)
  · have hstate : (stageFive pr (measured pr x reading)).1.state ≠ .tuning := by
      rw [hfive]
      obtain h | h | h | h := hrunning <;> simp [h]
    rw [if_neg hstate, hfive, reportsOf_append, hlater, List.append_nil, reportsOf_debounceReport]
    rfl
  · rw [if_pos (by rw [hfive]; rfl), hfive, reportsOf_debounceReport]
    rfl

theorem tellsOutcome_runFrame (hrun : RunningChannel x)
    (hlimit : ¬ (pr.haltLimit ≠ 0 ∧ pr.haltLimit * 1000 ≤ x.haltTimer + period)) :
    TellsOutcome (Part.outcomeOf x) (runFrame pr beta period change x reading) := by
  have hrunning : RunningChannel (debounced pr (measured pr x reading)) := debounceStep_running (x := measured pr x reading) hrun
  have hnot : (debounced pr (measured pr x reading)).state ≠ .tuning := by
    obtain h | h | h | h := hrunning <;> simp [h]
  have hold : Part.outcomeOf x = Part.outcomeOfState x.state :=
    outcomeOf_running (by obtain h | h | h | h := hrun <;> simp [h])
  have hnew : Part.outcomeOf (runFrame pr beta period change x reading).1 =
      Part.outcomeOfState (debounced pr (measured pr x reading)).state := by
    simp only [runFrame, ← measured.eq_1]
    obtain hfive | hfive := stageFive_cases pr (measured pr x reading)
    · rw [if_neg (by rw [hfive]; exact hnot), hfive, outcomeOf_bandCheck,
        (stagesSixToEight_outcome (x := debounced pr (measured pr x reading)) hlimit).1, outcomeOf_running hnot]
    · rw [if_pos (by rw [hfive]; rfl), hfive, outcomeOf_startRetune, outcomeOf_running hnot]
  rw [TellsOutcome, runFrame_reports hrun (.inr hlimit), hnew, hold]
  by_cases hsame : Part.outcomeOfState x.state = Part.outcomeOfState (debounced pr (measured pr x reading)).state
  · exact .inl ⟨hsame.symm, if_pos hsame⟩
  · exact .inr ⟨Ne.symm hsame, .debounce, if_neg hsame⟩

/-! ### The update by the channel's state -/

/-- A channel whose first WAKING frame is taken (R42). -/
def unmarked (x : Channel) : Channel := { x with firstWake := false }

@[simp] theorem unmarked_state (x : Channel) : (unmarked x).state = x.state := rfl

/-- The frame of a channel in FAULT is a search step, or stages 1 and 2 (R39, R42). -/
theorem updateChannel_inFault (hstate : x.state = .fault) (h : ¬ (x.firstWake = true ∧ x.pending = true)) :
    updateChannel pr beta period change x reading = (faultFrame pr (unmarked x) reading, []) := by
  by_cases hwake : x.firstWake = true
  · have hpending : x.pending = false := by simpa [hwake] using h
    simp [updateChannel, firstWakeFrame, unmarked, hstate, hwake, hpending]
  · simp [updateChannel, unmarked, hstate, hwake]

/-- An update is a search step, the frame of a running channel, or sends nothing out and leaves the outcome. -/
theorem updateChannel_cases (pr : Profile) (beta period reading : Nat) (change : Int) (x : Channel) :
    (x.state = .tuning ∧ updateChannel pr beta period change x reading = tuningFrame pr (unmarked x) reading) ∨
      (RunningChannel x ∧ updateChannel pr beta period change x reading = runFrame pr beta period change (unmarked x) reading) ∨
      ((updateChannel pr beta period change x reading).2 = [] ∧
        Part.outcomeOf (updateChannel pr beta period change x reading).1 = Part.outcomeOf x) := by
  have hsearch : (tuningFrame pr (startRetune (unmarked x)) reading).2 = [] ∧
      Part.outcomeOf (tuningFrame pr (startRetune (unmarked x)) reading).1 = Part.outcomeOf x := by
    rw [tuningFrame_searches (by simp [startRetune])]
    exact ⟨rfl, rfl⟩
  have hall : x.state = .tuning ∨ x.state = .off ∨ x.state = .fault ∨ x.state = .idle ∨
      (x.state = .entering ∨ x.state = .active ∨ x.state = .leaving) := by
    cases x.state <;> simp
  obtain hstate | hstate | hstate | hstate | hstate := hall
  · exact .inl ⟨hstate, updateChannel_tuning hstate⟩
  · refine .inr (.inr ?_)
    simp [updateChannel, firstWakeFrame, hstate]
  · refine .inr (.inr ?_)
    by_cases hwake : x.firstWake = true ∧ x.pending = true
    · rw [updateChannel_firstWake_pending (.inr hstate) hwake.1 hwake.2]
      exact hsearch
    · rw [updateChannel_inFault hstate hwake]
      exact ⟨rfl, rfl⟩
  · by_cases hwake : x.firstWake = true
    · refine .inr (.inr ?_)
      cases hpending : x.pending with
      | true =>
        rw [updateChannel_firstWake_pending (.inl hstate) hwake hpending]
        exact hsearch
      | false =>
        rw [updateChannel_firstWake hstate hwake hpending]
        exact ⟨rfl, rfl⟩
    · refine .inr (.inl ⟨.inl hstate, ?_⟩)
      simp [updateChannel, unmarked, hwake, hstate]
  · refine .inr (.inl ⟨.inr hstate, ?_⟩)
    obtain h | h | h := hstate <;> simp [updateChannel, firstWakeFrame, unmarked, h]

theorem tellsOutcome_updateChannel (hlimit : ¬ (pr.haltLimit ≠ 0 ∧ pr.haltLimit * 1000 ≤ x.haltTimer + period)) :
    TellsOutcome (Part.outcomeOf x) (updateChannel pr beta period change x reading) := by
  obtain ⟨hstate, hframe⟩ | ⟨hrun, hframe⟩ | ⟨hout, hsame⟩ := updateChannel_cases pr beta period reading change x
  · rw [hframe]
    exact tellsOutcome_tuningFrame (x := unmarked x) hstate
  · rw [hframe]
    exact tellsOutcome_runFrame (x := unmarked x) hrun hlimit
  · exact .inl ⟨hsame, by rw [hout]; rfl⟩

/-- The outcome of the debounced state does not change where the level of R24 is not crossed. -/
theorem debounced_stands
    (h : ((x.state = .idle ∨ x.state = .entering) ∧ x.delta < x.level) ∨
      ((x.state = .active ∨ x.state = .leaving) ∧ x.release ≤ x.delta)) :
    Part.outcomeOfState (debounced pr x).state = Part.outcomeOfState x.state ∧
      (x.state = .idle ∨ x.state = .entering → (debounced pr x).state = .idle) := by
  obtain ⟨hstate | hstate, hdelta⟩ | ⟨hstate | hstate, hdelta⟩ := h <;>
    simp [debounced, debounceStep, hstate, Nat.not_le.mpr, Nat.not_lt.mpr, hdelta, Part.outcomeOfState]

/-- A channel that is quiet in a frame sends out no report (R25). -/
theorem updateChannel_quiet
    (h : (x.state = .off ∨ x.state = .fault ∨ (x.state = .tuning ∧ x.step < 7)) ∨
      ((x.state = .idle ∨ x.state = .entering) ∧ (measured pr x reading).delta < (measured pr x reading).level) ∨
      ((x.state = .active ∨ x.state = .leaving) ∧ (measured pr x reading).release ≤ (measured pr x reading).delta ∧
        ¬ (pr.haltLimit ≠ 0 ∧ pr.haltLimit * 1000 ≤ x.haltTimer + period))) :
    reportsOf (updateChannel pr beta period change x reading).2 = [] := by
  obtain ⟨hstate, hframe⟩ | ⟨hrun, hframe⟩ | ⟨hout, -⟩ := updateChannel_cases pr beta period reading change x
  · have hstep : x.step < 7 := by simpa [hstate] using h
    rw [hframe, tuningFrame_searches (x := unmarked x) hstep]
    rfl
  · have hlevels : (((measured pr (unmarked x) reading).state = .idle ∨
          (measured pr (unmarked x) reading).state = .entering) ∧
          (measured pr (unmarked x) reading).delta < (measured pr (unmarked x) reading).level) ∨
        (((measured pr (unmarked x) reading).state = .active ∨
          (measured pr (unmarked x) reading).state = .leaving) ∧
          (measured pr (unmarked x) reading).release ≤ (measured pr (unmarked x) reading).delta) := by
      obtain h | h | ⟨hstate, hdelta, -⟩ := h
      · obtain hr | hr | hr | hr := hrun <;> simp [hr] at h
      · exact .inl h
      · exact .inr ⟨hstate, hdelta⟩
    obtain ⟨hsame, hidle⟩ := debounced_stands (pr := pr) hlevels
    have hmeasured : (measured pr (unmarked x) reading).state = x.state := rfl
    rw [hframe, runFrame_reports (x := unmarked x) hrun, hsame, hmeasured, unmarked_state,
      if_pos rfl]
    obtain h | ⟨hstate, -⟩ | ⟨-, -, hlimit⟩ := h
    · obtain hr | hr | hr | hr := hrun <;> simp [hr] at h
    · exact .inl (.inl (hidle hstate))
    · exact .inr hlimit
  · rw [hout]
    rfl

/-- The frame that ends an ENTERING or LEAVING channel's debounce reports the new outcome (R24, R25). -/
theorem updateChannel_debounced (hrun : x.state = .entering ∨ x.state = .leaving)
    (hlimit : ¬ (pr.haltLimit ≠ 0 ∧ pr.haltLimit * 1000 ≤ x.haltTimer + period)) {new : ChanState}
    (hnew : (debounceStep pr (measured pr x reading)).1 = new) (hne : Part.outcomeOfState x.state ≠ Part.outcomeOfState new) :
    reportsOf (updateChannel pr beta period change x reading).2 = [(Part.outcomeOfState new, .debounce)] := by
  have hframe : updateChannel pr beta period change x reading =
      runFrame pr beta period change (unmarked x) reading := by
    obtain hr | hr := hrun <;> simp [updateChannel, firstWakeFrame, unmarked, hr]
  have hstate : (debounced pr (measured pr (unmarked x) reading)).state = new := hnew
  have hrunning : RunningChannel (unmarked x) := .inr (hrun.imp_right .inr)
  rw [hframe, runFrame_reports hrunning (.inr hlimit), unmarked_state, hstate, if_neg hne]

theorem updateChannel_enters (hstate : x.state = .entering) (hcount : pr.enter ≤ x.debounce + 1)
    (hdelta : (measured pr x reading).level ≤ (measured pr x reading).delta)
    (hlimit : ¬ (pr.haltLimit ≠ 0 ∧ pr.haltLimit * 1000 ≤ x.haltTimer + period)) :
    reportsOf (updateChannel pr beta period change x reading).2 = [(.active, .debounce)] := by
  have hm : (measured pr x reading).state = .entering := hstate
  have hd : debounceOf pr.enter ≤ (measured pr x reading).debounce + 1 := max_le hcount (Nat.le_add_left 1 _)
  refine updateChannel_debounced (.inl hstate) hlimit (new := .active) ?_
    (by simp [hstate, Part.outcomeOfState])
  simp [debounceStep, hm, hdelta, hd]

theorem updateChannel_leaves (hstate : x.state = .leaving) (hcount : pr.exit ≤ x.debounce + 1)
    (hdelta : (measured pr x reading).delta < (measured pr x reading).release)
    (hlimit : ¬ (pr.haltLimit ≠ 0 ∧ pr.haltLimit * 1000 ≤ x.haltTimer + period)) :
    reportsOf (updateChannel pr beta period change x reading).2 = [(.inactive, .debounce)] := by
  have hm : (measured pr x reading).state = .leaving := hstate
  have hd : debounceOf pr.exit ≤ (measured pr x reading).debounce + 1 := max_le hcount (Nat.le_add_left 1 _)
  refine updateChannel_debounced (.inr hstate) hlimit (new := .idle) ?_
    (by simp [hstate, Part.outcomeOfState])
  simp [debounceStep, hm, hdelta, hd]

end Sys2Proof.Machine
end

section
/-! A sensing frame in ACTIVE in which one seat's channel at most reports: the other channels' updates leave all but their
records and the notices (R20, R25, R30). -/

namespace Sys2Proof.Machine.Part

variable {p t q : Part} {c d : ChannelId} {readings : List Nat} {first : List ChannelId} {timersFirst : Bool} {out : List SfeOut}

/-! ### What an update without a report leaves -/

/-- Channels' records change and notices are raised, and nothing else happens. -/
structure QuietStep (p t : Part) : Prop where
  same : SameBut [.sensing, .notices] p t
  grows : NoticesGrow p.notices t.notices

theorem QuietStep.refl (p : Part) : QuietStep p p := ⟨.refl _ _, .refl _⟩

theorem QuietStep.trans (h : QuietStep p t) (h' : QuietStep t q) : QuietStep p q :=
  ⟨SameBut.trans h.same h'.same, NoticesGrow.trans h.grows h'.grows⟩

theorem quietStep_setChannel (p : Part) (c : ChannelId) (x : Channel) : QuietStep p (p.setChannel c x) :=
  ⟨(sameBut_setChannel p c x).mono (by simp), by simp⟩

theorem quietStep_noticeCause (p : Part) (a : Category) (m : Cause) : QuietStep p (p.noticeCause a m) := by
  refine ⟨?_, by simp⟩
  intro b hb
  cases b <;> simp_all [Piece.Same]

theorem quietStep_sendOut (h : reportsOf out = []) (p : Part) (c : ChannelId) : QuietStep p (p.sendOut c out) := by
  induction out generalizing p with
  | nil => exact .refl p
  | cons o out ih =>
    cases o with
    | notice m => exact (quietStep_noticeCause p .sense m).trans (ih h _)
    | report o cause => simp [reportsOf] at h

/-- An update with one report: the notices apart, it is that report. -/
theorem sendOut_report {o : Sensed} {cause : ReportCause} (h : reportsOf out = [(o, cause)]) (p : Part) (c : ChannelId) :
    ∃ q, QuietStep p q ∧ QuietStep (q.report c o cause) (p.sendOut c out) := by
  induction out generalizing p with
  | nil => simp [reportsOf] at h
  | cons x out ih =>
    cases x with
    | notice m =>
      obtain ⟨q, hq, hend⟩ := ih h (p.noticeCause .sense m)
      exact ⟨q, (quietStep_noticeCause p .sense m).trans hq, hend⟩
    | report o' cause' =>
      simp only [reportsOf, List.cons.injEq, Prod.mk.injEq] at h
      obtain ⟨⟨rfl, rfl⟩, htail⟩ := h
      exact ⟨p, .refl p, quietStep_sendOut htail _ c⟩

/-- The reference channel reports nothing to SMN (R30). -/
theorem quietStep_reference (p : Part) (r : ChanResult) : QuietStep p (p.putChannel 40 r) := by
  refine (quietStep_setChannel p 40 r.1).trans ?_
  refine foldl_invariant (P := QuietStep (p.setChannel 40 r.1)) (fun q o hq => hq.trans ?_) r.2 _ (.refl _)
  cases o with
  | notice m => exact quietStep_noticeCause q .sense m
  | report s cause => exact .refl q

/-! ### The updates of quiet channels -/

theorem framed_quiet (h : QuietChannel p readings c) (change : Int) :
    reportsOf (p.framed readings false change c).2 = [] := updateChannel_quiet h

theorem quietStep_channelFrame (hactive : p.pwu.power = .active) (hkept : ChannelKept c p q) (h : QuietChannel p readings c)
    (change : Int) : QuietStep q (channelFrame false change readings q c) := by
  have hframed : q.framed readings false change c = p.framed readings false change c :=
    hkept.framed (.inr (by simp [hactive])) false change
  simp only [channelFrame]
  split
  · refine (quietStep_setChannel q c _).trans (quietStep_sendOut ?_ _ c)
    rw [← framed.eq_1, hframed]
    exact framed_quiet h change
  · exact .refl q

theorem quietStep_foldl (hactive : p.pwu.power = .active) {l : List ChannelId} (hl : l.Nodup)
    (hkept : ∀ d ∈ l, ChannelKept d p q) (h : ∀ d ∈ l, QuietChannel p readings d) (change : Int) :
    QuietStep q (l.foldl (channelFrame false change readings) q) := by
  induction l generalizing q with
  | nil => exact .refl q
  | cons d l ih =>
    obtain ⟨hd, hl⟩ := List.nodup_cons.mp hl
    refine (quietStep_channelFrame hactive (hkept d (by simp)) (h d (by simp)) change).trans
      (ih hl (fun e he => (hkept e (by simp [he])).trans (channelKept_channelFrame ?_ false change readings q)) fun e he => h e (by simp [he]))
    rintro rfl
    exact hd he

/-! ### The frame -/

/-- The press timers count the frame, when they count at this place of it (R56). -/
def timed (p : Part) (counts : Bool) (t : Part) : Part :=
  if counts then t.countPresses p.sfe.frame (p.holdingSeats false) else t

theorem channelKept_timed (c : ChannelId) (p t : Part) (counts : Bool) : ChannelKept c t (p.timed counts t) := by
  unfold timed
  split
  · exact channelKept_countPresses c t _ _
  · exact .refl c t

theorem timed_grows (p t : Part) (counts : Bool) : NoticesGrow t.notices (p.timed counts t).notices := by
  unfold timed
  split
  · exact countPresses_grows (.refl _) _ _
  · exact .refl _

/-- The update of a seat's channel in a frame of ACTIVE. -/
def updated (p : Part) (readings : List Nat) (c : ChannelId) : ChanResult :=
  p.framed readings false (p.refFramed readings false).2 c

theorem channelFrame_active (hactive : p.pwu.power = .active) (hkept : ChannelKept c p q) :
    ∃ t, QuietStep q t ∧ channelFrame false (p.refFramed readings false).2 readings q c = t.sendOut c (p.updated readings c).2 ∧
      (channelFrame false (p.refFramed readings false).2 readings q c).channel c = (p.updated readings c).1 := by
  have hframed : q.framed readings false (p.refFramed readings false).2 c = p.updated readings c :=
    hkept.framed (.inr (by simp [hactive])) false _
  have hpower : q.pwu.power ≠ .standby := by rw [hkept.power (by simp [hactive]), hactive]; decide
  by_cases hoff : (p.channel c).state = .off
  · have hupdated : p.updated readings c = (p.channel c, []) := by
      simp [updated, framed, updateChannel, firstWakeFrame, hoff]
    refine ⟨q, .refl q, ?_, ?_⟩
    · rw [hupdated]
      exact if_neg (by simp [isMeasured, hkept.off, hoff])
    · rw [hupdated, channelFrame, if_neg (by simp [isMeasured, hkept.off, hoff])]
      exact hkept.channel (.inr (by simp [hactive]))
  · have hframe : channelFrame false (p.refFramed readings false).2 readings q c = q.putChannel c (p.updated readings c) := by
      rw [channelFrame, if_pos (by simp [isMeasured, hkept.off, hoff]), ← hframed]
      rfl
    refine ⟨_, quietStep_setChannel q c _, hframe, ?_⟩
    have hsent : ((q.setChannel c (p.updated readings c).1).sendOut c (p.updated readings c).2).channel c =
        (q.setChannel c (p.updated readings c).1).channel c := (channelKept_sendOut c c _ _).channel (.inr (by simpa using hpower))
    rw [hframe, putChannel, hsent, setChannel_channel_self]

/-- A frame of ACTIVE in which no other channel reports: what the channel sends out, with the press timers before or after it,
and else no more than channels' records and notices. -/
theorem sensingFrame_reports (hstage : p.pln.stage = .running) (hactive : p.pwu.power = .active) (hc : c.val ≠ 40)
    (hquiet : ∀ d : ChannelId, d ≠ c → d.val ≠ 40 → QuietChannel p readings d) :
    ∃ a q u, QuietStep p a ∧ QuietStep (p.timed timersFirst a) q ∧
      QuietStep (q.sendOut c (p.updated readings c).2) u ∧
      p.sensingFrame readings first timersFirst = p.timed (!timersFirst) u := by
  have hstandby : decide (p.pwu.power = .standby) = false := by simp [hactive]
  obtain ⟨before, after, hsplit⟩ := List.append_of_mem (mem_takenOrder.mpr (mem_seatChannels.mpr hc) : c ∈ takenOrder first seatChannels)
  have hnodup := nodup_takenOrder first nodup_seatChannels
  have hmem (d : ChannelId) (hd : d ∈ before ∨ d ∈ after) : d.val ≠ 40 := by
    refine mem_seatChannels.mp (mem_takenOrder (first := first).mp ?_)
    rw [hsplit]
    simp only [List.mem_append, List.mem_cons]
    tauto
  rw [hsplit] at hnodup
  obtain ⟨hbefore, hafter, hdisjoint⟩ := List.nodup_append.mp hnodup
  obtain ⟨hcafter, hafter⟩ := List.nodup_cons.mp hafter
  have hcbefore : c ∉ before := fun hin => hdisjoint c hin c (by simp) rfl
  have href (d : ChannelId) (hd : d.val ≠ 40) : (40 : ChannelId) ≠ d := by
    rintro rfl
    exact hd rfl
  set r := p.refFramed readings false with hr
  set a := p.putChannel 40 r.1 with ha
  set b := p.timed timersFirst a with hb
  have hkept (d : ChannelId) (hd : d.val ≠ 40) : ChannelKept d p b :=
    (channelKept_putChannel (href d hd) p r.1).trans (channelKept_timed d p a timersFirst)
  set q := before.foldl (channelFrame false r.2 readings) b with hq
  have hkeptq (d : ChannelId) (hd : d.val ≠ 40) (hnot : d ∉ before) : ChannelKept d p q :=
    (hkept d hd).trans (channelKept_foldl hnot false r.2 readings b)
  have hquietq : QuietStep b q := quietStep_foldl hactive hbefore (fun d hd => hkept d (hmem d (.inl hd)))
    (fun d hd => hquiet d (fun h => hcbefore (h ▸ hd)) (hmem d (.inl hd))) r.2
  obtain ⟨q', hq', hframe, -⟩ := channelFrame_active (readings := readings) hactive (hkeptq c hc hcbefore)
  set m := channelFrame false r.2 readings q c with hm
  have hkeptm (d : ChannelId) (hd : d ∈ after) : ChannelKept d p m := by
    have hne : c ≠ d := fun h => hcafter (h ▸ hd)
    have hnot : d ∉ before := fun hin => hdisjoint d hin d (by simp [hd]) rfl
    exact (hkeptq d (hmem d (.inr hd)) hnot).trans (channelKept_channelFrame hne false r.2 readings q)
  have hquietu : QuietStep m (after.foldl (channelFrame false r.2 readings) m) := quietStep_foldl hactive hafter hkeptm
    (fun d hd => hquiet d (fun h => hcafter (h ▸ hd)) (hmem d (.inr hd))) r.2
  refine ⟨a, q', _, quietStep_reference p r.1, hquietq.trans hq', hframe ▸ hquietu, ?_⟩
  have hsettling : (p.pln.stage = .running && p.pwu.power = .waking : Bool) = false := by simp [hactive]
  have hend (t : Part) (ht : t.pln = p.pln) : (t.startUpTest).settleFrame false = t := by
    rw [startUpTest_running (by rw [ht, hstage])]
    simp [settleFrame]
  have hframed : p.sensingFrame readings first timersFirst =
      ((p.timed (!timersFirst) ((takenOrder first seatChannels).foldl (channelFrame false r.2 readings) b)).startUpTest).settleFrame
        false := by
    simp only [sensingFrame, hstandby, hsettling]
    cases timersFirst <;> rfl
  have hpln (counts : Bool) (t : Part) : (p.timed counts t).pln = t.pln := by
    unfold timed
    split <;> simp
  have hstays : (p.timed (!timersFirst) ((takenOrder first seatChannels).foldl (channelFrame false r.2 readings) b)).pln = p.pln := by
    rw [hpln, foldl_pln (fun q d => by simp), hb, hpln, ha]
    simp
  rw [hframed, hend _ hstays, hsplit, List.foldl_append, List.foldl_cons, ← hframe]

/-- In ACTIVE a seat's channel ends the frame as its own update leaves it, one that is OFF as it was. -/
theorem sensingFrame_updated (hactive : p.pwu.power = .active) (hc : c.val ≠ 40) :
    (p.sensingFrame readings first timersFirst).channel c = (p.updated readings c).1 := by
  have hstandby : decide (p.pwu.power = .standby) = false := by simp [hactive]
  obtain ⟨q, u, hq, hu, hchannel, -⟩ := sensingFrame_split p readings first timersFirst hc
  rw [hstandby] at hu
  obtain ⟨_, -, -, hframe⟩ := channelFrame_active (readings := readings) hactive hq
  have hpower : q.pwu.power = .active := (hq.power (by simp [hactive])).trans hactive
  have hne : c ≠ 40 := by
    rintro rfl
    exact hc rfl
  have hafter := (channelKept_channelFrame hne false (p.refFramed readings false).2 readings q).power (by simp [hpower])
  rw [hchannel, hu.channel (.inr (by simp [hafter, hpower])), hframe]

end Sys2Proof.Machine.Part
end

section
/-! The press timers in a frame, and the chair next that they reach (R55, R56). -/

namespace Sys2Proof.Machine.Part

variable {p t q : Part} {i j : SeatId} {period : Nat} {l : List SeatId}

/-! ### A chair next and the seats (R76) -/

/-- A seat but for its counters (R59). -/
def uncounted (x : Seat) : Seat := { x with counters := Counters.zero }

/-- A chair next shows REFUSED on the chair seat or is a grant (R76). -/
theorem chairNext_cases (p : Part) : p.chairNext = p.showRefused p.chairSeat ∨ ∃ k s, p.chairNext = p.grantSlot k s := by
  by_cases hstate : p.flc.isOpen = false ∨ p.flc.queue = []
  · exact .inl (chairNext_refused (hstate.imp_right .inl))
  · obtain ⟨hopen, hqueue⟩ := not_or.mp hstate
    obtain ⟨e, he⟩ : ∃ e, e ∈ p.flc.queue.head? := Option.ne_none_iff_exists'.mp (by simpa using hqueue)
    by_cases heligible : p.eligible e.seat
    · cases hk : p.available with
      | none => exact .inl (chairNext_refused (.inr (.inr (.inr hk))))
      | some k => exact .inr ⟨k, e.seat, chairNext_granted he heligible hk⟩
    · refine .inl (chairNext_refused (.inr (.inr (.inl ⟨e, he, ?_⟩))))
      by_contra hgood
      simp only [not_or, Bool.not_eq_false, ne_eq, not_not] at hgood
      exact heligible ⟨by simpa using hopen, hgood⟩

theorem grantSlot_uncounted (p : Part) (k : SlotId) (s j : SeatId) : uncounted ((p.grantSlot k s).seat j) = uncounted (p.seat j) := by
  rw [grantSlot_seat]
  split <;> rfl

theorem chairNext_uncounted (p : Part) (j : SeatId) : uncounted (p.chairNext.seat j) = uncounted (p.seat j) := by
  obtain h | ⟨k, s, h⟩ := chairNext_cases p
  · rw [h]
    rfl
  · rw [h, grantSlot_uncounted]

/-- A chair next leaves the queue no longer than it was, entry by entry. -/
theorem chairNext_isQueued (p : Part) (j : SeatId) (h : p.chairNext.isQueued j = true) : p.isQueued j = true := by
  obtain hnext | ⟨k, s, hnext⟩ := chairNext_cases p
  · rw [hnext] at h
    exact h
  · rw [hnext, isQueued_iff] at h
    obtain ⟨e, he, hseat⟩ := h
    rw [grantSlot_queue] at he
    exact isQueued_iff.mpr ⟨e, List.mem_of_mem_filter he, hseat⟩

/-! ### One press timer (R55, R56) -/

/-- A seat whose key stays DOWN through a frame; the chair's key may reach its chair next. -/
def heldSeat (chair : Bool) (period : Nat) (x : Seat) : Seat :=
  { x with
    press := min (x.press + period) 65535
    nextTaken := x.nextTaken || (chair && decide (x.mark = .accepted) && decide (2000 ≤ x.press + period)) }

/-- A seat whose press timer has counted the frame. -/
def pressed (period : Nat) (x : Seat) : Seat := { x with press := min (x.press + period) 65535 }

theorem countPress_up (h : (p.seat i).key ≠ .down) (period : Nat) : p.countPress period i = p := if_neg h

theorem pressed_chairSeat (p : Part) (i : SeatId) (period : Nat) :
    (p.setSeat i (pressed period (p.seat i))).chairSeat = p.chairSeat := by
  refine chairSeat_of fun j => ?_
  rw [setSeat_seat]
  split
  next h => rw [h]; exact ⟨rfl, rfl⟩
  next => exact ⟨rfl, rfl⟩

theorem countPress_down (h : (p.seat i).key = .down) (period : Nat) :
    p.countPress period i =
      if i = p.chairSeat then (p.setSeat i (pressed period (p.seat i))).takeChairNext else p.setSeat i (pressed period (p.seat i)) :=
  if_pos h

/-- A chair next is taken when its conditions come to hold in the frame (R56). -/
theorem takeChairNext_pressed (hkey : (p.seat p.chairSeat).key = .down) :
    (p.setSeat p.chairSeat (pressed period (p.seat p.chairSeat))).takeChairNext =
      if (p.seat p.chairSeat).mark = .accepted ∧ (p.seat p.chairSeat).nextTaken = false ∧ 2000 ≤ (p.seat p.chairSeat).press + period then
        ((p.setSeat p.chairSeat (pressed period (p.seat p.chairSeat))).setSeat p.chairSeat
          (nextTaken (pressed period (p.seat p.chairSeat)))).chairNext
      else p.setSeat p.chairSeat (pressed period (p.seat p.chairSeat)) := by
  have hchair := pressed_chairSeat p p.chairSeat period
  have hseat : (p.setSeat p.chairSeat (pressed period (p.seat p.chairSeat))).seat p.chairSeat = pressed period (p.seat p.chairSeat) := by
    rw [setSeat_seat, if_pos rfl]
  have hpress : 2000 ≤ (pressed period (p.seat p.chairSeat)).press ↔ 2000 ≤ (p.seat p.chairSeat).press + period := by
    simp only [pressed]
    omega
  split
  next h =>
    obtain ⟨hmark, hnext, hlong⟩ := h
    rw [takeChairNext_taken, hchair, hseat]
    all_goals rw [hchair, hseat]
    · exact hkey
    · exact hmark
    · exact hnext
    · exact hpress.mpr hlong
  next h =>
    simp only [takeChairNext]
    rw [if_neg]
    rw [hchair, hseat]
    rintro ⟨-, hmark, hnext, hlong⟩
    exact h ⟨hmark, hnext, hpress.mp hlong⟩

theorem countPress_uncounted (h : (p.seat i).key = .down) (j : SeatId) :
    uncounted ((p.countPress period i).seat j) =
      uncounted (if j = i then heldSeat (i = p.chairSeat) period (p.seat i) else p.seat j) := by
  rw [countPress_down h]
  split
  next hchair =>
    subst hchair
    rw [takeChairNext_pressed h]
    split
    next htaken =>
      obtain ⟨hmark, hnext, hlong⟩ := htaken
      rw [chairNext_uncounted, setSeat_seat]
      split
      next => simp [uncounted, nextTaken, pressed, heldSeat, hmark, hlong]
      next hj => rw [setSeat_seat, if_neg hj]
    next htaken =>
      rw [setSeat_seat]
      split
      next =>
        have hnext : ((p.seat p.chairSeat).nextTaken || (decide ((p.seat p.chairSeat).mark = .accepted) &&
            decide (2000 ≤ (p.seat p.chairSeat).press + period))) = (p.seat p.chairSeat).nextTaken := by
          cases hn : (p.seat p.chairSeat).nextTaken with
          | true => rfl
          | false =>
            simp only [Bool.false_or, Bool.and_eq_false_iff, decide_eq_false_iff_not]
            by_contra hboth
            simp only [not_or, not_not] at hboth
            exact htaken ⟨hboth.1, hn, hboth.2⟩
        simp [uncounted, pressed, heldSeat, hnext]
      next => rfl
  next hchair =>
    rw [setSeat_seat]
    split
    next => simp [uncounted, pressed, heldSeat, hchair]
    next => rfl

/-! ### The press timers of a frame (R56) -/

theorem countPress_chairSeat (p : Part) (period : Nat) (i : SeatId) : (p.countPress period i).chairSeat = p.chairSeat := by
  by_cases h : (p.seat i).key = .down
  · refine chairSeat_of fun j => ?_
    have hseat := countPress_uncounted (period := period) h j
    have hinstalled := congrArg Seat.installed hseat
    have hrole := congrArg Seat.role hseat
    by_cases hj : j = i
    · rw [if_pos hj] at hinstalled hrole
      rw [hj] at hinstalled hrole ⊢
      exact ⟨hinstalled, hrole⟩
    · rw [if_neg hj] at hinstalled hrole
      exact ⟨hinstalled, hrole⟩
  · rw [countPress_up h]

theorem countPresses_cons (p : Part) (period : Nat) (s : SeatId) (l : List SeatId) :
    p.countPresses period (s :: l) = (p.countPress period s).countPresses period l := rfl

/-- One press timer leaves another seat, and every seat when its own key is not DOWN. -/
theorem countPress_still {s : SeatId} (h : i = s → (p.seat i).key ≠ .down) :
    uncounted ((p.countPress period s).seat i) = uncounted (p.seat i) := by
  by_cases hs : (p.seat s).key = .down
  · have hne : i ≠ s := by
      rintro rfl
      exact h rfl hs
    rw [countPress_uncounted hs, if_neg hne]
  · rw [countPress_up hs]

theorem fields_uncounted {x y : Seat} (h : uncounted x = uncounted y) :
    x.key = y.key ∧ x.press = y.press ∧ x.mark = y.mark ∧ x.nextTaken = y.nextTaken ∧ x.presence = y.presence ∧
      x.absence = y.absence ∧ x.installed = y.installed ∧ x.role = y.role := by
  simp only [uncounted, Seat.mk.injEq] at h
  grind

/-- The frame's press timers leave a seat that is not held. -/
theorem countPresses_still (h : i ∈ l → (p.seat i).key ≠ .down) :
    uncounted ((p.countPresses period l).seat i) = uncounted (p.seat i) := by
  induction l generalizing p with
  | nil => rfl
  | cons s l ih =>
    have hone : uncounted ((p.countPress period s).seat i) = uncounted (p.seat i) :=
      countPress_still fun hi => h (by simp [hi])
    rw [countPresses_cons, ih fun hi => ?_, hone]
    rw [(fields_uncounted hone).1]
    exact h (by simp [hi])

/-- The frame's press timers, at a seat whose key is DOWN. -/
theorem countPresses_down (hl : l.Nodup) (hi : i ∈ l) (h : (p.seat i).key = .down) :
    uncounted ((p.countPresses period l).seat i) = uncounted (heldSeat (i = p.chairSeat) period (p.seat i)) := by
  induction l generalizing p with
  | nil => simp at hi
  | cons s l ih =>
    obtain ⟨hs, hl⟩ := List.nodup_cons.mp hl
    rw [countPresses_cons]
    by_cases hsi : i = s
    · subst hsi
      rw [countPresses_still fun hin => absurd hin hs, countPress_uncounted h, if_pos rfl]
    · have hone : uncounted ((p.countPress period s).seat i) = uncounted (p.seat i) := countPress_still fun heq => absurd heq hsi
      have hheld (b : Bool) (x : Seat) : uncounted (heldSeat b period x) = heldSeat b period (uncounted x) := rfl
      rw [ih hl ((List.mem_cons.mp hi).resolve_left hsi) (by rw [(fields_uncounted hone).1]; exact h), countPress_chairSeat, hheld, hone,
        ← hheld]

/-! ### Press timers without a chair next -/

/-- Press timers count, and nothing else happens. -/
structure PressesCounted (p t : Part) : Prop where
  same : SameBut [.seats] p t
  seat : ∀ j, t.seat j = { p.seat j with press := (t.seat j).press }

theorem PressesCounted.refl (p : Part) : PressesCounted p p := ⟨.refl _ _, fun _ => rfl⟩

theorem PressesCounted.trans (h : PressesCounted p t) (h' : PressesCounted t q) : PressesCounted p q :=
  ⟨SameBut.trans h.same h'.same, fun j => by rw [h'.seat j, h.seat j]⟩

/-- The chair seat's chair next is not reached in a frame (R56). -/
def NoChairNext (p : Part) (period : Nat) : Prop :=
  ¬ ((p.seat p.chairSeat).mark = .accepted ∧ (p.seat p.chairSeat).nextTaken = false ∧
    2000 ≤ (p.seat p.chairSeat).press + period)

theorem pressesCounted_countPress (h : i = p.chairSeat → p.NoChairNext period) : PressesCounted p (p.countPress period i) := by
  by_cases hkey : (p.seat i).key = .down
  · have hset : p.countPress period i = p.setSeat i (pressed period (p.seat i)) := by
      rw [countPress_down hkey]
      split
      next hchair =>
        have hno := h hchair
        subst hchair
        rw [takeChairNext_pressed hkey]
        exact if_neg hno
      next => rfl
    rw [hset]
    refine ⟨sameBut_setSeat p i _, fun j => ?_⟩
    rw [setSeat_seat]
    split
    next hj => rw [hj]; rfl
    next => rfl
  · rw [countPress_up hkey]
    exact .refl p

theorem pressesCounted_countPresses (hl : l.Nodup) (h : p.chairSeat ∈ l → p.NoChairNext period) :
    PressesCounted p (p.countPresses period l) := by
  induction l generalizing p with
  | nil => exact .refl p
  | cons s l ih =>
    obtain ⟨hs, hl⟩ := List.nodup_cons.mp hl
    have hone : PressesCounted p (p.countPress period s) := pressesCounted_countPress fun hchair => h (by simp [hchair])
    rw [countPresses_cons]
    refine hone.trans (ih hl fun hin => ?_)
    rw [countPress_chairSeat] at hin
    have hno := h (by simp [hin])
    have hsame : uncounted ((p.countPress period s).seat p.chairSeat) = uncounted (p.seat p.chairSeat) := by
      refine countPress_still ?_
      rintro rfl
      exact absurd hin hs
    obtain ⟨-, hpress, hmark, hnext, -⟩ := fields_uncounted hsame
    rwa [NoChairNext, countPress_chairSeat, hmark, hnext, hpress]

theorem PressesCounted.chairSeat (h : PressesCounted p t) : t.chairSeat = p.chairSeat :=
  chairSeat_of fun j => by rw [h.seat j]; exact ⟨rfl, rfl⟩

/-! ### The press timers at their place in the frame -/

theorem nodup_holdingSeats (p : Part) (standby : Bool) : (p.holdingSeats standby).Nodup := (List.nodup_finRange 20).filter _

theorem mem_holdingSeats {standby : Bool} :
    i ∈ p.holdingSeats standby ↔ (p.seat i).key = .down ∧ p.isMeasured standby (keyChannel i) = true := by
  simp [holdingSeats]

theorem pressesCounted_timed (counts : Bool)
    (h : t.chairSeat ∈ p.holdingSeats false → t.NoChairNext p.sfe.frame) : PressesCounted t (p.timed counts t) := by
  unfold timed
  split
  · exact pressesCounted_countPresses (nodup_holdingSeats p false) h
  · exact .refl t

/-- The press timers leave a seat that was not held at the start of the frame, or whose key is not DOWN any more. -/
theorem timed_still (counts : Bool) (h : (p.seat i).key = .down → (t.seat i).key ≠ .down) :
    uncounted ((p.timed counts t).seat i) = uncounted (t.seat i) := by
  unfold timed
  split
  · exact countPresses_still fun hin => h (mem_holdingSeats.mp hin).1
  · rfl

end Sys2Proof.Machine.Part
end

section
/-! What a proximity channel's report makes of its seat, of the occupied count and of an AWAITING session (R47, R51, R52, R166). -/

namespace Sys2Proof.Machine

theorem SameBut.ssu {bs : List Piece} {p t : Part} (h : SameBut bs p t) (hsession : .session ∉ bs) (hpending : .pendingStart ∉ bs)
    (hdwell : .dwell ∉ bs) (hstore : .store ∉ bs) (hparams : .params ∉ bs) : t.ssu = p.ssu := by
  have h1 : t.ssu.session = p.ssu.session := h _ hsession
  have h2 : t.ssu.pendingStart = p.ssu.pendingStart := h _ hpending
  have h3 : t.ssu.dwell = p.ssu.dwell := h _ hdwell
  obtain ⟨h4, h5, h6⟩ : t.ssu.store = p.ssu.store ∧ t.ssu.lost = p.ssu.lost ∧ t.ssu.nextSummary = p.ssu.nextSummary := h _ hstore
  have h7 : t.ssu.params = p.ssu.params := h _ hparams
  cases hp : p.ssu
  cases ht : t.ssu
  simp_all

theorem SameBut.sch {bs : List Piece} {p t : Part} (h : SameBut bs p t) (hclock : .clock ∉ bs) (hbanks : .banks ∉ bs) :
    t.sch = p.sch := by
  have h1 : t.sch.clock = p.sch.clock := h _ hclock
  obtain ⟨h2, h3⟩ : t.sch.bankA = p.sch.bankA ∧ t.sch.bankB = p.sch.bankB := h _ hbanks
  cases hp : p.sch
  cases ht : t.sch
  simp_all

namespace Part

variable {p q t : Part} {i j : SeatId} {y : Presence} {n : Nat} {readings : List Nat} {first : List ChannelId} {timersFirst : Bool}

/-! ### Presence, the occupied count and the queue through a frame -/

/-- Presence, absence and the occupied count stand, and no seat joins the queue. -/
structure Attended (p t : Part) : Prop where
  seats : ∀ j, (t.seat j).presence = (p.seat j).presence ∧ (t.seat j).absence = (p.seat j).absence ∧
    (t.seat j).installed = (p.seat j).installed
  occupied : t.smn.occupied = p.smn.occupied
  queue : ∀ j, t.isQueued j = true → p.isQueued j = true

theorem Attended.trans (h : Attended p q) (h' : Attended q t) : Attended p t where
  seats j := by
    obtain ⟨hpresence, habsence, hinstalled⟩ := h.seats j
    obtain ⟨hpresence', habsence', hinstalled'⟩ := h'.seats j
    exact ⟨hpresence'.trans hpresence, habsence'.trans habsence, hinstalled'.trans hinstalled⟩
  occupied := h'.occupied.trans h.occupied
  queue j hj := h.queue j (h'.queue j hj)

theorem Attended.refl (p : Part) : Attended p p := ⟨fun _ => ⟨rfl, rfl, rfl⟩, rfl, fun _ h => h⟩

theorem Attended.of_unopened (h : Unopened p t) : Attended p t :=
  ⟨fun j => by
    obtain ⟨hpresence, habsence, -, hinstalled⟩ := h.seats j
    exact ⟨hpresence, habsence, hinstalled⟩, h.occupied, h.queue⟩

theorem QuietStep.attended (h : QuietStep p t) : Attended p t := by
  refine ⟨fun j => ?_, h.same.occupied (by simp), fun j hj => ?_⟩
  · rw [h.same.seat (by simp)]
    exact ⟨rfl, rfl, rfl⟩
  · rwa [isQueued_eq (h.same.queue (by simp))] at hj

theorem countPress_isQueued {period : Nat} {s : SeatId} (h : (p.countPress period s).isQueued j = true) : p.isQueued j = true := by
  by_cases hkey : (p.seat s).key = .down
  · rw [countPress_down hkey] at h
    split at h
    next hchair =>
      subst hchair
      rw [takeChairNext_pressed hkey] at h
      split at h
      · exact chairNext_isQueued (p := (p.setSeat p.chairSeat _).setSeat p.chairSeat _) j h
      · exact h
    next => exact h
  · rwa [countPress_up hkey] at h

theorem attended_countPresses (p : Part) (period : Nat) (l : List SeatId) : Attended p (p.countPresses period l) := by
  refine foldl_invariant (P := Attended p) (fun q s hq => hq.trans ⟨fun j => ?_, by simp, fun j hj => countPress_isQueued hj⟩) l p (.refl p)
  by_cases hkey : (q.seat s).key = .down
  · obtain ⟨-, -, -, -, hpresence, habsence, hinstalled, -⟩ := fields_uncounted (countPress_uncounted (period := period) hkey j)
    rw [hpresence, habsence, hinstalled]
    split
    next hj => rw [hj]; exact ⟨rfl, rfl, rfl⟩
    next => exact ⟨rfl, rfl, rfl⟩
  · rw [countPress_up hkey]
    exact ⟨rfl, rfl, rfl⟩

theorem attended_timed (p t : Part) (counts : Bool) : Attended t (p.timed counts t) := by
  unfold timed
  split
  · exact attended_countPresses t _ _
  · exact .refl t

/-- Besides, the session, the schedule, the absence grace and the floor's opening stand. -/
structure FrameKept (p t : Part) : Prop where
  attended : Attended p t
  ssu : t.ssu = p.ssu
  sch : t.sch = p.sch
  grace : t.smn.grace = p.smn.grace
  isOpen : t.flc.isOpen = p.flc.isOpen

theorem FrameKept.trans (h : FrameKept p q) (h' : FrameKept q t) : FrameKept p t :=
  ⟨h.attended.trans h'.attended, h'.ssu.trans h.ssu, h'.sch.trans h.sch, h'.grace.trans h.grace, h'.isOpen.trans h.isOpen⟩

theorem QuietStep.kept (h : QuietStep p t) : FrameKept p t := by
  refine ⟨h.attended, h.same.ssu (by simp) (by simp) (by simp) (by simp) (by simp), ?_, h.same .grace (by simp),
    h.same.isOpen (by simp)⟩
  exact h.same.sch (by simp) (by simp)

theorem kept_timed (p t : Part) (counts : Bool) : FrameKept t (p.timed counts t) := by
  refine ⟨attended_timed p t counts, ?_, ?_, ?_, ?_⟩
  all_goals
    unfold timed
    split <;> simp

theorem Attended.occupiedSeats (h : Attended p t) : t.occupiedSeats = p.occupiedSeats := by
  unfold Part.occupiedSeats
  congr 2
  funext j
  obtain ⟨hpresence, -, hinstalled⟩ := h.seats j
  rw [hpresence, hinstalled]

/-! ### The report (R47, R51, R52) -/

theorem presenceChanged_raises (p : Part) (i : SeatId) (y : Presence) (n : Nat) (a : Port) :
    ((p.presenceChanged i y n).notices a).1 &&& 2 ≠ 0 := by
  have hraised : (((p.setSeat i (presenceSet (p.seat i) y n)).notice .seat).notices a).1 &&& 2 ≠ 0 := by
    rw [notice_notices]
    exact mark_raised _ (by decide)
  simp only [presenceChanged]
  split
  · exact (seatVacant_grows (.refl _) i).flag hraised
  · exact hraised

/-- A part after a report, by the presence it gives the seat. -/
theorem changePresence_reaches (p : Part) (i : SeatId) (y : Presence) (n : Nat) :
    (∀ j, j ≠ i → ((p.changePresence i y n).seat j).presence = (p.seat j).presence ∧
        ((p.changePresence i y n).seat j).absence = (p.seat j).absence) ∧
      ((p.changePresence i y n).seat i).presence = y ∧ ((p.changePresence i y n).seat i).absence = n ∧
      (y ≠ (p.seat i).presence →
        (p.changePresence i y n).smn.occupied = (p.changePresence i y n).occupiedSeats ∧
        (∀ a, ((p.changePresence i y n).notices a).1 &&& 2 ≠ 0) ∧
        (y = .vacant → (p.changePresence i y n).isQueued i = false)) := by
  by_cases hsame : y = (p.seat i).presence
  · rw [changePresence_same hsame]
    refine ⟨fun j hj => ?_, ?_, ?_, fun hne => absurd hsame hne⟩
    · rw [setSeat_seat, if_neg hj]
      exact ⟨rfl, rfl⟩
    · rw [setSeat_seat, if_pos rfl]
      rfl
    · rw [setSeat_seat, if_pos rfl]
      rfl
  · rw [changePresence_eq hsame]
    have hkept := Attended.of_unopened (unopened_updateCount (p.presenceChanged i y n))
    have hseat (j : SeatId) : ((p.presenceChanged i y n).recounted).seat j = if j = i then presenceSet (p.seat i) y n else p.seat j :=
      presenceChanged_seat p i y n j
    refine ⟨fun j hj => ?_, ?_, ?_, fun _ => ⟨?_, fun a => ?_, fun hvacant => ?_⟩⟩
    · obtain ⟨hpresence, habsence, -⟩ := hkept.seats j
      rw [hpresence, habsence, hseat, if_neg hj]
      exact ⟨rfl, rfl⟩
    · rw [(hkept.seats i).1, hseat, if_pos rfl]
      rfl
    · rw [(hkept.seats i).2.1, hseat, if_pos rfl]
      rfl
    · rw [hkept.occupied, hkept.occupiedSeats]
      rfl
    · exact (updateCount_grows (.refl _)).flag (presenceChanged_raises p i y n a)
    · subst hvacant
      by_contra hqueued
      have hold : (p.presenceChanged i .vacant n).isQueued i = true := hkept.queue i (by simpa using hqueued)
      simp [presenceChanged_queue] at hold

/-- In ACTIVE the report of a proximity channel is its change of presence alone. -/
theorem report_active (hactive : p.pwu.power = .active) (i : SeatId) (o : Sensed) (cause : ReportCause) :
    p.report (proximityChannel i) o cause = p.proximityReport i o := by
  have hpower : (p.proximityReport i o).pwu.power = .active := by simpa using hactive
  have hwake : (p.proximityReport i o).wake = p.proximityReport i o := if_neg (by rw [hpower]; decide)
  have hseat : ∀ s : SeatId, seatOf (proximityChannel s) = s := by decide
  simp only [report, kindOf_proximityChannel, hseat, hwake, ite_self]

theorem proximityReport_eq (p : Part) (i : SeatId) (o : Sensed) :
    p.proximityReport i o =
      p.changePresence i (presenceAfter p.smn.grace (p.seat i) o).1 (presenceAfter p.smn.grace (p.seat i) o).2 := rfl

theorem presenceAfter_eq (grace : Nat) {x x' : Seat} (hpresence : x'.presence = x.presence) (habsence : x'.absence = x.absence)
    (o : Sensed) : presenceAfter grace x' o = presenceAfter grace x o := by
  cases o <;> simp only [presenceAfter, hpresence, habsence]

theorem proximityChannel_val (i : SeatId) : (proximityChannel i).val ≠ 40 := by
  simp only [proximityChannel]
  omega

/-- A frame of ACTIVE in which no channel but a seat's proximity channel reports: the report, if there is one, reaches the
seat as it stood at the start of the frame, and nothing else moves presence. -/
theorem sensingFrame_proximity (hstage : p.pln.stage = .running) (hactive : p.pwu.power = .active)
    (hquiet : ∀ d : ChannelId, d ≠ proximityChannel i → d.val ≠ 40 → QuietChannel p readings d) :
    (reportsOf (p.updated readings (proximityChannel i)).2 = [] → FrameKept p (p.sensingFrame readings first timersFirst)) ∧
      ∀ o cause, reportsOf (p.updated readings (proximityChannel i)).2 = [(o, cause)] →
        ∃ q, FrameKept p q ∧ FrameKept (q.proximityReport i o) (p.sensingFrame readings first timersFirst) ∧
          NoticesGrow (q.proximityReport i o).notices (p.sensingFrame readings first timersFirst).notices := by
  obtain ⟨a, q, u, ha, hq, hu, hframe⟩ := sensingFrame_reports (first := first) (timersFirst := timersFirst) hstage hactive
    (proximityChannel_val i) hquiet
  have hbefore : FrameKept p q := (ha.kept.trans (kept_timed p a timersFirst)).trans hq.kept
  rw [hframe]
  have hafter : FrameKept u (p.timed (!timersFirst) u) := kept_timed p u _
  refine ⟨fun hnone => ?_, fun o cause hone => ?_⟩
  · exact (hbefore.trans (quietStep_sendOut hnone q _).kept).trans (hu.kept.trans hafter)
  · obtain ⟨r, hr, hend⟩ := sendOut_report hone q (proximityChannel i)
    have hpwu : (p.timed timersFirst a).pwu = a.pwu := by
      unfold timed
      split <;> simp
    have hpower : r.pwu.power = .active := by
      rw [hr.same.power (by simp), hq.same.power (by simp), hpwu, ha.same.power (by simp), hactive]
    rw [report_active hpower] at hend
    exact ⟨r, hbefore.trans hr.kept, (hend.kept.trans hu.kept).trans hafter,
      NoticesGrow.trans hend.grows (NoticesGrow.trans hu.grows (timed_grows p u _))⟩

theorem attended_conclude (before after : Part) : Attended after (conclude before after) :=
  .of_unopened ((Unopened.refl after).conclude before)

end Part

/-! ### The reports of a frame (R47, R51, R52, R88) -/

theorem completes_report {readings : List Nat} {first : List ChannelId} {timersFirst : Bool} {i : SeatId} {s : State}
    (hrun : s.part.pln.stage = .running ∧ s.part.pwu.power = .active)
    (hquiet : ∀ d : ChannelId, d ≠ Part.proximityChannel i → d.val ≠ 40 → QuietChannel s.part readings d)
    (hlimit : ¬ ReachesHaltLimit s.part (Part.proximityChannel i) s.part.sfe.frame) :
    Completes (.sensingFrame readings first timersFirst) s fun t =>
      (Part.outcomeOf (t.channel (Part.proximityChannel i)) = Part.outcomeOf (s.part.channel (Part.proximityChannel i)) ∧
        Part.Attended s.part t) ∨
      (Part.outcomeOf (t.channel (Part.proximityChannel i)) ≠ Part.outcomeOf (s.part.channel (Part.proximityChannel i)) ∧
        ∃ q, Part.Attended s.part q ∧ q.smn.grace = s.part.smn.grace ∧
          Part.Attended (q.proximityReport i (Part.outcomeOf (t.channel (Part.proximityChannel i)))) t ∧
          NoticesGrow (q.proximityReport i (Part.outcomeOf (t.channel (Part.proximityChannel i)))).notices t.notices) := by
  obtain ⟨hstage, hactive⟩ := hrun
  have hheld : s.part.isHeld = false := by simp [Part.isHeld, hstage]
  refine completes_onEvent (f := fun p => p.sensingFrame readings first timersFirst) rfl ?_
  rw [Part.event_unheld hheld]
  obtain ⟨hnone, hone⟩ := Part.sensingFrame_proximity (i := i) (first := first) (timersFirst := timersFirst) hstage hactive hquiet
  have hend := Part.attended_conclude s.part (s.part.sensingFrame readings first timersFirst)
  have hgrows := Part.conclude_grows (NoticesGrow.refl (s.part.sensingFrame readings first timersFirst).notices) s.part
  rw [Part.conclude_channel, Part.sensingFrame_updated hactive (Part.proximityChannel_val i)]
  have htells : TellsOutcome (Part.outcomeOf (s.part.channel (Part.proximityChannel i)))
      (s.part.updated readings (Part.proximityChannel i)) := tellsOutcome_updateChannel hlimit
  obtain ⟨hsame, hreports⟩ | ⟨hne, cause, hreports⟩ := htells
  · exact .inl ⟨hsame, (hnone hreports).attended.trans hend⟩
  · obtain ⟨q, hq, hafter, hnotices⟩ := hone _ cause hreports
    exact .inr ⟨hne, q, hq.attended, hq.grace, hafter.attended.trans hend, NoticesGrow.trans hnotices hgrows⟩

/-- What a frame in which no other channel reports makes of the presence of its seat, by the channel's outcome. -/
theorem completes_presence {readings : List Nat} {first : List ChannelId} {timersFirst : Bool} {i : SeatId} {s : State}
    (hrun : s.part.pln.stage = .running ∧ s.part.pwu.power = .active)
    (hquiet : ∀ d : ChannelId, d ≠ Part.proximityChannel i → d.val ≠ 40 → QuietChannel s.part readings d)
    (hlimit : ¬ ReachesHaltLimit s.part (Part.proximityChannel i) s.part.sfe.frame) :
    Completes (.sensingFrame readings first timersFirst) s fun t =>
      let o := Part.outcomeOf (t.channel (Part.proximityChannel i))
      let y := Part.presenceAfter s.part.smn.grace (s.part.seat i) o
      (∀ j, j ≠ i → (t.seat j).presence = (s.part.seat j).presence ∧ (t.seat j).absence = (s.part.seat j).absence) ∧
      (o = Part.outcomeOf (s.part.channel (Part.proximityChannel i)) →
        (t.seat i).presence = (s.part.seat i).presence ∧ (t.seat i).absence = (s.part.seat i).absence) ∧
      (o ≠ Part.outcomeOf (s.part.channel (Part.proximityChannel i)) →
        (t.seat i).presence = y.1 ∧ (t.seat i).absence = y.2) ∧
      ((t.seat i).presence ≠ (s.part.seat i).presence →
        t.smn.occupied = t.occupiedSeats ∧ (∀ a, (t.port a).flags &&& 2 ≠ 0) ∧
        ((t.seat i).presence = .vacant → t.isQueued i = false)) := by
  refine (completes_report (first := first) (timersFirst := timersFirst) hrun hquiet hlimit).mono ?_
  intro t ht
  obtain ⟨hsame, hkept⟩ | ⟨hne, q, hq, hgrace, hafter, hnotices⟩ := ht
  · have hpresence (j : SeatId) : (t.seat j).presence = (s.part.seat j).presence ∧ (t.seat j).absence = (s.part.seat j).absence := by
      obtain ⟨hp, ha, -⟩ := hkept.seats j
      exact ⟨hp, ha⟩
    exact ⟨fun j _ => hpresence j, fun _ => hpresence i, fun h => absurd hsame h, fun h => absurd (hpresence i).1 h⟩
  · dsimp only
    generalize Part.outcomeOf (t.channel (Part.proximityChannel i)) = o at *
    obtain ⟨hqp, hqa, -⟩ := hq.seats i
    have hy : Part.presenceAfter q.smn.grace (q.seat i) o = Part.presenceAfter s.part.smn.grace (s.part.seat i) o := by
      rw [hgrace, Part.presenceAfter_eq _ hqp hqa]
    rw [Part.proximityReport_eq, hy] at hafter hnotices
    obtain ⟨hothers, hpresence, habsence, hmoved⟩ := Part.changePresence_reaches q i
      (Part.presenceAfter s.part.smn.grace (s.part.seat i) o).1 (Part.presenceAfter s.part.smn.grace (s.part.seat i) o).2
    have hti : (t.seat i).presence = (Part.presenceAfter s.part.smn.grace (s.part.seat i) o).1 ∧
        (t.seat i).absence = (Part.presenceAfter s.part.smn.grace (s.part.seat i) o).2 := by
      obtain ⟨hp, ha, -⟩ := hafter.seats i
      exact ⟨hp.trans hpresence, ha.trans habsence⟩
    refine ⟨fun j hj => ?_, fun h => absurd h hne, fun _ => hti, fun h => ?_⟩
    · obtain ⟨hp, ha, -⟩ := hafter.seats j
      obtain ⟨hp', ha'⟩ := hothers j hj
      obtain ⟨hp'', ha'', -⟩ := hq.seats j
      exact ⟨hp.trans (hp'.trans hp''), ha.trans (ha'.trans ha'')⟩
    · obtain ⟨hcount, hflags, hvacant⟩ := hmoved (by rw [hqp, ← hti.1]; exact h)
      refine ⟨?_, fun a => hnotices.flag (hflags a), fun hv => ?_⟩
      · rw [hafter.occupied, hcount, hafter.occupiedSeats]
      · by_contra hqueued
        have hold := hafter.queue i (by simpa using hqueued)
        rw [hvacant (by rw [← hti.1]; exact hv)] at hold
        simp at hold

/-! ### A seat that becomes OCCUPIED in an AWAITING session (R51, R166, R177) -/

namespace Part

variable {p q t : Part} {i : SeatId} {x : Session} {b : Booking}

/-- An installed VACANT seat that becomes OCCUPIED adds one to the occupied seats (R51). -/
theorem occupiedSeats_occupied (hvacant : (p.seat i).presence = .vacant) (hinstalled : (p.seat i).installed = true) (n : Nat) :
    (p.presenceChanged i .occupied n).occupiedSeats = p.occupiedSeats + 1 := by
  refine length_filter_change (a := i) (List.nodup_finRange 20) (List.mem_finRange i) ?_ ?_ fun j _ hj => ?_
  · simp [hvacant, counted]
  · rw [presenceChanged_seat, if_pos rfl]
    simp [presenceSet, hinstalled, counted]
  · rw [presenceChanged_seat, if_neg hj]

theorem sameBut_presenceChanged (p : Part) (i : SeatId) (n : Nat) : SameBut [.seats, .notices] p (p.presenceChanged i .occupied n) := by
  have heq : p.presenceChanged i .occupied n = (p.setSeat i (presenceSet (p.seat i) .occupied n)).notice .seat := rfl
  rw [heq]
  intro a ha
  cases a <;> simp_all [Piece.Same]

/-- An AWAITING session that has its quorum checks in now (R166). -/
def checkedInNow (p : Part) (x : Session) : Session :=
  { x with state := .inSession, checkedIn := some p.sch.clock.minute, vacancy := 0 }

theorem checkInTest_enters (hsession : p.ssu.session = some x) (hawaiting : x.state = .awaiting) (hcopy : x.copy = some b)
    (hquorum : b.quorum ≤ p.smn.occupied) (hend : p.now + p.ssu.params.warning < x.effEnd) :
    p.checkInTest.ssu.session = some (p.checkedInNow x) ∧ p.checkInTest.flc.isOpen = true ∧
      SameBut [.session, .floorOpen, .notices] p p.checkInTest := by
  have hcheck : p.checkIn = p.enterSession { x with checkedIn := some p.sch.clock.minute } := by
    simp only [checkIn, hsession, hcopy]
    exact if_pos ⟨hawaiting, hquorum⟩
  have hstage : p.stageFor x.effEnd = .inSession := stage_notNear hend
  obtain ⟨hentered, hopen, hbut⟩ := enterSession_stays (p := p) (x := { x with checkedIn := some p.sch.clock.minute })
    (by rw [hstage]; decide)
  have hnow : p.staged (entered { x with checkedIn := some p.sch.clock.minute }) = p.checkedInNow x := by
    simp only [staged, entered, hstage]
    rfl
  rw [hnow] at hentered
  have hstays : p.checkIn.completeWindup = p.checkIn := by
    refine completeWindup_stays fun y hy => ?_
    rw [hcheck, hentered] at hy
    obtain rfl := Option.mem_some.mp hy
    simp [checkedInNow]
  rw [checkInTest, hstays, hcheck]
  exact ⟨hentered, hopen, hbut⟩

theorem enterSession_flag (p : Part) (x : Session) (a : Port) : ((p.enterSession x).notices a).1 &&& 32 ≠ 0 := by
  have hraised : ((p.putSession (some { x with state := .inSession, vacancy := 0 })).notices a).1 &&& 32 ≠ 0 := by
    rw [putSession, notice_notices]
    exact mark_raised _ (by decide)
  exact (stageStep_grows (openFloor_grows (NoticesGrow.refl _))).flag hraised

theorem checkInTest_flag (hsession : p.ssu.session = some x) (hawaiting : x.state = .awaiting) (hcopy : x.copy = some b)
    (hquorum : b.quorum ≤ p.smn.occupied) (a : Port) : (p.checkInTest.notices a).1 &&& 32 ≠ 0 := by
  have hcheck : p.checkIn = p.enterSession { x with checkedIn := some p.sch.clock.minute } := by
    simp only [checkIn, hsession, hcopy]
    exact if_pos ⟨hawaiting, hquorum⟩
  refine (completeWindup_grows (NoticesGrow.refl p.checkIn.notices)).flag ?_
  rw [hcheck]
  exact enterSession_flag p _ a

/-- A session with the peak that a count of `n` gives it (R177). -/
def peaked (n : Nat) (x : Session) : Session := { x with peak := max x.peak n }

/-- What the count of one more occupied seat makes of an AWAITING session (R166, R177). -/
theorem updateCount_awaiting (hcount : p.occupiedSeats ≠ p.smn.occupied) (hsession : p.ssu.session = some x)
    (hawaiting : x.state = .awaiting) (hcopy : x.copy = some b) (hend : p.now + p.ssu.params.warning < x.effEnd) :
    (b.quorum ≤ p.occupiedSeats →
        p.updateCount.ssu.session = some (p.checkedInNow (peaked p.occupiedSeats x)) ∧ p.updateCount.flc.isOpen = true ∧
        ∀ a, (p.updateCount.notices a).1 &&& 32 ≠ 0) ∧
      (p.occupiedSeats < b.quorum →
        p.updateCount.ssu.session = some (peaked p.occupiedSeats x) ∧ p.updateCount.flc.isOpen = p.flc.isOpen) := by
  have htaken : SameBut [.occupied, .quiet] p p.countTaken :=
    ((sameBut_recounted p).mono (by simp)).trans ((sameBut_countTaken p).mono (by simp))
  have hcounted : p.countTaken.recountedSession p.smn.occupied x = peaked p.occupiedSeats x := by
    have hnot : ¬ (p.smn.occupied = 0 ∧ runningState x.state = true) := by simp [hawaiting, runningState]
    rw [recountedSession, countTaken_occupied, if_neg hnot]
    rfl
  set u := p.countTaken.setSession (some (peaked p.occupiedSeats x)) with hu
  have hset : SameBut [.occupied, .quiet, .session] p u := (htaken.mono (by simp)).trans ((sameBut_setSession _ _).mono (by simp))
  have husession : u.ssu.session = some (peaked p.occupiedSeats x) := rfl
  have hoccupied : u.smn.occupied = p.occupiedSeats := by rw [hu, setSession_smn, countTaken_occupied]
  have htest : p.updateCount = concludeDwell p u.checkInTest := by
    rw [updateCount_changed hcount, occupiedChanged_eq ((htaken.session (by simp)).trans hsession), hcounted]
  have hdwell {y : Session} (hy : u.checkInTest.ssu.session = some y) :
      p.updateCount.ssu.session = some y ∧ p.updateCount.flc.isOpen = u.checkInTest.flc.isOpen := by
    have hbut := concludeDwell_open hy p
    rw [htest]
    exact ⟨(hbut.session (by simp)).trans hy, hbut.isOpen (by simp)⟩
  refine ⟨fun hquorum => ?_, fun hquorum => ?_⟩
  · have hnow : u.now + u.ssu.params.warning < x.effEnd := by
      rwa [now, hset.clock (by simp), hset.params (by simp), ← now]
    obtain ⟨hentered, hopen, -⟩ := checkInTest_enters (x := peaked p.occupiedSeats x) husession hawaiting hcopy
      (by rw [hoccupied]; exact hquorum) hnow
    obtain ⟨hafter, hfloor⟩ := hdwell hentered
    refine ⟨hafter.trans ?_, hfloor.trans hopen, fun a => ?_⟩
    · rw [checkedInNow, checkedInNow, hset.clock (by simp)]
    · rw [htest]
      exact (concludeDwell_grows (NoticesGrow.refl _) p).flag
        (checkInTest_flag (x := peaked p.occupiedSeats x) husession hawaiting hcopy (by rw [hoccupied]; exact hquorum) a)
  · have hstays : u.checkInTest = u := by
      refine checkInTest_stays (x := peaked p.occupiedSeats x) husession ?_ fun _ c hc => ?_
      · rw [show (peaked p.occupiedSeats x).state = x.state from rfl, hawaiting]
        decide
      · rw [hoccupied]
        obtain rfl := Option.mem_unique hc hcopy
        exact hquorum
    obtain ⟨hafter, hfloor⟩ := hdwell (y := peaked p.occupiedSeats x) (by rw [hstays]; exact husession)
    exact ⟨hafter, hfloor.trans (by rw [hstays]; exact hset.isOpen (by simp))⟩

/-- A report that makes a VACANT seat OCCUPIED, in an AWAITING session (R47, R166). -/
theorem proximityReport_awaiting (hvacant : (p.seat i).presence = .vacant) (hinstalled : (p.seat i).installed = true)
    (hcount : p.smn.occupied = p.occupiedSeats) (hsession : p.ssu.session = some x) (hawaiting : x.state = .awaiting)
    (hcopy : x.copy = some b) (hend : p.now + p.ssu.params.warning < x.effEnd) :
    ((p.proximityReport i .active).seat i).presence = .occupied ∧
      (p.proximityReport i .active).smn.occupied = p.smn.occupied + 1 ∧
      (b.quorum ≤ p.smn.occupied + 1 →
        (p.proximityReport i .active).ssu.session = some (p.checkedInNow (peaked (p.smn.occupied + 1) x)) ∧
        (p.proximityReport i .active).flc.isOpen = true ∧ ∀ a, ((p.proximityReport i .active).notices a).1 &&& 32 ≠ 0) ∧
      (p.smn.occupied + 1 < b.quorum →
        (p.proximityReport i .active).ssu.session = some (peaked (p.smn.occupied + 1) x) ∧
        (p.proximityReport i .active).flc.isOpen = p.flc.isOpen) := by
  have hafter : presenceAfter p.smn.grace (p.seat i) .active = (.occupied, (p.seat i).absence) := by simp [presenceAfter, hvacant]
  set m := p.presenceChanged i .occupied (p.seat i).absence with hm
  have hreport : p.proximityReport i .active = m.updateCount := by
    rw [proximityReport_eq, hafter, changePresence_eq (by simp [hvacant])]
  have hseats : m.occupiedSeats = p.smn.occupied + 1 := by rw [hm, occupiedSeats_occupied hvacant hinstalled, hcount]
  have hset : SameBut [.seats, .notices] p m := sameBut_presenceChanged p i _
  have hkept := Attended.of_unopened (unopened_updateCount m)
  have hnow : m.now + m.ssu.params.warning < x.effEnd := by
    rwa [now, hset.clock (by simp), hset.params (by simp), ← now]
  obtain ⟨henters, hstays⟩ := updateCount_awaiting (p := m) (x := x) (b := b)
    (by rw [hseats, hset.occupied (by simp)]; omega) ((hset.session (by simp)).trans hsession) hawaiting hcopy hnow
  rw [hseats] at henters hstays
  have hminute : m.checkedInNow (peaked (p.smn.occupied + 1) x) = p.checkedInNow (peaked (p.smn.occupied + 1) x) := by
    rw [checkedInNow, checkedInNow, hset.clock (by simp)]
  rw [hminute] at henters
  rw [hset.isOpen (by simp)] at hstays
  rw [hreport]
  refine ⟨(hkept.seats i).1.trans ?_, hkept.occupied.trans hseats, henters, hstays⟩
  exact congrArg Seat.presence ((presenceChanged_seat p i .occupied (p.seat i).absence i).trans (if_pos rfl))

end Part

/-- Settles O14: the report of the channel whose outcome changes, or none, reaches the seat (`sensingFrame_proximity`), and
what SSU makes of the count follows from it. -/
theorem reportsReachSeats : Obligations.ReportsReachSeats := by
  unfold Obligations.ReportsReachSeats
  refine ⟨fun readings first timersFirst i c s hrun ⟨hc, hquiet⟩ hlimit _ => ?_,
    fun readings first timersFirst i c x b s hrun ⟨hc, hquiet⟩ henters _ ⟨hvacant, hinstalled, hcount⟩
      ⟨hsession, hawaiting, hcopy⟩ hend => ?_⟩
  · subst hc
    refine (completes_presence (first := first) (timersFirst := timersFirst) hrun hquiet hlimit).mono ?_
    dsimp only
    rintro t ⟨hothers, hsame, hchanged, hmoved⟩
    refine ⟨hothers, hsame, fun hne => ?_, hmoved⟩
    obtain ⟨hpresence, habsence⟩ := hchanged hne
    rw [hpresence, habsence]
    refine ⟨fun ho hold => ?_, fun ho hold => ?_, fun ho => ?_, fun haway hleft => ?_⟩
    · rw [ho]
      obtain hold | hold := hold <;> simp [Part.presenceAfter, hold]
    · rw [ho]
      obtain hold | hold := hold <;> simp [Part.presenceAfter, hold]
    · rw [ho]
      cases hold : (s.part.seat i).presence <;> simp [Part.presenceAfter, hold]
    · revert hleft
      cases Part.outcomeOf (t.channel (Part.proximityChannel i)) <;> simp [Part.presenceAfter, haway]
  · subst hc
    obtain ⟨hstage, hactive⟩ := hrun
    obtain ⟨⟨hstate, hdebounce, hdelta⟩, hlimit⟩ := henters
    have hreports : reportsOf (s.part.updated readings (Part.proximityChannel i)).2 = [(.active, .debounce)] :=
      updateChannel_enters hstate hdebounce hdelta hlimit
    have hheld : s.part.isHeld = false := by simp [Part.isHeld, hstage]
    refine completes_onEvent (f := fun p => p.sensingFrame readings first timersFirst) rfl ?_
    rw [Part.event_unheld hheld]
    obtain ⟨-, hone⟩ := Part.sensingFrame_proximity (i := i) (first := first) (timersFirst := timersFirst) hstage hactive hquiet
    obtain ⟨q, hq, hafter, hnotices⟩ := hone _ _ hreports
    obtain ⟨hqp, -, hqi⟩ := hq.attended.seats i
    have hqnow : q.now + q.ssu.params.warning < x.effEnd := by rwa [Part.now, hq.sch, hq.ssu, ← Part.now]
    have hqcount : q.smn.occupied = q.occupiedSeats := by rw [hq.attended.occupied, hq.attended.occupiedSeats, hcount]
    have hqsession : q.ssu.session = some x := by rw [hq.ssu, hsession]
    obtain ⟨hpresence, hoccupied, hchecks, hwaits⟩ := Part.proximityReport_awaiting (hqp.trans hvacant) (hqi.trans hinstalled)
      hqcount hqsession hawaiting hcopy hqnow
    have hminute (y : Session) : q.checkedInNow y = s.part.checkedInNow y := by
      rw [Part.checkedInNow, Part.checkedInNow, hq.sch]
    rw [hq.attended.occupied] at hoccupied hchecks hwaits
    rw [hminute] at hchecks
    rw [hq.isOpen] at hwaits
    have hend := Part.attended_conclude s.part (s.part.sensingFrame readings first timersFirst)
    have hstays {y : Session} (hy : (q.proximityReport i .active).ssu.session = some y) :
        (Part.conclude s.part (s.part.sensingFrame readings first timersFirst)).ssu.session = some y ∧
        (Part.conclude s.part (s.part.sensingFrame readings first timersFirst)).flc.isOpen =
          (q.proximityReport i .active).flc.isOpen := by
      have hframe : (s.part.sensingFrame readings first timersFirst).ssu.session = some y := by rw [hafter.ssu, hy]
      have hbut := Part.sameBut_conclude_dwell (before := s.part) (.inl (Part.walkInReady_open hframe))
      exact ⟨(hbut.session (by simp)).trans hframe, (hbut.isOpen (by simp)).trans hafter.isOpen⟩
    refine ⟨?_, ?_, fun hquorum => ?_, fun hquorum => ?_⟩
    · rw [(hend.seats i).1, (hafter.attended.seats i).1, hpresence]
    · rw [hend.occupied, hafter.attended.occupied, hoccupied]
    · obtain ⟨hses, hopen, hflag⟩ := hchecks hquorum
      obtain ⟨hses', hopen'⟩ := hstays hses
      exact ⟨hses', hopen'.trans hopen, fun a => (Part.conclude_grows (.refl _) s.part).flag (hnotices.flag (hflag a))⟩
    · obtain ⟨hses, hopen⟩ := hwaits hquorum
      obtain ⟨hses', hopen'⟩ := hstays hses
      exact ⟨hses', hopen'.trans hopen⟩

end Sys2Proof.Machine
end

section
/-! A key channel's report in a sensing frame, and a key that stays DOWN through it (R53 to R56). -/

namespace Sys2Proof.Machine

namespace Part

variable {p q t : Part} {i : SeatId} {readings : List Nat} {first : List ChannelId} {timersFirst : Bool}

theorem SeatsKept.uncounted (h : SeatsKept p t) (j : SeatId) : uncounted (t.seat j) = uncounted (p.seat j) := by
  obtain ⟨c, hc⟩ := h j
  rw [hc]
  rfl

theorem SeatsKept.of_quiet (h : QuietStep p t) : SeatsKept p t := .of_eq (h.same .seats (by simp))

theorem SeatsKept.chairSeat (h : SeatsKept p t) : t.chairSeat = p.chairSeat :=
  chairSeat_of fun j => by
    obtain ⟨c, hc⟩ := h j
    rw [hc]
    exact ⟨rfl, rfl⟩

/-! ### A key that stays DOWN (R55, R56) -/

theorem keyChannel_val (i : SeatId) : (keyChannel i).val ≠ 40 := by
  simp only [keyChannel]
  omega

theorem timed_down (hkey : (p.seat i).key = .down) (hoff : (p.channel (keyChannel i)).state ≠ .off)
    (hsame : uncounted (t.seat i) = uncounted (p.seat i)) (hchair : t.chairSeat = p.chairSeat) :
    uncounted ((p.timed true t).seat i) = uncounted (heldSeat (i = p.chairSeat) p.sfe.frame (p.seat i)) := by
  have hin : i ∈ p.holdingSeats false := mem_holdingSeats.mpr ⟨hkey, by simp [isMeasured, hoff]⟩
  have hheld (b : Bool) (x : Seat) : uncounted (heldSeat b p.sfe.frame x) = heldSeat b p.sfe.frame (uncounted x) := rfl
  have hdown : (t.seat i).key = .down := (fields_uncounted hsame).1.trans hkey
  have hcounted := countPresses_down (period := p.sfe.frame) (nodup_holdingSeats p false) hin hdown
  rw [hchair, hheld, hsame, ← hheld] at hcounted
  exact hcounted

/-- A key that is DOWN at the start of a frame in which no channel reports. -/
theorem sensingFrame_held (hstage : p.pln.stage = .running) (hactive : p.pwu.power = .active)
    (hquiet : ∀ d : ChannelId, d.val ≠ 40 → QuietChannel p readings d) (hkey : (p.seat i).key = .down)
    (hoff : (p.channel (keyChannel i)).state ≠ .off) :
    uncounted ((p.sensingFrame readings first timersFirst).seat i) =
      uncounted (heldSeat (i = p.chairSeat) p.sfe.frame (p.seat i)) := by
  obtain ⟨a, q, u, ha, hq, hu, hframe⟩ := sensingFrame_reports (first := first) (timersFirst := timersFirst) hstage hactive
    (keyChannel_val i) fun d _ => hquiet d
  have hsent : QuietStep q (q.sendOut (keyChannel i) (p.updated readings (keyChannel i)).2) :=
    quietStep_sendOut (framed_quiet (hquiet _ (keyChannel_val i)) _) q _
  have hafter : QuietStep (p.timed timersFirst a) u := (hq.trans hsent).trans hu
  rw [hframe]
  cases timersFirst with
  | true =>
    exact ((SeatsKept.of_quiet hafter).uncounted i).trans
      (timed_down hkey hoff ((SeatsKept.of_quiet ha).uncounted i) (SeatsKept.of_quiet ha).chairSeat)
  | false =>
    have hwhole : SeatsKept p u := .of_quiet (ha.trans hafter)
    exact timed_down hkey hoff (hwhole.uncounted i) hwhole.chairSeat

/-! ### What a frame leaves before and after a key's report -/

/-- Channels' records and press timers change, and notices are raised. -/
structure Stirred (p t : Part) : Prop where
  same : SameBut [.sensing, .seats, .notices] p t
  seat : ∀ j, t.seat j = { p.seat j with press := (t.seat j).press }

theorem Stirred.trans (h : Stirred p q) (h' : Stirred q t) : Stirred p t :=
  ⟨SameBut.trans h.same h'.same, fun j => by rw [h'.seat j, h.seat j]⟩

theorem QuietStep.stirred (h : QuietStep p t) : Stirred p t :=
  ⟨h.same.mono (by simp), fun j => by rw [h.same.seat (by simp)]⟩

theorem PressesCounted.stirred (h : PressesCounted p t) : Stirred p t := ⟨h.same.mono (by simp), h.seat⟩

theorem Stirred.chairSeat (h : Stirred p t) : t.chairSeat = p.chairSeat :=
  chairSeat_of fun j => by rw [h.seat j]; exact ⟨rfl, rfl⟩

theorem Stirred.ssu (h : Stirred p t) : t.ssu = p.ssu := h.same.ssu (by simp) (by simp) (by simp) (by simp) (by simp)

theorem Stirred.rtu (h : Stirred p t) : t.rtu = p.rtu := h.same.rtu (by simp) (by simp) (by simp) (by simp) (by simp)

theorem Stirred.occupied (h : Stirred p t) : t.smn.occupied = p.smn.occupied := h.same.occupied (by simp)

theorem Stirred.noChairNext {period : Nat} (h : QuietStep p t) (hno : p.NoChairNext period) : t.NoChairNext period := by
  rw [NoChairNext, (SeatsKept.of_quiet h).chairSeat, h.same.seat (by simp)]
  exact hno

/-- A frame of ACTIVE in which a key channel alone reports, once: the report, and else press timers, channels' records and
notices. Before it no chair next is taken, where the chair's key reaches none in the frame. -/
theorem sensingFrame_key {o : Sensed} (hstage : p.pln.stage = .running) (hactive : p.pwu.power = .active)
    (hquiet : ∀ d : ChannelId, d ≠ keyChannel i → d.val ≠ 40 → QuietChannel p readings d)
    (hreports : reportsOf (p.updated readings (keyChannel i)).2 = [(o, .debounce)]) :
    ∃ q u, ((p.chairSeat ∈ p.holdingSeats false → p.NoChairNext p.sfe.frame) → Stirred p q) ∧
      (q.ssu = p.ssu ∧ q.smn.occupied = p.smn.occupied ∧ q.pwu.power = .active) ∧
      QuietStep (q.keyReport i o .debounce) u ∧
      p.sensingFrame readings first timersFirst = p.timed (!timersFirst) u := by
  obtain ⟨a, q, u, ha, hq, hu, hframe⟩ := sensingFrame_reports (first := first) (timersFirst := timersFirst) hstage hactive
    (keyChannel_val i) hquiet
  obtain ⟨r, hr, hend⟩ := sendOut_report hreports q (keyChannel i)
  have hreport : r.report (keyChannel i) o .debounce = r.keyReport i o .debounce := by
    simp only [report, kindOf_keyChannel, seatOf_keyChannel]
  rw [hreport] at hend
  have hkept := kept_timed p a timersFirst
  have hpwu : (p.timed timersFirst a).pwu = a.pwu := by
    unfold timed
    split <;> simp
  refine ⟨r, u, fun hno => ?_, ⟨?_, ?_, ?_⟩, hend.trans hu, hframe⟩
  · have htimed : PressesCounted a (p.timed timersFirst a) := pressesCounted_timed timersFirst fun hin => by
      rw [(SeatsKept.of_quiet ha).chairSeat] at hin
      exact Stirred.noChairNext ha (hno hin)
    exact ((ha.stirred.trans htimed.stirred).trans hq.stirred).trans hr.stirred
  · rw [hr.stirred.ssu, hq.stirred.ssu, hkept.ssu, ha.stirred.ssu]
  · rw [hr.stirred.occupied, hq.stirred.occupied, hkept.attended.occupied, ha.stirred.occupied]
  · rw [hr.same.power (by simp), hq.same.power (by simp), hpwu, ha.same.power (by simp), hactive]

/-! ### A key that goes DOWN, and one that goes UP (R53 to R56) -/

/-- A seat whose key goes DOWN, with the press's mark (R53). -/
def keyedDown (m : PressMark) (x : Seat) : Seat := { x with key := .down, press := 0, nextTaken := false, mark := m }

/-- A seat whose key goes UP (R53, R57). -/
def keyedUp (x : Seat) : Seat := { x with key := .up, press := 0, mark := .none, nextTaken := false }

theorem keyDown_stray (h : p.presentForKey i = false) :
    p.keyDown i = (p.setSeat i (keyedDown .stray (p.seat i))).countStray i := by
  have hno : p.accepts i = false := by simp [accepts, h]
  simp only [keyDown, hno]
  rfl

theorem keyDown_chair (hactive : p.pwu.power = .active) (h : p.presentForKey i = true) (hchair : i = p.chairSeat) :
    p.keyDown i = p.setSeat i (keyedDown .accepted (p.seat i)) := by
  have hyes : p.accepts i = true := by simp [accepts, h, hactive]
  simp only [keyDown, hyes, if_true]
  exact if_pos hchair

theorem keyDown_delegate (hactive : p.pwu.power = .active) (h : p.presentForKey i = true) (hchair : i ≠ p.chairSeat) :
    p.keyDown i = ((p.setSeat i (keyedDown .accepted (p.seat i))).delegatePress i).1 := by
  have hyes : p.accepts i = true := by simp [accepts, h, hactive]
  simp only [keyDown, hyes, if_true]
  exact if_neg hchair

/-- A delegate press changes of the seats no more than counters. -/
theorem seatsKept_delegatePress (p : Part) (i : SeatId) : SeatsKept p (p.delegatePress i).1 := by
  have hcount (q : Part) (s : SeatId) (f : Counters → Counters) : SeatsKept q (q.count s f) := fun j => by
    rw [count_seat]
    split
    · exact ⟨_, rfl⟩
    · exact ⟨_, rfl⟩
  have hgrant (q : Part) (k : SlotId) (s : SeatId) : SeatsKept q (q.grantSlot k s) := fun j => by
    rw [grantSlot_seat]
    split
    · exact ⟨_, rfl⟩
    · exact ⟨_, rfl⟩
  have hrefuse (q : Part) (s : SeatId) : SeatsKept q (q.refusePress s) := hcount (q.showRefused s) s _
  have hjoin (q : Part) (s : SeatId) (o : Bool) : SeatsKept q (q.join s o) := .of_eq (by simp)
  have hclose (q : Part) (k : SlotId) (r : SlotReason) : SeatsKept q (q.close k r) := .of_eq (by simp)
  have hadvance (q : Part) : SeatsKept q q.autoAdvance := by
    unfold autoAdvance
    split
    · exact advance_keeps_of (P := SeatsKept q) (fun t k e _ _ ht => ht.trans (hgrant t k e.seat)) _ (.of_eq rfl)
    · exact .of_eq rfl
  have hjoinAdvance (q : Part) (o : Bool) : SeatsKept q (q.joinAndAdvance i o).1 :=
    ((hjoin q i o).trans (hadvance _)).trans (hcount _ i _)
  have hnew : SeatsKept p (p.newRequest i).1 := by
    unfold newRequest
    (repeat' split)
    · exact (hgrant p _ i).trans (hcount _ i _)
    · exact hrefuse p i
    · exact (hjoin p i false).trans (hcount _ i _)
    · exact hrefuse p i
    · exact hjoinAdvance p false
    · exact hrefuse p i
    · exact (hjoin p i false).trans (hcount _ i _)
    · exact (hgrant p _ i).trans (hcount _ i _)
    · exact hrefuse p i
    · exact (hclose p _ _).trans (hjoinAdvance _ true)
    · exact hjoinAdvance p false
  unfold delegatePress
  (repeat' split)
  · exact hrefuse p i
  · exact .of_eq (by simp)
  · exact hclose p _ _
  · exact hrefuse p i
  · exact hnew

theorem chairToggle_seats (p : Part) : p.chairToggle.1.seat = p.seat := by
  refine seat_eq ?_
  simp only [chairToggle]
  (repeat' split) <;> simp

theorem keyRelease_seat (p : Part) (i : SeatId) : (p.keyRelease i).seat = (p.setSeat i (keyedUp (p.seat i))).seat := by
  simp only [keyRelease]
  split
  · exact chairToggle_seats _
  · rfl

theorem keyRelease_kept (h : ¬ (i = p.chairSeat ∧ (p.seat i).mark = .accepted ∧ (p.seat i).nextTaken = false)) :
    p.keyRelease i = p.setSeat i (keyedUp (p.seat i)) := if_neg h

theorem keyRelease_toggles (h : i = p.chairSeat ∧ (p.seat i).mark = .accepted ∧ (p.seat i).nextTaken = false) :
    p.keyRelease i = (p.setSeat i (keyedUp (p.seat i))).chairToggle.1 := if_pos h

end Part

end Sys2Proof.Machine
end

section
/-! The gestures that a key channel's frame makes (R53 to R56, R71, R72, R75). -/

namespace Sys2Proof.Machine

namespace Part

variable {p q t x e : Part} {i : SeatId} {j k : SlotId} {m : PressMark}

/-- Where the key's event reaches: the part `x` that it leaves stands to the end of the frame, but for channels' records, press
timers, notices, and the drive of the screens where the speakers change. -/
structure Lasts (p x t : Part) : Prop where
  driven : SameBut [.sensing, .seats, .notices, .screens] x t
  same : x.rtu = p.rtu → SameBut [.sensing, .seats, .notices] x t
  counters : ∀ j, (t.seat j).counters = (x.seat j).counters

/-- The end of a frame in which SSU, the occupied count and RTU stood. -/
theorem lasts_conclude (hset : Settled p) (hssu : x.ssu = p.ssu) (hoccupied : x.smn.occupied = p.smn.occupied) (he : Stirred x e) :
    Lasts p x (conclude p e) := by
  have hssu' : e.ssu = p.ssu := he.ssu.trans hssu
  have hoccupied' : e.smn.occupied = p.smn.occupied := he.occupied.trans hoccupied
  have hquiet := sameBut_conclude_quiet hset hssu' hoccupied'
  refine ⟨(he.same.mono (by simp)).trans (hquiet.mono (by simp)), fun hrtu => ?_, fun j => ?_⟩
  · exact he.same.trans ((sameBut_conclude_settled hset hssu' hoccupied' (he.rtu.trans hrtu)).mono (by simp))
  · rw [hquiet.seat (by simp), he.seat j]

/-! ### A key that goes DOWN -/

theorem keyDown_seats (hactive : p.pwu.power = .active) (i : SeatId) :
    SeatsKept (p.setSeat i (keyedDown (if p.presentForKey i then .accepted else .stray) (p.seat i))) (p.keyDown i) := by
  cases hpresent : p.presentForKey i with
  | false =>
    rw [keyDown_stray hpresent]
    intro j
    rw [countStray, count_seat]
    split
    · exact ⟨_, rfl⟩
    · exact ⟨_, rfl⟩
  | true =>
    by_cases hchair : i = p.chairSeat
    · rw [keyDown_chair hactive hpresent hchair]
      exact .of_eq rfl
    · rw [keyDown_delegate hactive hpresent hchair]
      exact seatsKept_delegatePress _ i

theorem keyedDown_chairSeat (p : Part) (i : SeatId) (m : PressMark) :
    (p.setSeat i (keyedDown m (p.seat i))).chairSeat = p.chairSeat := by
  refine chairSeat_of fun j => ?_
  rw [setSeat_seat]
  split
  next h => rw [h]; exact ⟨rfl, rfl⟩
  next => exact ⟨rfl, rfl⟩

theorem keyedUp_chairSeat (p : Part) (i : SeatId) : (p.setSeat i (keyedUp (p.seat i))).chairSeat = p.chairSeat := by
  refine chairSeat_of fun j => ?_
  rw [setSeat_seat]
  split
  next h => rw [h]; exact ⟨rfl, rfl⟩
  next => exact ⟨rfl, rfl⟩

theorem presentForKey_seat (hpresence : (t.seat i).presence = (p.seat i).presence)
    (hrequired : (t.seat i).presenceRequired = (p.seat i).presenceRequired) : t.presentForKey i = p.presentForKey i := by
  rw [presentForKey, presentForKey, hpresence, hrequired]

theorem Stirred.presentForKey (h : Stirred p t) (i : SeatId) : t.presentForKey i = p.presentForKey i :=
  presentForKey_seat (by rw [h.seat]) (by rw [h.seat])

end Part

/-- A frame that takes a key channel to ACTIVE while no other key chair gesture may come of it. -/
theorem completes_keyDown {readings : List Nat} {first : List ChannelId} {timersFirst : Bool} {i : SeatId} {s : State}
    (hrun : s.part.pln.stage = .running ∧ s.part.pwu.power = .active)
    (hquiet : ∀ d : ChannelId, d ≠ Part.keyChannel i → d.val ≠ 40 → QuietChannel s.part readings d)
    (henters : EntersActive s.part readings (Part.keyChannel i) s.part.sfe.frame)
    (hup : (s.part.seat i).key = .up) (hchair : (s.part.seat s.part.chairSeat).key = .up) (hset : Settled s.part) :
    Completes (.sensingFrame readings first timersFirst) s fun t =>
      ∃ q, Part.Stirred s.part q ∧ q.pwu.power = .active ∧ Part.Lasts s.part (q.keyDown i) t ∧
        Part.uncounted (t.seat i) =
          Part.uncounted (Part.keyedDown (if s.part.presentForKey i then .accepted else .stray) (q.seat i)) := by
  obtain ⟨hstage, hactive⟩ := hrun
  obtain ⟨⟨hstate, hdebounce, hdelta⟩, hlimit⟩ := henters
  have hheld : s.part.isHeld = false := by simp [Part.isHeld, hstage]
  refine completes_onEvent (f := fun p => p.sensingFrame readings first timersFirst) rfl ?_
  rw [Part.event_unheld hheld]
  obtain ⟨q, u, hstirred, ⟨hssu, hoccupied, hpower⟩, hu, hframe⟩ := Part.sensingFrame_key (first := first)
    (timersFirst := timersFirst) hstage hactive hquiet (updateChannel_enters hstate hdebounce hdelta hlimit)
  have hout : s.part.chairSeat ∉ s.part.holdingSeats false := fun hin => by
    simp [(Part.mem_holdingSeats.mp hin).1] at hchair
  have hq := hstirred fun hin => absurd hin hout
  have hseats := Part.keyDown_seats hpower i
  have hkept : Part.SeatsKept _ u := hseats.trans (.of_quiet hu)
  have huchair : u.chairSeat = s.part.chairSeat := hkept.chairSeat.trans ((Part.keyedDown_chairSeat q i _).trans hq.chairSeat)
  have htimed : Part.PressesCounted u (s.part.timed (!timersFirst) u) :=
    Part.pressesCounted_timed _ fun hin => absurd (huchair ▸ hin) hout
  have hend : Part.Stirred (q.keyDown i) (s.part.sensingFrame readings first timersFirst) :=
    hframe ▸ hu.stirred.trans htimed.stirred
  refine ⟨q, hq, hpower, Part.lasts_conclude hset ?_ ?_ hend, ?_⟩
  · rw [← hssu]
    simp
  · rw [← hoccupied]
    simp
  · have hstill : Part.uncounted ((s.part.timed (!timersFirst) u).seat i) = Part.uncounted (u.seat i) :=
      Part.timed_still _ fun hdown => by simp [hup] at hdown
    rw [(Part.seatsKept_conclude _ _).uncounted, hframe, hstill, hkept.uncounted, Part.setSeat_seat, if_pos rfl, hq.presentForKey]

/-! ### What the delegate press comes to (R71, R72, R74) -/

namespace Part

variable {p q t : Part} {i : SeatId} {k : SlotId}

section
variable (hq : SameBut [.sensing, .seats, .notices] p q)
include hq

theorem press_rtu : q.rtu = p.rtu := hq.rtu (by simp) (by simp) (by simp) (by simp) (by simp)

theorem press_refused (hopen : p.flc.isOpen = false) (h : Lasts p (q.delegatePress i).1 t) :
    t.sgu.refused.get i = 1000 ∧ SameBut [.sensing, .seats, .refused, .notices] p t := by
  rw [delegatePress_closed ((hq.isOpen (by simp)).trans hopen)] at h
  have hlast := h.same ((by simp [refusePress] : (q.refusePress i).rtu = q.rtu).trans (press_rtu hq))
  have hrefused : t.sgu.refused = (q.refusePress i).sgu.refused := hlast .refused (by simp)
  refine ⟨by rw [hrefused, refusePress_refused], (hq.mono (by simp)).trans ?_⟩
  exact ((sameBut_refusePress q i).mono (by simp)).trans (hlast.mono (by simp))

theorem press_withdraws (hopen : p.flc.isOpen = true) (hqueued : p.isQueued i = true) (h : Lasts p (q.delegatePress i).1 t) :
    t.flc.queue = p.flc.queue.filter (fun e => e.seat ≠ i) ∧ SameBut [.sensing, .seats, .queue, .notices] p t := by
  rw [delegatePress_queued ((hq.isOpen (by simp)).trans hopen) (by rw [isQueued_eq (hq.queue (by simp))]; exact hqueued)] at h
  have hlast := h.same ((by simp : (q.leaveQueue i).rtu = q.rtu).trans (press_rtu hq))
  refine ⟨(hlast.queue (by simp)).trans ?_, (hq.mono (by simp)).trans ?_⟩
  · rw [leaveQueue, ← hq.queue (by simp)]
    simp
  · exact ((sameBut_setQueue q _).mono (by simp)).trans (hlast.mono (by simp))

theorem press_closes (hopen : p.flc.isOpen = true) (hqueued : p.isQueued i = false) (hk : p.slotOf i = some k)
    (hstate : isOpenState (p.slot k).state = true) (h : Lasts p (q.delegatePress i).1 t) :
    (t.slot k).state = .closing ∧ (t.slot k).reason = some .self ∧
      SameBut [.sensing, .seats, .slots, .openOrder, .screens, .speakers, .notices] p t := by
  have hslot : q.slot k = p.slot k := congrFun (hq.slot (by simp)) k
  rw [delegatePress_open ((hq.isOpen (by simp)).trans hopen) (by rw [isQueued_eq (hq.queue (by simp))]; exact hqueued)
    (by rw [slotOf_eq (hq .slots (by simp))]; exact hk) (by rw [hslot]; exact hstate)] at h
  have hdata : t.slotData k = closedFor .self (q.slotData k) := by
    rw [h.driven.slotData (by simp), close_data (by rw [hslot]; exact hstate), if_pos rfl]
  obtain ⟨hclosing, hreason, -⟩ := slot_closedFor hdata
  refine ⟨hclosing, hreason, (hq.mono (by simp)).trans ?_⟩
  exact ((sameBut_close q k .self).mono (by simp)).trans (h.driven.mono (by simp))

theorem press_opens (hopen : p.flc.isOpen = true) (hqueue : p.flc.queue = []) (hslot : p.slotOf i = none)
    (hmode : p.flc.mode ≠ .chair) (hk : p.available = some k) (h : Lasts p (q.delegatePress i).1 t) :
    (t.slot k).state = .opening ∧ (t.slot k).holder = some i ∧ t.flc.openOrder = p.flc.openOrder ++ [k] ∧ t.flc.queue = [] ∧
      SameBut [.sensing, .seats, .slots, .queue, .nextNumber, .openOrder, .notices] p t := by
  have hidle : q.idleSeat i := by
    refine ⟨(hq.isOpen (by simp)).trans hopen, ?_, by rw [slotOf_eq (hq .slots (by simp))]; exact hslot⟩
    simp [isQueued, hq.queue, hqueue]
  have havailable : q.available = some k := by
    rw [available_of_data (hq.slotData (by simp)) (hq.limit (by simp))]
    exact hk
  obtain ⟨r, hnew, hr⟩ := newRequest_opens hidle havailable (by rw [hq.mode (by simp)]; exact hmode)
    fun _ => (hq.queue (by simp)).trans hqueue
  rw [delegatePress_idle hidle, hnew] at h
  have hcounted := sameBut_count r i fun c => { c with requests := bump16 c.requests }
  have hlast := h.same (((by simp : (r.countRequest i).rtu = r.rtu).trans hr.rtu).trans (press_rtu hq))
  have hdata : t.slotData k = openedFor i (q.slotData k) := by
    rw [hlast.slotData (by simp), countRequest, hcounted.slotData (by simp), hr.slots, if_pos rfl]
  refine ⟨congrArg Slot.state hdata, congrArg Slot.holder hdata, ?_, ?_, ?_⟩
  · rw [hlast.openOrder (by simp), countRequest, hcounted.openOrder (by simp), hr.openOrder, hq.openOrder (by simp)]
  · rw [hlast.queue (by simp), countRequest, hcounted.queue (by simp), hr.queue, hq.queue (by simp), hqueue]
    rfl
  · exact (hq.mono (by simp)).trans ((hr.same.mono (by simp)).trans ((hcounted.mono (by simp)).trans (hlast.mono (by simp))))

theorem press_joins (hopen : p.flc.isOpen = true) (hqueued : p.isQueued i = false) (hslot : p.slotOf i = none)
    (hmode : p.flc.mode = .chair) (hlength : p.flc.queue.length < 16) (hpriority : (q.seat i).priority = (p.seat i).priority)
    (h : Lasts p (q.delegatePress i).1 t) :
    t.flc.queue = insertEntry ⟨i, (p.seat i).priority, false, p.flc.nextNumber, p.flc.seconds⟩ p.flc.queue ∧
      SameBut [.sensing, .seats, .queue, .nextNumber, .notices] p t := by
  have hidle : q.idleSeat i :=
    ⟨(hq.isOpen (by simp)).trans hopen, by rw [isQueued_eq (hq.queue (by simp))]; exact hqueued,
      by rw [slotOf_eq (hq .slots (by simp))]; exact hslot⟩
  rw [delegatePress_idle hidle, newRequest_chair ((hq.mode (by simp)).trans hmode) (by rw [hq.queue (by simp)]; exact hlength)] at h
  have hcounted := sameBut_count (q.join i false) i fun c => { c with requests := bump16 c.requests }
  have hlast := h.same ((by simp : ((q.join i false).countRequest i).rtu = q.rtu).trans (press_rtu hq))
  have hnumber : q.flc.nextNumber = p.flc.nextNumber := hq .nextNumber (by simp)
  have hseconds : q.flc.seconds = p.flc.seconds := hq .floorSeconds (by simp)
  refine ⟨?_, (hq.mono (by simp)).trans (((sameBut_join q i false).mono (by simp)).trans ((hcounted.mono (by simp)).trans
    (hlast.mono (by simp))))⟩
  rw [hlast.queue (by simp), countRequest, hcounted.queue (by simp), join_queue, hpriority, hnumber, hseconds, hq.queue (by simp)]

end

/-! ### What the chair toggle comes to (R75) -/

theorem chairToggle_closed (hopen : p.flc.isOpen = false) : p.chairToggle.1 = p.showRefused p.chairSeat := by
  simp only [chairToggle, hopen]
  rfl

theorem chairToggle_closes (hopen : p.flc.isOpen = true) (hslot : isOpenState (p.slot 0).state = true) :
    p.chairToggle.1 = p.close 0 .self := by
  simp only [chairToggle, hopen, hslot]
  rfl

theorem chairToggle_opens (hopen : p.flc.isOpen = true) (hslot : isOpenState (p.slot 0).state = false) :
    p.chairToggle.1 = (p.openSlot 0 p.chairSeat).notice .floor := by
  simp only [chairToggle, hopen, hslot]
  rfl

end Part

end Sys2Proof.Machine
end

section
/-! A key's release in a sensing frame, and the chair toggle it may be (R53, R55, R56, R75). -/

namespace Sys2Proof.Machine

namespace Part

variable {p q t : Part} {i : SeatId}

section
variable (hq : SameBut [.sensing, .seats, .notices] p q)
include hq

theorem toggle_refused (hopen : p.flc.isOpen = false) (hchair : q.chairSeat = i) (h : Lasts p q.chairToggle.1 t) :
    t.sgu.refused.get i = 1000 ∧ SameBut [.sensing, .seats, .refused, .notices] p t := by
  rw [chairToggle_closed ((hq.isOpen (by simp)).trans hopen), hchair] at h
  have hlast := h.same ((by simp : (q.showRefused i).rtu = q.rtu).trans (press_rtu hq))
  have hrefused : t.sgu.refused = (q.showRefused i).sgu.refused := hlast .refused (by simp)
  refine ⟨?_, (hq.mono (by simp)).trans (((sameBut_showRefused q i).mono (by simp)).trans (hlast.mono (by simp)))⟩
  rw [hrefused]
  simp [showRefused, Config.refusedFrames]

theorem toggle_opens (hopen : p.flc.isOpen = true) (hslot : isOpenState (p.slot 0).state = false) (hchair : q.chairSeat = i)
    (h : Lasts p q.chairToggle.1 t) :
    (t.slot 0).state = .opening ∧ (t.slot 0).holder = some i ∧ SameBut [.sensing, .seats, .slots, .notices] p t := by
  rw [chairToggle_opens ((hq.isOpen (by simp)).trans hopen) (by rw [hq.slot (by simp)]; exact hslot), hchair] at h
  have hlast := h.same ((by simp : ((q.openSlot 0 i).notice .floor).rtu = q.rtu).trans (press_rtu hq))
  have hopened : SameBut [.slots, .notices] q ((q.openSlot 0 i).notice .floor) := by
    intro b hb
    cases b <;> simp_all [Piece.Same]
  have hdata : t.slotData 0 = openedFor i (q.slotData 0) := by
    rw [hlast.slotData (by simp), slotData_of_slots (p := q.openSlot 0 i) (by simp), openSlot_data, if_pos rfl]
  exact ⟨congrArg Slot.state hdata, congrArg Slot.holder hdata,
    (hq.mono (by simp)).trans ((hopened.mono (by simp)).trans (hlast.mono (by simp)))⟩

theorem toggle_closes (hopen : p.flc.isOpen = true) (hslot : isOpenState (p.slot 0).state = true)
    (h : Lasts p q.chairToggle.1 t) :
    (t.slot 0).state = .closing ∧ (t.slot 0).reason = some .self ∧
      SameBut [.sensing, .seats, .slots, .openOrder, .screens, .speakers, .notices] p t := by
  have hopened : isOpenState (q.slot 0).state = true := by rw [hq.slot (by simp)]; exact hslot
  rw [chairToggle_closes ((hq.isOpen (by simp)).trans hopen) hopened] at h
  have hdata : t.slotData 0 = closedFor .self (q.slotData 0) := by
    rw [h.driven.slotData (by simp), close_data hopened, if_pos rfl]
  obtain ⟨hclosing, hreason, -⟩ := slot_closedFor hdata
  exact ⟨hclosing, hreason, (hq.mono (by simp)).trans (((sameBut_close q 0 .self).mono (by simp)).trans (h.driven.mono (by simp)))⟩

end

theorem keyRelease_chairSeat (p : Part) (i : SeatId) : (p.keyRelease i).chairSeat = p.chairSeat := by
  refine Eq.trans (chairSeat_of fun j => ?_) (keyedUp_chairSeat p i)
  rw [keyRelease_seat]
  exact ⟨rfl, rfl⟩

end Part

/-- A frame that releases a key (R53). -/
theorem completes_keyUp {readings : List Nat} {first : List ChannelId} {timersFirst : Bool} {i : SeatId} {s : State}
    (hrun : s.part.pln.stage = .running ∧ s.part.pwu.power = .active)
    (hquiet : ∀ d : ChannelId, d ≠ Part.keyChannel i → d.val ≠ 40 → QuietChannel s.part readings d)
    (hleaves : LeavesActive s.part readings (Part.keyChannel i) s.part.sfe.frame)
    (hchair : i ≠ s.part.chairSeat → (s.part.seat s.part.chairSeat).key = .up) (hset : Settled s.part) :
    Completes (.sensingFrame readings first timersFirst) s fun t =>
      ((t.seat i).key = .up ∧ (t.seat i).press = 0 ∧ (t.seat i).mark = .none ∧ (t.seat i).nextTaken = false) ∧
      ((i = s.part.chairSeat → s.part.NoChairNext s.part.sfe.frame) →
        ∃ q, Part.Stirred s.part q ∧ Part.Lasts s.part (q.keyRelease i) t) := by
  obtain ⟨hstage, hactive⟩ := hrun
  obtain ⟨⟨hstate, hdebounce, hdelta⟩, hlimit⟩ := hleaves
  have hheld : s.part.isHeld = false := by simp [Part.isHeld, hstage]
  refine completes_onEvent (f := fun p => p.sensingFrame readings first timersFirst) rfl ?_
  rw [Part.event_unheld hheld]
  obtain ⟨q, u, hstirred, ⟨hssu, hoccupied, hpower⟩, hu, hframe⟩ := Part.sensingFrame_key (first := first)
    (timersFirst := timersFirst) hstage hactive hquiet (updateChannel_leaves hstate hdebounce hdelta hlimit)
  have hrelease : q.keyReport i .inactive .debounce = q.keyRelease i := rfl
  rw [hrelease] at hu
  have hkept : Part.SeatsKept (q.keyRelease i) u := .of_quiet hu
  have hseat : Part.uncounted (u.seat i) = Part.uncounted (Part.keyedUp (q.seat i)) := by
    rw [hkept.uncounted, Part.keyRelease_seat, Part.setSeat_seat, if_pos rfl]
  obtain ⟨hkey, -, hmark, -⟩ := Part.fields_uncounted hseat
  refine ⟨?_, fun hno => ?_⟩
  · have hstill : Part.uncounted ((s.part.timed (!timersFirst) u).seat i) = Part.uncounted (u.seat i) :=
      Part.timed_still _ fun _ => by simp [hkey, Part.keyedUp]
    have hend := (Part.seatsKept_conclude s.part (s.part.sensingFrame readings first timersFirst)).uncounted i
    rw [hframe, hstill, hseat, ← hframe] at hend
    obtain ⟨hkey, hpress, hmark, hnext, -⟩ := Part.fields_uncounted hend
    exact ⟨hkey, hpress, hmark, hnext⟩
  · have hin : s.part.chairSeat ∈ s.part.holdingSeats false → i = s.part.chairSeat := fun hin => by
      by_contra hne
      have hdown := (Part.mem_holdingSeats.mp hin).1
      simp [hchair hne] at hdown
    have hq := hstirred fun h => hno (hin h)
    have huchair : u.chairSeat = s.part.chairSeat :=
      hkept.chairSeat.trans ((Part.keyRelease_chairSeat q i).trans hq.chairSeat)
    have htimed : Part.PressesCounted u (s.part.timed (!timersFirst) u) := by
      refine Part.pressesCounted_timed _ fun h => ?_
      have hi : i = u.chairSeat := by rw [huchair] at h ⊢; exact hin h
      rw [Part.NoChairNext, ← hi, hmark]
      simp [Part.keyedUp]
    refine ⟨q, hq, Part.lasts_conclude hset ?_ ?_ (hframe ▸ hu.stirred.trans htimed.stirred)⟩
    · rw [← hssu]
      simp
    · rw [← hoccupied]
      simp

/-- A stray touch is counted in an open session (R54, R59). -/
theorem Part.stray_counter {q : Part} {i : SeatId} {m : PressMark} :
    (((q.setSeat i (Part.keyedDown m (q.seat i))).countStray i).seat i).counters.stray =
      if q.ssu.session = none then (q.seat i).counters.stray else min ((q.seat i).counters.stray + 1) 65535 := by
  rw [Part.countStray, Part.count_seat]
  by_cases h : q.ssu.session = none
  · simp [Part.sessionOpen, h, Part.keyedDown]
  · simp [Part.sessionOpen, Option.isSome_iff_ne_none, h, Part.bump16, Part.keyedDown]

theorem sameBut_keyed {p q : Part} {i : SeatId} {x : Seat} (hq : Part.Stirred p q) :
    SameBut [.sensing, .seats, .notices] p (q.setSeat i x) :=
  hq.same.trans ((Part.sameBut_setSeat q i x).mono (by simp))

/-- Settles O15: the report of the key channel reaches the seat as it stood (`sensingFrame_key`), and the press or the chair
toggle that it gives goes through the cases of R71 and R75. -/
theorem keysMakeGestures : Obligations.KeysMakeGestures := by
  unfold Obligations.KeysMakeGestures
  refine ⟨fun readings first timersFirst i c s hrun ⟨hc, hquiet⟩ henters ⟨hup, hchairUp⟩ hset => ?_,
    fun readings first timersFirst i c s hrun ⟨hc, hquiet⟩ hleaves ⟨_, hchairUp⟩ hset => ?_,
    fun readings first timersFirst i s hrun hquiet ⟨hdown, hoff⟩ => ?_⟩
  · subst hc
    refine (completes_keyDown hrun hquiet henters hup hchairUp hset).mono ?_
    rintro t ⟨q, hq, hactive, hlasts, hseat⟩
    obtain ⟨hkey, hpress, hmark, hnext, hpresence, -⟩ := Part.fields_uncounted hseat
    have hqpresence : (q.seat i).presence = (s.part.seat i).presence := by rw [hq.seat i]
    have hkeyed : SameBut [.sensing, .seats, .notices] s.part (q.setSeat i (Part.keyedDown .accepted (q.seat i))) := sameBut_keyed hq
    have hrtu (x : Seat) : (q.setSeat i x).rtu = s.part.rtu := by simp [hq.rtu]
    refine ⟨hkey, hpress, hnext, hpresence.trans hqpresence, fun habsent => ?_, fun hpresent => ?_, fun hpresent hchair => ?_, ?_⟩
    · rw [Part.keyDown_stray (by rw [hq.presentForKey, habsent])] at hlasts
      rw [habsent] at hmark
      refine ⟨hmark, ?_, ?_⟩
      · rw [hlasts.counters, Part.stray_counter, hq.ssu, hq.seat i]
      · exact ((sameBut_keyed hq).mono (by simp)).trans (((Part.sameBut_count _ i _).mono (by simp)).trans
          (hlasts.same ((by simp : _ = (q.setSeat i (Part.keyedDown .stray (q.seat i))).rtu).trans (hrtu _))))
    · rw [hpresent] at hmark
      exact hmark
    · rw [Part.keyDown_chair hactive (by rw [hq.presentForKey, hpresent]) (hchair.trans hq.chairSeat.symm)] at hlasts
      exact hkeyed.trans (hlasts.same (hrtu _))
    · have hdelegate (hpresent : s.part.presentForKey i = true) (hne : i ≠ s.part.chairSeat) :
          Part.Lasts s.part ((q.setSeat i (Part.keyedDown .accepted (q.seat i))).delegatePress i).1 t := by
        rw [Part.keyDown_delegate hactive (by rw [hq.presentForKey, hpresent]) (by rw [hq.chairSeat]; exact hne)] at hlasts
        exact hlasts
      have hpriority : ((q.setSeat i (Part.keyedDown .accepted (q.seat i))).seat i).priority = (s.part.seat i).priority := by
        rw [Part.setSeat_seat, if_pos rfl, hq.seat i]
        rfl
      refine ⟨fun hpresent hne hclosed => ?_, fun hpresent hne hopen hqueued => ?_,
        fun k hpresent hne hopen hqueued hk hstate => ?_, fun k hpresent hne hopen hqueue hslot hmode hk => ?_,
        fun hpresent hne hopen hqueued hslot hmode hlength => ?_⟩
      · exact Part.press_refused hkeyed hclosed (hdelegate hpresent hne)
      · exact Part.press_withdraws hkeyed hopen hqueued (hdelegate hpresent hne)
      · exact Part.press_closes hkeyed hopen hqueued hk hstate (hdelegate hpresent hne)
      · exact Part.press_opens hkeyed hopen hqueue hslot hmode hk (hdelegate hpresent hne)
      · exact Part.press_joins hkeyed hopen hqueued hslot hmode hlength hpriority (hdelegate hpresent hne)
  · subst hc
    refine (completes_keyUp hrun hquiet hleaves hchairUp hset).mono ?_
    rintro t ⟨⟨hkey, hpress, hmark, hnext⟩, hrest⟩
    refine ⟨hkey, hpress, hmark, hnext, fun hnone => ?_, fun hchair haccepted htaken hshort => ?_⟩
    · obtain ⟨q, hq, hlasts⟩ := hrest fun hchair => by
        rw [Part.NoChairNext, ← hchair]
        rintro ⟨haccepted, htaken, -⟩
        obtain h | h | h := hnone
        · exact h hchair
        · exact absurd (h.symm.trans htaken) (by decide)
        · exact h haccepted
      have hkept : q.keyRelease i = q.setSeat i (Part.keyedUp (q.seat i)) := by
        refine Part.keyRelease_kept ?_
        rw [hq.seat i, hq.chairSeat]
        rintro ⟨hchair, haccepted, htaken⟩
        obtain h | h | h := hnone
        · exact h hchair
        · exact absurd (h.symm.trans htaken) (by decide)
        · exact h haccepted
      rw [hkept] at hlasts
      exact (sameBut_keyed hq).trans (hlasts.same (by simp [hq.rtu]))
    · obtain ⟨q, hq, hlasts⟩ := hrest fun _ => by
        rw [Part.NoChairNext, ← hchair]
        omega
      have htoggles : q.keyRelease i = (q.setSeat i (Part.keyedUp (q.seat i))).chairToggle.1 := by
        refine Part.keyRelease_toggles ?_
        rw [hq.seat i, hq.chairSeat]
        exact ⟨hchair, haccepted, htaken⟩
      have hself : (q.setSeat i (Part.keyedUp (q.seat i))).chairSeat = i :=
        (Part.keyedUp_chairSeat q i).trans (hq.chairSeat.trans hchair.symm)
      rw [htoggles] at hlasts
      exact ⟨fun hclosed => Part.toggle_refused (sameBut_keyed hq) hclosed hself hlasts,
        fun hopen hslot => Part.toggle_opens (sameBut_keyed hq) hopen hslot hself hlasts,
        fun hopen hslot => Part.toggle_closes (sameBut_keyed hq) hopen hslot hlasts⟩
  · obtain ⟨hstage, hactive⟩ := hrun
    have hheld : s.part.isHeld = false := by simp [Part.isHeld, hstage]
    refine completes_onEvent (f := fun p => p.sensingFrame readings first timersFirst) rfl ?_
    rw [Part.event_unheld hheld]
    have hend := ((Part.seatsKept_conclude s.part (s.part.sensingFrame readings first timersFirst)).uncounted i).trans
      (Part.sensingFrame_held hstage hactive hquiet hdown hoff)
    obtain ⟨hkey, hpress, hmark, hnext, -⟩ := Part.fields_uncounted hend
    exact ⟨hkey.trans hdown, hmark, hpress, hnext⟩

end Sys2Proof.Machine
end

section
/-! What an event leaves of a part that is not ACTIVE, and the wake (R142, R163, R164, R201). -/

namespace Sys2Proof.Machine.Part

variable {p q t : Part} {i : SeatId}

/-- Two parts that show the same schedule, the second in STANDBY or woken from it and not yet counting its settle (R201). -/
structure Resting (p q : Part) : Prop where
  day : SameDay p q
  lead : q.pwu.lead = p.pwu.lead
  power : q.pwu.power = .standby ∨ (q.pwu.power = .waking ∧ q.pwu.settle = 0 ∧ q.rtu.override = false)

namespace Resting

theorem inactive (h : Resting p q) : q.pwu.power ≠ .active := by
  obtain h | ⟨h, -⟩ := h.power <;> simp [h]

/-- An operation that leaves the power state, the wake's settings and the standby override. -/
theorem later (h : Resting p q) (hday : SameDay q t) (hpower : t.pwu.power = q.pwu.power) (hsettle : t.pwu.settle = q.pwu.settle)
    (hlead : t.pwu.lead = q.pwu.lead) (hoverride : t.rtu.override = q.rtu.override) : Resting p t := by
  refine ⟨h.day.trans hday, hlead.trans h.lead, ?_⟩
  rw [hpower, hsettle, hoverride]
  exact h.power

theorem keeps (h : Resting p q) (hsch : t.sch = q.sch) (hpwu : t.pwu = q.pwu) (hoverride : t.rtu.override = q.rtu.override) :
    Resting p t :=
  h.later (.of_sch hsch) (by rw [hpwu]) (by rw [hpwu]) (by rw [hpwu]) hoverride

/-! ### SSU (R163, R164) -/

theorem closeSession (h : Resting p q) (x : Session) (r : CloseReason) : Resting p (q.closeSession x r) :=
  h.later (.closeSession q x r) (by simp) (by simp) (by simp) (by simp)

theorem closeWindup (h : Resting p q) : Resting p q.closeWindup := by
  unfold Part.closeWindup
  (repeat' split)
  · exact h.closeSession _ _
  · exact h
  · exact h

theorem openPending_eq (h : Resting p q) : q.openPending = q := by
  have hinactive := h.inactive
  unfold Part.openPending
  split
  · rw [if_pos (by simp [hinactive])]
  · rfl

theorem completeWindup (h : Resting p q) : Resting p q.completeWindup := by
  unfold Part.completeWindup
  (repeat' split)
  · rw [h.closeWindup.openPending_eq]
    exact h.closeWindup.closeWindup
  · exact h
  · exact h

theorem windup (h : Resting p q) (r : CloseReason) : Resting p (q.windup r) :=
  (h.keeps (t := q.enterWindup r) (by simp) (by simp) (by simp)).completeWindup

theorem walkInTest_eq (h : Resting p q) : q.walkInTest = q := by
  have hfails : q.walkInPasses = false := by simp [walkInPasses, h.inactive]
  simp [Part.walkInTest, hfails]

theorem countVacancy (h : Resting p q) : Resting p q.countVacancy := by
  have hset (y : Session) : Resting p (q.setSession (some y)) := h.keeps (by simp) (by simp) (by simp)
  have htest (y : Session) : Resting p (q.setSession (some y)).vacancyTest := by
    unfold vacancyTest
    (repeat' split)
    · exact (hset y).windup _
    · exact hset y
    · exact hset y
  unfold Part.countVacancy
  (repeat' split)
  · exact htest _
  · exact h
  · exact h

theorem countDwell (h : Resting p q) : Resting p q.countDwell := by
  unfold Part.countDwell
  split
  · have hset : Resting p (q.withSsu { q.ssu with dwell := q.ssu.dwell + 1 }) := h.keeps (by simp) (by simp) (by simp)
    dsimp only
    split
    · rw [hset.walkInTest_eq]
      exact hset
    · exact hset
  · exact h

theorem sessionSecond (h : Resting p q) : Resting p q.sessionSecond := h.countVacancy.countDwell

theorem release (h : Resting p q) (x : Session) : Resting p (q.release x) := by
  unfold Part.release
  rw [(h.closeSession x .released).openPending_eq]
  exact (h.closeSession x .released).closeWindup

theorem releaseTest (h : Resting p q) (window : Bool) : Resting p (q.releaseTest window) := by
  unfold Part.releaseTest
  split
  · split
    · exact iteInduction (motive := Resting p) (fun _ => h.release _) fun _ => h
    · exact h
  · exact h

theorem endTest (h : Resting p q) (window : Bool) : Resting p (q.endTest window) := by
  have hrelease := h.releaseTest window
  exact (hrelease.keeps (t := (q.releaseTest window).stageStep) (by simp) (by simp) (by simp)).completeWindup

theorem wake (h : Resting p q) : Resting p q.wake := by
  by_cases hpower : q.pwu.power = .standby
  · have hsch : q.wake.sch = q.sch := by simp
    refine ⟨h.day.then_sch hsch, ?_, .inr ?_⟩
    · rw [← h.lead]
      simp [Part.wake, hpower]
    · simp [Part.wake, hpower, setOverride]
  · rw [wake_awake hpower]
    exact h

theorem openingTest (h : Resting p q) : Resting p q.openingTest := by
  have hset (x : Option Nat) : Resting p (q.setPendingStart x) := h.keeps (by simp) (by simp) (by simp)
  unfold Part.openingTest
  split
  · exact h
  · split
    · exact h
    · split
      · rw [if_neg h.inactive]
        exact (hset _).wake
      · split
        · exact hset _
        · exact (hset _).windup _

/-- SSU's part of a minute up to its opening test (R163). -/
def minuteTested (before q : Part) : Part := (countAwait before q.dropStalePending).endTest true

theorem sessionMinute_eq (before q : Part) : Part.sessionMinute before q = (minuteTested before q).openingTest.repeatWalkIn := rfl

theorem minuteTested_rests (h : Resting p q) (before : Part) : Resting p (minuteTested before q) := by
  have hdrop : Resting p q.dropStalePending := by
    unfold dropStalePending
    (repeat' split)
    · exact h
    · exact h.keeps (by simp) (by simp) (by simp)
    · exact h
  have hcount : Resting p (countAwait before q.dropStalePending) := by
    unfold countAwait
    (repeat' split)
    · exact hdrop.keeps (by simp) (by simp) (by simp)
    · exact hdrop
    · exact hdrop
  exact hcount.endTest true

theorem minuteTested_pwu (before q : Part) : (minuteTested before q).pwu = q.pwu := by
  have hcount (q : Part) : (countAwait before q).pwu = q.pwu := by
    unfold countAwait
    (repeat' split) <;> simp
  have hdrop : q.dropStalePending.pwu = q.pwu := by
    unfold dropStalePending
    (repeat' split) <;> simp
  have hend (q : Part) (window : Bool) : (q.endTest window).pwu = q.pwu := by simp
  rw [minuteTested, hend, hcount, hdrop]

theorem repeatWalkIn_eq (h : Resting p q) : q.repeatWalkIn = q := by
  unfold repeatWalkIn
  rw [h.walkInTest_eq, ite_self]

theorem sessionMinute_tests (h : Resting p q) (before : Part) :
    Part.sessionMinute before q = (minuteTested before q).openingTest := by
  rw [sessionMinute_eq, (h.minuteTested_rests before).openingTest.repeatWalkIn_eq]

theorem sessionMinute (h : Resting p q) (before : Part) : Resting p (Part.sessionMinute before q) := by
  rw [h.sessionMinute_tests before]
  exact (h.minuteTested_rests before).openingTest

/-! ### SMN, FLC and PWU -/

theorem concludeDwell (h : Resting p q) (before : Part) : Resting p (Part.concludeDwell before q) := by
  unfold Part.concludeDwell
  (repeat' split)
  · exact h.keeps (by simp) (by simp) (by simp)
  · rw [h.walkInTest_eq]
    exact h
  · exact h

theorem occupiedChanged (h : Resting p q) (old : Nat) : Resting p (q.occupiedChanged old) := by
  unfold Part.occupiedChanged
  split
  · refine Resting.completeWindup (h.keeps ?_ ?_ ?_) <;> simp
  · exact h

theorem updateCount (h : Resting p q) : Resting p q.updateCount := by
  have hcounted : Resting p q.recounted := h.keeps (by simp [recounted]) (by simp [recounted]) (by simp [recounted])
  have htaken : Resting p q.countTaken := by
    unfold countTaken
    split
    · exact hcounted.later (.of_sch (by simp)) (by simp) (by simp) (by simp) (by simp)
    · exact hcounted
  by_cases hsame : q.occupiedSeats = q.smn.occupied
  · rw [updateCount_same hsame]
    exact hcounted
  · rw [updateCount_changed hsame]
    exact (htaken.occupiedChanged _).concludeDwell q

theorem changePresence (h : Resting p q) (i : SeatId) (y : Presence) (n : Nat) : Resting p (q.changePresence i y n) := by
  by_cases hsame : y = (q.seat i).presence
  · rw [changePresence_same hsame]
    exact h.keeps (by simp) (by simp) (by simp)
  · rw [changePresence_eq hsame]
    refine Resting.updateCount (h.keeps ?_ ?_ ?_)
    all_goals
      simp only [presenceChanged]
      split <;> simp

theorem countAbsence (h : Resting p q) (i : SeatId) : Resting p (q.countAbsence i) := by
  unfold Part.countAbsence
  split
  · have hset : Resting p (q.setSeat i { q.seat i with absence := (q.seat i).absence + 1 }) := h.keeps (by simp) (by simp) (by simp)
    unfold absenceExpiry
    split
    · exact hset.changePresence i _ _
    · exact hset
  · exact h

theorem seatSecond (h : Resting p q) : Resting p q.seatSecond := by
  refine foldl_invariant (P := Resting p) (fun q i hq => hq.countAbsence i) _ _ ?_
  refine foldl_invariant (P := Resting p) (fun q i hq => ?_) _ _ h
  exact hq.keeps (by simp) (by simp) (by simp)

theorem powerSecond_eq (h : Resting p q) : q.powerSecond true = q.countQuiet.preWake := by
  have hinactive : q.countQuiet.preWake.pwu.power ≠ .active := by
    unfold preWake Part.wake
    (repeat' split) <;> simp [h.inactive]
  simp only [Part.powerSecond, if_true, standbyTest]
  rw [if_neg (by simp [hinactive])]

theorem countQuiet (h : Resting p q) : Resting p q.countQuiet :=
  h.later (.of_sch (by simp)) (by simp) (by simp) (by simp) (by simp)

theorem powerSecond (h : Resting p q) : Resting p (q.powerSecond true) := by
  rw [h.powerSecond_eq]
  unfold preWake
  split
  · exact h.countQuiet.wake
  · exact h.countQuiet

/-- One block's part of a minute event. -/
theorem secondFor (h : Resting p q) (before : Part) (u : ClockUser) : Resting p (Part.secondFor before true q u) := by
  cases u with
  | flc => exact h.keeps (t := q.floorSecond) (by simp) (by simp) (by simp)
  | smn => exact h.seatSecond
  | ssu => exact h.sessionSecond.sessionMinute before
  | pwu => exact h.powerSecond

/-! ### The power state at a minute event (R164, R201) -/

theorem openingTest_pwu (h : q.pwu.power ≠ .standby) : q.openingTest.pwu = q.pwu := by
  have hset (x : Option Nat) : (q.setPendingStart x).pwu = q.pwu := by simp
  unfold Part.openingTest
  (repeat' split)
  · rfl
  · rfl
  · simp
  · rw [wake_awake (by rw [hset]; exact h), hset]
  · exact hset _
  · simp

theorem wake_power (h : q.pwu.power = .standby) : q.wake.pwu.power = .waking := by simp [Part.wake, h]

/-- The next start lies within the pre-wake lead (R201). -/
def NearStart (p : Part) : Prop := p.nextStart < 1440 ∧ p.nextStart ≤ p.sch.clock.minute + p.pwu.lead

theorem preWake_near (h : Resting p q) : (q.nextStart < 1440 ∧ q.nextStart ≤ q.sch.clock.minute + q.pwu.lead) ↔ NearStart p := by
  rw [h.day.nextStart, h.day.clock, h.lead, NearStart]

theorem countQuiet_power (q : Part) : q.countQuiet.pwu.power = q.pwu.power := by simp

theorem powerSecond_near (h : Resting p q) (hnear : NearStart p) : (q.powerSecond true).pwu.power = .waking := by
  rw [h.powerSecond_eq, preWake, if_pos (h.countQuiet.preWake_near.mpr hnear)]
  obtain hpower | ⟨hpower, -⟩ := h.countQuiet.power
  · exact wake_power hpower
  · rw [wake_awake (by simp only [hpower]; decide)]
    exact hpower

theorem powerSecond_far (h : Resting p q) (hfar : ¬ NearStart p) : (q.powerSecond true).pwu.power = q.pwu.power := by
  rw [h.powerSecond_eq, preWake, if_neg (mt h.countQuiet.preWake_near.mp hfar), countQuiet_power]

theorem secondFor_flc (before q : Part) : Part.secondFor before true q .flc = q.floorSecond := rfl

theorem secondFor_smn (before q : Part) : Part.secondFor before true q .smn = q.seatSecond := rfl

/-- A part that has been woken stays so through the event. -/
theorem secondFor_waking (h : Resting p q) (hwaking : q.pwu.power = .waking) (before : Part) (u : ClockUser) :
    (Part.secondFor before true q u).pwu.power = .waking := by
  have hawake : q.pwu.power ≠ .standby := by simp [hwaking]
  cases u with
  | flc =>
    have hpwu : q.floorSecond.pwu = q.pwu := by simp
    rw [secondFor_flc, hpwu, hwaking]
  | smn =>
    have hpower : q.seatSecond.pwu.power = q.pwu.power := by simp
    rw [secondFor_smn, hpower, hwaking]
  | ssu =>
    have hsecond : q.sessionSecond.pwu = q.pwu := by simp
    have htested : (minuteTested before q.sessionSecond).pwu = q.pwu := (minuteTested_pwu before _).trans hsecond
    have hevent : Part.secondFor before true q .ssu = (minuteTested before q.sessionSecond).openingTest :=
      h.sessionSecond.sessionMinute_tests before
    rw [hevent, openingTest_pwu (by rw [htested]; exact hawake), htested, hwaking]
  | pwu =>
    by_cases hnear : NearStart p
    · exact h.powerSecond_near hnear
    · exact (h.powerSecond_far hnear).trans hwaking

/-- With no entry due and no start near, a minute event leaves the power state. -/
theorem secondFor_asleep (h : Resting p q) (hdue : p.dueEntry = none) (hfar : ¬ NearStart p) (before : Part) (u : ClockUser) :
    (Part.secondFor before true q u).pwu.power = q.pwu.power := by
  cases u with
  | flc =>
    have hpwu : q.floorSecond.pwu = q.pwu := by simp
    rw [secondFor_flc, hpwu]
  | smn =>
    have hpower : q.seatSecond.pwu.power = q.pwu.power := by simp
    rw [secondFor_smn, hpower]
  | ssu =>
    have hsecond : q.sessionSecond.pwu = q.pwu := by simp
    have hrests := h.sessionSecond.minuteTested_rests before
    have hevent : Part.secondFor before true q .ssu = (minuteTested before q.sessionSecond).openingTest :=
      h.sessionSecond.sessionMinute_tests before
    rw [hevent, openingTest_none (hrests.day.dueEntry.trans hdue), minuteTested_pwu, hsecond]
  | pwu => exact h.powerSecond_far hfar

end Resting

end Sys2Proof.Machine.Part
end

section
/-! A minute event in STANDBY (R163, R164, R201). -/

namespace Sys2Proof.Machine

namespace Part

variable {p q t : Part} {i : SeatId} {x : Option Nat} {e : Entry}

/-- No session is open, and the pending start is `x`. -/
structure Waits (x : Option Nat) (q : Part) : Prop where
  session : q.ssu.session = none
  pending : q.ssu.pendingStart = x

namespace Waits

theorem keeps (h : Waits x q) (hsession : t.ssu.session = q.ssu.session) (hpending : t.ssu.pendingStart = q.ssu.pendingStart) :
    Waits x t := ⟨hsession.trans h.session, hpending.trans h.pending⟩

theorem of_ssu (h : Waits x q) (hssu : t.ssu = q.ssu) : Waits x t := h.keeps (by rw [hssu]) (by rw [hssu])

theorem concludeDwell (h : Waits x q) (hrests : Resting p q) (before : Part) : Waits x (Part.concludeDwell before q) := by
  unfold Part.concludeDwell
  (repeat' split)
  · exact h.keeps (by simp) (by simp)
  · rw [hrests.walkInTest_eq]
    exact h
  · exact h

theorem updateCount (h : Waits x q) (hrests : Resting p q) : Waits x q.updateCount := by
  have hcounted : Waits x q.recounted := h.of_ssu (by simp [recounted])
  by_cases hsame : q.occupiedSeats = q.smn.occupied
  · rw [updateCount_same hsame]
    exact hcounted
  · have htaken : Waits x q.countTaken := hcounted.keeps ((sameBut_countTaken q).session (by simp))
      ((sameBut_countTaken q).pendingStart (by simp))
    have hchanged : q.countTaken.occupiedChanged q.smn.occupied = q.countTaken := by
      simp only [occupiedChanged, htaken.session]
    have hlater : Resting p q.countTaken := by
      refine hrests.later ?_ ?_ ?_ ?_ ?_
      · exact .of_sch (by simp [countTaken, recounted]; split <;> simp)
      all_goals
        unfold countTaken
        split <;> simp [recounted]
    rw [updateCount_changed hsame, hchanged]
    exact htaken.concludeDwell hlater q

theorem changePresence (h : Waits x q) (hrests : Resting p q) (i : SeatId) (y : Presence) (n : Nat) :
    Waits x (q.changePresence i y n) := by
  by_cases hsame : y = (q.seat i).presence
  · rw [changePresence_same hsame]
    exact h.of_ssu (by simp)
  · have hchanged : Resting p (q.presenceChanged i y n) ∧ (q.presenceChanged i y n).ssu = q.ssu := by
      refine ⟨hrests.keeps ?_ ?_ ?_, ?_⟩
      all_goals
        simp only [presenceChanged]
        split <;> simp
    rw [changePresence_eq hsame]
    exact (h.of_ssu hchanged.2).updateCount hchanged.1

theorem seatSecond (h : Waits x q) (hrests : Resting p q) : Waits x q.seatSecond := by
  have hstep (r : Part) (i : SeatId) (hr : Resting p r ∧ Waits x r) : Resting p (r.countAbsence i) ∧ Waits x (r.countAbsence i) := by
    refine ⟨hr.1.countAbsence i, ?_⟩
    have hset : Resting p (r.setSeat i { r.seat i with absence := (r.seat i).absence + 1 }) := hr.1.keeps (by simp) (by simp) (by simp)
    have hwaits : Waits x (r.setSeat i { r.seat i with absence := (r.seat i).absence + 1 }) := hr.2.of_ssu (by simp)
    unfold countAbsence
    split
    · unfold absenceExpiry
      split
      · exact hwaits.changePresence hset i _ _
      · exact hwaits
    · exact hr.2
  have hoccupied : Resting p q.occupiedSecond ∧ Waits x q.occupiedSecond :=
    foldl_invariant (P := fun r : Part => Resting p r ∧ Waits x r)
      (fun r i hr => ⟨hr.1.keeps (by simp) (by simp) (by simp), hr.2.of_ssu (by simp)⟩) _ _ ⟨hrests, h⟩
  rw [seatSecond_eq]
  exact (foldl_invariant (P := fun r : Part => Resting p r ∧ Waits x r) hstep _ _ hoccupied).2

/-- The parts of a minute event that are not SSU's leave SSU waiting. -/
theorem secondFor (h : Waits x q) (hrests : Resting p q) (before : Part) {u : ClockUser} (hu : u ≠ .ssu) :
    Waits x (Part.secondFor before true q u) := by
  cases u with
  | flc => exact h.of_ssu (t := q.floorSecond) (by simp)
  | smn => exact h.seatSecond hrests
  | ssu => exact absurd rfl hu
  | pwu =>
    have hssu : (q.powerSecond true).ssu = q.ssu := by
      rw [hrests.powerSecond_eq, preWake]
      split <;> simp
    exact h.of_ssu hssu

/-- SSU's part finds the entry that is due and wakes the part (R164, R201). -/
theorem sessionEvent_wakes (h : Waits none q) (hrests : Resting p q) (hdue : p.dueEntry = some e) (before : Part) :
    Waits (some e.booking.id) (Part.secondFor before true q .ssu) ∧ (Part.secondFor before true q .ssu).pwu.power = .waking := by
  have hvacancy : q.countVacancy = q := by simp [countVacancy, h.session]
  have hsecond : Waits none q.sessionSecond := by
    rw [sessionSecond, hvacancy]
    unfold countDwell
    split
    · have hset : Resting p (q.withSsu { q.ssu with dwell := q.ssu.dwell + 1 }) := hrests.keeps (by simp) (by simp) (by simp)
      have hwaits : Waits none (q.withSsu { q.ssu with dwell := q.ssu.dwell + 1 }) := h.keeps (by simp) (by simp)
      dsimp only
      split
      · rw [hset.walkInTest_eq]
        exact hwaits
      · exact hwaits
    · exact h
  have htested : Resting.minuteTested before q.sessionSecond = q.sessionSecond := by
    rw [Resting.minuteTested, dropStalePending_none hsecond.pending, countAwait_checkedIn (by simp [hsecond.session]),
      endTest_none hsecond.session]
  have hday := hrests.sessionSecond
  have hevent : Part.secondFor before true q .ssu = (q.sessionSecond.setPendingStart (some e.booking.id)).wake := by
    have hminute : Part.secondFor before true q .ssu = (Resting.minuteTested before q.sessionSecond).openingTest :=
      hday.sessionMinute_tests before
    rw [hminute, htested, openingTest_asleep (hday.day.dueEntry.trans hdue) hsecond.pending hsecond.session hday.inactive]
  have hset : Resting p (q.sessionSecond.setPendingStart (some e.booking.id)) := hday.keeps (by simp) (by simp) (by simp)
  rw [hevent]
  refine ⟨⟨?_, ?_⟩, ?_⟩
  · simp [setPendingStart, hsecond.session]
  · simp [setPendingStart]
  · obtain hpower | ⟨hpower, -⟩ := hset.power
    · exact Resting.wake_power hpower
    · rw [wake_awake (by simp only [hpower]; decide)]
      exact hpower

end Waits

/-! ### The minute event (R142, R201) -/

theorem resting_foldl (h : Resting p q) (before : Part) (l : List ClockUser) :
    Resting p (l.foldl (secondFor before true) q) :=
  foldl_invariant (P := Resting p) (fun _ u hq => hq.secondFor before u) l q h

theorem waking_foldl (h : Resting p q) (hwaking : q.pwu.power = .waking) (before : Part) (l : List ClockUser) :
    (l.foldl (secondFor before true) q).pwu.power = .waking :=
  (foldl_invariant (P := fun r : Part => Resting p r ∧ r.pwu.power = .waking)
    (fun _ u hr => ⟨hr.1.secondFor before u, hr.1.secondFor_waking hr.2 before u⟩) l q ⟨h, hwaking⟩).2

theorem asleep_foldl (h : Resting p q) (hdue : p.dueEntry = none) (hfar : ¬ Resting.NearStart p) (before : Part) (l : List ClockUser) :
    (l.foldl (secondFor before true) q).pwu.power = q.pwu.power :=
  (foldl_invariant (P := fun r : Part => Resting p r ∧ r.pwu.power = q.pwu.power)
    (fun _ u hr => ⟨hr.1.secondFor before u, (hr.1.secondFor_asleep hdue hfar before u).trans hr.2⟩) l q ⟨h, rfl⟩).2

theorem waits_foldl (h : Waits x q) (hrests : Resting p q) (before : Part) {l : List ClockUser} (hssu : .ssu ∉ l) :
    Waits x (l.foldl (secondFor before true) q) := by
  induction l generalizing q with
  | nil => exact h
  | cons u l ih =>
    obtain ⟨hu, hl⟩ := not_or.mp (List.mem_cons.not.mp hssu)
    exact ih (h.secondFor hrests before (Ne.symm hu)) (hrests.secondFor before u) hl

theorem tick_minute {c : Clock} (h : 59 ≤ c.second) : (tick c).minute < 1440 := by
  unfold tick
  rw [if_neg (by omega)]
  split
  · simp only
    omega
  · simp

/-- The minute event of a part in STANDBY, with no swap. -/
theorem resting_ticked (hsecond : 59 ≤ p.sch.clock.second) (hstaging : p.staging.state ≠ .ready) (hpower : p.pwu.power = .standby) :
    Resting (p.setClock (tick p.sch.clock)) p.ticked := by
  have hsame := sameBut_ticked hsecond (.inl hstaging)
  have hlead : p.ticked.pwu.lead = p.pwu.lead := (hsame .wakeSettings (by simp)).1
  exact ⟨sameDay_ticked hsecond (.inl hstaging), hlead, .inl ((hsame.power (by simp)).trans hpower)⟩

theorem secondEvent_minute (hsecond : 59 ≤ p.sch.clock.second) (first : List ClockUser) :
    p.secondEvent first = (takenOrder first [.flc, .smn, .ssu, .pwu]).foldl (secondFor p true) p.ticked := by
  rw [secondEvent_eq, decide_eq_true hsecond]

theorem secondEvent_near (hsecond : 59 ≤ p.sch.clock.second) (hrests : Resting q p.ticked) (hnear : Resting.NearStart q)
    (first : List ClockUser) : (p.secondEvent first).pwu.power = .waking := by
  obtain ⟨l, m, hsplit, -⟩ := takenOrder_split first (all := [.flc, .smn, .ssu, .pwu]) (by decide) (a := .pwu) (by decide)
  have hbefore := resting_foldl hrests p l
  rw [secondEvent_minute hsecond, hsplit, List.foldl_append, List.foldl_cons]
  exact waking_foldl (hbefore.secondFor p .pwu) (hbefore.powerSecond_near hnear) p m

theorem secondEvent_due (hsecond : 59 ≤ p.sch.clock.second) (hrests : Resting q p.ticked) (hdue : q.dueEntry = some e)
    (hwaits : Waits none p.ticked) (first : List ClockUser) :
    Waits (some e.booking.id) (p.secondEvent first) ∧ (p.secondEvent first).pwu.power = .waking := by
  obtain ⟨l, m, hsplit, hl, hm, -⟩ := takenOrder_split first (all := [.flc, .smn, .ssu, .pwu]) (by decide) (a := .ssu) (by decide)
  have hbefore := resting_foldl hrests p l
  obtain ⟨hset, hwaking⟩ := (waits_foldl hwaits hrests p hl).sessionEvent_wakes hbefore hdue p
  have hafter := hbefore.secondFor p .ssu
  rw [secondEvent_minute hsecond, hsplit, List.foldl_append, List.foldl_cons]
  exact ⟨waits_foldl hset hafter p hm, waking_foldl hafter hwaking p m⟩

theorem secondEvent_far (hsecond : 59 ≤ p.sch.clock.second) (hrests : Resting q p.ticked) (hdue : q.dueEntry = none)
    (hfar : ¬ Resting.NearStart q) (first : List ClockUser) : (p.secondEvent first).pwu.power = p.ticked.pwu.power := by
  rw [secondEvent_minute hsecond]
  exact asleep_foldl hrests hdue hfar p _

end Part

/-- A minute event in STANDBY with no swap (R164, R201). -/
theorem completes_minuteAsleep {first : List ClockUser} {s : State} (hrun : s.part.pln.stage = .running ∧ s.part.pwu.power = .standby)
    (hsecond : 59 ≤ s.part.sch.clock.second) (hstaging : s.part.staging.state ≠ .ready) :
    Completes (.secondEvent first) s fun t =>
      let p := s.part.setClock (Part.tick s.part.sch.clock)
      (p.nextStart < 1440 → p.nextStart ≤ p.sch.clock.minute + s.part.pwu.lead →
        t.pwu.power = .waking ∧ t.pwu.settle = 0 ∧ t.rtu.override = false) ∧
      (∀ e ∈ p.dueEntry, s.part.ssu.session = none → s.part.ssu.pendingStart = none →
        t.ssu.pendingStart = some e.booking.id ∧ t.ssu.session = none ∧ t.pwu.power = .waking) ∧
      (p.nextStart = 1440 ∨ p.sch.clock.minute + s.part.pwu.lead < p.nextStart → t.pwu.power = .standby) := by
  obtain ⟨hstage, hpower⟩ := hrun
  have hheld : s.part.isHeld = false := by simp [Part.isHeld, hstage]
  refine completes_onEvent (f := fun p => p.secondEvent first) rfl ?_
  rw [Part.event_unheld hheld]
  set p := s.part.setClock (Part.tick s.part.sch.clock) with hp
  have hrests := Part.resting_ticked hsecond hstaging hpower
  rw [← hp] at hrests
  have hend : Part.Resting p (s.part.secondEvent first) := by
    rw [Part.secondEvent_minute hsecond]
    exact Part.resting_foldl hrests s.part _
  have hconclude : (Part.conclude s.part (s.part.secondEvent first)).pwu = (s.part.secondEvent first).pwu ∧
      (Part.conclude s.part (s.part.secondEvent first)).rtu.override = (s.part.secondEvent first).rtu.override := by simp
  have hsame := Part.sameBut_ticked hsecond (.inl hstaging)
  dsimp only
  rw [hconclude.1, hconclude.2]
  refine ⟨fun hlow hnear => ?_, fun e he hsession hpending => ?_, fun hfar => ?_⟩
  · have hwaking := Part.secondEvent_near hsecond hrests ⟨hlow, hnear⟩ first
    obtain hpower | hwoken := hend.power
    · simp [hwaking] at hpower
    · exact hwoken
  · obtain ⟨hwaits, hwaking⟩ := Part.secondEvent_due hsecond hrests he
      ⟨(hsame.session (by simp)).trans hsession, (hsame.pendingStart (by simp)).trans hpending⟩ first
    have hready : (s.part.secondEvent first).walkInReady = false := Part.walkInReady_pending hwaits.pending
    have hbut := Part.sameBut_conclude_dwell (before := s.part) (.inl hready)
    exact ⟨(hbut.pendingStart (by simp)).trans hwaits.pending, (hbut.session (by simp)).trans hwaits.session, hwaking⟩
  · have hnot : ¬ Part.Resting.NearStart p := by
      rintro ⟨hlow, hnear⟩
      have hlead : p.pwu.lead = s.part.pwu.lead := rfl
      omega
    have hdue : p.dueEntry = none := by
      by_contra hsome
      obtain ⟨e, he⟩ := Option.ne_none_iff_exists'.mp hsome
      have hcome := Part.nextStart_due he
      have hminute : p.sch.clock.minute < 1440 := Part.tick_minute hsecond
      omega
    rw [Part.secondEvent_far hsecond hrests hdue hnot, hsame.power (by simp), hpower]

end Sys2Proof.Machine
end

section
/-! The wake of a part in STANDBY by a request, and the end of the settle of WAKING (R42, R186, R198, R201, R202). -/

namespace Sys2Proof.Machine

namespace Part

variable {p q t : Part}

/-! ### The wake (R201) -/

/-- A part in WAKING whose settle has counted nothing yet, with the key channels of the part before it marked for their first
frame. -/
structure Woken (p q : Part) : Prop where
  power : q.pwu.power = .waking
  settle : q.pwu.settle = 0
  quiet : q.pwu.quiet = 0
  override : q.rtu.override = false
  keys : ∀ j, (p.channel (keyChannel j)).state ≠ .off → (q.channel (keyChannel j)).firstWake = true

namespace Woken

theorem awake (h : Woken p q) : q.pwu.power ≠ .standby := by simp [h.power]

/-- An operation that leaves the power state, the settle, the override and the key channels, and counts no quiet time. -/
theorem later (h : Woken p q) (hpower : t.pwu.power = q.pwu.power) (hsettle : t.pwu.settle = q.pwu.settle)
    (hquiet : t.pwu.quiet = q.pwu.quiet ∨ t.pwu.quiet = 0) (hoverride : t.rtu.override = q.rtu.override)
    (hkeys : ∀ j, t.channel (keyChannel j) = q.channel (keyChannel j)) : Woken p t where
  power := hpower.trans h.power
  settle := hsettle.trans h.settle
  quiet := hquiet.elim (·.trans h.quiet) id
  override := hoverride.trans h.override
  keys j hoff := by rw [hkeys, h.keys j hoff]

theorem keeps (h : Woken p q) (hpwu : t.pwu = q.pwu) (hoverride : t.rtu.override = q.rtu.override) (hsfe : t.sfe = q.sfe) :
    Woken p t :=
  h.later (by rw [hpwu]) (by rw [hpwu]) (.inl (by rw [hpwu])) hoverride fun _ => by rw [channel_eq hsfe]

theorem conclude (h : Woken p q) (before : Part) : Woken p (Part.conclude before q) :=
  h.keeps (by simp) (by simp) (by simp)

end Woken

theorem wake_key (hpower : p.pwu.power = .standby) {j : SeatId} (hoff : (p.channel (keyChannel j)).state ≠ .off) :
    (p.wake.channel (keyChannel j)).firstWake = true := by
  have hchannel : p.wake.channel (keyChannel j) = { p.channel (keyChannel j) with firstWake := true } := by
    simp only [channel] at hoff
    simp [wake, hpower, wakeChannels, channel, get_mapTable, kindOf_keyChannel, hoff]
  rw [hchannel]

/-- The wake takes a part whose key channels are as they were (R42, R201). -/
theorem woken_wake (hpower : q.pwu.power = .standby)
    (hkeys : ∀ j, (q.channel (keyChannel j)).state = (p.channel (keyChannel j)).state) : Woken p q.wake := by
  refine ⟨?_, ?_, ?_, ?_, fun j hoff => wake_key hpower (by rwa [hkeys])⟩
  all_goals simp [wake, hpower, setOverride]

theorem wake_flag (hpower : p.pwu.power = .standby) (a : Port) : (p.wake.notices a).1 &&& 256 ≠ 0 := by
  have hchange : p.changePower .waking = (p.setPower .waking).notice .power := by simp [changePower, noticeIf, hpower]
  have hwake : p.wake.notices a = (p.changePower .waking).notices a := by simp [wake, hpower, wakeChannels, wakeSockets]
  rw [hwake, hchange, notice_notices]
  exact mark_raised _ (by decide)

/-! ### The settle of WAKING (R202) -/

theorem settleComplete_ends (hstage : p.pln.stage = .running) (hpower : p.pwu.power = .waking) (hsettle : 4 ≤ p.pwu.settle) :
    p.settleComplete = (p.withPwu { p.pwu with settle := 0 }).enterActive :=
  if_pos ⟨hstage, hpower, hsettle⟩

end Part

theorem completes_clockWakes {q : Port} {tag : Byte} {s : State} (hstage : s.part.pln.stage = .running)
    (hpower : s.part.pwu.power = .standby) (hfree : FreePort s.part q) :
    Completes (.clockRead q tag) s fun t =>
      t.pwu.power = .waking ∧ t.pwu.settle = 0 ∧ t.pwu.quiet = 0 ∧ t.rtu.override = false ∧
        (∀ k, (t.screen k).driven = (t.screen k).shown) ∧
        (∀ i, (s.part.channel (Part.keyChannel i)).state ≠ .off → (t.channel (Part.keyChannel i)).firstWake = true) ∧
        Answered t q tag .done [s.part.clockContents] := by
  set r : Request := ⟨0x07, tag, 0, []⟩ with hr
  have hserve : (s.part.wokenBy q r).serveOwner q r = (s.part.wokenBy q r, .done, (s.part.wokenBy q r).clockContents) := rfl
  have hclock : (s.part.wokenBy q r).clockContents = s.part.clockContents := by
    have hsch : (s.part.wokenBy q r).sch = s.part.sch := by simp [Part.wokenBy]
    simp only [Part.clockContents, hsch]
  have hright : Permitted q (0x07 : Byte).toNat := by
    cases q <;> decide
  refine (completes_woken (c := .clockRead q tag) rfl (Part.isHeld_running hstage) hpower hfree
    (Part.checkRequest_run (c := .clockRead q tag) rfl hright hstage) (by decide : (0x07 : Byte) ≠ portResetCode) hserve rfl).mono ?_
  rintro t ⟨ht, hans⟩
  have hwoken : Part.Woken s.part (s.part.wokenBy q r) :=
    (Part.woken_wake (p := s.part) (q := s.part.clearSent q) (by simpa using hpower) fun _ => rfl).keeps
      (t := s.part.wokenBy q r) (by simp [Part.wokenBy]) (by simp [Part.wokenBy]) (by simp [Part.wokenBy])
  have hready : (s.part.wokenBy q r).walkInReady = s.part.walkInReady :=
    Part.walkInReady_eq (by simp [Part.wokenBy]) (by simp [Part.wokenBy])
  rw [hclock, framesOf_plain rfl] at hans
  set u := (s.part.wokenBy q r).replied q ⟨r.tag, .done, framesOf r.code (s.part.wokenBy q r).clockContents⟩ with hu
  have hend : Part.Woken s.part u := hwoken.keeps (by simp [hu]) (by simp [hu]) (by simp [hu])
  have hconclude : Part.Woken s.part t := ht ▸ hend.conclude s.part
  refine ⟨hconclude.power, hconclude.settle, hconclude.quiet, hconclude.override, fun k => ?_, hconclude.keys, hans⟩
  have hdriven : t.screen k = u.drivenRecord k :=
    ht ▸ Part.conclude_driven ((Part.walkInReady_eq (by simp [hu]) (by simp [hu])).trans hready) k
  obtain ⟨-, hshown, hdrives, -⟩ := Part.drivenRecord_fields u k
  rw [hdriven, hdrives, hshown, Part.drivenBy, hend.override]
  rfl

theorem completes_settle {s : State} (hstage : s.part.pln.stage = .running)
    (hsettles : s.part.pwu.power = .waking ∧ 4 ≤ s.part.pwu.settle) :
    Completes .settleComplete s fun t =>
      t.pwu.power = .active ∧ t.pwu.settle = 0 ∧ (∀ q, (t.port q).flags &&& 256 ≠ 0) := by
  obtain ⟨hpower, hsettle⟩ := hsettles
  refine completes_onEvent (f := Part.settleComplete) rfl ?_
  rw [Part.event_unheld (Part.isHeld_running hstage), Part.settleComplete_ends hstage hpower hsettle]
  set u := s.part.withPwu { s.part.pwu with settle := 0 } with hu
  have hpwu : (Part.conclude s.part u.enterActive).pwu = u.enterActive.pwu := by simp
  have hcount : u.enterActive.pwu.settle = 0 := by simp [hu]
  have hinactive : u.pwu.power ≠ .active := by simp [hu, hpower]
  rw [hpwu]
  exact ⟨Part.enterActive_power u, hcount, fun q => Part.conclude_flag (Part.enterActive_flag hinactive q)⟩

end Sys2Proof.Machine
end

section
/-! A sensing frame in STANDBY: the proximity channels alone are measured, and one that becomes active wakes the part when
proximity wake is enabled (R20, R41, R201). -/

namespace Sys2Proof.Machine

namespace Part

variable {p q t : Part} {c d : ChannelId} {i : SeatId} {cause : ReportCause} {out : List SfeOut}
variable {readings : List Nat} {first : List ChannelId} {timersFirst : Bool}

/-! ### A part that sleeps, and one that a report has woken -/

/-- A part in STANDBY as another one, with the wake's enable and the key channels' states of that one. -/
structure Asleep (p q : Part) : Prop where
  power : q.pwu.power = .standby
  enable : q.pwu.proximityWake = p.pwu.proximityWake
  keys : ∀ j, (q.channel (keyChannel j)).state = (p.channel (keyChannel j)).state

theorem Asleep.later (h : Asleep p q) (hpower : t.pwu.power = q.pwu.power) (henable : t.pwu.proximityWake = q.pwu.proximityWake)
    (hkeys : ∀ j, t.channel (keyChannel j) = q.channel (keyChannel j)) : Asleep p t :=
  ⟨hpower.trans h.power, henable.trans h.enable, fun j => by rw [hkeys, h.keys]⟩

/-- A part woken, with the POWER notice of the wake. -/
structure Roused (p q : Part) : Prop where
  woken : Woken p q
  flags : ∀ a, (q.notices a).1 &&& 256 ≠ 0

theorem Asleep.wake (h : Asleep p q) : Roused p q.wake := ⟨woken_wake h.power h.keys, wake_flag h.power⟩

/-- In the frame the part sleeps, or a report has roused it where proximity wake is enabled. -/
def Drowses (p q : Part) : Prop := Asleep p q ∨ (p.pwu.proximityWake = true ∧ Roused p q)

theorem Drowses.asleep (h : Drowses p q) (hdisabled : p.pwu.proximityWake = false) : Asleep p q := by
  obtain h | ⟨henabled, -⟩ := h
  · exact h
  · simp [hdisabled] at henabled

/-- An operation that can at most clear the quiet timer, raise notices and change what neither the wake nor the key channels
hold. -/
structure Unstirring (q t : Part) : Prop where
  power : t.pwu.power = q.pwu.power
  settle : t.pwu.settle = q.pwu.settle
  quiet : t.pwu.quiet = q.pwu.quiet ∨ t.pwu.quiet = 0
  enable : t.pwu.proximityWake = q.pwu.proximityWake
  override : t.rtu.override = q.rtu.override
  keys : ∀ j, t.channel (keyChannel j) = q.channel (keyChannel j)
  grows : NoticesGrow q.notices t.notices

namespace Unstirring

theorem roused (h : Unstirring q t) (hq : Roused p q) : Roused p t :=
  ⟨hq.woken.later h.power h.settle h.quiet h.override h.keys, fun a => h.grows.flag (hq.flags a)⟩

theorem drowses (h : Unstirring q t) (hq : Drowses p q) : Drowses p t :=
  hq.imp (fun hsleeps => hsleeps.later h.power h.enable h.keys) fun ⟨henabled, hroused⟩ => ⟨henabled, h.roused hroused⟩

theorem setChannel (h : ∀ j, c ≠ keyChannel j) (q : Part) (x : Channel) : Unstirring q (q.setChannel c x) :=
  ⟨by simp, by simp, .inl (by simp), by simp, by simp, fun j => by simp [(h j).symm], by simp⟩

theorem noticeCause (q : Part) (a : Category) (m : Cause) : Unstirring q (q.noticeCause a m) :=
  ⟨by simp, by simp, .inl (by simp), by simp, by simp, fun j => congrFun (channel_eq (by simp)) _, by simp⟩

theorem changePresence_quiet (q : Part) (i : SeatId) (y : Presence) (n : Nat) :
    (q.changePresence i y n).pwu.quiet = q.pwu.quiet ∨ (q.changePresence i y n).pwu.quiet = 0 := by
  by_cases hsame : y = (q.seat i).presence
  · rw [changePresence_same hsame]
    exact .inl (by simp)
  · have hpwu : (q.presenceChanged i y n).pwu = q.pwu := by
      simp only [presenceChanged]
      split <;> simp
    rw [changePresence_eq hsame]
    by_cases hcount : (q.presenceChanged i y n).occupiedSeats = (q.presenceChanged i y n).smn.occupied
    · rw [updateCount_same hcount]
      exact .inl (congrArg Pwu.quiet hpwu)
    · have htaken (r : Part) : r.countTaken.pwu.quiet = r.pwu.quiet ∨ r.countTaken.pwu.quiet = 0 := by
        unfold countTaken
        split
        · exact .inr rfl
        · exact .inl rfl
      have hchanged (r : Part) (old : Nat) (before : Part) : (Part.concludeDwell before (r.occupiedChanged old)).pwu = r.pwu := by simp
      rw [updateCount_changed hcount, hchanged, ← congrArg Pwu.quiet hpwu]
      exact htaken _

theorem proximityReport (q : Part) (i : SeatId) (o : Sensed) : Unstirring q (q.proximityReport i o) :=
  ⟨by simp, by simp, changePresence_quiet q i _ _, by simp, by simp, fun j => congrFun (channel_eq (by simp)) _,
    proximityReport_grows (.refl _) i o⟩

end Unstirring

/-! ### The reports of a frame (R45, R201) -/

theorem report_seat (hkind : kindOf c = .proximity) (q : Part) (o : Sensed) (cause : ReportCause) :
    q.report c o cause = if o = .active ∧ q.pwu.proximityWake = true then (q.proximityReport (seatOf c) o).wake
      else q.proximityReport (seatOf c) o := by
  simp only [report, hkind]

theorem roused_report (hkind : kindOf c = .proximity) (h : Roused p q) (o : Sensed) (cause : ReportCause) :
    Roused p (q.report c o cause) := by
  have hreport := (Unstirring.proximityReport q (seatOf c) o).roused h
  rw [report_seat hkind]
  split
  · rw [wake_awake hreport.woken.awake]
    exact hreport
  · exact hreport

theorem drowses_report (hkind : kindOf c = .proximity) (h : Drowses p q) (o : Sensed) (cause : ReportCause) :
    Drowses p (q.report c o cause) := by
  obtain hsleeps | ⟨henabled, hroused⟩ := h
  · have hreport := (Unstirring.proximityReport q (seatOf c) o).drowses (p := p) (.inl hsleeps)
    rw [report_seat hkind]
    split
    next hwakes =>
      have henabled : p.pwu.proximityWake = true := hsleeps.enable ▸ hwakes.2
      obtain hreport | ⟨-, hreport⟩ := hreport
      · exact .inr ⟨henabled, hreport.wake⟩
      · rw [wake_awake hreport.woken.awake]
        exact .inr ⟨henabled, hreport⟩
    · exact hreport
  · exact .inr ⟨henabled, roused_report hkind hroused o cause⟩

/-- An active report rouses a part whose proximity wake is enabled (R201). -/
theorem roused_active (hkind : kindOf c = .proximity) (henabled : p.pwu.proximityWake = true) (h : Drowses p q)
    (cause : ReportCause) : Roused p (q.report c .active cause) := by
  obtain hsleeps | ⟨-, hroused⟩ := h
  · have hreport := Unstirring.proximityReport q (seatOf c) .active
    rw [report_seat hkind, if_pos ⟨rfl, hsleeps.enable.trans henabled⟩]
    exact (hsleeps.later hreport.power hreport.enable hreport.keys).wake
  · exact roused_report hkind hroused _ _

theorem roused_sendOut (hkind : kindOf c = .proximity) (h : Roused p q) (out : List SfeOut) : Roused p (q.sendOut c out) := by
  refine foldl_invariant (P := Roused p) (fun q o hq => ?_) out q h
  cases o with
  | notice m => exact (Unstirring.noticeCause q .sense m).roused hq
  | report o cause => exact roused_report hkind hq o cause

theorem drowses_sendOut (hkind : kindOf c = .proximity) (h : Drowses p q) (out : List SfeOut) : Drowses p (q.sendOut c out) := by
  refine foldl_invariant (P := Drowses p) (fun q o hq => ?_) out q h
  cases o with
  | notice m => exact (Unstirring.noticeCause q .sense m).drowses hq
  | report o cause => exact drowses_report hkind hq o cause

theorem roused_sendOut_active (hkind : kindOf c = .proximity) (henabled : p.pwu.proximityWake = true) (h : Drowses p q)
    (hout : reportsOf out = [(.active, cause)]) : Roused p (q.sendOut c out) := by
  induction out generalizing q with
  | nil => simp [reportsOf] at hout
  | cons o out ih =>
    cases o with
    | notice m => exact ih ((Unstirring.noticeCause q .sense m).drowses h) hout
    | report o' cause' =>
      simp only [reportsOf, List.cons.injEq, Prod.mk.injEq] at hout
      obtain ⟨⟨rfl, rfl⟩, -⟩ := hout
      exact roused_sendOut hkind (roused_active hkind henabled h _) out

/-! ### The frame (R20, R41) -/

theorem ne_keyChannel (h : kindOf c ≠ .key) (j : SeatId) : c ≠ keyChannel j := by
  rintro rfl
  exact h (kindOf_keyChannel j)

/-- A seat's channel is a key channel or a proximity channel (R15). -/
theorem kindOf_seat (h : c.val ≠ 40) : kindOf c = .key ∨ kindOf c = .proximity := by
  simp only [kindOf, if_neg h]
  split
  · exact .inl rfl
  · exact .inr rfl

theorem channelFrame_key (hkind : kindOf c = .key) (change : Int) (q : Part) : channelFrame true change readings q c = q := by
  simp [channelFrame, isMeasured, hkind]

theorem roused_channelFrame (hc : c.val ≠ 40) (h : Roused p q) (change : Int) : Roused p (channelFrame true change readings q c) := by
  obtain hkind | hkind := kindOf_seat hc
  · rwa [channelFrame_key hkind]
  · simp only [channelFrame]
    split
    · exact roused_sendOut hkind ((Unstirring.setChannel (ne_keyChannel (by simp [hkind])) q _).roused h) _
    · exact h

theorem drowses_channelFrame (hc : c.val ≠ 40) (h : Drowses p q) (change : Int) :
    Drowses p (channelFrame true change readings q c) := by
  obtain hkind | hkind := kindOf_seat hc
  · rwa [channelFrame_key hkind]
  · simp only [channelFrame]
    split
    · exact drowses_sendOut hkind ((Unstirring.setChannel (ne_keyChannel (by simp [hkind])) q _).drowses h) _
    · exact h

/-- No press timer counts a frame of STANDBY (R55, R56). -/
theorem holdingSeats_standby (p : Part) : p.holdingSeats true = [] := by
  simp [holdingSeats, isMeasured, kindOf_keyChannel]

theorem drowses_reference (p : Part) (hpower : p.pwu.power = .standby) (r : ChanResult) : Drowses p (p.putChannel 40 r) := by
  have hset := (Unstirring.setChannel (c := 40) (ne_keyChannel (by decide)) p r.1).drowses (p := p) (.inl ⟨hpower, rfl, fun _ => rfl⟩)
  refine foldl_invariant (P := Drowses p) (fun q o hq => ?_) r.2 _ hset
  cases o with
  | notice m => exact (Unstirring.noticeCause q .sense m).drowses hq
  | report o cause => exact hq

/-- A frame of STANDBY is the reference update and those of the seats' channels. -/
theorem sensingFrame_standby (hstage : p.pln.stage = .running) (hpower : p.pwu.power = .standby) :
    p.sensingFrame readings first timersFirst = (takenOrder first seatChannels).foldl
      (channelFrame true (p.refFramed readings true).2 readings) (p.putChannel 40 (p.refFramed readings true).1) := by
  have hpln : ((takenOrder first seatChannels).foldl (channelFrame true (p.refFramed readings true).2 readings)
      (p.putChannel 40 (p.refFramed readings true).1)).pln = p.pln := by
    rw [foldl_pln (fun q d => by simp)]
    simp
  have hend (t : Part) (ht : t.pln = p.pln) : t.startUpTest.settleFrame false = t := by
    rw [startUpTest_running (by rw [ht, hstage])]
    simp [settleFrame]
  have hpresses (t : Part) (n : Nat) : t.countPresses n [] = t := rfl
  rw [← hend _ hpln]
  simp only [sensingFrame, hpower, decide_true, holdingSeats_standby, hpresses, ite_self]
  simp [refFramed]

/-- What the update of every seat's channel keeps, the updates of a list of them keep. -/
theorem foldl_channels {P : Part → Prop} {change : Int} {l : List ChannelId}
    (hstep : ∀ {q : Part} {d : ChannelId}, d.val ≠ 40 → P q → P (channelFrame true change readings q d))
    (hl : ∀ d ∈ l, d.val ≠ 40) (h : P q) : P (l.foldl (channelFrame true change readings) q) := by
  induction l generalizing q with
  | nil => exact h
  | cons d l ih => exact ih (fun e he => hl e (by simp [he])) (hstep (hl d (by simp)) h)

theorem sensingFrame_drowses (hstage : p.pln.stage = .running) (hpower : p.pwu.power = .standby) :
    Drowses p (p.sensingFrame readings first timersFirst) := by
  rw [sensingFrame_standby hstage hpower]
  exact foldl_channels (fun hd hq => drowses_channelFrame hd hq _) (fun d hd => mem_seatChannels.mp (mem_takenOrder.mp hd))
    (drowses_reference p hpower _)

/-- The frame that takes a proximity channel to ACTIVE rouses a part whose proximity wake is enabled (R24, R201). -/
theorem sensingFrame_roused (hstage : p.pln.stage = .running) (hpower : p.pwu.power = .standby)
    (henabled : p.pwu.proximityWake = true)
    (hreports : ∀ change, reportsOf (p.framed readings true change (proximityChannel i)).2 = [(.active, cause)])
    (hoff : (p.channel (proximityChannel i)).state ≠ .off) : Roused p (p.sensingFrame readings first timersFirst) := by
  have hkind := kindOf_proximityChannel i
  obtain ⟨before, after, hsplit⟩ := List.append_of_mem
    (mem_takenOrder.mpr (mem_seatChannels.mpr (proximityChannel_val i)) : proximityChannel i ∈ takenOrder first seatChannels)
  have hnodup := nodup_takenOrder first nodup_seatChannels
  have hval : ∀ d ∈ takenOrder first seatChannels, d.val ≠ 40 := fun d hd => mem_seatChannels.mp (mem_takenOrder.mp hd)
  rw [hsplit] at hnodup hval
  have hbefore : proximityChannel i ∉ before := fun hin => (List.nodup_append.mp hnodup).2.2 _ hin _ (by simp) rfl
  have hne : (40 : ChannelId) ≠ proximityChannel i := fun h => proximityChannel_val i (by rw [← h]; rfl)
  rw [sensingFrame_standby hstage hpower, hsplit, List.foldl_append, List.foldl_cons]
  set change := (p.refFramed readings true).2
  have hkept := (channelKept_putChannel hne p (p.refFramed readings true).1).trans (channelKept_foldl hbefore true change readings _)
  have hdrowses : Drowses p (before.foldl (channelFrame true change readings) (p.putChannel 40 (p.refFramed readings true).1)) :=
    foldl_channels (fun hd hq => drowses_channelFrame hd hq _) (fun d hd => hval d (by simp [hd])) (drowses_reference p hpower _)
  refine foldl_channels (fun hd hq => roused_channelFrame hd hq _) (fun d hd => hval d (by simp [hd])) ?_
  generalize before.foldl (channelFrame true change readings) (p.putChannel 40 (p.refFramed readings true).1) = q at *
  have hframed : q.framed readings true change (proximityChannel i) = p.framed readings true change (proximityChannel i) :=
    hkept.framed (.inl (by simp [hkind])) true change
  have hmeasured : q.isMeasured true (proximityChannel i) = true := by
    simp [isMeasured, hkept.off, hoff, hkind]
  simp only [channelFrame, hmeasured, if_true]
  refine roused_sendOut_active (cause := cause) hkind henabled
    ((Unstirring.setChannel (ne_keyChannel (by simp [hkind])) q _).drowses hdrowses) ?_
  rw [← framed.eq_1, hframed]
  exact hreports change

end Part

theorem completes_frameAsleep {readings : List Nat} {first : List ChannelId} {timersFirst : Bool} {i : SeatId} {s : State}
    (hrun : s.part.pln.stage = .running ∧ s.part.pwu.power = .standby)
    (henters : EntersActive s.part readings (Part.proximityChannel i) 200) :
    Completes (.sensingFrame readings first timersFirst) s fun t =>
      (s.part.pwu.proximityWake = true →
        t.pwu.power = .waking ∧ t.pwu.settle = 0 ∧ t.pwu.quiet = 0 ∧ t.rtu.override = false ∧
        (∀ j, (s.part.channel (Part.keyChannel j)).state ≠ .off → (t.channel (Part.keyChannel j)).firstWake = true) ∧
        (∀ q, (t.port q).flags &&& 256 ≠ 0)) ∧
      (s.part.pwu.proximityWake = false → t.pwu.power = .standby) := by
  obtain ⟨hstage, hpower⟩ := hrun
  obtain ⟨⟨hstate, hcount, hdelta⟩, hlimit⟩ := henters
  refine completes_onEvent (f := fun p => p.sensingFrame readings first timersFirst) rfl ?_
  rw [Part.event_unheld (Part.isHeld_running hstage)]
  refine ⟨fun henabled => ?_, fun hdisabled => ?_⟩
  · have hreports (change : Int) :
        reportsOf (s.part.framed readings true change (Part.proximityChannel i)).2 = [(.active, .debounce)] :=
      updateChannel_enters hstate hcount hdelta hlimit
    have hroused : Part.Roused s.part (s.part.sensingFrame readings first timersFirst) :=
      Part.sensingFrame_roused hstage hpower henabled hreports (by simp [hstate])
    have hwoken := hroused.woken.conclude s.part
    exact ⟨hwoken.power, hwoken.settle, hwoken.quiet, hwoken.override, hwoken.keys, fun q => Part.conclude_flag (hroused.flags q)⟩
  · have hasleep := (Part.sensingFrame_drowses (readings := readings) (first := first) (timersFirst := timersFirst) hstage
      hpower).asleep hdisabled
    have hpwu : (Part.conclude s.part (s.part.sensingFrame readings first timersFirst)).pwu =
        (s.part.sensingFrame readings first timersFirst).pwu := by simp
    rw [hpwu, hasleep.power]

end Sys2Proof.Machine
end

section
/-! Settling O27: the wake (R123, R124, R201, R202). -/

namespace Sys2Proof.Machine

namespace Part

variable {p : Part} {k : SocketId} {ticks levelHeld : Nat} {overflowFirst : Bool} {x : Socket}

/-! ### A socket in STANDBY (R123, R124) -/

theorem takeEdge_stopped (h : p.capturing k = false) (e : Edge) : p.takeEdge k e ticks levelHeld overflowFirst = p := by
  simp [takeEdge, h]

/-- A change that takes a socket inside the wake mask live wakes the part (R124, R199, R201). -/
theorem handSource_wakes {old : Socket} (hpower : p.pwu.power = .standby) (hmask : p.inMask k = true)
    (hold : socketLive old = false) (hnew : x.state = .live) :
    ∃ q, p.handSource k old x = q.wake ∧ Asleep p q := by
  have hlive : socketLive x = true := by simp [socketLive, hnew]
  have hstate : old.state ≠ x.state := by
    intro h
    simp [socketLive, h, hnew] at hold
  refine ⟨((p.notice .source).setRoutable (markIndex k) (routableAfter x (p.rtu.routable.get (markIndex k)))).clearQuiet, ?_, ?_⟩
  · have hkept : (((p.notice .source).setRoutable (markIndex k) (routableAfter x (p.rtu.routable.get (markIndex k)))).clearQuiet).inMask
        k = true := by
      rw [← hmask]
      simp [inMask]
    simp only [handSource, hstate, false_and, if_false, hlive, hold, hkept]
    rfl
  · refine ⟨?_, ?_, fun j => congrArg Channel.state (congrFun (channel_eq ?_) _)⟩ <;> simp [hpower]

/-- The active edge that ends a period hands the measured socket on (R114). -/
theorem takeEdge_hands (hcapturing : p.capturing k = true) (hticks : (p.socket k).counter + ticks < 65535)
    (h : edgeTaken (p.socket k) (p.socket k).edge levelHeld) (hphase : (p.socket k).phase = .waitActive) :
    p.takeEdge k (p.socket k).edge ticks levelHeld overflowFirst =
      (p.setSocket k (edgeSeen (p.socket k) (p.socket k).edge ticks)).putSocket k
        (sourceStep p.scu.agree p.scu.drop (p.measured k ticks)
          (.measurement (classify p.scu.rates (p.socket k).width ((p.socket k).counter + ticks)).1)) := by
  have hacts : (p.setSocket k (edgeSeen (p.socket k) (p.socket k).edge ticks)).edgeActs k ((p.socket k).edge = (p.socket k).edge) =
      (p.setSocket k (edgeSeen (p.socket k) (p.socket k).edge ticks)).putSocket k
        (sourceStep p.scu.agree p.scu.drop (p.measured k ticks)
          (.measurement (classify p.scu.rates (p.socket k).width ((p.socket k).counter + ticks)).1)) := by
    simp [edgeActs, edgeSeen, hphase, measure, captureEvent, measured]
  have hcounter := (sourceStep_measurement p.scu.agree p.scu.drop (p.measured k ticks)
    (classify p.scu.rates (p.socket k).width ((p.socket k).counter + ticks)).1).2.1
  rw [takeEdge_taken hcapturing hticks h, hacts, lateOverflow_early]
  rw [putSocket_socket_self, hcounter]
  simp [measured]

end Part

theorem completes_edgeWakes {k : SocketId} {ticks levelHeld : Nat} {overflowFirst : Bool} {s : State}
    (hrun : s.part.pln.stage = .running ∧ s.part.pwu.power = .standby) (hmask : s.part.inMask k = true)
    (henable : (s.part.socket k).enable = true) (hphase : (s.part.socket k).phase = .waitActive)
    (hticks : (s.part.socket k).counter + ticks < 65535)
    (hedge : Part.edgeTaken (s.part.socket k) (s.part.socket k).edge levelHeld)
    (hlive : ((s.part.socket k).state = .none ∧ s.part.scu.agree ≤ 1) ∨
      ((s.part.socket k).state = .seeking ∧ s.part.scu.agree ≤ (s.part.socket k).agree + 1 ∧
        (s.part.socket k).cls = (classify s.part.scu.rates (s.part.socket k).width ((s.part.socket k).counter + ticks)).1)) :
    Completes (.edgeTaken k (s.part.socket k).edge ticks levelHeld overflowFirst) s fun t =>
      (t.socket k).state = .live ∧ t.pwu.power = .waking ∧ t.pwu.settle = 0 ∧ t.pwu.quiet = 0 ∧
        t.rtu.override = false ∧ (∀ q, (t.port q).flags &&& 256 ≠ 0) := by
  obtain ⟨hstage, hpower⟩ := hrun
  have hcapturing : s.part.capturing k = true := by simp [Part.capturing, henable, hstage, hmask]
  refine completes_onEvent (f := fun p => p.takeEdge k (s.part.socket k).edge ticks levelHeld overflowFirst) rfl ?_
  rw [Part.event_unheld (Part.isHeld_running hstage), Part.takeEdge_hands hcapturing hticks hedge hphase]
  set c := (classify s.part.scu.rates (s.part.socket k).width ((s.part.socket k).counter + ticks)).1
  set y := sourceStep s.part.scu.agree s.part.scu.drop (s.part.measured k ticks) (.measurement c) with hy
  have hgoes : y.state = .live := by
    obtain ⟨hnone, hagree⟩ | ⟨hseeking, hagree, hsame⟩ := hlive
    · have hmeasured : (s.part.measured k ticks).state = .none := hnone
      simp only [hy, sourceStep, hmeasured, seek, if_pos hagree]
    · have hmeasured : (s.part.measured k ticks).state = .seeking := hseeking
      have hclass : c = (s.part.measured k ticks).cls := hsame.symm
      have hcount : s.part.scu.agree ≤ (s.part.measured k ticks).agree + 1 := hagree
      simp only [hy, sourceStep, hmeasured, if_pos hclass, if_pos hcount]
  set u := s.part.setSocket k (Part.edgeSeen (s.part.socket k) (s.part.socket k).edge ticks) with hu
  have hold : Part.socketLive (u.socket k) = false := by
    have hstate : (u.socket k).state = (s.part.socket k).state := by simp [hu, Part.edgeSeen]
    obtain ⟨h, -⟩ | ⟨h, -⟩ := hlive <;> simp [Part.socketLive, hstate, h]
  have hasleep : Part.Asleep s.part (u.setSocket k y) := by
    refine ⟨?_, ?_, fun j => congrArg Channel.state (congrFun (Part.channel_eq ?_) _)⟩ <;> simp [hu, hpower]
  obtain ⟨q, hwake, hq⟩ := Part.handSource_wakes (p := u.setSocket k y) (k := k) (old := u.socket k) hasleep.power
    (by rw [← hmask]; simp [Part.inMask, hu]) hold hgoes
  have hroused : Part.Roused (u.setSocket k y) (u.putSocket k y) := by
    rw [Part.putSocket, hwake]
    exact hq.wake
  have hwoken := hroused.woken.conclude s.part
  refine ⟨?_, hwoken.power, hwoken.settle, hwoken.quiet, hwoken.override, fun a => Part.conclude_flag (hroused.flags a)⟩
  rw [Part.conclude_socket, Part.putSocket_socket_self, hgoes]

/-- Settles O27: each cause calls the wake of R201 and nothing later in its event undoes it; the settle ends in R198's entry. -/
theorem partWakes : Obligations.PartWakes := by
  unfold Obligations.PartWakes
  refine ⟨fun q tag s ⟨hstage, hpower⟩ hfree => completes_clockWakes hstage hpower hfree,
    fun s hstage hsettles => completes_settle hstage hsettles, fun readings first timersFirst i c s hrun ⟨hc, _⟩ henters => ?_,
    fun k ticks levelHeld overflowFirst s hrun hset => ⟨fun hmask => ?_, fun hmask henable hphase hticks hfilter hlast hlive =>
      completes_edgeWakes hrun hmask henable hphase hticks ⟨hfilter, hlast⟩ hlive⟩,
    fun first p s hrun ⟨hsecond, hstaging, hp⟩ => ?_⟩
  · subst hc
    exact completes_frameAsleep hrun henters
  · obtain ⟨hstage, hpower⟩ := hrun
    have hstopped : s.part.capturing k = false := by simp [Part.capturing, hpower, hmask]
    refine completes_onEvent (f := fun p => p.takeEdge k (s.part.socket k).edge ticks levelHeld overflowFirst) rfl ?_
    rw [Part.event_unheld (Part.isHeld_running hstage), Part.takeEdge_stopped hstopped]
    exact Part.sameBut_conclude_settled hset rfl rfl rfl
  · subst hp
    exact completes_minuteAsleep hrun hsecond.ge hstaging

end Sys2Proof.Machine
end
